-- ==== Sys2Proof/Word.lean ====
section
/-! DEFINITION. The words of the register space: 32-bit registers (R8), 64-bit pairs (R60) and bytes. -/
namespace Sys2Proof

/-- A 32-bit register of the register space (R8). -/
abbrev Word := BitVec 32

/-- The smallest addressable unit of the memories. -/
abbrev Byte := BitVec 8

/-- A table by number in one canonical form: keys strictly rising, and no entry equal to what an unlisted key
reads as.  An unlisted key reads as the table's default, which each table names. -/
abbrev Tab (α : Type) := List (Nat × α)

end Sys2Proof
end

