-- ==== Sys2Proof/Config.lean ====
section
/-! DEFINITION. What an implementation fixes and the values the manual leaves open.  Each `opaque` constant has no
body: nothing can be proved of its value, so a claim about it holds whatever it is. -/
namespace Sys2Proof.Config

/-- The column of data bit `i` in the check code of a DRAM word (R163, assumption 119). -/
opaque dataColumn : Nat → BitVec 8

/-- The column of word-address bit `i` in the check code of a DRAM word (R163, assumption 119). -/
opaque addrColumn : Nat → BitVec 8

/-- A fresh open word, by the number of open values drawn before it (assumption 3). -/
opaque freeWord : Nat → BitVec 64

/-- Where the manual states no rounding: does the upper of the two neighbouring numbers stand for an exact value between
them?  By the place that rounds it and the value (assumption 30). -/
opaque roundUp : Nat → Rat → Bool

/-- Tap `k` from the middle of the compensation FIR of PAD for SINCN `n`, in 2^-38 (R227, assumption 125). -/
opaque firTap : Nat → Nat → BitVec 40

/-- A value half a sample before the newest of those given, in the 40-bit scale of PAD (R228, assumption 125). -/
opaque halfSample : List Int → Rat

/-- The state of a mains detector after one more value of its channels, with MDnCFG.THREE (R90, R225, assumption 125). -/
opaque mdStep : Bool → BitVec 64 → List Int → BitVec 64

/-- What a mains detector measures in a state: phase, frequency in mHz and amplitude in per mille (R90, assumption 125). -/
opaque mdPhase : BitVec 64 → BitVec 32
opaque mdFreq : BitVec 64 → BitVec 32
opaque mdAmp : BitVec 64 → BitVec 32

/-- The angle in degrees of the pair of zeros (assumption 30). -/
opaque argZero : Int

/-- A reset rate of R270 beyond the words of its curve: table and M (assumption 30). -/
opaque rateBeyond : Nat → Rat → Rat

/-- The number that a NaN word counts as where an element compares it (assumption 31). -/
opaque nanReads : Nat → Rat

/-- The payload of a NaN that an operation makes (assumption 31). -/
opaque nanBits : BitVec 22

/-- The decimal text of a number in an exported file: 0 a binary32 word, 1 the serial number, 2 a frequency in mHz
given in Hz (assumption 44). -/
opaque numText : Nat → Nat → List (BitVec 8)

/-- SHA-384 of a byte string (assumption 78). -/
opaque sha384 : List Nat → BitVec 384

/-- Does ECDSA P-384 with SHA-384 accept: public key, signature, message (assumption 78)? -/
opaque ecdsaOk : List Nat → List Nat → List Nat → Bool

/-- Does a key whose hash is among those given sign the message: key hashes, signature, message (R566, assumption 78)? -/
opaque tokenOk : List Nat → List Nat → List Nat → Bool

/-- HMAC-SHA-256 under a key over a byte string (assumption 78). -/
opaque hmacSha256 : List Nat → List Nat → BitVec 256

/-- The per-module key that slot 0 holds at delivery (R554). -/
opaque moduleKey : BitVec 256

end Sys2Proof.Config
end

