-- ==== Sys2Proof/Machine/Bits.lean ====
section
/-! DEFINITION. Bit fields, signed readings, saturation and the tables by number: the plain helpers every block uses.
A field [hi:lo] is written as the manual writes it. -/
namespace Sys2Proof.Machine

/-- The field [hi:lo] of `n`. -/
def nf (n hi lo : Nat) : Nat := n / 2 ^ lo % 2 ^ (hi + 1 - lo)

/-- Bit `i` of `n`. -/
def nb (n i : Nat) : Bool := n / 2 ^ i % 2 == 1

/-- `n` with the field [hi:lo] replaced by the low bits of `v`. -/
def nput (n hi lo v : Nat) : Nat :=
  n - nf n hi lo * 2 ^ lo + v % 2 ^ (hi + 1 - lo) * 2 ^ lo

/-- 1 for true, 0 for false. -/
def b2n (b : Bool) : Nat := if b then 1 else 0

/-- `n` with bit `i` set to `b`. -/
def nputb (n i : Nat) (b : Bool) : Nat := nput n i i (b2n b)

/-- The two's complement reading of the low `w` bits of `n`. -/
def sx (w n : Nat) : Int :=
  let m := n % 2 ^ w
  if m < 2 ^ (w - 1) then (m : Int) else (m : Int) - (2 ^ w : Nat)

/-- The low `w` bits of an integer, in two's complement. -/
def toBits (w : Nat) (i : Int) : Nat := (i % (2 ^ w : Nat)).toNat

/-- Addition that stops at `top`. -/
def satAdd (top a b : Nat) : Nat := min top (a + b)

/-- An integer held between two bounds. -/
def clampInt (lo hi i : Int) : Int := if i < lo then lo else if hi < i then hi else i

/-- Floor division by a positive number, 0 where the divisor is 0. -/
def divRound (a b : Nat) : Nat := (a + b / 2) / b

/-- Division rounded up. -/
def divUp (a b : Nat) : Nat := (a + (b - 1)) / b

/-- The number of ones in the low `w` bits. -/
def popcount : Nat → Nat → Nat
  | 0, _ => 0
  | w + 1, n => n % 2 + popcount w (n / 2)

/-- The index of the lowest set bit below `w`, if any. -/
def lowestBit (w n : Nat) : Option Nat := (List.range w).find? (fun i => nb n i)

/-- The little-endian number spelled by bytes. -/
def fromBytes : List Nat → Nat
  | [] => 0
  | b :: t => b % 256 + 256 * fromBytes t

/-- `k` little-endian bytes of `n`. -/
def bytesOf : Nat → Nat → List Nat
  | 0, _ => []
  | k + 1, n => n % 256 :: bytesOf k (n / 256)

/-- The entry of a table, where one is listed. -/
def tabFind {α : Type} : Tab α → Nat → Option α
  | [], _ => none
  | (a, v) :: t, k => if a = k then some v else tabFind t k

/-- The entry of a table, the default where none is listed. -/
def tabGet {α : Type} (d : α) (t : Tab α) (k : Nat) : α := (tabFind t k).getD d

/-- The table without an entry for `k`. -/
def tabDel {α : Type} : Tab α → Nat → Tab α
  | [], _ => []
  | (a, v) :: t, k => if a = k then tabDel t k else (a, v) :: tabDel t k

/-- The table with a new entry put in its rising place. -/
def tabIns {α : Type} : Tab α → Nat → α → Tab α
  | [], k, v => [(k, v)]
  | (a, w) :: t, k, v => if k < a then (k, v) :: (a, w) :: t else (a, w) :: tabIns t k v

/-- The table after writing `v` at `k`: writing what an unlisted key reads as removes the entry. -/
def tabSet {α : Type} [DecidableEq α] (d : α) (t : Tab α) (k : Nat) (v : α) : Tab α :=
  if v = d then tabDel t k else tabIns (tabDel t k) k v

/-- A table changed at one key. -/
def tabMod {α : Type} [DecidableEq α] (d : α) (t : Tab α) (k : Nat) (f : α → α) : Tab α :=
  tabSet d t k (f (tabGet d t k))

/-- Keys strictly rising. -/
def rising {α : Type} : Tab α → Bool
  | [] => true
  | [_] => true
  | (a, _) :: (b, w) :: t => decide (a < b) && rising ((b, w) :: t)

/-- The canonical form of a table with default `d`. -/
def tabWf {α : Type} [DecidableEq α] (d : α) (t : Tab α) : Bool :=
  rising t && t.all (fun p => decide (p.2 ≠ d))

/-- Apply a step for each index below `n`, lowest first. -/
def forN {σ : Type} (n : Nat) (f : Nat → σ → σ) (s : σ) : σ :=
  (List.range n).foldl (fun a i => f i a) s

/-- Apply a step for each element of a list, first first. -/
def forL {σ α : Type} (l : List α) (f : α → σ → σ) (s : σ) : σ :=
  l.foldl (fun a x => f x a) s

/-- One step of a reflected CRC-32 register over one bit. -/
def crcBit32 (poly c : Nat) : Nat := if c % 2 = 1 then (c / 2) ^^^ poly else c / 2

/-- CRC-32C over bytes, with the parameters of R83 (reflected, initial value and final XOR all ones). -/
def crc32c (bs : List Nat) : Nat :=
  (bs.foldl (fun c b => (List.range 8).foldl (fun x _ => crcBit32 0x82F63B78 x) (c ^^^ (b % 256)))
    0xFFFFFFFF) ^^^ 0xFFFFFFFF

/-- CRC-16 with polynomial 0x1021, initial value 0xFFFF, no reflection and no final XOR (R47). -/
def crc16 (bs : List Nat) : Nat :=
  bs.foldl (fun c b => (List.range 8).foldl
    (fun x _ => if 0x8000 ≤ x then ((x * 2) ^^^ 0x1021) % 65536 else x * 2 % 65536) (c ^^^ (b % 256 * 256))) 0xFFFF

end Sys2Proof.Machine
end

