-- ==== Sys2Proof/Machine/Approx.lean ====
section
/-! DEFINITION. The real functions that the manual's formulas use (exp, log, sine, arc tangent, root), in fixed point
with 160 fraction bits, exact where the value is a short rational, else within 2^-100 of the true value (assumption 124). -/
namespace Sys2Proof.Machine

/-- A power of two. -/
def pow2 (e : Int) : Rat := if 0 ≤ e then ((2 ^ e.toNat : Nat) : Rat) else 1 / ((2 ^ (-e).toNat : Nat) : Rat)

/-- 1 in fixed point: an integer stands for itself times 2^-160. -/
abbrev fxOne : Int := 2 ^ 160

/-- A rational in fixed point, rounded down. -/
def fxOf (q : Rat) : Int := q.num * 2 ^ 160 / (q.den : Int)

/-- The rational that a fixed-point number stands for, to the nearest 2^-120. -/
def fxQ (x : Int) : Rat := mkRat ((x + 2 ^ 39) / 2 ^ 40) (2 ^ 120)

/-- A product in fixed point. -/
def fxMul (a b : Int) : Int := a * b / 2 ^ 160

/-- `k` terms of a series: the term `t` numbered `n`, and the rule for the next one. -/
def fxSum (step : Nat → Int → Int) : Nat → Nat → Int → Int
  | 0, _, _ => 0
  | k + 1, n, t => t + fxSum step k (n + 1) (step n t)

/-- A step done `k` times. -/
def timesDo {α : Type} (f : α → α) : Nat → α → α
  | 0, x => x
  | k + 1, x => timesDo f k (f x)

/-- The bits of an integer square root, highest first. -/
def isqrtGo (n : Nat) : Nat → Nat → Nat
  | 0, r => r
  | k + 1, r => isqrtGo n k (if (r + 2 ^ k) * (r + 2 ^ k) ≤ n then r + 2 ^ k else r)

/-- The integer square root of a number below 2^400. -/
def isqrt (n : Nat) : Nat := isqrtGo n 200 0

/-- A square root in fixed point. -/
def fxSqrt (x : Int) : Int := isqrt (x.toNat * 2 ^ 160)

/-- e^x in fixed point: a short argument's series, squared back. -/
def fxExp (x : Int) : Int :=
  let k := (x.natAbs / 2 ^ 152).log2 + 1
  timesDo (fun y => fxMul y y) k (fxSum (fun n t => fxMul t (x / (2 ^ k : Nat)) / ((n : Int) + 1)) 28 0 fxOne)

/-- The odd series of arctan (`g` = -1) or artanh (`g` = 1) at a small `z`. -/
def fxOdd (g z : Int) (k : Nat) : Int :=
  fxSum (fun n t => g * fxMul (fxMul t z) z * (2 * (n : Int) + 1) / (2 * (n : Int) + 3)) k 0 z

/-- ln 2. -/
def fxLn2 : Int := 2 * fxOdd 1 (fxOne / 3) 56

/-- The natural logarithm of a positive number in fixed point. -/
def fxLog (x : Int) : Int :=
  let e : Int := x.toNat.log2 - 160
  let m := if 0 ≤ e then x / 2 ^ e.toNat else x * 2 ^ (-e).toNat
  e * fxLn2 + 2 * fxOdd 1 ((m - fxOne) * 2 ^ 160 / (m + fxOne)) 56

/-- arctan of a number from 0 to 1: the argument's angle halved three times, then the series. -/
def fxAtan (z : Int) : Int :=
  8 * fxOdd (-1) (timesDo (fun t => t * 2 ^ 160 / (fxOne + fxSqrt (fxOne + fxMul t t))) 3 z) 30

/-- π. -/
abbrev fxPi : Int := 0x3243F6A8885A308D313198A2E03707344A4093822

/-- Cosine and sine of a small angle. -/
def fxTurnSmall (y : Int) : Int × Int :=
  let z := fxMul y y
  (fxSum (fun n t => -(fxMul t z) / ((2 * (n : Int) + 1) * (2 * (n : Int) + 2))) 24 0 fxOne,
   fxSum (fun n t => -(fxMul t z) / ((2 * (n : Int) + 2) * (2 * (n : Int) + 3))) 24 0 y)

/-- Cosine and sine of `t` turns, for `t` from 0 to 1/8. -/
def fxOctant (t : Rat) : Int × Int := if t = 0 then (fxOne, 0) else fxTurnSmall (fxMul (2 * fxPi) (fxOf t))

/-- Cosine and sine of `t` turns, alike on the symmetric points of the circle. -/
def cosSin (t : Rat) : Rat × Rat :=
  let f := t - (t.floor : Int)
  let q := (f * 4).floor
  let r := f - (q : Int) / 4
  let cs : Rat × Rat :=
    if r < 1 / 8 then (let x := fxOctant r; (fxQ x.1, fxQ x.2))
    else if r = 1 / 8 then (let h := fxQ (fxSqrt (fxOne / 2)); (h, h))
    else (let x := fxOctant (1 / 4 - r); (fxQ x.2, fxQ x.1))
  if q = 0 then cs else if q = 1 then (-cs.2, cs.1) else if q = 2 then (-cs.1, -cs.2) else (cs.2, -cs.1)

/-- e^q. -/
def expQ (q : Rat) : Rat := if q = 0 then 1 else fxQ (fxExp (fxOf q))

/-- ln q of a positive number. -/
def logQ (q : Rat) : Rat := if q = 1 then 0 else fxQ (fxLog (fxOf q))

/-- π as a rational. -/
def piQ : Rat := fxQ fxPi

/-- The angle in degrees of a pair, from -180 to 180; the pair of zeros has an open angle. -/
def argDeg (re im : Rat) : Rat :=
  let a := re.abs
  let b := im.abs
  let t (z : Rat) : Rat := fxQ (fxMul (fxAtan (fxOf z)) (180 * 2 ^ 160 * 2 ^ 160 / fxPi))
  let w : Rat :=
    if b = 0 then 0 else if a = 0 then 90 else if a = b then 45
    else if b < a then t (b / a) else 90 - t (a / b)
  let w := if re < 0 then 180 - w else w
  if a = 0 ∧ b = 0 then clampInt (-180) 180 Config.argZero else if im < 0 then -w else w

end Sys2Proof.Machine
end

