-- ==== Sys2Proof/Machine/Operands.lean ====
section
/-! DEFINITION. IEEE 754 operands and arithmetic of the protection engine, and roundings (R254, R265, R268).  A finite
number is its exact rational value, so every operation is exact and rounded once. -/
namespace Sys2Proof.Machine

/-- A binary format: precision with the hidden bit, and exponent bits. -/
structure Fmt where
  p : Nat
  w : Nat
deriving DecidableEq, Repr

abbrev b32 : Fmt := { p := 24, w := 8 }
abbrev b64 : Fmt := { p := 53, w := 11 }

/-- The value of a word of a format. -/
inductive FV where
  | nan
  | inf (neg : Bool)
  /-- A finite value; the sign is kept for zeros. -/
  | fin (neg : Bool) (v : Rat)
deriving DecidableEq, Repr

def Fmt.bias (f : Fmt) : Int := 2 ^ (f.w - 1) - 1

/-- The exponent of the last place of subnormal numbers. -/
def Fmt.emin (f : Fmt) : Int := 1 - f.bias - (f.p - 1 : Nat)

/-- The value that a word spells. -/
def Fmt.val (f : Fmt) (n : Nat) : FV :=
  let neg := nb n (f.p - 1 + f.w)
  let e := nf n (f.p - 2 + f.w) (f.p - 1)
  let m := n % 2 ^ (f.p - 1)
  let s : Rat := if neg then -1 else 1
  if e = 2 ^ f.w - 1 then (if m = 0 then .inf neg else .nan)
  else if e = 0 then .fin neg (s * (m : Nat) * pow2 f.emin)
  else .fin neg (s * ((m + 2 ^ (f.p - 1) : Nat) : Rat) * pow2 (f.emin + (e : Int) - 1))

/-- The largest power of two not above a positive rational. -/
def floorLog2 (q : Rat) : Int :=
  let e : Int := (q.num.toNat.log2 : Int) - q.den.log2
  if pow2 e ≤ q then e else e - 1

/-- The word of a value of at least 0 without its sign, rounded down, and what was cut off in units of its last place;
2^emax and above is an infinity. -/
def Fmt.trunc (f : Fmt) (q : Rat) : Nat × Rat :=
  if q ≤ 0 then (0, 0)
  else
    let le := floorLog2 q - (f.p - 1 : Nat)
    let qe := if le < f.emin then f.emin else le
    let x := q * pow2 (-qe)
    let w := (qe - f.emin).toNat * 2 ^ (f.p - 1) + x.floor.toNat
    let inf := (2 ^ f.w - 1) * 2 ^ (f.p - 1)
    if inf ≤ w then (inf, 0) else (w, x - x.floor)

/-- Round a value of at least 0 to nearest, ties to even; the result carries the given sign. -/
def Fmt.round (f : Fmt) (neg : Bool) (q : Rat) : Nat :=
  let t := f.trunc q
  b2n neg * 2 ^ (f.p - 1 + f.w) + t.1 + b2n (decide (1 / 2 < t.2) || (decide (t.2 = 1 / 2) && t.1 % 2 == 1))

/-- A word of the format for an exact value, rounded to nearest even. -/
def Fmt.ofRat (f : Fmt) (q : Rat) : Nat := f.round (decide (q < 0)) q.abs

/-- The finite value of a word, 0 for an infinity or a NaN. -/
def Fmt.rat (f : Fmt) (n : Nat) : Rat :=
  match f.val n with
  | .fin _ v => v
  | _ => 0

/-- The number that a word stands for in a formula or a comparison: an infinity lies beyond every finite number, and what a
NaN counts as is open (assumption 31). -/
def Fmt.num (f : Fmt) (n : Nat) : Rat :=
  match f.val n with
  | .fin _ v => v
  | .inf neg => if neg then -pow2 (2 ^ (f.w - 1)) else pow2 (2 ^ (f.w - 1))
  | .nan => Config.nanReads n

/-- Does a word spell a finite number? -/
def Fmt.finite (f : Fmt) (n : Nat) : Bool :=
  match f.val n with
  | .fin _ _ => true
  | _ => false

/-- Is the word finite and greater than 0? -/
def f32Pos (n : Nat) : Bool := b32.finite n && decide (0 < b32.rat n)

/-! ### Roundings that the manual does not state (assumption 30)

An exact value that is a number of the target is that number; of any other, `Config.roundUp` picks one of the two
neighbours. -/

/-- An exact value as an integer. -/
def openInt (tag : Nat) (q : Rat) : Int := if q.den = 1 then q.num else q.floor + b2n (Config.roundUp tag q)

/-- Round to the nearest integer; a tie is open. -/
def nearestInt (tag : Nat) (q : Rat) : Int :=
  if q.den = 2 then q.floor + b2n (Config.roundUp tag q) else (q + 1 / 2).floor

/-- An exact value as a word of a format. -/
def Fmt.near (f : Fmt) (q : Rat) : Nat :=
  let t := f.trunc q.abs
  b2n (decide (q < 0)) * 2 ^ (f.p - 1 + f.w) + t.1 + (if t.2 = 0 then 0 else b2n (Config.roundUp f.p q))

/-- An exact value as binary32, and as binary64. -/
def openB32 (q : Rat) : Nat := b32.near q
def openB64 (q : Rat) : Nat := b64.near q

/-! ### Square roots -/

/-- The square root of a positive rational to at least 149 bits; an inexact one lies half a unit above its floor. -/
def rootNear (q : Rat) : Rat × Bool :=
  let k := (300 - floorLog2 q) / 2
  let x := q * pow2 (2 * k)
  let r := isqrt x.floor.toNat
  if ((r * r : Nat) : Rat) = x then ((r : Nat) * pow2 (-k), true) else (((r : Nat) + 1 / 2) * pow2 (-k), false)

/-- The square root of a rational. -/
def rootQ (q : Rat) : Rat := if q ≤ 0 then 0 else (rootNear q).1

/-- A binary32 square root where the manual states no rounding. -/
def openRoot (q : Rat) : Nat := b32.near (rootQ q)

/-- The binary32 square root with rounding to nearest even, for ARITH (R265). -/
def sqrtB32 (q : Rat) : Nat := if q ≤ 0 then 0 else b32.round false (rootNear q).1

/-! ### ARITH and CMP (R264, R265) -/

/-- The NaN that an operation makes. -/
def nanB32 : Nat := 0x7FC00000 + Config.nanBits.toNat

/-- Infinity of a sign. -/
def infB32 (neg : Bool) : Nat := if neg then 0xFF800000 else 0x7F800000

/-- A sum of two words. -/
def addB32 (a b : Nat) : Nat :=
  match b32.val a, b32.val b with
  | .nan, _ => nanB32
  | _, .nan => nanB32
  | .inf x, .inf y => if x = y then infB32 x else nanB32
  | .inf x, _ => infB32 x
  | _, .inf y => infB32 y
  | .fin x u, .fin y v => if u + v = 0 then (if x && y then 0x80000000 else 0) else b32.ofRat (u + v)

/-- A word with its sign changed. -/
def negB32 (a : Nat) : Nat := nputb a 31 (!nb a 31)

/-- A product of two words. -/
def mulB32 (a b : Nat) : Nat :=
  match b32.val a, b32.val b with
  | .nan, _ => nanB32
  | _, .nan => nanB32
  | .inf x, .inf y => infB32 (x != y)
  | .inf x, .fin y v => if v = 0 then nanB32 else infB32 (x != y)
  | .fin x u, .inf y => if u = 0 then nanB32 else infB32 (x != y)
  | .fin x u, .fin y v => b32.round (x != y) (u * v).abs

/-- A quotient of two words; division by 0 gives 0, whatever is divided, and no valid result (R265). -/
def divB32 (a b : Nat) : Nat :=
  if b % 2 ^ 31 = 0 then 0
  else match b32.val a, b32.val b with
  | .nan, _ => nanB32
  | _, .nan => nanB32
  | .inf _, .inf _ => nanB32
  | .inf x, .fin y _ => infB32 (x != y)
  | .fin x _, .inf y => b32.round (x != y) 0
  | .fin x u, .fin y v => b32.round (x != y) (u / v).abs

/-- The order of two words, where neither is a NaN. -/
def ltB32 (a b : Nat) : Bool :=
  match b32.val a, b32.val b with
  | .nan, _ => false
  | _, .nan => false
  | .inf x, .inf y => x && !y
  | .inf x, .fin _ _ => x
  | .fin _ _, .inf y => !y
  | .fin _ u, .fin _ v => decide (u < v)

/-- Is a word a NaN? -/
def isNanB32 (a : Nat) : Bool := b32.val a == .nan

/-- The larger (or smaller) of two words. -/
def maxB32 (a b : Nat) : Nat := if isNanB32 a || isNanB32 b then nanB32 else if ltB32 a b then b else a
def minB32 (a b : Nat) : Nat := if isNanB32 a || isNanB32 b then nanB32 else if ltB32 b a then b else a

/-- The result of ARITH and whether the operation itself keeps it valid (R265). -/
def arithB32 (op a b : Nat) : Nat × Bool :=
  if op = 0 then (addB32 a b, true)
  else if op = 1 then (addB32 a (negB32 b), true)
  else if op = 2 then (mulB32 a b, true)
  else if op = 3 then (divB32 a b, b % 2 ^ 31 != 0)
  else if op = 4 then (maxB32 a b, true)
  else if op = 5 then (minB32 a b, true)
  else if op = 6 then (a % 2 ^ 31, true)
  else if op = 7 then
    (match b32.val a with
     | .nan => (nanB32, true)
     | .inf x => if x then (0, false) else (infB32 false, true)
     | .fin x v => if v < 0 then (0, false) else if v = 0 then (b2n x * 2 ^ 31, true) else (sqrtB32 v, true))
  else if op = 8 then (negB32 a, true)
  else (0, false)

/-- CMP on two words (R264): 0 >, 1 <, 2 ≥, 3 ≤. -/
def cmpB32 (op a b : Nat) : Bool :=
  if isNanB32 a || isNanB32 b then false
  else if op = 0 then ltB32 b a
  else if op = 1 then ltB32 a b
  else if op = 2 then !ltB32 a b
  else !ltB32 b a

end Sys2Proof.Machine
end

