-- ==== Sys2Proof/Machine/RegMap.lean ====
section
/-! DEFINITION. The register space as the page maps of the manual give it: for every page its rows (offset, how many,
how far apart, access, reset value, bits that exist), and the offset of every register by name.  A register is named by
its offset from 0x4000_0000: page * 0x1000 + offset. -/
namespace Sys2Proof.Machine

/-- The access codes of R8. -/
inductive Acc where
  | ro | rw | rws | rwl | w1c | wo | rc
deriving DecidableEq, Repr

/-- One row of a page map.  `n1`, `s1` and `n2`, `s2` say how many registers the row stands for and how far apart they
lie; `wide` marks a LO/HI pair of R60; `keep` marks a register whose reset value the page map gives as a source (fuse,
factory, FRAM, standby, calendar, journal), which R30 and a module reset leave as it is. -/
structure RegRow where
  ofs : Nat
  n1 : Nat
  s1 : Nat
  n2 : Nat
  s2 : Nat
  acc : Acc
  reset : Nat
  mask : Nat
  wide : Bool
  keep : Bool
deriving DecidableEq, Repr

/-- Page map of TEN page 0x008 (R34 R63). -/
def rows08 : List RegRow :=
  [
    ⟨0x040, 6, 4, 1, 4096, .rwl, 0x0, 0x8000FF0F, false, false⟩,
    ⟨0x058, 1, 4096, 1, 4096, .rwl, 0x0, 0xF, false, false⟩,
    ⟨0x05C, 1, 4096, 1, 4096, .ro, 0x0, 0x0, false, false⟩,
    ⟨0x060, 1, 4096, 1, 4096, .rwl, 0x0, 0xF1, false, false⟩,
    ⟨0x064, 1, 4096, 1, 4096, .rwl, 0x11111111, 0xFFFFFFFF, false, false⟩,
    ⟨0xC00, 1, 4096, 1, 4096, .wo, 0x0, 0x0, false, false⟩]

/-- Page map of TEN page 0x009 (R34 R63). -/
def rows09 : List RegRow :=
  [
    ⟨0x040, 128, 4, 1, 4096, .rwl, 0x0, 0xFFFFFFFF, false, false⟩]

/-- Page map of TEN page 0x00A (R34 R63). -/
def rows0A : List RegRow :=
  [
    ⟨0x040, 128, 4, 1, 4096, .rwl, 0x80808080, 0xFFFFFFFF, false, false⟩]

/-- Page map of TEN page 0x00B (R34 R63). -/
def rows0B : List RegRow :=
  [
    ⟨0x040, 1, 4096, 1, 4096, .ro, 0x0, 0x0, false, false⟩,
    ⟨0x044, 1, 4096, 1, 4096, .ro, 0x0, 0x0, false, false⟩,
    ⟨0x048, 1, 4096, 1, 4096, .ro, 0x0, 0x0, false, false⟩,
    ⟨0x04C, 1, 4096, 1, 4096, .w1c, 0x0, 0x1, false, false⟩,
    ⟨0xC00, 1, 4096, 1, 4096, .rc, 0x0, 0x0, false, false⟩]

/-- Page map of EVF page 0x00C and those of its kind (R632). -/
def rows0C : List RegRow :=
  [
    ⟨0x040, 1, 4096, 1, 4096, .ro, 0x0, 0x0, true, false⟩,
    ⟨0x048, 1, 4096, 1, 4096, .rw, 0x0, 0xFFFFFFFFFFFFFFFF, true, false⟩,
    ⟨0x050, 1, 4096, 1, 4096, .ro, 0x0, 0x0, false, false⟩,
    ⟨0x400, 276, 4, 1, 4096, .rws, 0x0, 0x8000003F, false, false⟩]

/-- Page map of AXS page 0x041 and those of its kind (R121). -/
def rows41 : List RegRow :=
  [
    ⟨0x010, 1, 4096, 1, 4096, .rws, 0x0, 0x1, false, false⟩,
    ⟨0x014, 1, 4096, 1, 4096, .ro, 0x0, 0x0, false, false⟩,
    ⟨0x040, 1, 4096, 1, 4096, .rws, 0x0, 0x337, false, false⟩,
    ⟨0x044, 1, 4096, 1, 4096, .rws, 0x0, 0xFFFFFFFF, false, false⟩,
    ⟨0x048, 1, 4096, 1, 4096, .rws, 0x0, 0xFFFFFFFF, false, false⟩,
    ⟨0x04C, 1, 4096, 1, 4096, .rws, 0x64, 0xFFFF, false, false⟩,
    ⟨0x050, 1, 4096, 1, 4096, .rws, 0x1000, 0xFFFFFFFF, false, false⟩,
    ⟨0x054, 1, 4096, 1, 4096, .rws, 0x100, 0xFFFFFFFF, false, false⟩,
    ⟨0x058, 1, 4096, 1, 4096, .rws, 0x400, 0xFFFFFFFF, false, false⟩,
    ⟨0x05C, 1, 4096, 1, 4096, .rws, 0xF4240, 0xFFFFFFFF, false, false⟩,
    ⟨0x060, 1, 4096, 1, 4096, .ro, 0x0, 0x0, true, false⟩,
    ⟨0x068, 1, 4096, 1, 4096, .ro, 0x0, 0x0, true, false⟩,
    ⟨0x070, 1, 4096, 1, 4096, .ro, 0x0, 0x0, true, false⟩,
    ⟨0x078, 1, 4096, 1, 4096, .ro, 0x0, 0x0, false, false⟩,
    ⟨0x07C, 1, 4096, 1, 4096, .ro, 0x0, 0x0, false, false⟩,
    ⟨0x080, 1, 4096, 1, 4096, .ro, 0x0, 0x0, false, false⟩,
    ⟨0x084, 1, 4096, 1, 4096, .rw, 0x0, 0xFFFFFFFFFFFFFFFF, true, false⟩,
    ⟨0x08C, 1, 4096, 1, 4096, .rw, 0x0, 0xFFFFFFFFFFFFFFFF, true, false⟩,
    ⟨0xC00, 1, 4096, 1, 4096, .wo, 0x0, 0x0, false, false⟩,
    ⟨0xC04, 1, 4096, 1, 4096, .wo, 0x0, 0x0, false, false⟩]

/-- Page map of AXS page 0x040 (R122). -/
def rows40 : List RegRow :=
  [
    ⟨0x040, 4, 16, 1, 4096, .rws, 0x0, 0xFF, false, false⟩,
    ⟨0x044, 4, 16, 1, 4096, .rws, 0x0, 0xFFFFFFFF, false, false⟩,
    ⟨0x048, 4, 16, 1, 4096, .ro, 0x0, 0x0, false, false⟩,
    ⟨0x04C, 4, 16, 1, 4096, .ro, 0x0, 0x0, false, false⟩,
    ⟨0x080, 2, 16, 1, 4096, .rws, 0x0, 0x1F1F07, false, false⟩,
    ⟨0x084, 2, 16, 1, 4096, .rws, 0x3E80064, 0xFFFFFFFF, false, false⟩,
    ⟨0x088, 2, 16, 1, 4096, .ro, 0x0, 0x0, false, false⟩,
    ⟨0x08C, 2, 16, 1, 4096, .ro, 0x0, 0x0, false, false⟩]

/-- Page map of AXS page 0x049 (R123). -/
def rows49 : List RegRow :=
  [
    ⟨0x040, 4, 16, 1, 4096, .rws, 0x0, 0x1F1F1F03, false, false⟩,
    ⟨0x044, 4, 16, 1, 4096, .rws, 0x64, 0x3FF, false, false⟩,
    ⟨0x048, 4, 16, 1, 4096, .ro, 0x0, 0x0, false, false⟩,
    ⟨0x04C, 4, 16, 1, 4096, .ro, 0x0, 0x0, false, false⟩]

/-- Page map of AXS page 0x04A and those of its kind (R124). -/
def rows4A : List RegRow :=
  [
    ⟨0x040, 96, 24, 1, 4096, .rws, 0x0, 0xFFFFFFFFFFFFFFFF, true, false⟩,
    ⟨0x048, 96, 24, 1, 4096, .rws, 0x0, 0xFFFFFFFF, false, false⟩,
    ⟨0x04C, 96, 24, 1, 4096, .rws, 0x0, 0x7FF7F, false, false⟩,
    ⟨0x050, 96, 24, 1, 4096, .rws, 0x0, 0xFFFF, false, false⟩]

/-- Page map of AXS page 0x04E (R125). -/
def rows4E : List RegRow :=
  [
    ⟨0x040, 4, 16, 1, 4096, .rws, 0x0, 0x3FF, false, false⟩,
    ⟨0x044, 4, 16, 1, 4096, .rws, 0x64, 0xFFFFFF, false, false⟩,
    ⟨0x048, 4, 16, 1, 4096, .ro, 0x0, 0x0, false, false⟩,
    ⟨0x04C, 4, 16, 1, 4096, .ro, 0x0, 0x0, false, false⟩]

/-- Page map of AXS page 0x04F (R126). -/
def rows4F : List RegRow :=
  [
    ⟨0x040, 1, 4096, 1, 4096, .ro, 0x0, 0x0, false, false⟩,
    ⟨0x044, 1, 4096, 1, 4096, .ro, 0x0, 0x0, false, false⟩,
    ⟨0x100, 128, 4, 1, 4096, .ro, 0x0, 0x0, false, false⟩,
    ⟨0x400, 256, 4, 1, 4096, .ro, 0x0, 0x0, false, false⟩,
    ⟨0xC00, 1, 4096, 1, 4096, .wo, 0x0, 0x0, false, false⟩]

/-- Page map of TRI page 0x020 and those of its kind (R160). -/
def rows20 : List RegRow :=
  [
    ⟨0x010, 1, 4096, 1, 4096, .rws, 0x1, 0x1, false, false⟩,
    ⟨0x014, 1, 4096, 1, 4096, .ro, 0x0, 0x0, false, false⟩,
    ⟨0x040, 1, 4096, 1, 4096, .ro, 0x0, 0x0, false, false⟩,
    ⟨0x044, 1, 4096, 1, 4096, .ro, 0x0, 0x0, false, false⟩,
    ⟨0x048, 1, 4096, 1, 4096, .ro, 0x0, 0x0, false, false⟩,
    ⟨0x04C, 1, 4096, 1, 4096, .ro, 0x0, 0x0, false, false⟩,
    ⟨0x050, 1, 4096, 1, 4096, .rws, 0x2710, 0x1FFFF, false, false⟩,
    ⟨0x054, 1, 4096, 1, 4096, .ro, 0x2010, 0x0, false, false⟩,
    ⟨0x058, 1, 4096, 1, 4096, .ro, 0x0, 0x0, true, false⟩,
    ⟨0x060, 1, 4096, 1, 4096, .ro, 0x0, 0x0, false, false⟩,
    ⟨0x064, 1, 4096, 1, 4096, .ro, 0x80, 0x0, false, false⟩,
    ⟨0xC00, 1, 4096, 1, 4096, .wo, 0x0, 0x0, false, false⟩]

/-- Page map of TRI page 0x021 and those of its kind (R160). -/
def rows21 : List RegRow :=
  [
    ⟨0x014, 1, 4096, 1, 4096, .ro, 0x0, 0x0, false, false⟩,
    ⟨0x040, 1, 4096, 1, 4096, .ro, 0x3, 0x0, false, false⟩,
    ⟨0x044, 1, 4096, 1, 4096, .ro, 0x0, 0x0, true, false⟩,
    ⟨0x050, 1, 4096, 1, 4096, .ro, 0x0, 0x0, false, false⟩,
    ⟨0x054, 1, 4096, 1, 4096, .ro, 0x0, 0x0, false, false⟩,
    ⟨0x058, 1, 4096, 1, 4096, .ro, 0x0, 0x0, false, false⟩,
    ⟨0x05C, 1, 4096, 1, 4096, .rws, 0x64, 0x3FF, false, false⟩,
    ⟨0x060, 1, 4096, 1, 4096, .ro, 0x0, 0x0, false, false⟩,
    ⟨0x064, 1, 4096, 1, 4096, .ro, 0x1000, 0x0, false, false⟩,
    ⟨0xC00, 1, 4096, 1, 4096, .wo, 0x0, 0x0, false, false⟩]

/-- Page map of MEM page 0x028 (R185). -/
def rows28 : List RegRow :=
  [
    ⟨0x010, 1, 4096, 1, 4096, .rws, 0x3, 0x3, false, false⟩,
    ⟨0x014, 1, 4096, 1, 4096, .ro, 0x0, 0x0, false, false⟩,
    ⟨0x040, 1, 4096, 1, 4096, .ro, 0xDC00, 0x0, false, false⟩,
    ⟨0x044, 1, 4096, 1, 4096, .ro, 0x0, 0x0, false, false⟩,
    ⟨0x048, 1, 4096, 1, 4096, .rws, 0x10, 0xFFFF, false, false⟩,
    ⟨0x04C, 1, 4096, 1, 4096, .ro, 0x0, 0x0, false, false⟩]

/-- Page map of MEM page 0x029 (R186). -/
def rows29 : List RegRow :=
  [
    ⟨0x040, 64, 16, 1, 4096, .rwl, 0x0, 0xFFFF, false, false⟩,
    ⟨0x044, 64, 16, 1, 4096, .rwl, 0x0, 0xFFFF, false, false⟩,
    ⟨0x048, 64, 16, 1, 4096, .rwl, 0x0, 0x80007FFF, false, false⟩,
    ⟨0x04C, 64, 16, 1, 4096, .rwl, 0x0, 0xFF, false, false⟩]

/-- Page map of MEM page 0x02A (R187). -/
def rows2A : List RegRow :=
  [
    ⟨0x040, 1, 4096, 1, 4096, .ro, 0x0, 0x0, false, false⟩,
    ⟨0x044, 1, 4096, 1, 4096, .ro, 0x0, 0x0, false, false⟩,
    ⟨0x048, 1, 4096, 1, 4096, .ro, 0x0, 0x0, false, false⟩,
    ⟨0x04C, 1, 4096, 1, 4096, .ro, 0x0, 0x0, false, false⟩,
    ⟨0x050, 1, 4096, 1, 4096, .rws, 0xE10, 0x1FFFF, false, false⟩,
    ⟨0x054, 1, 4096, 1, 4096, .ro, 0x0, 0x0, false, false⟩,
    ⟨0x058, 1, 4096, 1, 4096, .ro, 0x0, 0x0, true, false⟩,
    ⟨0x060, 4, 4, 1, 4096, .ro, 0x0, 0x0, false, false⟩,
    ⟨0x070, 4, 4, 1, 4096, .ro, 0x0, 0x0, false, false⟩,
    ⟨0x080, 1, 4096, 1, 4096, .ro, 0x0, 0x0, false, false⟩,
    ⟨0xC00, 1, 4096, 1, 4096, .wo, 0x0, 0x0, false, false⟩]

/-- Page map of MEM page 0x02B (R188). -/
def rows2B : List RegRow :=
  [
    ⟨0x040, 1, 4096, 1, 4096, .ro, 0x0, 0x0, false, false⟩,
    ⟨0x044, 1, 4096, 1, 4096, .w1c, 0x0, 0x1, false, false⟩,
    ⟨0x048, 1, 4096, 1, 4096, .ro, 0x0, 0x0, true, false⟩,
    ⟨0x050, 1, 4096, 1, 4096, .ro, 0x0, 0x0, false, false⟩,
    ⟨0x054, 1, 4096, 1, 4096, .ro, 0x0, 0x0, false, false⟩,
    ⟨0x058, 1, 4096, 1, 4096, .ro, 0x0, 0x0, true, false⟩,
    ⟨0xC00, 1, 4096, 1, 4096, .wo, 0x0, 0x0, false, false⟩]

/-- Page map of CYC page 0x030 and those of its kind (R221). -/
def rows30 : List RegRow :=
  [
    ⟨0x010, 1, 4096, 1, 4096, .rws, 0x0, 0x7FF, false, false⟩,
    ⟨0x014, 1, 4096, 1, 4096, .ro, 0x0, 0x0, false, false⟩,
    ⟨0x040, 1, 4096, 1, 4096, .rws, 0x3E8, 0xFFFFFF, false, false⟩,
    ⟨0x044, 1, 4096, 1, 4096, .rws, 0x2710, 0xFFFFFF, false, false⟩,
    ⟨0x048, 1, 4096, 1, 4096, .rwl, 0x0, 0x1FFFF, false, false⟩,
    ⟨0x04C, 1, 4096, 1, 4096, .rwl, 0x0, 0x1FFFF, false, false⟩,
    ⟨0x050, 1, 4096, 1, 4096, .rwl, 0x1, 0xF, false, false⟩,
    ⟨0x054, 1, 4096, 1, 4096, .rws, 0x0, 0x1FFF, false, false⟩,
    ⟨0x058, 1, 4096, 1, 4096, .ro, 0x0, 0x0, false, false⟩,
    ⟨0x05C, 1, 4096, 1, 4096, .ro, 0x0, 0x0, false, false⟩,
    ⟨0x060, 1, 4096, 1, 4096, .ro, 0x0, 0x0, true, false⟩,
    ⟨0x068, 1, 4096, 1, 4096, .ro, 0x0, 0x0, true, false⟩,
    ⟨0x070, 1, 4096, 1, 4096, .ro, 0x0, 0x0, true, false⟩,
    ⟨0x078, 1, 4096, 1, 4096, .ro, 0x0, 0x0, false, false⟩,
    ⟨0x07C, 1, 4096, 1, 4096, .ro, 0x0, 0x0, false, false⟩,
    ⟨0x080, 1, 4096, 1, 4096, .ro, 0x0, 0x0, false, false⟩,
    ⟨0x084, 1, 4096, 1, 4096, .ro, 0x0, 0x0, false, false⟩,
    ⟨0x088, 1, 4096, 1, 4096, .ro, 0x0, 0x0, false, false⟩,
    ⟨0x08C, 1, 4096, 1, 4096, .ro, 0x0, 0x0, false, false⟩,
    ⟨0x090, 1, 4096, 1, 4096, .ro, 0x0, 0x0, false, false⟩,
    ⟨0x094, 1, 4096, 1, 4096, .ro, 0x0, 0x0, false, false⟩,
    ⟨0x098, 1, 4096, 1, 4096, .ro, 0x0, 0x0, false, false⟩,
    ⟨0x09C, 1, 4096, 1, 4096, .ro, 0x0, 0x0, false, false⟩,
    ⟨0x0A0, 2, 4, 1, 4096, .ro, 0x0, 0x0, false, false⟩] ++ [
    ⟨0x0A8, 1, 4096, 1, 4096, .ro, 0x0, 0x0, false, false⟩,
    ⟨0x400, 64, 16, 1, 4096, .rws, 0x0, 0xFFFF001F, false, false⟩,
    ⟨0x404, 64, 16, 1, 4096, .rws, 0x0, 0xFFFFFFFFFFFFFFFF, true, false⟩,
    ⟨0xC00, 1, 4096, 1, 4096, .wo, 0x0, 0x0, false, false⟩,
    ⟨0xC04, 1, 4096, 1, 4096, .wo, 0x0, 0x0, false, false⟩]

/-- Page map of PAD page 0x060 (R247). -/
def rows60 : List RegRow :=
  [
    ⟨0x010, 1, 4096, 1, 4096, .rws, 0x0, 0xFF, false, false⟩,
    ⟨0x014, 1, 4096, 1, 4096, .ro, 0x0, 0x0, false, false⟩,
    ⟨0x040, 1, 4096, 1, 4096, .rws, 0xC350, 0x1FFFF, false, false⟩,
    ⟨0x044, 1, 4096, 1, 4096, .rws, 0x14, 0xFF, false, false⟩,
    ⟨0x048, 1, 4096, 1, 4096, .rws, 0xFA0210, 0xFF0F7F, false, false⟩,
    ⟨0x04C, 1, 4096, 1, 4096, .ro, 0x0, 0x0, false, false⟩,
    ⟨0x050, 1, 4096, 1, 4096, .ro, 0x0, 0x0, false, false⟩,
    ⟨0x054, 1, 4096, 1, 4096, .ro, 0x0, 0x0, false, false⟩,
    ⟨0x058, 1, 4096, 1, 4096, .ro, 0x0, 0x0, true, false⟩,
    ⟨0x060, 1, 4096, 1, 4096, .ro, 0x0, 0x0, false, false⟩,
    ⟨0x064, 1, 4096, 1, 4096, .ro, 0x0, 0x0, false, false⟩]

/-- Page map of PAD page 0x061 and those of its kind (R248). -/
def rows61 : List RegRow :=
  [
    ⟨0x040, 8, 32, 1, 4096, .rws, 0x300, 0x77F, false, false⟩,
    ⟨0x044, 8, 32, 1, 4096, .rws, 0x3F800000, 0xFFFFFFFF, false, false⟩,
    ⟨0x048, 8, 32, 1, 4096, .rws, 0x3F800000, 0xFFFFFFFF, false, false⟩,
    ⟨0x04C, 8, 32, 1, 4096, .rws, 0x0, 0x3FF, false, false⟩,
    ⟨0x050, 8, 32, 1, 4096, .rws, 0x0, 0xFFFF, false, false⟩,
    ⟨0x054, 8, 32, 1, 4096, .rws, 0x3E8, 0x7FFF, false, false⟩,
    ⟨0x058, 8, 32, 1, 4096, .rws, 0x64, 0x7FF, false, false⟩,
    ⟨0x05C, 8, 32, 1, 4096, .rws, 0x32, 0x3FF, false, false⟩]

/-- Page map of PAD page 0x064 (R249). -/
def rows64 : List RegRow :=
  [
    ⟨0x040, 24, 4, 1, 4096, .ro, 0x0, 0x0, false, false⟩,
    ⟨0x0A0, 1, 4096, 1, 4096, .ro, 0x0, 0x0, true, false⟩,
    ⟨0x0A8, 1, 4096, 1, 4096, .ro, 0x0, 0x0, false, false⟩,
    ⟨0xC00, 1, 4096, 1, 4096, .wo, 0x0, 0x0, false, false⟩]

/-- Page map of PAD page 0x065 (R250). -/
def rows65 : List RegRow :=
  [
    ⟨0x040, 24, 4, 1, 4096, .ro, 0x0, 0x0, false, false⟩,
    ⟨0x0A0, 1, 4096, 1, 4096, .ro, 0x0, 0x0, false, false⟩,
    ⟨0x0A4, 1, 4096, 1, 4096, .ro, 0x0, 0x0, false, false⟩,
    ⟨0x0A8, 1, 4096, 1, 4096, .ro, 0x0, 0x0, false, false⟩,
    ⟨0x0AC, 1, 4096, 1, 4096, .ro, 0x0, 0x0, false, false⟩,
    ⟨0x100, 24, 4, 1, 4096, .ro, 0x0, 0x0, false, false⟩,
    ⟨0x160, 24, 4, 1, 4096, .ro, 0x0, 0x0, false, false⟩,
    ⟨0xC00, 1, 4096, 1, 4096, .wo, 0x0, 0x0, false, false⟩]

/-- Page map of PAD page 0x066 (R251). -/
def rows66 : List RegRow :=
  [
    ⟨0x040, 24, 64, 4, 16, .ro, 0x40000000, 0x0, false, true⟩,
    ⟨0x044, 24, 64, 4, 16, .ro, 0x0, 0x0, false, true⟩,
    ⟨0x048, 24, 64, 4, 16, .ro, 0x40000000, 0x0, false, true⟩,
    ⟨0x04C, 24, 64, 4, 16, .ro, 0x0, 0x0, false, true⟩,
    ⟨0x700, 1, 4096, 1, 4096, .ro, 0xEEC7AB3A, 0x0, false, true⟩,
    ⟨0x704, 1, 4096, 1, 4096, .ro, 0x0, 0x0, false, true⟩]

/-- Page map of PAD page 0x067 (R252). -/
def rows67 : List RegRow :=
  [
    ⟨0x040, 1, 4096, 1, 4096, .rw, 0x0, 0x11F, false, false⟩,
    ⟨0x044, 1, 4096, 1, 4096, .ro, 0x0, 0x0, false, false⟩,
    ⟨0x048, 1, 4096, 1, 4096, .ro, 0x0, 0x0, true, false⟩,
    ⟨0x100, 256, 4, 1, 4096, .ro, 0x0, 0x0, false, false⟩,
    ⟨0x500, 256, 4, 1, 4096, .ro, 0x0, 0x0, false, false⟩,
    ⟨0xC00, 1, 4096, 1, 4096, .wo, 0x0, 0x0, false, false⟩]

/-- Page map of PRE page 0x068 (R294). -/
def rows68 : List RegRow :=
  [
    ⟨0x010, 1, 4096, 1, 4096, .rws, 0x14600, 0x17F01, false, false⟩,
    ⟨0x014, 1, 4096, 1, 4096, .ro, 0x0, 0x0, false, false⟩,
    ⟨0x040, 1, 4096, 1, 4096, .rws, 0x0, 0x3, false, false⟩,
    ⟨0x044, 1, 4096, 1, 4096, .rws, 0x0, 0xFF, false, false⟩,
    ⟨0x048, 1, 4096, 1, 4096, .ro, 0x0, 0x0, false, false⟩,
    ⟨0x04C, 1, 4096, 1, 4096, .ro, 0x0, 0x0, false, false⟩,
    ⟨0x050, 1, 4096, 1, 4096, .ro, 0x0, 0x0, false, false⟩,
    ⟨0x054, 1, 4096, 1, 4096, .ro, 0x0, 0x0, true, false⟩,
    ⟨0x05C, 1, 4096, 1, 4096, .ro, 0x0, 0x0, false, false⟩,
    ⟨0x060, 1, 4096, 1, 4096, .ro, 0x0, 0x0, false, false⟩,
    ⟨0x064, 1, 4096, 1, 4096, .ro, 0x0, 0x0, false, false⟩,
    ⟨0xC00, 1, 4096, 1, 4096, .wo, 0x0, 0x0, false, false⟩]

/-- Page map of PRE page 0x069 (R295). -/
def rows69 : List RegRow :=
  [
    ⟨0x040, 32, 4, 1, 4096, .rws, 0x0, 0x800FFFFF, false, false⟩,
    ⟨0x0C0, 8, 4, 1, 4096, .rws, 0x1406400, 0xFF1FF01, false, false⟩,
    ⟨0x0E0, 4, 4, 1, 4096, .rws, 0x1406400, 0xFF1FF01, false, false⟩,
    ⟨0x100, 8, 16, 1, 4096, .rws, 0x0, 0x1F1F1F7F, false, false⟩,
    ⟨0x104, 8, 16, 1, 4096, .rws, 0x42480000, 0xFFFFFFFF, false, false⟩,
    ⟨0x108, 8, 16, 1, 4096, .rws, 0x7F800000, 0xFFFFFFFF, false, false⟩]

/-- Page map of PRE page 0x06A (R296). -/
def rows6A : List RegRow :=
  [
    ⟨0x040, 1, 4096, 1, 4096, .ro, 0x0, 0x0, false, false⟩,
    ⟨0x044, 1, 4096, 1, 4096, .ro, 0x0, 0x0, false, false⟩,
    ⟨0x048, 1, 4096, 1, 4096, .ro, 0x0, 0x0, false, false⟩,
    ⟨0x04C, 1, 4096, 1, 4096, .ro, 0x0, 0x0, false, false⟩,
    ⟨0x050, 1, 4096, 1, 4096, .ro, 0x0, 0x0, false, false⟩,
    ⟨0x060, 8, 4, 1, 4096, .ro, 0x0, 0x0, false, false⟩,
    ⟨0x080, 4, 4, 1, 4096, .ro, 0x0, 0x0, false, false⟩,
    ⟨0x090, 1, 4096, 1, 4096, .ro, 0x0, 0x0, false, false⟩,
    ⟨0x0A0, 8, 4, 1, 4096, .ro, 0x0, 0x0, false, false⟩,
    ⟨0x0C0, 4, 4, 1, 4096, .ro, 0x0, 0x0, false, false⟩,
    ⟨0x100, 8, 8, 1, 4096, .ro, 0x0, 0x0, true, false⟩,
    ⟨0x140, 8, 4, 1, 4096, .ro, 0x0, 0x0, false, false⟩,
    ⟨0x160, 1, 4096, 1, 4096, .ro, 0x0, 0x0, false, false⟩,
    ⟨0xC00, 1, 4096, 1, 4096, .wo, 0x0, 0x0, false, false⟩,
    ⟨0xC04, 1, 4096, 1, 4096, .wo, 0x0, 0x0, false, false⟩,
    ⟨0xC08, 1, 4096, 1, 4096, .wo, 0x0, 0x0, false, false⟩]

/-- Page map of PRE page 0x06B (R297). -/
def rows6B : List RegRow :=
  [
    ⟨0x040, 4, 4, 1, 4096, .ro, 0x0, 0x0, false, false⟩,
    ⟨0x050, 4, 4, 1, 4096, .ro, 0x0, 0x0, false, false⟩,
    ⟨0x060, 4, 4, 1, 4096, .ro, 0x0, 0x0, false, false⟩,
    ⟨0x080, 8, 4, 1, 4096, .ro, 0x0, 0x0, false, false⟩,
    ⟨0x0C0, 16, 4, 1, 4096, .rws, 0x0, 0xBF, false, false⟩]

/-- Page map of PRE page 0x06C and those of its kind (R298). -/
def rows6C : List RegRow :=
  [
    ⟨0x040, 32, 32, 1, 4096, .ro, 0x0, 0x0, false, false⟩,
    ⟨0x044, 32, 32, 1, 4096, .ro, 0x0, 0x0, false, false⟩,
    ⟨0x048, 32, 32, 1, 4096, .ro, 0x0, 0x0, false, false⟩,
    ⟨0x04C, 32, 32, 1, 4096, .ro, 0x0, 0x0, false, false⟩,
    ⟨0x050, 32, 32, 1, 4096, .ro, 0x0, 0x0, false, false⟩]

/-- Page map of PRE page 0x070 and those of its kind (R298). -/
def rows70 : List RegRow :=
  [
    ⟨0x040, 64, 8, 1, 4096, .ro, 0x0, 0x0, false, false⟩,
    ⟨0x044, 64, 8, 1, 4096, .ro, 0x0, 0x0, false, false⟩]

/-- Page map of PRE page 0x074 (R299). -/
def rows74 : List RegRow :=
  [
    ⟨0x040, 1, 4096, 1, 4096, .ro, 0x111, 0x0, false, false⟩,
    ⟨0x044, 1, 4096, 1, 4096, .ro, 0x0, 0x0, false, false⟩,
    ⟨0x048, 1, 4096, 1, 4096, .ro, 0x0, 0x0, false, false⟩,
    ⟨0x04C, 1, 4096, 1, 4096, .ro, 0x3, 0x0, false, false⟩,
    ⟨0xC00, 1, 4096, 1, 4096, .wo, 0x0, 0x0, false, false⟩]

/-- Page map of PRE page 0x075 (R299). -/
def rows75 : List RegRow :=
  [
    ⟨0x040, 1, 4096, 1, 4096, .rw, 0x0, 0xFFFFFFFF, false, false⟩,
    ⟨0x044, 1, 4096, 1, 4096, .ro, 0x0, 0x0, false, false⟩,
    ⟨0x050, 4, 4, 1, 4096, .rw, 0x0, 0xFFFFFFFF, false, false⟩,
    ⟨0x060, 1, 4096, 1, 4096, .ro, 0x0, 0x0, false, false⟩,
    ⟨0xC00, 1, 4096, 1, 4096, .wo, 0x0, 0x0, false, false⟩]

/-- Page map of DRC page 0x080 (R317). -/
def rows80 : List RegRow :=
  [
    ⟨0x010, 1, 4096, 1, 4096, .rws, 0x4, 0xF, false, false⟩,
    ⟨0x014, 1, 4096, 1, 4096, .ro, 0x0, 0x0, false, false⟩,
    ⟨0x040, 1, 4096, 1, 4096, .rws, 0xA, 0x3FF, false, false⟩,
    ⟨0x044, 1, 4096, 1, 4096, .rws, 0x32, 0x7FF, false, false⟩,
    ⟨0x048, 1, 4096, 1, 4096, .rws, 0xC8, 0x7FF, false, false⟩,
    ⟨0x04C, 1, 4096, 1, 4096, .rws, 0x20000, 0x3F03FFFF, false, false⟩,
    ⟨0x050, 1, 4096, 1, 4096, .rws, 0xFFFFFF, 0xFFFFFF, false, false⟩,
    ⟨0x054, 1, 4096, 1, 4096, .ro, 0x0, 0x0, true, false⟩,
    ⟨0x05C, 1, 4096, 1, 4096, .ro, 0x0, 0x0, false, false⟩,
    ⟨0x060, 1, 4096, 1, 4096, .ro, 0x0, 0x0, false, false⟩,
    ⟨0x064, 1, 4096, 1, 4096, .ro, 0x0, 0x0, false, false⟩,
    ⟨0x068, 1, 4096, 1, 4096, .ro, 0x0, 0x0, false, false⟩,
    ⟨0xC00, 1, 4096, 1, 4096, .wo, 0x0, 0x0, false, false⟩,
    ⟨0xC04, 1, 4096, 1, 4096, .wo, 0x0, 0x0, false, false⟩]

/-- Page map of DRC page 0x081 (R317). -/
def rows81 : List RegRow :=
  [
    ⟨0x040, 64, 4, 1, 4096, .rws, 0x0, 0xFFF0FFF, false, false⟩,
    ⟨0x140, 4, 4, 1, 4096, .rws, 0x0, 0xFFFFFFFF, false, false⟩,
    ⟨0x150, 4, 4, 1, 4096, .rws, 0x0, 0xFFFFFFFF, false, false⟩,
    ⟨0x160, 4, 4, 1, 4096, .rws, 0x0, 0xFFFFFFFF, false, false⟩]

/-- Page map of DRC page 0x082 (R317). -/
def rows82 : List RegRow :=
  [
    ⟨0x040, 1, 4096, 1, 4096, .rw, 0x0, 0xF, false, false⟩,
    ⟨0x044, 1, 4096, 1, 4096, .ro, 0x0, 0x0, false, false⟩,
    ⟨0x048, 1, 4096, 1, 4096, .ro, 0x0, 0x0, false, false⟩,
    ⟨0x04C, 1, 4096, 1, 4096, .ro, 0x0, 0x0, true, false⟩,
    ⟨0x054, 1, 4096, 1, 4096, .ro, 0x0, 0x0, false, false⟩,
    ⟨0x058, 1, 4096, 1, 4096, .ro, 0x0, 0x0, false, false⟩,
    ⟨0x05C, 1, 4096, 1, 4096, .ro, 0x0, 0x0, true, false⟩,
    ⟨0x080, 1, 4096, 1, 4096, .ro, 0x0, 0x0, false, false⟩,
    ⟨0x084, 1, 4096, 1, 4096, .ro, 0x0, 0x0, false, false⟩,
    ⟨0x088, 1, 4096, 1, 4096, .ro, 0x0, 0x0, false, false⟩,
    ⟨0x08C, 1, 4096, 1, 4096, .rw, 0x0, 0xFFFFFFFF, false, false⟩,
    ⟨0x090, 1, 4096, 1, 4096, .ro, 0x0, 0x0, false, false⟩,
    ⟨0x094, 1, 4096, 1, 4096, .ro, 0x0, 0x0, false, false⟩,
    ⟨0x098, 1, 4096, 1, 4096, .rw, 0x0, 0xFFFFFFFFFF, true, false⟩,
    ⟨0x0A0, 1, 4096, 1, 4096, .rw, 0x0, 0xFFFFFFFF, false, false⟩,
    ⟨0x0A4, 1, 4096, 1, 4096, .ro, 0x0, 0x0, false, false⟩,
    ⟨0x0A8, 1, 4096, 1, 4096, .ro, 0x0, 0x0, false, false⟩,
    ⟨0xC00, 1, 4096, 1, 4096, .wo, 0x0, 0x0, false, false⟩,
    ⟨0xC04, 1, 4096, 1, 4096, .wo, 0x0, 0x0, false, false⟩]

/-- Page map of DRC page 0x083 (R317). -/
def rows83 : List RegRow :=
  [
    ⟨0x040, 8, 4, 1, 4096, .rws, 0x0, 0xFFFFFFFF, false, false⟩,
    ⟨0x060, 96, 4, 1, 4096, .rws, 0x0, 0xFFFFFFFF, false, false⟩,
    ⟨0x1E0, 512, 4, 1, 4096, .rws, 0x0, 0xFFFFFFFF, false, false⟩,
    ⟨0x9E0, 24, 4, 1, 4096, .rws, 0x0, 0xFFFFFFFF, false, false⟩,
    ⟨0xA40, 24, 4, 1, 4096, .rws, 0x0, 0xFFFF, false, false⟩]

/-- Page map of SAR page 0x088 and those of its kind (R343). -/
def rows88 : List RegRow :=
  [
    ⟨0x010, 1, 4096, 1, 4096, .rws, 0x0, 0x3FFF, false, false⟩,
    ⟨0x014, 1, 4096, 1, 4096, .ro, 0x0, 0x0, false, false⟩,
    ⟨0x040, 1, 4096, 1, 4096, .rws, 0x3E8, 0xFFFFFF, false, false⟩,
    ⟨0x044, 1, 4096, 1, 4096, .rws, 0x0, 0xFFFF, false, false⟩,
    ⟨0x048, 1, 4096, 1, 4096, .rws, 0x10000, 0xFF3F3F, false, false⟩,
    ⟨0x04C, 1, 4096, 1, 4096, .rws, 0x0, 0xFFFFFF, false, false⟩,
    ⟨0x050, 1, 4096, 1, 4096, .rws, 0x20, 0xFF, false, false⟩,
    ⟨0x054, 1, 4096, 1, 4096, .ro, 0x0, 0x0, false, false⟩,
    ⟨0x058, 1, 4096, 1, 4096, .ro, 0x0, 0x0, false, false⟩,
    ⟨0x05C, 1, 4096, 1, 4096, .ro, 0x0, 0x0, false, false⟩,
    ⟨0x060, 1, 4096, 1, 4096, .ro, 0x0, 0x0, false, false⟩,
    ⟨0x064, 1, 4096, 1, 4096, .ro, 0x0, 0x0, false, false⟩,
    ⟨0x068, 1, 4096, 1, 4096, .ro, 0x0, 0x0, false, false⟩,
    ⟨0x06C, 1, 4096, 1, 4096, .ro, 0x0, 0x0, false, false⟩,
    ⟨0x070, 1, 4096, 1, 4096, .ro, 0x0, 0x0, true, false⟩,
    ⟨0x100, 64, 4, 1, 4096, .rws, 0x0, 0xF, false, false⟩,
    ⟨0x400, 64, 16, 1, 4096, .ro, 0x0, 0x0, false, false⟩,
    ⟨0x404, 64, 16, 1, 4096, .ro, 0x0, 0x0, false, false⟩,
    ⟨0x408, 64, 16, 1, 4096, .ro, 0x0, 0x0, true, false⟩,
    ⟨0xC00, 1, 4096, 1, 4096, .wo, 0x0, 0x0, false, false⟩,
    ⟨0xC04, 1, 4096, 1, 4096, .wo, 0x0, 0x0, false, false⟩,
    ⟨0xC08, 1, 4096, 1, 4096, .wo, 0x0, 0x0, false, false⟩,
    ⟨0xC0C, 1, 4096, 1, 4096, .wo, 0x0, 0x0, false, false⟩]

/-- Page map of SAR page 0x089 and those of its kind (R344). -/
def rows89 : List RegRow :=
  [
    ⟨0x040, 64, 8, 1, 4096, .rws, 0x0, 0x1F3F7F, false, false⟩,
    ⟨0x044, 64, 8, 1, 4096, .rws, 0x0, 0xFFFF, false, false⟩,
    ⟨0x240, 8, 16, 1, 4096, .rws, 0x0, 0x1F, false, false⟩,
    ⟨0x244, 8, 16, 1, 4096, .rws, 0x3E8, 0x1FFFFF, false, false⟩,
    ⟨0x248, 8, 16, 1, 4096, .rws, 0xA, 0xFFFFFF, false, false⟩,
    ⟨0x24C, 8, 16, 1, 4096, .rws, 0x190032, 0xFFFFFFFF, false, false⟩]

/-- Page map of DIO page 0x090 (R364). -/
def rows90 : List RegRow :=
  [
    ⟨0x010, 1, 4096, 1, 4096, .rws, 0x3F, 0x3F, false, false⟩,
    ⟨0x014, 1, 4096, 1, 4096, .ro, 0x3F, 0x0, false, false⟩,
    ⟨0x040, 1, 4096, 1, 4096, .rwl, 0x0, 0x3F, false, false⟩,
    ⟨0x080, 48, 4, 1, 4096, .rws, 0x9, 0x7F7F, false, false⟩,
    ⟨0x140, 1, 4096, 1, 4096, .ro, 0x0, 0x0, true, false⟩,
    ⟨0x148, 1, 4096, 1, 4096, .ro, 0x0, 0x0, true, false⟩]

/-- Page map of DIO page 0x091 (R365). -/
def rows91 : List RegRow :=
  [
    ⟨0x040, 48, 4, 1, 4096, .ro, 0x0, 0x0, false, false⟩,
    ⟨0x100, 1, 4096, 1, 4096, .w1c, 0x0, 0xFFFFFFFF, false, false⟩,
    ⟨0x104, 1, 4096, 1, 4096, .w1c, 0x0, 0xFFFF, false, false⟩]

/-- Page map of DIO page 0x092 (R365). -/
def rows92 : List RegRow :=
  [
    ⟨0x040, 6, 4, 1, 4096, .ro, 0x0, 0x0, false, false⟩,
    ⟨0x060, 6, 4, 1, 4096, .ro, 0x0, 0x0, false, false⟩,
    ⟨0x080, 6, 8, 1, 4096, .ro, 0x0, 0x0, true, false⟩,
    ⟨0x0C0, 1, 4096, 1, 4096, .ro, 0x0, 0x0, false, false⟩,
    ⟨0xC00, 6, 4, 1, 4096, .rc, 0x0, 0x0, false, false⟩]

/-- Page map of DO page 0x093 and those of its kind (R366). -/
def rows93 : List RegRow :=
  [
    ⟨0x010, 1, 4096, 1, 4096, .rws, 0x0, 0x3, false, false⟩,
    ⟨0x014, 1, 4096, 1, 4096, .ro, 0x0, 0x0, false, false⟩,
    ⟨0x040, 1, 4096, 1, 4096, .rwl, 0x0, 0x3F, false, false⟩,
    ⟨0x044, 1, 4096, 1, 4096, .rws, 0x0, 0xFF, false, false⟩,
    ⟨0x048, 1, 4096, 1, 4096, .rws, 0x0, 0xFF, false, false⟩,
    ⟨0x04C, 1, 4096, 1, 4096, .rws, 0x186A0, 0xFFFFFF, false, false⟩,
    ⟨0x050, 1, 4096, 1, 4096, .rws, 0x64, 0x3FFF, false, false⟩,
    ⟨0x054, 1, 4096, 1, 4096, .rws, 0x12C03E8, 0x1FF3FFF, false, false⟩,
    ⟨0x058, 1, 4096, 1, 4096, .rwl, 0x0, 0xFF, false, false⟩,
    ⟨0x060, 8, 4, 1, 4096, .rws, 0x0, 0x7FFF, false, false⟩,
    ⟨0x080, 8, 4, 1, 4096, .rws, 0x0, 0x3FFF, false, false⟩,
    ⟨0x0A0, 1, 4096, 1, 4096, .ro, 0x0, 0x0, false, false⟩,
    ⟨0x0A4, 1, 4096, 1, 4096, .ro, 0x0, 0x0, false, false⟩,
    ⟨0x0A8, 1, 4096, 1, 4096, .ro, 0x0, 0x0, false, false⟩,
    ⟨0x0AC, 1, 4096, 1, 4096, .ro, 0x0, 0x0, false, false⟩,
    ⟨0x0B0, 1, 4096, 1, 4096, .ro, 0x0, 0x0, false, false⟩,
    ⟨0x0B4, 1, 4096, 1, 4096, .ro, 0x0, 0x0, false, false⟩,
    ⟨0x0C0, 8, 4, 1, 4096, .ro, 0x0, 0x0, false, false⟩,
    ⟨0xC00, 1, 4096, 1, 4096, .wo, 0x0, 0x0, false, false⟩]

/-- Page map of DIO page 0x097 (R367). -/
def rows97 : List RegRow :=
  [
    ⟨0x040, 4, 16, 1, 4096, .ro, 0x0, 0x0, false, false⟩,
    ⟨0x044, 4, 16, 1, 4096, .ro, 0x0, 0x0, false, false⟩,
    ⟨0x048, 4, 16, 1, 4096, .ro, 0x0, 0x0, true, false⟩,
    ⟨0xC00, 1, 4096, 1, 4096, .wo, 0x0, 0x0, false, false⟩]

/-- Page map of SFN page 0x098 (R389). -/
def rows98 : List RegRow :=
  [
    ⟨0x010, 1, 4096, 1, 4096, .rws, 0x0, 0x1, false, false⟩,
    ⟨0x014, 1, 4096, 1, 4096, .ro, 0x0, 0x0, false, false⟩,
    ⟨0x040, 1, 4096, 1, 4096, .ro, 0x0, 0x0, false, false⟩,
    ⟨0x044, 1, 4096, 1, 4096, .ro, 0x0, 0x0, false, false⟩,
    ⟨0x048, 1, 4096, 1, 4096, .ro, 0x0, 0x0, false, false⟩,
    ⟨0xC00, 1, 4096, 1, 4096, .wo, 0x0, 0x0, false, false⟩]

/-- Page map of SFN page 0x099 and those of its kind (R389). -/
def rows99 : List RegRow :=
  [
    ⟨0x040, 8, 32, 1, 4096, .rws, 0x0, 0x3F, false, false⟩,
    ⟨0x044, 8, 32, 1, 4096, .rws, 0x0, 0x3F3F3F3F, false, false⟩,
    ⟨0x048, 8, 32, 1, 4096, .rws, 0x0, 0x3F3F, false, false⟩,
    ⟨0x04C, 8, 32, 1, 4096, .rws, 0x64, 0xFFF, false, false⟩,
    ⟨0x050, 8, 32, 1, 4096, .rws, 0x64, 0x3FF, false, false⟩,
    ⟨0x054, 8, 32, 1, 4096, .rws, 0x0, 0xFFFFFFFF, false, false⟩]

/-- Page map of SFN page 0x09B (R389). -/
def rows9B : List RegRow :=
  [
    ⟨0x040, 16, 4, 1, 4096, .ro, 0x0, 0x0, false, false⟩,
    ⟨0x080, 16, 8, 1, 4096, .ro, 0x0, 0x0, true, false⟩]

/-- Page map of LOOP page 0x09C (R409). -/
def rows9C : List RegRow :=
  [
    ⟨0x010, 1, 4096, 1, 4096, .rws, 0x0, 0x1, false, false⟩,
    ⟨0x014, 1, 4096, 1, 4096, .ro, 0x0, 0x0, false, false⟩,
    ⟨0x040, 1, 4096, 1, 4096, .rws, 0x64, 0x3FF, false, false⟩,
    ⟨0x044, 1, 4096, 1, 4096, .ro, 0x0, 0x0, false, false⟩,
    ⟨0x048, 1, 4096, 1, 4096, .ro, 0xFFFF, 0x0, false, false⟩,
    ⟨0x04C, 1, 4096, 1, 4096, .ro, 0x0, 0x0, false, false⟩,
    ⟨0xC00, 1, 4096, 1, 4096, .wo, 0x0, 0x0, false, false⟩,
    ⟨0xC04, 1, 4096, 1, 4096, .wo, 0x0, 0x0, false, false⟩]

/-- Page map of LOOP page 0x09D (R410). -/
def rows9D : List RegRow :=
  [
    ⟨0x040, 8, 16, 1, 4096, .rws, 0x0, 0xFF3, false, false⟩,
    ⟨0x044, 8, 16, 1, 4096, .rws, 0x52080E10, 0xFFFFFFFF, false, false⟩,
    ⟨0x048, 8, 16, 1, 4096, .ro, 0x0, 0x0, false, false⟩,
    ⟨0x04C, 8, 16, 1, 4096, .ro, 0x0, 0x0, false, false⟩,
    ⟨0x100, 8, 8, 1, 4096, .ro, 0x0, 0x0, true, false⟩]

/-- Page map of LOOP page 0x09E (R411). -/
def rows9E : List RegRow :=
  [
    ⟨0x040, 8, 32, 1, 4096, .rws, 0x0, 0x3, false, false⟩,
    ⟨0x044, 8, 32, 1, 4096, .rws, 0x0, 0xFFFF, false, false⟩,
    ⟨0x048, 8, 32, 1, 4096, .rws, 0x0, 0xFFFF, false, false⟩,
    ⟨0x04C, 8, 32, 1, 4096, .ro, 0x0, 0x0, false, false⟩,
    ⟨0x050, 8, 32, 1, 4096, .ro, 0x0, 0x0, false, false⟩,
    ⟨0x058, 8, 32, 1, 4096, .ro, 0x0, 0x0, true, false⟩]

/-- Page map of LOOP page 0x09F (R412). -/
def rows9F : List RegRow :=
  [
    ⟨0x040, 16, 4, 1, 4096, .ro, 0x0, 0x0, false, false⟩]

/-- Page map of CAN page 0x0A0 and those of its kind (R443). -/
def rowsA0 : List RegRow :=
  [
    ⟨0x010, 1, 4096, 1, 4096, .rws, 0x20, 0x1FFF, false, false⟩,
    ⟨0x014, 1, 4096, 1, 4096, .ro, 0x0, 0x0, false, false⟩,
    ⟨0x040, 1, 4096, 1, 4096, .rws, 0x1F1F7E00, 0x7F7FFF1F, false, false⟩,
    ⟨0x044, 1, 4096, 1, 4096, .rws, 0x7071E00, 0xF0F1F1F, false, false⟩,
    ⟨0x048, 1, 4096, 1, 4096, .rws, 0x2001, 0x7F01, false, false⟩,
    ⟨0x04C, 1, 4096, 1, 4096, .ro, 0x0, 0x0, false, false⟩,
    ⟨0x050, 1, 4096, 1, 4096, .ro, 0x0, 0x0, false, false⟩,
    ⟨0x054, 1, 4096, 1, 4096, .ro, 0x0, 0x0, false, false⟩,
    ⟨0x058, 1, 4096, 1, 4096, .ro, 0x0, 0x0, false, false⟩,
    ⟨0x05C, 1, 4096, 1, 4096, .ro, 0x0, 0x0, false, false⟩,
    ⟨0x060, 1, 4096, 1, 4096, .ro, 0x0, 0x0, false, false⟩,
    ⟨0x064, 1, 4096, 1, 4096, .ro, 0x0, 0x0, false, false⟩,
    ⟨0x068, 1, 4096, 1, 4096, .ro, 0x0, 0x0, false, false⟩,
    ⟨0x06C, 1, 4096, 1, 4096, .ro, 0x0, 0x0, false, false⟩,
    ⟨0x070, 1, 4096, 1, 4096, .ro, 0x0, 0x0, false, false⟩,
    ⟨0x074, 1, 4096, 1, 4096, .ro, 0x0, 0x0, false, false⟩,
    ⟨0x078, 1, 4096, 1, 4096, .ro, 0x0, 0x0, false, false⟩,
    ⟨0x07C, 1, 4096, 1, 4096, .ro, 0x0, 0x0, false, false⟩,
    ⟨0x080, 1, 4096, 1, 4096, .w1c, 0x0, 0x1, false, false⟩,
    ⟨0x084, 1, 4096, 1, 4096, .ro, 0x0, 0x0, false, false⟩,
    ⟨0x088, 1, 4096, 1, 4096, .ro, 0x0, 0x0, true, false⟩,
    ⟨0x0A0, 8, 4, 1, 4096, .w1c, 0x0, 0xFFFFFFFF, false, false⟩,
    ⟨0x0C0, 8, 4, 1, 4096, .w1c, 0x0, 0xFFFFFFFF, false, false⟩,
    ⟨0x0E0, 8, 4, 1, 4096, .ro, 0x0, 0x0, false, false⟩] ++ [
    ⟨0x100, 1, 4096, 1, 4096, .rws, 0x0, 0x3FFFFFFF, false, false⟩,
    ⟨0x104, 1, 4096, 1, 4096, .rws, 0x0, 0x1FFFFFFF, false, false⟩,
    ⟨0x108, 1, 4096, 1, 4096, .rws, 0x0, 0x1F, false, false⟩,
    ⟨0x10C, 1, 4096, 1, 4096, .rws, 0x0, 0xFFFFFFFFFFFFFFFF, true, false⟩,
    ⟨0x114, 1, 4096, 1, 4096, .ro, 0x0, 0x0, false, false⟩,
    ⟨0x120, 1, 4096, 1, 4096, .rws, 0x0, 0x7, false, false⟩,
    ⟨0x124, 1, 4096, 1, 4096, .rws, 0x0, 0x7FFFFFFF, false, false⟩,
    ⟨0x128, 1, 4096, 1, 4096, .rws, 0x3E8, 0xFFFF, false, false⟩,
    ⟨0x12C, 1, 4096, 1, 4096, .rws, 0x64, 0x3FFF, false, false⟩,
    ⟨0x130, 1, 4096, 1, 4096, .rws, 0x5DC, 0x1FFFF, false, false⟩,
    ⟨0x134, 1, 4096, 1, 4096, .ro, 0x0, 0x0, false, false⟩,
    ⟨0x138, 1, 4096, 1, 4096, .ro, 0x0, 0x0, false, false⟩,
    ⟨0x13C, 1, 4096, 1, 4096, .ro, 0x0, 0x0, false, false⟩,
    ⟨0x140, 1, 4096, 1, 4096, .ro, 0x0, 0x0, false, false⟩,
    ⟨0x144, 1, 4096, 1, 4096, .ro, 0x0, 0x0, false, false⟩,
    ⟨0x400, 128, 4, 1, 4096, .ro, 0x0, 0x0, false, false⟩,
    ⟨0xC00, 1, 4096, 1, 4096, .wo, 0x0, 0x0, false, false⟩,
    ⟨0xC04, 1, 4096, 1, 4096, .wo, 0x0, 0x0, false, false⟩,
    ⟨0xC08, 1, 4096, 1, 4096, .wo, 0x0, 0x0, false, false⟩,
    ⟨0xC0C, 1, 4096, 1, 4096, .rc, 0x0, 0x0, false, false⟩,
    ⟨0xC10, 1, 4096, 1, 4096, .wo, 0x0, 0x0, false, false⟩]

/-- Page map of CAN page 0x0A1 and those of its kind (R444). -/
def rowsA1 : List RegRow :=
  [
    ⟨0x040, 32, 16, 1, 4096, .rws, 0x0, 0xFFFFFFFF, false, false⟩,
    ⟨0x044, 32, 16, 1, 4096, .rws, 0x0, 0x7FFFFF, false, false⟩,
    ⟨0x048, 32, 16, 1, 4096, .rws, 0x64, 0xFFFFFF, false, false⟩,
    ⟨0x04C, 32, 16, 1, 4096, .ro, 0x0, 0x0, false, false⟩,
    ⟨0x400, 64, 8, 1, 4096, .rws, 0x0, 0x73FFF07, false, false⟩,
    ⟨0x404, 64, 8, 1, 4096, .rws, 0x0, 0xFFFF, false, false⟩]

/-- Page map of CAN page 0x0A2 and those of its kind (R445). -/
def rowsA2 : List RegRow :=
  [
    ⟨0x040, 192, 12, 1, 4096, .rws, 0x0, 0xFFFFFFFF, false, false⟩,
    ⟨0x044, 192, 12, 1, 4096, .rws, 0x0, 0x1FFFFFFF, false, false⟩,
    ⟨0x048, 192, 12, 1, 4096, .rws, 0x0, 0xFF1F, false, false⟩]

/-- Page map of CAN page 0x0A3 and those of its kind (R445). -/
def rowsA3 : List RegRow :=
  [
    ⟨0x040, 192, 12, 1, 4096, .rws, 0x0, 0xFFFFFFFF, false, false⟩,
    ⟨0x044, 192, 12, 1, 4096, .rws, 0x0, 0x1FFFFFFF, false, false⟩,
    ⟨0x048, 192, 12, 1, 4096, .rws, 0x0, 0xFF1F, false, false⟩]

/-- Page map of TMB page 0x050 (R478). -/
def rows50 : List RegRow :=
  [
    ⟨0x010, 1, 4096, 1, 4096, .rws, 0x1, 0x3, false, false⟩,
    ⟨0x014, 1, 4096, 1, 4096, .ro, 0x0, 0x0, false, false⟩,
    ⟨0x040, 1, 4096, 1, 4096, .ro, 0x0, 0x0, true, false⟩,
    ⟨0x048, 1, 4096, 1, 4096, .ro, 0x0, 0x0, true, false⟩,
    ⟨0x050, 1, 4096, 1, 4096, .rws, 0x4000, 0xFFFF, false, false⟩,
    ⟨0x054, 1, 4096, 1, 4096, .rws, 0x800, 0xFFFF, false, false⟩,
    ⟨0x058, 1, 4096, 1, 4096, .rws, 0x3E8, 0xFFFFF, false, false⟩,
    ⟨0x05C, 1, 4096, 1, 4096, .rws, 0x12C0008, 0xFFFF000F, false, false⟩,
    ⟨0x060, 1, 4096, 1, 4096, .rw, 0x0, 0xFFFFFFFFFFFFFFFF, true, false⟩,
    ⟨0x068, 1, 4096, 1, 4096, .ro, 0x0, 0x0, false, false⟩,
    ⟨0x06C, 1, 4096, 1, 4096, .ro, 0x0, 0x0, true, false⟩,
    ⟨0x074, 1, 4096, 1, 4096, .ro, 0x0, 0x0, false, false⟩,
    ⟨0x078, 1, 4096, 1, 4096, .rws, 0x25, 0xFFFF, false, true⟩,
    ⟨0x07C, 1, 4096, 1, 4096, .rws, 0x0, 0x3, false, false⟩,
    ⟨0xC00, 1, 4096, 1, 4096, .wo, 0x0, 0x0, false, false⟩]

/-- Page map of TMB page 0x051 (R478). -/
def rows51 : List RegRow :=
  [
    ⟨0x040, 1, 4096, 1, 4096, .rws, 0x0, 0x3, false, false⟩,
    ⟨0x044, 1, 4096, 1, 4096, .ro, 0x0, 0x0, true, false⟩,
    ⟨0x04C, 1, 4096, 1, 4096, .ro, 0x0, 0x0, false, false⟩,
    ⟨0x050, 1, 4096, 1, 4096, .ro, 0x0, 0x0, false, false⟩,
    ⟨0x054, 1, 4096, 1, 4096, .ro, 0x0, 0x0, true, false⟩,
    ⟨0xC00, 1, 4096, 1, 4096, .wo, 0x0, 0x0, false, false⟩]

/-- Page map of TMB page 0x053 (R478). -/
def rows53 : List RegRow :=
  [
    ⟨0x040, 1, 4096, 1, 4096, .ro, 0x0, 0x0, false, false⟩,
    ⟨0xC00, 1, 4096, 1, 4096, .wo, 0x0, 0x0, false, false⟩]

/-- Page map of ETH page 0x0B0 (R479). -/
def rowsB0 : List RegRow :=
  [
    ⟨0x010, 1, 4096, 1, 4096, .rws, 0x2, 0x3, false, false⟩,
    ⟨0x014, 1, 4096, 1, 4096, .ro, 0x0, 0x0, false, false⟩,
    ⟨0x040, 1, 4096, 1, 4096, .rws, 0x12C, 0xFFF, false, false⟩,
    ⟨0x044, 1, 4096, 1, 4096, .ro, 0x0, 0x0, false, false⟩,
    ⟨0x048, 1, 4096, 1, 4096, .ro, 0x0, 0x0, false, false⟩,
    ⟨0x04C, 1, 4096, 1, 4096, .ro, 0x0, 0x0, false, false⟩,
    ⟨0x080, 32, 8, 1, 4096, .rws, 0x0, 0x8F3FFFFFFFFFFFFF, true, false⟩,
    ⟨0x180, 16, 4, 1, 4096, .rws, 0x0, 0xBF3F0FFF, false, false⟩,
    ⟨0x1C0, 6, 4, 1, 4096, .rws, 0x1, 0x7FFF, false, false⟩]

/-- Page map of ETH page 0x0B1 and those of its kind (R479). -/
def rowsB1 : List RegRow :=
  [
    ⟨0x040, 1, 4096, 1, 4096, .rws, 0x0, 0x7, false, false⟩,
    ⟨0x044, 1, 4096, 1, 4096, .ro, 0x0, 0x0, false, false⟩,
    ⟨0x048, 1, 4096, 1, 4096, .rws, 0xFAC688, 0xFFFFFF, false, false⟩,
    ⟨0x04C, 1, 4096, 1, 4096, .ro, 0x0, 0x0, false, false⟩,
    ⟨0x050, 1, 4096, 1, 4096, .rws, 0x0, 0x1FF0001, false, false⟩,
    ⟨0x054, 1, 4096, 1, 4096, .rws, 0xF4240, 0x3FFFFFFF, false, false⟩,
    ⟨0x058, 1, 4096, 1, 4096, .rws, 0x0, 0xFFFFFFFFFFFFFFFF, true, false⟩,
    ⟨0x060, 1, 4096, 1, 4096, .ro, 0x0, 0x0, false, false⟩,
    ⟨0x064, 1, 4096, 1, 4096, .rws, 0x3E8, 0xFFFFF, false, false⟩,
    ⟨0x070, 1, 4096, 1, 4096, .ro, 0x0, 0x0, false, false⟩,
    ⟨0x074, 1, 4096, 1, 4096, .ro, 0x0, 0x0, false, false⟩,
    ⟨0x078, 1, 4096, 1, 4096, .ro, 0x0, 0x0, false, false⟩,
    ⟨0x07C, 1, 4096, 1, 4096, .ro, 0x0, 0x0, false, false⟩,
    ⟨0x080, 1, 4096, 1, 4096, .ro, 0x0, 0x0, false, false⟩,
    ⟨0x400, 256, 8, 1, 4096, .rws, 0x0, 0xFF, false, false⟩,
    ⟨0x404, 256, 8, 1, 4096, .rws, 0x0, 0x3FFFFFFF, false, false⟩]

/-- Page map of ETH page 0x0B5 (R479). -/
def rowsB5 : List RegRow :=
  [
    ⟨0x040, 1, 4096, 1, 4096, .rws, 0x0, 0xFFFFFFFFFF, true, false⟩,
    ⟨0x048, 1, 4096, 1, 4096, .rws, 0x10, 0x7FF, false, false⟩,
    ⟨0x04C, 1, 4096, 1, 4096, .rw, 0x0, 0x3FF, false, false⟩,
    ⟨0x050, 1, 4096, 1, 4096, .ro, 0x0, 0x0, false, false⟩,
    ⟨0x060, 1, 4096, 1, 4096, .rws, 0x0, 0xFFFFFFFFFF, true, false⟩,
    ⟨0x068, 1, 4096, 1, 4096, .rws, 0x10, 0x7FF, false, false⟩,
    ⟨0x06C, 1, 4096, 1, 4096, .rw, 0x0, 0x3FF, false, false⟩,
    ⟨0x070, 1, 4096, 1, 4096, .ro, 0x0, 0x0, false, false⟩,
    ⟨0x080, 1, 4096, 1, 4096, .rws, 0x1900000, 0x3FF0003, false, false⟩,
    ⟨0x084, 1, 4096, 1, 4096, .ro, 0x0, 0x0, false, false⟩,
    ⟨0x088, 1, 4096, 1, 4096, .ro, 0x0, 0x0, false, false⟩,
    ⟨0x08C, 1, 4096, 1, 4096, .ro, 0x0, 0x0, false, false⟩,
    ⟨0x09C, 1, 4096, 1, 4096, .ro, 0x0, 0x0, false, false⟩,
    ⟨0x0A0, 1, 4096, 1, 4096, .w1c, 0x0, 0x1, false, false⟩,
    ⟨0x0A4, 1, 4096, 1, 4096, .ro, 0x0, 0x0, false, false⟩]

/-- Page map of ETH page 0x0B6 (R479). -/
def rowsB6 : List RegRow :=
  [
    ⟨0x010, 1, 4096, 1, 4096, .rws, 0x1, 0x1, false, false⟩,
    ⟨0x040, 32, 32, 1, 4096, .rws, 0x0, 0xFFFFF, false, false⟩,
    ⟨0x044, 32, 32, 1, 4096, .rws, 0x3C, 0x7FF07FF, false, false⟩,
    ⟨0x048, 32, 32, 1, 4096, .rws, 0x0, 0x7FF, false, false⟩,
    ⟨0x04C, 32, 32, 1, 4096, .rws, 0x2710, 0x3FFFFFFF, false, false⟩,
    ⟨0x050, 32, 32, 1, 4096, .rws, 0x0, 0x3FFFFFFF, false, false⟩,
    ⟨0x054, 32, 32, 1, 4096, .ro, 0x0, 0x0, false, false⟩,
    ⟨0x440, 1, 4096, 1, 4096, .rws, 0x0, 0xFFFFFFFFFF, true, false⟩]

/-- Page map of ETH page 0x0B7 (R479). -/
def rowsB7 : List RegRow :=
  [
    ⟨0x040, 64, 32, 1, 4096, .rws, 0x0, 0x7FFFF, false, false⟩,
    ⟨0x044, 64, 32, 1, 4096, .rws, 0x0, 0x7FFFFF, false, false⟩,
    ⟨0x048, 64, 32, 1, 4096, .rws, 0x0, 0xFFFFFFFF, false, false⟩,
    ⟨0x04C, 64, 32, 1, 4096, .rws, 0x0, 0xFFFFFFFF, false, false⟩,
    ⟨0x050, 64, 32, 1, 4096, .rws, 0x1, 0x7FF07FF, false, false⟩,
    ⟨0x054, 64, 32, 1, 4096, .rws, 0x0, 0xFFFFFF, false, false⟩,
    ⟨0x058, 64, 32, 1, 4096, .ro, 0x0, 0x0, false, false⟩,
    ⟨0x840, 1, 4096, 1, 4096, .rws, 0x0, 0xFFFFFFFFFF, true, false⟩]

/-- Page map of ETH page 0x0B8 (R479). -/
def rowsB8 : List RegRow :=
  [
    ⟨0x040, 1, 4096, 1, 4096, .rws, 0x8, 0x3F, false, false⟩,
    ⟨0x044, 4, 4, 1, 4096, .rws, 0x0, 0xFFFFF, false, false⟩,
    ⟨0x060, 1, 4096, 1, 4096, .ro, 0x0, 0x0, false, false⟩,
    ⟨0x064, 1, 4096, 1, 4096, .w1c, 0x0, 0x1, false, false⟩,
    ⟨0x068, 1, 4096, 1, 4096, .ro, 0x0, 0x0, true, false⟩,
    ⟨0x070, 1, 4096, 1, 4096, .ro, 0x0, 0x0, false, false⟩,
    ⟨0xC00, 1, 4096, 1, 4096, .rc, 0x0, 0x0, false, false⟩]

/-- Page map of SVR page 0x0B9 (R479). -/
def rowsB9 : List RegRow :=
  [
    ⟨0x040, 1, 4096, 1, 4096, .rws, 0x0, 0xFFFFFFFFFF, true, false⟩,
    ⟨0x048, 1, 4096, 1, 4096, .rws, 0x10, 0x7FF, false, false⟩,
    ⟨0x04C, 1, 4096, 1, 4096, .rw, 0x0, 0x3FF, false, false⟩,
    ⟨0x050, 1, 4096, 1, 4096, .ro, 0x0, 0x0, false, false⟩,
    ⟨0x060, 1, 4096, 1, 4096, .rws, 0x0, 0xFFFFFFFFFF, true, false⟩,
    ⟨0x068, 1, 4096, 1, 4096, .rws, 0x10, 0x7FF, false, false⟩,
    ⟨0x06C, 1, 4096, 1, 4096, .rw, 0x0, 0x3FF, false, false⟩,
    ⟨0x070, 1, 4096, 1, 4096, .ro, 0x0, 0x0, false, false⟩,
    ⟨0x0A0, 1, 4096, 1, 4096, .w1c, 0x0, 0x1, false, false⟩,
    ⟨0x0A4, 1, 4096, 1, 4096, .ro, 0x0, 0x0, false, false⟩]

/-- Page map of GWY page 0x0C0 (R487). -/
def rowsC0 : List RegRow :=
  [
    ⟨0x010, 1, 4096, 1, 4096, .rws, 0x0, 0x1, false, false⟩,
    ⟨0x014, 1, 4096, 1, 4096, .ro, 0x0, 0x0, false, false⟩,
    ⟨0x040, 1, 4096, 1, 4096, .ro, 0x0, 0x0, false, false⟩,
    ⟨0x044, 1, 4096, 1, 4096, .ro, 0x0, 0x0, false, false⟩,
    ⟨0xC00, 1, 4096, 1, 4096, .wo, 0x0, 0x0, false, false⟩]

/-- Page map of GWY page 0x0C1 and those of its kind (R487). -/
def rowsC1 : List RegRow :=
  [
    ⟨0x040, 64, 32, 1, 4096, .rws, 0x0, 0x8000FF0F, false, false⟩,
    ⟨0x044, 64, 32, 1, 4096, .rws, 0x0, 0x33F1FFF, false, false⟩,
    ⟨0x048, 64, 32, 1, 4096, .rws, 0x0, 0x1F0F, false, false⟩,
    ⟨0x04C, 64, 32, 1, 4096, .rws, 0x0, 0x33F1FFF, false, false⟩,
    ⟨0x050, 64, 32, 1, 4096, .rws, 0x0, 0x3FFFF, false, false⟩,
    ⟨0x054, 64, 32, 1, 4096, .rws, 0x0, 0xFFFFFFFFFFFFFFFF, true, false⟩]

/-- Page map of GWY page 0x0C3 (R487). -/
def rowsC3 : List RegRow :=
  [
    ⟨0x040, 128, 16, 1, 4096, .ro, 0x0, 0x0, true, false⟩,
    ⟨0x048, 128, 16, 1, 4096, .ro, 0x0, 0x0, false, false⟩,
    ⟨0x04C, 128, 16, 1, 4096, .ro, 0x0, 0x0, false, false⟩]

/-- Page map of HRB page 0x0C4 (R504). -/
def rowsC4 : List RegRow :=
  [
    ⟨0x010, 1, 4096, 1, 4096, .rws, 0x2, 0x3, false, false⟩,
    ⟨0x014, 1, 4096, 1, 4096, .ro, 0x0, 0x0, false, false⟩,
    ⟨0x040, 4, 16, 1, 4096, .rws, 0x0, 0xFFFFFF, false, false⟩,
    ⟨0x044, 4, 16, 1, 4096, .rws, 0x0, 0xFFFFFF, false, false⟩,
    ⟨0x048, 4, 16, 1, 4096, .rws, 0x0, 0x1FFF, false, false⟩,
    ⟨0x080, 1, 4096, 1, 4096, .rws, 0xA, 0x3FF, false, false⟩,
    ⟨0x084, 1, 4096, 1, 4096, .rws, 0x0, 0xFF, false, false⟩,
    ⟨0x088, 1, 4096, 1, 4096, .ro, 0x0, 0x0, false, false⟩,
    ⟨0x08C, 1, 4096, 1, 4096, .ro, 0x0, 0x0, false, false⟩,
    ⟨0x090, 1, 4096, 1, 4096, .ro, 0x0, 0x0, false, false⟩,
    ⟨0x094, 1, 4096, 1, 4096, .ro, 0x0, 0x0, false, false⟩,
    ⟨0x098, 1, 4096, 1, 4096, .ro, 0x0, 0x0, false, false⟩,
    ⟨0x09C, 1, 4096, 1, 4096, .ro, 0x0, 0x0, false, false⟩,
    ⟨0x0A0, 1, 4096, 1, 4096, .ro, 0x0, 0x0, false, false⟩,
    ⟨0xC00, 1, 4096, 1, 4096, .wo, 0x0, 0x0, false, false⟩]

/-- Page map of HRB page 0x0C5 (R504). -/
def rowsC5 : List RegRow :=
  [
    ⟨0x040, 32, 32, 1, 4096, .rws, 0x0, 0x1FF, false, false⟩,
    ⟨0x044, 32, 32, 1, 4096, .rws, 0x0, 0xFFFFFF, false, false⟩,
    ⟨0x048, 32, 32, 1, 4096, .rws, 0x0, 0xFFFFF, false, false⟩,
    ⟨0x04C, 32, 32, 1, 4096, .ro, 0x0, 0x0, false, false⟩,
    ⟨0x050, 32, 32, 1, 4096, .ro, 0x0, 0x0, false, false⟩,
    ⟨0x054, 32, 32, 1, 4096, .ro, 0x0, 0x0, true, false⟩]

/-- Page map of EVR page 0x0C8 (R526). -/
def rowsC8 : List RegRow :=
  [
    ⟨0x010, 1, 4096, 1, 4096, .rws, 0x2, 0x7, false, false⟩,
    ⟨0x014, 1, 4096, 1, 4096, .ro, 0x0, 0x0, false, false⟩,
    ⟨0x040, 1, 4096, 1, 4096, .rwl, 0x6400, 0xFF01, false, false⟩,
    ⟨0x044, 1, 4096, 1, 4096, .rws, 0x3E8, 0xFFFF, false, false⟩,
    ⟨0x048, 1, 4096, 1, 4096, .ro, 0x0, 0x0, false, false⟩,
    ⟨0x04C, 1, 4096, 1, 4096, .ro, 0x0, 0x0, false, false⟩,
    ⟨0x050, 1, 4096, 1, 4096, .ro, 0x0, 0x0, true, false⟩,
    ⟨0x058, 1, 4096, 1, 4096, .ro, 0x0, 0x0, true, false⟩,
    ⟨0x060, 1, 4096, 1, 4096, .ro, 0x0, 0x0, false, false⟩,
    ⟨0x064, 1, 4096, 1, 4096, .ro, 0x0, 0x0, false, false⟩,
    ⟨0x068, 1, 4096, 1, 4096, .ro, 0x0, 0x0, false, false⟩,
    ⟨0xC00, 1, 4096, 1, 4096, .wo, 0x0, 0x0, false, false⟩,
    ⟨0xC04, 1, 4096, 1, 4096, .wo, 0x0, 0x0, false, false⟩,
    ⟨0xC08, 1, 4096, 1, 4096, .wo, 0x0, 0x0, false, false⟩]

/-- Page map of EVR page 0x0C9 (R526). -/
def rowsC9 : List RegRow :=
  [
    ⟨0x040, 1, 4096, 1, 4096, .rw, 0x0, 0xFFFFFFFFFFFFFFFF, true, false⟩,
    ⟨0x048, 1, 4096, 1, 4096, .ro, 0x0, 0x0, false, false⟩,
    ⟨0x080, 16, 4, 1, 4096, .ro, 0x0, 0x0, false, false⟩,
    ⟨0x100, 1, 4096, 1, 4096, .rw, 0x0, 0x7FFFF, false, false⟩,
    ⟨0x104, 8, 4, 1, 4096, .rw, 0x0, 0xFFFFFFFF, false, false⟩,
    ⟨0xC00, 1, 4096, 1, 4096, .wo, 0x0, 0x0, false, false⟩,
    ⟨0xC04, 1, 4096, 1, 4096, .wo, 0x0, 0x0, false, false⟩]

/-- Page map of LIFE page 0x0CA (R527). -/
def rowsCA : List RegRow :=
  [
    ⟨0x014, 1, 4096, 1, 4096, .ro, 0x0, 0x0, false, false⟩,
    ⟨0x040, 1, 4096, 1, 4096, .rws, 0xA, 0x3FF, false, false⟩,
    ⟨0x044, 1, 4096, 1, 4096, .ro, 0x0, 0x0, false, true⟩,
    ⟨0x100, 128, 8, 1, 4096, .ro, 0x0, 0x0, true, true⟩,
    ⟨0xC00, 1, 4096, 1, 4096, .wo, 0x0, 0x0, false, false⟩]

/-- Page map of LIFE page 0x0CB (R527). -/
def rowsCB : List RegRow :=
  [
    ⟨0x040, 128, 4, 1, 4096, .rwl, 0x0, 0xFFFF000F, false, false⟩,
    ⟨0x240, 128, 8, 1, 4096, .rws, 0xFFFFFFFF, 0xFFFFFFFFFFFFFFFF, true, false⟩,
    ⟨0x680, 4, 4, 1, 4096, .w1c, 0x0, 0xFFFFFFFF, false, false⟩,
    ⟨0x700, 1, 4096, 1, 4096, .ro, 0x0, 0x0, true, true⟩,
    ⟨0x708, 1, 4096, 1, 4096, .ro, 0x0, 0x0, false, true⟩,
    ⟨0x70C, 1, 4096, 1, 4096, .ro, 0x0, 0x0, false, true⟩,
    ⟨0x710, 1, 4096, 1, 4096, .ro, 0x0, 0x0, false, true⟩,
    ⟨0x714, 1, 4096, 1, 4096, .ro, 0x0, 0x0, false, false⟩,
    ⟨0x720, 1, 4096, 1, 4096, .rw, 0x0, 0xFFFFFFFFFFFFFFFF, true, false⟩,
    ⟨0xC00, 1, 4096, 1, 4096, .wo, 0x0, 0x0, false, false⟩]

/-- Page map of RDN page 0x0D0 (R546). -/
def rowsD0 : List RegRow :=
  [
    ⟨0x010, 1, 4096, 1, 4096, .rws, 0x1, 0x1, false, false⟩,
    ⟨0x014, 1, 4096, 1, 4096, .ro, 0x0, 0x0, false, false⟩,
    ⟨0x040, 1, 4096, 1, 4096, .rwl, 0x0, 0x3F3F01, false, false⟩,
    ⟨0x044, 1, 4096, 1, 4096, .rws, 0x3, 0x3F, false, false⟩,
    ⟨0x048, 1, 4096, 1, 4096, .rws, 0x3C, 0xFFF, false, false⟩,
    ⟨0x04C, 1, 4096, 1, 4096, .ro, 0x0, 0x0, false, false⟩,
    ⟨0x050, 1, 4096, 1, 4096, .ro, 0x0, 0x0, false, false⟩,
    ⟨0x054, 1, 4096, 1, 4096, .ro, 0x0, 0x0, false, false⟩,
    ⟨0x058, 1, 4096, 1, 4096, .ro, 0x0, 0x0, true, false⟩,
    ⟨0x060, 1, 4096, 1, 4096, .ro, 0x0, 0x0, false, false⟩,
    ⟨0xC00, 1, 4096, 1, 4096, .wo, 0x0, 0x0, false, false⟩]

/-- Page map of RDN page 0x0D1 (R546). -/
def rowsD1 : List RegRow :=
  [
    ⟨0x040, 1, 4096, 1, 4096, .rws, 0x1, 0xFFFF, false, false⟩,
    ⟨0x044, 1, 4096, 1, 4096, .rws, 0x64, 0x3FFF, false, false⟩,
    ⟨0x048, 1, 4096, 1, 4096, .ro, 0x0, 0x0, false, false⟩,
    ⟨0x04C, 1, 4096, 1, 4096, .ro, 0x0, 0x0, false, false⟩,
    ⟨0x050, 1, 4096, 1, 4096, .ro, 0x0, 0x0, false, false⟩,
    ⟨0x054, 1, 4096, 1, 4096, .ro, 0x0, 0x0, false, false⟩,
    ⟨0x058, 1, 4096, 1, 4096, .ro, 0x0, 0x0, false, false⟩,
    ⟨0x05C, 1, 4096, 1, 4096, .ro, 0x0, 0x0, false, false⟩,
    ⟨0x060, 1, 4096, 1, 4096, .ro, 0x0, 0x0, false, false⟩,
    ⟨0x080, 6, 8, 1, 4096, .ro, 0x0, 0x0, true, false⟩]

/-- Page map of MGT page 0x0CE (R560). -/
def rowsCE : List RegRow :=
  [
    ⟨0x010, 1, 4096, 1, 4096, .rws, 0x1, 0x1, false, false⟩,
    ⟨0x014, 1, 4096, 1, 4096, .ro, 0x1, 0x0, false, false⟩,
    ⟨0x040, 1, 4096, 1, 4096, .rwl, 0x1, 0xFF, false, false⟩,
    ⟨0x044, 1, 4096, 1, 4096, .ro, 0x1, 0x0, false, false⟩,
    ⟨0x048, 1, 4096, 1, 4096, .ro, 0xFF00FE, 0x0, false, false⟩,
    ⟨0x04C, 3, 4, 1, 4096, .ro, 0x0, 0x0, false, false⟩,
    ⟨0x058, 1, 4096, 1, 4096, .ro, 0x0, 0x0, false, false⟩,
    ⟨0x05C, 1, 4096, 1, 4096, .ro, 0x0, 0x0, false, false⟩]

/-- Page map of MGT page 0x0CF (R560). -/
def rowsCF : List RegRow :=
  [
    ⟨0x040, 1, 4096, 1, 4096, .ro, 0x0, 0x0, false, false⟩,
    ⟨0x044, 1, 4096, 1, 4096, .ro, 0x0, 0x0, false, false⟩,
    ⟨0x048, 1, 4096, 1, 4096, .ro, 0x0, 0x0, false, false⟩,
    ⟨0x04C, 1, 4096, 1, 4096, .ro, 0x0, 0x0, false, false⟩,
    ⟨0x050, 1, 4096, 1, 4096, .ro, 0x0, 0x0, false, false⟩,
    ⟨0x054, 1, 4096, 1, 4096, .ro, 0x0, 0x0, false, false⟩,
    ⟨0xC00, 1, 4096, 1, 4096, .wo, 0x0, 0x0, false, false⟩]

/-- Page map of UPD page 0x0CC (R580). -/
def rowsCC : List RegRow :=
  [
    ⟨0x010, 1, 4096, 1, 4096, .rws, 0x1, 0x1, false, false⟩,
    ⟨0x014, 1, 4096, 1, 4096, .ro, 0x0, 0x0, false, false⟩,
    ⟨0x040, 1, 4096, 1, 4096, .rws, 0xA9FE0001, 0xFFFFFFFF, false, false⟩,
    ⟨0x044, 1, 4096, 1, 4096, .ro, 0x0, 0x0, false, false⟩,
    ⟨0x048, 1, 4096, 1, 4096, .rw, 0x0, 0xFFFFFFFF, false, false⟩,
    ⟨0x04C, 1, 4096, 1, 4096, .ro, 0x0, 0x0, false, false⟩,
    ⟨0x050, 4, 4, 1, 4096, .ro, 0x0, 0x0, false, false⟩,
    ⟨0x060, 1, 4096, 1, 4096, .ro, 0x0, 0x0, false, false⟩,
    ⟨0x064, 1, 4096, 1, 4096, .ro, 0x0, 0x0, false, false⟩,
    ⟨0x068, 1, 4096, 1, 4096, .rw, 0x0, 0xFFFFFFFFFF, true, false⟩,
    ⟨0x070, 1, 4096, 1, 4096, .rw, 0x0, 0x1FFFFF, false, false⟩,
    ⟨0xC00, 1, 4096, 1, 4096, .wo, 0x0, 0x0, false, false⟩]

/-- Page map of UPD page 0x0CD (R580). -/
def rowsCD : List RegRow :=
  [
    ⟨0x040, 1, 4096, 1, 4096, .rw, 0x0, 0xFFFFFFFFFFFFFFFF, true, false⟩,
    ⟨0x048, 1, 4096, 1, 4096, .rw, 0xE10, 0xFFFFF, false, false⟩,
    ⟨0x04C, 1, 4096, 1, 4096, .ro, 0x0, 0x0, false, false⟩,
    ⟨0x050, 1, 4096, 1, 4096, .ro, 0x24, 0x0, false, true⟩,
    ⟨0x054, 1, 4096, 1, 4096, .ro, 0x0, 0x0, false, true⟩,
    ⟨0x058, 1, 4096, 1, 4096, .ro, 0x0, 0x0, true, true⟩,
    ⟨0x060, 1, 4096, 1, 4096, .ro, 0x0, 0x0, true, true⟩,
    ⟨0x068, 1, 4096, 1, 4096, .ro, 0x0, 0x0, true, true⟩,
    ⟨0x070, 1, 4096, 1, 4096, .ro, 0x0, 0x0, false, true⟩,
    ⟨0x074, 1, 4096, 1, 4096, .ro, 0x0, 0x0, false, false⟩,
    ⟨0x078, 1, 4096, 1, 4096, .ro, 0x0, 0x0, false, false⟩,
    ⟨0xC00, 1, 4096, 1, 4096, .wo, 0x0, 0x0, false, false⟩]

/-- Page map of PMC page 0x0D4 and those of its kind (R593). -/
def rowsD4 : List RegRow :=
  [
    ⟨0x010, 1, 4096, 1, 4096, .rws, 0x0, 0x3, false, false⟩,
    ⟨0x014, 1, 4096, 1, 4096, .ro, 0x0, 0x0, false, false⟩,
    ⟨0x040, 8, 4, 1, 4096, .rws, 0x0, 0xFFF, false, false⟩,
    ⟨0x060, 8, 8, 1, 4096, .rw, 0x0, 0xFFFFFFFFFFFFFFFF, true, false⟩,
    ⟨0x0A0, 8, 8, 1, 4096, .rws, 0x0, 0xFFFFFFFFFFFFFFFF, true, false⟩,
    ⟨0x0E0, 1, 4096, 1, 4096, .w1c, 0x0, 0xFF, false, false⟩,
    ⟨0x0E4, 1, 4096, 1, 4096, .ro, 0x0, 0x0, false, false⟩,
    ⟨0x100, 8, 8, 1, 4096, .ro, 0x0, 0x0, true, false⟩,
    ⟨0x140, 1, 4096, 1, 4096, .ro, 0x0, 0x0, true, false⟩,
    ⟨0x180, 1, 4096, 1, 4096, .ro, 0x0, 0x0, false, false⟩,
    ⟨0x184, 1, 4096, 1, 4096, .rws, 0x800, 0x1FFF, false, false⟩,
    ⟨0x188, 1, 4096, 1, 4096, .ro, 0x0, 0x0, false, false⟩,
    ⟨0x18C, 1, 4096, 1, 4096, .rws, 0x0, 0xFFFFFFFF, false, false⟩,
    ⟨0x1A0, 8, 4, 1, 4096, .ro, 0x0, 0x0, false, false⟩,
    ⟨0x200, 1, 4096, 1, 4096, .rws, 0x8, 0xF, false, false⟩,
    ⟨0x204, 1, 4096, 1, 4096, .ro, 0x0, 0x0, false, false⟩,
    ⟨0x208, 1, 4096, 1, 4096, .ro, 0x0, 0x0, false, false⟩,
    ⟨0x220, 8, 4, 1, 4096, .ro, 0x0, 0x0, false, false⟩,
    ⟨0xC00, 1, 4096, 1, 4096, .wo, 0x0, 0x0, false, false⟩,
    ⟨0xC04, 1, 4096, 1, 4096, .rc, 0x0, 0x0, false, false⟩,
    ⟨0xC08, 1, 4096, 1, 4096, .rc, 0x0, 0x0, false, false⟩,
    ⟨0xC0C, 1, 4096, 1, 4096, .wo, 0x0, 0x0, false, false⟩]

/-- Page map of SYS page 0x000 (R617). -/
def rows00 : List RegRow :=
  [
    ⟨0x040, 1, 4096, 1, 4096, .ro, 0x4840, 0x0, false, true⟩,
    ⟨0x044, 1, 4096, 1, 4096, .ro, 0x3, 0x0, false, true⟩,
    ⟨0x048, 1, 4096, 1, 4096, .ro, 0x0, 0x0, true, true⟩,
    ⟨0x050, 1, 4096, 1, 4096, .ro, 0x1, 0x0, false, false⟩,
    ⟨0x054, 1, 4096, 1, 4096, .ro, 0x0, 0x0, false, false⟩,
    ⟨0x058, 1, 4096, 1, 4096, .ro, 0x0, 0x0, false, false⟩,
    ⟨0x05C, 1, 4096, 1, 4096, .ro, 0x3, 0x0, false, true⟩]

/-- Page map of SYS page 0x001 (R617). -/
def rows01 : List RegRow :=
  [
    ⟨0x040, 1, 4096, 1, 4096, .ro, 0x0, 0x0, false, true⟩,
    ⟨0x044, 1, 4096, 1, 4096, .ro, 0x0, 0x0, false, false⟩,
    ⟨0xC00, 1, 4096, 1, 4096, .wo, 0x0, 0x0, false, false⟩]

/-- Page map of SYS page 0x002 (R617). -/
def rows02 : List RegRow :=
  [
    ⟨0x040, 1, 4096, 1, 4096, .ro, 0x0, 0x0, false, true⟩,
    ⟨0x044, 1, 4096, 1, 4096, .ro, 0x1, 0x0, false, true⟩,
    ⟨0x048, 1, 4096, 1, 4096, .ro, 0x0, 0x0, false, true⟩,
    ⟨0x100, 4, 48, 12, 4, .ro, 0x0, 0x0, false, true⟩,
    ⟨0xC00, 1, 4096, 1, 4096, .wo, 0x0, 0x0, false, false⟩]

/-- Page map of PWR page 0x004 (R618). -/
def rows04 : List RegRow :=
  [
    ⟨0x014, 1, 4096, 1, 4096, .ro, 0x0, 0x0, false, false⟩,
    ⟨0x040, 1, 4096, 1, 4096, .ro, 0x0, 0x0, false, false⟩,
    ⟨0x044, 1, 4096, 1, 4096, .ro, 0x0, 0x0, false, false⟩,
    ⟨0x048, 1, 4096, 1, 4096, .ro, 0x0, 0x0, false, false⟩,
    ⟨0x04C, 1, 4096, 1, 4096, .ro, 0x0, 0x0, false, true⟩,
    ⟨0x050, 1, 4096, 1, 4096, .ro, 0x0, 0x0, false, true⟩,
    ⟨0x054, 1, 4096, 1, 4096, .ro, 0x0, 0x0, false, true⟩,
    ⟨0x058, 1, 4096, 1, 4096, .ro, 0x0, 0x0, false, true⟩,
    ⟨0x05C, 1, 4096, 1, 4096, .ro, 0x0, 0x0, false, true⟩,
    ⟨0x060, 1, 4096, 1, 4096, .ro, 0x0, 0x0, false, false⟩]

/-- Page map of PWR page 0x005 (R618). -/
def rows05 : List RegRow :=
  [
    ⟨0x040, 4, 4, 1, 4096, .ro, 0x0, 0x0, false, false⟩,
    ⟨0x050, 1, 4096, 1, 4096, .ro, 0x0, 0x0, false, false⟩,
    ⟨0x060, 2, 4, 1, 4096, .ro, 0x0, 0x0, false, false⟩,
    ⟨0x068, 2, 4, 1, 4096, .rws, 0x55F00C0, 0xFFFFFFFF, false, false⟩,
    ⟨0x070, 1, 4096, 1, 4096, .ro, 0x0, 0x0, false, false⟩]

/-- The header rows that every allocated page carries (R41), but for CTRL and STAT, which the page's own map gives. -/
def rowsHead : List RegRow :=
  [⟨0x008, 1, 4096, 1, 4096, .rwl, 0, 0xFF, false, false⟩,
    ⟨0x00C, 1, 4096, 1, 4096, .rw, 0, 0xFFFF0003, false, false⟩,
    ⟨0x018, 1, 4096, 1, 4096, .ro, 0, 0, false, false⟩,
    ⟨0x01C, 1, 4096, 1, 4096, .rw, 0, 0xFFFFFFFF, false, false⟩,
    ⟨0x020, 1, 4096, 1, 4096, .ro, 0, 0, false, false⟩,
    ⟨0x024, 1, 4096, 1, 4096, .w1c, 0, 0xFFFFFFFF, false, false⟩,
    ⟨0x028, 1, 4096, 1, 4096, .ro, 0, 0, false, false⟩,
    ⟨0x02C, 1, 4096, 1, 4096, .ro, 0, 0, false, false⟩,
    ⟨0x030, 1, 4096, 1, 4096, .rw, 0, 0xFFFF0773, false, false⟩,
    ⟨0x034, 1, 4096, 1, 4096, .ro, 0, 0, false, false⟩,
    ⟨0x038, 1, 4096, 1, 4096, .ro, 0, 0, false, false⟩,
    ⟨0xFFC, 1, 4096, 1, 4096, .wo, 0, 0, false, false⟩]

/-- The rows of a page beyond the common header; none where the block's chapter gives the page only the header. -/
def pageRows (p : Nat) : List RegRow :=
  if p = 0x8 then rows08
  else if p = 0x9 then rows09
  else if p = 0xA then rows0A
  else if p = 0xB then rows0B
  else if 0xC ≤ p ∧ p ≤ 0x13 then rows0C
  else if 0x41 ≤ p ∧ p ≤ 0x48 then rows41
  else if p = 0x40 then rows40
  else if p = 0x49 then rows49
  else if 0x4A ≤ p ∧ p ≤ 0x4D then rows4A
  else if p = 0x4E then rows4E
  else if p = 0x4F then rows4F
  else if 0x20 ≤ p ∧ p ≤ 0x26 ∧ (p - 0x20) % 2 = 0 then rows20
  else if 0x21 ≤ p ∧ p ≤ 0x27 ∧ (p - 0x21) % 2 = 0 then rows21
  else if p = 0x28 then rows28
  else if p = 0x29 then rows29
  else if p = 0x2A then rows2A
  else if p = 0x2B then rows2B
  else if 0x30 ≤ p ∧ p ≤ 0x35 then rows30
  else if p = 0x60 then rows60
  else if 0x61 ≤ p ∧ p ≤ 0x63 then rows61
  else if p = 0x64 then rows64
  else if p = 0x65 then rows65
  else if p = 0x66 then rows66
  else if p = 0x67 then rows67
  else if p = 0x68 then rows68
  else if p = 0x69 then rows69
  else if p = 0x6A then rows6A
  else if p = 0x6B then rows6B
  else if 0x6C ≤ p ∧ p ≤ 0x6F then rows6C
  else if 0x70 ≤ p ∧ p ≤ 0x73 then rows70
  else if p = 0x74 then rows74
  else if p = 0x75 then rows75
  else if p = 0x80 then rows80
  else if p = 0x81 then rows81
  else if p = 0x82 then rows82
  else if p = 0x83 then rows83
  else if 0x88 ≤ p ∧ p ≤ 0x8E ∧ (p - 0x88) % 2 = 0 then rows88
  else if 0x89 ≤ p ∧ p ≤ 0x8F ∧ (p - 0x89) % 2 = 0 then rows89
  else if p = 0x90 then rows90
  else if p = 0x91 then rows91
  else if p = 0x92 then rows92
  else if 0x93 ≤ p ∧ p ≤ 0x96 then rows93
  else if p = 0x97 then rows97
  else if p = 0x98 then rows98
  else if 0x99 ≤ p ∧ p ≤ 0x9A then rows99
  else if p = 0x9B then rows9B
  else if p = 0x9C then rows9C
  else if p = 0x9D then rows9D
  else if p = 0x9E then rows9E
  else if p = 0x9F then rows9F
  else if 0xA0 ≤ p ∧ p ≤ 0xAC ∧ (p - 0xA0) % 4 = 0 then rowsA0
  else if 0xA1 ≤ p ∧ p ≤ 0xAD ∧ (p - 0xA1) % 4 = 0 then rowsA1
  else if 0xA2 ≤ p ∧ p ≤ 0xAE ∧ (p - 0xA2) % 4 = 0 then rowsA2
  else if 0xA3 ≤ p ∧ p ≤ 0xAF ∧ (p - 0xA3) % 4 = 0 then rowsA3
  else if p = 0x50 then rows50
  else if p = 0x51 then rows51
  else if p = 0x53 then rows53
  else if p = 0xB0 then rowsB0
  else if 0xB1 ≤ p ∧ p ≤ 0xB4 then rowsB1
  else if p = 0xB5 then rowsB5
  else if p = 0xB6 then rowsB6
  else if p = 0xB7 then rowsB7
  else if p = 0xB8 then rowsB8
  else if p = 0xB9 then rowsB9
  else if p = 0xC0 then rowsC0
  else if 0xC1 ≤ p ∧ p ≤ 0xC2 then rowsC1
  else if p = 0xC3 then rowsC3
  else if p = 0xC4 then rowsC4
  else if p = 0xC5 then rowsC5
  else if p = 0xC8 then rowsC8
  else if p = 0xC9 then rowsC9
  else if p = 0xCA then rowsCA
  else if p = 0xCB then rowsCB
  else if p = 0xD0 then rowsD0
  else if p = 0xD1 then rowsD1
  else if p = 0xCE then rowsCE
  else if p = 0xCF then rowsCF
  else if p = 0xCC then rowsCC
  else if p = 0xCD then rowsCD
  else if 0xD4 ≤ p ∧ p ≤ 0xD7 then rowsD4
  else if p = 0x0 then rows00
  else if p = 0x1 then rows01
  else if p = 0x2 then rows02
  else if p = 0x4 then rows04
  else if p = 0x5 then rows05
  else []

/-- Does the row hold the word at page offset `o`? -/
def RegRow.covers (r : RegRow) (o : Nat) : Bool :=
  r.ofs ≤ o &&
  (let d := o - r.ofs
   let i := d / r.s1
   let j := d % r.s1 / r.s2
   let k := d % r.s1 % r.s2
   decide (i < r.n1) && decide (j < r.n2) && (k == 0 || (r.wide && k == 4)))

/-- Is the word at page offset `o` the HI half of a pair of this row? -/
def RegRow.isHi (r : RegRow) (o : Nat) : Bool := r.wide && (o - r.ofs) % r.s1 % r.s2 == 4

/-- The bits that exist in the word at page offset `o`; the mask of a pair gives LO in its low half. -/
def RegRow.maskAt (r : RegRow) (o : Nat) : Nat :=
  if r.isHi o then r.mask / 2 ^ 32 else r.mask % 2 ^ 32

/-- The row of the page map that gives the register at offset `x` of the register space. -/
def rowOf (x : Nat) : Option RegRow :=
  (rowsHead ++ pageRows (x / 4096)).find? (fun r => r.covers (x % 4096))

/-- The value a register holds at reset. -/
def resetOf (x : Nat) : Nat :=
  match rowOf x with
  | some r => r.reset
  | none => 0

/-- The page offsets of every register of a row, pairs as two words, in ascending order for a row of one kind. -/
def RegRow.offsets (r : RegRow) : List Nat :=
  (List.range r.n1).flatMap fun i => (List.range r.n2).flatMap fun j =>
    if r.wide then [r.ofs + i * r.s1 + j * r.s2, r.ofs + i * r.s1 + j * r.s2 + 4]
    else [r.ofs + i * r.s1 + j * r.s2]

namespace R

/-- PCOMP of TEN (R34 R63). -/
abbrev TEN_PCOMP (i : Nat) : Nat := 0x8040 + 4 * i
/-- SPLIT of TEN (R34 R63). -/
abbrev TEN_SPLIT : Nat := 0x8058
/-- PSTATE of TEN (R34 R63). -/
abbrev TEN_PSTATE : Nat := 0x805C
/-- HOSTCFG of TEN (R34 R63). -/
abbrev TEN_HOSTCFG : Nat := 0x8060
/-- FABWT of TEN (R34 R63). -/
abbrev TEN_FABWT : Nat := 0x8064
/-- PRESET of TEN (R34 R63). -/
abbrev TEN_PRESET : Nat := 0x8C00
/-- OWN of TEN (R34 R63). -/
abbrev TEN_OWN (i : Nat) : Nat := 0x9040 + 4 * i
/-- GRANT of TEN (R34 R63). -/
abbrev TEN_GRANT (i : Nat) : Nat := 0xA040 + 4 * i
/-- DENYCNT of TEN (R34 R63). -/
abbrev TEN_DENYCNT : Nat := 0xB040
/-- DENYLAST of TEN (R34 R63). -/
abbrev TEN_DENYLAST : Nat := 0xB044
/-- DENYOFS of TEN (R34 R63). -/
abbrev TEN_DENYOFS : Nat := 0xB048
/-- DENYOVF of TEN (R34 R63). -/
abbrev TEN_DENYOVF : Nat := 0xB04C
/-- DENYPOP of TEN (R34 R63). -/
abbrev TEN_DENYPOP : Nat := 0xBC00
/-- VPEND of EVF (R632). -/
abbrev EVF_VPEND (p : Nat) : Nat := 0xC040 + 0x1000 * p
/-- VEN of EVF (R632). -/
abbrev EVF_VEN (p : Nat) : Nat := 0xC048 + 0x1000 * p
/-- VNEXT of EVF (R632). -/
abbrev EVF_VNEXT (p : Nat) : Nat := 0xC050 + 0x1000 * p
/-- ROUTE of EVF (R632). -/
abbrev EVF_ROUTE (p i : Nat) : Nat := 0xC400 + 0x1000 * p + 4 * i
/-- CTRL of AXS (R121). -/
abbrev AXS_CTRL (p : Nat) : Nat := 0x41010 + 0x1000 * p
/-- STAT of AXS (R121). -/
abbrev AXS_STAT (p : Nat) : Nat := 0x41014 + 0x1000 * p
/-- SRC of AXS (R121). -/
abbrev AXS_SRC (p : Nat) : Nat := 0x41040 + 0x1000 * p
/-- SCALE of AXS (R121). -/
abbrev AXS_SCALE (p : Nat) : Nat := 0x41044 + 0x1000 * p
/-- TICK of AXS (R121). -/
abbrev AXS_TICK (p : Nat) : Nat := 0x41048 + 0x1000 * p
/-- BW of AXS (R121). -/
abbrev AXS_BW (p : Nat) : Nat := 0x4104C + 0x1000 * p
/-- ETOL of AXS (R121). -/
abbrev AXS_ETOL (p : Nat) : Nat := 0x41050 + 0x1000 * p
/-- HYST of AXS (R121). -/
abbrev AXS_HYST (p : Nat) : Nat := 0x41054 + 0x1000 * p
/-- JUMPTOL of AXS (R121). -/
abbrev AXS_JUMPTOL (p : Nat) : Nat := 0x41058 + 0x1000 * p
/-- HOLDMAX of AXS (R121). -/
abbrev AXS_HOLDMAX (p : Nat) : Nat := 0x4105C + 0x1000 * p
/-- CPOS of AXS (R121). -/
abbrev AXS_CPOS (p : Nat) : Nat := 0x41060 + 0x1000 * p
/-- CVEL of AXS (R121). -/
abbrev AXS_CVEL (p : Nat) : Nat := 0x41068 + 0x1000 * p
/-- CTIME of AXS (R121). -/
abbrev AXS_CTIME (p : Nat) : Nat := 0x41070 + 0x1000 * p
/-- LOSSCNT of AXS (R121). -/
abbrev AXS_LOSSCNT (p : Nat) : Nat := 0x41078 + 0x1000 * p
/-- REJCNT of AXS (R121). -/
abbrev AXS_REJCNT (p : Nat) : Nat := 0x4107C + 0x1000 * p
/-- JUMPCNT of AXS (R121). -/
abbrev AXS_JUMPCNT (p : Nat) : Nat := 0x41080 + 0x1000 * p
/-- FIXPOS of AXS (R121). -/
abbrev AXS_FIXPOS (p : Nat) : Nat := 0x41084 + 0x1000 * p
/-- FIXTIME of AXS (R121). -/
abbrev AXS_FIXTIME (p : Nat) : Nat := 0x4108C + 0x1000 * p
/-- CAPTURE of AXS (R121). -/
abbrev AXS_CAPTURE (p : Nat) : Nat := 0x41C00 + 0x1000 * p
/-- FIXGO of AXS (R121). -/
abbrev AXS_FIXGO (p : Nat) : Nat := 0x41C04 + 0x1000 * p
/-- ENCCFG of AXS (R122). -/
abbrev AXS_ENCCFG (i : Nat) : Nat := 0x40040 + 16 * i
/-- ENCZPH of AXS (R122). -/
abbrev AXS_ENCZPH (i : Nat) : Nat := 0x40044 + 16 * i
/-- ENCCNT of AXS (R122). -/
abbrev AXS_ENCCNT (i : Nat) : Nat := 0x40048 + 16 * i
/-- ENCERR of AXS (R122). -/
abbrev AXS_ENCERR (i : Nat) : Nat := 0x4004C + 16 * i
/-- SSICFG of AXS (R122). -/
abbrev AXS_SSICFG (i : Nat) : Nat := 0x40080 + 16 * i
/-- SSITIM of AXS (R122). -/
abbrev AXS_SSITIM (i : Nat) : Nat := 0x40084 + 16 * i
/-- SSIRAW of AXS (R122). -/
abbrev AXS_SSIRAW (i : Nat) : Nat := 0x40088 + 16 * i
/-- SSIERR of AXS (R122). -/
abbrev AXS_SSIERR (i : Nat) : Nat := 0x4008C + 16 * i
/-- MDCFG of AXS (R123). -/
abbrev AXS_MDCFG (i : Nat) : Nat := 0x49040 + 16 * i
/-- MDAMIN of AXS (R123). -/
abbrev AXS_MDAMIN (i : Nat) : Nat := 0x49044 + 16 * i
/-- MDFREQ of AXS (R123). -/
abbrev AXS_MDFREQ (i : Nat) : Nat := 0x49048 + 16 * i
/-- MDAMP of AXS (R123). -/
abbrev AXS_MDAMP (i : Nat) : Nat := 0x4904C + 16 * i
/-- DPOS of AXS (R124). -/
abbrev AXS_DPOS (p i : Nat) : Nat := 0x4A040 + 0x1000 * p + 24 * i
/-- DINTV of AXS (R124). -/
abbrev AXS_DINTV (p i : Nat) : Nat := 0x4A048 + 0x1000 * p + 24 * i
/-- DCFG of AXS (R124). -/
abbrev AXS_DCFG (p i : Nat) : Nat := 0x4A04C + 0x1000 * p + 24 * i
/-- DLEAD of AXS (R124). -/
abbrev AXS_DLEAD (p i : Nat) : Nat := 0x4A050 + 0x1000 * p + 24 * i
/-- FFCFG of AXS (R125). -/
abbrev AXS_FFCFG (i : Nat) : Nat := 0x4E040 + 16 * i
/-- FFWID of AXS (R125). -/
abbrev AXS_FFWID (i : Nat) : Nat := 0x4E044 + 16 * i
/-- FFOVR of AXS (R125). -/
abbrev AXS_FFOVR (i : Nat) : Nat := 0x4E048 + 16 * i
/-- FFFLT of AXS (R125). -/
abbrev AXS_FFFLT (i : Nat) : Nat := 0x4E04C + 16 * i
/-- SECOUNT of AXS (R126). -/
abbrev AXS_SECOUNT : Nat := 0x4F040
/-- MISSTOT of AXS (R126). -/
abbrev AXS_MISSTOT : Nat := 0x4F044
/-- SEMAP of AXS (R126). -/
abbrev AXS_SEMAP (i : Nat) : Nat := 0x4F100 + 4 * i
/-- SESTAT of AXS (R126). -/
abbrev AXS_SESTAT (i : Nat) : Nat := 0x4F400 + 4 * i
/-- SECLR of AXS (R126). -/
abbrev AXS_SECLR : Nat := 0x4FC00
/-- CTRL of TRI (R160). -/
abbrev TRI_CTRL (p : Nat) : Nat := 0x20010 + 0x2000 * p
/-- STAT of TRI (R160). -/
abbrev TRI_STAT (p : Nat) : Nat := 0x20014 + 0x2000 * p
/-- LANESTAT of TRI (R160). -/
abbrev TRI_LANESTAT (p : Nat) : Nat := 0x20040 + 0x2000 * p
/-- REINTCNT of TRI (R160). -/
abbrev TRI_REINTCNT (p : Nat) : Nat := 0x20044 + 0x2000 * p
/-- REINTTOT of TRI (R160). -/
abbrev TRI_REINTTOT (p : Nat) : Nat := 0x20048 + 0x2000 * p
/-- FENCECAUSE of TRI (R160). -/
abbrev TRI_FENCECAUSE (p : Nat) : Nat := 0x2004C + 0x2000 * p
/-- REINTMAX of TRI (R160). -/
abbrev TRI_REINTMAX (p : Nat) : Nat := 0x20050 + 0x2000 * p
/-- STAGGER of TRI (R160). -/
abbrev TRI_STAGGER (p : Nat) : Nat := 0x20054 + 0x2000 * p
/-- LASTR of TRI (R160). -/
abbrev TRI_LASTR (p : Nat) : Nat := 0x20058 + 0x2000 * p
/-- REINTDUR of TRI (R160). -/
abbrev TRI_REINTDUR (p : Nat) : Nat := 0x20060 + 0x2000 * p
/-- IRQMARGIN of TRI (R160). -/
abbrev TRI_IRQMARGIN (p : Nat) : Nat := 0x20064 + 0x2000 * p
/-- LANECMD of TRI (R160). -/
abbrev TRI_LANECMD (p : Nat) : Nat := 0x20C00 + 0x2000 * p
/-- VSTAT of TRI (R160). -/
abbrev TRI_VSTAT (p : Nat) : Nat := 0x21014 + 0x2000 * p
/-- VERDICT of TRI (R160). -/
abbrev TRI_VERDICT (p : Nat) : Nat := 0x21040 + 0x2000 * p
/-- VADDR of TRI (R160). -/
abbrev TRI_VADDR (p : Nat) : Nat := 0x21044 + 0x2000 * p
/-- MISCNT of TRI (R160). -/
abbrev TRI_MISCNT (p : Nat) : Nat := 0x21050 + 0x2000 * p
/-- LATCNT of TRI (R160). -/
abbrev TRI_LATCNT (p : Nat) : Nat := 0x21054 + 0x2000 * p
/-- DPCNT of TRI (R160). -/
abbrev TRI_DPCNT (p : Nat) : Nat := 0x21058 + 0x2000 * p
/-- STPERIOD of TRI (R160). -/
abbrev TRI_STPERIOD (p : Nat) : Nat := 0x2105C + 0x2000 * p
/-- STRUNS of TRI (R160). -/
abbrev TRI_STRUNS (p : Nat) : Nat := 0x21060 + 0x2000 * p
/-- AUDINT of TRI (R160). -/
abbrev TRI_AUDINT (p : Nat) : Nat := 0x21064 + 0x2000 * p
/-- STNOW of TRI (R160). -/
abbrev TRI_STNOW (p : Nat) : Nat := 0x21C00 + 0x2000 * p
/-- CTRL of MEM (R185). -/
abbrev MEM_CTRL : Nat := 0x28010
/-- STAT of MEM (R185). -/
abbrev MEM_STAT : Nat := 0x28014
/-- USABLE of MEM (R185). -/
abbrev MEM_USABLE : Nat := 0x28040
/-- DRAMTEMP of MEM (R185). -/
abbrev MEM_DRAMTEMP : Nat := 0x28044
/-- CETHR of MEM (R185). -/
abbrev MEM_CETHR : Nat := 0x28048
/-- CERATE of MEM (R185). -/
abbrev MEM_CERATE : Nat := 0x2804C
/-- WBASE of MEM (R186). -/
abbrev MEM_WBASE (i : Nat) : Nat := 0x29040 + 16 * i
/-- WSIZE of MEM (R186). -/
abbrev MEM_WSIZE (i : Nat) : Nat := 0x29044 + 16 * i
/-- WATTR of MEM (R186). -/
abbrev MEM_WATTR (i : Nat) : Nat := 0x29048 + 16 * i
/-- WGRANT of MEM (R186). -/
abbrev MEM_WGRANT (i : Nat) : Nat := 0x2904C + 16 * i
/-- CEDRAM of MEM (R187). -/
abbrev MEM_CEDRAM : Nat := 0x2A040
/-- UEDRAM of MEM (R187). -/
abbrev MEM_UEDRAM : Nat := 0x2A044
/-- ADDRERR of MEM (R187). -/
abbrev MEM_ADDRERR : Nat := 0x2A048
/-- POISONRD of MEM (R187). -/
abbrev MEM_POISONRD : Nat := 0x2A04C
/-- SCRUBPER of MEM (R187). -/
abbrev MEM_SCRUBPER : Nat := 0x2A050
/-- SCRUBPASS of MEM (R187). -/
abbrev MEM_SCRUBPASS : Nat := 0x2A054
/-- SCRUBPOS of MEM (R187). -/
abbrev MEM_SCRUBPOS : Nat := 0x2A058
/-- LCE of MEM (R187). -/
abbrev MEM_LCE (i : Nat) : Nat := 0x2A060 + 4 * i
/-- LUE of MEM (R187). -/
abbrev MEM_LUE (i : Nat) : Nat := 0x2A070 + 4 * i
/-- FRAMERR of MEM (R187). -/
abbrev MEM_FRAMERR : Nat := 0x2A080
/-- CNTCLR of MEM (R187). -/
abbrev MEM_CNTCLR : Nat := 0x2AC00
/-- ELCNT of MEM (R188). -/
abbrev MEM_ELCNT : Nat := 0x2B040
/-- ELOVF of MEM (R188). -/
abbrev MEM_ELOVF : Nat := 0x2B044
/-- ELADDR of MEM (R188). -/
abbrev MEM_ELADDR : Nat := 0x2B048
/-- ELINFO of MEM (R188). -/
abbrev MEM_ELINFO : Nat := 0x2B050
/-- ELSYN of MEM (R188). -/
abbrev MEM_ELSYN : Nat := 0x2B054
/-- ELTIME of MEM (R188). -/
abbrev MEM_ELTIME : Nat := 0x2B058
/-- ELNEXT of MEM (R188). -/
abbrev MEM_ELNEXT : Nat := 0x2BC00
/-- CTRL of CYC (R221). -/
abbrev CYC_CTRL (p : Nat) : Nat := 0x30010 + 0x1000 * p
/-- STAT of CYC (R221). -/
abbrev CYC_STAT (p : Nat) : Nat := 0x30014 + 0x1000 * p
/-- MINCYC of CYC (R221). -/
abbrev CYC_MINCYC (p : Nat) : Nat := 0x30040 + 0x1000 * p
/-- MAXCYC of CYC (R221). -/
abbrev CYC_MAXCYC (p : Nat) : Nat := 0x30044 + 0x1000 * p
/-- INSIZE of CYC (R221). -/
abbrev CYC_INSIZE (p : Nat) : Nat := 0x30048 + 0x1000 * p
/-- OUTSIZE of CYC (R221). -/
abbrev CYC_OUTSIZE (p : Nat) : Nat := 0x3004C + 0x1000 * p
/-- DSCR of CYC (R221). -/
abbrev CYC_DSCR (p : Nat) : Nat := 0x30050 + 0x1000 * p
/-- RSAVE of CYC (R221). -/
abbrev CYC_RSAVE (p : Nat) : Nat := 0x30054 + 0x1000 * p
/-- SRCCNT of CYC (R221). -/
abbrev CYC_SRCCNT (p : Nat) : Nat := 0x30058 + 0x1000 * p
/-- INSTCNT of CYC (R221). -/
abbrev CYC_INSTCNT (p : Nat) : Nat := 0x3005C + 0x1000 * p
/-- CYCNT of CYC (R221). -/
abbrev CYC_CYCNT (p : Nat) : Nat := 0x30060 + 0x1000 * p
/-- TS of CYC (R221). -/
abbrev CYC_TS (p : Nat) : Nat := 0x30068 + 0x1000 * p
/-- TC of CYC (R221). -/
abbrev CYC_TC (p : Nat) : Nat := 0x30070 + 0x1000 * p
/-- CDIGEST of CYC (R221). -/
abbrev CYC_CDIGEST (p : Nat) : Nat := 0x30078 + 0x1000 * p
/-- CYCDUR of CYC (R221). -/
abbrev CYC_CYCDUR (p : Nat) : Nat := 0x3007C + 0x1000 * p
/-- CYCMAX of CYC (R221). -/
abbrev CYC_CYCMAX (p : Nat) : Nat := 0x30080 + 0x1000 * p
/-- SEALDLY of CYC (R221). -/
abbrev CYC_SEALDLY (p : Nat) : Nat := 0x30084 + 0x1000 * p
/-- OVRCNT of CYC (R221). -/
abbrev CYC_OVRCNT (p : Nat) : Nat := 0x30088 + 0x1000 * p
/-- WDCNT of CYC (R221). -/
abbrev CYC_WDCNT (p : Nat) : Nat := 0x3008C + 0x1000 * p
/-- REFCNT of CYC (R221). -/
abbrev CYC_REFCNT (p : Nat) : Nat := 0x30090 + 0x1000 * p
/-- REFLAST of CYC (R221). -/
abbrev CYC_REFLAST (p : Nat) : Nat := 0x30094 + 0x1000 * p
/-- STALECNT of CYC (R221). -/
abbrev CYC_STALECNT (p : Nat) : Nat := 0x30098 + 0x1000 * p
/-- CHGCNT of CYC (R221). -/
abbrev CYC_CHGCNT (p : Nat) : Nat := 0x3009C + 0x1000 * p
/-- ORPH of CYC (R221). -/
abbrev CYC_ORPH (p i : Nat) : Nat := 0x300A0 + 0x1000 * p + 4 * i
/-- IMGDIG of CYC (R221). -/
abbrev CYC_IMGDIG (p : Nat) : Nat := 0x300A8 + 0x1000 * p
/-- FCFG of CYC (R221). -/
abbrev CYC_FCFG (p i : Nat) : Nat := 0x30400 + 0x1000 * p + 16 * i
/-- FVAL of CYC (R221). -/
abbrev CYC_FVAL (p i : Nat) : Nat := 0x30404 + 0x1000 * p + 16 * i
/-- CYCCMD of CYC (R221). -/
abbrev CYC_CYCCMD (p : Nat) : Nat := 0x30C00 + 0x1000 * p
/-- CNTCLR of CYC (R221). -/
abbrev CYC_CNTCLR (p : Nat) : Nat := 0x30C04 + 0x1000 * p
/-- CTRL of PAD (R247). -/
abbrev PAD_CTRL : Nat := 0x60010
/-- STAT of PAD (R247). -/
abbrev PAD_STAT : Nat := 0x60014
/-- FIXF of PAD (R247). -/
abbrev PAD_FIXF : Nat := 0x60040
/-- XTOL of PAD (R247). -/
abbrev PAD_XTOL : Nat := 0x60044
/-- XCFG of PAD (R247). -/
abbrev PAD_XCFG : Nat := 0x60048
/-- LATFIX of PAD (R247). -/
abbrev PAD_LATFIX : Nat := 0x6004C
/-- LATAA of PAD (R247). -/
abbrev PAD_LATAA : Nat := 0x60050
/-- GRIDFREQ of PAD (R247). -/
abbrev PAD_GRIDFREQ : Nat := 0x60054
/-- TICK of PAD (R247). -/
abbrev PAD_TICK : Nat := 0x60058
/-- GRIDJMP of PAD (R247). -/
abbrev PAD_GRIDJMP : Nat := 0x60060
/-- SETTLEMASK of PAD (R247). -/
abbrev PAD_SETTLEMASK : Nat := 0x60064
/-- CHCFG of PAD (R248). -/
abbrev PAD_CHCFG (p i : Nat) : Nat := 0x61040 + 0x1000 * p + 32 * i
/-- CHPFS of PAD (R248). -/
abbrev PAD_CHPFS (p i : Nat) : Nat := 0x61044 + 0x1000 * p + 32 * i
/-- CHRATIO of PAD (R248). -/
abbrev PAD_CHRATIO (p i : Nat) : Nat := 0x61048 + 0x1000 * p + 32 * i
/-- CHSKEW of PAD (R248). -/
abbrev PAD_CHSKEW (p i : Nat) : Nat := 0x6104C + 0x1000 * p + 32 * i
/-- CHGTRIM of PAD (R248). -/
abbrev PAD_CHGTRIM (p i : Nat) : Nat := 0x61050 + 0x1000 * p + 32 * i
/-- CHNF0 of PAD (R248). -/
abbrev PAD_CHNF0 (p i : Nat) : Nat := 0x61054 + 0x1000 * p + 32 * i
/-- CHNBW of PAD (R248). -/
abbrev PAD_CHNBW (p i : Nat) : Nat := 0x61058 + 0x1000 * p + 32 * i
/-- CHLEAK of PAD (R248). -/
abbrev PAD_CHLEAK (p i : Nat) : Nat := 0x6105C + 0x1000 * p + 32 * i
/-- LAST of PAD (R249). -/
abbrev PAD_LAST (i : Nat) : Nat := 0x64040 + 4 * i
/-- LTICK of PAD (R249). -/
abbrev PAD_LTICK : Nat := 0x640A0
/-- LIVESTAT of PAD (R249). -/
abbrev PAD_LIVESTAT : Nat := 0x640A8
/-- LIVEGRAB of PAD (R249). -/
abbrev PAD_LIVEGRAB : Nat := 0x64C00
/-- XDIFF of PAD (R250). -/
abbrev PAD_XDIFF (i : Nat) : Nat := 0x65040 + 4 * i
/-- XLATCH of PAD (R250). -/
abbrev PAD_XLATCH : Nat := 0x650A0
/-- SATNOW of PAD (R250). -/
abbrev PAD_SATNOW : Nat := 0x650A4
/-- MFLTM of PAD (R250). -/
abbrev PAD_MFLTM : Nat := 0x650A8
/-- MFLTC of PAD (R250). -/
abbrev PAD_MFLTC : Nat := 0x650AC
/-- XCNT of PAD (R250). -/
abbrev PAD_XCNT (i : Nat) : Nat := 0x65100 + 4 * i
/-- SATCNT of PAD (R250). -/
abbrev PAD_SATCNT (i : Nat) : Nat := 0x65160 + 4 * i
/-- XCLR of PAD (R250). -/
abbrev PAD_XCLR : Nat := 0x65C00
/-- MGAIN of PAD (R251). -/
abbrev PAD_MGAIN (i j : Nat) : Nat := 0x66040 + 64 * i + 16 * j
/-- MOFS of PAD (R251). -/
abbrev PAD_MOFS (i j : Nat) : Nat := 0x66044 + 64 * i + 16 * j
/-- CGAIN of PAD (R251). -/
abbrev PAD_CGAIN (i j : Nat) : Nat := 0x66048 + 64 * i + 16 * j
/-- COFS of PAD (R251). -/
abbrev PAD_COFS (i j : Nat) : Nat := 0x6604C + 64 * i + 16 * j
/-- CALCRC of PAD (R251). -/
abbrev PAD_CALCRC : Nat := 0x66700
/-- CALID of PAD (R251). -/
abbrev PAD_CALID : Nat := 0x66704
/-- CAPCFG of PAD (R252). -/
abbrev PAD_CAPCFG : Nat := 0x67040
/-- CAPSTAT of PAD (R252). -/
abbrev PAD_CAPSTAT : Nat := 0x67044
/-- CAPT of PAD (R252). -/
abbrev PAD_CAPT : Nat := 0x67048
/-- CAPM of PAD (R252). -/
abbrev PAD_CAPM (i : Nat) : Nat := 0x67100 + 4 * i
/-- CAPC of PAD (R252). -/
abbrev PAD_CAPC (i : Nat) : Nat := 0x67500 + 4 * i
/-- CAPGO of PAD (R252). -/
abbrev PAD_CAPGO : Nat := 0x67C00
/-- CTRL of PRE (R294). -/
abbrev PRE_CTRL : Nat := 0x68010
/-- STAT of PRE (R294). -/
abbrev PRE_STAT : Nat := 0x68014
/-- ACTGRP of PRE (R294). -/
abbrev PRE_ACTGRP : Nat := 0x68040
/-- CTLFLAGS of PRE (R294). -/
abbrev PRE_CTLFLAGS : Nat := 0x68044
/-- WCET of PRE (R294). -/
abbrev PRE_WCET : Nat := 0x68048
/-- BUDGET of PRE (R294). -/
abbrev PRE_BUDGET : Nat := 0x6804C
/-- USAGE of PRE (R294). -/
abbrev PRE_USAGE : Nat := 0x68050
/-- TICK of PRE (R294). -/
abbrev PRE_TICK : Nat := 0x68054
/-- LATMAX of PRE (R294). -/
abbrev PRE_LATMAX : Nat := 0x6805C
/-- BACKCNT of PRE (R294). -/
abbrev PRE_BACKCNT : Nat := 0x68060
/-- GRPCNT of PRE (R294). -/
abbrev PRE_GRPCNT : Nat := 0x68064
/-- CNTCLR of PRE (R294). -/
abbrev PRE_CNTCLR : Nat := 0x68C00
/-- TMR of PRE (R295). -/
abbrev PRE_TMR (i : Nat) : Nat := 0x69040 + 4 * i
/-- TOCFG of PRE (R295). -/
abbrev PRE_TOCFG (i : Nat) : Nat := 0x690C0 + 4 * i
/-- COCFG of PRE (R295). -/
abbrev PRE_COCFG (i : Nat) : Nat := 0x690E0 + 4 * i
/-- BRKCFG of PRE (R295). -/
abbrev PRE_BRKCFG (i : Nat) : Nat := 0x69100 + 16 * i
/-- BRKWMIN of PRE (R295). -/
abbrev PRE_BRKWMIN (i : Nat) : Nat := 0x69104 + 16 * i
/-- BRKWALM of PRE (R295). -/
abbrev PRE_BRKWALM (i : Nat) : Nat := 0x69108 + 16 * i
/-- OUTSTAT of PRE (R296). -/
abbrev PRE_OUTSTAT : Nat := 0x6A040
/-- TCSFLT of PRE (R296). -/
abbrev PRE_TCSFLT : Nat := 0x6A044
/-- DRVFLT of PRE (R296). -/
abbrev PRE_DRVFLT : Nat := 0x6A048
/-- TFAIL of PRE (R296). -/
abbrev PRE_TFAIL : Nat := 0x6A04C
/-- TLIM of PRE (R296). -/
abbrev PRE_TLIM : Nat := 0x6A050
/-- TRIPCNT of PRE (R296). -/
abbrev PRE_TRIPCNT (i : Nat) : Nat := 0x6A060 + 4 * i
/-- CLOSECNT of PRE (R296). -/
abbrev PRE_CLOSECNT (i : Nat) : Nat := 0x6A080 + 4 * i
/-- CLINTLK of PRE (R296). -/
abbrev PRE_CLINTLK : Nat := 0x6A090
/-- TPEAK of PRE (R296). -/
abbrev PRE_TPEAK (i : Nat) : Nat := 0x6A0A0 + 4 * i
/-- CPEAK of PRE (R296). -/
abbrev PRE_CPEAK (i : Nat) : Nat := 0x6A0C0 + 4 * i
/-- WEAR of PRE (R296). -/
abbrev PRE_WEAR (i : Nat) : Nat := 0x6A100 + 8 * i
/-- WLAST of PRE (R296). -/
abbrev PRE_WLAST (i : Nat) : Nat := 0x6A140 + 4 * i
/-- WSAT of PRE (R296). -/
abbrev PRE_WSAT : Nat := 0x6A160
/-- OUTTEST of PRE (R296). -/
abbrev PRE_OUTTEST : Nat := 0x6AC00
/-- OUTCNTCLR of PRE (R296). -/
abbrev PRE_OUTCNTCLR : Nat := 0x6AC04
/-- WEARCLR of PRE (R296). -/
abbrev PRE_WEARCLR : Nat := 0x6AC08
/-- EF1W of PRE (R297). -/
abbrev PRE_EF1W (i : Nat) : Nat := 0x6B040 + 4 * i
/-- EF0W of PRE (R297). -/
abbrev PRE_EF0W (i : Nat) : Nat := 0x6B050 + 4 * i
/-- EBLKW of PRE (R297). -/
abbrev PRE_EBLKW (i : Nat) : Nat := 0x6B060 + 4 * i
/-- FLAGW of PRE (R297). -/
abbrev PRE_FLAGW (i : Nat) : Nat := 0x6B080 + 4 * i
/-- XIN of PRE (R297). -/
abbrev PRE_XIN (i : Nat) : Nat := 0x6B0C0 + 4 * i
/-- ESTAT of PRE (R298). -/
abbrev PRE_ESTAT (p i : Nat) : Nat := 0x6C040 + 0x1000 * p + 32 * i
/-- EVAL of PRE (R298). -/
abbrev PRE_EVAL (p i : Nat) : Nat := 0x6C044 + 0x1000 * p + 32 * i
/-- EVAL2 of PRE (R298). -/
abbrev PRE_EVAL2 (p i : Nat) : Nat := 0x6C048 + 0x1000 * p + 32 * i
/-- ETIME of PRE (R298). -/
abbrev PRE_ETIME (p i : Nat) : Nat := 0x6C04C + 0x1000 * p + 32 * i
/-- ECNT of PRE (R298). -/
abbrev PRE_ECNT (p i : Nat) : Nat := 0x6C050 + 0x1000 * p + 32 * i
/-- SVAL of PRE (R298). -/
abbrev PRE_SVAL (p i : Nat) : Nat := 0x70040 + 0x1000 * p + 8 * i
/-- SQUAL of PRE (R298). -/
abbrev PRE_SQUAL (p i : Nat) : Nat := 0x70044 + 0x1000 * p + 8 * i
/-- MLSTAT of PRE (R299). -/
abbrev PRE_MLSTAT : Nat := 0x74040
/-- MLRCNT of PRE (R299). -/
abbrev PRE_MLRCNT : Nat := 0x74044
/-- MLMIS of PRE (R299). -/
abbrev PRE_MLMIS : Nat := 0x74048
/-- MLLAST of PRE (R299). -/
abbrev PRE_MLLAST : Nat := 0x7404C
/-- MLCMD of PRE (R299). -/
abbrev PRE_MLCMD : Nat := 0x74C00
/-- PROGCRC of PRE (R299). -/
abbrev PRE_PROGCRC : Nat := 0x75040
/-- PROGLEN of PRE (R299). -/
abbrev PRE_PROGLEN : Nat := 0x75044
/-- GRPCRC of PRE (R299). -/
abbrev PRE_GRPCRC (i : Nat) : Nat := 0x75050 + 4 * i
/-- GRPSEAL of PRE (R299). -/
abbrev PRE_GRPSEAL : Nat := 0x75060
/-- GRPCMD of PRE (R299). -/
abbrev PRE_GRPCMD : Nat := 0x75C00
/-- CTRL of DRC (R317). -/
abbrev DRC_CTRL : Nat := 0x80010
/-- STAT of DRC (R317). -/
abbrev DRC_STAT : Nat := 0x80014
/-- PRECYC of DRC (R317). -/
abbrev DRC_PRECYC : Nat := 0x80040
/-- POSTCYC of DRC (R317). -/
abbrev DRC_POSTCYC : Nat := 0x80044
/-- LIMCYC of DRC (R317). -/
abbrev DRC_LIMCYC : Nat := 0x80048
/-- TRGEN of DRC (R317). -/
abbrev DRC_TRGEN : Nat := 0x8004C
/-- ANAMASK of DRC (R317). -/
abbrev DRC_ANAMASK : Nat := 0x80050
/-- FRW of DRC (R317). -/
abbrev DRC_FRW : Nat := 0x80054
/-- TRGLOST of DRC (R317). -/
abbrev DRC_TRGLOST : Nat := 0x8005C
/-- RTIGN of DRC (R317). -/
abbrev DRC_RTIGN : Nat := 0x80060
/-- GAPCNT of DRC (R317). -/
abbrev DRC_GAPCNT : Nat := 0x80064
/-- ARCHDROP of DRC (R317). -/
abbrev DRC_ARCHDROP : Nat := 0x80068
/-- TRGNOW of DRC (R317). -/
abbrev DRC_TRGNOW : Nat := 0x80C00
/-- CNTCLR of DRC (R317). -/
abbrev DRC_CNTCLR : Nat := 0x80C04
/-- TRSEL of DRC (R317). -/
abbrev DRC_TRSEL (i : Nat) : Nat := 0x81040 + 4 * i
/-- TRRISE of DRC (R317). -/
abbrev DRC_TRRISE (i : Nat) : Nat := 0x81140 + 4 * i
/-- TRFALL of DRC (R317). -/
abbrev DRC_TRFALL (i : Nat) : Nat := 0x81150 + 4 * i
/-- TRNORM of DRC (R317). -/
abbrev DRC_TRNORM (i : Nat) : Nat := 0x81160 + 4 * i
/-- DSEL of DRC (R317). -/
abbrev DRC_DSEL : Nat := 0x82040
/-- DNUM of DRC (R317). -/
abbrev DRC_DNUM : Nat := 0x82044
/-- DINFO of DRC (R317). -/
abbrev DRC_DINFO : Nat := 0x82048
/-- DFIRST of DRC (R317). -/
abbrev DRC_DFIRST : Nat := 0x8204C
/-- DPRE of DRC (R317). -/
abbrev DRC_DPRE : Nat := 0x82054
/-- DPOST of DRC (R317). -/
abbrev DRC_DPOST : Nat := 0x82058
/-- DTIME of DRC (R317). -/
abbrev DRC_DTIME : Nat := 0x8205C
/-- ARCNT of DRC (R317). -/
abbrev DRC_ARCNT : Nat := 0x82080
/-- AOLDEST of DRC (R317). -/
abbrev DRC_AOLDEST : Nat := 0x82084
/-- ANEWEST of DRC (R317). -/
abbrev DRC_ANEWEST : Nat := 0x82088
/-- ASEL of DRC (R317). -/
abbrev DRC_ASEL : Nat := 0x8208C
/-- AINFO of DRC (R317). -/
abbrev DRC_AINFO : Nat := 0x82090
/-- ASIZE of DRC (R317). -/
abbrev DRC_ASIZE : Nat := 0x82094
/-- EXPDST of DRC (R317). -/
abbrev DRC_EXPDST : Nat := 0x82098
/-- EXPMAX of DRC (R317). -/
abbrev DRC_EXPMAX : Nat := 0x820A0
/-- EXPLEN of DRC (R317). -/
abbrev DRC_EXPLEN : Nat := 0x820A4
/-- EXPSTAT of DRC (R317). -/
abbrev DRC_EXPSTAT : Nat := 0x820A8
/-- EXPCMD of DRC (R317). -/
abbrev DRC_EXPCMD : Nat := 0x82C00
/-- ARCMD of DRC (R317). -/
abbrev DRC_ARCMD : Nat := 0x82C04
/-- STATION of DRC (R317). -/
abbrev DRC_STATION (i : Nat) : Nat := 0x83040 + 4 * i
/-- NAME of DRC (R317). -/
abbrev DRC_NAME (i : Nat) : Nat := 0x83060 + 4 * i
/-- TNAME of DRC (R317). -/
abbrev DRC_TNAME (i : Nat) : Nat := 0x831E0 + 4 * i
/-- CHUNIT of DRC (R317). -/
abbrev DRC_CHUNIT (i : Nat) : Nat := 0x839E0 + 4 * i
/-- CHPH of DRC (R317). -/
abbrev DRC_CHPH (i : Nat) : Nat := 0x83A40 + 4 * i
/-- CTRL of SAR (R343). -/
abbrev SAR_CTRL (p : Nat) : Nat := 0x88010 + 0x2000 * p
/-- STAT of SAR (R343). -/
abbrev SAR_STAT (p : Nat) : Nat := 0x88014 + 0x2000 * p
/-- TPER of SAR (R343). -/
abbrev SAR_TPER (p : Nat) : Nat := 0x88040 + 0x2000 * p
/-- TDLY of SAR (R343). -/
abbrev SAR_TDLY (p : Nat) : Nat := 0x88044 + 0x2000 * p
/-- SEQCFG of SAR (R343). -/
abbrev SAR_SEQCFG (p : Nat) : Nat := 0x88048 + 0x2000 * p
/-- FBTO of SAR (R343). -/
abbrev SAR_FBTO (p : Nat) : Nat := 0x8804C + 0x2000 * p
/-- REFTOL of SAR (R343). -/
abbrev SAR_REFTOL (p : Nat) : Nat := 0x88050 + 0x2000 * p
/-- TRIGOVR of SAR (R343). -/
abbrev SAR_TRIGOVR (p : Nat) : Nat := 0x88054 + 0x2000 * p
/-- TRIGCNT of SAR (R343). -/
abbrev SAR_TRIGCNT (p : Nat) : Nat := 0x88058 + 0x2000 * p
/-- PASSCNT of SAR (R343). -/
abbrev SAR_PASSCNT (p : Nat) : Nat := 0x8805C + 0x2000 * p
/-- ABNCNT of SAR (R343). -/
abbrev SAR_ABNCNT (p : Nat) : Nat := 0x88060 + 0x2000 * p
/-- FBCNT of SAR (R343). -/
abbrev SAR_FBCNT (p : Nat) : Nat := 0x88064 + 0x2000 * p
/-- URGWAIT of SAR (R343). -/
abbrev SAR_URGWAIT (p : Nat) : Nat := 0x88068 + 0x2000 * p
/-- CONVRES of SAR (R343). -/
abbrev SAR_CONVRES (p : Nat) : Nat := 0x8806C + 0x2000 * p
/-- CONVT of SAR (R343). -/
abbrev SAR_CONVT (p : Nat) : Nat := 0x88070 + 0x2000 * p
/-- SLOTCFG of SAR (R343). -/
abbrev SAR_SLOTCFG (p i : Nat) : Nat := 0x88100 + 0x2000 * p + 4 * i
/-- VAL of SAR (R343). -/
abbrev SAR_VAL (p i : Nat) : Nat := 0x88400 + 0x2000 * p + 16 * i
/-- SSTAT of SAR (R343). -/
abbrev SAR_SSTAT (p i : Nat) : Nat := 0x88404 + 0x2000 * p + 16 * i
/-- STAMP of SAR (R343). -/
abbrev SAR_STAMP (p i : Nat) : Nat := 0x88408 + 0x2000 * p + 16 * i
/-- CONVREQ of SAR (R343). -/
abbrev SAR_CONVREQ (p : Nat) : Nat := 0x88C00 + 0x2000 * p
/-- SEQCMD of SAR (R343). -/
abbrev SAR_SEQCMD (p : Nat) : Nat := 0x88C04 + 0x2000 * p
/-- CNTCLR of SAR (R343). -/
abbrev SAR_CNTCLR (p : Nat) : Nat := 0x88C08 + 0x2000 * p
/-- CHKCLR of SAR (R343). -/
abbrev SAR_CHKCLR (p : Nat) : Nat := 0x88C0C + 0x2000 * p
/-- ENTA of SAR (R344). -/
abbrev SAR_ENTA (p i : Nat) : Nat := 0x89040 + 0x2000 * p + 8 * i
/-- ENTB of SAR (R344). -/
abbrev SAR_ENTB (p i : Nat) : Nat := 0x89044 + 0x2000 * p + 8 * i
/-- FLTCFG of SAR (R344). -/
abbrev SAR_FLTCFG (p i : Nat) : Nat := 0x89240 + 0x2000 * p + 16 * i
/-- FLTFS of SAR (R344). -/
abbrev SAR_FLTFS (p i : Nat) : Nat := 0x89244 + 0x2000 * p + 16 * i
/-- FLTFC of SAR (R344). -/
abbrev SAR_FLTFC (p i : Nat) : Nat := 0x89248 + 0x2000 * p + 16 * i
/-- FLTNOTCH of SAR (R344). -/
abbrev SAR_FLTNOTCH (p i : Nat) : Nat := 0x8924C + 0x2000 * p + 16 * i
/-- CTRL of DIO (R364). -/
abbrev DIO_CTRL : Nat := 0x90010
/-- STAT of DIO (R364). -/
abbrev DIO_STAT : Nat := 0x90014
/-- GTYPE of DIO (R364). -/
abbrev DIO_GTYPE : Nat := 0x90040
/-- DICFG of DIO (R364). -/
abbrev DIO_DICFG (i : Nat) : Nat := 0x90080 + 4 * i
/-- LEV of DIO (R364). -/
abbrev DIO_LEV : Nat := 0x90140
/-- RAW of DIO (R364). -/
abbrev DIO_RAW : Nat := 0x90148
/-- EDGECNT of DIO (R365). -/
abbrev DIO_EDGECNT (i : Nat) : Nat := 0x91040 + 4 * i
/-- XCONN0 of DIO (R365). -/
abbrev DIO_XCONN0 : Nat := 0x91100
/-- XCONN1 of DIO (R365). -/
abbrev DIO_XCONN1 : Nat := 0x91104
/-- EQCNT of DIO (R365). -/
abbrev DIO_EQCNT (i : Nat) : Nat := 0x92040 + 4 * i
/-- EQOVR of DIO (R365). -/
abbrev DIO_EQOVR (i : Nat) : Nat := 0x92060 + 4 * i
/-- EQSTAMP of DIO (R365). -/
abbrev DIO_EQSTAMP (i : Nat) : Nat := 0x92080 + 8 * i
/-- EQMAP of DIO (R365). -/
abbrev DIO_EQMAP : Nat := 0x920C0
/-- EQPOP of DIO (R365). -/
abbrev DIO_EQPOP (i : Nat) : Nat := 0x92C00 + 4 * i
/-- CTRL of DO (R366). -/
abbrev DO_CTRL (p : Nat) : Nat := 0x93010 + 0x1000 * p
/-- STAT of DO (R366). -/
abbrev DO_STAT (p : Nat) : Nat := 0x93014 + 0x1000 * p
/-- GPAR of DO (R366). -/
abbrev DO_GPAR (p : Nat) : Nat := 0x93040 + 0x1000 * p
/-- DOCMD of DO (R366). -/
abbrev DO_DOCMD (p : Nat) : Nat := 0x93044 + 0x1000 * p
/-- DOSAFE of DO (R366). -/
abbrev DO_DOSAFE (p : Nat) : Nat := 0x93048 + 0x1000 * p
/-- PWMPER of DO (R366). -/
abbrev DO_PWMPER (p : Nat) : Nat := 0x9304C + 0x1000 * p
/-- RBDLY of DO (R366). -/
abbrev DO_RBDLY (p : Nat) : Nat := 0x93050 + 0x1000 * p
/-- TPCFG of DO (R366). -/
abbrev DO_TPCFG (p : Nat) : Nat := 0x93054 + 0x1000 * p
/-- SAFEMASK of DO (R366). -/
abbrev DO_SAFEMASK (p : Nat) : Nat := 0x93058 + 0x1000 * p
/-- CHCFG of DO (R366). -/
abbrev DO_CHCFG (p i : Nat) : Nat := 0x93060 + 0x1000 * p + 4 * i
/-- DUTY of DO (R366). -/
abbrev DO_DUTY (p i : Nat) : Nat := 0x93080 + 0x1000 * p + 4 * i
/-- RBLEV of DO (R366). -/
abbrev DO_RBLEV (p : Nat) : Nat := 0x930A0 + 0x1000 * p
/-- RBFLT of DO (R366). -/
abbrev DO_RBFLT (p : Nat) : Nat := 0x930A4 + 0x1000 * p
/-- OVLD of DO (R366). -/
abbrev DO_OVLD (p : Nat) : Nat := 0x930A8 + 0x1000 * p
/-- TPFAIL of DO (R366). -/
abbrev DO_TPFAIL (p : Nat) : Nat := 0x930AC + 0x1000 * p
/-- TPDISC of DO (R366). -/
abbrev DO_TPDISC (p : Nat) : Nat := 0x930B0 + 0x1000 * p
/-- TPRUNS of DO (R366). -/
abbrev DO_TPRUNS (p : Nat) : Nat := 0x930B4 + 0x1000 * p
/-- ICH of DO (R366). -/
abbrev DO_ICH (p i : Nat) : Nat := 0x930C0 + 0x1000 * p + 4 * i
/-- FLTCLR of DO (R366). -/
abbrev DO_FLTCLR (p : Nat) : Nat := 0x93C00 + 0x1000 * p
/-- LATCHCNT of DIO (R367). -/
abbrev DIO_LATCHCNT (i : Nat) : Nat := 0x97040 + 16 * i
/-- LASTCAUSE of DIO (R367). -/
abbrev DIO_LASTCAUSE (i : Nat) : Nat := 0x97044 + 16 * i
/-- LAST of DIO (R367). -/
abbrev DIO_LAST (i : Nat) : Nat := 0x97048 + 16 * i
/-- LOGCLR of DIO (R367). -/
abbrev DIO_LOGCLR : Nat := 0x97C00
/-- CTRL of SFN (R389). -/
abbrev SFN_CTRL : Nat := 0x98010
/-- STAT of SFN (R389). -/
abbrev SFN_STAT : Nat := 0x98014
/-- EVALDIS of SFN (R389). -/
abbrev SFN_EVALDIS : Nat := 0x98040
/-- RSTREJ of SFN (R389). -/
abbrev SFN_RSTREJ : Nat := 0x98044
/-- GATE of SFN (R389). -/
abbrev SFN_GATE : Nat := 0x98048
/-- FLTCLR of SFN (R389). -/
abbrev SFN_FLTCLR : Nat := 0x98C00
/-- FCFG of SFN (R389). -/
abbrev SFN_FCFG (p i : Nat) : Nat := 0x99040 + 0x1000 * p + 32 * i
/-- FIN of SFN (R389). -/
abbrev SFN_FIN (p i : Nat) : Nat := 0x99044 + 0x1000 * p + 32 * i
/-- FAUX of SFN (R389). -/
abbrev SFN_FAUX (p i : Nat) : Nat := 0x99048 + 0x1000 * p + 32 * i
/-- FDISC of SFN (R389). -/
abbrev SFN_FDISC (p i : Nat) : Nat := 0x9904C + 0x1000 * p + 32 * i
/-- FEDMT of SFN (R389). -/
abbrev SFN_FEDMT (p i : Nat) : Nat := 0x99050 + 0x1000 * p + 32 * i
/-- FOUT of SFN (R389). -/
abbrev SFN_FOUT (p i : Nat) : Nat := 0x99054 + 0x1000 * p + 32 * i
/-- FSTATE of SFN (R389). -/
abbrev SFN_FSTATE (i : Nat) : Nat := 0x9B040 + 4 * i
/-- DEMT of SFN (R389). -/
abbrev SFN_DEMT (i : Nat) : Nat := 0x9B080 + 8 * i
/-- CTRL of LOOP (R409). -/
abbrev LOOP_CTRL : Nat := 0x9C010
/-- STAT of LOOP (R409). -/
abbrev LOOP_STAT : Nat := 0x9C014
/-- SCANPER of LOOP (R409). -/
abbrev LOOP_SCANPER : Nat := 0x9C040
/-- VLMEAS of LOOP (R409). -/
abbrev LOOP_VLMEAS : Nat := 0x9C044
/-- VLMIN of LOOP (R409). -/
abbrev LOOP_VLMIN : Nat := 0x9C048
/-- SCANCNT of LOOP (R409). -/
abbrev LOOP_SCANCNT : Nat := 0x9C04C
/-- FLTCLR of LOOP (R409). -/
abbrev LOOP_FLTCLR : Nat := 0x9CC00
/-- CNTCLR of LOOP (R409). -/
abbrev LOOP_CNTCLR : Nat := 0x9CC04
/-- LICFG of LOOP (R410). -/
abbrev LOOP_LICFG (i : Nat) : Nat := 0x9D040 + 16 * i
/-- LITH of LOOP (R410). -/
abbrev LOOP_LITH (i : Nat) : Nat := 0x9D044 + 16 * i
/-- LIVAL of LOOP (R410). -/
abbrev LOOP_LIVAL (i : Nat) : Nat := 0x9D048 + 16 * i
/-- LISTAT of LOOP (R410). -/
abbrev LOOP_LISTAT (i : Nat) : Nat := 0x9D04C + 16 * i
/-- LIST of LOOP (R410). -/
abbrev LOOP_LIST (i : Nat) : Nat := 0x9D100 + 8 * i
/-- LOCFG of LOOP (R411). -/
abbrev LOOP_LOCFG (i : Nat) : Nat := 0x9E040 + 32 * i
/-- LOSET of LOOP (R411). -/
abbrev LOOP_LOSET (i : Nat) : Nat := 0x9E044 + 32 * i
/-- LOSAFE of LOOP (R411). -/
abbrev LOOP_LOSAFE (i : Nat) : Nat := 0x9E048 + 32 * i
/-- LORB of LOOP (R411). -/
abbrev LOOP_LORB (i : Nat) : Nat := 0x9E04C + 32 * i
/-- LOSTAT of LOOP (R411). -/
abbrev LOOP_LOSTAT (i : Nat) : Nat := 0x9E050 + 32 * i
/-- LOST of LOOP (R411). -/
abbrev LOOP_LOST (i : Nat) : Nat := 0x9E058 + 32 * i
/-- FCNT of LOOP (R412). -/
abbrev LOOP_FCNT (i : Nat) : Nat := 0x9F040 + 4 * i
/-- CTRL of CAN (R443). -/
abbrev CAN_CTRL (p : Nat) : Nat := 0xA0010 + 0x4000 * p
/-- STAT of CAN (R443). -/
abbrev CAN_STAT (p : Nat) : Nat := 0xA0014 + 0x4000 * p
/-- NBT of CAN (R443). -/
abbrev CAN_NBT (p : Nat) : Nat := 0xA0040 + 0x4000 * p
/-- DBT of CAN (R443). -/
abbrev CAN_DBT (p : Nat) : Nat := 0xA0044 + 0x4000 * p
/-- TDCCFG of CAN (R443). -/
abbrev CAN_TDCCFG (p : Nat) : Nat := 0xA0048 + 0x4000 * p
/-- TDCVAL of CAN (R443). -/
abbrev CAN_TDCVAL (p : Nat) : Nat := 0xA004C + 0x4000 * p
/-- ERRCNT of CAN (R443). -/
abbrev CAN_ERRCNT (p : Nat) : Nat := 0xA0050 + 0x4000 * p
/-- LASTERR of CAN (R443). -/
abbrev CAN_LASTERR (p : Nat) : Nat := 0xA0054 + 0x4000 * p
/-- RXCNT of CAN (R443). -/
abbrev CAN_RXCNT (p : Nat) : Nat := 0xA0058 + 0x4000 * p
/-- TXCNT of CAN (R443). -/
abbrev CAN_TXCNT (p : Nat) : Nat := 0xA005C + 0x4000 * p
/-- NOMATCH of CAN (R443). -/
abbrev CAN_NOMATCH (p : Nat) : Nat := 0xA0060 + 0x4000 * p
/-- DLCOVER of CAN (R443). -/
abbrev CAN_DLCOVER (p : Nat) : Nat := 0xA0064 + 0x4000 * p
/-- RTRCNT of CAN (R443). -/
abbrev CAN_RTRCNT (p : Nat) : Nat := 0xA0068 + 0x4000 * p
/-- BOCNT of CAN (R443). -/
abbrev CAN_BOCNT (p : Nat) : Nat := 0xA006C + 0x4000 * p
/-- QOVR of CAN (R443). -/
abbrev CAN_QOVR (p : Nat) : Nat := 0xA0070 + 0x4000 * p
/-- TXMERGE of CAN (R443). -/
abbrev CAN_TXMERGE (p : Nat) : Nat := 0xA0074 + 0x4000 * p
/-- RXQCNT of CAN (R443). -/
abbrev CAN_RXQCNT (p : Nat) : Nat := 0xA0078 + 0x4000 * p
/-- TXTSCNT of CAN (R443). -/
abbrev CAN_TXTSCNT (p : Nat) : Nat := 0xA007C + 0x4000 * p
/-- TXTSOVF of CAN (R443). -/
abbrev CAN_TXTSOVF (p : Nat) : Nat := 0xA0080 + 0x4000 * p
/-- RXOBJCNT of CAN (R443). -/
abbrev CAN_RXOBJCNT (p : Nat) : Nat := 0xA0084 + 0x4000 * p
/-- TXTS of CAN (R443). -/
abbrev CAN_TXTS (p : Nat) : Nat := 0xA0088 + 0x4000 * p
/-- NEW of CAN (R443). -/
abbrev CAN_NEW (p i : Nat) : Nat := 0xA00A0 + 0x4000 * p + 4 * i
/-- LOST of CAN (R443). -/
abbrev CAN_LOST (p i : Nat) : Nat := 0xA00C0 + 0x4000 * p + 4 * i
/-- STALE of CAN (R443). -/
abbrev CAN_STALE (p i : Nat) : Nat := 0xA00E0 + 0x4000 * p + 4 * i
/-- WUFID of CAN (R443). -/
abbrev CAN_WUFID (p : Nat) : Nat := 0xA0100 + 0x4000 * p
/-- WUFMASK of CAN (R443). -/
abbrev CAN_WUFMASK (p : Nat) : Nat := 0xA0104 + 0x4000 * p
/-- WUFCFG of CAN (R443). -/
abbrev CAN_WUFCFG (p : Nat) : Nat := 0xA0108 + 0x4000 * p
/-- WUFD of CAN (R443). -/
abbrev CAN_WUFD (p : Nat) : Nat := 0xA010C + 0x4000 * p
/-- WAKESTAT of CAN (R443). -/
abbrev CAN_WAKESTAT (p : Nat) : Nat := 0xA0114 + 0x4000 * p
/-- TTCFG of CAN (R443). -/
abbrev CAN_TTCFG (p : Nat) : Nat := 0xA0120 + 0x4000 * p
/-- TTREFID of CAN (R443). -/
abbrev CAN_TTREFID (p : Nat) : Nat := 0xA0124 + 0x4000 * p
/-- TTCYCLE of CAN (R443). -/
abbrev CAN_TTCYCLE (p : Nat) : Nat := 0xA0128 + 0x4000 * p
/-- TTNTU of CAN (R443). -/
abbrev CAN_TTNTU (p : Nat) : Nat := 0xA012C + 0x4000 * p
/-- TTWATCH of CAN (R443). -/
abbrev CAN_TTWATCH (p : Nat) : Nat := 0xA0130 + 0x4000 * p
/-- TTSTAT of CAN (R443). -/
abbrev CAN_TTSTAT (p : Nat) : Nat := 0xA0134 + 0x4000 * p
/-- TTMISS of CAN (R443). -/
abbrev CAN_TTMISS (p : Nat) : Nat := 0xA0138 + 0x4000 * p
/-- TTRATE of CAN (R443). -/
abbrev CAN_TTRATE (p : Nat) : Nat := 0xA013C + 0x4000 * p
/-- TTTOFS of CAN (R443). -/
abbrev CAN_TTTOFS (p : Nat) : Nat := 0xA0140 + 0x4000 * p
/-- TTSCHED of CAN (R443). -/
abbrev CAN_TTSCHED (p : Nat) : Nat := 0xA0144 + 0x4000 * p
/-- RXMAP of CAN (R443). -/
abbrev CAN_RXMAP (p i : Nat) : Nat := 0xA0400 + 0x4000 * p + 4 * i
/-- CANCMD of CAN (R443). -/
abbrev CAN_CANCMD (p : Nat) : Nat := 0xA0C00 + 0x4000 * p
/-- TXCMD of CAN (R443). -/
abbrev CAN_TXCMD (p : Nat) : Nat := 0xA0C04 + 0x4000 * p
/-- RXQREL of CAN (R443). -/
abbrev CAN_RXQREL (p : Nat) : Nat := 0xA0C08 + 0x4000 * p
/-- TXTSPOP of CAN (R443). -/
abbrev CAN_TXTSPOP (p : Nat) : Nat := 0xA0C0C + 0x4000 * p
/-- CNTCLR of CAN (R443). -/
abbrev CAN_CNTCLR (p : Nat) : Nat := 0xA0C10 + 0x4000 * p
/-- TXID of CAN (R444). -/
abbrev CAN_TXID (p i : Nat) : Nat := 0xA1040 + 0x4000 * p + 16 * i
/-- TXCFG of CAN (R444). -/
abbrev CAN_TXCFG (p i : Nat) : Nat := 0xA1044 + 0x4000 * p + 16 * i
/-- TXPER of CAN (R444). -/
abbrev CAN_TXPER (p i : Nat) : Nat := 0xA1048 + 0x4000 * p + 16 * i
/-- TXSTAT of CAN (R444). -/
abbrev CAN_TXSTAT (p i : Nat) : Nat := 0xA104C + 0x4000 * p + 16 * i
/-- TTTA of CAN (R444). -/
abbrev CAN_TTTA (p i : Nat) : Nat := 0xA1400 + 0x4000 * p + 8 * i
/-- TTTB of CAN (R444). -/
abbrev CAN_TTTB (p i : Nat) : Nat := 0xA1404 + 0x4000 * p + 8 * i
/-- RXDA of CAN (R445). -/
abbrev CAN_RXDA (p i : Nat) : Nat := 0xA2040 + 0x4000 * p + 12 * i
/-- RXDAMASK of CAN (R445). -/
abbrev CAN_RXDAMASK (p i : Nat) : Nat := 0xA2044 + 0x4000 * p + 12 * i
/-- RXDACFG of CAN (R445). -/
abbrev CAN_RXDACFG (p i : Nat) : Nat := 0xA2048 + 0x4000 * p + 12 * i
/-- RXDB of CAN (R445). -/
abbrev CAN_RXDB (p i : Nat) : Nat := 0xA3040 + 0x4000 * p + 12 * i
/-- RXDBMASK of CAN (R445). -/
abbrev CAN_RXDBMASK (p i : Nat) : Nat := 0xA3044 + 0x4000 * p + 12 * i
/-- RXDBCFG of CAN (R445). -/
abbrev CAN_RXDBCFG (p i : Nat) : Nat := 0xA3048 + 0x4000 * p + 12 * i
/-- CTRL of TMB (R478). -/
abbrev TMB_CTRL : Nat := 0x50010
/-- STAT of TMB (R478). -/
abbrev TMB_STAT : Nat := 0x50014
/-- MTIME of TMB (R478). -/
abbrev TMB_MTIME : Nat := 0x50040
/-- RATE of TMB (R478). -/
abbrev TMB_RATE : Nat := 0x50048
/-- KP of TMB (R478). -/
abbrev TMB_KP : Nat := 0x50050
/-- KI of TMB (R478). -/
abbrev TMB_KI : Nat := 0x50054
/-- LOCKTH of TMB (R478). -/
abbrev TMB_LOCKTH : Nat := 0x50058
/-- LOCKCFG of TMB (R478). -/
abbrev TMB_LOCKCFG : Nat := 0x5005C
/-- OFS of TMB (R478). -/
abbrev TMB_OFS : Nat := 0x50060
/-- LASTOFS of TMB (R478). -/
abbrev TMB_LASTOFS : Nat := 0x50068
/-- STEPLAST of TMB (R478). -/
abbrev TMB_STEPLAST : Nat := 0x5006C
/-- STEPCNT of TMB (R478). -/
abbrev TMB_STEPCNT : Nat := 0x50074
/-- TAIUTC of TMB (R478). -/
abbrev TMB_TAIUTC : Nat := 0x50078
/-- LEAP of TMB (R478). -/
abbrev TMB_LEAP : Nat := 0x5007C
/-- OFSGO of TMB (R478). -/
abbrev TMB_OFSGO : Nat := 0x50C00
/-- PPSCFG of TMB (R478). -/
abbrev TMB_PPSCFG : Nat := 0x51040
/-- PPS of TMB (R478). -/
abbrev TMB_PPS : Nat := 0x51044
/-- PPSCNT of TMB (R478). -/
abbrev TMB_PPSCNT : Nat := 0x5104C
/-- PPSMISS of TMB (R478). -/
abbrev TMB_PPSMISS : Nat := 0x51050
/-- CAP of TMB (R478). -/
abbrev TMB_CAP : Nat := 0x51054
/-- CAPGO of TMB (R478). -/
abbrev TMB_CAPGO : Nat := 0x51C00
/-- RESTEPCNT of TMB (R478). -/
abbrev TMB_RESTEPCNT : Nat := 0x53040
/-- RESTEP of TMB (R478). -/
abbrev TMB_RESTEP : Nat := 0x53C00
/-- CTRL of ETH (R479). -/
abbrev ETH_CTRL : Nat := 0xB0010
/-- STAT of ETH (R479). -/
abbrev ETH_STAT : Nat := 0xB0014
/-- AGETIME of ETH (R479). -/
abbrev ETH_AGETIME : Nat := 0xB0040
/-- FDBCNT of ETH (R479). -/
abbrev ETH_FDBCNT : Nat := 0xB0044
/-- FDBFULL of ETH (R479). -/
abbrev ETH_FDBFULL : Nat := 0xB0048
/-- OVERSIZE of ETH (R479). -/
abbrev ETH_OVERSIZE : Nat := 0xB004C
/-- STF of ETH (R479). -/
abbrev ETH_STF (i : Nat) : Nat := 0xB0080 + 8 * i
/-- VLAN of ETH (R479). -/
abbrev ETH_VLAN (i : Nat) : Nat := 0xB0180 + 4 * i
/-- PVID of ETH (R479). -/
abbrev ETH_PVID (i : Nat) : Nat := 0xB01C0 + 4 * i
/-- PCFG of ETH (R479). -/
abbrev ETH_PCFG (p : Nat) : Nat := 0xB1040 + 0x1000 * p
/-- PSTAT of ETH (R479). -/
abbrev ETH_PSTAT (p : Nat) : Nat := 0xB1044 + 0x1000 * p
/-- PCPMAP of ETH (R479). -/
abbrev ETH_PCPMAP (p : Nat) : Nat := 0xB1048 + 0x1000 * p
/-- PHYLAT of ETH (R479). -/
abbrev ETH_PHYLAT (p : Nat) : Nat := 0xB104C + 0x1000 * p
/-- GCLCFG of ETH (R479). -/
abbrev ETH_GCLCFG (p : Nat) : Nat := 0xB1050 + 0x1000 * p
/-- CYCTIME of ETH (R479). -/
abbrev ETH_CYCTIME (p : Nat) : Nat := 0xB1054 + 0x1000 * p
/-- BASE of ETH (R479). -/
abbrev ETH_BASE (p : Nat) : Nat := 0xB1058 + 0x1000 * p
/-- TASSTAT of ETH (R479). -/
abbrev ETH_TASSTAT (p : Nat) : Nat := 0xB1060 + 0x1000 * p
/-- LATETOL of ETH (R479). -/
abbrev ETH_LATETOL (p : Nat) : Nat := 0xB1064 + 0x1000 * p
/-- TXFRM of ETH (R479). -/
abbrev ETH_TXFRM (p : Nat) : Nat := 0xB1070 + 0x1000 * p
/-- RXFRM of ETH (R479). -/
abbrev ETH_RXFRM (p : Nat) : Nat := 0xB1074 + 0x1000 * p
/-- RXERR of ETH (R479). -/
abbrev ETH_RXERR (p : Nat) : Nat := 0xB1078 + 0x1000 * p
/-- LATEDROP of ETH (R479). -/
abbrev ETH_LATEDROP (p : Nat) : Nat := 0xB107C + 0x1000 * p
/-- QDROP of ETH (R479). -/
abbrev ETH_QDROP (p : Nat) : Nat := 0xB1080 + 0x1000 * p
/-- GCLA of ETH (R479). -/
abbrev ETH_GCLA (p i : Nat) : Nat := 0xB1400 + 0x1000 * p + 8 * i
/-- GCLB of ETH (R479). -/
abbrev ETH_GCLB (p i : Nat) : Nat := 0xB1404 + 0x1000 * p + 8 * i
/-- TXRB of ETH (R479). -/
abbrev ETH_TXRB : Nat := 0xB5040
/-- TXRSZ of ETH (R479). -/
abbrev ETH_TXRSZ : Nat := 0xB5048
/-- TXTAIL of ETH (R479). -/
abbrev ETH_TXTAIL : Nat := 0xB504C
/-- TXHEAD of ETH (R479). -/
abbrev ETH_TXHEAD : Nat := 0xB5050
/-- RXRB of ETH (R479). -/
abbrev ETH_RXRB : Nat := 0xB5060
/-- RXRSZ of ETH (R479). -/
abbrev ETH_RXRSZ : Nat := 0xB5068
/-- RXTAIL of ETH (R479). -/
abbrev ETH_RXTAIL : Nat := 0xB506C
/-- RXHEAD of ETH (R479). -/
abbrev ETH_RXHEAD : Nat := 0xB5070
/-- PRPCFG of ETH (R479). -/
abbrev ETH_PRPCFG : Nat := 0xB5080
/-- DUPCNT of ETH (R479). -/
abbrev ETH_DUPCNT : Nat := 0xB5084
/-- DUPFULL of ETH (R479). -/
abbrev ETH_DUPFULL : Nat := 0xB5088
/-- DUPDISC of ETH (R479). -/
abbrev ETH_DUPDISC : Nat := 0xB508C
/-- PRPSTAT of ETH (R479). -/
abbrev ETH_PRPSTAT : Nat := 0xB509C
/-- RINGERR of ETH (R479). -/
abbrev ETH_RINGERR : Nat := 0xB50A0
/-- RXNOBUF of ETH (R479). -/
abbrev ETH_RXNOBUF : Nat := 0xB50A4
/-- PDCTRL of ETH (R479). -/
abbrev ETH_PDCTRL : Nat := 0xB6010
/-- PDTCFG of ETH (R479). -/
abbrev ETH_PDTCFG (i : Nat) : Nat := 0xB6040 + 32 * i
/-- PDTLEN of ETH (R479). -/
abbrev ETH_PDTLEN (i : Nat) : Nat := 0xB6044 + 32 * i
/-- PDTPLEN of ETH (R479). -/
abbrev ETH_PDTPLEN (i : Nat) : Nat := 0xB6048 + 32 * i
/-- PDTPER of ETH (R479). -/
abbrev ETH_PDTPER (i : Nat) : Nat := 0xB604C + 32 * i
/-- PDTPHASE of ETH (R479). -/
abbrev ETH_PDTPHASE (i : Nat) : Nat := 0xB6050 + 32 * i
/-- PDTSTAT of ETH (R479). -/
abbrev ETH_PDTSTAT (i : Nat) : Nat := 0xB6054 + 32 * i
/-- PDTBASE of ETH (R479). -/
abbrev ETH_PDTBASE : Nat := 0xB6440
/-- PDRCFG of ETH (R479). -/
abbrev ETH_PDRCFG (i : Nat) : Nat := 0xB7040 + 32 * i
/-- PDRTYPE of ETH (R479). -/
abbrev ETH_PDRTYPE (i : Nat) : Nat := 0xB7044 + 32 * i
/-- PDRKEY of ETH (R479). -/
abbrev ETH_PDRKEY (i : Nat) : Nat := 0xB7048 + 32 * i
/-- PDRKMASK of ETH (R479). -/
abbrev ETH_PDRKMASK (i : Nat) : Nat := 0xB704C + 32 * i
/-- PDRPLEN of ETH (R479). -/
abbrev ETH_PDRPLEN (i : Nat) : Nat := 0xB7050 + 32 * i
/-- PDRTMO of ETH (R479). -/
abbrev ETH_PDRTMO (i : Nat) : Nat := 0xB7054 + 32 * i
/-- PDRSTAT of ETH (R479). -/
abbrev ETH_PDRSTAT (i : Nat) : Nat := 0xB7058 + 32 * i
/-- PDRBASE of ETH (R479). -/
abbrev ETH_PDRBASE : Nat := 0xB7840
/-- PTPCFG of ETH (R479). -/
abbrev ETH_PTPCFG : Nat := 0xB8040
/-- PDELAY of ETH (R479). -/
abbrev ETH_PDELAY (i : Nat) : Nat := 0xB8044 + 4 * i
/-- TSQCNT of ETH (R479). -/
abbrev ETH_TSQCNT : Nat := 0xB8060
/-- TSOVF of ETH (R479). -/
abbrev ETH_TSOVF : Nat := 0xB8064
/-- TS of ETH (R479). -/
abbrev ETH_TS : Nat := 0xB8068
/-- TSDROP of ETH (R479). -/
abbrev ETH_TSDROP : Nat := 0xB8070
/-- TSPOP of ETH (R479). -/
abbrev ETH_TSPOP : Nat := 0xB8C00
/-- TXRB of SVR (R479). -/
abbrev SVR_TXRB : Nat := 0xB9040
/-- TXRSZ of SVR (R479). -/
abbrev SVR_TXRSZ : Nat := 0xB9048
/-- TXTAIL of SVR (R479). -/
abbrev SVR_TXTAIL : Nat := 0xB904C
/-- TXHEAD of SVR (R479). -/
abbrev SVR_TXHEAD : Nat := 0xB9050
/-- RXRB of SVR (R479). -/
abbrev SVR_RXRB : Nat := 0xB9060
/-- RXRSZ of SVR (R479). -/
abbrev SVR_RXRSZ : Nat := 0xB9068
/-- RXTAIL of SVR (R479). -/
abbrev SVR_RXTAIL : Nat := 0xB906C
/-- RXHEAD of SVR (R479). -/
abbrev SVR_RXHEAD : Nat := 0xB9070
/-- RINGERR of SVR (R479). -/
abbrev SVR_RINGERR : Nat := 0xB90A0
/-- RXNOBUF of SVR (R479). -/
abbrev SVR_RXNOBUF : Nat := 0xB90A4
/-- CTRL of GWY (R487). -/
abbrev GWY_CTRL : Nat := 0xC0010
/-- STAT of GWY (R487). -/
abbrev GWY_STAT : Nat := 0xC0014
/-- SIGCNT of GWY (R487). -/
abbrev GWY_SIGCNT : Nat := 0xC0040
/-- LATMAX of GWY (R487). -/
abbrev GWY_LATMAX : Nat := 0xC0044
/-- CNTCLR of GWY (R487). -/
abbrev GWY_CNTCLR : Nat := 0xC0C00
/-- SRC of GWY (R487). -/
abbrev GWY_SRC (p i : Nat) : Nat := 0xC1040 + 0x1000 * p + 32 * i
/-- SPOS of GWY (R487). -/
abbrev GWY_SPOS (p i : Nat) : Nat := 0xC1044 + 0x1000 * p + 32 * i
/-- DST of GWY (R487). -/
abbrev GWY_DST (p i : Nat) : Nat := 0xC1048 + 0x1000 * p + 32 * i
/-- DPOS of GWY (R487). -/
abbrev GWY_DPOS (p i : Nat) : Nat := 0xC104C + 0x1000 * p + 32 * i
/-- TMO of GWY (R487). -/
abbrev GWY_TMO (p i : Nat) : Nat := 0xC1050 + 0x1000 * p + 32 * i
/-- SUB of GWY (R487). -/
abbrev GWY_SUB (p i : Nat) : Nat := 0xC1054 + 0x1000 * p + 32 * i
/-- VAL of GWY (R487). -/
abbrev GWY_VAL (i : Nat) : Nat := 0xC3040 + 16 * i
/-- SSTAT of GWY (R487). -/
abbrev GWY_SSTAT (i : Nat) : Nat := 0xC3048 + 16 * i
/-- OVWR of GWY (R487). -/
abbrev GWY_OVWR (i : Nat) : Nat := 0xC304C + 16 * i
/-- CTRL of HRB (R504). -/
abbrev HRB_CTRL : Nat := 0xC4010
/-- STAT of HRB (R504). -/
abbrev HRB_STAT : Nat := 0xC4014
/-- WFAR of HRB (R504). -/
abbrev HRB_WFAR (i : Nat) : Nat := 0xC4040 + 16 * i
/-- WSIZE of HRB (R504). -/
abbrev HRB_WSIZE (i : Nat) : Nat := 0xC4044 + 16 * i
/-- WATTR of HRB (R504). -/
abbrev HRB_WATTR (i : Nat) : Nat := 0xC4048 + 16 * i
/-- ACKTO of HRB (R504). -/
abbrev HRB_ACKTO : Nat := 0xC4080
/-- ATNEN of HRB (R504). -/
abbrev HRB_ATNEN : Nat := 0xC4084
/-- ATNLEV of HRB (R504). -/
abbrev HRB_ATNLEV : Nat := 0xC4088
/-- BERRCNT of HRB (R504). -/
abbrev HRB_BERRCNT : Nat := 0xC408C
/-- TOCNT of HRB (R504). -/
abbrev HRB_TOCNT : Nat := 0xC4090
/-- PFDISC of HRB (R504). -/
abbrev HRB_PFDISC : Nat := 0xC4094
/-- PFERR of HRB (R504). -/
abbrev HRB_PFERR : Nat := 0xC4098
/-- CDROP of HRB (R504). -/
abbrev HRB_CDROP : Nat := 0xC409C
/-- FLUSHCNT of HRB (R504). -/
abbrev HRB_FLUSHCNT : Nat := 0xC40A0
/-- CNTCLR of HRB (R504). -/
abbrev HRB_CNTCLR : Nat := 0xC4C00
/-- PECFG of HRB (R504). -/
abbrev HRB_PECFG (i : Nat) : Nat := 0xC5040 + 32 * i
/-- PEOFS of HRB (R504). -/
abbrev HRB_PEOFS (i : Nat) : Nat := 0xC5044 + 32 * i
/-- PEPER of HRB (R504). -/
abbrev HRB_PEPER (i : Nat) : Nat := 0xC5048 + 32 * i
/-- PEVAL of HRB (R504). -/
abbrev HRB_PEVAL (i : Nat) : Nat := 0xC504C + 32 * i
/-- PESTAT of HRB (R504). -/
abbrev HRB_PESTAT (i : Nat) : Nat := 0xC5050 + 32 * i
/-- PEST of HRB (R504). -/
abbrev HRB_PEST (i : Nat) : Nat := 0xC5054 + 32 * i
/-- CTRL of EVR (R526). -/
abbrev EVR_CTRL : Nat := 0xC8010
/-- STAT of EVR (R526). -/
abbrev EVR_STAT : Nat := 0xC8014
/-- CFG of EVR (R526). -/
abbrev EVR_CFG : Nat := 0xC8040
/-- FLUSHIVL of EVR (R526). -/
abbrev EVR_FLUSHIVL : Nat := 0xC8044
/-- MAYCNT of EVR (R526). -/
abbrev EVR_MAYCNT : Nat := 0xC8048
/-- DROPCNT of EVR (R526). -/
abbrev EVR_DROPCNT : Nat := 0xC804C
/-- NEW of EVR (R526). -/
abbrev EVR_NEW : Nat := 0xC8050
/-- OLD of EVR (R526). -/
abbrev EVR_OLD : Nat := 0xC8058
/-- FOUNDCNT of EVR (R526). -/
abbrev EVR_FOUNDCNT : Nat := 0xC8060
/-- STORERR of EVR (R526). -/
abbrev EVR_STORERR : Nat := 0xC8064
/-- CLRCNT of EVR (R526). -/
abbrev EVR_CLRCNT : Nat := 0xC8068
/-- FLUSH of EVR (R526). -/
abbrev EVR_FLUSH : Nat := 0xC8C00
/-- CLRCMD of EVR (R526). -/
abbrev EVR_CLRCMD : Nat := 0xC8C04
/-- CNTCLR of EVR (R526). -/
abbrev EVR_CNTCLR : Nat := 0xC8C08
/-- RDSEQ of EVR (R526). -/
abbrev EVR_RDSEQ : Nat := 0xC9040
/-- RDSTAT of EVR (R526). -/
abbrev EVR_RDSTAT : Nat := 0xC9048
/-- RDREC of EVR (R526). -/
abbrev EVR_RDREC (i : Nat) : Nat := 0xC9080 + 4 * i
/-- SWCODE of EVR (R526). -/
abbrev EVR_SWCODE : Nat := 0xC9100
/-- SWPAY of EVR (R526). -/
abbrev EVR_SWPAY (i : Nat) : Nat := 0xC9104 + 4 * i
/-- RDGO of EVR (R526). -/
abbrev EVR_RDGO : Nat := 0xC9C00
/-- SWGO of EVR (R526). -/
abbrev EVR_SWGO : Nat := 0xC9C04
/-- STAT of LIFE (R527). -/
abbrev LIFE_STAT : Nat := 0xCA014
/-- LIFESAVE of LIFE (R527). -/
abbrev LIFE_LIFESAVE : Nat := 0xCA040
/-- STARTCNT of LIFE (R527). -/
abbrev LIFE_STARTCNT : Nat := 0xCA044
/-- VAL of LIFE (R527). -/
abbrev LIFE_VAL (i : Nat) : Nat := 0xCA100 + 8 * i
/-- CNTCMD of LIFE (R527). -/
abbrev LIFE_CNTCMD : Nat := 0xCAC00
/-- CFG of LIFE (R527). -/
abbrev LIFE_CFG (i : Nat) : Nat := 0xCB040 + 4 * i
/-- ALM of LIFE (R527). -/
abbrev LIFE_ALM (i : Nat) : Nat := 0xCB240 + 8 * i
/-- ALMSTAT of LIFE (R527). -/
abbrev LIFE_ALMSTAT (i : Nat) : Nat := 0xCB680 + 4 * i
/-- CALSEC of LIFE (R527). -/
abbrev LIFE_CALSEC : Nat := 0xCB700
/-- CALSUB of LIFE (R527). -/
abbrev LIFE_CALSUB : Nat := 0xCB708
/-- CALSTAT of LIFE (R527). -/
abbrev LIFE_CALSTAT : Nat := 0xCB70C
/-- CALTRIM of LIFE (R527). -/
abbrev LIFE_CALTRIM : Nat := 0xCB710
/-- CAPV of LIFE (R527). -/
abbrev LIFE_CAPV : Nat := 0xCB714
/-- CALSET of LIFE (R527). -/
abbrev LIFE_CALSET : Nat := 0xCB720
/-- CALGO of LIFE (R527). -/
abbrev LIFE_CALGO : Nat := 0xCBC00
/-- CTRL of RDN (R546). -/
abbrev RDN_CTRL : Nat := 0xD0010
/-- STAT of RDN (R546). -/
abbrev RDN_STAT : Nat := 0xD0014
/-- RDNCFG of RDN (R546). -/
abbrev RDN_RDNCFG : Nat := 0xD0040
/-- HBTO of RDN (R546). -/
abbrev RDN_HBTO : Nat := 0xD0044
/-- STBYTEST of RDN (R546). -/
abbrev RDN_STBYTEST : Nat := 0xD0048
/-- REFUSE of RDN (R546). -/
abbrev RDN_REFUSE : Nat := 0xD004C
/-- GAINCNT of RDN (R546). -/
abbrev RDN_GAINCNT : Nat := 0xD0050
/-- INTLKCNT of RDN (R546). -/
abbrev RDN_INTLKCNT : Nat := 0xD0054
/-- GAIN of RDN (R546). -/
abbrev RDN_GAIN : Nat := 0xD0058
/-- TAKEDUR of RDN (R546). -/
abbrev RDN_TAKEDUR : Nat := 0xD0060
/-- PRIMCMD of RDN (R546). -/
abbrev RDN_PRIMCMD : Nat := 0xD0C00
/-- CKDIV of RDN (R546). -/
abbrev RDN_CKDIV : Nat := 0xD1040
/-- CKPER of RDN (R546). -/
abbrev RDN_CKPER : Nat := 0xD1044
/-- CKSEQ of RDN (R546). -/
abbrev RDN_CKSEQ : Nat := 0xD1048
/-- CKBYTES of RDN (R546). -/
abbrev RDN_CKBYTES : Nat := 0xD104C
/-- CKSKIP of RDN (R546). -/
abbrev RDN_CKSKIP : Nat := 0xD1050
/-- CKAGE of RDN (R546). -/
abbrev RDN_CKAGE : Nat := 0xD1054
/-- HLTHOWN of RDN (R546). -/
abbrev RDN_HLTHOWN : Nat := 0xD1058
/-- HLTHPART of RDN (R546). -/
abbrev RDN_HLTHPART : Nat := 0xD105C
/-- PLINKERR of RDN (R546). -/
abbrev RDN_PLINKERR : Nat := 0xD1060
/-- CKCYC of RDN (R546). -/
abbrev RDN_CKCYC (i : Nat) : Nat := 0xD1080 + 8 * i
/-- CTRL of MGT (R560). -/
abbrev MGT_CTRL : Nat := 0xCE010
/-- STAT of MGT (R560). -/
abbrev MGT_STAT : Nat := 0xCE014
/-- MGTADDR of MGT (R560). -/
abbrev MGT_MGTADDR : Nat := 0xCE040
/-- KEYSTAT of MGT (R560). -/
abbrev MGT_KEYSTAT : Nat := 0xCE044
/-- KEYACL0 of MGT (R560). -/
abbrev MGT_KEYACL0 : Nat := 0xCE048
/-- KEYACL of MGT (R560). -/
abbrev MGT_KEYACL (i : Nat) : Nat := 0xCE04C + 4 * i
/-- RSTHELD of MGT (R560). -/
abbrev MGT_RSTHELD : Nat := 0xCE058
/-- LASTCMD of MGT (R560). -/
abbrev MGT_LASTCMD : Nat := 0xCE05C
/-- RXFRM of MGT (R560). -/
abbrev MGT_RXFRM : Nat := 0xCF040
/-- CRCERR of MGT (R560). -/
abbrev MGT_CRCERR : Nat := 0xCF044
/-- OVERRUN of MGT (R560). -/
abbrev MGT_OVERRUN : Nat := 0xCF048
/-- AUTHOKCNT of MGT (R560). -/
abbrev MGT_AUTHOKCNT : Nat := 0xCF04C
/-- AUTHFAILCNT of MGT (R560). -/
abbrev MGT_AUTHFAILCNT : Nat := 0xCF050
/-- DENYCNT of MGT (R560). -/
abbrev MGT_DENYCNT : Nat := 0xCF054
/-- CNTCLR of MGT (R560). -/
abbrev MGT_CNTCLR : Nat := 0xCFC00
/-- CTRL of UPD (R580). -/
abbrev UPD_CTRL : Nat := 0xCC010
/-- STAT of UPD (R580). -/
abbrev UPD_STAT : Nat := 0xCC014
/-- SVCIP of UPD (R580). -/
abbrev UPD_SVCIP : Nat := 0xCC040
/-- RXBYTES of UPD (R580). -/
abbrev UPD_RXBYTES : Nat := 0xCC044
/-- OPENLEN of UPD (R580). -/
abbrev UPD_OPENLEN : Nat := 0xCC048
/-- REJECT of UPD (R580). -/
abbrev UPD_REJECT : Nat := 0xCC04C
/-- SESSNONCE of UPD (R580). -/
abbrev UPD_SESSNONCE (i : Nat) : Nat := 0xCC050 + 4 * i
/-- BUSYCNT of UPD (R580). -/
abbrev UPD_BUSYCNT : Nat := 0xCC060
/-- IDLECNT of UPD (R580). -/
abbrev UPD_IDLECNT : Nat := 0xCC064
/-- CHSRC of UPD (R580). -/
abbrev UPD_CHSRC : Nat := 0xCC068
/-- CHLEN of UPD (R580). -/
abbrev UPD_CHLEN : Nat := 0xCC070
/-- UPDCMD of UPD (R580). -/
abbrev UPD_UPDCMD : Nat := 0xCCC00
/-- ACTTIME of UPD (R580). -/
abbrev UPD_ACTTIME : Nat := 0xCD040
/-- ACTWIN of UPD (R580). -/
abbrev UPD_ACTWIN : Nat := 0xCD048
/-- ACTSTAT of UPD (R580). -/
abbrev UPD_ACTSTAT : Nat := 0xCD04C
/-- SLOTROLE of UPD (R580). -/
abbrev UPD_SLOTROLE : Nat := 0xCD050
/-- PROBSTAT of UPD (R580). -/
abbrev UPD_PROBSTAT : Nat := 0xCD054
/-- ACTVER of UPD (R580). -/
abbrev UPD_ACTVER : Nat := 0xCD058
/-- FBVER of UPD (R580). -/
abbrev UPD_FBVER : Nat := 0xCD060
/-- STGVER of UPD (R580). -/
abbrev UPD_STGVER : Nat := 0xCD068
/-- MINSVN of UPD (R580). -/
abbrev UPD_MINSVN : Nat := 0xCD070
/-- COPYPOS of UPD (R580). -/
abbrev UPD_COPYPOS : Nat := 0xCD074
/-- COPYDUR of UPD (R580). -/
abbrev UPD_COPYDUR : Nat := 0xCD078
/-- ACTCMD of UPD (R580). -/
abbrev UPD_ACTCMD : Nat := 0xCDC00
/-- CTRL of PMC (R593). -/
abbrev PMC_CTRL (p : Nat) : Nat := 0xD4010 + 0x1000 * p
/-- STAT of PMC (R593). -/
abbrev PMC_STAT (p : Nat) : Nat := 0xD4014 + 0x1000 * p
/-- CFG of PMC (R593). -/
abbrev PMC_CFG (p i : Nat) : Nat := 0xD4040 + 0x1000 * p + 4 * i
/-- CNT of PMC (R593). -/
abbrev PMC_CNT (p i : Nat) : Nat := 0xD4060 + 0x1000 * p + 8 * i
/-- RLD of PMC (R593). -/
abbrev PMC_RLD (p i : Nat) : Nat := 0xD40A0 + 0x1000 * p + 8 * i
/-- OVF of PMC (R593). -/
abbrev PMC_OVF (p : Nat) : Nat := 0xD40E0 + 0x1000 * p
/-- SRCSW of PMC (R593). -/
abbrev PMC_SRCSW (p : Nat) : Nat := 0xD40E4 + 0x1000 * p
/-- SNAPV of PMC (R593). -/
abbrev PMC_SNAPV (p i : Nat) : Nat := 0xD4100 + 0x1000 * p + 8 * i
/-- SNAPT of PMC (R593). -/
abbrev PMC_SNAPT (p : Nat) : Nat := 0xD4140 + 0x1000 * p
/-- SBCNT of PMC (R593). -/
abbrev PMC_SBCNT (p : Nat) : Nat := 0xD4180 + 0x1000 * p
/-- SBTHR of PMC (R593). -/
abbrev PMC_SBTHR (p : Nat) : Nat := 0xD4184 + 0x1000 * p
/-- SBDROP of PMC (R593). -/
abbrev PMC_SBDROP (p : Nat) : Nat := 0xD4188 + 0x1000 * p
/-- CAPCFG of PMC (R593). -/
abbrev PMC_CAPCFG (p : Nat) : Nat := 0xD418C + 0x1000 * p
/-- SBENT of PMC (R593). -/
abbrev PMC_SBENT (p i : Nat) : Nat := 0xD41A0 + 0x1000 * p + 4 * i
/-- WVCFG of PMC (R593). -/
abbrev PMC_WVCFG (p : Nat) : Nat := 0xD4200 + 0x1000 * p
/-- WVSTAT of PMC (R593). -/
abbrev PMC_WVSTAT (p : Nat) : Nat := 0xD4204 + 0x1000 * p
/-- WVSKIP of PMC (R593). -/
abbrev PMC_WVSKIP (p : Nat) : Nat := 0xD4208 + 0x1000 * p
/-- WVREC of PMC (R593). -/
abbrev PMC_WVREC (p i : Nat) : Nat := 0xD4220 + 0x1000 * p + 4 * i
/-- SNAP of PMC (R593). -/
abbrev PMC_SNAP (p : Nat) : Nat := 0xD4C00 + 0x1000 * p
/-- SBPOP of PMC (R593). -/
abbrev PMC_SBPOP (p : Nat) : Nat := 0xD4C04 + 0x1000 * p
/-- WVPOP of PMC (R593). -/
abbrev PMC_WVPOP (p : Nat) : Nat := 0xD4C08 + 0x1000 * p
/-- CNTCLR of PMC (R593). -/
abbrev PMC_CNTCLR (p : Nat) : Nat := 0xD4C0C + 0x1000 * p
/-- ORDCODE of SYS (R617). -/
abbrev SYS_ORDCODE : Nat := 0x40
/-- STEPPING of SYS (R617). -/
abbrev SYS_STEPPING : Nat := 0x44
/-- SERIAL of SYS (R617). -/
abbrev SYS_SERIAL : Nat := 0x48
/-- DPROFILE of SYS (R617). -/
abbrev SYS_DPROFILE : Nat := 0x50
/-- BOOTSTAT of SYS (R617). -/
abbrev SYS_BOOTSTAT : Nat := 0x54
/-- BOOTDUR of SYS (R617). -/
abbrev SYS_BOOTDUR : Nat := 0x58
/-- LOADSTAT of SYS (R617). -/
abbrev SYS_LOADSTAT : Nat := 0x5C
/-- RSTKIND of SYS (R617). -/
abbrev SYS_RSTKIND : Nat := 0x1040
/-- RSTGLITCH of SYS (R617). -/
abbrev SYS_RSTGLITCH : Nat := 0x1044
/-- SYSCMD of SYS (R617). -/
abbrev SYS_SYSCMD : Nat := 0x1C00
/-- STRAPS of SYS (R617). -/
abbrev SYS_STRAPS : Nat := 0x2040
/-- FUSESTAT of SYS (R617). -/
abbrev SYS_FUSESTAT : Nat := 0x2044
/-- MINSVN of SYS (R617). -/
abbrev SYS_MINSVN : Nat := 0x2048
/-- KEYHASH of SYS (R617). -/
abbrev SYS_KEYHASH (i j : Nat) : Nat := 0x2100 + 48 * i + 4 * j
/-- FUSECMD of SYS (R617). -/
abbrev SYS_FUSECMD : Nat := 0x2C00
/-- STAT of PWR (R618). -/
abbrev PWR_STAT : Nat := 0x4014
/-- VINMEAS of PWR (R618). -/
abbrev PWR_VINMEAS : Nat := 0x4040
/-- BANKMEAS of PWR (R618). -/
abbrev PWR_BANKMEAS : Nat := 0x4044
/-- BANKCAP of PWR (R618). -/
abbrev PWR_BANKCAP : Nat := 0x4048
/-- INTCNT of PWR (R618). -/
abbrev PWR_INTCNT : Nat := 0x404C
/-- LASTINT of PWR (R618). -/
abbrev PWR_LASTINT : Nat := 0x4050
/-- PFWCNT of PWR (R618). -/
abbrev PWR_PFWCNT : Nat := 0x4054
/-- PFDUR of PWR (R618). -/
abbrev PWR_PFDUR : Nat := 0x4058
/-- PFBANK of PWR (R618). -/
abbrev PWR_PFBANK : Nat := 0x405C
/-- TEMP of PWR (R618). -/
abbrev PWR_TEMP : Nat := 0x4060
/-- FSMEAS of PWR (R618). -/
abbrev PWR_FSMEAS (i : Nat) : Nat := 0x5040 + 4 * i
/-- FSCMP of PWR (R618). -/
abbrev PWR_FSCMP : Nat := 0x5050
/-- TSMEAS of PWR (R618). -/
abbrev PWR_TSMEAS (i : Nat) : Nat := 0x5060 + 4 * i
/-- TSLIM of PWR (R618). -/
abbrev PWR_TSLIM (i : Nat) : Nat := 0x5068 + 4 * i
/-- TSSTAT of PWR (R618). -/
abbrev PWR_TSSTAT : Nat := 0x5070

end R

end Sys2Proof.Machine
end

