-- ==== Sys2Proof/Syntax.lean ====
section
/-! DEFINITION. The commands of the block: one constructor for every row of the command table.  The first operand
`dt` of every command is the number of 10 ns timebase ticks that pass before it takes effect (assumption 1). -/
namespace Sys2Proof

/-- An initiator of accesses (R60): a voted triad, a split lane (false A, true B), HOSTLINK, Cricket, or the start
sequence of R607 before any partition runs. -/
inductive Init where
  | triad (t : Fin 4)
  | lane (t : Fin 4) (b : Bool)
  | host
  | cricket
  | boot
deriving DecidableEq, Repr

/-- What a sigma-delta modulator gives in one period of 256 kS/s (R225): 64 bits, the first at bit 0, 1 for plus, and
whether it was overloaded. -/
structure ModWord where
  bits : BitVec 64
  sat : Bool
deriving DecidableEq, Repr

/-- The words of a channel's main and check modulator up to the last sample that is needed, oldest first (R222, R225). -/
structure ChIn where
  main : List ModWord
  check : List ModWord
deriving DecidableEq, Repr

/-- A measurement of a source of axes (R90, R93): a mains detector takes the streams of its channels CHA, CHB and CHC, of which
`x` are the words (R225); an encoder gives the change of its count in 1/65,536, interpolated from its edges. -/
inductive Meas where
  | mains (n : Fin 4) (x : List ChIn)
  | encoder (n : Fin 4) (d : Int)
deriving DecidableEq, Repr

/-- A fault of encoder lines (R96): a differential fault has lasted 1 µs, the lines are free of it again, or an illegal
quadrature transition came. -/
inductive EncFault where
  | line
  | clear
  | transition
deriving DecidableEq, Repr

/-- How an SSI frame ended (R96, R122): with the bits received, the last one lowest, or a timeout. -/
inductive SsiFrame where
  | bits (w : BitVec 33)
  | timeout
deriving DecidableEq, Repr

/-- What the Mantis voter finds in one engine tick (R285): agreement, one lane that differs at a request or at the
digest, or no majority. -/
inductive MantisVote where
  | agree
  | output (lane : Fin 3)
  | digest (lane : Fin 3)
  | nomaj
deriving DecidableEq, Repr

/-- The number of data bytes that a DLC codes in an FD or a classical frame. -/
def canLen (fdf : Bool) (dlc : Nat) : Nat :=
  if dlc ≤ 8 then dlc else if fdf then [12, 16, 20, 24, 32, 48, 64].getD (dlc - 9) 64 else 8

/-- A valid frame on a CAN bus (R418, R420). -/
structure CanFrame where
  id : BitVec 29
  ide : Bool
  fdf : Bool
  brs : Bool
  esi : Bool
  rtr : Bool
  dlc : Fin 16
  data : List Byte
deriving DecidableEq, Repr

/-- What a sleeping transceiver detects (R430): a wake-up pattern, a classical frame, or 32 decoding errors. -/
inductive CanWake where
  | wup
  | frame (id : BitVec 29) (ide : Bool) (dlc : Fin 16) (data : BitVec 64)
  | errors
deriving DecidableEq, Repr

/-- A reference message (R433, R435): its first data byte or cycle count, the gap mark of level 2, the priority, and
bytes 2 to 5, 6 to 7 and 8 to 15 of a TT-FD reference.  A level 2 reference, whose layout the spec does not give, carries
the correction in 0.01 ppm that the node computes over consecutive marks. -/
structure TtRef where
  fdf : Bool
  gap : Bool
  count : Byte
  prio : Fin 8
  gtime : BitVec 32
  res : BitVec 16
  time : BitVec 64
  corr : Int
deriving DecidableEq, Repr

/-- A frame at a switch port (R461, R464): its bytes from the destination address on without FCS and without the
redundancy trailer or tag of IEC 62439-3, the sequence number of that trailer, and whether the FCS is valid. -/
structure EthFrame where
  data : List Byte
  red : Option (BitVec 16)
  fcs : Bool
deriving DecidableEq, Repr

/-- The read-modify-write operations of RV64A. -/
inductive AmoOp where
  | swap
  | add
  | xor
  | and
  | or
  | min
  | max
  | minu
  | maxu
deriving DecidableEq, Repr

/-- What an access asks of a physical address (R19): its data are as wide as the access. -/
inductive BusOp where
  | load
  | store (v : BitVec 64)
  | fetch
  | amo (op : AmoOp) (v : BitVec 64)
  | lr
  | sc (v : BitVec 64)
  /-- A read that no instruction consumes (R176, R500). -/
  | ahead
deriving DecidableEq, Repr

/-- What the lanes of a voted triad present to the Scarab pair for one request or digest (R132, R134): the compared lanes
agree, one lane differs (for a parity error of its delay path, or of itself), all differ, or the halves disagree. -/
inductive TriVote where
  | agree
  | lane (l : Fin 3) (parity : Bool)
  | nomaj
  | halfdis
deriving DecidableEq, Repr

/-- The interrupts of a hart: the external one of EVF, the software and the timer interrupt (R74). -/
inductive Irq where
  | external
  | software
  | timer
deriving DecidableEq, Repr

/-- The architectural state of a lane that NV.SNAP saves and a D-section starts from (R65, R153): x1 to x31, f0 to f31,
fcsr, the privilege mode, satp and the pc. -/
structure LaneCtx where
  x : List (BitVec 64)
  f : List (BitVec 64)
  fcsr : BitVec 8
  priv : Fin 4
  satp : BitVec 64
  pc : BitVec 64
deriving DecidableEq, Repr

/-- A partition in a checkpoint (R84, R538): cycle number, retained state, output image, CDIGEST and image digest. -/
structure CkPart where
  part : Fin 6
  cycle : BitVec 64
  ret : List Byte
  out : List Byte
  cdig : Word
  dig : List Byte
deriving DecidableEq, Repr

/-- An axis in a checkpoint (R116): STATE, position, velocity, and the last accepted fix with its time. -/
structure CkAxis where
  state : Fin 8
  pos : Int
  vel : Int
  fixPos : BitVec 64
  fixTime : BitVec 64
deriving DecidableEq, Repr

/-- A schedule entry in a checkpoint (R116): the descriptor, its disarmed targets (target, forward, reverse), and DONE. -/
structure CkEntry where
  desc : Fin 384
  dis : List (Int × Bool × Bool)
  done : Bool
deriving DecidableEq, Repr

/-- An element in a checkpoint (R288): θ of THERM, or the state, shot and elapsed time of RECL. -/
structure CkEl where
  el : Fin 128
  theta : BitVec 64
  state : Fin 16
  shot : Byte
  elapsed : BitVec 64
deriving DecidableEq, Repr

/-- A checkpoint (R538): its sequence number, the module time it was taken at, and what it carries. -/
structure Ckpt where
  seq : Word
  time : BitVec 64
  parts : List CkPart
  axes : List CkAxis
  ents : List CkEntry
  els : List CkEl
  group : Fin 4
  ctl : Byte
deriving DecidableEq, Repr

/-- A frame for the module on the management line, but for its command (R549): sequence, AUTH with its tag, payload. -/
structure MgtFrame where
  seq : Fin 64
  auth : Bool
  tag : List Byte
  pay : List Byte
deriving DecidableEq, Repr

/-- Why a frame gets no reply (R549): a wrong CRC, a wrong length, another address, or too early. -/
inductive MgtBad where
  | crc
  | len
  | addr
  | early
deriving DecidableEq, Repr

/-- The boot configuration of an image (R607): the values of TEN, the MEM windows, the read grants and the RWL registers
(offset in the register space), the owners of pages, the settings of each page (word offsets) for one commit each, the
lock list with its digests, and the six partition images, empty for none. -/
structure BootCfg where
  regs : List (BitVec 21 × Word)
  owners : List (Fin 512 × Byte)
  settings : List (Fin 512 × List (Fin 1024 × Word))
  locks : List (Fin 512 × BitVec 16)
  images : List (List Byte)
deriving DecidableEq, Repr

/-- How far the copy of R570 comes: completed after so many ms, with default settings or not; failed twice; or so many
MiB journalled. -/
inductive CopyEnd where
  | done (ms : Nat) (setdef : Bool)
  | failed
  | partway (mib : Nat)
deriving DecidableEq, Repr

/-- What a start of the main domain finds (R607): the STAGE it comes to, the ms it takes, the self-test of T0 in ROM, the
strap pins, whether the fuses are bad, the factory data in them for page 0x066 (384 words, CALCRC and CALID; none: the
page stands), the signatures of the loaders, the training
of MEM, the copy, the images of the ACTIVE and FALLBACK slots, event blocks with a bad CRC by first record number, the
counter table (0 newest slot, 1 older slot, 2 none valid), the self-test halves of triad t in bits 2t and 2t + 1, and
the boot configuration of the image loaded. -/
structure Boot where
  upTo : Fin 6
  ms : Nat
  rom : Bool
  straps : BitVec 4
  fuse : Bool
  cal : List Word
  loaderA : Bool
  loaderB : Bool
  memOk : Bool
  copy : CopyEnd
  act : Bool
  fb : Bool
  evrBad : List Nat
  life : Fin 3
  halves : BitVec 8
  cfg : BootCfg
deriving DecidableEq, Repr

/-- What the host has written into the function: BAR0 and BAR2 are assigned, and MSI-X is enabled with its table filled.
Both read as after a reset of the configuration space until the host enumerates the function (R23, R24, R33). -/
structure HostCfg where
  bars : Bool := false
  msix : Bool := false
deriving DecidableEq, Repr

/-- The commands of the table, in its order. -/
inductive Instr where
  /-- R16: A PLL loses lock for more than 1 µs, or the TCXO deviates by more than 2,000 ppm, and the module performs
  a module reset of kind CLOCK. -/
  | clockFault (dt : Nat) (c : Fin 6)
  /-- R17: Clocks have held good for 100 ms after a CLOCK reset, so the main domain is released and starts, unless
  three CLOCK resets within 3,600 s hold it. -/
  | clockRestart (dt : Nat)
  /-- R19: A lane or initiator performs a load, store or fetch to the physical address space, voted where the triad
  is voted. -/
  | laneMemoryAccess (dt : Nat) (who : Init) (a : BitVec 40) (w : Fin 4) (op : BusOp) (ecc : BitVec 16) (v : TriVote) (ext : BitVec 48)
  /-- R41: A write to a register that has no behaviour of its own, landing in the active value or in the shadow by
  access code. -/
  | registerWrite (dt : Nat) (who : Init) (p : Fin 512) (w : Fin 1024) (v : Word)
  /-- R32: The HOSTLINK link goes down; P6 keeps its ownerships and PSTATE shows LINKDOWN. -/
  | hostlinkDown (dt : Nat)
  /-- R32: The HOSTLINK link returns, and pending events are delivered as MSI-X messages in vector order. -/
  | hostlinkUp (dt : Nat) (c : HostCfg)
  /-- R33: PERST_N is held low for at least 1 µs and resets the HOSTLINK endpoint only. -/
  | perstAssert (dt : Nat)
  /-- R33: PERST_N rises, and link training starts again within 20 ms. -/
  | perstRelease (dt : Nat)
  /-- R38: A write of TEN PRESET requests the reset of a partition, or it is refused with BAD_KEY or BAD_VALUE. -/
  | presetWrite (dt : Nat) (who : Init) (v : Word)
  /-- R30: A partition reset runs after any commit in progress completes: lanes, pages, vectors and outputs return
  to reset or safe values. -/
  | partitionReset (dt : Nat) (n : Fin 8) (h1 h2 : Bool)
  /-- R44: A write of a page's OWNER hands the page over or releases it, or it is ignored with BAD_VALUE or LOCKED. -/
  | ownerWrite (dt : Nat) (who : Init) (p : Fin 512) (v : Word)
  /-- R47: Writing LOCKED = 1 computes the CRC-16 over the RWL registers and locks the page when it matches DIGEST. -/
  | lockWrite (dt : Nat) (who : Init) (p : Fin 512) (v : Word)
  /-- R48: Writing 1s to EVACK clears the named EVRAW bits unless their condition persists in the same tick. -/
  | evackWrite (dt : Nat) (who : Init) (p : Fin 512) (v again : Word)
  /-- R41: Writing 0x0000_0001 to ERRCLR clears ERRCODE and ERRADDR. -/
  | errclrWrite (dt : Nat) (who : Init) (p : Fin 512) (v : Word)
  /-- R53: A CMT write with GO = 1 arms a commit at the boundary selected by MODE, or it is refused. -/
  | cmtGo (dt : Nat) (who : Init) (p : Fin 512) (v : Word)
  /-- R52: A CMT write with ABORT = 1 discards the shadows and any pending commit, and sets IDLE with REASON
  ABORTED. -/
  | cmtAbort (dt : Nat) (who : Init) (p : Fin 512) (v : Word)
  /-- R54: At the commit boundary the shadows freeze, are checked, and become active together or are refused. -/
  | pageCommitApply (dt : Nat) (p : Fin 512)
  /-- R61: A write of an OWNk word of the TEN ownership table, judged byte by byte. -/
  | ownkWrite (dt : Nat) (who : Init) (k : Fin 128) (v : Word)
  /-- R62: A write of a GRANTk word of the TEN read-grant table, judged byte by byte. -/
  | grantkWrite (dt : Nat) (who : Init) (k : Fin 128) (v : Word)
  /-- R63: A read of DENYPOP pops the oldest access-fault log entry. -/
  | denypop (dt : Nat) (who : Init)
  /-- R60: A read of the LO half of a 64-bit quantity latches the HI half into the initiator's holding register. -/
  | wideLoRead (dt : Nat) (who : Init) (p : Fin 512) (w : Fin 1024)
  /-- R60: A write of the LO half of a 64-bit quantity is held for the following HI write. -/
  | wideLoWrite (dt : Nat) (who : Init) (p : Fin 512) (w : Fin 1024) (v : Word)
  /-- R60: A write of the HI half writes all 64 bits in one tick, or it is ignored with BAD_VALUE when no LO write
  is held. -/
  | wideHiWrite (dt : Nat) (who : Init) (p : Fin 512) (w : Fin 1024) (v : Word)
  /-- R93: A source measurement arrives, and the tracking observer updates position and velocity or rejects the
  measurement. -/
  | axisMeasurement (dt : Nat) (x : Meas) (ph : Fin 8)
  /-- R101: The acquisition criterion is met, so the axis initialises p and v, re-arms its entries and becomes
  LOCKED. -/
  | axisAcquired (dt : Nat) (k : Fin 8) (v : Int)
  /-- R95: The loss criterion is met, so the axis enters HOLD and extrapolates, and LOSSCNT increments. -/
  | axisLoss (dt : Nat) (k : Fin 8)
  /-- R95: The source becomes valid again during HOLD, and the axis returns to LOCKED, stepping when abs(e) ≥
  JUMPTOL. -/
  | axisHoldRecover (dt : Nat) (k : Fin 8)
  /-- R97: The HOLD time elapses, and the axis becomes FROZEN. -/
  | axisHoldExpired (dt : Nat) (k : Fin 8)
  /-- R95: The source becomes valid while the axis is FROZEN, and acquisition starts. -/
  | axisFrozenRecover (dt : Nat) (k : Fin 8)
  /-- R92: The axis crosses a tick boundary. -/
  | axisTick (dt : Nat) (k : Fin 8)
  /-- R107: An entry's lead position crosses an armed target in its direction, so it fires its strobe, event or
  count and is disarmed. -/
  | scheduleEntryFire (dt : Nat) (d : Fin 384)
  /-- R98: While the axis is FROZEN, the hidden extrapolation crosses a target, and the entry's MISSED count
  increments. -/
  | hiddenTargetMissed (dt : Nat) (d : Fin 384)
  /-- R96: A differential fault or an illegal transition on an encoder line counts in ENCnERR and raises the encoder
  fault event. -/
  | encoderLineFault (dt : Nat) (n : Fin 4) (f : EncFault)
  /-- R102: A Z pulse is compared with ENCnZPH for the reference correction or the Z check. -/
  | encoderZPulse (dt : Nat) (n : Fin 4) (ph : Fin 8) (count : Nat)
  /-- R96: An SSI frame is read and judged valid or invalid, feeding the axis or counting toward loss. -/
  | ssiFrame (dt : Nat) (m : Fin 2) (ph : Fin 8) (f : SsiFrame)
  /-- R103: A write of FIXGO applies a track position fix, slewed over 10 ms or stepped, or refuses it with
  FIX_STATE or FIX_STALE. -/
  | fixgo (dt : Nat) (who : Init) (k : Fin 8) (v : Word)
  /-- R121: A write of CAPTURE captures the axis position, velocity and module time in one tick. -/
  | axisCapture (dt : Nat) (who : Init) (k : Fin 8) (v : Word)
  /-- R126: A write of SECLR clears FIRES, MISSED and MISSTOT. -/
  | seclr (dt : Nat) (who : Init) (v : Word)
  /-- R113: A strobe on a Firefly output's line starts a pulse or toggles the output 40 ns after the crossing. -/
  | fireflyStrobe (dt : Nat) (n : Fin 4)
  /-- R113: At a whole second of module time, a Firefly output in PPS mode starts a pulse. -/
  | fireflyPps (dt : Nat) (n : Fin 4)
  /-- R113: A Firefly pulse reaches WIDTH, and its falling edge is emitted. -/
  | fireflyPulseEnd (dt : Nat) (n : Fin 4)
  /-- R114: 100 ns after an edge, the Firefly output is read back, and a mismatch increments FFnFLT. -/
  | fireflyReadback (dt : Nat) (n : Fin 4) (level : Bool)
  /-- R137: Every STPERIOD the Scarab pair runs its injection self-test and halts the triad on a failed half. -/
  | scarabSelftest (dt : Nat) (t : Fin 4) (h1 h2 : Bool)
  /-- R137: A write of STNOW starts a Scarab self-test run within 2 µs. -/
  | stnow (dt : Nat) (who : Init) (t : Fin 4) (v : Word)
  /-- R139: Every 4,096 retired instructions the lanes present an architectural-state digest for voting. -/
  | stateAudit (dt : Nat) (t : Fin 4) (v : TriVote)
  /-- R141: An interrupt for a voted partition arrives, and the target r + 128 is set. -/
  | interruptArrival (dt : Nat) (t : Fin 4) (irq : Irq) (r : Nat) (wfi : Bool)
  /-- R141: Each active lane reaches the target retired-instruction count and takes the interrupt at the same voted
  boundary. -/
  | interruptTaken (dt : Nat) (t : Fin 4) (r : Nat)
  /-- R144: At the reintegration boundary the minority lane's caches, SRAM and state are recopied and self-tested,
  and 2oo3 resumes. -/
  | reintegration (dt : Nat) (t : Fin 4) (ok : Bool)
  /-- R147: A LANECMD FENCE write fences a lane with cause COMMAND, or it is refused or ignored. -/
  | lanecmdFence (dt : Nat) (who : Init) (t : Fin 4) (v : Word)
  /-- R153: The NV.SNAP instruction waits for the next snapshot and enters the D-section or returns the header
  address. -/
  | nvSnap (dt : Nat) (who : Init) (e : BitVec 25) (gap : LaneCtx) (v : TriVote)
  /-- R153: The NV.COMMIT instruction hands the output image to the commit path. -/
  | nvCommit (dt : Nat) (who : Init) (e : BitVec 25) (m : Fin 4) (v : TriVote)
  /-- R153: The NV.ABORT instruction ends the D-section or discards the output image, without a commit. -/
  | nvAbort (dt : Nat) (who : Init) (e : BitVec 25) (m : Fin 4) (v : TriVote)
  /-- R153: The NV.DSTAT instruction returns the mode word. -/
  | nvDstat (dt : Nat) (who : Init) (e : BitVec 25) (m : Fin 4)
  /-- R153: The NV.RBASE instruction returns the base of the retained area. -/
  | nvRbase (dt : Nat) (who : Init) (e : BitVec 25) (m : Fin 4)
  /-- R155: The NV.RMARK instruction declares the retained area consistent for saves and checkpoints. -/
  | nvRmark (dt : Nat) (who : Init) (e : BitVec 25) (m : Fin 4) (v : TriVote)
  /-- R155: The NV.RSTAT instruction returns the start kind of the retained area. -/
  | nvRstat (dt : Nat) (who : Init) (e : BitVec 25) (m : Fin 4)
  /-- R166: An uncorrectable error is detected in a lane memory, and the lane marks its requests or faults
  precisely. -/
  | laneUncorrectableError (dt : Nat) (t : Fin 4) (l : Fin 3) (a : BitVec 40) (syn : Byte)
  /-- R166: A single-bit error in a lane memory is corrected in place and counted. -/
  | laneCorrectableError (dt : Nat) (t : Fin 4) (l : Fin 3)
  /-- R167: Every 10 s each lane scrubs its SRAM and L2. -/
  | laneScrub (dt : Nat) (t : Fin 4) (l : Fin 3)
  /-- R180: The DRAM scrubber reads the next word of its pass, correcting or poisoning it. -/
  | dramScrub (dt : Nat) (ecc : Byte)
  /-- R165: Every 16 ms MEM reads the DRAM temperature and adjusts refresh and TEMPHI. -/
  | dramTempPoll (dt : Nat) (code : Fin 8) (hi : Bool)
  /-- R185: The 3,600 s correctable-error window ends, and CERATE restarts. -/
  | ceWindowEnd (dt : Nat)
  /-- R187: A write of CNTCLR clears the MEM counters except SCRUBPASS. -/
  | memCntclr (dt : Nat) (who : Init) (v : Word)
  /-- R188: A write of ELNEXT removes the oldest error-log entry. -/
  | elnext (dt : Nat) (who : Init) (v : Word)
  /-- R189: The CYCCMD START_COLD command starts the partition cold from STOPPED. -/
  | startCold (dt : Nat) (who : Init) (n : Fin 6) (v : Word)
  /-- R189: The CYCCMD START_WARM command starts the partition from its newest FRAM record, or cold. -/
  | startWarm (dt : Nat) (who : Init) (n : Fin 6) (v : Word)
  /-- R190: The CYCCMD STOP command stops the engine when the current cycle ends, with a retained save and a safe
  commit. -/
  | stop (dt : Nat) (who : Init) (n : Fin 6) (v : Word)
  /-- R212: The CYCCMD CHGLOAD command copies the prepared change image into the inactive bank and checks it. -/
  | chgload (dt : Nat) (who : Init) (n : Fin 6) (v : Word)
  /-- R212: The CHGLOAD copy and checks finish, CHGLOADED = 1 and LOADDONE is raised. -/
  | loaddone (dt : Nat) (n : Fin 6) (digestOk : Bool)
  /-- R212: The CYCCMD CHGARM command arms the loaded change for the change boundary, and the state becomes
  CHANGING. -/
  | chgarm (dt : Nat) (who : Init) (n : Fin 6) (v : Word)
  /-- R213: The CYCCMD CHGABORT command discards the pending change with REASON ABORTED. -/
  | chgabort (dt : Nat) (who : Init) (n : Fin 6) (v : Word)
  /-- R56: The CYCCMD GROUPCMT command applies all pending MODE 3 pages of the partition as one group. -/
  | groupcmt (dt : Nat) (who : Init) (n : Fin 6) (v : Word)
  /-- R189: The windows are written and the first snapshot instant is fixed, and the engine goes from STARTING to
  RUNNING. -/
  | cycStartComplete (dt : Nat) (n : Fin 6)
  /-- R193: A snapshot instant ts is reached, and every mapped source fixes its value or queue boundary. -/
  | snapshotInstant (dt : Nat) (n : Fin 6)
  /-- R193: All sources have reported; the input image and header are written, forces applied, and SNAP raised. -/
  | snapshotDelivery (dt : Nat) (n : Fin 6)
  /-- R194: The sinks have taken effect at tc + 1 µs; the cycle ends (te) and COMMIT is raised. -/
  | commitComplete (dt : Nat) (n : Fin 6) (dis : Bool)
  /-- R192: At ts(n) + MAXCYC with no commit or abort retired, the watchdog acts under WDACT. -/
  | watchdogExpiry (dt : Nat) (n : Fin 6)
  /-- R207: Every RSAVE × 10 ms the retained version is saved to the alternate FRAM slot, header last. -/
  | retainedSave (dt : Nat) (n : Fin 6) (ok : Bool)
  /-- R214: At the change boundary the change is applied or refused, the banks switch and the retained state is
  migrated. -/
  | changeApply (dt : Nat) (n : Fin 6)
  /-- R221: A write of CNTCLR clears CYCMAX, OVRCNT, WDCNT and REFCNT. -/
  | cycCntclr (dt : Nat) (who : Init) (n : Fin 6) (v : Word)
  /-- R236: A grid tick crosses, from the axis or the fallback grid, and main and check interpolation begin. -/
  | gridTick (dt : Nat)
  /-- R236: Set k is placed on the sample bus to PRE and DRC after LATAA + DFIX. -/
  | sampleSetDelivery (dt : Nat) (x : List ChIn)
  /-- R232: A modulator shows no transition for 256 clocks, or its clock monitor trips, and MFLTM or MFLTC is set. -/
  | modulatorFault (dt : Nat) (n : Fin 24) (check : Bool)
  /-- R239: A channel's settling interval D ends, SETTLE clears, and ES105 is raised when SETTLEMASK becomes 0. -/
  | settled (dt : Nat) (n : Fin 24)
  /-- R249: A write of LIVEGRAB clears READY, and the next delivered set is copied whole. -/
  | livegrab (dt : Nat) (who : Init) (v : Word)
  /-- R250: A write of XCLR clears cross-check latches and modulator faults whose condition has gone. -/
  | xclr (dt : Nat) (who : Init) (v : Word) (gone : BitVec 48)
  /-- R252: A write of CAPGO starts a raw capture of 256 samples of one channel. -/
  | padCapgo (dt : Nat) (who : Init) (v : Word)
  /-- R252: The raw capture completes, DONE is set and ES109 is raised. -/
  | capdone (dt : Nat) (m : List ModWord) (c : List ModWord)
  /-- R255: The Mantis lanes run the protection program over one sample set, vote it and publish the results. -/
  | engineTick (dt : Nat) (vote : MantisVote)
  /-- R280: A rising trip demand starts a pulse, after the 20 ms spacing if needed; counted, raised and recorded. -/
  | tripPulseStart (dt : Nat) (n : Fin 8)
  /-- R280: A trip pulse ends at 200 ms, at demand 0 after TMIN, or at current-low for 20 ms after TMIN. -/
  | tripPulseEnd (dt : Nat) (n : Fin 8) (peak : BitVec 16)
  /-- R280: A rising close demand starts a close pulse of CPW. -/
  | closePulseStart (dt : Nat) (n : Fin 4)
  /-- R280: A close pulse ends after CPW, or at once when a trip of its breaker starts. -/
  | closePulseEnd (dt : Nat) (n : Fin 4) (peak : BitVec 16)
  /-- R283: Trip-circuit supervision current stays below 0.4 mA for TCSDLY, so TCSFLT is set. -/
  | tcsflt (dt : Nat) (n : Fin 12) (on : Bool)
  /-- R283: More than 20 mA flows for 10 ms through an off driver, so DRVFLT is set. -/
  | drvflt (dt : Nat) (n : Fin 12) (on : Bool)
  /-- R283: Less than 100 mA flows 2 ms after a pulse start, so TFAIL is set. -/
  | tfail (dt : Nat) (n : Fin 12)
  /-- R284: The breaker becomes current-low, and the interruption's A²s are added to WEARb and to LIFE. -/
  | breakerCurrentLow (dt : Nat) (b : Fin 8)
  /-- R278: The GRPCMD SEAL command starts the check of a setting group. -/
  | grpcmdSeal (dt : Nat) (who : Init) (v : Word)
  /-- R278: The group check finishes within 2 ms, setting GRPSEAL or recording GROUP_INVALID. -/
  | groupSealDone (dt : Nat)
  /-- R278: The GRPCMD UNSEAL command clears a group's seal bit, or it is refused for the group in use. -/
  | grpcmdUnseal (dt : Nat) (who : Init) (v : Word)
  /-- R296: A write of OUTTEST makes one test pulse of a trip or close output while the engine is OFF. -/
  | outtest (dt : Nat) (who : Init) (v : Word)
  /-- R294: A write of CNTCLR in page 0x068 clears LATMAX and BACKCNT. -/
  | preCntclr (dt : Nat) (who : Init) (v : Word)
  /-- R296: A write of CNTCLR in page 0x06A clears TFAIL, TLIM, CLINTLK, TRIPCNT and CLOSECNT. -/
  | preOutCntclr (dt : Nat) (who : Init) (v : Word)
  /-- R296: A write of WEARCLR clears a breaker's WEAR, WLAST and WSAT bit. -/
  | wearclr (dt : Nat) (who : Init) (v : Word)
  /-- R299: A write of MLCMD fences a Mantis lane, or it is refused. -/
  | mlcmd (dt : Nat) (who : Init) (v : Word)
  /-- R254: A write to PRE program, group or curve memory is accepted, or it is ignored with PROG_BUSY. -/
  | preMemoryWrite (dt : Nat) (who : Init) (o : Fin 262144) (b : List Byte)
  /-- R254: An uncorrectable error in PRE memory puts the engine in FAULT or unseals an inactive group. -/
  | preMemoryUe (dt : Nat) (o : Fin 196608)
  /-- R302: A trigger is accepted at its trigger tick, opening or extending a record, or counting as lost or
  ignored. -/
  | drcTrigger (dt : Nat)
  /-- R302: A write of TRGNOW requests a trigger at the next tick. -/
  | trgnow (dt : Nat) (who : Init) (v : Word)
  /-- R308: A copy of the oldest complete record to the eMMC archive starts, deleting older records or waiting under
  ARCHPOL. -/
  | archiveCopyStart (dt : Nat)
  /-- R308: The archive header is written last, ARCHDONE is raised and the slot is released. -/
  | archdone (dt : Nat)
  /-- R310: An eMMC error ends the archive copy, discards its blocks and keeps the slot held. -/
  | archIo (dt : Nat)
  /-- R317: The ARCMD PROTECT command protects the archived record named by ASEL. -/
  | arcmdProtect (dt : Nat) (who : Init) (v : Word)
  /-- R317: The ARCMD UNPROTECT command removes the protection of the archived record named by ASEL. -/
  | arcmdUnprotect (dt : Nat) (who : Init) (v : Word)
  /-- R317: The ARCMD DELETE command deletes the archived record named by ASEL. -/
  | arcmdDelete (dt : Nat) (who : Init) (v : Word)
  /-- R309: The ARCMD RELEASE command frees the slot named by DSEL without archiving it, while ARCHEN = 0. -/
  | arcmdRelease (dt : Nat) (who : Init) (v : Word)
  /-- R310: The ARCMD RETRY command retries a failed archive copy. -/
  | arcmdRetry (dt : Nat) (who : Init) (v : Word)
  /-- R313: The EXPCMD command writes the .cfg file of the selected record to DRAM. -/
  | expcmdCfg (dt : Nat) (who : Init) (v : Word)
  /-- R313: The EXPCMD command writes the .hdr file of the selected record to DRAM. -/
  | expcmdHdr (dt : Nat) (who : Init) (v : Word)
  /-- R313: The EXPCMD command writes the .dat file of the selected record to DRAM. -/
  | expcmdDat (dt : Nat) (who : Init) (v : Word)
  /-- R312: The export completes with every byte visible, EXPLEN is set and EXPDONE is raised. -/
  | expdone (dt : Nat)
  /-- R317: A write of CNTCLR clears TRGLOST, RTIGN, GAPCNT and ARCHDROP. -/
  | drcCntclr (dt : Nat) (who : Init) (v : Word)
  /-- R327: A timer, strobe, PWM point or GO trigger is accepted and starts the sequence passes after TDLY. -/
  | sarTrigger (dt : Nat) (c : Fin 4)
  /-- R328: The SEQCMD GO command acts as a trigger. -/
  | seqcmdGo (dt : Nat) (who : Init) (c : Fin 4) (v : Word)
  /-- R326: The SEQCMD STOP command ends the passes at the current conversion boundary. -/
  | seqcmdStop (dt : Nat) (who : Init) (c : Fin 4) (v : Word)
  /-- R322: A 0.5 µs conversion slot starts after its entry's DELAY, samples, and writes its result slot. -/
  | sarConversion (dt : Nat) (c : Fin 4) (code : BitVec 16)
  /-- R324: A write of CONVREQ requests a single or urgent conversion, or it is refused with CONV_BUSY. -/
  | convreq (dt : Nat) (who : Init) (c : Fin 4) (v : Word)
  /-- R323: The 100 µs self-calibration ends, READY becomes 1 and a held CONVREQ starts. -/
  | sarReady (dt : Nat) (c : Fin 4)
  /-- R330: FBTO passes without a trigger, so the converter enters FALLBACK and starts its own passes. -/
  | sarFallback (dt : Nat) (c : Fin 4)
  /-- R330: Every FBTO µs in FALLBACK the sequencer starts a fall-back pass. -/
  | sarFallbackPass (dt : Nat) (c : Fin 4)
  /-- R335: A write of CHKCLR clears SELFCHK when the latest reference conversion is within REFTOL. -/
  | chkclr (dt : Nat) (who : Init) (c : Fin 4) (v : Word)
  /-- R343: A write of CNTCLR clears TRIGOVR, ABNCNT and FBCNT. -/
  | sarCntclr (dt : Nat) (who : Init) (c : Fin 4) (v : Word)
  /-- R346: A raw threshold crossing of a DI input is stamped and starts the input filter. -/
  | diRawEdge (dt : Nat) (n : Fin 48) (ph : Fin 8) (level : Bool)
  /-- R346: The input has held its new level for FILT, so the change is accepted, stamped and queued. -/
  | diEdgeAccept (dt : Nat) (n : Fin 48)
  /-- R347: A read of EQPOPg removes and returns the oldest edge of the queue. -/
  | eqpop (dt : Nat) (who : Init) (g : Fin 6)
  /-- R349: A DO channel exceeds its current limit for the stated time, and it and its members switch off with OVLD
  set. -/
  | ovld (dt : Nat) (k : Fin 32)
  /-- R349: A channel on in LEVEL mode carries less than 5 mA for 100 ms, so OPEN is set. -/
  | doOpenLoad (dt : Nat) (k : Fin 32) (open_ : Bool) (ma : Fin 4096)
  /-- R351: A PWM carrier period starts, and the PWM channels switch on. -/
  | pwmPeriodStart (dt : Nat) (g : Fin 4)
  /-- R351: A PWM channel's on-time ends, and the channel switches off. -/
  | pwmOffEdge (dt : Nat) (k : Fin 32)
  /-- R352: The readback differs from the driver command for RBDLY, or for eight PWM periods, so RBFLT is set. -/
  | rbflt (dt : Nat) (k : Fin 32) (level : Bool)
  /-- R353: A safety channel commanded off reads back ON for RBDLY, so its group is latched off with cause STUCK. -/
  | stuckLatch (dt : Nat) (k : Fin 32)
  /-- R354: At its offset in the group period, a safety channel that is on receives an off-pulse of TPW. -/
  | testPulseStart (dt : Nat) (k : Fin 32)
  /-- R354: The test pulse ends and is judged passed or failed, with a latch on a second failure. -/
  | testPulseEnd (dt : Nat) (k : Fin 32) (off : Bool)
  /-- R356: A field supply stays below 19.2 V for 100 µs, so FSWARN is set. -/
  | fswarn (dt : Nat) (g : Fin 4)
  /-- R356: A field supply stays above 20.0 V for 100 µs, so FSWARN clears. -/
  | fswarnClear (dt : Nat) (g : Fin 4)
  /-- R356: A field supply stays below 15.0 V for 20 µs, so the group switch opens and the group is latched with
  cause FSLOW. -/
  | fslowLatch (dt : Nat) (g : Fin 4)
  /-- R356: A field supply stays at or above 19.2 V for 100 ms, so FSOK becomes 1. -/
  | fsok (dt : Nat) (g : Fin 4)
  /-- R366: A write of FLTCLR clears RBFLT and TPFAIL bits whose condition has gone. -/
  | dioFltclr (dt : Nat) (who : Init) (g : Fin 4) (v : Word) (agree : Byte)
  /-- R367: A write of LOGCLR clears the group latch log. -/
  | logclr (dt : Nat) (who : Init) (v : Word)
  /-- R369: Every 250 µs both evaluator channels evaluate every safety function on the accepted input levels. -/
  | sfnEvaluation (dt : Nat) (ok1 ok2 same : Bool)
  /-- R370: A channel pair stays discrepant for longer than FfDISC, so the function enters FAULT with cause DISCREP. -/
  | discrep (dt : Nat) (f : Fin 16)
  /-- R371: One hand is actuated for more than 500 ms without the other, so the function goes to WAITRELEASE. -/
  | twohandTimeout (dt : Nat) (f : Fin 16)
  /-- R375: The outputs have read back OFF for FfEDMT while the EDM input is not ON, so the function enters FAULT
  with cause EDM. -/
  | edmFault (dt : Nat) (f : Fin 16)
  /-- R374: A reset input stays ON for 10 s, so RSTSTUCK is set and recorded. -/
  | rststuck (dt : Nat) (n : Fin 48)
  /-- R376: A write of FLTCLR clears the faults of the named functions whose clearing condition is met. -/
  | sfnFltclr (dt : Nat) (who : Init) (v : Word)
  /-- R399: A loop scan converts every enabled loop input and output on SAR3 and updates values and status. -/
  | loopScan (dt : Nat) (x : List (List (BitVec 16))) (vl : BitVec 16)
  /-- R395: The deficit has exceeded 200 µA for more than 10 ms, so COMPL is set. -/
  | compl (dt : Nat) (c : Fin 8)
  /-- R396: With a setpoint of at least 1 mA, the current stays below 200 µA for 50 ms, so OPEN is set. -/
  | loopOpen (dt : Nat) (c : Fin 8)
  /-- R397: The measured current exceeds the setpoint by 500 µA for 10 ms, so RBHIGH is set. -/
  | rbhigh (dt : Nat) (c : Fin 8)
  /-- R393: A loop input's overcurrent comparator trips, so the limiter opens and PROT is set. -/
  | prot (dt : Nat) (n : Fin 8)
  /-- R393: 1 s after opening, the input limiter closes again. -/
  | limiterReclose (dt : Nat) (n : Fin 8)
  /-- R398: An output terminal stands above VL for 100 µs, so the stage is switched off and MISWIRE is set. -/
  | miswire (dt : Nat) (c : Fin 8)
  /-- R398: A write of FLTCLR clears MISWIRE where the terminal is back below VL. -/
  | loopFltclr (dt : Nat) (who : Init) (v : Word) (below : Byte)
  /-- R409: A write of CNTCLR clears VLMIN and the loop fault counts. -/
  | loopCntclr (dt : Nat) (who : Init) (v : Word)
  /-- R413: Eleven consecutive recessive bits complete bus integration, and the controller becomes ACTIVE or LISTEN. -/
  | canIntegrated (dt : Nat) (c : Fin 4)
  /-- R418: A valid data frame is received and filtered into a receive object, the queue, or discarded. -/
  | canFrameReceived (dt : Nat) (c : Fin 4) (f : CanFrame) (ago : Nat) (ph : Fin 8)
  /-- R413: A bus error updates TEC and REC, with transitions to ERRPASSIVE or BUSOFF. -/
  | canError (dt : Nat) (c : Fin 4) (lec : Fin 7) (dataPhase : Bool) (tec rec_ : Fin 9)
  /-- R413: 128 occurrences of 11 recessive bits complete bus-off recovery, and the counters reset. -/
  | busoffRecovery (dt : Nat) (c : Fin 4)
  /-- R413: The CANCMD RECOVER command starts bus-off recovery counting when BOAUTO = 0. -/
  | cancmdRecover (dt : Nat) (who : Init) (c : Fin 4) (v : Word)
  /-- R424: The TXCMD SEND command requests a frame of a transmit object, merged with one already pending. -/
  | txcmdSend (dt : Nat) (who : Init) (c : Fin 4) (v : Word)
  /-- R426: The TXCMD CANCEL command withdraws a request before its SOF, or marks the attempt late. -/
  | txcmdCancel (dt : Nat) (who : Init) (c : Fin 4) (v : Word)
  /-- R427: The TXCMD LOAD command copies an object's staging buffer into its active buffer. -/
  | txcmdLoad (dt : Nat) (who : Init) (c : Fin 4) (v : Word)
  /-- R423: At a multiple of PER × 10 µs, a TIMER object requests a frame. -/
  | canTxTimer (dt : Nat) (c : Fin 4) (k : Fin 32)
  /-- R424: The bus is free, so the pending frame with the lowest arbitration field starts and latches its data. -/
  | canTxStart (dt : Nat) (c : Fin 4) (ph : Fin 8)
  /-- R425: An attempt loses arbitration and waits for the next bus idle, without counting as an attempt. -/
  | canArbitrationLost (dt : Nat) (c : Fin 4)
  /-- R425: A frame completes or fails after RETRY; LAST, TXEND and the timestamp queue are updated. -/
  | canTxComplete (dt : Nat) (c : Fin 4)
  /-- R428: A read of TXTSPOP removes the oldest transmit timestamp entry. -/
  | txtspop (dt : Nat) (who : Init) (c : Fin 4)
  /-- R421: A write of RXQREL releases the oldest receive-queue entries. -/
  | rxqrel (dt : Nat) (who : Init) (c : Fin 4) (v : Word)
  /-- R430: In SLEEP, a wake-up pattern, a matching wake frame or a run of decoding errors is detected, and the wake
  is reported. -/
  | canWake (dt : Nat) (c : Fin 4) (w : CanWake)
  /-- R432: At time mark 0 a potential time master in SYNC attempts its reference message. -/
  | ttReferenceAttempt (dt : Nat) (c : Fin 4) (won : Bool) (ph : Fin 8)
  /-- R432: A trigger of the TT matrix reaches its time mark: TXEXCL, TXARB or RXCHECK. -/
  | ttTrigger (dt : Nat) (c : Fin 4) (j : Fin 64) (busy : Bool) (ph : Fin 8)
  /-- R433: A reference message is received and advances TTSYNC, the rate correction and TTTOFS. -/
  | ttReferenceReceived (dt : Nat) (c : Fin 4) (r : TtRef) (ago : Nat)
  /-- R433: No reference arrives for TTWATCH NTU, so TTMISS increments and the state degrades. -/
  | ttWatchExpiry (dt : Nat) (c : Fin 4)
  /-- R443: A write of CNTCLR clears the saturating CAN counters and TTMISS. -/
  | canCntclr (dt : Nat) (who : Init) (c : Fin 4) (v : Word)
  /-- R450: A write of OFSGO submits an offset sample to the time servo. -/
  | ofsgo (dt : Nat) (who : Init) (v : Word)
  /-- R458: A SYNCIN pulse is stamped and, with TSRC = 1, becomes a servo sample. -/
  | syncinPulse (dt : Nat) (ago : Nat)
  /-- R458: 1.1 s pass without a SYNCIN pulse, so PPSMISS increments. -/
  | syncinMissing (dt : Nat)
  /-- R453: A step of −θ is added to module time at least 1 µs after its sample, and STEPCNT increments. -/
  | timeStep (dt : Nat)
  /-- R451: No sample arrives for HOLDTO, so r := i and the state becomes HOLDOVER. -/
  | holdover (dt : Nat)
  /-- R449: A write of CAPGO captures module time into CAPLO and CAPHI. -/
  | tmbCapgo (dt : Nat) (who : Init) (v : Word)
  /-- R455: A write of RESTEP arms a re-step of the next sample, or it is ignored in FREERUN. -/
  | restep (dt : Nat) (who : Init) (v : Word)
  /-- R457: At the end of the UTC day with LEAP set, TAIUTC changes by 1 s and LEAP clears. -/
  | leapSecond (dt : Nat)
  /-- R461: A frame received at a switch port is stamped, learned, filtered and forwarded or delivered. -/
  | ethFrameReceived (dt : Nat) (n : Fin 6) (f : EthFrame) (ago : Nat) (ph : Fin 8)
  /-- R460: A port's link comes up or goes down. -/
  | ethLinkChange (dt : Nat) (n : Fin 6) (up gig : Bool)
  /-- R469: A write of TXTAIL hands transmit descriptors to the module. -/
  | txtailWrite (dt : Nat) (who : Init) (svc : Bool) (v : Word)
  /-- R469: A write of RXTAIL hands receive descriptors to the module. -/
  | rxtailWrite (dt : Nat) (who : Init) (svc : Bool) (v : Word)
  /-- R470: A host transmit descriptor completes with its status, or the ring stops on POISON or ACCESS. -/
  | ethTxComplete (dt : Nat) (svc : Bool)
  /-- R470: A write clearing RINGERR restarts the stopped transmit ring. -/
  | ringerrClear (dt : Nat) (who : Init) (svc : Bool) (v : Word)
  /-- R463: A launch-time frame at the head of its queue is sent at L, or ends LATE or EARLY. -/
  | ethLaunch (dt : Nat) (n : Fin 6) (q : Fin 8)
  /-- R462: A gate-control-list interval ends, and the next entry's gate states apply. -/
  | gateListEntry (dt : Nat) (n : Fin 4)
  /-- R462: A pending gate list takes over at its cycle boundary. -/
  | gateListSwitch (dt : Nat) (n : Fin 4)
  /-- R461: A learned address entry ages out after AGETIME. -/
  | fdbAgeOut (dt : Nat)
  /-- R464: One LAN receives nothing for 2 s while the other receives, so its PRPSTAT bit is set. -/
  | prpLanMissing (dt : Nat) (n : Fin 2)
  /-- R464: A duplicate-table entry reaches FORGET ms and is removed. -/
  | prpEntryExpiry (dt : Nat)
  /-- R471: A process-data transmit object reaches its launch time, from commit, timer or strobe, and sends its
  frame. -/
  | pdTxLaunch (dt : Nat) (k : Fin 32)
  /-- R472: A process-data filter receives no update for TMO µs, so TIMEOUT is set. -/
  | pdRxTimeout (dt : Nat) (k : Fin 64)
  /-- R468: A read of TSPOP removes the oldest ETH transmit timestamp entry. -/
  | tspop (dt : Nat) (who : Init)
  /-- R483: After a source update, GWY writes the signals it feeds into their destinations. -/
  | gwySignalWrite (dt : Nat) (kind : Fin 4) (inst : Fin 4) (item : Fin 256)
  /-- R484: A signal receives no update for TMO ms, so STALE is set and a substitute may apply. -/
  | gwyStale (dt : Nat) (g : Fin 128)
  /-- R487: A write of CNTCLR clears LATMAX and every OVWR. -/
  | gwyCntclr (dt : Nat) (who : Init) (v : Word)
  /-- R491: A lane accesses an HRB far window; the access is split into bus cycles, posted, or faulted. -/
  | hrbWindowAccess (dt : Nat) (who : Init) (n : Fin 4) (x : BitVec 24) (w : Fin 4) (op : BusOp)
  /-- R488: HRB starts a heritage bus cycle: address, width and direction, then CMD_N. -/
  | hrbCycleStart (dt : Nat) (n : Fin 4)
  /-- R488: RDY_N or FLT_N is seen low, and the bus cycle ends done or as BUSERR. -/
  | hrbCardReply (dt : Nat) (flt : Bool) (hd : BitVec 16)
  /-- R488: No card reply comes within ACKTO, so the cycle ends as TIMEOUT. -/
  | hrbCycleTimeout (dt : Nat)
  /-- R489: 10 ms after EN is set, HRST_N is released and RSTACT clears. -/
  | hrbResetEnd (dt : Nat)
  /-- R496: A WACK RESUME write issues the held writes in order and clears HALTED. -/
  | wackResume (dt : Nat) (who : Init) (n : Fin 4) (v : Word)
  /-- R496: A WACK FLUSH write discards the held writes and clears HALTED. -/
  | wackFlush (dt : Nat) (who : Init) (n : Fin 4) (v : Word)
  /-- R498: A poll-cache entry falls due by period or ATN line and its far read joins the window queue. -/
  | pollReadDue (dt : Nat) (e : Fin 32)
  /-- R499: An ATN line holds a new level for three samples and is accepted. -/
  | atnAccept (dt : Nat) (n : Fin 8) (low : Bool)
  /-- R504: A write of CNTCLR clears the HRB counters. -/
  | hrbCntclr (dt : Nat) (who : Init) (v : Word)
  /-- R510: A flush trigger starts writing the unflushed Mayfly records to the eMMC in sequence order. -/
  | evrFlush (dt : Nat)
  /-- R511: A flush completes with blocks and index entries written, or it is abandoned on a write error. -/
  | evrFlushDone (dt : Nat) (ok : Bool)
  /-- R526: A write of FLUSH requests a flush. -/
  | evrFlushCmd (dt : Nat) (who : Init) (v : Word)
  /-- R513: A write of RDGO starts the read of the record numbered RDSEQ. -/
  | rdgo (dt : Nat) (who : Init) (v : Word)
  /-- R513: The record read finishes, with READY and RDREC or ABSENT. -/
  | evrReadDone (dt : Nat)
  /-- R514: A write of SWGO enters a software record, subject to SWRATE. -/
  | swgo (dt : Nat) (who : Init) (v : Word)
  /-- R515: The CLRCMD ARM command arms a clear of the recent area for 10 s. -/
  | clrcmdArm (dt : Nat) (who : Init) (v : Word)
  /-- R515: The CLRCMD CLEAR command enters a CLEAR record and starts the clear, or it is ignored with CLR_NOTARMED. -/
  | clrcmdClear (dt : Nat) (who : Init) (v : Word)
  /-- R515: The recent blocks are released, CLRCNT increments and ES255 is raised. -/
  | evrClearDone (dt : Nat)
  /-- R526: A write of CNTCLR clears DROPCNT and STORERR. -/
  | evrCntclr (dt : Nat) (who : Init) (v : Word)
  /-- R518: A whole second elapses, and the TIME counters whose condition holds increment. -/
  | lifeSecond (dt : Nat)
  /-- R520: Every LIFESAVE seconds the counter table is saved to the alternate FRAM slot. -/
  | lifeSave (dt : Nat) (ok : Bool)
  /-- R518: The CNTCMD ADD command increments a SOFT counter. -/
  | cntcmdAdd (dt : Nat) (who : Init) (v : Word)
  /-- R521: The CNTCMD RESET command zeroes a counter and records CNTRESET, or it is ignored for PERM. -/
  | cntcmdReset (dt : Nat) (who : Init) (v : Word)
  /-- R523: Every 64 s while time is locked, the calendar is compared with module time, set and trimmed. -/
  | calendarDiscipline (dt : Nat)
  /-- R524: A write of CALGO sets the calendar to CALSET, or it is refused with CAL_LOCKED. -/
  | calgo (dt : Nat) (who : Init) (v : Word)
  /-- R522: The calendar oscillator stops, so VALID clears. -/
  | calendarStop (dt : Nat)
  /-- R528: PRIM_IN is classified anew as IDLE, CLAIM, HELD or INVALID, withdrawing a site-B claim where needed. -/
  | primInChange (dt : Nat) (sig : Fin 4)
  /-- R530: A fresh-start or takeover claim condition is met, and PRIM_OUT goes to CLAIM. -/
  | primacyClaim (dt : Nat)
  /-- R529: 1 ms in CLAIM without a competing claim, so primacy is HELD and the gates open. -/
  | primacyHeld (dt : Nat)
  /-- R529: PRIM_IN shows HELD for 5 µs while the module holds primacy, so it releases and counts an interlock
  fault. -/
  | primacyConflict (dt : Nat)
  /-- R534: The PRIMCMD RELEASE command is accepted or refused with NOT_READY or NOT_HELD. -/
  | primcmdRelease (dt : Nat) (who : Init) (v : Word)
  /-- R533: Primacy is released: the gates close, PRIM_OUT goes IDLE and RELEASE heartbeats are sent. -/
  | primacyRelease (dt : Nat)
  /-- R537: Every 1 ms the module sends a heartbeat with its health word over PLINK. -/
  | heartbeatSend (dt : Nat)
  /-- R537: A partner heartbeat arrives and updates HLTHPART. -/
  | heartbeatReceived (dt : Nat) (w : Word) (crc : Bool)
  /-- R530: No heartbeat arrives for HBTO. -/
  | heartbeatTimeout (dt : Nat)
  /-- R538: A checkpoint finishes transmission over PLINK. -/
  | checkpointSendDone (dt : Nat) (size : Word)
  /-- R539: A received checkpoint's closing CRC matches, so it becomes complete and CKSEQ advances. -/
  | checkpointReceived (dt : Nat) (c : Ckpt) (size : Word)
  /-- R536: Every STBYTEST s in Cicada, a lane self-test runs on the next lane in turn. -/
  | standbyLaneTest (dt : Nat) (pass : Bool)
  /-- R550: The IDENT command returns the ordering code, stepping, serial number, D-profile and CLOSED. -/
  | mgtIdent (dt : Nat) (f : MgtFrame)
  /-- R550: The HEALTH command returns the health report. -/
  | mgtHealth (dt : Nat) (f : MgtFrame)
  /-- R555: The READPAGE command returns registers of a page, or ACTION when the range reaches the action window. -/
  | mgtReadpage (dt : Nat) (f : MgtFrame)
  /-- R550: The READEVR command returns one event record. -/
  | mgtReadevr (dt : Nat) (f : MgtFrame)
  /-- R550: The READLIFE command returns life counter values. -/
  | mgtReadlife (dt : Nat) (f : MgtFrame)
  /-- R552: The NONCE command returns a fresh 16-byte nonce and invalidates earlier ones. -/
  | mgtNonce (dt : Nat) (f : MgtFrame)
  /-- R555: The authenticated READMEM command returns bytes from a DRAM window granted to P7. -/
  | mgtReadmem (dt : Nat) (f : MgtFrame) (ecc : Byte)
  /-- R556: The authenticated PRESET command requests a partition reset. -/
  | mgtPreset (dt : Nat) (f : MgtFrame)
  /-- R556: The authenticated MRESET command makes a module reset of kind MGT after the reply. -/
  | mgtMreset (dt : Nat) (f : MgtFrame)
  /-- R556: The authenticated RECOVERY command resets the module into recovery mode. -/
  | mgtRecovery (dt : Nat) (f : MgtFrame)
  /-- R556: The authenticated EVRCLEAR command performs the ARM or CLEAR of the event recorder. -/
  | mgtEvrclear (dt : Nat) (f : MgtFrame)
  /-- R556: The authenticated PRIMREL command requests the primacy release. -/
  | mgtPrimrel (dt : Nat) (f : MgtFrame)
  /-- R556: The authenticated WAKE command starts the main domain from off. -/
  | mgtWake (dt : Nat) (f : MgtFrame)
  /-- R554: The authenticated SETKEY command replaces or empties a key slot and its mask. -/
  | mgtSetkey (dt : Nat) (f : MgtFrame)
  /-- R557: The authenticated CLOSE command blows the field-closure fuse. -/
  | mgtClose (dt : Nat) (f : MgtFrame)
  /-- R549: A frame with a wrong CRC, a wrong length, another address, or one arriving before the reply is
  discarded. -/
  | mgtBadFrame (dt : Nat) (why : MgtBad)
  /-- R550: A frame with an unknown CMD gets status BADCMD. -/
  | mgtUnknownCmd (dt : Nat) (cmd : Byte) (f : MgtFrame)
  /-- R553: 60 s after the third AUTHFAIL the authentication lockout ends. -/
  | authlockEnd (dt : Nat)
  /-- R548: RSTIN_N has been held low for 10 s, so RESETHELD is set and the seconds are counted. -/
  | resetHeld (dt : Nat)
  /-- R560: A write of CNTCLR clears the MGT counters. -/
  | mgtCntclr (dt : Nat) (who : Init) (v : Word)
  /-- R564: The UPDCMD OPEN command opens an owner staging session, or it is refused with BUSY. -/
  | updcmdOpen (dt : Nat) (who : Init) (v : Word)
  /-- R565: The UPDCMD CHUNK command moves CHLEN bytes from CHSRC into staging. -/
  | updcmdChunk (dt : Nat) (who : Init) (v : Word)
  /-- R565: A chunk is written into staging, and ES260 is raised. -/
  | chunkDone (dt : Nat)
  /-- R565: The UPDCMD CLOSE command ends the session and starts verification, or rejects for length. -/
  | updcmdClose (dt : Nat) (who : Init) (v : Word)
  /-- R566: The UPDCMD ABORT command ends the owner's own session without an image. -/
  | updcmdAbort (dt : Nat) (who : Init) (v : Word)
  /-- R566: The UPDCMD ABORTOTHER command aborts the other source's session with a signed token. -/
  | updcmdAbortother (dt : Nat) (who : Init) (v : Word)
  /-- R562: Verification of the staged image ends VERIFIED or REJECTED with its reason. -/
  | verifyDone (dt : Nat) (read : Fin 3)
  /-- R566: 60 s pass without an accepted command or packet, so the session ends and IDLECNT increments. -/
  | sessionTimeout (dt : Nat)
  /-- R567: A TFTP write request for "stage" opens an SVC staging session. -/
  | tftpWriteStage (dt : Nat) (peer : BitVec 48) (blk : Option (BitVec 16))
  /-- R566: A TFTP write request for "abort" submits an authenticated abort token. -/
  | tftpWriteAbort (dt : Nat) (token : List Byte)
  /-- R567: A TFTP read request for "status" returns the 64-byte status file. -/
  | tftpReadStatus (dt : Nat)
  /-- R567: A TFTP data packet is written into staging, and the last one acts as CLOSE. -/
  | tftpData (dt : Nat) (peer : BitVec 48) (block : BitVec 16) (data : List Byte)
  /-- R566: A TFTP ERROR packet from the SVC peer aborts its session. -/
  | tftpError (dt : Nat) (peer : BitVec 48)
  /-- R567: The transfer engine answers an ARP request for SVCIP. -/
  | arpRequest (dt : Nat) (target sender : BitVec 32) (mac : BitVec 48)
  /-- R568: The ACTCMD SCHEDULE command schedules activation of the verified image at ACTTIME. -/
  | actcmdSchedule (dt : Nat) (who : Init) (v : Word)
  /-- R568: The ACTCMD NOW command activates the verified image at once. -/
  | actcmdNow (dt : Nat) (who : Init) (v : Word)
  /-- R568: The ACTCMD CANCEL command returns a scheduled or postponed activation to NONE. -/
  | actcmdCancel (dt : Nat) (who : Init) (v : Word)
  /-- R571: The ACTCMD CONFIRM command ends probation, raising MINSVN when SVNBUMP is set. -/
  | actcmdConfirm (dt : Nat) (who : Init) (v : Word)
  /-- R569: At the first instant at or after ACTTIME with time locked, the activation proceeds by image kind. -/
  | activationDue (dt : Nat)
  /-- R569: ACTTIME arrives without time lock, so ACTSTAT becomes POSTPONED. -/
  | activationPostponed (dt : Nat)
  /-- R569: No due instant comes by ACTTIME + ACTWIN, so ACTSTAT becomes EXPIRED. -/
  | activationExpired (dt : Nat)
  /-- R569: All CYC engines have stopped, or 1 s has passed, so UPD makes a module reset of kind UPDATE. -/
  | updateReset (dt : Nat)
  /-- R588: A PMC counter wraps, takes RLDk, sets OVF, and may freeze the counters or arm Weevil. -/
  | counterOverflow (dt : Nat) (t : Fin 4) (m : Byte)
  /-- R588: Clearing OVF bits lets frozen counters run again. -/
  | ovfClear (dt : Nat) (who : Init) (t : Fin 4) (v : Word)
  /-- R586: A write of SNAP copies all eight counters and module time in one core clock. -/
  | pmcSnap (dt : Nat) (who : Init) (t : Fin 4) (v : Word)
  /-- R590: The CAPDIV-th qualifying instruction retires and an entry is written to the capture buffer, or dropped. -/
  | preciseCapture (dt : Nat) (t : Fin 4) (k : Fin 8) (priv : Fin 4) (pc addr : BitVec 64) (lat : Word)
  /-- R591: The tagged instruction retires and Weevil writes its record to the ring. -/
  | weevilRecord (dt : Nat) (t : Fin 4) (pc blk : BitVec 64) (w4 w5 : Word) (flags : BitVec 10) (priv : Fin 4) (dist : BitVec 16)
  /-- R590: A read of SBPOP removes the oldest capture-buffer entry. -/
  | sbpop (dt : Nat) (who : Init) (t : Fin 4)
  /-- R591: A read of WVPOP removes the oldest Weevil record. -/
  | wvpop (dt : Nat) (who : Init) (t : Fin 4)
  /-- R593: A write of CNTCLR clears SRCSW, SBDROP and WVSKIP. -/
  | pmcCntclr (dt : Nat) (who : Init) (t : Fin 4) (v : Word)
  /-- R604: The standby domain starts from no power. -/
  | poweron (dt : Nat)
  /-- R597: VIN falls below 14.0 V, and the module runs from the hold-up bank. -/
  | supplyUv (dt : Nat)
  /-- R597: VIN returns before a warning, and the ride-through is counted. -/
  | supplyReturn (dt : Nat)
  /-- R595: VIN exceeds 36.0 V for 1 ms, which is reported only. -/
  | supplyOv (dt : Nat) (on : Bool)
  /-- R598: UV lasts 10 ms, or the bank falls below 30.0 V, so the shutdown sequence starts. -/
  | powerFailWarning (dt : Nat) (bank : Bool)
  /-- R599: The saves and flush complete, or tw + 40 ms arrives, and the main domain is reset. -/
  | shutdownComplete (dt : Nat) (k : Fin 8)
  /-- R607: The main domain leaves reset and runs the boot sequence from ROM to LOCKED. -/
  | mainDomainStart (dt : Nat) (b : Boot)
  /-- R596: The hold-up bank reaches 36.0 V, so BANKOK is set and the bank capacitance is measured. -/
  | bankok (dt : Nat) (cap : BitVec 16) (halves : BitVec 8)
  /-- R596: BANKOK has not come 2 s after the start threshold, so HUFAULT is set and the start continues. -/
  | hufault (dt : Nat) (halves : BitVec 8)
  /-- R602: Every 100 µs PWR measures the field and trip supplies and updates their comparators. -/
  | supplyMeasure (dt : Nat) (fs : List (BitVec 16)) (ts : List (BitVec 18)) (vin bank : BitVec 16) (shown : BitVec 12)
  /-- R602: A trip supply stays inside or outside TSnLIM for 1 ms, so TSnOK changes. -/
  | tripSupplyChange (dt : Nat) (n : Fin 2)
  /-- R603: Every 10 ms the baseplate temperature is measured and TEMPWARN updated. -/
  | tempMeasure (dt : Nat) (v : BitVec 16)
  /-- R603: The temperature stays above 100 °C for 1 s, so the module makes a THERMAL reset. -/
  | thermal (dt : Nat)
  /-- R605: RSTIN_N is held low for 10 µs, so the shutdown sequence runs and the main domain is held in reset. -/
  | rstinAssert (dt : Nat) (accepted : Bool)
  /-- R605: RSTIN_N returns high, and the main domain starts. -/
  | rstinRelease (dt : Nat)
  /-- R604: The SYSCMD MRESET command makes a module reset of kind SOFT. -/
  | syscmdMreset (dt : Nat) (who : Init) (v : Word)
  /-- R606: The SYSCMD SLEEP command runs the shutdown sequence and leaves the main domain off. -/
  | syscmdSleep (dt : Nat) (who : Init) (v : Word)
  /-- R610: The FUSECMD REVOKE command blows the revocation bit of one key index, or it is refused. -/
  | fusecmdRevoke (dt : Nat) (who : Init) (v : Word)
  /-- R595: With VIN below 10.0 V and the hold-up bank below 12.0 V, the standby domain stops, taking Cricket, the
  PWR supervisor and the Standby registers down. -/
  | standbyDomainLoss (dt : Nat)
  /-- R461: A frame finishes transmission at an egress switch port, and the next frame whose gate is open starts
  from the highest-numbered queue, with residence time added in transparent-clock mode. -/
  | ethFrameTransmitted (dt : Nat) (n : Fin 6) (ago : Nat)
  /-- R355: 50 µs after a test pulse ends, the filter of each input with TPEN naming the pulsed channel sees the
  live raw level again, and a change seen during the interval starts its filter time there. -/
  | testPulseFilterRelease (dt : Nat) (k : Fin 32)
  /-- R515: 10 s after CLRCMD ARM with no CLEAR, the arm lapses and STAT.CLRARMED clears. -/
  | clearArmExpiry (dt : Nat)
deriving DecidableEq, Repr

end Sys2Proof
end

