-- ==== Sys2Proof/Machine/State.lean ====
section
/-! DEFINITION. The state of the block as plain data: the register space, the memories, and for every block the state
that its chapter gives it beyond its registers.  Default values are the values at reset. -/
namespace Sys2Proof.Machine

/-! ### Reasons for which a step can stop -/

/-- Faults of the block: none.  No command of the table stops the module: an access that the manual calls a fault is
answered on the access itself (R20, `Resp.fault`) and is a next state. -/
inductive Fault where
deriving DecidableEq, Repr

/-- Refusals of the model: none is raised, since every command has its meaning. -/
inductive Refusal where
  /-- A command whose meaning has not been written.  Raised by an arm of `exec` only; safe. -/
  | notModelled (mnemonic : String)
deriving DecidableEq, Repr

/-! ### Agents and answers -/

/-- What the bus last answered to an access or a management frame. -/
inductive Resp where
  /-- No access has been answered. -/
  | none
  /-- The access completed and returned no data. -/
  | done
  /-- The access returned this number. -/
  | data (n : Nat)
  /-- The access returned these bytes. -/
  | bytes (l : List Nat)
  /-- The access raised an access fault (R20), in a D-section through this vector (R75). -/
  | fault (vector : Option Nat)
  /-- A load whose data the DRAM holds poisoned (R178). -/
  | poisoned
  /-- An LR, SC or AMO raised an address-misaligned exception (R75). -/
  | misaligned (vector : Option Nat)
  /-- The instruction raises an illegal-instruction exception, in a D-section through this vector (R75, R153). -/
  | illegal (vector : Option Nat)
  /-- The initiator waits: NV.SNAP for a snapshot, or NV.COMMIT for its status (R153, R154). -/
  | waits
  /-- The request was not issued, since its triad halts (R134). -/
  | stopped
  /-- A management reply: its status, and the bytes that follow it (R550, R551). -/
  | reply (status : Nat) (l : List Nat)
deriving DecidableEq, Repr

/-! ### TEN, pages and HOSTLINK -/

/-- The hidden part of a page's commit (R53): when GO was accepted, and the boundary that has come since. -/
structure Pend where
  /-- A commit is armed and neither applied, refused nor discarded. -/
  armed : Bool := false
  /-- The tick at which GO was accepted. -/
  goTick : Nat := 0
  /-- MODE and AXIS as armed. -/
  mode : Nat := 0
  axis : Nat := 0
  /-- The reference instant t0 of R53, in ticks, once it has come. -/
  t0 : Option Nat := none
deriving DecidableEq, Repr

/-- Hidden state of TEN and of the common page header. -/
structure TenS where
  /-- Armed commits by page index. -/
  pend : Tab Pend := []
  /-- The access-fault FIFO of R63, oldest first, at most 16 entries. -/
  deny : List Nat := []
  /-- Holding registers of R60, by initiator and page: the LO register last read, plus one, and the upper half. -/
  wideRd : Tab (Nat × Nat) := []
  /-- Held LO writes of R60, by initiator and page: the LO register, plus one, and the value. -/
  wideWr : Tab (Nat × Nat) := []
  /-- Accepted partition reset requests, by partition: the tick of the request, plus one. -/
  resetReq : Tab Nat := []
  /-- Partitions whose triad is stopped as under R136 and that leave HALTED only through reset, one bit each. -/
  halted : Nat := 0
deriving DecidableEq, Repr

/-- HOSTLINK (R23, R24, R32, R33). -/
structure HostS where
  /-- The link is up. -/
  up : Bool := false
  /-- PERST_N is accepted low. -/
  perst : Bool := false
  /-- The configuration space, the BAR assignments and the MSI-X table, as the host has set them. -/
  cfg : HostCfg := {}
  /-- MSI-X entries sent and not withdrawn, oldest first. -/
  msix : List Nat := []
deriving DecidableEq, Repr

/-! ### MEM -/

/-- One entry of the error log (R188). -/
structure LogEntry where
  addr : Nat := 0
  info : Nat := 0
  syn : Nat := 0
  time : Nat := 0
deriving DecidableEq, Repr

/-- Memories reached by address, and MEM's hidden state. -/
structure MemS where
  /-- DRAM by offset; the start writes every word with zero (R165), and an unlisted byte reads 0. -/
  dram : Tab Byte := []
  /-- Aligned 64-bit DRAM words that carry the poison marker, by word number. -/
  poison : Tab Bool := []
  /-- DRAM words whose stored check bits do not fit their data and address: the syndrome of the next read, by word number
  (R163). -/
  syn : Tab Nat := []
  /-- Lane-local SRAM: lane (3 t + l) * 2^20 + offset. -/
  sram : Tab Byte := []
  /-- Granules of scratch written since snapshot delivery, by lane * 2^14 + granule (R67). -/
  scratch : Tab Bool := []
  /-- The error log, oldest first, at most 32 entries. -/
  elog : List LogEntry := []
  /-- The persistent copy in FRAM, newest 256 entries, oldest first (R168). -/
  elogFram : List LogEntry := []
  /-- The tick at which the current 3,600 s window of CERATE began, and whether ES48 was raised in it. -/
  ceStart : Nat := 0
  ceRaised : Bool := false
  /-- The tick of the last temperature read (R165). -/
  tempTick : Nat := 0
  /-- The SCRUBPER in force for the current pass (R180), in s, and the tick at which the pass began. -/
  scrubPer : Nat := 3600
  passStart : Nat := 0
  /-- Scrub runs of lane memories, by lane 3 t + l: the tick of the last one. -/
  laneScrub : Tab Nat := []
  /-- Lanes that mark their compared requests after an uncorrectable error (R166), by lane 3 t + l. -/
  marked : Tab Bool := []
  /-- Reservations of LR, by initiator: the physical address and the size in bytes (R75). -/
  resv : Tab (Nat × Nat) := []
deriving DecidableEq, Repr

/-! ### EVR and LIFE -/

/-- One record of the event recorder (R506), but for its CRC, which is computed when the record is read. -/
structure EvRec where
  seq : Nat := 0
  stamp : Nat := 0
  src : Nat := 0
  inst : Nat := 0
  code : Nat := 0
  cls : Nat := 0
  flags : Nat := 0
  origin : Nat := 0
  /-- The payload as eight words. -/
  pay : List Nat := []
  startCnt : Nat := 0
  /-- The tick of entry into Mayfly, for the flush triggers of R510; no part of the record. -/
  tick : Nat := 0
deriving DecidableEq, Repr

/-- A block of the event recorder archive: its position, 0 to 259 in the founding area and 260 to 16,659 in the recent one,
and up to 64 records with consecutive numbers (R511). -/
structure EvBlock where
  pos : Nat := 0
  recs : List EvRec := []
deriving DecidableEq, Repr

/-- A clear of the recent area in progress (R515). -/
structure EvrClr where
  /-- The number of the CLEAR record: records below it in the recent area are released. -/
  below : Nat := 0
  /-- The flush that includes the CLEAR record has ended. -/
  flushed : Bool := false
deriving DecidableEq, Repr

/-- Hidden state of the event recorder. -/
structure EvrS where
  /-- Unflushed records of Mayfly, oldest first. -/
  may : List EvRec := []
  /-- Blocks of the archive whose index entry is written, in the order of writing. -/
  stored : List EvBlock := []
  /-- The first sequence number still held in the recent area. -/
  recentFrom : Nat := 16384
  /-- The next sequence number. -/
  next : Nat := 0
  /-- Latest stamp of each source, by block code * 256 + instance (R507). -/
  last : Tab Nat := []
  /-- Records dropped since the last LOST record. -/
  lost : Nat := 0
  /-- Records of the flush in progress. -/
  flushing : Nat := 0
  /-- A flush has been asked by FLUSH or by the power-fail warning. -/
  want : Bool := false
  /-- Module-time instants of the software records accepted in the last second (R514). -/
  sw : List Nat := []
  /-- The tick of CLRCMD ARM. -/
  armTick : Nat := 0
  clr : Option EvrClr := none
  /-- A clear accepted while a flush runs, by partition: it starts when the flush ends (R516). -/
  clrWait : Option Nat := none
  /-- The read in progress: the record number asked. -/
  rd : Option Nat := none
deriving DecidableEq, Repr

/-- One saved counter table (R520). -/
structure LifeSave where
  vals : Tab Nat := []
  cfgs : Tab Nat := []
  startCnt : Nat := 0
deriving DecidableEq, Repr

/-- Hidden state of LIFE. -/
structure LifeS where
  /-- The newest valid saved table, if any, and the one in the other slot. -/
  saved : Option LifeSave := none
  older : Option LifeSave := none
  /-- The tick of the last save and of the last counted second. -/
  saveTick : Nat := 0
  secTick : Nat := 0
  /-- The calendar: UTC in 1/32,768 s at the tick `calTick`. -/
  cal : Nat := 0
  calTick : Nat := 0
  /-- The part of the next 1/32,768 s that had passed at `calTick`, in 10^-15. -/
  calFrac : Nat := 0
  /-- TAI − UTC held with the calendar, 37 when none is held. -/
  calTai : Option Nat := none
  /-- The tick of the last discipline comparison. -/
  discTick : Nat := 0
deriving DecidableEq, Repr

/-! ### SYS and PWR -/

/-- A shutdown sequence in progress (R599). -/
structure Shutdown where
  /-- The reset kind to record (R604). -/
  kind : Nat := 0
  /-- The instant tw, in ticks. -/
  tw : Nat := 0
  /-- The sequence was asked by SLEEP: the main domain stays off. -/
  sleep : Bool := false
deriving DecidableEq, Repr

/-- Hidden state of SYS and PWR. -/
structure SysS where
  /-- The standby domain runs. -/
  standby : Bool := true
  /-- The main domain is out of reset. -/
  on : Bool := false
  /-- The shutdown sequence in progress. -/
  down : Option Shutdown := none
  /-- The module sleeps: only a wake of R606 starts it. -/
  sleep : Bool := false
  /-- A wake that arrived during the sequence of SLEEP. -/
  wake : Bool := false
  /-- Sleeping CAN transceivers on the standby domain: controller, SWAKE, WUFID, WUFMASK, WUFCFG, WUFDATA (R430). -/
  canWake : List (Nat × Bool × List Nat) := []
  /-- RSTIN_N is accepted low. -/
  rstin : Bool := false
  /-- The tick at which RSTIN_N went low. -/
  rstinTick : Nat := 0
  /-- The kind that the next start records. -/
  kind : Nat := 0
  /-- Ticks of the CLOCK resets within the last 3,600 s (R17), newest first. -/
  clocks : List Nat := []
  /-- The main domain is held after a CLOCK reset until the clocks have held good (R17). -/
  clockHeld : Bool := false
  /-- Three CLOCK resets within 3,600 s hold the main domain (R17). -/
  clockStop : Bool := false
  /-- The identity of the failed clock that Cricket recorded: 0 none, 1 TCXO, 2 + i PLL i (R16). -/
  clockBad : Nat := 0
  /-- The tick at which UV began. -/
  uvTick : Nat := 0
  /-- The tick of the start threshold, for the 2 s of R596. -/
  thrTick : Nat := 0
  /-- BANKOK or its timeout has come in this start. -/
  bankDone : Bool := false
  /-- The tick since which the baseplate has stood above 100 °C. -/
  hotTick : Option Nat := none
  /-- A THERMAL reset holds the main domain until the baseplate is below 85 °C. -/
  hot : Bool := false
  /-- Ticks of the last supply and temperature measurements. -/
  supTick : Nat := 0
  tempTick : Nat := 0
  /-- Trip supply n lies on the other side of its limits since this tick. -/
  tsSince : Tab Nat := []
  /-- The start in progress: the tick t0 at which the main domain left reset. -/
  t0 : Nat := 0
deriving DecidableEq, Repr


/-! ### AXS -/

/-- What an axis held from an instant on: the observer's estimate, and STAT (R93, R95, R115). -/
structure Est where
  /-- The instant, in 1.25 ns phases since power came. -/
  t : Nat := 0
  /-- Unwrapped position in 2^-32 units at the instant; the position proper is this modulo 2^64 (R91).  With `net`: the
  whole wraps taken off module time. -/
  p : Int := 0
  /-- Velocity in 2^-32 units per second. -/
  v : Int := 0
  /-- Fixes applied evenly over 10 ms: the amount and the phase of the start (R103). -/
  slews : List (Int × Nat) := []
  /-- The position follows module time (R93). -/
  net : Bool := false
  /-- The position was set in this tick by a step or an initialisation, which fires nothing (R100, R101). -/
  jump : Bool := false
  /-- STAT from the instant on. -/
  stat : Nat := 0
deriving DecidableEq, Repr

/-- One reference axis beyond its registers (R91 to R103). -/
structure Axis where
  /-- Estimates, the newest first, as far back as snapshots need them. -/
  est : List Est := []
  /-- Encoder counts since the origin, in 1/65,536, and the position of the origin (R90, R102). -/
  n : Int := 0
  off : Int := 0
  /-- Fixes that are being applied, as in the estimate (R103). -/
  slews : List (Int × Nat) := []
  /-- Velocity at loss, and the tick of the loss (R97). -/
  vloss : Int := 0
  holdTick : Nat := 0
  /-- Hidden extrapolation: position and tick of freezing (R98). -/
  hidP : Int := 0
  hidTick : Nat := 0
  /-- The axis came back from FROZEN (R102), with the frozen position. -/
  frozen : Bool := false
  /-- Consecutive rejected measurements; consecutive valid SSI frames that agree and invalid ones; a loss criterion of an
  encoder met (R96). -/
  rej : Nat := 0
  agree : Nat := 0
  bad : Nat := 0
  fault : Bool := false
  /-- The last accepted fix: position and module time (R116). -/
  fixPos : Nat := 0
  fixTime : Nat := 0
  /-- Boundaries disarmed after a tick: the boundary, forward off, reverse off (R92, R108); the 10 ns tick, plus one, of the
  last. -/
  dis : List (Int × Bool × Bool) := []
  crossed : Nat := 0
  /-- Axis ticks so far; the crossing instant and the boundary number of the last (R92). -/
  tickN : Nat := 0
  tickInst : Nat := 0
  tickPh : Nat := 0
  tickNo : Int := 0
deriving DecidableEq, Repr

/-- The last measurement of a source: its value, its instant in phases and the time since the one before (R93).  Of an
encoder the value is the count in 1/65,536, of an SSI input the decoded word. -/
structure Source where
  val : Nat := 0
  t : Nat := 0
  dt : Nat := 0
  /-- Mains: the phase since which amplitude and frequency are good, plus one; the phase since which the amplitude is below
  0.8 x AMIN, plus one (R96). -/
  good : Nat := 0
  low : Nat := 0
  /-- Encoder: a differential fault lasts; the tick of the last, or of the enabling commit (R96).  SSI: consecutive invalid
  frames. -/
  line : Bool := false
  clean : Nat := 0
  bad : Nat := 0
  /-- Mains: the state of the detector's filter (R225, assumption 125). -/
  flt : Nat := 0
deriving DecidableEq, Repr

/-- One schedule entry beyond its descriptor (R107 to R112). -/
structure Entry where
  fires : Nat := 0
  missed : Nat := 0
  /-- The most recent firing took place during HOLD. -/
  hold : Bool := false
  /-- A ONCE entry has fired. -/
  done : Bool := false
  /-- Targets disarmed: the target, forward off, reverse off (R108); the tick, plus one, of the last firing. -/
  dis : List (Int × Bool × Bool) := []
  fired : Nat := 0
  /-- The entry was active when its axis froze: it counts hidden misses, up to the tick `hid` so far (R98). -/
  hidden : Bool := false
  hid : Nat := 0
  /-- The tick, plus one, of the commit that enabled or changed the descriptor (R111). -/
  born : Nat := 0
deriving DecidableEq, Repr

/-- A strobe of a strobe line: its tick, the crossing instant it carries, in module time and in 1.25 ns phases, and
the SE that set it (R107, R109). -/
structure Strobe where
  tick : Nat := 0
  inst : Nat := 0
  ph : Nat := 0
  se : Nat := 0
  /-- Its number on the line, from 1. -/
  count : Nat := 0
deriving DecidableEq, Repr

/-- A Firefly output (R113, R114). -/
structure Firefly where
  /-- Level before the edges below, active or not, POL apart. -/
  lvl : Bool := false
  /-- Edges emitted or due: the instant in phases and the level from it on (R113). -/
  edges : List (Nat × Bool) := []
  /-- The falling edge of the pulse that is active, in phases, 0 for none. -/
  fall : Nat := 0
  /-- Strobes of the line that this output has taken. -/
  seen : Nat := 0
  /-- Edges whose readback is due, in phases (R114). -/
  back : List Nat := []
  /-- The phase from which the next whole second starts a PPS pulse (R113). -/
  pps : Nat := 0
deriving DecidableEq, Repr

/-- Hidden state of AXS. -/
structure AxsS where
  axis : Tab Axis := []
  /-- Entries by descriptor number. -/
  ent : Tab Entry := []
  /-- The strobes of the last 1 ms of each line and the one before them, the newest first. -/
  strobe : Tab (List Strobe) := []
  ff : Tab Firefly := []
  /-- Mains detectors, encoders and SSI inputs (R90). -/
  md : Tab Source := []
  enc : Tab Source := []
  ssi : Tab Source := []
deriving DecidableEq, Repr

/-! ### CYC -/

/-- An entry of a source map or an output map (R196, R200); `dofs` is also the offset in the output image. -/
structure MapEnt where
  block : Nat := 0
  inst : Nat := 0
  kind : Nat := 0
  qual : Bool := false
  item : Nat := 0
  len : Nat := 0
  dofs : Nat := 0
  qofs : Nat := 0
  age : Nat := 0
deriving DecidableEq, Repr

/-- A CYC image as its header lays it out (R219). -/
structure CycImg where
  size : Nat := 0
  dmode : Bool := false
  smode : Bool := false
  entry : Nat := 0
  trap : Nat := 0
  root : Nat := 0
  src : List MapEnt := []
  out : List MapEnt := []
  /-- The write map: one bit per byte of the output image. -/
  wmap : List Nat := []
  /-- The instance table: identifier, type hash, offset, length. -/
  inst : List (Nat × Nat × Nat × Nat) := []
  retain : Nat := 0
  volatile : Nat := 0
  rinit : List Nat := []
  oinit : List Nat := []
  inlen : Nat := 0
  outlen : Nat := 0
  scratch : Nat := 0
  profile : Nat := 0
  digest : List Nat := []
deriving DecidableEq, Repr

/-- A retained record as its bytes in FRAM spell it (R206). -/
structure CycRec where
  seq : Nat := 0
  cycle : Nat := 0
  retain : List Nat := []
  digest : List Nat := []
deriving DecidableEq, Repr

/-- A commit that the commit path has taken (R194). -/
structure Staged where
  /-- tr. -/
  tick : Nat := 0
  /-- The image as taken, the image with output forces, and CDIGEST. -/
  img : List Nat := []
  forced : List Nat := []
  digest : Nat := 0
  /-- The entry and the offset at which the sink check fails. -/
  bad : Option (Nat × Nat) := none
  /-- The tick of tc, once the strobe has been issued. -/
  tc : Option Nat := none
deriving DecidableEq, Repr

/-- The cyclic engine of one partition beyond its registers. -/
structure CycP where
  /-- The active image; the image that CHGLOAD copies or has loaded, since its tick, and what its checks gave:
  0 none, else REASON * 256 + TABLE. -/
  img : Option CycImg := none
  next : Option CycImg := none
  loadTick : Nat := 0
  loading : Bool := false
  nextBad : Nat := 0
  /-- The change boundary has come at this tick; the old image while its state is migrated. -/
  chgTick : Option Nat := none
  old : Option CycImg := none
  /-- The number of the last snapshot; its instant and that of the one before, in module time. -/
  cycle : Nat := 0
  ts : Nat := 0
  prev : Nat := 0
  /-- That instant on the present scale of module time, from which MINCYC and MAXCYC run (R453). -/
  base : Nat := 0
  /-- The first snapshot after a start, a load or a change is still to come. -/
  first : Bool := false
  /-- Start kind of the next snapshot; what NV.RSTAT returns. -/
  kind : Nat := 0
  rstat : Nat := 0
  /-- The last snapshot instant came without a strobe. -/
  nostrobe : Bool := false
  /-- The earliest next snapshot instant, in module time, once the last cycle has ended. -/
  tready : Option Nat := none
  /-- A cycle runs; its commit or abort has retired. -/
  opn : Bool := false
  retired : Bool := false
  /-- What each source had at ts, until delivery: data, quality, stamp. -/
  sealed : Option (List (List Nat × Nat × Nat)) := none
  /-- What each source of the map has reported, by its index, newest first, back to the last snapshot. -/
  hist : Tab (List (List Nat × Nat × Nat)) := []
  /-- The delivered snapshot has not been taken by NV.SNAP. -/
  fresh : Bool := false
  /-- Initiators that wait in NV.SNAP, by their number. -/
  waits : List Nat := []
  /-- STOP takes effect at the end of the cycle. -/
  stop : Bool := false
  /-- The last accepted CHGARM: its tick, the partition that wrote it and CMTSTAT before it (R216). -/
  arm : Option (Nat × Nat × Nat) := none
  staged : Option Staged := none
  /-- Retained area and output image as of the last applied commit or start. -/
  ret : List Nat := []
  out : List Nat := []
  /-- The version of the last NV.RMARK, with its cycle. -/
  mark : Option (Nat × List Nat) := none
  /-- A cycle commit has been applied since the start; the tick of the last timed save. -/
  applied : Bool := false
  saveTick : Nat := 0
  /-- Ticks of the last armed commit that completed (its tr and its end), and at which the page last stopped running. -/
  trTick : Nat := 0
  teTick : Nat := 0
  stopTick : Nat := 0
  /-- The gap state that NV.SNAP saved; the state with which the lanes go on after the last Xnyvas boundary. -/
  gap : Option LaneCtx := none
  /-- NV.COMMIT outside D-mode waits for its status. -/
  waitC : Bool := false
  /-- rd of that NV.SNAP. -/
  rd : Nat := 0
  ctx : Option LaneCtx := none
  /-- Status of R154 that the next NV.SNAP return delivers. -/
  status : Nat := 0
deriving DecidableEq, Repr

/-- Hidden state of the cyclic engines. -/
structure CycS where
  /-- Partitions whose lanes run a D-section, one bit each (R64). -/
  dsec : Nat := 0
  /-- Pages that an active output map or source map names, by partition (R201). -/
  pinned : Tab (List Nat) := []
  /-- CTRL of each CYC page as the boot configuration gives it (R221). -/
  bootCtl : Tab Nat := []
  p : Tab CycP := []
  /-- Retained slots of FRAM, 2 * partition + slot, as bytes: the RETAIN part and the header of 64 bytes (R168, R169,
  R206). -/
  fram : Tab (List Nat) := []
deriving DecidableEq, Repr

/-! ### PAD -/

/-- One sample set (R236). -/
structure SampleSet where
  num : Nat := 0
  /-- Crossing instant in module time and in 1.25 ns of the local clock, LATAA in 1.25 ns, and Δt to the set before in
  0.25 ns. -/
  inst : Nat := 0
  phase : Nat := 0
  lat : Rat := 0
  delta : Nat := 0
  /-- Index within the cycle (R266). -/
  idx : Nat := 0
  /-- Grid frequency in Hz at the tick. -/
  freq : Rat := 50
  /-- HOLD, FALLBACK and GRIDCHG in the places of R237. -/
  flags : Nat := 0
  /-- Whether the modulators ran. -/
  mods : Bool := false
  /-- The tick of delivery. -/
  due : Nat := 0
  /-- What the traces of DRC take at the crossing: filtered inputs, PRE outputs, SFN states, commanded outputs
  (R301). -/
  trDi : Nat := 0
  trPre : Nat := 0
  trSfn : Nat := 0
  trDo : Nat := 0
  /-- Network time was locked at the crossing (R313). -/
  locked : Bool := false
  /-- The samples of R237 and the PFS words they were made with, once delivered. -/
  words : List Nat := []
  pfs : List Nat := []
deriving DecidableEq, Repr

/-- The cross-check window of a channel (R231): sum of d, sets in it, bad windows in a row, last mean in LSB times
sets. -/
structure XWin where
  sum : Nat := 0
  cnt : Nat := 0
  bad : Nat := 0
  last : Bool := true
deriving DecidableEq, Repr

/-- The main or check path of a channel at 256 kS/s (R225): the last words of its modulator, decimated values, values of
step 4 before the delay of half a sample, outputs of steps 4 and 5, inputs and outputs of the notch, memories of the
anti-alias sections, and the values of step 7 with the overload of their words; lists newest first. -/
structure PadPath where
  words : List ModWord := []
  dec : List Int := []
  h : List Int := []
  x : Int := 0
  y : Int := 0
  nx : List Int := []
  ny : List Int := []
  aa : List (Int × Int × Int × Int) := []
  out : List (Int × Bool) := []
deriving DecidableEq, Repr

/-- A running channel: the number of its next sample, LEAK of its integrator plus one (0 without one), its paths, and the
grid samples of the mean that the integrator's start subtracts once, with their sums (R229). -/
structure PadChan where
  next : Nat := 0
  leak : Nat := 0
  main : PadPath := {}
  check : PadPath := {}
  cnt : Nat := 0
  sumM : Int := 0
  sumC : Int := 0
deriving DecidableEq, Repr

/-- What PAD's chain runs with from an instant on (R234, R239): the instant in 1.25 ns, CTRL, the frequency of the last
coefficient update, CALOK, and the eight words of each channel. -/
structure PadEra where
  start : Nat := 0
  ctl : Nat := 0
  freq : Rat := 50
  cal : Bool := false
  ch : List (List Nat) := []
deriving DecidableEq, Repr

/-- A raw capture (R252): its channel and tap, the number of its first sample, the channel at CAPGO, and what the chain runs
with from then on, newest first. -/
structure PadCap where
  ch : Nat := 0
  tap : Bool := false
  first : Nat := 0
  chan : Option PadChan := none
  eras : List PadEra := []
deriving DecidableEq, Repr

/-- Hidden state of PAD. -/
structure PadS where
  /-- The tick c of the enabling commit, and the instant of the first grid tick while it is not made, in 1.25 ns. -/
  onTick : Nat := 0
  start : Option Nat := none
  /-- The fallback grid: its base in 1.25 ns, the ticks made since, its frequency in Hz and its samples per cycle (R233,
  R238). -/
  fbBase : Nat := 0
  fbN : Nat := 0
  fbFreq : Rat := 50
  fbSpc : Nat := 256
  /-- Axis ticks and jumps already taken. -/
  seen : Nat := 0
  jumps : Nat := 0
  /-- The last grid tick: made, its instant in 1.25 ns, and its index. -/
  some_ : Bool := false
  lastPhase : Nat := 0
  idx : Nat := 0
  /-- The next set carries GRIDCHG; the axis no longer agrees with the grid (R233). -/
  chg : Bool := false
  mism : Bool := false
  /-- Frequency of the last coefficient update, in Hz (R234). -/
  aaFreq : Rat := 50
  /-- Sets made and not delivered, oldest first, and the last delivered. -/
  flight : List SampleSet := []
  last : SampleSet := {}
  /-- The running channels, and what the chain runs with, newest first. -/
  chan : Tab PadChan := []
  eras : List PadEra := []
  /-- Ends of settling intervals by channel, in 1.25 ns (R239). -/
  settle : Tab Nat := []
  xwin : Tab XWin := []
  /-- Sets in a row without SAT by channel, up to a grid cycle (R245). -/
  clean : Tab Nat := []
  /-- A LIVEGRAB waits for the next set; a raw capture runs. -/
  grab : Bool := false
  cap : Option PadCap := none
deriving DecidableEq, Repr


/-! ### PRE -/

/-- One element beyond its registers (R268 to R277).  Times in seconds, G and θ are binary64 words. -/
structure PreEl where
  pick : Bool := false
  oper : Bool := false
  f2 : Bool := false
  blocked : Bool := false
  /-- Consecutive ticks beyond PICKUP. -/
  cnt : Nat := 0
  /-- Elapsed time and reset elapsed time. -/
  el : Nat := 0
  rst : Nat := 0
  /-- G of IDMT or θ of THERM. -/
  x : Nat := 0
  /-- State and shot of RECL, whether the breaker has opened since entry, and the last inputs A and B. -/
  sub : Nat := 0
  shot : Nat := 0
  opened : Bool := false
  a : Bool := false
  b : Bool := false
  /-- Polarising phasors of DIR, newest first; the memory phasor and whether it is in use. -/
  pol : List (Nat × Nat) := []
  memPol : Option (Nat × Nat) := none
  /-- Time in the present state, for ETIME. -/
  time : Nat := 0
  /-- F0 and F1 as the last tick wrote them; the state was restored from a checkpoint and no tick has come yet (R288). -/
  f0w : Bool := false
  f1w : Bool := false
  rest : Bool := false
deriving DecidableEq, Repr

/-- One trip or close output (R280). -/
structure PreOut where
  /-- A pulse runs, since this tick; a pulse of OUTTEST. -/
  act : Bool := false
  start : Nat := 0
  test : Bool := false
  /-- The tick at which the last pulse ended, plus one. -/
  ended : Nat := 0
  /-- A rising edge waits: the rows demanding, crossing instant and set number of its tick. -/
  edge : Option (Nat × Nat × Nat) := none
deriving DecidableEq, Repr

/-- One breaker (R280, R284). -/
structure PreBrk where
  /-- An interruption runs; Σ x² Δt of the three channels, in A² s. -/
  run : Bool := false
  sums : List Rat := [0, 0, 0]
  sat : Bool := false
  /-- Current-low, since this tick. -/
  low : Bool := false
  lowTick : Nat := 0
deriving DecidableEq, Repr

/-- What one Mantis lane holds of its own (R253): its signal and flag registers, and its state memory with the elements
and the last levels of EVT and REC. -/
structure MLane where
  sig : Tab (Nat × Nat) := []
  flags : Nat := 0
  el : Tab PreEl := []
  /-- Last level of the flag of an EVT or REC instruction, by instruction. -/
  edge : Tab Bool := []
deriving DecidableEq, Repr

/-- What the lanes latched at step 1 of the tick in process (R255): flags B224 to B255 in their places, and the words of
the trip matrix. -/
structure PreLatch where
  flags : Nat := 0
  tmr : List Nat := []
deriving DecidableEq, Repr

/-- Hidden state of PRE. -/
structure PreS where
  /-- Program, group and curve memory, by offset from 0x4120_0000. -/
  mem : Tab Byte := []
  /-- Sets arrived and not finished, oldest first: the first is in process, with what was latched for it. -/
  waiting : List SampleSet := []
  latch : Option PreLatch := none
  /-- CTRL.EN is 0 and the tick in process still runs; an enabling commit follows it (R258). -/
  stopping : Bool := false
  restart : Bool := false
  /-- The publication instant of the last tick in module time (R255). -/
  endInst : Nat := 0
  /-- The last 512 sets, newest first, and how many of them are ticks since enable; frequency in Hz and Δt of each tick since
  enable, at most 8192. -/
  hist : List SampleSet := []
  since : Nat := 0
  freqs : List (Rat × Nat) := []
  /-- The first tick after enable is still to come. -/
  first : Bool := false
  /-- Requested groups, each with the tick from which it may be taken and whether CYC asked for it (R279). -/
  grpReq : List (Nat × Nat × Bool) := []
  /-- Registers of page 0x069 whose committed value waits for the next tick, with the values in force (R295). -/
  cfg : Tab Nat := []
  lanes : Tab MLane := []
  /-- The demand of the outputs, TRIP0 to TRIP7 then CLOSE0 to CLOSE3, and the rows that demand each. -/
  demand : Nat := 0
  out : Tab PreOut := []
  brk : Tab PreBrk := []
  /-- Pulses of the DRC trigger lines, one bit each, and the tick of the last. -/
  rec_ : Nat := 0
  recTick : Nat := 0
  /-- Groups under check, in the order of their SEAL commands (R278). -/
  sealing : List Nat := []
  /-- Instants of the resynchronisations of a lane in module time, newest first, and ticks left of one that runs. -/
  resyncs : Tab (List Nat) := []
  left : Tab Nat := []
deriving DecidableEq, Repr



/-! ### DRC -/

/-- One descriptor (R305). -/
structure DrcSlot where
  /-- 0 FREE, 1 OPEN, 2 COMPLETE, 3 ARCHIVING. -/
  st : Nat := 0
  num : Nat := 0
  code : Nat := 0
  multi : Bool := false
  preshort : Bool := false
  clip : Bool := false
  trunc : Bool := false
  cut : Bool := false
  ext : Nat := 0
  /-- First frame, trigger frame, last frame. -/
  first : Nat := 0
  trig : Nat := 0
  last : Nat := 0
  /-- Trigger instant, and whether network time was locked at it. -/
  time : Nat := 0
  locked : Bool := false
deriving DecidableEq, Repr

/-- One archived record: the directory's descriptor and PROTECT, and on the eMMC its header block and its data blocks as
bytes (R308, R311). -/
structure DrcArc where
  d : DrcSlot := {}
  protect : Bool := false
  hdr : List Nat := []
  blocks : List (List Nat) := []
deriving DecidableEq, Repr

/-- What the registers of DRC said when a frame was written: the 64 TRSEL words, the edges, TRGEN, the lengths, RETRIG,
SPC, the earliest first frame of a record, and the first frame of the run without a gap (R303, R317). -/
structure DrcCfg where
  sel : List Nat := []
  rise : Nat := 0
  fall : Nat := 0
  gen : Nat := 0
  pre : Nat := 0
  post : Nat := 0
  lim : Nat := 0
  retrig : Bool := false
  spc : Nat := 0
  floor : Nat := 0
  run : Nat := 0
deriving DecidableEq, Repr

/-- A set that DRC took: its number, the frame written for it (none while BLOCKED), its crossing instant, whether network
time was locked then, its traces and the configuration. -/
structure DrcTick where
  set : Nat := 0
  frame : Option Nat := none
  inst : Nat := 0
  locked : Bool := false
  tr : Nat := 0
  cfg : DrcCfg := {}
deriving DecidableEq, Repr

/-- Trigger sources of one tick not yet judged. -/
structure DrcTrig where
  tick : DrcTick := {}
  codes : List Nat := []
deriving DecidableEq, Repr

/-- An export in progress. -/
structure DrcExp where
  num : Nat := 0
  dst : Nat := 0
  data : List Nat := []
deriving DecidableEq, Repr

/-- Hidden state of DRC. -/
structure DrcS where
  slots : Tab DrcSlot := []
  /-- Numbering: the next record number, and the two slots of the numbering block on the eMMC (R307). -/
  next : Nat := 1
  nums : Tab (List Nat) := []
  /-- Frames written since module start. -/
  frames : Nat := 0
  /-- The earliest first frame of a record: arming, a TRSEL change or a gap (R303); the first frame of the present
  run without a gap. -/
  floor : Nat := 0
  run : Nat := 0
  /-- The next frame carries GAP. -/
  gap : Bool := false
  /-- The last sets, newest first. -/
  recent : List DrcTick := []
  trig : List DrcTrig := []
  /-- The instants of accepted TRGNOW in 1.25 ns not yet at their tick; strobes of the line already taken. -/
  now : List Nat := []
  strobes : Nat := 0
  /-- The latest trigger of the OPEN record, when the limit cuts its post-trigger short (R306). -/
  cutBy : Option DrcTrig := none
  /-- That trigger opens a record in the following tick. -/
  reopen : Bool := false
  /-- The latest trigger instant of a record (R81). -/
  lastTime : Nat := 0
  arc : Tab DrcArc := []
  /-- The slot being copied; the slot whose copy has failed and waits for RETRY. -/
  copying : Option Nat := none
  failed : Option Nat := none
  exp : Option DrcExp := none
deriving DecidableEq, Repr



/-! ### SAR -/

/-- A run of sequence passes (R325 to R331).  Instants are in quarters of a 10 ns tick since power came. -/
structure SarPass where
  /-- A pass of the continuous fall-back. -/
  fb : Bool := false
  /-- Passes left, the present one included; 0 repeats endlessly. -/
  left : Nat := 0
  /-- The start of the run; the entry, the conversions it has made with their codes, and a clipped one among them. -/
  start : Nat := 0
  /-- The trigger instant of the run. -/
  tr : Nat := 0
  e : Nat := 0
  codes : List Int := []
  rng : Bool := false
  /-- The instant at which the next conversion may start. -/
  due : Nat := 0
  /-- The run ends after the conversion in progress: its ENTeA word and LAST as it began, and the instant of the commit that
  abandoned the run, none for STOP. -/
  stop : Option (Nat × Nat × Option Nat) := none
deriving DecidableEq, Repr

/-- One converter beyond its registers. -/
structure SarConv where
  /-- The tick of the commit that took MODE from 0. -/
  calTick : Nat := 0
  /-- The last accepted trigger, or the commit that last set MODE, TRIG or LINE, in quarter ticks; the tick of the last
  fall-back pass. -/
  trigTick : Nat := 0
  fbTick : Nat := 0
  /-- What the trigger source has given and the converter taken: timer multiples, strobes, or the tick of the PWM period,
  plus one once its point is taken. -/
  seen : Nat := 0
  /-- The triggered run, and a fall-back run that it will end. -/
  run : Option SarPass := none
  old : Option SarPass := none
  /-- A pending CONVREQ: its instant, the instant from which its slot may start, and MUX, REF and RNG as written. -/
  req : Option (Nat × Nat × Nat) := none
  /-- The instant at which the converter is free. -/
  free : Nat := 0
  /-- Deviation of the most recent REF conversion in LSB. -/
  refDev : Option Nat := none
  /-- Memories of the filter section by slot, in binary32: none before the first write. -/
  filt : Tab (List (List Nat)) := []
deriving DecidableEq, Repr

/-- Hidden state of SAR. -/
structure SarS where
  conv : Tab SarConv := []
deriving DecidableEq, Repr


/-! ### DIO -/

/-- One digital input beyond its registers (R346, R355). -/
structure DiIn where
  /-- The accepted level at the terminal, before INV. -/
  acc : Bool := false
  /-- A raw change is in the filter: its instant in 1.25 ns of the local clock, its stamp and the FILT time in force at the
  edge, in µs. -/
  chg : Option (Nat × Nat × Nat) := none
  /-- The filter sees a frozen raw level during a test pulse of this channel. -/
  frozen : Option Nat := none
  /-- The raw level was OFF at some instant of the test pulse. -/
  sawOff : Bool := false
  /-- The last changes of the filtered level, newest first: the instant on the present scale of module time, which a step
  moves (R453), the stamp, and the level from it on. -/
  hist : List (Nat × Nat × Bool) := []
  /-- Steps of module time since the raw change in the filter was stamped. -/
  shift : Int := 0
  /-- The level is 1 by an accepted ON: a press of a reset input runs (R373). -/
  press : Bool := false
deriving DecidableEq, Repr

/-- One digital output beyond its registers. -/
structure DoCh where
  /-- The command level last seen. -/
  lvl : Bool := false
  /-- The last changes of the driver command and of the conducting output, newest first: the tick from which each level
  holds.  Before the first the output is off. -/
  cmd : List (Nat × Bool) := []
  term : List (Nat × Bool) := []
  /-- The readback before the first listed change of the output, and the tick of its last change (R352). -/
  rb0 : Bool × Nat := (false, 0)
  /-- A commit has set the command level to 1 since the release was given (R378). -/
  rel : Bool := false
  /-- A strobe switched the channel on (R350). -/
  strobe : Bool := false
  /-- The PWM channel is in its on-time; the on-time of the present period in ticks; the periods in a row that were evaluated
  and had an on-time, or an off-time, of at least 10 µs (R352). -/
  pwm : Bool := false
  onTicks : Nat := 0
  persOn : Nat := 0
  persOff : Nat := 0
  /-- A terminal that does not follow its driver reads this level, since this tick; the tick from which it follows again. -/
  stuck : Option (Bool × Nat) := none
  follow : Nat := 0
  /-- A test pulse runs since this tick; its evaluation is discarded; gate 2 makes the next one (R379). -/
  pulse : Bool := false
  pStart : Nat := 0
  disc : Bool := false
  gate : Bool := false
  /-- The tick at which the last test pulse ended, plus one, while input filters still see frozen levels. -/
  release : Nat := 0
  /-- The latest judged pulse of gate 1, of gate 2, failed; a pulse has passed since the failure. -/
  failed1 : Bool := false
  failed2 : Bool := false
  passed : Bool := false
  /-- The instant of the pulse that is done, in module time, plus one (R354). -/
  pulsed : Nat := 0
  /-- The tick at which the current was last known not to be below 5 mA (R349). -/
  loadTick : Nat := 0
deriving DecidableEq, Repr

/-- A period in module-time units that a register sets: before instant `from_` the length `old` holds, 0 for none (R351,
R354). -/
structure Period where
  old : Nat := 0
  from_ : Nat := 0
deriving DecidableEq, Repr

/-- One output group beyond its registers. -/
structure DoGrp where
  /-- Off after primacy was gained, until a commit sets the commands (R357). -/
  await : Bool := false
  /-- The carrier; the start of its present period in module time, plus one; its tick and its length in ticks (R351). -/
  pwm : Period := {}
  perAt : Nat := 0
  perTick : Nat := 0
  per : Nat := 0
  /-- The group periods of test pulses (R354). -/
  tp : Period := {}
  /-- The tick from which readback is evaluated again after a latch or the gates of primacy (R352, R356). -/
  evalTick : Nat := 0
  /-- The tick at which the field supply was last known to stand below 19.2 V (R356). -/
  lowTick : Nat := 0
deriving DecidableEq, Repr

/-- Hidden state of DIO. -/
structure DioS where
  di : Tab DiIn := []
  ch : Tab DoCh := []
  grp : Tab DoGrp := []
  /-- Edge queues by group: stamp, input and level, oldest first (R347). -/
  eq : Tab (List (Nat × Nat × Bool)) := []
  /-- Queues that dropped an edge since the last snapshot, one bit each. -/
  eqDrop : Nat := 0
deriving DecidableEq, Repr



/-! ### SFN -/

/-- One safety function beyond its registers. -/
structure SfnFn where
  /-- Evaluation at which LOCKOUT was entered. -/
  lockInst : Nat := 0
  /-- The instant at which the function was enabled or restarted. -/
  from_ : Nat := 0
  /-- A FLTCLR has been accepted and the next evaluation follows. -/
  clr : Bool := false
deriving DecidableEq, Repr

/-- Hidden state of SFN. -/
structure SfnS where
  /-- The last evaluation: its tick, plus one, and its instant. -/
  evalTick : Nat := 0
  evalInst : Nat := 0
  /-- The evaluator channels differed at the last evaluation; an EVALDIS episode runs; the tick of the first
  agreeing evaluation after it. -/
  diff : Bool := false
  episode : Bool := false
  agreeTick : Nat := 0
  fn : Tab SfnFn := []
  /-- Ended ON intervals of inputs not yet judged: input, start and end stamps, oldest first. -/
  press : List (Nat × Nat × Nat) := []
deriving DecidableEq, Repr



/-! ### LOOP -/

/-- One loop input beyond its registers. -/
structure LoopIn where
  /-- The filter state, once a value has come. -/
  y : Option Rat := none
  /-- The limiter is open, since this tick; the tick at which it closed again, plus one. -/
  open_ : Bool := false
  openTick : Nat := 0
  closed : Nat := 0
deriving DecidableEq, Repr

/-- One loop output beyond its registers. -/
structure LoopOut where
  /-- The output stays off until a commit, be it a safe commit, sets its setpoint after a gain of primacy (R403); and after
  MISWIRE, until a cycle commit or a commit of its page does (R398). -/
  await : Bool := false
  miswait : Bool := false
  /-- The tick at which a change of setpoint last took effect, plus one. -/
  setTick : Nat := 0
  /-- Start ticks, plus one, of the present spells of deficit, open loop and readback above the setpoint; the tick of
  the last included scan. -/
  compl : Nat := 0
  opn : Nat := 0
  rbh : Nat := 0
  scan : Nat := 0
  /-- Scanned since it was enabled; the tick of the last commit of its setpoint, plus one. -/
  scanned : Bool := false
  cmtTick : Nat := 0
deriving DecidableEq, Repr

/-- A scan: its instant in module time and as a tick, the channels it converts, and how many of them are visible (R399). -/
structure LoopRun where
  tsc : Nat := 0
  t0 : Nat := 0
  chans : List Nat := []
  done : Nat := 0
deriving DecidableEq, Repr

/-- Hidden state of LOOP. -/
structure LoopS where
  /-- The number of the last scan instant taken or passed; a scan of which channels are still to come; the tick at which the last
  scan ended. -/
  scanNo : Nat := 0
  run : Option LoopRun := none
  endTick : Nat := 0
  li : Tab LoopIn := []
  lo : Tab LoopOut := []
deriving DecidableEq, Repr



/-! ### CAN -/

/-- The content of a receive object, kept with its descriptor (R417, R420); NEW, LOST and STALE stand in registers. -/
structure CanObj where
  w0 : Nat := 0
  dlc : Nat := 0
  esi : Bool := false
  valid : Bool := false
  age : Nat := 0
  upd : Nat := 0
  sof : Nat := 0
  stamp : Nat := 0
  data : List Nat := []
  /-- Updates so far, and the number of the last among those of the controller, for RXCHECK. -/
  total : Nat := 0
  num : Nat := 0
deriving DecidableEq, Repr

/-- An entry of the receive queue, with its filter entry or 0x1FF. -/
structure CanQ where
  obj : CanObj := {}
  entry : Nat := 0
deriving DecidableEq, Repr

/-- One transmit object beyond its registers (R422 to R428). -/
structure CanTx where
  /-- The active buffer and its DLC. -/
  buf : List Nat := []
  dlc : Nat := 0
  /-- A request waits; a further request came during the frame in progress; the attempt in progress. -/
  want : Bool := false
  again : Bool := false
  sending : Bool := false
  /-- What the attempt latched, and its SOF stamp. -/
  latched : List Nat := []
  sof : Nat := 0
  /-- The attempt is an FD frame with ESI = 1: it started in ERRPASSIVE (R413). -/
  esi : Bool := false
  /-- Errored attempts; a cancellation was accepted after the SOF. -/
  errs : Nat := 0
  cancel : Bool := false
  /-- The attempt belongs to an exclusive window; the end in NTU of an open arbitrating window. -/
  excl : Bool := false
  win : Option Nat := none
  /-- Timer multiples or strobes taken. -/
  seen : Nat := 0
  /-- Data was written since the previous frame; the basic cycle at the last write (R436). -/
  fresh : Bool := false
  wrote : Nat := 0
  /-- Attempts started so far. -/
  starts : Nat := 0
  /-- The bits that GWY writes (R482). -/
  gmask : Nat := 0
  /-- A commit has disabled the mapped object: EN = 0 in its sink, or a safe commit with SAFEDATA = 0 (R427, R437). -/
  off : Bool := false
deriving DecidableEq, Repr

/-- Time-triggered operation (R431 to R435). -/
structure CanTt where
  /-- The last reference mark, the tick-based start of the watch, and basic cycles so far. -/
  mark : Nat := 0
  watch : Nat := 0
  cycles : Nat := 0
  /-- Consecutive missed and consecutive correct references; this matrix cycle has had an S1 condition or was not seen
  whole. -/
  missed : Nat := 0
  good : Nat := 0
  s1 : Bool := false
  /-- The levels S1, S2 and S3 that stand; TTERR shows the highest. -/
  low : Bool := false
  mid : Bool := false
  high : Bool := false
  /-- The global time of the last mark, in NTU; the own reference last sent: its first word and its data (R431, R435). -/
  gtime : BitVec 32 := 0
  own : Option (Nat × List Nat) := none
  /-- Triggers fired in this basic cycle; the next update's number at the last RXCHECK of a trigger. -/
  fired : List Nat := []
  chk : Tab Nat := []
deriving DecidableEq, Repr

/-- One controller beyond its registers. -/
structure CanCtl where
  obj : Tab CanObj := []
  ring : Tab CanQ := []
  /-- The queue is mapped to CYC. -/
  qmap : Bool := false
  /-- Staging buffers, by offset. -/
  ram : Tab Byte := []
  tx : Tab CanTx := []
  /-- Transmit timestamps: object and stamp, oldest first. -/
  ts : List (Nat × Nat) := []
  /-- RECOVER was accepted; the MODEs that wait for the frame in progress to end, in commit order. -/
  recover : Bool := false
  goto : List Nat := []
  /-- A commit ended reception at this instant, in LISTEN or not: a frame whose SOF lies before it is still received
  (R413). -/
  left : Option (Nat × Bool) := none
  /-- The delay at which own data-phase bits are checked, in CAN clocks (R415). -/
  ssp : Nat := 0
  /-- Updates of receive objects so far. -/
  updates : Nat := 0
  tt : CanTt := {}
deriving DecidableEq, Repr



/-! ### TMB and ETH -/

/-- Hidden state of TMB (R450 to R458). -/
structure TmbS where
  /-- i of R452, in 2^-48. -/
  i : Int := 0
  /-- The instant of the last sample in 0.25 ns since power came, and the tick of the last accepted OFSGO, plus one. -/
  last : Nat := 0
  ofsTick : Nat := 0
  /-- Consecutive samples of R451; the tick at which the HOLDTO timer started. -/
  count : Nat := 0
  holdTick : Nat := 0
  /-- Steps not yet taken: the amount -θ and the tick at which it is due, oldest first. -/
  steps : List (Int × Nat) := []
  /-- SYNCIN pulses seen, at most 2; the instant of the last in ticks; the watch for a missing pulse runs. -/
  pulses : Nat := 0
  pulseTick : Nat := 0
  watch : Bool := false
  /-- The UTC day that ran when LEAP was set (R457). -/
  leapDay : Int := 0
deriving DecidableEq, Repr

/-- Where a frame in an egress queue came from. -/
inductive EthSrc where
  /-- Forwarded: its ingress port and stamp. -/
  | fwd (inPort stamp : Nat)
  /-- The host ring of a page, by descriptor index. -/
  | host (page idx : Nat)
  /-- A process-data object. -/
  | pd (k : Nat)
deriving DecidableEq, Repr

/-- A frame in an egress queue (R461, R463, R464). -/
structure EthItem where
  /-- Bytes without FCS and redundancy trailer; a process-data frame gets its bytes when its transmission starts. -/
  data : List Nat := []
  src : EthSrc := .fwd 0 0
  /-- Sequence number of the redundancy trailer or tag. -/
  red : Option Nat := none
  launch : Option Nat := none
  /-- Module time at which the frame reached the head of its queue. -/
  head : Option Nat := none
  tsreq : Bool := false
  onestep : Bool := false
  /-- The transfer of its bytes stopped: the frame is ended with an invalid frame check sequence (R178). -/
  cut : Bool := false
  tag : Nat := 0
deriving DecidableEq, Repr

/-- A gate control list with its cycle (R462). -/
structure Gcl where
  on : Bool := false
  cyc : Nat := 0
  base : Nat := 0
  ent : List (Nat × Nat) := []
deriving DecidableEq, Repr

/-- One egress port. -/
structure EthPort where
  /-- Queues 0 to 7. -/
  q : Tab (List EthItem) := []
  /-- The frame in transmission, and the last frame sent, as it left. -/
  cur : Option EthItem := none
  sent : Option EthItem := none
  /-- The gate list in force, a pending one, and the boundary at which that takes over. -/
  gcl : Gcl := {}
  next : Option Gcl := none
  swAt : Nat := 0
deriving DecidableEq, Repr

/-- A transmit descriptor handed over and not completed: its index, the port transmissions still open, its status. -/
structure EthTx where
  idx : Nat := 0
  left : Nat := 0
  status : Nat := 0
  /-- Its buffer stops the ring (R470). -/
  bad : Bool := false
deriving DecidableEq, Repr

/-- A ring pair beyond its registers: the next descriptor to fetch, and the descriptors in work, oldest first. -/
structure EthRing where
  next : Nat := 0
  work : List EthTx := []
  /-- A descriptor met a buffer that stops the ring: nothing is fetched until RINGERR is cleared. -/
  stop : Bool := false
deriving DecidableEq, Repr

/-- One process-data transmit object beyond its registers (R471). -/
structure EthPd where
  /-- EN and payload as committed last. -/
  en : Bool := false
  pay : List Nat := []
  /-- A safe commit stopped it, or made it send its template. -/
  stopped : Bool := false
  template : Bool := false
  /-- Launch times of commits not yet reached; timer multiples or strobes taken. -/
  due : List Nat := []
  seen : Nat := 0
  /-- Ports on which a launched frame is still open. -/
  left : Nat := 0
  /-- Bits of the payload region that GWY has written, and their values; transmissions started so far. -/
  gmask : Nat := 0
  gval : Nat := 0
  starts : Nat := 0
deriving DecidableEq, Repr

/-- Hidden state of ETH. -/
structure EthS where
  /-- Learned addresses: MAC, VLAN entry, port and tick of the last frame, oldest first. -/
  fdb : List (Nat × Nat × Nat × Nat) := []
  port : Tab EthPort := []
  ring : Tab EthRing := []
  /-- Duplicate table: source address, sequence number, tick and the ports that brought it, oldest first; the next sequence
  number sent. -/
  dup : List (Nat × Nat × Nat × Nat) := []
  seq : Nat := 0
  /-- Tick of the last frame received on LAN A and LAN B. -/
  lan : Tab Nat := []
  /-- Timestamp queue: port, tag, stamp, oldest first. -/
  tsq : List (Nat × Nat × Nat) := []
  pd : Tab EthPd := []
  /-- Receive filters: tick of the last update or of enabling, and the stamp of the data held. -/
  rx : Tab (Nat × Nat) := []
deriving DecidableEq, Repr



/-! ### GWY and HRB -/

/-- One gateway signal beyond its registers (R481 to R485). -/
structure GwySig where
  /-- Source updates taken; the stamp of the last and its tick, or the tick of enabling. -/
  seen : Nat := 0
  stamp : Nat := 0
  tick : Nat := 0
  /-- Frames that the destination had started at the last write, plus one. -/
  starts : Nat := 0
  /-- Owner of the destination's page at the commit. -/
  own : Nat := 0
  /-- The value of CYC sink kind 0x25, its tc, and commits so far. -/
  cyc : Nat := 0
  cycTc : Nat := 0
  cycN : Nat := 0
deriving DecidableEq, Repr

/-- One bus cycle of HRB (R488). -/
structure HrbCycle where
  addr : Nat := 0
  word : Bool := false
  write : Bool := false
  data : Nat := 0
deriving DecidableEq, Repr

/-- What an operation in a window's queue is for. -/
inductive HrbFor where
  /-- A posted write or commit entry: its sequence number, and whether a commit made it. -/
  | posted (seq : Nat) (commit : Bool)
  /-- A posted write that waits for room in the queue. -/
  | waits
  /-- An access whose initiator waits: read, write or AMO. -/
  | held
  /-- A read that no instruction consumes (R500). -/
  | ahead
  /-- A read of a poll entry. -/
  | poll (e : Nat)
deriving DecidableEq, Repr

/-- An operation: its cycles still to run, what it is for, the partition, the CPU address, the bytes read so far, and the
AMO to apply once they are complete. -/
structure HrbOp where
  cycles : List HrbCycle := []
  kind : HrbFor := .held
  part : Nat := 0
  addr : Nat := 0
  got : List Nat := []
  amo : Option (AmoOp × Nat) := none
  /-- The far address of the access: an AMO writes where it has read. -/
  far : Nat := 0
deriving DecidableEq, Repr

/-- One window: its queue, oldest first, and its control block (R505). -/
structure HrbWin where
  q : List HrbOp := []
  halted : Bool := false
  pseq : Nat := 0
  failSeq : Nat := 0
  failAddr : Nat := 0
  failData : Nat := 0
  failInfo : Nat := 0
  failTime : Nat := 0
deriving DecidableEq, Repr

/-- Hidden state of HRB. -/
structure HrbS where
  win : Tab HrbWin := []
  /-- The operation on the bus: its window, the operation without the cycle in progress. -/
  op : Option (Nat × HrbOp) := none
  /-- The cycle in progress and the tick of its t0; GRAB_N is asserted. -/
  cur : Option (HrbCycle × Nat) := none
  grab : Bool := false
  /-- The tick from which the next cycle may start (R488). -/
  free : Nat := 0
  /-- The tick at which EN became 1. -/
  rstTick : Nat := 0
  /-- Poll entries: multiples of the period taken, and a line trigger that waits, by entry. -/
  pe : Tab (Nat × Bool) := []
deriving DecidableEq, Repr

/-- Hidden state of GWY. -/
structure GwyS where
  sig : Tab GwySig := []
deriving DecidableEq, Repr


/-! ### TRI -/

/-- One triad beyond its registers. -/
structure TriT where
  /-- The lane that waits for its reintegration, and the tick of its verdict (R143). -/
  wait : Option (Nat × Nat) := none
  /-- The commit that makes the boundary of R143 has completed. -/
  due : Bool := false
  /-- The reintegration in progress: its lane and the tick of its boundary (R144). -/
  run : Option (Nat × Nat) := none
  /-- Steps 2 to 4 of R144 have ended. -/
  copied : Bool := false
  /-- Interrupts that have arrived and are not taken, and those taken last in the order of their priority (R74, R141). -/
  irqs : List Irq := []
  taken : List Irq := []
  /-- The target at which they are taken, in retired instructions; none while they are held for a D-section or a
  reintegration, and after it until the next boundary (R74, R150). -/
  target : Option Nat := none
  /-- The tick of the last self-test run, and of a STNOW not yet served. -/
  stTick : Nat := 0
  stNow : Option Nat := none
  /-- The bit position of the next run (R137). -/
  stBit : Nat := 0
deriving DecidableEq, Repr

/-- Hidden state of the triads. -/
structure TriS where
  t : Tab TriT := []
  /-- Module times at which reintegrations of a lane started, by lane 3 t + l (R146). -/
  starts : Tab (List Nat) := []
  /-- Reintegration marks in FRAM, by lane 3 t + l (R144, R148). -/
  marks : Tab Bool := []
deriving DecidableEq, Repr

/-! ### RDN -/

/-- Hidden state of RDN. -/
structure RdnS where
  /-- The gates of R531 stand open: the module may drive the field. -/
  gates : Bool := false
  /-- The tick at which the configuration was locked, plus one. -/
  lockTick : Nat := 0
  /-- The tick since which PRIM_IN has read IDLE, and since which it has read HELD or INVALID. -/
  idleTick : Nat := 0
  heldTick : Nat := 0
  /-- A heartbeat has come since the start; the tick of the last one. -/
  hbSeen : Bool := false
  hbTick : Nat := 0
  /-- Its health word, which a partition reset leaves (R30). -/
  word : Nat := 0
  /-- Own heartbeats carry RELEASE; the tick of the last one sent. -/
  rel : Bool := false
  sendTick : Nat := 0
  /-- The tick at which CLAIM was entered, and whether it takes over; ti of R540 for TAKEDUR until the first commit. -/
  claimTick : Nat := 0
  take : Bool := false
  ti : Option Nat := none
  /-- The tick at which HELD ends on PRIM_OUT. -/
  outTick : Nat := 0
  /-- Partitions whose next commit an accepted release waits for; none while no release waits. -/
  relWait : Option (List Nat) := none
  /-- A self-test of R536 has failed since the start; the tick and the lane of the last one. -/
  testFail : Bool := false
  testTick : Nat := 0
  testLane : Nat := 0
  /-- The newest complete checkpoint, sent or held, and its tick; the newest one received, in the buffer that holds it
  complete (R539); the one in flight. -/
  ck : Option Ckpt := none
  ckTick : Nat := 0
  held : Option Ckpt := none
  flight : Option Ckpt := none
  /-- The last versions taken, by partition, and the tick of the last taken outside D-mode. -/
  vers : Tab (Option CkPart) := []
  perTick : Tab Nat := []
deriving DecidableEq, Repr

/-! ### PMC -/

/-- The sampling part of one PMC page. -/
structure PmcT where
  /-- The capture buffer of R590 and the Weevil ring of R591, oldest first: eight words each. -/
  buf : List (List Nat) := []
  ring : List (List Nat) := []
  /-- The tag that is pending: the counter that armed it, and x of R591. -/
  tag : Option (Nat × Nat) := none
deriving DecidableEq, Repr

/-! ### UPD -/

/-- A transfer on the service port: the peer, the block size and the number of the last block taken (R567). -/
structure Tftp where
  peer : Nat := 0
  blk : Nat := 512
  last : Nat := 0
deriving DecidableEq, Repr

/-- Hidden state of UPD: what the eMMC, the NOR and the FRAM journal hold, and the session. -/
structure UpdS where
  /-- The prepared change image of a partition, as bytes (R212). -/
  prep : Tab (List Nat) := []
  /-- Image bytes of the physical slots (R563), the settings set of each slot (R573), the boot loaders A and B. -/
  slots : Tab (List Nat) := []
  settings : Tab (List Nat) := []
  nor : Tab (List Nat) := []
  /-- Length given with OPEN, the tick of the last accepted command or packet, the chunk that runs: offset, length. -/
  openLen : Nat := 0
  sessTick : Nat := 0
  chunk : Option (Nat × Nat) := none
  tftp : Option Tftp := none
  /-- The source of the last session that went to its end, and the tick: an abort of that tick wins (R577). -/
  ended : Nat × Nat := (0, 0)
  /-- The schedule in the journal: ACTTIME and ACTWIN (R568). -/
  sched : Option (Nat × Nat) := none
  /-- The activation mark, and the tick ta of an activation that stops the cycles (R569). -/
  mark : Bool := false
  actTick : Option Nat := none
  /-- The last journalled MiB of a copy (R570). -/
  pos : Nat := 0
  /-- Partition images by 8 * slot + partition, as the start last found them in the slot or a change put them there. -/
  parts : Tab (List Nat) := []
  /-- The boot configuration of the image in a slot, as the first start that loads it finds it. -/
  boot : Tab BootCfg := []
deriving DecidableEq, Repr

/-! ### MGT -/

/-- Hidden state of Cricket (R547 to R557). -/
structure MgtS where
  /-- Keys by slot; slot 0 holds `Config.moduleKey` until SETKEY replaces it, and an empty list is an empty slot. -/
  keys : Tab (List Nat) := []
  /-- The nonce of the latest NONCE reply and its tick, until it is used. -/
  nonce : Option (List Nat × Nat) := none
  /-- Ticks of the AUTHFAIL replies of the last 60 s, newest first; the tick of the lockout. -/
  fails : List Nat := []
  lockTick : Option Nat := none
  /-- A hold of 10 s waits for its RESET_HELD record at the next start (R548). -/
  held : Bool := false
  /-- Tick at which CLOSE began to blow the fuse (R557). -/
  closeTick : Option Nat := none
deriving DecidableEq, Repr

/-- The state of the whole module.  Registers live in one sparse table: a register not listed holds its reset value
(`resetOf`), and a shadow not listed equals the active value (R50). -/
structure State where
  /-- Timebase ticks of 10 ns since power came, the module's reference for durations. -/
  ticks : Nat := 0
  /-- Module time: 0.25 ns units with 48 further fraction bits, modulo 2^112 (R15, R446). -/
  mtime : Nat := 0
  /-- Registers that differ from their reset value, by offset from 0x4000_0000. -/
  regs : Tab Word := []
  /-- Shadows that differ from the active value when written (R52). -/
  shadow : Tab Word := []
  /-- The last answer of the bus or of the management port. -/
  resp : Resp := .none
  /-- Open values drawn so far: the next one is `Config.freeWord free` (assumption 3). -/
  free : Nat := 0
  ten : TenS := {}
  sys : SysS := {}
  host : HostS := {}
  cyc : CycS := {}
  axs : AxsS := {}
  rdn : RdnS := {}
  tri : TriS := {}
  dio : DioS := {}
  sfn : SfnS := {}
  pad : PadS := {}
  pre : PreS := {}
  drc : DrcS := {}
  sar : SarS := {}
  loop : LoopS := {}
  /-- CAN controllers by number. -/
  can : Tab CanCtl := []
  tmb : TmbS := {}
  eth : EthS := {}
  gwy : GwyS := {}
  hrb : HrbS := {}
  mem : MemS := {}
  upd : UpdS := {}
  mgt : MgtS := {}
  /-- Sampling buffers of PMC, by triad. -/
  pmc : Tab PmcT := []
  evr : EvrS := {}
  life : LifeS := {}
  /-- Commands waiting, first in, first out. -/
  pending : List Instr := []
deriving DecidableEq, Repr

/-- The module right after reset: the standby domain powered, the main domain about to start, every register at its
reset value, memory with nothing listed, no command waiting. -/
def State.reset : State := {}

end Sys2Proof.Machine
end

