-- ==== Sys2Proof/Machine/Ops.lean ====
section
/-! DEFINITION. The named operations over registers, time, events and memory that every command is written with. -/
namespace Sys2Proof.Machine

/-! ### Registers -/

/-- The reset value of a register as a word. -/
def resetWord (x : Nat) : Word := BitVec.ofNat 32 (resetOf x)

/-- A register as a word: its listed value, else its reset value. -/
def State.regGet (s : State) (x : Nat) : Word := tabGet (resetWord x) s.regs x

/-- Write a register. -/
def State.regSet (s : State) (x : Nat) (w : Word) : State :=
  { s with regs := tabSet (resetWord x) s.regs x w }

/-- A register as a number. -/
def State.rd (s : State) (x : Nat) : Nat := (s.regGet x).toNat

/-- Write the low 32 bits of a number to a register. -/
def State.wr (s : State) (x n : Nat) : State := s.regSet x (BitVec.ofNat 32 n)

/-- The pair LO at `x`, HI at `x + 4`, as one number (R60). -/
def State.rd64 (s : State) (x : Nat) : Nat := s.rd x + 2 ^ 32 * s.rd (x + 4)

/-- Write the low 64 bits of a number to a pair. -/
def State.wr64 (s : State) (x n : Nat) : State := (s.wr x n).wr (x + 4) (n / 2 ^ 32)

/-- A field of a register. -/
def State.fld (s : State) (x hi lo : Nat) : Nat := nf (s.rd x) hi lo

/-- One bit of a register. -/
def State.bit (s : State) (x i : Nat) : Bool := nb (s.rd x) i

/-- Replace a field of a register. -/
def State.putFld (s : State) (x hi lo v : Nat) : State := s.wr x (nput (s.rd x) hi lo v)

/-- Replace one bit of a register. -/
def State.putBit (s : State) (x i : Nat) (b : Bool) : State := s.wr x (nputb (s.rd x) i b)

/-- A 32-bit counter that wraps. -/
def State.incWrap (s : State) (x : Nat) : State := s.wr x (s.rd x + 1)

/-- A 32-bit counter that saturates. -/
def State.incSat (s : State) (x : Nat) : State := s.wr x (satAdd 0xFFFFFFFF (s.rd x) 1)

/-- Add to a saturating 32-bit counter. -/
def State.addSat (s : State) (x n : Nat) : State := s.wr x (satAdd 0xFFFFFFFF (s.rd x) n)

/-- A saturating counter in a field. -/
def State.incSatF (s : State) (x hi lo : Nat) : State :=
  s.putFld x hi lo (satAdd (2 ^ (hi + 1 - lo) - 1) (s.fld x hi lo) 1)

/-- A wrapping counter in a field. -/
def State.incWrapF (s : State) (x hi lo : Nat) : State := s.putFld x hi lo (s.fld x hi lo + 1)

/-- A pair that counts up by one and wraps. -/
def State.incWrap64 (s : State) (x : Nat) : State := s.wr64 x (s.rd64 x + 1)

/-- The value a shadowed register would take at the next commit: its shadow, else the active value (R52). -/
def State.sh (s : State) (x : Nat) : Nat := (tabGet (s.regGet x) s.shadow x).toNat

/-- A field of a shadow. -/
def State.shFld (s : State) (x hi lo : Nat) : Nat := nf (s.sh x) hi lo

/-- One bit of a shadow. -/
def State.shBit (s : State) (x i : Nat) : Bool := nb (s.sh x) i

/-- A pair of shadows. -/
def State.sh64 (s : State) (x : Nat) : Nat := s.sh x + 2 ^ 32 * s.sh (x + 4)

/-- Write a shadow; a shadow equal to the active value is not listed. -/
def State.setShadow (s : State) (x n : Nat) : State :=
  { s with shadow := tabSet (s.regGet x) s.shadow x (BitVec.ofNat 32 n) }

/-- Drop every shadow of a page, so that each equals its active value (R52, R58). -/
def State.dropShadows (s : State) (p : Nat) : State :=
  { s with shadow := s.shadow.filter (fun e => e.1 / 4096 ≠ p) }

/-- Clear a list of registers to 0. -/
def State.zero (s : State) (xs : List Nat) : State := forL xs (fun x t => t.wr x 0) s

/-! ### The common header (R41) -/

/-- Offset of a register of page `p`. -/
abbrev reg (p o : Nat) : Nat := p * 4096 + o

abbrev hOwner (p : Nat) : Nat := reg p 0x008
abbrev hLock (p : Nat) : Nat := reg p 0x00C
abbrev hCtrl (p : Nat) : Nat := reg p 0x010
abbrev hStat (p : Nat) : Nat := reg p 0x014
abbrev hEvraw (p : Nat) : Nat := reg p 0x018
abbrev hEven (p : Nat) : Nat := reg p 0x01C
abbrev hEvack (p : Nat) : Nat := reg p 0x024
abbrev hErrcode (p : Nat) : Nat := reg p 0x028
abbrev hErraddr (p : Nat) : Nat := reg p 0x02C
abbrev hCmt (p : Nat) : Nat := reg p 0x030
abbrev hCmtstat (p : Nat) : Nat := reg p 0x034
abbrev hGen (p : Nat) : Nat := reg p 0x038

/-- Latch an event bit of a page (R48). -/
def State.raise (s : State) (p b : Nat) : State := s.putBit (hEvraw p) b true

/-- Latch an event bit when a condition holds. -/
def State.raiseIf (s : State) (c : Bool) (p b : Nat) : State := if c then s.raise p b else s

/-- EVPEND of a page: EVRAW AND EVEN; page 0x008 has EVEN = 1 fixed (R37). -/
def State.evpend (s : State) (p : Nat) : Nat :=
  s.rd (hEvraw p) &&& (if p = 8 then 1 else s.rd (hEven p))

/-- Record an error in a page's header (R49): the partition, the code and the register address concerned. -/
def State.err (s : State) (p part code x : Nat) : State :=
  (s.wr (hErrcode p) (0x80000000 + part % 8 * 2 ^ 24 + code)).wr (hErraddr p) (0x40000000 + x)

/-- Record an error whose ERRADDR is not a register address. -/
def State.errAt (s : State) (p part code a : Nat) : State :=
  (s.wr (hErrcode p) (0x80000000 + part % 8 * 2 ^ 24 + code)).wr (hErraddr p) a

/-- Error codes common to every page (R49). -/
abbrev eShadowBusy : Nat := 1
abbrev eLocked : Nat := 2
abbrev eDigest : Nat := 3
abbrev eBadValue : Nat := 4
abbrev eBadKey : Nat := 5

/-! ### Time -/

/-- The rate correction r of TMB in units of 2^-48, signed (R447). -/
def State.rate (s : State) : Int := sx 64 (s.rd64 R.TMB_RATE)

/-- Module time in 0.25 ns (R447). -/
def State.moduleTime (s : State) : Nat := s.mtime / 2 ^ 48

/-- An instant on the scale of module time, moved by a step (R453). -/
def movedBy (d : Int) (x : Nat) : Nat := ((x : Int) + d).toNat

/-- TMB is LOCKED (R451). -/
def State.timeLocked (s : State) : Bool := s.fld (hStat 0x050) 2 0 == 2

/-- Let `n` timebase ticks pass: each adds 40 * (1 + r) units to module time (R447). -/
def State.elapse (s : State) (n : Nat) : State :=
  { s with
    ticks := s.ticks + n
    mtime := (s.mtime + (n * 40 : Nat) * (2 ^ 48 + s.rate)).toNat % 2 ^ 112 }

/-- A stamp at the timestamp phase `ph` of the current tick; stamps resolve to 1.25 ns, which is 5 units (R447). -/
def State.stamp (s : State) (ph : Nat) : Nat := (s.moduleTime + 5 * (ph % 8)) % 2 ^ 64

/-- Have `n` microseconds passed since tick `t`? -/
def State.usSince (s : State) (t n : Nat) : Bool := t + 100 * n ≤ s.ticks

/-- Have `n` milliseconds passed since tick `t`? -/
def State.msSince (s : State) (t n : Nat) : Bool := t + 100000 * n ≤ s.ticks

/-- Have `n` seconds passed since tick `t`? -/
def State.secSince (s : State) (t n : Nat) : Bool := t + 100000000 * n ≤ s.ticks

/-- Draw an open value of `w` bits: nothing constrains it (assumption 3). -/
def State.draw (s : State) (w : Nat) : Nat × State :=
  ((Config.freeWord s.free).toNat % 2 ^ w, { s with free := s.free + 1 })

/-- Record an error whose address the manual does not name: ERRADDR takes an open value. -/
def State.errOpen (s : State) (p part code : Nat) : State := (s.draw 32).2.errAt p part code (s.draw 32).1

/-! ### Memories -/

/-- A byte of a byte memory; an unlisted byte reads 0. -/
def memGet (m : Tab Byte) (a : Nat) : Byte := tabGet 0 m a

/-- Write a byte. -/
def memSet (m : Tab Byte) (a : Nat) (b : Byte) : Tab Byte := tabSet 0 m a b

/-- `n` bytes from address `a`, as numbers. -/
def memBytes (m : Tab Byte) (a n : Nat) : List Nat := (List.range n).map (fun i => (memGet m (a + i)).toNat)

/-- Write bytes from address `a` upwards. -/
def memPut : Tab Byte → Nat → List Nat → Tab Byte
  | m, _, [] => m
  | m, a, b :: t => memPut (memSet m a (BitVec.ofNat 8 b)) (a + 1) t

/-- The little-endian number of `n` bytes at `a`. -/
def memNum (m : Tab Byte) (a n : Nat) : Nat := fromBytes (memBytes m a n)

/-- Bytes of DRAM at an offset. -/
def State.dramBytes (s : State) (o n : Nat) : List Nat := memBytes s.mem.dram o n

/-- The little-endian number in `n` bytes of DRAM. -/
def State.dramNum (s : State) (o n : Nat) : Nat := memNum s.mem.dram o n

/-- The DRAM words that lie wholly inside a range. -/
def wholeWords (o n : Nat) : List Nat :=
  let f := (o + 7) / 8
  (List.range ((o + n) / 8 - f)).map (fun i => f + i)

/-- Store bytes in DRAM.  A whole aligned 64-bit word is written with its check bits, which clears the poison of that word
(R163, R178), and reservations of the bytes end. -/
def State.dramPut (s : State) (o : Nat) (bs : List Nat) : State :=
  { s with mem := { s.mem with
      dram := memPut s.mem.dram o bs
      resv := s.mem.resv.filter (fun e =>
        !(decide (0x800000000 + o < e.2.1 + e.2.2) && decide (e.2.1 < 0x800000000 + o + bs.length)))
      poison := if s.mem.poison = [] then []
        else forL (wholeWords o bs.length) (fun w t => tabDel t w) s.mem.poison
      syn := if s.mem.syn = [] then []
        else forL (wholeWords o bs.length) (fun w t => tabDel t w) s.mem.syn } }

/-- Does a byte range of DRAM touch a poisoned word? -/
def State.poisoned (s : State) (o n : Nat) : Bool :=
  s.mem.poison.any (fun e => decide (o < 8 * e.1 + 8) && decide (8 * e.1 < o + n))

/-- The lowest poisoned word that a byte range of DRAM touches. -/
def State.firstPoison (s : State) (o n : Nat) : Option Nat :=
  (s.mem.poison.find? (fun e => decide (o < 8 * e.1 + 8) && decide (8 * e.1 < o + n))).map (·.1)

/-! ### Partitions and initiators -/

/-- The silicon variant: is triad `t` provided (R1, R2)? -/
def State.hasTriad (s : State) (t : Nat) : Bool :=
  decide (t < 2) || (decide (t < 4) && s.rd R.SYS_ORDCODE == 0x4840)

/-- PSTATE code of partition `n` (R37). -/
def State.pstate (s : State) (n : Nat) : Nat := s.fld R.TEN_PSTATE (4 * n + 3) (4 * n)

abbrev psAbsent : Nat := 0
abbrev psStarting : Nat := 1
abbrev psRunning : Nat := 2
abbrev psDegraded : Nat := 3
abbrev psHalted : Nat := 4
abbrev psResetting : Nat := 5
abbrev psLinkdown : Nat := 6

/-- Change a PSTATE code; a change raises EVRAW[0] of page 0x008 (R37). -/
def State.setPstate (s : State) (n code : Nat) : State :=
  if s.pstate n = code then s
  else (s.putFld R.TEN_PSTATE (4 * n + 3) (4 * n) code).raise 8 0

/-- Is core partition `n` present in the composition (R35)? -/
def State.present (s : State) (n : Nat) : Bool :=
  if n < 6 then s.bit (R.TEN_PCOMP n) 31
  else if n = 6 then s.bit R.TEN_HOSTCFG 0
  else n == 7

/-- The voted triad of core partition `n`, if it is voted. -/
def State.triadOf (s : State) (n : Nat) : Option Nat :=
  if n < 6 ∧ s.bit (R.TEN_PCOMP n) 31 then lowestBit 4 (s.fld (R.TEN_PCOMP n) 3 0) else none

/-- Is partition `n` a voted core partition? -/
def State.voted (s : State) (n : Nat) : Bool := (s.triadOf n).isSome

/-- The core partition to which voted triad `t` belongs. -/
def State.partOfTriad (s : State) (t : Nat) : Option Nat :=
  (List.range 6).find? (fun n => s.triadOf n == some t)

/-- The core partition to which split lane `l` (0 A, 1 B) of triad `t` belongs. -/
def State.partOfLane (s : State) (t l : Nat) : Option Nat :=
  (List.range 6).find? (fun n => s.bit (R.TEN_PCOMP n) 31 && s.bit (R.TEN_PCOMP n) (8 + 2 * t + l))

/-- Does triad `t` run in split mode (R36)? -/
def State.split (s : State) (t : Nat) : Bool := s.bit R.TEN_SPLIT t

/-- The partition of an initiator; the start sequence has none. -/
def State.partOf (s : State) : Init → Option Nat
  | .triad t => s.partOfTriad t.val
  | .lane t b => s.partOfLane t.val (b2n b)
  | .host => some 6
  | .cricket => some 7
  | .boot => none

/-- The number of an initiator for the holding registers of R60. -/
def initCode : Init → Nat
  | .triad t => t.val
  | .lane t b => 4 + 2 * t.val + b2n b
  | .host => 12
  | .cricket => 13
  | .boot => 14

/-- The number of the partition that an access is charged to in ERRCODE.PART. -/
def State.partNo (s : State) (who : Init) : Nat := (s.partOf who).getD 0

/-! ### Memory windows (R170) -/

def State.wEn (s : State) (n : Nat) : Bool := s.bit (R.MEM_WATTR n) 31
def State.wBase (s : State) (n : Nat) : Nat := s.fld (R.MEM_WBASE n) 15 0 * 65536
def State.wSize (s : State) (n : Nat) : Nat := s.fld (R.MEM_WSIZE n) 15 0 * 65536
def State.wOwner (s : State) (n : Nat) : Option Nat := lowestBit 8 (s.fld (R.MEM_WATTR n) 7 0)
def State.wKind (s : State) (n : Nat) : Nat := s.fld (R.MEM_WATTR n) 11 8
def State.wX (s : State) (n : Nat) : Bool := s.bit (R.MEM_WATTR n) 12
def State.wW (s : State) (n : Nat) : Bool := s.bit (R.MEM_WATTR n) 13

abbrev kNormal : Nat := 0
abbrev kDcode : Nat := 1
abbrev kSnapshot : Nat := 2
abbrev kOutimg : Nat := 3
abbrev kRetained : Nat := 4

/-- The enabled windows. -/
def State.windows (s : State) : List Nat := (List.range 64).filter (fun n => s.wEn n)

/-- The window that holds DRAM offset `o`. -/
def State.windowAt (s : State) (o : Nat) : Option Nat :=
  s.windows.find? (fun n => decide (s.wBase n ≤ o) && decide (o < s.wBase n + s.wSize n))

/-- The window of a kind that partition `n` owns. -/
def State.windowOf (s : State) (n kind : Nat) : Option Nat :=
  s.windows.find? (fun w => s.wOwner w == some n && s.wKind w == kind)

/-! ### Reports of sources (R193) -/

/-- A quality byte: VALID, LIMIT, HOLD and FAULT. -/
def qual (valid limit hold fault : Bool) : Nat := b2n valid + 4 * b2n limit + 16 * b2n hold + 32 * b2n fault

/-- STAGE of BOOTSTAT: 5 LOCKED, 6 RECOVERY (R617). -/
def State.stage (s : State) : Nat := s.fld R.SYS_BOOTSTAT 3 0

/-- A number with the bits of a mask taken from another. -/
def mergeBits (n mask v : Nat) : Nat := (n - (n &&& mask)) ||| (v &&& mask)

/-- The sources of the active maps that `sel` selects report what they have now: data, quality and stamp. -/
def State.srcReport (s : State) (sel : MapEnt → Bool) (take : State → MapEnt → List Nat × Nat × Nat) : State :=
  forN 6 (fun n t =>
    let c : CycP := tabGet {} t.cyc.p n
    match c.img with
    | none => t
    | some i =>
      if !i.src.any sel then t
      else
        let hist := forL (i.src.zip (List.range i.src.length)) (fun x h =>
          if sel x.1 then tabSet [] h x.2 (take t x.1 :: tabGet [] h x.2) else h) c.hist
        { t with cyc := { t.cyc with p := tabSet {} t.cyc.p n { c with hist := hist } } }) s

end Sys2Proof.Machine
end

