-- ==== Sys2Proof/Machine/Chain.lean ====
section
/-! DEFINITION. The signal chain of one PAD path: decimation, compensation, calibration, integrator, notch, anti-alias
filter and interpolation (R225 to R230, R234, R235).  A value of 40 bits is an integer in 2^-38 of the range's full scale;
behind the integrator in 2^-38 of full scale times 16 ms (assumption 125).  A channel is one stream: the words of its modulators
feed it, whichever of the events that need it brings them (assumption 126). -/
namespace Sys2Proof.Machine

/-- A value of the 40-bit arithmetic (R225). -/
def fix40 (tag : Nat) (q : Rat) : Int := clampInt (-(2 ^ 39)) (2 ^ 39 - 1) (openInt tag q)

/-- A word of a modulator that carries no signal. -/
def modSilent : ModWord := { bits := 0x5555555555555555, sat := false }

/-- The running sums of `l` over 64 entries. -/
def box64 (l : List Nat) : List Nat :=
  (List.range (l.length + 63)).map (fun i => ((l.take (i + 1)).drop (i - 63)).foldl (· + ·) 0)

/-- The weights of (sum of z^-j, j = 0 to 63)^N, newest bit first (R226). -/
def sincTaps : Nat → List Nat
  | 0 => [1]
  | n + 1 => box64 (sincTaps n)

/-- Step 2 with its weights on words of 64 modulator bits, newest first, the first bit of a word at its bit 0 (R226). -/
def sincOut (taps : List Nat) (n : Nat) (words : List ModWord) : Int :=
  let bits := words.flatMap (fun w => (List.range 64).map (fun j => nb w.bits.toNat (63 - j)))
  let sum : Int := (taps.zip bits).foldl (fun a p => if p.2 then a + p.1 else a - p.1) 0
  sum * 2 ^ (38 - 6 * n)

/-- Step 3: the symmetric FIR over 15 values, newest first (R227). -/
def firOut (n : Nat) (d : List Int) : Int :=
  let sum : Int := (List.range 15).foldl (fun a j =>
    a + (Config.firTap n (if j < 7 then 7 - j else j - 7)).toInt * d.getD j 0) 0
  fix40 13 ((sum : Rat) / (2 ^ 38 : Nat))

/-- What a channel's path runs with: SINCN and its weights, gain in 2^-30, offset in 2^-23, 1 + GTRIM ppm, INV, the leak of
its integrator, cosine and radius of its notch, and the sections of its anti-alias filter as b0, a1, a2. -/
structure ChainK where
  n : Nat
  taps : List Nat
  gain : Nat
  ofs : Int
  trim : Rat
  inv : Bool
  leak : Option Rat
  notch : Option (Rat × Rat)
  aa : List (Rat × Rat × Rat)

/-- Step 4 (R228). -/
def ChainK.calib (k : ChainK) (s : Int) : Int :=
  let x := fix40 14 (((s - k.ofs * 2 ^ 15 : Int) : Rat) * ((k.gain : Nat) / (2 ^ 30 : Nat)) * k.trim)
  if k.inv then -x else x

/-- The delay of half a sample in a DIRECT channel, on the last values of step 4, newest first (R228, assumption 125). -/
def ChainK.delay (k : ChainK) (h : List Int) : Int :=
  if k.leak.isNone then fix40 20 (Config.halfSample h) else h.headD 0

/-- Step 5: the leaky trapezoid, in units of 16 ms (R229). -/
def ChainK.integ (k : ChainK) (y x x1 : Int) : Int :=
  match k.leak with
  | some a => fix40 15 (a * y + ((x + x1 : Int) : Rat) / (8192 : Nat))
  | none => x

/-- Step 6: the notch with its last inputs and outputs, newest first (R230). -/
def ChainK.notchOut (k : ChainK) (x : Int) (nx ny : List Int) : Int :=
  match k.notch with
  | some (c, r) =>
    let g (l : List Int) (i : Nat) : Rat := ((l.getD i 0 : Int) : Rat)
    fix40 16 ((x : Rat) - 2 * c * g nx 0 + g nx 1 + 2 * r * c * g ny 0 - r * r * g ny 1)
  | none => x

/-- Step 7: second-order sections in turn, each with its memory x1, x2, y1, y2 (R234). -/
def aaOut : List (Rat × Rat × Rat) → List (Int × Int × Int × Int) → Int → Int × List (Int × Int × Int × Int)
  | [], mem, x => (x, mem)
  | (b, a1, a2) :: t, mem, x =>
    let m := mem.headD (0, 0, 0, 0)
    let y := fix40 17 (b * ((x + 2 * m.1 + m.2.1 : Int) : Rat) - a1 * m.2.2.1 - a2 * m.2.2.2)
    let r := aaOut t (mem.drop 1) y
    (r.1, (x, m.1, y, m.2.2.1) :: r.2)

/-- A path after one more word of its modulator. -/
def ChainK.feed (k : ChainK) (p : PadPath) (w : ModWord) : PadPath :=
  let words := (w :: p.words).take 5
  let dec := (sincOut k.taps k.n words :: p.dec).take 15
  let h := (k.calib (firOut k.n dec) :: p.h).take 16
  let x := k.delay h
  let y := k.integ p.y x p.x
  let z := k.notchOut y p.nx p.ny
  let r := aaOut k.aa p.aa z
  { words := words, dec := dec, h := h, x := x, y := y, nx := (y :: p.nx).take 2, ny := (z :: p.ny).take 2, aa := r.2
    out := ((r.1, w.sat) :: p.out).take 512 }

/-- The sections of the Butterworth low-pass of an order at a corner, as a fraction of 256 kS/s: bilinear transform with
prewarping (R234). -/
def butter (order : Nat) (corner : Rat) : List (Rat × Rat × Rat) :=
  let w := cosSin (corner / 2)
  let t : Rat := if w.1 = 0 then 0 else w.2 / w.1
  (List.range (order / 2)).map (fun i =>
    let q := 2 * (cosSin ((2 * i + 1 : Nat) / (4 * order : Nat))).2
    let d := 1 + q * t + t * t
    (t * t / d, 2 * (t * t - 1) / d, (1 - q * t + t * t) / d))

/-- The step-7 value at `m + mu` by the cubic of R235, and whether the modulator was overloaded in its window; `next` is the
index after the newest value of `out`. -/
def interp (out : List (Int × Bool)) (next m : Nat) (mu : Rat) : Rat × Bool :=
  let g (j : Nat) : Int × Bool := out.getD (next - 1 - j) (0, false)
  let v (j : Nat) : Rat := ((g j).1 : Rat)
  ((0 - mu) * (mu - 1) * (mu - 2) / 6 * v (m - 1) + (mu + 1) * (mu - 1) * (mu - 2) / 2 * v m
    - (mu + 1) * mu * (mu - 2) / 2 * v (m + 1) + (mu + 1) * mu * (mu - 1) / 6 * v (m + 2),
   (List.range 4).any (fun i => (g (m - 1 + i)).2))

/-! ### Channels -/

abbrev chReg (f : Nat → Nat → Nat) (n : Nat) : Nat := f (n / 8) (n % 8)
def chCfg (n : Nat) : Nat := chReg R.PAD_CHCFG n

def State.chOn (s : State) (n : Nat) : Bool := s.bit (chCfg n) 0
def State.padOn (s : State) : Bool := s.bit R.PAD_CTRL 0
def State.gridMode (s : State) : Nat := s.fld R.PAD_CTRL 3 2
def State.gridAx (s : State) : Nat := s.fld R.PAD_CTRL 6 4

/-! ### The stream of a channel -/

/-- Word `j` of channel `n`: CFG, PFS, RATIO, SKEW, GTRIM, NF0, NBW, LEAK. -/
def PadEra.word (e : PadEra) (n j : Nat) : Nat := (e.ch.getD n []).getD j 0

/-- What the main or check path of channel `n` runs with. -/
def State.chainK (s : State) (e : PadEra) (n : Nat) (check : Bool) : ChainK :=
  let c := e.word n 0
  let r := nf c 5 4
  let fg : Rat := ((if nb e.ctl 7 then 512 else 256 : Nat) : Rat) * e.freq / 256000
  { n := nf c 10 8
    taps := sincTaps (nf c 10 8)
    gain := if e.cal then s.rd (if check then R.PAD_CGAIN n r else R.PAD_MGAIN n r) else 2 ^ 30
    ofs := if e.cal then sx 24 (s.rd (if check then R.PAD_COFS n r else R.PAD_MOFS n r)) else 0
    trim := 1 + (sx 16 (e.word n 4) : Rat) / 1000000
    inv := nb c 3
    leak := if nf c 2 1 = 1 then some (expQ (-2 * piQ * (nf (e.word n 7) 9 0 : Nat) / 256000000)) else none
    notch := if nb c 6 then some ((cosSin ((nf (e.word n 5) 14 0 : Nat) / 256000)).1,
      1 - piQ * (nf (e.word n 6) 10 0 : Nat) / 256000) else none
    aa := if nb e.ctl 1 then butter 6 (3 / 10 * fg) else butter 4 (35 / 100 * fg) }

/-- A channel after pairs of modulator words, oldest first, under the eras from the oldest on; beside it the outputs of
step 4 (or 6, with `tap`) of both paths, newest first.  Its integrator starts when TYPE or LEAK gives it another leak. -/
def State.chainFeed (s : State) (n : Nat) (tap : Bool) :
    List PadEra → List (ModWord × ModWord) → PadChan × List (Int × Int) → PadChan × List (Int × Int)
  | [], _, r => r
  | e :: rest, ws, r =>
    let k := match rest with
      | f :: _ => min ws.length (divUp f.start 3125 - r.1.next)
      | [] => ws.length
    if k = 0 then s.chainFeed n tap rest ws r
    else
      let m := s.chainK e n false
      let c := s.chainK e n true
      let leak := if m.leak.isSome then e.word n 7 + 1 else 0
      let x := if leak = r.1.leak then r.1
        else { r.1 with leak := leak, cnt := 0, sumM := 0, sumC := 0
                        main := { r.1.main with y := 0 }, check := { r.1.check with y := 0 } }
      let out (p : PadPath) : Int := if tap then p.ny.headD 0 else p.x
      s.chainFeed n tap rest (ws.drop k) ((ws.take k).foldl (fun (a : PadChan × List (Int × Int)) w =>
        let y := { a.1 with next := a.1.next + 1, main := m.feed a.1.main w.1, check := c.feed a.1.check w.2 }
        (y, (out y.main, out y.check) :: a.2)) (x, r.2))

/-- The channel `n`, from `found` or fresh and under the eras given, with the words of its modulators up to sample `top`;
words not given carry no signal, and a channel that has no words for 4 ms starts afresh (assumption 126). -/
def State.chainTo (s : State) (eras : List PadEra) (n top : Nat) (tap : Bool) (found : Option PadChan) (c : ChIn) :
    PadChan × List (Int × Int) :=
  let give := max 4 (max c.main.length c.check.length)
  let x : PadChan := match found with
    | some y => if top + 1 ≤ y.next + 1024 then y else { next := top + 1 - give }
    | none => { next := top + 1 - give }
  let k := top + 1 - x.next
  let last (l : List ModWord) : List ModWord := List.replicate (k - l.length) modSilent ++ l.drop (l.length - k)
  s.chainFeed n tap eras.reverse ((last c.main).zip (last c.check)) (x, [])

/-- Channel `n` with the words of its modulators up to sample `top`, and the main path's value after step 6 there, which the
mains detectors take (R225): 0 while its modulator does not run or the channel is disabled. -/
def State.streamTo (s : State) (n top : Nat) (w : ChIn) : State × Int :=
  if s.padOn && decide (s.pad.onTick + 20000 ≤ s.ticks) && s.chOn n then
    let x := (s.chainTo s.pad.eras n top false (tabFind s.pad.chan n) w).1
    ({ s with pad := { s.pad with chan := tabIns (tabDel s.pad.chan n) n x } }, x.main.ny.headD 0)
  else (s, 0)

end Sys2Proof.Machine
end

