-- ==== Sys2Proof/Machine/Access.lean ====
section
/-! DEFINITION. Who may touch a register: ownership, read grants, access faults and key checks. -/
namespace Sys2Proof.Machine

/-! ### Pages -/

/-- The first page index of a block's range and its block code, for an allocated page (R12, R39). -/
def blockOf (p : Nat) : Option (Nat × Nat) :=
  if p ≤ 0x003 then some (0x01, 0x000)
  else if p ≤ 0x005 then some (0x02, 0x004)
  else if 0x008 ≤ p ∧ p ≤ 0x00B then some (0x03, 0x008)
  else if 0x00C ≤ p ∧ p ≤ 0x013 then some (0x04, 0x00C)
  else if 0x020 ≤ p ∧ p ≤ 0x027 then some (0x05, 0x020)
  else if 0x028 ≤ p ∧ p ≤ 0x02B then some (0x06, 0x028)
  else if 0x030 ≤ p ∧ p ≤ 0x037 then some (0x07, 0x030)
  else if 0x040 ≤ p ∧ p ≤ 0x04F then some (0x08, 0x040)
  else if 0x050 ≤ p ∧ p ≤ 0x053 then some (0x09, 0x050)
  else if 0x060 ≤ p ∧ p ≤ 0x067 then some (0x0A, 0x060)
  else if 0x068 ≤ p ∧ p ≤ 0x07F then some (0x0B, 0x068)
  else if 0x080 ≤ p ∧ p ≤ 0x083 then some (0x0C, 0x080)
  else if 0x088 ≤ p ∧ p ≤ 0x08F then some (0x0D, 0x088)
  else if 0x090 ≤ p ∧ p ≤ 0x097 then some (0x0E, 0x090)
  else if 0x098 ≤ p ∧ p ≤ 0x09B then some (0x0F, 0x098)
  else if 0x09C ≤ p ∧ p ≤ 0x09F then some (0x10, 0x09C)
  else if 0x0A0 ≤ p ∧ p ≤ 0x0AF then some (0x11, 0x0A0)
  else if 0x0B0 ≤ p ∧ p ≤ 0x0BF then some (0x12, 0x0B0)
  else if 0x0C0 ≤ p ∧ p ≤ 0x0C3 then some (0x13, 0x0C0)
  else if 0x0C4 ≤ p ∧ p ≤ 0x0C7 then some (0x14, 0x0C4)
  else if 0x0C8 ≤ p ∧ p ≤ 0x0C9 then some (0x15, 0x0C8)
  else if 0x0CA ≤ p ∧ p ≤ 0x0CB then some (0x16, 0x0CA)
  else if 0x0CC ≤ p ∧ p ≤ 0x0CD then some (0x17, 0x0CC)
  else if 0x0CE ≤ p ∧ p ≤ 0x0CF then some (0x18, 0x0CE)
  else if 0x0D0 ≤ p ∧ p ≤ 0x0D1 then some (0x19, 0x0D0)
  else if 0x0D4 ≤ p ∧ p ≤ 0x0D7 then some (0x1A, 0x0D4)
  else none

/-- Is the page allocated on this variant?  Pages 0x024 to 0x027 are reserved on a ZQ-4820 (R40). -/
def State.allocated (s : State) (p : Nat) : Bool :=
  (blockOf p).isSome && (!(decide (0x024 ≤ p) && decide (p ≤ 0x027)) || s.hasTriad 2)

/-- PID of a page (R39, R42). -/
def pidOf (p : Nat) : Nat :=
  match blockOf p with
  | none => 0
  | some (code, b) =>
    let d := p - b
    let ik : Nat × Nat :=
      if code = 0x04 ∨ code = 0x07 then (d, 0)
      else if code = 0x05 ∨ code = 0x0D then (d / 2, d % 2)
      else if code = 0x11 then (d / 4, d % 4)
      else (0, d)
    code * 2 ^ 24 + ik.1 * 2 ^ 16 + ik.2 * 2 ^ 8 + 1

/-- CAPS of a page, from the chapter of its block. -/
def State.capsOf (s : State) (p : Nat) : Nat :=
  match blockOf p with
  | none => 0
  | some (code, b) =>
    match code with
    | 0x01 => 0x00000002
    | 0x02 => 0x00000264
    | 0x03 => 0x00800008
    | 0x04 => 0x00011440
    | 0x05 => 0x00000103
    | 0x06 => 0x00102040
    | 0x07 => if p - b < 6 then 0x42000200 else 0
    | 0x08 => 0x24080100
    | 0x09 => 0x00000001
    | 0x0A => 0x00005418
    | 0x0B => 0x84848080
    | 0x0C => 0x10108018
    | 0x0D => 0x08204040
    | 0x0E => 0x04462030
    | 0x0F => 0x00002010
    | 0x10 => 0x00000808
    | 0x11 => 0x20800100
    | 0x12 => 0x20400806
    | 0x13 => 0x00000080
    | 0x14 => 0x00200804
    | 0x15 => 0x00401000
    | 0x16 => 0x00000080
    | 0x17 => 0x00000003
    | 0x18 => 0x00000104
    | 0x19 => 0x00000206
    | 0x1A => if s.hasTriad 2 then 0x00000108 else if p - b < 2 then 0x00000208 else 0
    | _ => 0

/-- The page whose ownership entry governs page `p`: a block's chapter may let the owner of one page own others. -/
def ctlPage (p : Nat) : Nat :=
  if 0x060 ≤ p ∧ p ≤ 0x07F then 0x068
  else if 0x080 ≤ p ∧ p ≤ 0x083 then 0x080
  else if 0x088 ≤ p ∧ p ≤ 0x08F then p / 2 * 2
  else if 0x090 ≤ p ∧ p ≤ 0x092 then 0x090
  else if 0x098 ≤ p ∧ p ≤ 0x09B then 0x098
  else if 0x09C ≤ p ∧ p ≤ 0x09F then 0x09C
  else if 0x0A0 ≤ p ∧ p ≤ 0x0AF then p / 4 * 4
  else if 0x050 ≤ p ∧ p ≤ 0x052 then 0x050
  else if (0x0B0 ≤ p ∧ p ≤ 0x0B5) ∨ p = 0x0B8 then 0x0B0
  else if 0x0C0 ≤ p ∧ p ≤ 0x0C3 then 0x0C0
  else if 0x0C4 ≤ p ∧ p ≤ 0x0C7 then 0x0C4
  else if 0x0C8 ≤ p ∧ p ≤ 0x0C9 then 0x0C8
  else if 0x0CA ≤ p ∧ p ≤ 0x0CB then 0x0CA
  else if 0x0CC ≤ p ∧ p ≤ 0x0CD then 0x0CC
  else if 0x0D0 ≤ p ∧ p ≤ 0x0D1 then 0x0D0
  else p

/-- The ownership entry of a page in the TEN table (R61). -/
def State.ownEntry (s : State) (p : Nat) : Nat := s.fld (R.TEN_OWN (p / 4)) (8 * (p % 4) + 7) (8 * (p % 4))

/-- The one-hot owner of a page: EVF, TEN and MGT pages have fixed owners (R44, R560), and page 0x0B9 has none while the
service port is granted to UPD (R567): that view is no change of OWNER, so EVEN and the shadows of the page stay (DESIGN
CHOICE, assumption 99). -/
def State.ownMask (s : State) (p : Nat) : Nat :=
  if 0x00C ≤ p ∧ p ≤ 0x013 then (if s.present (p - 0x00C) then 2 ^ (p - 0x00C) else 0)
  else if 0x008 ≤ p ∧ p ≤ 0x00B then 0
  else if p = 0x0CE ∨ p = 0x0CF then 0x80
  else if p = 0x036 ∨ p = 0x037 then 0
  else if p = 0x0B9 ∧ s.bit R.UPD_CTRL 0 then 0
  else s.ownEntry (ctlPage p)

/-- The partition that owns a page. -/
def State.owner (s : State) (p : Nat) : Option Nat := lowestBit 8 (s.ownMask p)

/-- Does partition `n` own page `p`? -/
def State.owns (s : State) (n p : Nat) : Bool := s.owner p == some n

/-- May partition `n` read page `p` by the read-grant table (R62)?  P7 always may. -/
def State.granted (s : State) (n p : Nat) : Bool :=
  n == 7 || s.bit (R.TEN_GRANT (p / 4)) (8 * (p % 4) + n % 8)

/-- Is the partition in a D-section (R64)? -/
def State.inDsec (s : State) (n : Nat) : Bool := nb s.cyc.dsec n

/-- Can the initiator make an access now: its triad is in 2oo3 or 2oo2 and not in reintegration (R144), or its lane is
SPLIT, and its partition runs; the link is up and the BARs are assigned (R33); or the start sequence is at work? A shutdown
sequence stops the lanes and switches HOSTLINK off (R599, R600). -/
def State.live (s : State) (who : Init) : Bool :=
  match who with
  | .triad t => match s.partOfTriad t.val with
    | some n => !s.bit (R.TRI_STAT t.val) 4 && s.fld (R.TRI_STAT t.val) 2 1 == 1 &&
      (s.pstate n == psRunning || s.pstate n == psDegraded || s.pstate n == psStarting)
    | none => false
  | .lane t b => match s.partOfLane t.val (b2n b) with
    | some n => s.fld (R.TRI_LANESTAT t.val) (4 * b2n b + 3) (4 * b2n b) == 6 &&
      (s.pstate n == psRunning || s.pstate n == psStarting)
    | none => false
  | .host => s.host.up && s.host.cfg.bars && s.present 6
  | .cricket => true
  | .boot => s.fld R.SYS_BOOTSTAT 3 0 != 5

/-- Does the owner of MEM page 0x028 or P7 ask (R45)? -/
def State.memOrP7 (s : State) (n : Nat) : Bool := n == 7 || s.owns n 0x028

/-- Has partition `n` enabled event source `k` in its EVF page (R633)? -/
def State.routed (s : State) (n k : Nat) : Bool := s.bit (R.EVF_ROUTE n k) 31

/-- May partition `n` read offset `o` of page `p` (R45)? -/
def State.mayReadP (s : State) (n p o : Nat) : Bool :=
  if s.inDsec n then false
  else if !s.allocated p then true
  else if 0x008 ≤ p ∧ p ≤ 0x00B then
    (decide (o < 0xC00) || (reg p o == R.TEN_DENYPOP && s.memOrP7 n))
  else decide (o < 0x00C) || s.owns n p || (decide (o < 0xC00) && s.granted n p)

/-- May partition `n` write offset `o` of page `p` (R45)?  Records of page 0x0C9 may also be asked for by every
partition that may read that page (R513, assumption 12). -/
def State.mayWriteP (s : State) (n p o : Nat) : Bool :=
  if s.inDsec n then false
  else if !s.allocated p then true
  else if 0x008 ≤ p ∧ p ≤ 0x00B then
    let x := reg p o
    x == R.TEN_PRESET || (x == R.TEN_DENYOVF && s.memOrP7 n) || (o == 0xFFC && s.memOrP7 n) ||
      (x == hEvack 8 && (n == 7 || s.routed n 2)) || x == hEven 8
  else s.owns n p ||
    (p == 0x0C9 && (o == 0x040 || o == 0x044 || o == 0xC00) && (s.granted n p || s.owns n 0x0C8))

/-- May the initiator read offset `o` of page `p`? -/
def State.mayRead (s : State) (who : Init) (p o : Nat) : Bool :=
  match s.partOf who with
  | some n => s.mayReadP n p o
  | none => who == .boot

/-- May the initiator write offset `o` of page `p`? -/
def State.mayWrite (s : State) (who : Init) (p o : Nat) : Bool :=
  match s.partOf who with
  | some n => s.mayWriteP n p o
  | none => who == .boot

/-! ### Faults and logs -/

/-- SOURCE and number of an initiator in an error-log entry (R188). -/
def sourceOf : Init → Nat × Nat
  | .triad t => (0, t.val)
  | .lane t b => (1, 2 * t.val + b2n b)
  | .host => (2, 0)
  | .cricket => (5, 0)
  | .boot => (0, 0)

/-- Enter an entry in the error log: a full log drops it, and the FRAM copy keeps the newest 256 (R188). -/
def State.logErr (s : State) (addr part source num code syn blk : Nat) : State :=
  let e : LogEntry :=
    { addr := addr % 2 ^ 40
      info := 0x80000000 + part % 8 * 2 ^ 24 + source % 16 * 2 ^ 20 + num % 16 * 2 ^ 16 + code % 2 ^ 16
      syn := syn % 256 + blk % 256 * 256
      time := s.moduleTime }
  let s := { s with mem := { s.mem with elogFram := (s.mem.elogFram ++ [e]).drop (s.mem.elogFram.length - 255) } }
  if s.mem.elog.length < 32 then { s with mem := { s.mem with elog := s.mem.elog ++ [e] } }
  else (s.putBit R.MEM_ELOVF 0 true).raise 0x028 5

/-- A synchronous exception of partition `n`.  In a D-section it goes to the D trap vector of the image, and the trap ends
the reservation of the triad (R75). -/
def State.except (s : State) (n : Nat) (r : Option Nat → Resp) : State :=
  if s.inDsec n then
    { s with
      resp := r ((tabGet {} s.cyc.p n).img.map (·.trap))
      mem := { s.mem with resv := s.mem.resv.filter (fun e => s.triadOf n != some e.1) } }
  else { s with resp := r none }

/-- A faulty replica of a block is reported in ERRCODE of a page of the block; no code is given for it (R11, assumption
112). -/
def State.replicaErr (s : State) (p : Nat) : State :=
  (s.draw 16).2.errOpen p ((s.owner p).getD 0) (s.draw 16).1

/-- An access fault under R20: MEM records address and partition, the error log takes an ACCESS entry, the bus-error
event is raised, and the access returns nothing. -/
def State.busFault (s : State) (who : Init) (addr : Nat) : State :=
  let n := s.partNo who
  let sn := sourceOf who
  let s := s.errAt 0x028 n 0x0101 (addr % 2 ^ 32)
  let s := s.logErr addr n sn.1 sn.2 0x0101 0 0
  (s.raise 0x028 3).except n .fault

/-- An access fault in the register space: R20, and the log of page 0x00B (R63). -/
def State.deny (s : State) (who : Init) (p o : Nat) (write width : Bool) : State :=
  let n := s.partNo who
  let e := 0x80000000 + n % 8 * 2 ^ 24 + b2n write * 2 ^ 23 + b2n width * 2 ^ 22 +
    b2n (decide (0xC00 ≤ o)) * 2 ^ 21 + p % 512
  let s := s.incSat R.TEN_DENYCNT
  let s := (s.wr R.TEN_DENYLAST e).wr R.TEN_DENYOFS (o % 4096)
  let s := if s.ten.deny.length < 16 then { s with ten := { s.ten with deny := s.ten.deny ++ [e] } }
    else s.putBit R.TEN_DENYOVF 0 true
  s.busFault who (0x40000000 + reg p o)

/-- A write to a command register: an initiator that may write it has the command's effect, any other access faults. -/
def State.cmdW (s : State) (who : Init) (p o : Nat) (f : Nat → State → State) : State :=
  if !s.live who then s
  else if s.mayWrite who p o then f (s.partNo who) { s with resp := .done }
  else s.deny who p o true false

/-- A read of a register with a read side effect: as `cmdW`, for reads. -/
def State.cmdR (s : State) (who : Init) (p o : Nat) (f : Nat → State → State) : State :=
  if !s.live who then s
  else if s.mayRead who p o then f (s.partNo who) s
  else s.deny who p o false false

/-- A command word with a key in [31:16]: a wrong key is ignored, and ERRCODE records BAD_KEY. -/
def State.keyed (s : State) (p o part key : Nat) (v : Word) (f : State → State) : State :=
  if nf v.toNat 31 16 = key then f s else s.err p part eBadKey (reg p o)

/-- A command register that acts on the value 0x0000_0001 and on no other. -/
def onOne (v : Word) (f : State → State) (s : State) : State := if v = 1 then f s else s

end Sys2Proof.Machine
end

