-- ==== Sys2Proof/Machine/Evf.lean ====
section
/-! DEFINITION. EVF: event sources, vectors and their delivery (R24, R48, R632 to R635), and the frames in which every command runs. -/
namespace Sys2Proof.Machine

/-- The page and the EVPEND bits that raise event source `k` (R634 and the chapters it names); none for a source that
is never raised (R635). -/
def esSource (k : Nat) : Option (Nat × Nat) :=
  let one (p b : Nat) : Option (Nat × Nat) := some (p, 2 ^ b)
  if k = 0 then one 0x000 0
  else if k = 1 then one 0x002 0
  else if k = 2 then one 0x008 0
  else if k = 3 then none
  else if k ≤ 7 then one 0x004 (k - 4)
  else if k ≤ 13 then one 0x005 (k - 8)
  else if k ≤ 15 then none
  else if k ≤ 47 then
    let t := (k - 16) / 8
    let b := (k - 16) % 8
    if b < 4 then one (0x020 + 2 * t) b else one (0x021 + 2 * t) (b - 4)
  else if k ≤ 55 then one 0x028 (k - 48)
  else if k ≤ 67 then some (0x030 + (k - 56) / 2, if (k - 56) % 2 = 0 then 0xFF else 0xFF00)
  else if k ≤ 71 then none
  else if k ≤ 79 then some (0x041 + (k - 72), 0xF)
  else if k ≤ 85 then one 0x040 (k - 80)
  else if k = 86 then one 0x04F 0
  else if k = 87 then some (0x04E, 0xF)
  else if k ≤ 95 then one 0x04F (8 + (k - 88))
  else if k ≤ 99 then one 0x050 (k - 96)
  else if k ≤ 102 then one 0x051 (k - 100)
  else if k = 103 then one 0x053 0
  else if k ≤ 105 then one 0x060 (k - 104)
  else if k ≤ 108 then one 0x065 (k - 106)
  else if k = 109 then one 0x067 0
  else if k = 110 then one 0x066 0
  else if k = 111 then none
  else if k ≤ 113 then one 0x06A (k - 112)
  else if k = 114 then one 0x06B 0
  else if k = 115 then one 0x068 0
  else if k ≤ 118 then one 0x06B (k - 115)
  else if k ≤ 120 then one 0x06A (k - 117)
  else if k = 121 then some (0x06A, 0x30)
  else if k = 122 then one 0x074 0
  else if k ≤ 124 then one 0x068 (k - 122)
  else if k = 125 then one 0x06B 4
  else if k ≤ 133 then one 0x06B (8 + (k - 126))
  else if k = 134 then one 0x068 3
  else if k = 135 then one 0x06A 6
  else if k ≤ 138 then one 0x082 (k - 136)
  else if k = 139 then some (0x080, 0xF)
  else if k ≤ 155 then
    let c := (k - 140) / 4
    let b := (k - 140) % 4
    some (0x088 + 2 * c, if b = 3 then 0x38 else 2 ^ b)
  else if k = 156 then one 0x090 0
  else if k = 157 then one 0x092 0
  else if k = 158 then one 0x091 0
  else if k ≤ 166 then some (0x093 + (k - 159) / 2, if (k - 159) % 2 = 0 then 0xF else 0xF00)
  else if k = 167 then none
  else if k ≤ 183 then some (0x09B, 2 ^ (k - 168) + 2 ^ (16 + (k - 168)))
  else if k ≤ 185 then one 0x09D (k - 184)
  else if k ≤ 189 then one 0x09E (k - 186)
  else if k ≤ 191 then one 0x09C (k - 190)
  else if k ≤ 223 then one (0x0A0 + 4 * ((k - 192) / 8)) ((k - 192) % 8)
  else if k ≤ 225 then one 0x0B0 (k - 224)
  else if k ≤ 228 then one 0x0B5 (k - 226)
  else if k ≤ 230 then one 0x0B8 (k - 229)
  else if k ≤ 232 then one 0x0B6 (k - 231)
  else if k ≤ 234 then one 0x0B7 (k - 233)
  else if k ≤ 238 then some (0x0B1 + (k - 235), 3)
  else if k = 239 then some (0x0B5, 0x300)
  else if k ≤ 243 then one 0x0C0 (k - 240)
  else if k ≤ 247 then one 0x0C4 (k - 244)
  else if k = 248 then some (0x0C4, 0xFF00)
  else if k = 249 then one 0x0C5 0
  else if k = 250 then one 0x0C4 16
  else if k = 251 then some (0x0C4, 0x60000)
  else if k ≤ 255 then one 0x0C8 (k - 252)
  else if k ≤ 257 then one 0x0CA (k - 256)
  else if k ≤ 259 then one 0x0CB (k - 258)
  else if k = 260 then some (0x0CC, 3)
  else if k = 261 then one 0x0CD 0
  else if k = 262 then some (0x0CD, 0xE)
  else if k = 263 then some (0x0CC, 0x1C)
  else if k ≤ 267 then one 0x0CE (k - 264)
  else if k = 268 then one 0x0D0 0
  else if k = 269 then one 0x0D1 0
  else if k = 270 then some (0x0D1, 6)
  else if k = 271 then one 0x0D0 1
  else if k ≤ 275 then some (0x0D4 + (k - 272), 0xF)
  else none

/-- Is event source `k` raised?  EVF holds no latch of its own (R633). -/
def State.raised (s : State) (k : Nat) : Bool :=
  match esSource k with
  | some (p, m) => s.allocated p && s.evpend p &&& m != 0
  | none => false

/-- The pending vectors of partition `n`, one bit each: a source routed to the vector is raised (R633). -/
def State.vpend (s : State) (n : Nat) : Nat :=
  forN 276 (fun k v =>
    if s.bit (R.EVF_ROUTE n k) 31 && s.raised k then v ||| 2 ^ s.fld (R.EVF_ROUTE n k) 5 0 else v) 0

/-- The vectors of partition `n` that are pending and enabled. -/
def State.vact (s : State) (n : Nat) : Nat := s.vpend n &&& s.rd64 (R.EVF_VEN n)

/-- VNEXT: the lowest vector pending and enabled (R632). -/
def State.vnext (s : State) (n : Nat) : Nat :=
  match lowestBit 64 (s.vact n) with
  | some v => 0x80000000 + v
  | none => 0

/-- Is the interrupt of partition `n` asserted (R633)? -/
def State.irq (s : State) (n : Nat) : Bool := s.vact n != 0

/-- The set bits of a 64-bit mask, lowest first: MSI-X messages go in vector order (R32). -/
def vectorsOf (m : Nat) : List Nat := (List.range 64).filter (fun v => nb m v)

/-- Send an MSI-X message for each vector of P6 that is pending and enabled and has not been sent since it became so
(R24, R633). -/
def State.msixSend (s : State) : State :=
  if s.host.up && s.host.cfg.msix then
    let act := vectorsOf (s.vact 6)
    let kept := s.host.msix.filter (fun v => act.contains v)
    { s with host := { s.host with msix := kept ++ act.filter (fun v => !kept.contains v) } }
  else s

/-! ### The frames of a command -/

/-- A command whose event needs the main domain at work: time passes, and the effect happens while the main domain is out
of reset and no shutdown sequence runs.  Otherwise the event does not occur (R599, R600, assumption 2).  Whatever vectors of
P6 the effect makes pending and enabled go out to the host (R24). -/
def onMain (dt : Nat) (s : State) (f : State → State) : Host.Outcome State Fault Refusal :=
  .next (if (s.elapse dt).sys.on && (s.elapse dt).sys.down.isNone then (f (s.elapse dt)).msixSend else s.elapse dt)

/-- A command of a part that load shedding keeps running: the effect happens while the main domain is out of reset
(R600). -/
def onShed (dt : Nat) (s : State) (f : State → State) : Host.Outcome State Fault Refusal :=
  .next (if (s.elapse dt).sys.on then (f (s.elapse dt)).msixSend else s.elapse dt)

/-- A command of the standby domain or of a pin: time passes, then the effect happens. -/
def always (dt : Nat) (s : State) (f : State → State) : Host.Outcome State Fault Refusal :=
  .next (f (s.elapse dt)).msixSend

/-- A command that brings lists: one with lists that its event cannot carry is no occurrence, and only time passes
(assumption 97). -/
def guarded (ok : Bool) (dt : Nat) (s : State) (r : Host.Outcome State Fault Refusal) : Host.Outcome State Fault Refusal :=
  if ok then r else .next (s.elapse dt)

end Sys2Proof.Machine
end

