-- ==== Sys2Proof/Machine/Ten.lean ====
section
/-! DEFINITION. TEN and the common page header: plain register writes, ownership, locks, grants, the arming and the
discarding of commits, the wide pairs, HOSTLINK and the reset request (R32 to R63). -/
namespace Sys2Proof.Machine

/-! ### Commit state of a page -/

/-- The pending-commit record of a page. -/
def State.pend (s : State) (p : Nat) : Pend := tabGet {} s.ten.pend p

/-- Replace the pending-commit record of a page. -/
def State.setPend (s : State) (p : Nat) (c : Pend) : State :=
  { s with ten := { s.ten with pend := tabSet {} s.ten.pend p c } }

/-- CMTSTAT.STATE of a page is PENDING. -/
def State.isPending (s : State) (p : Nat) : Bool := s.fld (hCmtstat p) 1 0 == 1

/-- Set STATE, REASON and TABLE of CMTSTAT; TAG stays (R51). -/
def State.setCmtstat (s : State) (p st reason table : Nat) : State :=
  s.putFld (hCmtstat p) 15 0 (table % 256 * 256 + reason % 16 * 16 + st % 4)

/-- REASON codes of R51. -/
abbrev rTable : Nat := 1
abbrev rRange : Nat := 2
abbrev rGroup : Nat := 3
abbrev rOwner : Nat := 4
abbrev rAborted : Nat := 5

/-- Does a change of the program wait on page `p`?  Its CMTSTAT shows PENDING beside a page commit (R212, assumption 117). -/
def State.chgPends (s : State) (p : Nat) : Bool :=
  decide (0x030 ≤ p) && decide (p ≤ 0x035) && s.fld (hStat p) 2 0 == 4 && (tabGet {} s.cyc.p (p - 0x030)).old.isNone

/-- CMTSTAT after the commit of a page has come to an end. -/
def State.endCmtstat (s : State) (p st reason table : Nat) : State :=
  s.setCmtstat p (if s.chgPends p then 1 else st) reason table

/-- Discard a pending commit with a reason; the shadows take their active values (R52, R58). -/
def State.discard (s : State) (p reason : Nat) : State :=
  ((s.dropShadows p).setPend p {}).endCmtstat p 0 reason 0

/-- Discard the pending commit of a page if there is one. -/
def State.discardPending (s : State) (p reason : Nat) : State :=
  if s.isPending p then s.discard p reason else s

/-- Is the triad of a page's owner HALTED?  It keeps its pending commits pending until its reset (R58). -/
def State.ownerHalted (s : State) (p : Nat) : Bool := (s.owner p).any (fun n => decide (n < 6) && s.pstate n == psHalted)

/-- The boundary of a pending commit has come: t0 is this tick, unless GO was accepted in this very tick (R53) or the owner's
triad is HALTED (R58). -/
def State.markBoundary (s : State) (p : Nat) : State :=
  let c := s.pend p
  if c.armed ∧ c.t0 = none ∧ c.goTick < s.ticks ∧ s.ownerHalted p = false then s.setPend p { c with t0 := some s.ticks } else s

/-- The pages with an armed commit, in ascending order. -/
def State.armedPages (s : State) : List Nat := (s.ten.pend.filter (fun e => e.2.armed)).map (·.1)

/-- Mark the boundary of every armed page that a test selects. -/
def State.markPages (s : State) (sel : Nat → Pend → Bool) : State :=
  forL s.armedPages (fun p t => if sel p (t.pend p) then t.markBoundary p else t) s

/-- Discard, with REASON ABORTED, every pending commit of a mode on pages that partition `n` owns (R53). -/
def State.abortMode (s : State) (n mode : Nat) : State :=
  forL s.armedPages (fun p t => if t.owns n p && (t.pend p).mode == mode then t.discardPending p rAborted else t) s

/-! ### The check of a commit (R54, R55) -/

/-- What a block's check of the configuration in the shadows answers: nothing wrong, a table exceeded, a value out of
range, or a range refusal that also records a block error code. -/
inductive Verdict where
  | ok
  | table (code : Nat)
  | range
  | coded (code : Nat)
  /-- As `coded`, with its own ERRADDR. -/
  | codedAt (code addr : Nat)
  /-- As `coded`, where the manual does not say which address ERRADDR names. -/
  | codedOpen (code : Nat)
deriving DecidableEq, Repr

/-- Tables are reported before ranges (R55). -/
def firstVerdict (a b : Verdict) : Verdict :=
  match a, b with
  | .table c, _ => .table c
  | _, .table c => .table c
  | .ok, v => v
  | v, _ => v

/-- Refuse for range when a condition fails. -/
def rangeIf (good : Bool) : Verdict := if good then .ok else .range

/-- Is a number within two bounds? -/
def within (lo hi n : Nat) : Bool := decide (lo ≤ n) && decide (n ≤ hi)

/-- A register as the commit of the pages `g` would leave it: the shadow on those pages, the active value elsewhere. -/
def State.eff (s : State) (g : List Nat) (x : Nat) : Nat := if g.contains (x / 4096) then s.sh x else s.rd x

/-- A pair as the commit of the pages `g` would leave it. -/
def State.eff64 (s : State) (g : List Nat) (x : Nat) : Nat := s.eff g x + 2 ^ 32 * s.eff g (x + 4)

/-! ### Plain writes -/

/-- Registers whose write is a command of its own in the table. -/
def ownRow (p o : Nat) : Bool :=
  o == 0x008 || o == 0x024 || o == 0xFFC ||
  (p == 0x009 && decide (0x040 ≤ o)) || (p == 0x00A && decide (0x040 ≤ o)) ||
  ((p == 0x0B5 || p == 0x0B9) && (o == 0x04C || o == 0x06C || o == 0x0A0)) ||
  (decide (0x0D4 ≤ p) && decide (p ≤ 0x0D7) && o == 0x0E0)

/-- Registers that are writable only under a condition of their chapter: PROGCRC only while the engine is OFF, GRPCRCg
only while its group is unsealed (R299), EVEN of page 0x008 never (R37). -/
def State.rwOpen (s : State) (p o : Nat) : Bool :=
  if p = 0x075 ∧ o = 0x040 then s.fld (hStat 0x068) 1 0 == 0
  else if p = 0x075 ∧ 0x050 ≤ o ∧ o < 0x060 then !s.bit R.PRE_GRPSEAL ((o - 0x050) / 4)
  else if p = 0x008 ∧ o = 0x01C then false
  else true

/-- A write of CMT without GO and without ABORT: TAG, VIEW, AXIS and MODE; while a commit is pending every bit but
ABORT is refused with SHADOW_BUSY (R50, R52). -/
def State.cmtFields (s : State) (v : Nat) (p : Nat) : State :=
  s.wr (hCmt p) (nf v 31 16 * 65536 + nf v 10 10 * 1024 + nf v 6 4 * 16 + nf v 1 0)

/-- Commands that an active output map feeds: writes of DOCMD and DUTY of an output group (R358) and of the setpoint of a
loop output (R402) are ignored with MAPPED. -/
def State.mappedAt (s : State) (p o : Nat) : Bool :=
  (decide (0x093 ≤ p) && decide (p ≤ 0x096) && s.bit (hStat p) 7 &&
    (o == 0x044 || (decide (0x080 ≤ o) && decide (o < 0x0A0)))) ||
  (p == 0x09E && decide (0x040 ≤ o) && decide (o < 0x140) && (o - 0x040) % 0x20 == 4 &&
    s.bit (R.LOOP_LOSTAT ((o - 0x040) / 0x20)) 6)

/-- Registers of page `p` that the variant lacks: sampling of the other kind (R589), and all but the header on the PMC
pages of triads it does not provide (R581).  They read 0 and ignore writes. -/
def State.absentReg (s : State) (p o : Nat) : Bool :=
  decide (0x0D4 ≤ p) && decide (p ≤ 0x0D7) &&
  (if s.hasTriad 2 then decide (0x200 ≤ o) && decide (o < 0x240)
   else if p < 0x0D6 then decide (0x180 ≤ o) && decide (o < 0x1C0)
   else decide (0x010 ≤ o) && o != 0x018 && o != 0x01C && !(decide (0x024 ≤ o) && decide (o ≤ 0x038)))

/-- The bytes that the window of a kind of partition `n` holds; 0 without a window. -/
def State.winSize (s : State) (n kind : Nat) : Nat :=
  match s.windowOf n kind with
  | some w => s.wSize w
  | none => 0

/-- May an image size be `v` bytes, with `top` bytes to hold it (R221)? -/
def sizeOk (top v : Nat) : Bool := within 64 65536 v && v % 64 == 0 && decide (v ≤ top)

/-- May a lockable register hold `v`: INSIZE, OUTSIZE and DSCR of a CYC page have ranges (R221)? -/
def State.rwlOk (s : State) (x v : Nat) : Bool :=
  (List.range 6).all (fun n =>
    if x = R.CYC_INSIZE n then sizeOk (s.winSize n kSnapshot - 64) v
    else if x = R.CYC_OUTSIZE n then sizeOk (s.winSize n kOutimg) v
    else if x = R.CYC_DSCR n then within 1 12 v
    else true)

/-- The effect of a permitted write on a register without a behaviour of its own (R8, R41, R43). -/
def State.plainWrite (s : State) (n p o v : Nat) : State :=
  let x := reg p o
  if ownRow p o || !s.allocated p || s.absentReg p o then s
  else match rowOf x with
  | none => s
  | some r =>
    let m := r.maskAt o
    if o = 0x030 then
      if s.isPending p && v != 0 then s.err p n eShadowBusy x
      else if nb v 8 || nb v 9 then s else s.cmtFields v p
    else if o = 0x00C then
      if s.bit (hLock p) 0 || nb v 0 then s else s.putFld (hLock p) 31 16 (nf v 31 16)
    else match r.acc with
    | .ro => s
    | .wo => s
    | .rc => s
    | .w1c => s.wr x (s.rd x - (s.rd x &&& v))
    | .rw => if s.rwOpen p o then s.wr x (v &&& m) else s
    | .rws =>
      if s.isPending p then s.err p n eShadowBusy x
      else if s.mappedAt p o then s.err p n 0x0101 x
      else s.setShadow x (v &&& m)
    | .rwl =>
      if s.bit (hLock p) 0 then s.err p n eLocked x
      else if s.rwlOk x (v &&& m) then s.wr x (v &&& m) else s.err p n eBadValue x

/-- Is the register one half of a pair of R60? -/
def isWide (x : Nat) : Bool :=
  match rowOf x with
  | some r => r.wide
  | none => false

/-! ### Ownership, grants and the lock -/

/-- May partition `n` own page `p`, by its kind (R27, R44) and by the page's own chapter? -/
def State.canOwn (s : State) (n p : Nat) : Bool :=
  s.present n &&
  (if 0x030 ≤ p ∧ p ≤ 0x035 then n == p - 0x030
   else if 0x036 ≤ p ∧ p ≤ 0x037 then false
   else if 0x028 ≤ p ∧ p ≤ 0x02B then decide (n < 6)
   else if p = 0x0CE ∨ p = 0x0CF then n == 7
   else if 0x060 ≤ p ∧ p ≤ 0x07F then s.voted n
   else if 0x098 ≤ p ∧ p ≤ 0x09B then s.voted n
   else if p = 0x053 ∨ p = 0x001 ∨ p = 0x002 ∨ p = 0x0D0 ∨ p = 0x0D1 then s.voted n
   else if 0x093 ≤ p ∧ p ≤ 0x096 then n != 7 && (s.fld (R.DO_SAFEMASK (p - 0x093)) 7 0 == 0 || s.voted n)
   else if 0x080 ≤ p ∧ p ≤ 0x08F then n != 7
   else if 0x09C ≤ p ∧ p ≤ 0x0C7 then n != 7
   else if 0x0D4 ≤ p ∧ p ≤ 0x0D7 then
     n != 7 && s.hasTriad (p - 0x0D4) && !(decide (n < 6) && s.bit (R.CYC_CTRL n) 0)
   else true)

/-- Does a write of this page's OWNER mean anything: it is not fixed and not governed by another page (R44)? -/
def ownerFree (p : Nat) : Bool :=
  ctlPage p == p && !(decide (0x008 ≤ p) && decide (p ≤ 0x013)) && p != 0x0CE && p != 0x0CF

/-- The pages that a page's ownership governs, itself included. -/
def governed (p : Nat) : List Nat := (List.range 512).filter (fun q => ctlPage q == p && (blockOf q).isSome)

/-- Put a new entry into the ownership table.  A change clears EVEN, discards a pending commit with REASON OWNER and
drops the shadows, on every page that the entry governs (R48, R58). -/
def State.setOwner (s : State) (p m : Nat) : State :=
  if s.ownEntry p = m then s
  else
    forL (governed p) (fun q t => ((t.discardPending q rOwner).dropShadows q).wr (hEven q) 0)
      (s.putFld (R.TEN_OWN (p / 4)) (8 * (p % 4) + 7) (8 * (p % 4)) m)

/-- Is a page pinned: an active CYC map of a partition names it (R201), or it is the output group page of a channel
that a safety function names while SFN is enabled (R380)? -/
def State.pinned (s : State) (p : Nat) : Bool :=
  s.cyc.pinned.any (fun e => e.2.contains p) ||
  (decide (0x093 ≤ p) && decide (p ≤ 0x096) && s.bit R.SFN_CTRL 0 &&
    (List.range 16).any (fun f => nf (s.rd (R.SFN_FOUT (f / 8) (f % 8))) (8 * (p - 0x093) + 7) (8 * (p - 0x093)) != 0))

/-- Judge one ownership entry under R44: a locked page records LOCKED, a value that names more than one partition or one
that cannot own the page records BAD_VALUE, and any other value is taken.  `x` is the address recorded. -/
def State.tryOwner (s : State) (n p m x : Nat) : State :=
  if s.bit (hLock p) 0 || s.pinned p then s.err p n eLocked x
  else if 1 < popcount 8 m then s.err p n eBadValue x
  else match lowestBit 8 m with
  | some k => if s.canOwn k p then s.setOwner p m else s.err p n eBadValue x
  | none => s.setOwner p 0

/-- The four pages of word `k` of a TEN table, with the byte of each. -/
def wordPages (k v : Nat) : List (Nat × Nat) :=
  (List.range 4).map (fun j => (4 * k + j, nf v (8 * j + 7) (8 * j)))

/-- May the initiator write word `k` of a TEN table: the start sequence, or the owner of one of its pages (R61, R62)? -/
def State.mayTable (s : State) (who : Init) (k : Nat) : Bool :=
  who == .boot || (match s.partOf who with
    | some n => !s.inDsec n && (List.range 4).any (fun j => s.owns n (4 * k + j))
    | none => false)

/-- The bytes over which the lock digest of a page runs: every RWL register in ascending offset, OWNER included, each
as four bytes, least significant first (R47). -/
def State.lockBytes (s : State) (p : Nat) : List Nat :=
  let ofs := (pageRows p).flatMap (fun r => if r.acc = .rwl then r.offsets else [])
  (0x008 :: ofs.mergeSort).flatMap (fun o =>
    bytesOf 4 (if o = 0x008 then s.ownMask p else s.rd (reg p o)))

/-- LOCK_WRITE: a write with LOCKED = 1 takes DIGEST, computes the CRC-16 and locks the page on a match (R46, R47). -/
def execLockWrite (dt : Nat) (who : Init) (p : Fin 512) (v : Word) (s : State) : Host.Outcome State Fault Refusal :=
  onMain dt s fun s => s.cmdW who p.val 0x00C fun n s =>
    if !nb v.toNat 0 || s.bit (hLock p.val) 0 || !s.allocated p.val then s
    else
      let dig := nf v.toNat 31 16
      if crc16 (s.lockBytes p.val) = dig then s.wr (hLock p.val) (dig * 65536 + 1)
      else (s.wr (hLock p.val) (dig * 65536 + 2)).err p.val n eDigest (hLock p.val)

/-! ### Events and errors -/

/-- The EVRAW bits of a page whose condition is a level that is present now: the attention lines that are low and enabled
(R499). -/
def State.evStands (s : State) (p : Nat) : Nat :=
  if p = 0x0C4 then (s.fld R.HRB_ATNLEV 7 0 &&& s.fld R.HRB_ATNEN 7 0) * 256 else 0

/-- EVACK_WRITE: the named EVRAW bits clear, but for those whose condition persists or comes again in the same tick,
`again` (R48, assumption 18). -/
def execEvackWrite (dt : Nat) (who : Init) (p : Fin 512) (v again : Word) (s : State) :
    Host.Outcome State Fault Refusal :=
  onMain dt s fun s => s.cmdW who p.val 0x024 fun _ s =>
    if s.allocated p.val then
      s.regSet (hEvraw p.val) (s.regGet (hEvraw p.val) &&& ~~~(v &&& ~~~(again ||| BitVec.ofNat 32 (s.evStands p.val))))
    else s

/-- ERRCLR_WRITE: 0x0000_0001 clears ERRCODE and ERRADDR (R41). -/
def execErrclrWrite (dt : Nat) (who : Init) (p : Fin 512) (v : Word) (s : State) : Host.Outcome State Fault Refusal :=
  onMain dt s fun s => s.cmdW who p.val 0xFFC fun _ => onOne v fun s =>
    if s.allocated p.val then s.zero [hErrcode p.val, hErraddr p.val] else s

/-- DENYPOP: the oldest entry of the access-fault FIFO, 0 when it is empty (R63). -/
def execDenypop (dt : Nat) (who : Init) (s : State) : Host.Outcome State Fault Refusal :=
  onMain dt s fun s => s.cmdR who 0x00B 0xC00 fun _ s =>
    match s.ten.deny with
    | [] => { s with resp := .data 0 }
    | e :: t => { s with resp := .data e, ten := { s.ten with deny := t } }

/-! ### Commits: arming and aborting -/

/-- STATE of the CYC page of partition `n` (R189). -/
def State.cycState (s : State) (n : Nat) : Nat := s.fld (hStat (0x030 + n)) 2 0

/-- Does the cycle of partition `n` run: RUNNING or CHANGING? -/
def State.cycRunning (s : State) (n : Nat) : Bool := s.cycState n == 3 || s.cycState n == 4

/-- Does the CYC page of partition `n` count as running under R189: STARTING, RUNNING or CHANGING? -/
def State.cycOn (s : State) (n : Nat) : Bool := s.cycState n == 2 || s.cycRunning n

/-- Is GO refused with REASON RANGE under the exceptions of R53? -/
def State.goRange (s : State) (p mode : Nat) : Bool :=
  match s.owner p with
  | some n =>
    (mode == 1 && (decide (6 ≤ n) || !s.cycOn n)) ||
    (mode == 3 && (decide (6 ≤ n) || s.cycState n == 0))
  | none => mode == 1 || mode == 3

/-- CMT_GO: arm a commit at the boundary that MODE selects, or refuse it (R52, R53). -/
def execCmtGo (dt : Nat) (who : Init) (p : Fin 512) (v : Word) (s : State) : Host.Outcome State Fault Refusal :=
  onMain dt s fun s => s.cmdW who p.val 0x030 fun n s =>
    let m := nf v.toNat 1 0
    if !nb v.toNat 8 || nb v.toNat 9 || !s.allocated p.val then s
    else if s.isPending p.val then s.err p.val n eShadowBusy (hCmt p.val)
    else if s.goRange p.val m then (s.cmtFields v.toNat p.val).setCmtstat p.val 3 rRange 0
    else
      (((s.cmtFields v.toNat p.val).putFld (hCmtstat p.val) 31 16 (nf v.toNat 31 16)).setCmtstat p.val 1 0 0).setPend
        p.val
        { armed := true, goTick := s.ticks, mode := m, axis := nf v.toNat 6 4
          t0 := if m = 0 then some s.ticks else none }

/-- CMT_ABORT: discard the shadows and any pending commit; with none pending the write also sets TAG, VIEW, AXIS and
MODE and arms nothing (R52). -/
def execCmtAbort (dt : Nat) (who : Init) (p : Fin 512) (v : Word) (s : State) : Host.Outcome State Fault Refusal :=
  onMain dt s fun s => s.cmdW who p.val 0x030 fun n s =>
    if !nb v.toNat 9 || !s.allocated p.val then s
    else if s.isPending p.val then
      if v.toNat = 0x200 then s.discard p.val rAborted else s.err p.val n eShadowBusy (hCmt p.val)
    else (s.discard p.val rAborted).cmtFields v.toNat p.val

/-! ### Wide pairs: writes (R60) -/

/-- The key of a holding register: initiator and page. -/
def wideKey (who : Init) (p : Nat) : Nat := initCode who * 512 + p

/-- Is the word at `x` the LO half of a pair? -/
def isLo (x : Nat) : Bool :=
  match rowOf x with
  | some r => r.wide && !r.isHi (x % 4096)
  | none => false

/-- WIDE_LO_WRITE: the low half is held for the HI write of the same pair.  One LO is held for each initiator and page: that
of another pair takes the place of one already held (DESIGN CHOICE, assumption 98). -/
def execWideLoWrite (dt : Nat) (who : Init) (p : Fin 512) (w : Fin 1024) (v : Word) (s : State) :
    Host.Outcome State Fault Refusal :=
  onMain dt s fun s => s.cmdW who p.val (4 * w.val) fun n s =>
    let x := reg p.val (4 * w.val)
    match rowOf x with
    | none => s
    | some r =>
      if !isLo x || r.acc = .ro || !s.allocated p.val then s
      else if r.acc = .rws ∧ s.isPending p.val then s.err p.val n eShadowBusy x
      else { s with ten := { s.ten with wideWr := tabSet (0, 0) s.ten.wideWr (wideKey who p.val) (x + 1, v.toNat) } }

/-- WIDE_HI_WRITE: all 64 bits of the pair in one tick, or BAD_VALUE when no LO write of that pair is held. -/
def execWideHiWrite (dt : Nat) (who : Init) (p : Fin 512) (w : Fin 1024) (v : Word) (s : State) :
    Host.Outcome State Fault Refusal :=
  onMain dt s fun s => s.cmdW who p.val (4 * w.val) fun n s =>
    let x := reg p.val (4 * w.val)
    match rowOf x with
    | none => s
    | some r =>
      if !r.isHi (x % 4096) || r.acc = .ro || !s.allocated p.val then s
      else if r.acc = .rws ∧ s.isPending p.val then s.err p.val n eShadowBusy x
      else
        let h := tabGet (0, 0) s.ten.wideWr (wideKey who p.val)
        if h.1 ≠ x - 4 + 1 then s.err p.val n eBadValue x
        else
          let s := { s with ten := { s.ten with wideWr := tabSet (0, 0) s.ten.wideWr (wideKey who p.val) (0, 0) } }
          (s.plainWrite n p.val (4 * w.val - 4) h.2).plainWrite n p.val (4 * w.val) v.toNat

/-! ### HOSTLINK -/

/-- What the host has configured, now or before. -/
def joinCfg (a b : HostCfg) : HostCfg := { bars := a.bars || b.bars, msix := a.msix || b.msix }

/-- HOSTLINK_DOWN: P6 keeps its ownerships and pages, and PSTATE shows LINKDOWN (R32). -/
def execHostlinkDown (dt : Nat) (s : State) : Host.Outcome State Fault Refusal :=
  onMain dt s fun s =>
    if s.host.up then { s with host := { s.host with up := false } }.setPstate 6 psLinkdown else s

/-- HOSTLINK_UP: P6 resumes; the host has assigned the BARs and enabled MSI-X where `c` says so, or before a loss that left
the function configured (DESIGN CHOICE, assumption 153), and pending events go out in vector order (R32, R33). -/
def execHostlinkUp (dt : Nat) (c : HostCfg) (s : State) : Host.Outcome State Fault Refusal :=
  onMain dt s fun s =>
    if s.present 6 && !s.host.perst && !s.host.up then
      ({ s with host := { s.host with up := true, cfg := joinCfg s.host.cfg c, msix := [] } }.setPstate 6 psRunning)
    else s

/-- PERST_ASSERT: the endpoint is reset, the link is down, unsent messages are withdrawn, and the configuration space, the BAR
assignments and the MSI-X table return to their reset values; ignored with HOSTCFG[0] = 0 (R33). -/
def execPerstAssert (dt : Nat) (s : State) : Host.Outcome State Fault Refusal :=
  onMain dt s fun s =>
    if s.present 6 then
      { s with host := { up := false, perst := true, cfg := {}, msix := [] } }.setPstate 6 psLinkdown
    else s

/-- PERST_RELEASE: link training may start again (R33). -/
def execPerstRelease (dt : Nat) (s : State) : Host.Outcome State Fault Refusal :=
  onMain dt s fun s => if s.present 6 then { s with host := { s.host with perst := false } } else s

/-! ### The reset request -/

/-- Note an accepted reset request of partition `n` (R31). -/
def State.askReset (s : State) (n : Nat) : State :=
  { s with ten := { s.ten with resetReq := tabSet 0 s.ten.resetReq n (s.ticks + 1) } }

/-- PRESET_WRITE: Pn asks for its own reset; any other write is ignored and recorded (R38). -/
def execPresetWrite (dt : Nat) (who : Init) (v : Word) (s : State) : Host.Outcome State Fault Refusal :=
  onMain dt s fun s => s.cmdW who 0x008 0xC00 fun n s =>
    let t := nf v.toNat 2 0
    if nf v.toNat 31 16 ≠ 0xA5C3 then s.err 0x008 n eBadKey R.TEN_PRESET
    else if nf v.toNat 15 3 ≠ 0 ∨ !s.present t ∨ t ≠ n then s.err 0x008 n eBadValue R.TEN_PRESET
    else s.askReset t

end Sys2Proof.Machine
end

