-- ==== Sys2Proof/WellFormed.lean ====
section
/-! DEFINITION. What a command must satisfy to be one that its event can carry: the lengths of the lists it brings.
Every other bound is a plain fact about one operand and stands in its type. -/
namespace Sys2Proof

/-- The well-formed commands. -/
def Instr.wf : Instr → Bool
  | .clockFault _ _ => true
  | .clockRestart _ => true
  | .laneMemoryAccess _ _ _ _ _ _ _ _ => true
  | .registerWrite _ _ _ _ _ => true
  | .hostlinkDown _ => true
  | .hostlinkUp _ _ => true
  | .perstAssert _ => true
  | .perstRelease _ => true
  | .presetWrite _ _ _ => true
  | .partitionReset _ _ _ _ => true
  | .ownerWrite _ _ _ _ => true
  | .lockWrite _ _ _ _ => true
  | .evackWrite _ _ _ _ _ => true
  | .errclrWrite _ _ _ _ => true
  | .cmtGo _ _ _ _ => true
  | .cmtAbort _ _ _ _ => true
  | .pageCommitApply _ _ => true
  | .ownkWrite _ _ _ _ => true
  | .grantkWrite _ _ _ _ => true
  | .denypop _ _ => true
  | .wideLoRead _ _ _ _ => true
  | .wideLoWrite _ _ _ _ _ => true
  | .wideHiWrite _ _ _ _ _ => true
  | .axisMeasurement _ x _ => match x with
    | .mains _ w => decide (w.length ≤ 3)
    | .encoder _ _ => true
  | .axisAcquired _ _ _ => true
  | .axisLoss _ _ => true
  | .axisHoldRecover _ _ => true
  | .axisHoldExpired _ _ => true
  | .axisFrozenRecover _ _ => true
  | .axisTick _ _ => true
  | .scheduleEntryFire _ _ => true
  | .hiddenTargetMissed _ _ => true
  | .encoderLineFault _ _ _ => true
  | .encoderZPulse _ _ _ _ => true
  | .ssiFrame _ _ _ _ => true
  | .fixgo _ _ _ _ => true
  | .axisCapture _ _ _ _ => true
  | .seclr _ _ _ => true
  | .fireflyStrobe _ _ => true
  | .fireflyPps _ _ => true
  | .fireflyPulseEnd _ _ => true
  | .fireflyReadback _ _ _ => true
  | .scarabSelftest _ _ _ _ => true
  | .stnow _ _ _ _ => true
  | .stateAudit _ _ _ => true
  | .interruptArrival _ _ _ _ _ => true
  | .interruptTaken _ _ _ => true
  | .reintegration _ _ _ => true
  | .lanecmdFence _ _ _ _ => true
  | .nvSnap _ _ _ gap _ => decide (gap.x.length = 31) && decide (gap.f.length = 32)
  | .nvCommit _ _ _ _ _ => true
  | .nvAbort _ _ _ _ _ => true
  | .nvDstat _ _ _ _ => true
  | .nvRbase _ _ _ _ => true
  | .nvRmark _ _ _ _ _ => true
  | .nvRstat _ _ _ _ => true
  | .laneUncorrectableError _ _ _ _ _ => true
  | .laneCorrectableError _ _ _ => true
  | .laneScrub _ _ _ => true
  | .dramScrub _ _ => true
  | .dramTempPoll _ _ _ => true
  | .ceWindowEnd _ => true
  | .memCntclr _ _ _ => true
  | .elnext _ _ _ => true
  | .startCold _ _ _ _ => true
  | .startWarm _ _ _ _ => true
  | .stop _ _ _ _ => true
  | .chgload _ _ _ _ => true
  | .loaddone _ _ _ => true
  | .chgarm _ _ _ _ => true
  | .chgabort _ _ _ _ => true
  | .groupcmt _ _ _ _ => true
  | .cycStartComplete _ _ => true
  | .snapshotInstant _ _ => true
  | .snapshotDelivery _ _ => true
  | .commitComplete _ _ _ => true
  | .watchdogExpiry _ _ => true
  | .retainedSave _ _ _ => true
  | .changeApply _ _ => true
  | .cycCntclr _ _ _ _ => true
  | .gridTick _ => true
  | .sampleSetDelivery _ x => decide (x.length ≤ 24)
  | .modulatorFault _ _ _ => true
  | .settled _ _ => true
  | .livegrab _ _ _ => true
  | .xclr _ _ _ _ => true
  | .padCapgo _ _ _ => true
  | .capdone _ _ _ => true
  | .engineTick _ _ => true
  | .tripPulseStart _ _ => true
  | .tripPulseEnd _ _ _ => true
  | .closePulseStart _ _ => true
  | .closePulseEnd _ _ _ => true
  | .tcsflt _ _ _ => true
  | .drvflt _ _ _ => true
  | .tfail _ _ => true
  | .breakerCurrentLow _ _ => true
  | .grpcmdSeal _ _ _ => true
  | .groupSealDone _ => true
  | .grpcmdUnseal _ _ _ => true
  | .outtest _ _ _ => true
  | .preCntclr _ _ _ => true
  | .preOutCntclr _ _ _ => true
  | .wearclr _ _ _ => true
  | .mlcmd _ _ _ => true
  | .preMemoryWrite _ _ _ b => decide (b.length = 1) || decide (b.length = 2) || decide (b.length = 4) || decide (b.length = 8)
  | .preMemoryUe _ _ => true
  | .drcTrigger _ => true
  | .trgnow _ _ _ => true
  | .archiveCopyStart _ => true
  | .archdone _ => true
  | .archIo _ => true
  | .arcmdProtect _ _ _ => true
  | .arcmdUnprotect _ _ _ => true
  | .arcmdDelete _ _ _ => true
  | .arcmdRelease _ _ _ => true
  | .arcmdRetry _ _ _ => true
  | .expcmdCfg _ _ _ => true
  | .expcmdHdr _ _ _ => true
  | .expcmdDat _ _ _ => true
  | .expdone _ => true
  | .drcCntclr _ _ _ => true
  | .sarTrigger _ _ => true
  | .seqcmdGo _ _ _ _ => true
  | .seqcmdStop _ _ _ _ => true
  | .sarConversion _ _ _ => true
  | .convreq _ _ _ _ => true
  | .sarReady _ _ => true
  | .sarFallback _ _ => true
  | .sarFallbackPass _ _ => true
  | .chkclr _ _ _ _ => true
  | .sarCntclr _ _ _ _ => true
  | .diRawEdge _ _ _ _ => true
  | .diEdgeAccept _ _ => true
  | .eqpop _ _ _ => true
  | .ovld _ _ => true
  | .doOpenLoad _ _ _ _ => true
  | .pwmPeriodStart _ _ => true
  | .pwmOffEdge _ _ => true
  | .rbflt _ _ _ => true
  | .stuckLatch _ _ => true
  | .testPulseStart _ _ => true
  | .testPulseEnd _ _ _ => true
  | .fswarn _ _ => true
  | .fswarnClear _ _ => true
  | .fslowLatch _ _ => true
  | .fsok _ _ => true
  | .dioFltclr _ _ _ _ _ => true
  | .logclr _ _ _ => true
  | .sfnEvaluation _ _ _ _ => true
  | .discrep _ _ => true
  | .twohandTimeout _ _ => true
  | .edmFault _ _ => true
  | .rststuck _ _ => true
  | .sfnFltclr _ _ _ => true
  | .loopScan _ x _ => decide (x.length = 16) && x.all (fun c => decide (c.length = 4))
  | .compl _ _ => true
  | .loopOpen _ _ => true
  | .rbhigh _ _ => true
  | .prot _ _ => true
  | .limiterReclose _ _ => true
  | .miswire _ _ => true
  | .loopFltclr _ _ _ _ => true
  | .loopCntclr _ _ _ => true
  | .canIntegrated _ _ => true
  | .canFrameReceived _ _ f _ _ => decide (f.data.length = if f.rtr then 0 else canLen f.fdf f.dlc.val)
  | .canError _ _ _ _ _ _ => true
  | .busoffRecovery _ _ => true
  | .cancmdRecover _ _ _ _ => true
  | .txcmdSend _ _ _ _ => true
  | .txcmdCancel _ _ _ _ => true
  | .txcmdLoad _ _ _ _ => true
  | .canTxTimer _ _ _ => true
  | .canTxStart _ _ _ => true
  | .canArbitrationLost _ _ => true
  | .canTxComplete _ _ => true
  | .txtspop _ _ _ => true
  | .rxqrel _ _ _ _ => true
  | .canWake _ _ _ => true
  | .ttReferenceAttempt _ _ _ _ => true
  | .ttTrigger _ _ _ _ _ => true
  | .ttReferenceReceived _ _ _ _ => true
  | .ttWatchExpiry _ _ => true
  | .canCntclr _ _ _ _ => true
  | .ofsgo _ _ _ => true
  | .syncinPulse _ _ => true
  | .syncinMissing _ => true
  | .timeStep _ => true
  | .holdover _ => true
  | .tmbCapgo _ _ _ => true
  | .restep _ _ _ => true
  | .leapSecond _ => true
  | .ethFrameReceived _ _ f _ _ => decide (14 ≤ f.data.length)
  | .ethLinkChange _ _ _ _ => true
  | .txtailWrite _ _ _ _ => true
  | .rxtailWrite _ _ _ _ => true
  | .ethTxComplete _ _ => true
  | .ringerrClear _ _ _ _ => true
  | .ethLaunch _ _ _ => true
  | .gateListEntry _ _ => true
  | .gateListSwitch _ _ => true
  | .fdbAgeOut _ => true
  | .prpLanMissing _ _ => true
  | .prpEntryExpiry _ => true
  | .pdTxLaunch _ _ => true
  | .pdRxTimeout _ _ => true
  | .tspop _ _ => true
  | .gwySignalWrite _ _ _ _ => true
  | .gwyStale _ _ => true
  | .gwyCntclr _ _ _ => true
  | .hrbWindowAccess _ _ _ _ _ _ => true
  | .hrbCycleStart _ _ => true
  | .hrbCardReply _ _ _ => true
  | .hrbCycleTimeout _ => true
  | .hrbResetEnd _ => true
  | .wackResume _ _ _ _ => true
  | .wackFlush _ _ _ _ => true
  | .pollReadDue _ _ => true
  | .atnAccept _ _ _ => true
  | .hrbCntclr _ _ _ => true
  | .evrFlush _ => true
  | .evrFlushDone _ _ => true
  | .evrFlushCmd _ _ _ => true
  | .rdgo _ _ _ => true
  | .evrReadDone _ => true
  | .swgo _ _ _ => true
  | .clrcmdArm _ _ _ => true
  | .clrcmdClear _ _ _ => true
  | .evrClearDone _ => true
  | .evrCntclr _ _ _ => true
  | .lifeSecond _ => true
  | .lifeSave _ _ => true
  | .cntcmdAdd _ _ _ => true
  | .cntcmdReset _ _ _ => true
  | .calendarDiscipline _ => true
  | .calgo _ _ _ => true
  | .calendarStop _ => true
  | .primInChange _ _ => true
  | .primacyClaim _ => true
  | .primacyHeld _ => true
  | .primacyConflict _ => true
  | .primcmdRelease _ _ _ => true
  | .primacyRelease _ => true
  | .heartbeatSend _ => true
  | .heartbeatReceived _ _ _ => true
  | .heartbeatTimeout _ => true
  | .checkpointSendDone _ _ => true
  | .checkpointReceived _ c _ => c.parts.all (fun p => decide (p.dig.length = 32)) && decide (c.axes.length = 8)
  | .standbyLaneTest _ _ => true
  | .mgtIdent _ _ => true
  | .mgtHealth _ _ => true
  | .mgtReadpage _ _ => true
  | .mgtReadevr _ _ => true
  | .mgtReadlife _ _ => true
  | .mgtNonce _ _ => true
  | .mgtReadmem _ _ _ => true
  | .mgtPreset _ _ => true
  | .mgtMreset _ _ => true
  | .mgtRecovery _ _ => true
  | .mgtEvrclear _ _ => true
  | .mgtPrimrel _ _ => true
  | .mgtWake _ _ => true
  | .mgtSetkey _ _ => true
  | .mgtClose _ _ => true
  | .mgtBadFrame _ _ => true
  | .mgtUnknownCmd _ _ _ => true
  | .authlockEnd _ => true
  | .resetHeld _ => true
  | .mgtCntclr _ _ _ => true
  | .updcmdOpen _ _ _ => true
  | .updcmdChunk _ _ _ => true
  | .chunkDone _ => true
  | .updcmdClose _ _ _ => true
  | .updcmdAbort _ _ _ => true
  | .updcmdAbortother _ _ _ => true
  | .verifyDone _ _ => true
  | .sessionTimeout _ => true
  | .tftpWriteStage _ _ _ => true
  | .tftpWriteAbort _ _ => true
  | .tftpReadStatus _ => true
  | .tftpData _ _ _ data => decide (data.length ≤ 1468)
  | .tftpError _ _ => true
  | .arpRequest _ _ _ _ => true
  | .actcmdSchedule _ _ _ => true
  | .actcmdNow _ _ _ => true
  | .actcmdCancel _ _ _ => true
  | .actcmdConfirm _ _ _ => true
  | .activationDue _ => true
  | .activationPostponed _ => true
  | .activationExpired _ => true
  | .updateReset _ => true
  | .counterOverflow _ _ _ => true
  | .ovfClear _ _ _ _ => true
  | .pmcSnap _ _ _ _ => true
  | .preciseCapture _ _ _ _ _ _ _ => true
  | .weevilRecord _ _ _ _ _ _ _ _ _ => true
  | .sbpop _ _ _ => true
  | .wvpop _ _ _ => true
  | .pmcCntclr _ _ _ _ => true
  | .poweron _ => true
  | .supplyUv _ => true
  | .supplyReturn _ => true
  | .supplyOv _ _ => true
  | .powerFailWarning _ _ => true
  | .shutdownComplete _ _ => true
  | .mainDomainStart _ b => decide (b.cfg.images.length = 6)
  | .bankok _ _ _ => true
  | .hufault _ _ => true
  | .supplyMeasure _ fs ts _ _ _ => decide (fs.length = 4) && decide (ts.length = 2)
  | .tripSupplyChange _ _ => true
  | .tempMeasure _ _ => true
  | .thermal _ => true
  | .rstinAssert _ _ => true
  | .rstinRelease _ => true
  | .syscmdMreset _ _ _ => true
  | .syscmdSleep _ _ _ => true
  | .fusecmdRevoke _ _ _ => true
  | .standbyDomainLoss _ => true
  | .ethFrameTransmitted _ _ _ => true
  | .testPulseFilterRelease _ _ => true
  | .clearArmExpiry _ => true

end Sys2Proof
end

