-- ==== Sys2Proof/Machine/Axs.lean ====
section
/-! DEFINITION. AXS: the reference axes, the schedule table and the Firefly outputs (R90 to R126). -/
namespace Sys2Proof.Machine

/-! ### Reading an axis -/

abbrev axUnconfigured : Nat := 0
abbrev axAcquiring : Nat := 1
abbrev axLocked : Nat := 2
abbrev axHold : Nat := 3
abbrev axFrozen : Nat := 4

def State.axis (s : State) (k : Nat) : Axis := tabGet {} s.axs.axis k
def State.setAxis (s : State) (k : Nat) (a : Axis) : State :=
  { s with axs := { s.axs with axis := tabSet {} s.axs.axis k a } }
def State.entry (s : State) (d : Nat) : Entry := tabGet {} s.axs.ent d
def State.setEntry (s : State) (d : Nat) (e : Entry) : State :=
  { s with axs := { s.axs with ent := tabSet {} s.axs.ent d e } }

/-- STATE, KIND and INST of axis `k`. -/
def State.axState (s : State) (k : Nat) : Nat := s.fld (R.AXS_STAT k) 2 0
def State.axKind (s : State) (k : Nat) : Nat := s.fld (R.AXS_SRC k) 2 0
def State.axInst (s : State) (k : Nat) : Nat := s.fld (R.AXS_SRC k) 5 4

/-- A periodic source: mains, incremental encoder or SSI (R90). -/
def periodicKind (kind : Nat) : Bool := kind == 1 || kind == 2 || kind == 3

def State.axPeriodic (s : State) (k : Nat) : Bool := periodicKind (s.axKind k)

/-- Does the axis deliver ticks and fire entries: LOCKED or HOLD? -/
def State.axLive (s : State) (k : Nat) : Bool := s.axState k == axLocked || s.axState k == axHold

/-- Now, or `ph` later, in 1.25 ns phases. -/
def State.phase (s : State) (ph : Nat) : Nat := 8 * s.ticks + ph % 8

/-- Module time at phase `x` as a Q32.32 number of microseconds (R91). -/
def State.usAt (s : State) (x : Nat) : Int :=
  ((s.mtime : Int) + ((x : Int) - 8 * s.ticks) * 5 * (2 ^ 48 + s.rate)) * 2 ^ 32 / (4000 * 2 ^ 48)

/-- The part of a fix applied at phase `x`: evenly over 10 ms (R103). -/
def slewPart (f : Int × Nat) (x : Nat) : Int := f.1 * (min 8000000 (x - f.2) : Nat) / 8000000

/-- The parts of several fixes. -/
def slewSum (l : List (Int × Nat)) (x : Nat) : Int := l.foldl (fun a f => a + slewPart f x) 0

/-- The position of an estimate at phase `x`: p + v * (t - t_k), and the part of fixes applied since, or module time
(R93, R103). -/
def State.estPos (s : State) (e : Est) (x : Nat) : Int :=
  if e.net then s.usAt x - e.p
  else e.p + e.v * ((x : Int) - e.t) / 800000000 + (slewSum e.slews x - slewSum e.slews e.t)

/-- The velocity of an estimate. -/
def State.estVel (s : State) (e : Est) : Int := if e.net then 1000000 * 2 ^ 32 * (2 ^ 48 + s.rate) / 2 ^ 48 else e.v

/-- The estimate in force at phase `x`: the newest that is not later. -/
def Axis.estAt (a : Axis) (x : Nat) : Est := (a.est.find? (fun e => decide (e.t ≤ x))).getD (a.est.getLast?.getD {})

/-- The estimate of axis `k` at the tick `back` ticks ago. -/
def State.axEst (s : State) (k back : Nat) : Est := (s.axis k).estAt (8 * (s.ticks - back))

/-- The unwrapped position of axis `k` at the tick `back` ticks ago. -/
def State.axPosBack (s : State) (k back : Nat) : Int := s.estPos (s.axEst k back) (8 * (s.ticks - back))

/-- The unwrapped position now. -/
def State.axPos (s : State) (k : Nat) : Int := s.axPosBack k 0

/-- The velocity now. -/
def State.axVel (s : State) (k : Nat) : Int := s.estVel (s.axEst k 0)

/-- Position and velocity at the last tick, as crossings see them: a step or an initialisation since that tick fires nothing,
so this tick then crosses nothing (R100, R101). -/
def State.axLast (s : State) (k : Nat) : Int × Int :=
  if (s.axis k).est.any (fun e => e.jump && decide (8 * (s.ticks - 1) < e.t) && decide (e.t ≤ 8 * s.ticks)) then
    (s.axPos k, s.axVel k)
  else (s.axPosBack k 1, s.estVel (s.axEst k 1))

/-- The error of a measurement, wrapped to [-0.5, 0.5) on a periodic axis (R93). -/
def wrapErr (periodic : Bool) (e : Int) : Int :=
  if periodic then (e + 2 ^ 31) % 2 ^ 32 - 2 ^ 31 else (e + 2 ^ 63) % 2 ^ 64 - 2 ^ 63

/-- Ticks for which estimates are held for a snapshot that is taken late (assumption 122). -/
abbrev estTicks : Nat := 100000000

/-- The estimates that a snapshot may still need, with a new one in front. -/
def State.estPush (s : State) (l : List Est) (e : Est) : List Est :=
  let new := l.filter (fun x => decide (8 * s.ticks < x.t + 8 * estTicks))
  e :: (new ++ ((l.drop new.length).take 1))

/-- The estimates follow a change of STAT: the one in force goes on with the new STAT from this tick (R115). -/
def State.axNote (s : State) (k : Nat) : State :=
  let a := s.axis k
  let e := a.est.headD {}
  let st := s.rd (R.AXS_STAT k)
  let x := 8 * s.ticks
  if e.stat = st then s
  else if x ≤ e.t then s.setAxis k { a with est := { e with stat := st } :: a.est.drop 1 }
  else
    let e' := { e with t := x, p := if e.net then e.p else s.estPos e x, jump := false, stat := st }
    s.setAxis k { a with est := s.estPush a.est e' }

/-- Set or clear a bit of STAT. -/
def State.axBit (s : State) (k i : Nat) (b : Bool) : State := (s.putBit (R.AXS_STAT k) i b).axNote k

/-- Change STATE; a change raises the axis event, after STAT shows it (R95). -/
def State.axSetState (s : State) (k st : Nat) : State :=
  if s.axState k = st then s else ((s.putFld (R.AXS_STAT k) 2 0 st).axNote k).raise (0x041 + k) 0

/-- A velocity clamped to 2^20 units per second (R94). -/
def velClamp (v : Int) : Int := clampInt (-(2 ^ 52)) (2 ^ 52) v

/-- The unclamped estimate `v` of the velocity: VSAT follows it, and its setting raises the axis event (R94). -/
def State.axSat (s : State) (k : Nat) (v : Int) : State :=
  let sat := decide (2 ^ 52 < v.natAbs)
  let was := s.bit (R.AXS_STAT k) 4
  (s.axBit k 4 sat).raiseIf (sat && !was) (0x041 + k) 1

/-- The phase at which a new estimate starts: not before the last one. -/
def State.axInstant (s : State) (k ph : Nat) : Nat := max (s.phase ph) ((s.axis k).est.headD {}).t

/-! ### Targets -/

/-- Words of descriptor `d`. -/
def dPos (d : Nat) : Nat := R.AXS_DPOS (d / 96) (d % 96)
def dIntv (d : Nat) : Nat := R.AXS_DINTV (d / 96) (d % 96)
def dCfg (d : Nat) : Nat := R.AXS_DCFG (d / 96) (d % 96)
def dLead (d : Nat) : Nat := R.AXS_DLEAD (d / 96) (d % 96)

def State.dOn (s : State) (d : Nat) : Bool := s.bit (dCfg d) 0
def State.dAxis (s : State) (d : Nat) : Nat := s.fld (dCfg d) 3 1
def State.dDir (s : State) (d : Nat) : Nat := s.fld (dCfg d) 5 4

/-- First target and spacing of a descriptor's targets, on the unwrapped position; a single linear target recurs with
every wrap (R91, R106). -/
def State.targets (s : State) (d : Nat) : Int × Int :=
  if s.axPeriodic (s.dAxis d) then ((s.rd (dPos d) : Int), 2 ^ 32)
  else if s.rd (dIntv d) = 0 then ((s.rd64 (dPos d) : Int), 2 ^ 64)
  else ((s.rd64 (dPos d) : Int), (s.rd (dIntv d) : Int) * 2 ^ 16)

/-- The boundaries of an axis tick (R92): the spacing, 0 for none. -/
def State.tickSpan (s : State) (k : Nat) : Int × Nat :=
  if s.axPeriodic k then (2 ^ 32, s.fld (R.AXS_TICK k) 16 0) else ((s.rd (R.AXS_TICK k) : Int) * 2 ^ 16, 1)

/-- Does the axis deliver ticks: it is live, and a linear axis has a TICK other than 0 (R92)? -/
def State.axTicks (s : State) (k : Nat) : Bool := s.axLive k && (s.tickSpan k).1 != 0

/-- The lead position of an entry for a position and a velocity (R107). -/
def State.leadOf (s : State) (d : Nat) (p v : Int) : Int := p + v * (s.fld (dLead d) 15 0 : Nat) / 100000000

/-- Ceiling division. -/
def cdiv (a b : Int) : Int := -((-a) / b)

/-- The targets `t0 + k * sp` that a move from `a` to `b` crosses forward, a < T ≤ b, in the order of crossing. -/
def crossedFwd (t0 sp a b : Int) : List Int :=
  let k0 := (a - t0) / sp
  let k1 := (b - t0) / sp
  (List.range (k1 - k0).toNat).map (fun (i : Nat) => t0 + sp * (k0 + 1 + i))

/-- The targets that a move from `a` to `b` crosses in reverse, a > T ≥ b, in the order of crossing. -/
def crossedRev (t0 sp a b : Int) : List Int :=
  let k0 := cdiv (a - t0) sp
  let k1 := cdiv (b - t0) sp
  (List.range (k0 - k1).toNat).map (fun (i : Nat) => t0 + sp * (k0 - 1 - i))

/-- Disarmed targets: the target, forward off, reverse off. -/
abbrev Dis := List (Int × Bool × Bool)

/-- Is a target armed in a direction (true forward)? -/
def armed (dis : Dis) (t : Int) (fwd : Bool) : Bool :=
  !dis.any (fun e => e.1 == t && (if fwd then e.2.1 else e.2.2))

/-- Disarm a target that fired: it re-arms forward at T - HYST and in reverse at T + HYST (R108). -/
def disarm (dis : Dis) (t : Int) : Dis := (t, true, true) :: dis.filter (fun e => e.1 != t)

/-- Re-arm targets that the lead position `q` has left by HYST (R108). -/
def rearm (dis : Dis) (h q : Int) : Dis :=
  (dis.map (fun e => (e.1, e.2.1 && !decide (q ≤ e.1 - h), e.2.2 && !decide (e.1 + h ≤ q)))).filter
    (fun e => e.2.1 || e.2.2)

/-- HYST of an axis in 2^-32 units. -/
def State.axHyst (s : State) (k : Nat) : Int := (s.rd (R.AXS_HYST k) : Int) * 2 ^ 16

/-- The descriptors that are enabled on axis `k`. -/
def State.axDescs (s : State) (k : Nat) : List Nat :=
  (List.range 384).filter (fun d => s.dOn d && s.dAxis d == k)

/-- Re-arm the targets and tick boundaries of an axis that stood at `p` with velocity `v`: `past` is an instant before this
tick, at which what fired in this tick had not yet fired. -/
def State.rearmAt (s : State) (k : Nat) (p v : Int) (past : Bool) : State :=
  let h := s.axHyst k
  let a := s.axis k
  let m : Int := (s.tickSpan k).2
  let s := if a.dis = [] || (past && a.crossed == s.ticks + 1) then s else s.setAxis k { a with dis := rearm a.dis (h * m) (p * m) }
  forL (s.axDescs k) (fun d t =>
    let e := t.entry d
    if e.dis = [] || (past && e.fired == t.ticks + 1) then t
    else t.setEntry d { e with dis := rearm e.dis h (t.leadOf d p v) }) s

/-- Re-arm by the positions at the last and the present tick; between estimates the position moves evenly. -/
def State.axRearm (s : State) (k : Nat) : State :=
  (s.rearmAt k (s.axLast k).1 (s.axLast k).2 true).rearmAt k (s.axPos k) (s.axVel k) false

/-- A new estimate: the targets re-arm by the old one up to its instant and by the new one from it, and NEG follows the
velocity. -/
def State.axPut (s : State) (k : Nat) (e : Est) : State :=
  let old := (s.axis k).est.headD {}
  let s := s.rearmAt k (s.estPos old e.t) (s.estVel old) false
  let s := s.putBit (R.AXS_STAT k) 5 (decide (s.estVel e < 0))
  let a := s.axis k
  let s := s.setAxis k { a with est := s.estPush a.est { e with stat := s.rd (R.AXS_STAT k) } }
  s.rearmAt k (s.estPos e e.t) (s.estVel e) false

/-- Arm every target of an entry but one equal to the lead position of an axis that stands at `p` with velocity `v`, which
counts as crossed (R101, R111). -/
def State.armEntry (s : State) (d : Nat) (p v : Int) : State :=
  let q := s.leadOf d p v
  let tp := s.targets d
  s.setEntry d { s.entry d with dis := if (q - tp.1) % tp.2 = 0 then [(q, true, true)] else [], hidden := false }

/-- Count MISSED of an entry: it saturates, adds to MISSTOT, and the first of an entry sets the MISSED event
(R98, R100, R112). -/
def State.miss (s : State) (d n : Nat) : State :=
  if n = 0 then s
  else
    let e := s.entry d
    ((s.setEntry d { e with missed := satAdd 0x3FFF e.missed n }).addSat R.AXS_MISSTOT n).raiseIf
      (e.missed == 0) 0x04F 0

/-- MISSED for the armed targets that a forward step from `p0` to `p1` passes, of every entry with a forward or bidirectional
direction (R100). -/
def State.stepMiss (s : State) (k : Nat) (p0 p1 v : Int) : State :=
  forL (s.axDescs k) (fun d t =>
    let tp := t.targets d
    if t.dDir d == 1 then t
    else t.miss d ((crossedFwd tp.1 tp.2 (t.leadOf d p0 v) (t.leadOf d p1 v)).filter
      (fun x => armed (t.entry d).dis x true)).length) s

/-- Step the position by `e` in this tick: JUMP, JUMPCNT and MISSED (R100). -/
def State.axStep (s : State) (k : Nat) (e : Int) : State :=
  let s := s.axRearm k
  let x := s.axInstant k 0
  let o := (s.axis k).est.headD {}
  let p := s.estPos o x
  let s := s.stepMiss k p (p + e) (s.estVel o)
  let s := (s.incSat (R.AXS_JUMPCNT k)).raise (0x041 + k) 2
  s.axPut k { o with t := x, p := if o.net then o.p - e else p + e, jump := true }

/-! ### Sources (R90, R96, R122, R123) -/

/-- Mains detector, encoder or SSI input `n`. -/
def State.md (s : State) (n : Nat) : Source := tabGet {} s.axs.md n
def State.setMd (s : State) (n : Nat) (x : Source) : State :=
  { s with axs := { s.axs with md := tabSet {} s.axs.md n x } }
def State.enc (s : State) (n : Nat) : Source := tabGet {} s.axs.enc n
def State.setEnc (s : State) (n : Nat) (x : Source) : State :=
  { s with axs := { s.axs with enc := tabSet {} s.axs.enc n x } }
def State.ssi (s : State) (n : Nat) : Source := tabGet {} s.axs.ssi n
def State.setSsi (s : State) (n : Nat) (x : Source) : State :=
  { s with axs := { s.axs with ssi := tabSet {} s.axs.ssi n x } }

/-- A source has the value `v` at phase `x`. -/
def Source.meas (o : Source) (v x : Nat) : Source := { o with val := v, t := x, dt := x - o.t }

/-- The axes that take source `n` of one of the kinds (R90). -/
def State.axesOn (s : State) (kinds : List Nat) (n : Nat) : List Nat :=
  (List.range 8).filter (fun k => kinds.contains (s.axKind k) && s.axInst k == n)

/-- Minus on an axis whose measured direction SRC.INVERT negates (R91). -/
def State.axSign (s : State) (k : Nat) : Int := if s.bit (R.AXS_SRC k) 8 then -1 else 1

/-- Encoder counts in 1/65,536 as a distance in 2^-32 units: SCALE counts make a revolution, or SCALE metres a count
(R90). -/
def State.scaled (s : State) (k : Nat) (n : Int) : Int :=
  if s.axKind k = 2 then n * 2 ^ 32 / ((max 1 (s.rd (R.AXS_SCALE k)) * 65536 : Nat) : Int)
  else n * (s.rd (R.AXS_SCALE k) : Int) / 65536

/-- The measured position of an encoder or track axis at phase `x` (R90, R103). -/
def State.encPos (s : State) (k x : Nat) : Int :=
  (s.axis k).off + s.scaled k (s.axis k).n + slewSum (s.axis k).slews x

/-- The position of a decoded SSI word: the single-turn bits are the fraction, the multi-turn bits the integer, in the
direction of the axis (R90, R91). -/
def State.ssiPos (s : State) (k raw : Nat) : Int :=
  let st := s.fld (R.AXS_SSICFG (s.axInst k)) 12 8
  s.axSign k * ((raw / 2 ^ st * 2 ^ 32 + raw % 2 ^ st * 2 ^ (32 - st) : Nat) : Int) % 2 ^ 64

/-- The source of an axis, and the position that it measured last. -/
def State.axSource (s : State) (k : Nat) : Source × Int :=
  let n := s.axInst k
  if s.axKind k = 1 then (s.md n, ((s.md n).val : Int))
  else if s.axKind k = 3 then (s.ssi n, s.ssiPos k (s.ssi n).val)
  else (s.enc n, s.encPos k (s.enc n).t)

/-- One update of the observer with position `m` measured at phase `x`, `dt` after the measurement before, or a rejection
(R93, R94). -/
def State.observe (s : State) (k x : Nat) (m : Int) (dt : Nat) : State :=
  let a := s.axis k
  let o := a.est.headD {}
  let x := max x o.t
  let pred := s.estPos o x
  let e := wrapErr (s.axPeriodic k) (m - pred)
  if s.rd (R.AXS_ETOL k) * 2 ^ 16 < e.natAbs then
    ((s.setAxis k { a with rej := a.rej + 1 }).incSat (R.AXS_REJCNT k)).raise (0x041 + k) 3
  else
    let bw := s.fld (R.AXS_BW k) 15 0
    let wn := 2 * piQ * ((bw : Nat) / 10)
    let h : Rat := (dt : Nat) / (800000000 : Nat)
    let v := o.v + openInt 12 (wn * wn * h * e)
    let s := (s.setAxis k { a with rej := 0 }).axPut k
      { t := x, p := pred + openInt 11 (2 * 707 / 1000 * wn * h * e), v := velClamp v
        slews := a.slews.filter (fun f => decide (x < f.2 + 8000000)) }
    s.axSat k v

/-- The channels of a detector: CHA, and with THREE also CHB and CHC (R123). -/
def State.mdChans (s : State) (n : Nat) : List Nat :=
  let c := s.rd (R.AXS_MDCFG n)
  if nb c 1 then [nf c 12 8, nf c 20 16, nf c 28 24] else [nf c 12 8]

/-- The streams of a detector's channels up to phase `x`, with the words given (R225). -/
def State.mdStream (s : State) (n x : Nat) (w : List ChIn) : State × List Int :=
  forN (s.mdChans n).length (fun i (a : State × List Int) =>
    let r := a.1.streamTo ((s.mdChans n).getD i 0) (x / 3125) (w.getD i { main := [], check := [] })
    (r.1, a.2 ++ [r.2])) (s, [])

/-- A detector measures: MDnFREQ and MDnAMP show it, and the conditions of R96 are followed.  How phase, frequency and
amplitude come from the streams is open (assumption 125). -/
def State.mdTake (s : State) (n x : Nat) (w : List ChIn) : State :=
  let r := s.mdStream n x w
  let s := r.1
  let amin := s.fld (R.AXS_MDAMIN n) 9 0
  let o := s.md n
  let st := Config.mdStep (s.bit (R.AXS_MDCFG n) 1) (BitVec.ofNat 64 o.flt) r.2
  let o := { o with flt := st.toNat }
  let m := Config.mdPhase st
  let f := (Config.mdFreq st).toNat
  let a := (Config.mdAmp st).toNat
  let good := decide (amin ≤ a) && within 10000 70000 f
  let low := decide (10 * a < 8 * amin)
  let s := s.setMd n { o.meas m.toNat x with
    good := if !good then 0 else if o.good = 0 then x + 1 else o.good
    low := if !low then 0 else if o.low = 0 then x + 1 else o.low }
  (s.wr (R.AXS_MDFREQ n) f).wr (R.AXS_MDAMP n) (min a 1023)

/-- An encoder counts: ENCnCNT shows the count, and every axis on it moves its counts (R90, R122). -/
def State.encTake (s : State) (n : Nat) (d : Int) (x : Nat) : State :=
  let d := if s.bit (R.AXS_ENCCFG n) 1 then -d else d
  let raw := toBits 48 ((s.enc n).val + d)
  let s := (s.setEnc n ((s.enc n).meas raw x)).wr (R.AXS_ENCCNT n) (raw / 65536)
  forL (s.axesOn [2, 4] n) (fun k t =>
    t.setAxis k { t.axis k with n := (t.axis k).n + t.axSign k * d }) s

/-- AXIS_MEASUREMENT: an enabled mains detector or encoder measures, its registers show it, and every LOCKED axis on it
takes or rejects the measurement (R90, R93, R122, R123). -/
def execAxisMeasurement (dt : Nat) (x : Meas) (ph : Fin 8) (s : State) : Host.Outcome State Fault Refusal :=
  guarded (Instr.axisMeasurement dt x ph).wf dt s (onMain dt s fun s =>
    let t := s.phase ph.val
    match x with
    | .mains n w =>
      if !s.bit (R.AXS_MDCFG n.val) 0 then s
      else
        let s := s.mdTake n.val t w
        forL (s.axesOn [1] n.val) (fun k u =>
          if u.axState k = axLocked then (u.axRearm k).observe k t (u.md n.val).val (u.md n.val).dt else u) s
    | .encoder n d =>
      if !s.bit (R.AXS_ENCCFG n.val) 0 then s
      else
        let s := s.encTake n.val d t
        forL (s.axesOn [2, 4] n.val) (fun k u =>
          if u.axState k = axLocked then (u.axRearm k).observe k t (u.encPos k t) (u.enc n.val).dt else u) s)

/-- May a network-time axis be LOCKED: REQLOCK asks that TMB be locked (R96)? -/
def State.timeOk (s : State) (k : Nat) : Bool := !s.bit (R.AXS_SRC k) 9 || s.timeLocked

/-- Is the acquisition criterion of an axis met (R96)? -/
def State.acquired (s : State) (k : Nat) : Bool :=
  let n := s.axInst k
  match s.axKind k with
  | 1 =>
    s.bit (R.AXS_MDCFG n) 0 && (s.md n).good != 0 &&
      decide (4 * 800000000000 ≤ (8 * s.ticks + 1 - (s.md n).good) * s.rd (R.AXS_MDFREQ n))
  | 3 => s.bit (R.AXS_SSICFG n) 0 && decide (3 ≤ (s.axis k).agree)
  | 5 => s.timeOk k
  | _ => s.bit (R.AXS_ENCCFG n) 0 && !(s.enc n).line && s.msSince (s.enc n).clean 1

/-- Is the loss criterion of an axis met (R96)? -/
def State.lost (s : State) (k : Nat) : Bool :=
  let n := s.axInst k
  let a := s.axis k
  match s.axKind k with
  | 1 =>
    !within 10000 70000 (s.rd (R.AXS_MDFREQ n)) || decide (8 ≤ a.rej) ||
      ((s.md n).low != 0 && decide (400000000000 ≤ (8 * s.ticks + 1 - (s.md n).low) * s.rd (R.AXS_MDFREQ n)))
  | 3 => decide (3 ≤ a.bad)
  | 5 => !s.timeOk k
  | _ => a.fault || (s.enc n).line || decide (8 ≤ a.rej)

/-- Is the source of an axis valid, with a measurement since tick `t` (R95, R96)? -/
def State.srcValid (s : State) (k t : Nat) : Bool :=
  let n := s.axInst k
  match s.axKind k with
  | 1 => s.bit (R.AXS_MDCFG n) 0 && (s.md n).good != 0 && decide (8 * t ≤ (s.md n).t)
  | 3 => s.bit (R.AXS_SSICFG n) 0 && (s.ssi n).bad == 0 && decide (8 * t ≤ (s.ssi n).t)
  | 5 => s.timeOk k
  | _ => s.bit (R.AXS_ENCCFG n) 0 && !(s.enc n).line && decide (8 * t ≤ (s.enc n).t)

/-- Where an axis that acquires starts, with wraps counted anew (R91): a network-time axis at module time, an axis back from
FROZEN on the counts since, a track axis at 0 m, any other at the measured position (R101 to R103). -/
def State.axOrigin (s : State) (k : Nat) (v : Int) : State :=
  let a := s.axis k
  let kind := s.axKind k
  let x := 8 * s.ticks
  let back := a.frozen && (kind == 2 || kind == 4)
  let a := if kind = 4 ∧ !back then { a with n := 0, off := 0, slews := [] }
    else if kind = 2 ∧ !back then { a with n := s.axSign k * ((s.enc (s.axInst k)).val : Int), off := 0 }
    else a
  let s := s.setAxis k { a with frozen := false, rej := 0, bad := 0, fault := false, dis := [] }
  let v := velClamp v
  if kind = 5 then s.axPut k { t := x, p := s.usAt x / 2 ^ 64 * 2 ^ 64, net := true, jump := true }
  else if kind = 1 then
    let d := s.md (s.axInst k)
    s.axPut k { t := x, p := ((d.val : Int) + v * ((x : Int) - d.t) / 800000000) % 2 ^ 32, v := v, jump := true }
  else
    let p := if kind = 3 then s.ssiPos k (s.ssi (s.axInst k)).val else s.encPos k x
    let s := s.setAxis k { s.axis k with off := (s.axis k).off - p / 2 ^ 64 * 2 ^ 64 }
    s.axPut k { t := x, p := p % 2 ^ 64, v := v, jump := true }

/-- AXIS_ACQUIRED: the acquisition criterion is met, p and v are set from the source in one tick, every target is re-armed,
and the axis is LOCKED (R96, R101, R102).  `v` is the velocity of an encoder or SSI source, in 2^-32 units per second; a
mains source gives its frequency. -/
def execAxisAcquired (dt : Nat) (k : Fin 8) (v : Int) (s : State) : Host.Outcome State Fault Refusal :=
  onMain dt s fun s =>
    let kind := s.axKind k.val
    if s.axState k.val ≠ axAcquiring ∨ !s.acquired k.val then s
    else
      let back := (s.axis k.val).frozen && (kind == 2 || kind == 4)
      let v := if kind = 1 then (s.rd (R.AXS_MDFREQ (s.axInst k.val)) : Int) * 2 ^ 32 / 1000 else v
      let s := s.axOrigin k.val v
      let s := if kind = 5 then s else s.axSat k.val v
      let s := s.axBit k.val 6 false
      let s := if back then s.axBit k.val 7 true else s
      let s := if kind = 4 ∧ !back then s.axBit k.val 8 true else s
      let s := s.axSetState k.val axLocked
      forL (s.axDescs k.val) (fun d t => t.armEntry d (t.axPos k.val) (t.axVel k.val)) s

/-- AXIS_LOSS: the loss criterion is met; the axis extrapolates at the velocity it held (R95, R96). -/
def execAxisLoss (dt : Nat) (k : Fin 8) (s : State) : Host.Outcome State Fault Refusal :=
  onMain dt s fun s =>
    if s.axState k.val ≠ axLocked ∨ !s.lost k.val then s
    else
      ((s.setAxis k.val { s.axis k.val with vloss := s.axVel k.val, holdTick := s.ticks }).incSat
        (R.AXS_LOSSCNT k.val)).axSetState k.val axHold

/-- The observer of an axis in HOLD resumes with the last measurement of its source, or the position is stepped to it
(R95). -/
def State.axResume (s : State) (k : Nat) : State :=
  let r := s.axSource k
  let e := wrapErr (s.axPeriodic k) (r.2 - s.estPos ((s.axis k).estAt r.1.t) r.1.t)
  let s := s.setAxis k { s.axis k with rej := 0, bad := 0, fault := false }
  if s.rd (R.AXS_JUMPTOL k) * 2 ^ 16 ≤ e.natAbs then s.axStep k e
  else (s.axRearm k).observe k r.1.t r.2 r.1.dt

/-- AXIS_HOLD_RECOVER: the source is valid again during HOLD; a large difference is stepped (R95).  A network-time axis takes
up no difference (R93). -/
def execAxisHoldRecover (dt : Nat) (k : Fin 8) (s : State) : Host.Outcome State Fault Refusal :=
  onMain dt s fun s =>
    if s.axState k.val ≠ axHold ∨ !s.srcValid k.val (s.axis k.val).holdTick then s
    else (if s.axKind k.val = 5 then s else s.axResume k.val).axSetState k.val axLocked

/-- Has HOLD lasted the shorter of HOLDMAX and 2 * P / |v_loss| (R97)? -/
def State.holdOver (s : State) (k : Nat) : Bool :=
  let a := s.axis k
  let el := s.ticks - a.holdTick
  let p : Nat := if s.axPeriodic k then 2 ^ 32
    else if s.rd (R.AXS_TICK k) = 0 then 2 ^ 32 else s.rd (R.AXS_TICK k) * 2 ^ 16
  decide (100 * s.rd (R.AXS_HOLDMAX k) ≤ el) ||
    (a.vloss != 0 && decide (2 * p * 100000000 ≤ el * a.vloss.natAbs))

/-- AXIS_HOLD_EXPIRED: the position stops, the velocity reads 0, and the hidden extrapolation starts (R95, R98, R99). -/
def execAxisHoldExpired (dt : Nat) (k : Fin 8) (s : State) : Host.Outcome State Fault Refusal :=
  onMain dt s fun s =>
    if s.axState k.val = axHold ∧ s.holdOver k.val then
      let x := s.axInstant k.val 0
      let p := s.estPos ((s.axis k.val).est.headD {}) x
      let s := s.axPut k.val { t := x, p := p }
      let s := s.setAxis k.val { s.axis k.val with hidP := p, hidTick := s.ticks, frozen := true, slews := [] }
      let s := if s.axKind k.val = 1 then s.axBit k.val 6 true else s
      let s := forL (s.axDescs k.val) (fun d t =>
        t.setEntry d { t.entry d with hidden := true, hid := t.ticks }) s
      s.axSetState k.val axFrozen
    else s

/-- The counts of an encoder or track axis start again from its frozen position: its lines have recovered (R102). -/
def State.encRestart (s : State) (k : Nat) : State :=
  if (s.axis k).frozen ∧ (s.axKind k = 2 ∨ s.axKind k = 4) then
    s.setAxis k { s.axis k with n := 0, off := s.axPos k, slews := [] }
  else s

/-- AXIS_FROZEN_RECOVER: the source is valid again, so acquisition starts (R95). -/
def execAxisFrozenRecover (dt : Nat) (k : Fin 8) (s : State) : Host.Outcome State Fault Refusal :=
  onMain dt s fun s =>
    if s.axState k.val = axFrozen ∧ s.srcValid k.val 0 then
      ((s.setAxis k.val { s.axis k.val with agree := 0 }).encRestart k.val).axSetState k.val axAcquiring
    else s

/-! ### Ticks, entries and strobes -/

/-- The armed targets `t0 + k * sp` that a move from `q0` to `q1` crosses in the directions asked, in order (R107). -/
def crossings (t0 sp q0 q1 : Int) (dis : Dis) (fwd rev : Bool) : List Int :=
  (if fwd then (crossedFwd t0 sp q0 q1).filter (fun t => armed dis t true) else []) ++
    (if rev then (crossedRev t0 sp q0 q1).filter (fun t => armed dis t false) else [])

/-- The armed boundaries crossed in this tick (R92). -/
def State.tickCross (s : State) (k : Nat) : List Int :=
  let sp := s.tickSpan k
  if sp.1 = 0 ∨ sp.2 = 0 then []
  else crossings 0 sp.1 ((s.axLast k).1 * sp.2) (s.axPos k * sp.2) (s.axis k).dis true true

/-- The crossing instant of target `t` between the last tick and this one in 1.25 ns after the last tick, interpolated
linearly and rounded (R107). -/
def crossPhase (q0 q1 t : Int) : Nat :=
  let d := (q1 - q0).natAbs
  if d = 0 then 0 else (16 * (t - q0).natAbs + d) / (2 * d)

/-- The module time of a crossing. -/
def State.crossInst (s : State) (q0 q1 t : Int) : Nat :=
  (((s.moduleTime : Int) - 40 + 5 * crossPhase q0 q1 t) % 2 ^ 64).toNat

/-- AXIS_TICK: the axis crosses a boundary; commits in MODE 2 on this axis reach their boundary (R53, R92). -/
def execAxisTick (dt : Nat) (k : Fin 8) (s : State) : Host.Outcome State Fault Refusal :=
  onMain dt s fun s =>
    if !s.axLive k.val || (s.axis k.val).crossed == s.ticks + 1 then s
    else
      let s := s.axRearm k.val
      let l := s.tickCross k.val
      match l.getLast? with
      | none => s
      | some t =>
        let sp := s.tickSpan k.val
        let a := s.axis k.val
        let q := ((s.axLast k.val).1 * sp.2, s.axPos k.val * sp.2)
        (s.setAxis k.val { a with
          dis := l.foldl disarm a.dis, crossed := s.ticks + 1, tickN := a.tickN + l.length, tickInst := s.crossInst q.1 q.2 t
          tickPh := 8 * (s.ticks - 1) + crossPhase q.1 q.2 t, tickNo := t / sp.1 }).markPages
          (fun _ c => c.mode == 2 && c.axis == k.val)

/-- SE number of a descriptor: enabled descriptors are numbered in ascending order (R104). -/
def State.seOf (s : State) (d : Nat) : Nat := ((List.range d).filter (fun i => s.dOn i)).length

/-- The strobes of a line that are held, the newest first. -/
def State.strobes (s : State) (line : Nat) : List Strobe := tabGet [] s.axs.strobe line

/-- The last strobe of a line. -/
def State.strobe (s : State) (line : Nat) : Strobe := (s.strobes line).headD {}

/-- The oldest strobe of a line that is held and stands behind its first `seen`. -/
def State.strobeNext (s : State) (line seen : Nat) : Option Strobe :=
  ((s.strobes line).filter (fun o => decide (seen < o.count))).getLast?

/-- Put a strobe on a line: one strobe a tick, which bears the crossing instant of the lowest SE (R109). -/
def State.setStrobe (s : State) (line inst ph se : Nat) : State :=
  let o := s.strobe line
  let l := s.strobes line
  let l := if o.count ≠ 0 ∧ o.tick = s.ticks then
      (if se < o.se then { o with inst := inst, ph := ph, se := se } :: l.drop 1 else l)
    else { tick := s.ticks, inst := inst, ph := ph, se := se, count := o.count + 1 } ::
      (l.take 1 ++ (l.drop 1).filter (fun x => decide (s.ticks ≤ x.tick + 100000)))
  { s with axs := { s.axs with strobe := tabSet [] s.axs.strobe line l } }

/-- The next strobe of a line that reaches a subscriber which has seen `seen`: 20 ns after its tick (R107), within the last
1 µs. -/
def State.strobed (s : State) (line seen : Nat) : Option Strobe :=
  ((s.strobes line).filter (fun o => decide (seen < o.count) && decide (o.tick + 2 ≤ s.ticks) &&
    decide (s.ticks ≤ o.tick + 100))).getLast?

/-- Lead positions of an entry at the last tick and at this one (R107). -/
def State.leads (s : State) (d : Nat) : Int × Int :=
  let k := s.dAxis d
  (s.leadOf d (s.axLast k).1 (s.axLast k).2, s.leadOf d (s.axPos k) (s.axVel k))

/-- The targets that an entry crosses in this tick in an armed direction, in order; a ONCE entry fires at the first
(R106, R107). -/
def State.entryCross (s : State) (d : Nat) : List Int :=
  let q := s.leads d
  let tp := s.targets d
  let l := crossings tp.1 tp.2 q.1 q.2 (s.entry d).dis (s.dDir d != 1) (s.dDir d != 0)
  if s.bit (dCfg d) 6 then l.take 1 else l

/-- The effect of a firing (R108, R110, R112). -/
def State.fire (s : State) (d : Nat) (t : Int) : State :=
  let k := s.dAxis d
  let q := s.leads d
  let e := s.entry d
  let s := s.setEntry d { e with
    fires := (e.fires + 1) % 65536
    hold := s.axState k == axHold
    done := e.done || s.bit (dCfg d) 6
    dis := disarm e.dis t
    fired := s.ticks + 1 }
  let act := s.fld (dCfg d) 9 8
  let s := if act = 0 ∨ act = 2 then
      s.setStrobe (s.fld (dCfg d) 15 10) (s.crossInst q.1 q.2 t) (8 * (s.ticks - 1) + crossPhase q.1 q.2 t) (s.seOf d)
    else s
  if act = 1 ∨ act = 2 then s.raise 0x04F (8 + s.fld (dCfg d) 18 16) else s

/-- The hidden position of a frozen axis at a tick (R98). -/
def Axis.hidAt (a : Axis) (t : Nat) : Int := a.hidP + a.vloss * ((t - a.hidTick : Nat) : Int) / 100000000

/-- HIDDEN_TARGET_MISSED: every target that the hidden extrapolation has crossed in the entry's direction since the last
time counts as MISSED (R98). -/
def execHiddenTargetMissed (dt : Nat) (d : Fin 384) (s : State) : Host.Outcome State Fault Refusal :=
  onMain dt s fun s =>
    let a := s.axis (s.dAxis d.val)
    let e := s.entry d.val
    if !s.dOn d.val || s.axState (s.dAxis d.val) != axFrozen || !e.hidden then s
    else
      let q0 := s.leadOf d.val (a.hidAt e.hid) a.vloss
      let q1 := s.leadOf d.val (a.hidAt s.ticks) a.vloss
      let tp := s.targets d.val
      (s.setEntry d.val { e with hid := s.ticks }).miss d.val
        (crossings tp.1 tp.2 q0 q1 [] (s.dDir d.val != 1) (s.dDir d.val != 0)).length

/-! ### Encoders and SSI inputs -/

/-- A loss criterion of the axes on encoder `n` is met (R96). -/
def State.encLost (s : State) (n : Nat) : State :=
  forL (s.axesOn [2, 4] n) (fun k t => t.setAxis k { t.axis k with fault := true }) s

/-- ENCODER_LINE_FAULT: a differential fault counts in [15:0], an illegal transition in [31:16]; lines that recover start the
counts of frozen axes again (R96, R102, R122). -/
def execEncoderLineFault (dt : Nat) (n : Fin 4) (f : EncFault) (s : State) : Host.Outcome State Fault Refusal :=
  onMain dt s fun s =>
    if !s.bit (R.AXS_ENCCFG n.val) 0 then s
    else match f with
    | .line =>
      ((s.setEnc n.val { s.enc n.val with line := true }).encLost n.val |>.incSatF (R.AXS_ENCERR n.val) 15 0).raise
        0x040 n.val
    | .clear =>
      if !(s.enc n.val).line then s
      else forL (s.axesOn [2, 4] n.val) (fun k t => if t.axState k = axAcquiring then t.encRestart k else t)
        (s.setEnc n.val { s.enc n.val with line := false, clean := s.ticks })
    | .transition => ((s.encLost n.val).incSatF (R.AXS_ENCERR n.val) 31 16).raise 0x040 n.val

/-- The difference of ENCnZPH from the axis fraction at a Z pulse. -/
def State.zDiff (s : State) (k n x : Nat) : Int :=
  wrapErr true ((s.rd (R.AXS_ENCZPH n) : Int) - s.estPos ((s.axis k).est.headD {}) x)

/-- A Z pulse references an axis again: the position is stepped, or the measured position moves and the observer follows it
continuously (R102). -/
def State.zRef (s : State) (k n x : Nat) : State :=
  let d := s.zDiff k n x
  let s := s.setAxis k { s.axis k with off := (s.axis k).off + d }
  (if s.rd (R.AXS_JUMPTOL k) * 2 ^ 16 ≤ d.natAbs then s.axStep k d else s).axBit k 7 false

/-- ENCODER_Z_PULSE: a Z pulse, with the count since the last one, meets the locked axes of a periodic encoder: it references
those that lost their reference, and a Z error of any other counts once (R102). -/
def execEncoderZPulse (dt : Nat) (n : Fin 4) (ph : Fin 8) (count : Nat) (s : State) :
    Host.Outcome State Fault Refusal :=
  onMain dt s fun s =>
    if !s.bit (R.AXS_ENCCFG n.val) 0 then s
    else
      let l := (s.axesOn [2] n.val).filter (fun k => s.axState k == axLocked)
      let x (k : Nat) : Nat := s.axInstant k ph.val
      let bad := s.bit (R.AXS_ENCCFG n.val) 2 && l.any (fun k => !s.bit (R.AXS_STAT k) 7 &&
        (decide (s.rd (R.AXS_ETOL k) * 2 ^ 16 < (s.zDiff k n.val (x k)).natAbs) || count != s.rd (R.AXS_SCALE k)))
      let s' := if s.bit (R.AXS_ENCCFG n.val) 3 then
          forL (l.filter (fun k => s.bit (R.AXS_STAT k) 7)) (fun k t => t.zRef k n.val (x k)) s
        else s
      if bad then (s'.incSatF (R.AXS_ENCERR n.val) 31 16).raise 0x040 n.val else s'

/-- The bits of an SSI frame of input `m`: single-turn and multi-turn bits. -/
def State.ssiBits (s : State) (m : Nat) : Nat := s.fld (R.AXS_SSICFG m) 12 8 + s.fld (R.AXS_SSICFG m) 20 16

/-- A Gray-coded word of `n` bits decoded. -/
def ungray : Nat → Nat → Nat
  | 0, _ => 0
  | n + 1, w => w ^^^ ungray n (w / 2)

/-- The decoded word of the bits received, none where the parity is not even (R122).  The parity bit is the last, the
multi-turn bits stand above the single-turn bits, and the Gray code runs over the whole word (DESIGN CHOICE, assumption
132). -/
def State.ssiWord (s : State) (m w : Nat) : Option Nat :=
  let par := s.bit (R.AXS_SSICFG m) 2
  let n := s.ssiBits m
  let w := w % 2 ^ (n + b2n par)
  if par && popcount 33 w % 2 != 0 then none
  else
    let d := if par then w / 2 else w
    some (if s.bit (R.AXS_SSICFG m) 1 then ungray n d else d)

/-- An invalid SSI frame: the third in a row raises the SSI fault event (R96, R119). -/
def State.ssiInvalid (s : State) (m : Nat) : State :=
  let o := s.ssi m
  (s.setSsi m { o with bad := o.bad + 1 }).raiseIf (o.bad == 2) 0x040 (4 + m)

/-- A frame that an input could not read is invalid for every axis on it. -/
def State.ssiMissed (s : State) (m : Nat) : State :=
  forL (s.axesOn [3] m) (fun k t => t.setAxis k { t.axis k with bad := (t.axis k).bad + 1, agree := 0 }) (s.ssiInvalid m)

/-- A frame that was read feeds an axis: a LOCKED one takes it or rejects it, and an acquiring one counts the frames that
agree within ETOL (R93, R96). -/
def State.ssiFeed (s : State) (k raw old : Nat) : State :=
  let o := s.ssi (s.axInst k)
  if s.axState k = axLocked then
    let s := (s.axRearm k).observe k o.t (s.ssiPos k raw) o.dt
    s.setAxis k { s.axis k with bad := if (s.axis k).rej = 0 then 0 else (s.axis k).bad + 1 }
  else
    let e := wrapErr true (s.ssiPos k raw - s.ssiPos k old)
    let a := s.axis k
    s.setAxis k { a with
      agree := if a.agree ≠ 0 ∧ e.natAbs ≤ s.rd (R.AXS_ETOL k) * 2 ^ 16 then a.agree + 1 else 1 }

/-- SSI_FRAME: every read period a frame is read and judged; a valid one feeds the axes of the input, and one that an axis
rejects is invalid (R96, R122). -/
def execSsiFrame (dt : Nat) (m : Fin 2) (ph : Fin 8) (f : SsiFrame) (s : State) :
    Host.Outcome State Fault Refusal :=
  onMain dt s fun s =>
    let m := m.val
    let o := s.ssi m
    if !s.bit (R.AXS_SSICFG m) 0 || (o.clean != 0 && decide (s.ticks + 1 < o.clean + 100 * s.fld (R.AXS_SSITIM m) 31 16)) then s
    else
      let s := s.setSsi m { o with clean := s.ticks + 1 }
      match f with
      | .timeout => (s.incSatF (R.AXS_SSIERR m) 31 16).ssiMissed m
      | .bits w =>
        match s.ssiWord m w.toNat with
        | none => (s.incSatF (R.AXS_SSIERR m) 15 0).ssiMissed m
        | some raw =>
          let l := s.axesOn [3] m
          let s := s.setSsi m ((s.ssi m).meas raw (s.phase ph.val))
          let s := forL l (fun k t => t.ssiFeed k raw o.val) s
          if l.any (fun k => s.axState k == axLocked && (s.axis k).rej != 0) then s.ssiInvalid m
          else (s.setSsi m { s.ssi m with bad := 0 }).wr (R.AXS_SSIRAW m) raw

/-! ### Commands of the axis and status pages -/

/-- Apply a fix: slewed over 10 ms, or stepped (R103). -/
def State.applyFix (s : State) (k pos time : Nat) : State :=
  let x := s.axInstant k 0
  let o := (s.axis k).est.headD {}
  let p := s.estPos o x
  let e := wrapErr false ((pos : Int) + o.v * ((s.moduleTime - time : Nat) : Int) / 4000000000 - p)
  let a := s.axis k
  let live := a.slews.filter (fun f => decide (x < f.2 + 8000000))
  let off := a.off + slewSum (a.slews.filter (fun f => !decide (x < f.2 + 8000000))) x
  let a := { a with fixPos := pos, fixTime := time }
  let s := if s.rd (R.AXS_JUMPTOL k) * 2 ^ 16 ≤ e.natAbs then
      (s.setAxis k { a with off := off + e, slews := live }).axStep k e
    else
      let s := s.setAxis k { a with off := off, slews := live ++ [(e, x)] }
      s.axPut k { t := x, p := p, v := o.v, slews := live ++ [(e, x)] }
  s.axBit k 8 false

/-- FIXGO: apply a track position fix, or refuse it with FIX_STATE or FIX_STALE (R103). -/
def execFixgo (dt : Nat) (who : Init) (k : Fin 8) (v : Word) (s : State) : Host.Outcome State Fault Refusal :=
  onMain dt s fun s => s.cmdW who (0x041 + k.val) 0xC04 fun n => onOne v fun s =>
    let time := s.rd64 (R.AXS_FIXTIME k.val)
    let now := s.moduleTime
    if s.axKind k.val ≠ 4 ∨ !s.axLive k.val then s.err (0x041 + k.val) n 0x0101 (R.AXS_FIXGO k.val)
    else if now < time ∨ time + 4000000000 < now then s.err (0x041 + k.val) n 0x0102 (R.AXS_FIXGO k.val)
    else s.applyFix k.val (s.rd64 (R.AXS_FIXPOS k.val)) time

/-- AXIS_CAPTURE: position, velocity and module time in one tick (R121). -/
def execAxisCapture (dt : Nat) (who : Init) (k : Fin 8) (v : Word) (s : State) : Host.Outcome State Fault Refusal :=
  onMain dt s fun s => s.cmdW who (0x041 + k.val) 0xC00 fun _ => onOne v fun s =>
    ((s.wr64 (R.AXS_CPOS k.val) (toBits 64 (s.axPos k.val))).wr64 (R.AXS_CVEL k.val)
      (toBits 64 (s.axVel k.val))).wr64 (R.AXS_CTIME k.val) s.moduleTime

/-- SECLR: clear FIRES, MISSED and MISSTOT (R126). -/
def execSeclr (dt : Nat) (who : Init) (v : Word) (s : State) : Host.Outcome State Fault Refusal :=
  onMain dt s fun s => s.cmdW who 0x04F 0xC00 fun _ => onOne v fun s =>
    let s := { s with axs := { s.axs with
      ent := forN 384 (fun d t => tabMod {} t d (fun e => { e with fires := 0, missed := 0 })) s.axs.ent } }
    s.wr R.AXS_MISSTOT 0

/-! ### Firefly -/

def State.firefly (s : State) (n : Nat) : Firefly := tabGet {} s.axs.ff n
def State.setFirefly (s : State) (n : Nat) (f : Firefly) : State :=
  { s with axs := { s.axs with ff := tabSet {} s.axs.ff n f } }

/-- Does the output run: enabled, and not gated by primacy (R114)? -/
def State.ffOn (s : State) (n : Nat) : Bool := s.bit (R.AXS_FFCFG n) 0 && s.rdn.gates

def State.ffMode (s : State) (n : Nat) : Nat := s.fld (R.AXS_FFCFG n) 3 2

/-- The commanded level at phase `x`, active or not. -/
def Firefly.level (f : Firefly) (x : Nat) : Bool :=
  f.edges.foldl (fun l e => if e.1 ≤ x then e.2 else l) f.lvl

/-- The edges that lie in the past become the level before the rest. -/
def Firefly.settle (f : Firefly) (x : Nat) : Firefly :=
  { f with lvl := f.level x, edges := f.edges.filter (fun e => decide (x < e.1)) }

/-- An edge at a phase, whose readback is due 100 ns later (R113, R114). -/
def Firefly.edge (f : Firefly) (x : Nat) (l : Bool) : Firefly :=
  { f with edges := f.edges ++ [(x, l)], back := f.back ++ [x] }

/-- A pulse of WIDTH x 10 ns from a phase. -/
def State.ffPulse (s : State) (n : Nat) (f : Firefly) (x : Nat) : Firefly :=
  let w := x + 8 * s.fld (R.AXS_FFWID n) 23 0
  { (f.edge x true).edge w false with fall := w }

/-- The level at the pin at phase `x`: inactive while gated, inverted by POL (R114). -/
def State.ffPin (s : State) (n x : Nat) : Bool := ((s.firefly n).level x && s.ffOn n) != s.bit (R.AXS_FFCFG n) 1

/-- FIREFLY_STROBE: a strobe of the output's line starts a pulse or toggles the output, 40 ns after the crossing instant;
while a pulse is active it counts in FFnOVR (R113). -/
def execFireflyStrobe (dt : Nat) (n : Fin 4) (s : State) : Host.Outcome State Fault Refusal :=
  onMain dt s fun s =>
    let line := s.fld (R.AXS_FFCFG n.val) 9 4
    let f := (s.firefly n.val).settle (8 * s.ticks)
    match (if s.ffOn n.val then s.strobed line f.seen else none) with
    | none => s
    | some o =>
      let x := o.ph + 32
      let f := { f with seen := o.count }
      if s.ffMode n.val = 0 then
        if f.fall != 0 && decide (8 * o.tick + 16 < f.fall) then (s.setFirefly n.val f).incSat (R.AXS_FFOVR n.val)
        else s.setFirefly n.val (s.ffPulse n.val f x)
      else if s.ffMode n.val = 1 then s.setFirefly n.val (f.edge x (!f.level x))
      else s.setFirefly n.val f

/-- FIREFLY_PPS: in PPS mode a pulse starts at every whole second of module time (R113). -/
def execFireflyPps (dt : Nat) (n : Fin 4) (s : State) : Host.Outcome State Fault Refusal :=
  onMain dt s fun s =>
    let f := (s.firefly n.val).settle (8 * s.ticks)
    let x := 8 * s.ticks - s.moduleTime % 4000000000 / 5
    if s.ffOn n.val && s.ffMode n.val == 2 && decide (s.moduleTime % 4000000000 < 80) && decide (f.pps ≤ x) then
      s.setFirefly n.val { s.ffPulse n.val f x with pps := x + 1 }
    else s

/-- FIREFLY_PULSE_END: the falling edge of the pulse is emitted (R113). -/
def execFireflyPulseEnd (dt : Nat) (n : Fin 4) (s : State) : Host.Outcome State Fault Refusal :=
  onMain dt s fun s =>
    let f := s.firefly n.val
    if f.fall != 0 && decide (f.fall ≤ 8 * s.ticks) then
      s.setFirefly n.val { f.settle (8 * s.ticks) with fall := 0 }
    else s

/-- FIREFLY_READBACK: 100 ns after an edge the pin is read back; a level that differs counts in FFnFLT (R114). -/
def execFireflyReadback (dt : Nat) (n : Fin 4) (level : Bool) (s : State) : Host.Outcome State Fault Refusal :=
  onMain dt s fun s =>
    let f := s.firefly n.val
    match f.back with
    | [] => s
    | x :: l =>
      if !s.ffOn n.val || decide (8 * s.ticks < x + 80) then s
      else
        let t := s.setFirefly n.val { f with back := l }
        if level = s.ffPin n.val (x + 80) then t else (t.incSat (R.AXS_FFFLT n.val)).raise 0x04E n.val

/-- The outputs stand inactive, and the strobes so far are taken: primacy is lost or gained (R114). -/
def State.ffGate (s : State) : State :=
  forN 4 (fun n t => t.setFirefly n
    { seen := (t.strobe (t.fld (R.AXS_FFCFG n) 9 4)).count, pps := 8 * t.ticks + 1 }) s

/-! ### Commits of AXS pages -/

/-- Has a descriptor the reserved DIR, or does an enabled one break the rule of R106 on a periodic axis (R107)? -/
def State.descBad (s : State) (g : List Nat) (d : Nat) : Bool :=
  nf (s.eff g (dCfg d)) 5 4 == 3 ||
  (nb (s.eff g (dCfg d)) 0 &&
   (let k := nf (s.eff g (dCfg d)) 3 1
    periodicKind (nf (s.eff g (R.AXS_SRC k)) 2 0) &&
      (s.eff g (dPos d + 4) != 0 || s.eff g (dIntv d) != 0)))

/-- The number of descriptors that the commit of the pages `g` would leave enabled (R105). -/
def State.descCount (s : State) (g : List Nat) : Nat :=
  ((List.range 384).filter (fun d => nb (s.eff g (dCfg d)) 0)).length

/-- The check of an SSI input (R122); the bit numbers of a disabled input are not checked (DESIGN CHOICE, assumption 121). -/
def State.ssiOk (s : State) (m : Nat) : Bool :=
  let c := s.sh (R.AXS_SSICFG m)
  let t := s.sh (R.AXS_SSITIM m)
  let st := nf c 12 8
  let mt := nf c 20 16
  within 50 1000 (nf t 15 0) && within 10 10000 (nf t 31 16) &&
  decide ((st + mt + b2n (nb c 2) + 2) * nf t 15 0 + 2000 ≤ nf t 31 16 * 100) &&
  (!nb c 0 || (within 1 24 st && within 0 16 mt && decide (st + mt ≤ 32)))

/-- The check of an axis page (R90, R92, R106, R121). -/
def State.axisOk (s : State) (g : List Nat) (k : Nat) : Bool :=
  let src := s.sh (R.AXS_SRC k)
  let kind := nf src 2 0
  let tick := s.sh (R.AXS_TICK k)
  decide (kind < 6) && (kind != 3 || decide (nf src 5 4 < 2)) &&
  (kind != 2 || within 4 16777216 (s.sh (R.AXS_SCALE k))) &&
  (kind != 4 || s.sh (R.AXS_SCALE k) != 0) &&
  (!periodicKind kind || tick == 0 || within 1 65536 tick) &&
  (kind != 1 || tick == 256 || tick == 512) &&
  within 10 40000 (s.shFld (R.AXS_BW k) 15 0) && within 1 1000000 (s.sh (R.AXS_HOLDMAX k)) &&
  (!periodicKind kind || (List.range 384).all (fun d =>
    !(nb (s.eff g (dCfg d)) 0 && nf (s.eff g (dCfg d)) 3 1 == k &&
      (s.eff g (dPos d + 4) != 0 || s.eff g (dIntv d) != 0))))

/-- The check of an AXS page whose commit belongs to the group `g`. -/
def State.axsCheck (s : State) (g : List Nat) (p : Nat) : Verdict :=
  if p = 0x040 then
    rangeIf ((List.range 4).all (fun n => decide (s.shFld (R.AXS_ENCCFG n) 7 4 ≤ 12)) &&
      (List.range 2).all (fun m => s.ssiOk m))
  else if p ≤ 0x048 then rangeIf (s.axisOk g (p - 0x041))
  else if p = 0x049 then
    rangeIf ((List.range 4).all (fun n =>
      decide (s.shFld (R.AXS_MDCFG n) 12 8 < 24) && decide (s.shFld (R.AXS_MDCFG n) 20 16 < 24) &&
      decide (s.shFld (R.AXS_MDCFG n) 28 24 < 24) && within 10 500 (s.shFld (R.AXS_MDAMIN n) 9 0)))
  else if p ≤ 0x04D then
    if 256 < s.descCount g then .table 0x04
    else rangeIf ((List.range 96).all (fun i => !s.descBad g (96 * (p - 0x04A) + i)))
  else if p = 0x04E then
    rangeIf ((List.range 4).all (fun n =>
      s.shFld (R.AXS_FFCFG n) 3 2 != 3 && decide (1 ≤ s.sh (R.AXS_FFWID n))))
  else .ok

/-- Discard the estimates of an axis (R95, R101). -/
def State.axDiscard (s : State) (k st : Nat) : State :=
  let a := s.axis k
  let s := s.setAxis k { est := a.est, tickN := a.tickN, tickInst := a.tickInst, tickPh := a.tickPh, tickNo := a.tickNo }
  let s := (s.putFld (R.AXS_STAT k) 8 4 0).axPut k { t := s.axInstant k 0, jump := true }
  s.axSetState k st

/-- What an axis page does when its shadows became active; `old` is the state before (R95).  A commit that changes TICK arms
every boundary anew (DESIGN CHOICE, assumption 133). -/
def State.axisApplied (s old : State) (k : Nat) : State :=
  let on := s.bit (R.AXS_CTRL k) 0 && s.axKind k != 0
  let s := s.axBit k 3 (s.axPeriodic k)
  let s := if s.rd (R.AXS_TICK k) = old.rd (R.AXS_TICK k) then s else s.setAxis k { s.axis k with dis := [] }
  if !on then s.axDiscard k axUnconfigured
  else if s.axState k = axUnconfigured then s.axSetState k axAcquiring
  else if s.rd (R.AXS_SRC k) ≠ old.rd (R.AXS_SRC k) ∨ s.rd (R.AXS_SCALE k) ≠ old.rd (R.AXS_SCALE k) then
    s.axDiscard k axAcquiring
  else s

/-- What the input page does: an encoder that is enabled starts with clean lines, an SSI input with no frame. -/
def State.inputApplied (s old : State) : State :=
  let s := forN 4 (fun n t =>
    if t.bit (R.AXS_ENCCFG n) 0 && !old.bit (R.AXS_ENCCFG n) 0 then
      t.setEnc n { t.enc n with line := false, clean := t.ticks }
    else t) s
  forN 2 (fun m t => if t.bit (R.AXS_SSICFG m) 0 && !old.bit (R.AXS_SSICFG m) 0 then t.setSsi m {} else t) s

/-- What the detector page does: a detector that is enabled has measured nothing. -/
def State.mdApplied (s old : State) : State :=
  forN 4 (fun n t => if t.bit (R.AXS_MDCFG n) 0 && !old.bit (R.AXS_MDCFG n) 0 then t.setMd n {} else t) s

/-- The words of a descriptor. -/
def State.descWords (s : State) (d : Nat) : List Nat :=
  [s.rd64 (dPos d), s.rd (dIntv d), s.rd (dCfg d), s.rd (dLead d)]

/-- FFnCFG changed: a pulse or toggled level ends in this tick, and the output is inactive under the new POL; an edge at the
pin is read back, as one that is still due is (R113, R114). -/
def State.ffCommit (s old : State) (n : Nat) : State :=
  let x := 8 * s.ticks
  let f := old.firefly n
  let edge := old.ffPin n x != s.bit (R.AXS_FFCFG n) 1
  s.setFirefly n
    { seen := (s.strobe (s.fld (R.AXS_FFCFG n) 9 4)).count, pps := x + 1
      back := f.back.filter (fun y => decide (y ≤ x)) ++ (if edge then [x] else []) }

/-- What an AXS page does when its shadows became active (R95, R111, R113). -/
def State.axsApplied (s old : State) (p : Nat) : State :=
  if 0x041 ≤ p ∧ p ≤ 0x048 then s.axisApplied old (p - 0x041)
  else if p = 0x040 then s.inputApplied old
  else if p = 0x049 then s.mdApplied old
  else if 0x04A ≤ p ∧ p ≤ 0x04D then
    forN 96 (fun i t =>
      let d := 96 * (p - 0x04A) + i
      if t.descWords d = old.descWords d then t
      else
        let u := t.setEntry d { born := t.ticks + 1 }
        if t.dOn d && t.axLive (t.dAxis d) then u.armEntry d (t.axPos (t.dAxis d)) (t.axVel (t.dAxis d)) else u) s
  else if p = 0x04E then
    forN 4 (fun n t =>
      if t.rd (R.AXS_FFCFG n) = old.rd (R.AXS_FFCFG n) then t
      else t.ffCommit old n) s
  else s

/-! ### Views of the schedule status page (R104, R126) -/

/-- The enabled descriptors, SE0 first. -/
def State.seList (s : State) : List Nat := (List.range 384).filter (fun d => s.dOn d)

/-- SEMAP word `k`. -/
def State.semap (s : State) (k : Nat) : Nat :=
  let l := s.seList
  l.getD (2 * k) 0 + l.getD (2 * k + 1) 0 * 65536

/-- SESTAT word of SE `n`: 0 for an entry that is not in use. -/
def State.sestat (s : State) (n : Nat) : Nat :=
  match s.seList[n]? with
  | none => 0
  | some d =>
    let e := s.entry d
    e.fires * 65536 + b2n e.done * 32768 + b2n e.hold * 16384 + e.missed

end Sys2Proof.Machine
end

