-- ==== Sys2Proof/Machine/Mem.lean ====
section
/-! DEFINITION. MEM: windows, DMA, poison, lane memories, scrubbing and the error log (R161 to R188). -/
namespace Sys2Proof.Machine

/-! ### Addresses and windows (R162, R171, R172, R186) -/

/-- Physical address of DRAM offset 0 (R19). -/
abbrev dramBase : Nat := 0x800000000

/-- The end of the window space (R162). -/
abbrev winEnd : Nat := 0xDC000000

/-- The end of the data words of DRAM: the check bits lie above (R162). -/
abbrev dataEnd : Nat := 0xE0000000

/-- Is partition `n` in D-mode (R64)? -/
def State.dmode (s : State) (n : Nat) : Bool := decide (n < 6) && s.bit (R.CYC_CTRL n) 0

/-- What an access wants of a window. -/
inductive Want where
  | read
  | write
  | fetch
deriving DecidableEq, Repr

/-- May partition `n` make the access to window `w` (R69, R73, R172)? -/
def State.winAllows (s : State) (n w : Nat) (x : Want) : Bool :=
  let d := s.inDsec n
  let kind := s.wKind w
  if s.wOwner w ≠ some n then
    match x with
    | .read => !d && s.bit (R.MEM_WGRANT w) (n % 8)
    | _ => false
  else match x with
  | .read => kind != kNormal || !d
  | .write =>
    if kind = kNormal then !d && s.wW w
    else (kind == kOutimg || kind == kRetained) && (d || !s.dmode n)
  | .fetch => if kind = kNormal then !d && s.wX w else kind == kDcode

/-- May a DMA engine of a block that partition `n` owns reach window `w`: it reads what the partition may read in gap
code, and writes NORMAL windows of the partition (R172)? -/
def State.dmaAllows (s : State) (n w : Nat) (write : Bool) : Bool :=
  if s.wOwner w = some n then !write || s.wKind w == kNormal
  else !write && s.bit (R.MEM_WGRANT w) (n % 8)

/-! ### Errors -/

/-- A correctable error counts in the 3,600 s window, and the first that reaches CETHR raises ES48 (R183, R185). -/
def State.ceCount (s : State) : State :=
  let s := s.incSatF R.MEM_CERATE 15 0
  if s.fld R.MEM_CETHR 15 0 ≤ s.fld R.MEM_CERATE 15 0 ∧ !s.mem.ceRaised then
    { s with mem := { s.mem with ceRaised := true } }.raise 0x028 0
  else s

/-- What a syndrome says of a word (R163): clean, correctable, an address error, the poison marker, or uncorrectable. -/
inductive EccClass where
  | clean
  | corrected
  | address
  | poison
  | bad
deriving DecidableEq, Repr

/-- A syndrome classified by the table of R163: it is odd and matches a column of a data bit or of an address bit. -/
def eccClass (syn : Nat) : EccClass :=
  if syn = 0 then .clean
  else if syn = 0xFF then .poison
  else if popcount 8 syn % 2 = 0 then .bad
  else if (List.range 64).any (fun i => (Config.dataColumn i).toNat == syn) then .corrected
  else if (List.range 29).any (fun i => (Config.addrColumn i).toNat == syn) then .address
  else .bad

/-- Bits of word `w` change, so that its syndrome changes by `syn`: the code is linear.  A poisoned word stays so. -/
def State.upset (s : State) (w syn : Nat) : State :=
  if syn = 0 ∨ tabGet false s.mem.poison w then s
  else { s with mem := { s.mem with syn := tabSet 0 s.mem.syn w (tabGet 0 s.mem.syn w ^^^ syn) } }

/-- Word `w` is found uncorrectable: it is poisoned, logged and reported (R178). -/
def State.dramBad (s : State) (w part source num code syn blk : Nat) : State :=
  let s := { s with mem := { s.mem with poison := tabSet false s.mem.poison w true, syn := tabDel s.mem.syn w } }
  let s := s.errAt 0x028 part code ((dramBase + 8 * w) % 2 ^ 32)
  let s := s.logErr (dramBase + 8 * w) part source num code syn blk
  let s := s.incSat R.MEM_UEDRAM
  let s := if code = 0x0104 then s.incSat R.MEM_ADDRERR else s
  s.raise 0x028 1

/-- A read of word `w` finds its check bits: a correctable word is corrected and written back, an uncorrectable one poisoned
(R163, R164, R178). -/
def State.dramMeet (s : State) (w part source num ueCode blk : Nat) : State :=
  let syn := tabGet 0 s.mem.syn w
  match eccClass syn with
  | .clean => s
  | .corrected => ({ s with mem := { s.mem with syn := tabDel s.mem.syn w } }.incSat R.MEM_CEDRAM).ceCount
  | .address => s.dramBad w part source num 0x0104 syn blk
  | .poison =>
    { s with mem := { s.mem with poison := tabSet false s.mem.poison w true, syn := tabDel s.mem.syn w } }
  | .bad => s.dramBad w part source num ueCode syn blk

/-- The controller reads `n` bytes from DRAM offset `o`: every word that they touch meets its check bits. -/
def State.dramRead (s : State) (o n part source num ueCode blk : Nat) : State :=
  forL (s.mem.syn.filter (fun e => decide (o < 8 * e.1 + 8) && decide (8 * e.1 < o + n)))
    (fun e t => t.dramMeet e.1 part source num ueCode blk) s

/-- Poisoned data reached a lane, the commit path or HOSTLINK (R178). -/
def State.poisonUse (s : State) (o part source num : Nat) : State :=
  let a := dramBase + o / 8 * 8
  let s := s.errAt 0x028 part 0x0105 (a % 2 ^ 32)
  let s := s.logErr a part source num 0x0105 0xFF 0
  (s.incSat R.MEM_POISONRD).raise 0x028 4

/-- A CRC failure, or with `verify` a write-verify failure, of an FRAM record at offset `o` (R169, R187).  The entry names
source 0, number 0 (DESIGN CHOICE, assumption 108). -/
def State.framBad (s : State) (part o : Nat) (verify : Bool) : State :=
  let s := if verify then s.incSatF R.MEM_FRAMERR 31 16 else s.incSatF R.MEM_FRAMERR 15 0
  let s := s.errAt 0x028 part 0x0107 o
  (s.logErr o part 0 0 0x0107 0 0).raise 0x028 6

/-! ### DMA -/

/-- How many of `n` bytes from DRAM offset `o` the DMA engine of a page may reach before the first it may not; `fuel` windows.
That of a page without an owner reaches none. -/
def State.dmaReach (s : State) (page : Nat) (write : Bool) : Nat → Nat → Nat → Nat
  | 0, _, _ => 0
  | fuel + 1, o, n =>
    if n = 0 then 0
    else match s.windowAt o with
    | none => 0
    | some w =>
      if (s.owner page).any (fun n => s.dmaAllows n w write) then
        let k := min n (s.wBase w + s.wSize w - o)
        k + s.dmaReach page write fuel (o + k) (n - k)
      else 0

/-- How a DMA transfer ended. -/
inductive Dma where
  | ok
  /-- Stopped before an address outside the allowed windows. -/
  | access
  /-- Stopped at a poisoned word. -/
  | poison
deriving DecidableEq, Repr

/-- The error-log entry of a DMA transfer that stopped before physical address `a` (R172).  A page without an owner is logged
as of partition 0 (DESIGN CHOICE, assumption 120). -/
def State.dmaLog (s : State) (page blk a : Nat) : State := s.logErr a ((s.owner page).getD 0) 3 0 0x0101 0 blk

/-- How many of `k` bytes from DRAM offset `o` a transfer reads: up to the end of the first word that is poisoned or that its
check bits call uncorrectable (R163, R178). -/
def State.goodFor (s : State) (o k : Nat) : Nat :=
  let at_ (e : Nat) : Bool := decide (o < 8 * e + 8) && decide (8 * e < o + k)
  let bad := ((s.mem.poison.filter (fun e => at_ e.1)).map (·.1)) ++
    ((s.mem.syn.filter (fun e => at_ e.1 && eccClass e.2 != .clean && eccClass e.2 != .corrected)).map (·.1))
  bad.foldl (fun m e => min m (8 * e + 8 - o)) k

/-- Bytes of a DMA read of `n` bytes from physical address `a`, by the engine of block code `blk` behind `page`.
The transfer stops before the first address outside the windows of the page's owner, or at the first poisoned word (R172,
R178), past which it reads nothing; a word that it finds uncorrectable names the engine. -/
def State.dmaRead (s : State) (page blk a n : Nat) : State × Dma × List Nat :=
  if a < dramBase then (s.dmaLog page blk a, .access, [])
  else
    let o := a - dramBase
    let k := s.dmaReach page false 65 o n
    let s := s.dramRead o (s.goodFor o k) ((s.owner page).getD 0) 3 0 0x0102 blk
    match s.firstPoison o k with
    | some w => (s, .poison, s.dramBytes o (8 * w - o))
    | none => if k < n then (s.dmaLog page blk (a + k), .access, s.dramBytes o k) else (s, .ok, s.dramBytes o n)

/-- Drop from a DMA write the bytes that would only partly overwrite a poisoned word (R178). -/
def State.dmaPut (s : State) (o : Nat) (bs : List Nat) : State :=
  if !s.poisoned o bs.length then s.dramPut o bs
  else
    let whole := wholeWords o bs.length
    let ib := (List.range bs.length).map (fun i => (o + i, bs.getD i 0))
    let keep := ib.filter (fun e => whole.contains (e.1 / 8) || !s.poisoned e.1 1)
    let s := { s with mem := { s.mem with
      poison := forL whole (fun w t => tabDel t w) s.mem.poison
      syn := forL whole (fun w t => tabDel t w) s.mem.syn } }
    { s with mem := { s.mem with dram := forL keep (fun e m => memSet m e.1 (BitVec.ofNat 8 e.2)) s.mem.dram } }

/-- A DMA write, which reads no check bits (DESIGN CHOICE, assumption 119); it stops before the first address outside the
windows. -/
def State.dmaWrite (s : State) (page blk a : Nat) (bs : List Nat) : State × Dma :=
  if a < dramBase then (s.dmaLog page blk a, .access)
  else
    let o := a - dramBase
    let k := s.dmaReach page true 65 o bs.length
    let s := s.dmaPut o (bs.take k)
    if k < bs.length then (s.dmaLog page blk (a + k), .access) else (s, .ok)

/-! ### Lane memories -/

/-- LANESTAT code of lane `l` of triad `t` (R160). -/
def State.laneState (s : State) (t l : Nat) : Nat := s.fld (R.TRI_LANESTAT t) (4 * l + 3) (4 * l)

/-- Does the lane run: ACTIVE or SPLIT? -/
def State.laneRuns (s : State) (t l : Nat) : Bool := s.laneState t l == 1 || s.laneState t l == 6

/-- The partition of a lane. -/
def State.partOfAny (s : State) (t l : Nat) : Nat :=
  ((if s.split t then s.partOfLane t l else s.partOfTriad t)).getD 0

/-- LANE_UNCORRECTABLE_ERROR: logged as UE_LOCAL; a voted lane marks its requests, a split lane takes a precise access
fault (R75, R166). -/
def execLaneUncorrectableError (dt : Nat) (t : Fin 4) (l : Fin 3) (a : BitVec 40) (syn : Byte) (s : State) :
    Host.Outcome State Fault Refusal :=
  onMain dt s fun s =>
    if !s.laneRuns t.val l.val then s
    else
      let part := s.partOfAny t.val l.val
      let sp := s.split t.val
      let s := s.errAt 0x028 part 0x0106 (a.toNat % 2 ^ 32)
      let s := s.logErr a.toNat part (b2n sp) (if sp then 2 * t.val + l.val else t.val) 0x0106 syn.toNat 0
      let s := (s.incSatF (R.MEM_LUE t.val) (8 * l.val + 7) (8 * l.val)).raise 0x028 2
      if sp then s.except part .fault
      else { s with mem := { s.mem with marked := tabSet false s.mem.marked (3 * t.val + l.val) true } }

/-- LANE_CORRECTABLE_ERROR: corrected in place and counted (R166). -/
def execLaneCorrectableError (dt : Nat) (t : Fin 4) (l : Fin 3) (s : State) : Host.Outcome State Fault Refusal :=
  onMain dt s fun s =>
    if s.laneRuns t.val l.val then (s.incSatF (R.MEM_LCE t.val) (8 * l.val + 7) (8 * l.val)).ceCount else s

/-- LANE_SCRUB: a lane scrubs its SRAM and L2 every 10 s; the three lanes of a voted triad scrub in lockstep (R167). -/
def execLaneScrub (dt : Nat) (t : Fin 4) (l : Fin 3) (s : State) : Host.Outcome State Fault Refusal :=
  onMain dt s fun s =>
    let k := 3 * t.val + l.val
    if s.bit (R.MEM_CTRL) 1 && s.laneRuns t.val l.val && s.secSince (tabGet 0 s.mem.laneScrub k) 10 then
      let ks := if s.split t.val then [k] else [3 * t.val, 3 * t.val + 1, 3 * t.val + 2]
      { s with mem := { s.mem with laneScrub := forL ks (fun i m => tabSet 0 m i s.ticks) s.mem.laneScrub } }
    else s

/-! ### Scrubbing and temperature -/

/-- The number of words of a scrub pass (R180). -/
abbrev scrubWords : Nat := dataEnd / 8

/-- The partition named for a word that the scrubber finds: the owner of its window, or 0 (R188). -/
def State.scrubPart (s : State) (o : Nat) : Nat :=
  match s.windowAt o with
  | some w => (s.wOwner w).getD 0
  | none => 0

/-- DRAM_SCRUB: the next word of the pass is read at its share of SCRUBPER; the pass that ends counts (R180).  `ecc` is what
its syndrome has changed by. -/
def execDramScrub (dt : Nat) (ecc : Byte) (s : State) : Host.Outcome State Fault Refusal :=
  onShed dt s fun s =>
    let o := s.rd64 R.MEM_SCRUBPOS
    if !s.bit R.MEM_CTRL 0 || !s.bit R.MEM_STAT 0 ||
        decide (s.ticks < s.mem.passStart + o / 8 * (s.mem.scrubPer * 100000000) / scrubWords) then s
    else
      let s := (s.upset (o / 8) ecc.toNat).dramRead o 8 (s.scrubPart o) 4 0 0x0103 0
      if o + 8 < dataEnd then s.wr64 R.MEM_SCRUBPOS (o + 8)
      else
        let s := (s.wr64 R.MEM_SCRUBPOS 0).incWrap R.MEM_SCRUBPASS
        { s with mem := { s.mem with passStart := s.ticks, scrubPer := s.fld R.MEM_SCRUBPER 16 0 } }

/-- DRAM_TEMP_POLL: every 16 ms the refresh-rate code is read; above the 85 °C nominal TEMPHI is 1 (R165). -/
def execDramTempPoll (dt : Nat) (code : Fin 8) (hi : Bool) (s : State) : Host.Outcome State Fault Refusal :=
  onShed dt s fun s =>
    if s.msSince s.mem.tempTick 16 then
      ((({ s with mem := { s.mem with tempTick := s.ticks } }.wr R.MEM_DRAMTEMP code.val).putBit R.MEM_STAT 1 hi)).raiseIf
        hi 0x028 7
    else s

/-- CE_WINDOW_END: 3,600 s windows counted from module start (R185). -/
def execCeWindowEnd (dt : Nat) (s : State) : Host.Outcome State Fault Refusal :=
  onShed dt s fun s =>
    if s.secSince s.mem.ceStart 3600 then
      { s with mem := { s.mem with ceStart := s.mem.ceStart + 360000000000, ceRaised := false } }.wr R.MEM_CERATE 0
    else s

/-- MEM_CNTCLR: clear every counter of the page but SCRUBPASS (R187). -/
def execMemCntclr (dt : Nat) (who : Init) (v : Word) (s : State) : Host.Outcome State Fault Refusal :=
  onMain dt s fun s => s.cmdW who 0x02A 0xC00 fun _ => onOne v fun s =>
    s.zero ([R.MEM_CEDRAM, R.MEM_UEDRAM, R.MEM_ADDRERR, R.MEM_POISONRD, R.MEM_FRAMERR] ++
      (List.range 4).map (fun t => R.MEM_LCE t) ++ (List.range 4).map (fun t => R.MEM_LUE t))

/-- ELNEXT: remove the oldest entry of the error log (R188). -/
def execElnext (dt : Nat) (who : Init) (v : Word) (s : State) : Host.Outcome State Fault Refusal :=
  onMain dt s fun s => s.cmdW who 0x02B 0xC00 fun _ => onOne v fun s =>
    { s with mem := { s.mem with elog := s.mem.elog.drop 1 } }

/-- The check of a MEM page (R185, R187). -/
def State.memCheck (s : State) (p : Nat) : Verdict :=
  if p = 0x028 then rangeIf (decide (1 ≤ s.shFld R.MEM_CETHR 15 0))
  else if p = 0x02A then rangeIf (within 600 86400 (s.shFld R.MEM_SCRUBPER 16 0))
  else .ok

/-- SCRUBRUN: the scrubber runs when SCRUBEN is set and the memory is initialised (R180, R185). -/
def State.scrubShow (s : State) : State := s.putBit R.MEM_STAT 2 (s.bit R.MEM_CTRL 0 && s.bit R.MEM_STAT 0)

/-- SCRUBRUN follows SCRUBEN when page 0x028 commits. -/
def State.memApplied (s : State) (p : Nat) : State := if p = 0x028 then s.scrubShow else s

end Sys2Proof.Machine
end

