-- ==== Sys2Proof/Machine/Evr.lean ====
section
/-! DEFINITION. EVR: records, the Mayfly buffer, flushing, storage, reading and clearing (R506 to R517, R526). -/
namespace Sys2Proof.Machine

/-- Room in Mayfly: fewer than 4,096 unflushed records. -/
def State.mayRoom (s : State) : Bool := decide (s.evr.may.length < 4096)

/-- Put one record into Mayfly with the next sequence number; the record is visible from entry, and ES252 follows for
a class at least CTRL.EVCLASS (R509).  An earlier stamp of the same source is clamped (R507). -/
def State.mayPut (s : State) (src inst code cls origin stamp : Nat) (pay : List Nat) : State :=
  let key := src * 256 + inst
  let last := tabGet 0 s.evr.last key
  let clamped := decide (stamp < last)
  let st := if clamped then last else stamp
  let r : EvRec :=
    { seq := s.evr.next, stamp := st, src := src, inst := inst, code := code, cls := cls
      flags := b2n s.timeLocked + 2 * b2n (s.bit (hStat 0x050) 3) + 4 * b2n clamped
      origin := origin, pay := pay, startCnt := s.rd R.LIFE_STARTCNT, tick := s.ticks }
  let s := { s with evr := { s.evr with
    may := s.evr.may ++ [r], next := s.evr.next + 1, last := tabSet 0 s.evr.last key st } }
  (s.wr64 R.EVR_NEW r.seq).raiseIf (decide (s.fld R.EVR_CTRL 2 0 ≤ cls)) 0x0C8 0

/-- Origin of a hardware record: the owner of the producing block's first page, or the mark that it had none (R506). -/
def State.hwOrigin (s : State) (page : Nat) : Nat :=
  match s.owner page with
  | some n => 0x80 + n
  | none => 0xC0

/-- Enter a record.  A full Mayfly drops it; the first entry after room returns is preceded by a LOST record (R509). -/
def State.enter (s : State) (src inst code cls origin stamp : Nat) (pay : List Nat) : State :=
  if !s.mayRoom then
    ({ s with evr := { s.evr with lost := s.evr.lost + 1 } }.incSat R.EVR_DROPCNT).raise 0x0C8 1
  else if s.evr.lost = 0 then s.mayPut src inst code cls origin stamp pay
  else
    let s := { s.mayPut 0x15 0 0x0001 2 (s.hwOrigin 0x0C8) s.moduleTime [s.evr.lost] with
      evr := { (s.mayPut 0x15 0 0x0001 2 (s.hwOrigin 0x0C8) s.moduleTime [s.evr.lost]).evr with lost := 0 } }
    if s.mayRoom then s.mayPut src inst code cls origin stamp pay
    else ({ s with evr := { s.evr with lost := 1 } }.incSat R.EVR_DROPCNT).raise 0x0C8 1

/-- Enter a hardware record of a block whose first page is `page`. -/
def State.record (s : State) (src code cls page stamp : Nat) (pay : List Nat) : State :=
  s.enter src 0 code cls (s.hwOrigin page) stamp pay

/-- The 64 bytes of a record, its CRC-32C last (R506). -/
def EvRec.image (r : EvRec) : List Nat :=
  let pay := (List.range 8).flatMap (fun i => bytesOf 4 (r.pay.getD i 0))
  let b := bytesOf 8 r.seq ++ bytesOf 8 r.stamp ++ [r.src % 256, r.inst % 256] ++ bytesOf 2 r.code ++
    [r.cls % 256, r.flags % 256] ++ bytesOf 2 r.origin ++ pay ++ bytesOf 4 r.startCnt
  b ++ bytesOf 4 (crc32c b)

/-! ### The archive (R511) -/

/-- The first sequence number of a block. -/
def EvBlock.first (b : EvBlock) : Nat := (b.recs.head?.map EvRec.seq).getD 0

/-- The 4 KiB of a block; records not yet there read as zeros (DESIGN CHOICE, assumption 151). -/
def EvBlock.image (b : EvBlock) : List Nat :=
  (b.recs.flatMap EvRec.image) ++ List.replicate (64 * (64 - b.recs.length)) 0

/-- The 16-byte index entry of a block: the first number, the count and the CRC-32C over the block. -/
def EvBlock.index (b : EvBlock) : List Nat :=
  bytesOf 8 b.first ++ bytesOf 4 b.recs.length ++ bytesOf 4 (crc32c b.image)

/-- First position and number of positions of the area of a record. -/
def evArea (seq : Nat) : Nat × Nat := if seq < 16384 then (0, 260) else (260, 16400)

/-- The first position of an area from `c` on, cyclically, that is not used. -/
def freePos (used : List Nat) (a : Nat × Nat) : Nat → Nat → Nat
  | 0, c => a.1 + c % a.2
  | fuel + 1, c => if used.contains (a.1 + c % a.2) then freePos used a fuel (c + 1) else a.1 + c % a.2

/-- The next free position for a block that starts with record `seq`: after the block written last in its area. -/
def nextPos (l : List EvBlock) (seq : Nat) : Nat :=
  let a := evArea seq
  let own := l.filter (fun b => evArea b.first == a)
  freePos (own.map EvBlock.pos) a own.length (match own.getLast? with | some b => b.pos + 1 - a.1 | none => 0)

/-- Write records of one block with its index entry, behind those that a partly filled block holds; the old position is
released, unless `held` says that the flush was cut off before. -/
def writeBlock (held : Bool) (l : List EvBlock) (g : List EvRec) : List EvBlock :=
  match g with
  | [] => l
  | r :: _ =>
    match l.find? (fun b => b.first / 64 == r.seq / 64 && decide (b.first < r.seq)) with
    | some b =>
      let new : EvBlock := { pos := nextPos l r.seq, recs := b.recs.filter (fun x => decide (x.seq < r.seq)) ++ g }
      (if held then l else l.filter (fun x => x.pos != b.pos)) ++ [new]
    | none => l ++ [{ pos := nextPos l r.seq, recs := g }]

/-- The records of a flush by block. -/
def evGroups : List EvRec → List (List EvRec)
  | [] => []
  | r :: t =>
    match evGroups t with
    | (x :: g) :: gs => if x.seq / 64 = r.seq / 64 then (r :: x :: g) :: gs else [r] :: (x :: g) :: gs
    | gs => [r] :: gs

/-- The oldest full blocks of the recent area that more than 16,384 newer ones follow. -/
def surplusBlocks (l : List EvBlock) : List EvBlock :=
  let full := l.filter (fun b => decide (16384 ≤ b.first) && b.recs.length == 64)
  full.take (full.length - 16384)

/-- Records of the founding area among those stored. -/
def foundCount (l : List EvBlock) : Nat :=
  (l.filter (fun b => decide (b.first < 16384))).foldl (fun n b => n + b.recs.length) 0

/-- The oldest record held in the recent area. -/
def State.evrOld (s : State) : Nat :=
  ((s.evr.stored.flatMap EvBlock.recs).foldl (fun (m : Option Nat) r =>
    if r.seq < s.evr.recentFrom ∨ m.any (fun x => x < r.seq) then m else some r.seq) none).getD 0

/-- Show what the archive holds. -/
def State.evrShow (s : State) : State := (s.wr R.EVR_FOUNDCNT (foundCount s.evr.stored)).wr64 R.EVR_OLD s.evrOld

/-- A record still held, in Mayfly or on the eMMC; records of the recent area below its first are absent (R513, R515). -/
def State.findRec (s : State) (n : Nat) : Option EvRec :=
  match s.evr.may.find? (fun r => r.seq == n) with
  | some r => some r
  | none =>
    if 16384 ≤ n ∧ n < s.evr.recentFrom then none
    else s.evr.stored.findSome? (fun b => b.recs.find? (fun r => r.seq == n))

/-- Has a flush trigger of R510 come? -/
def State.flushDue (s : State) : Bool :=
  s.evr.want || decide (64 ≤ s.evr.may.length) ||
  (match s.evr.may with
   | r :: _ => s.msSince r.tick (s.fld R.EVR_FLUSHIVL 15 0)
   | [] => false) ||
  s.evr.may.any (fun r => decide (3 ≤ r.cls) && s.msSince r.tick 10)

/-- Start a flush of what Mayfly now holds; records that enter later wait for the next one. -/
def State.flushStart (s : State) : State :=
  { s with evr := { s.evr with flushing := s.evr.may.length, want := false } }.putBit (hStat 0x0C8) 1 true

/-- EVR_FLUSH: a trigger of R510 has come and no flush runs. -/
def execEvrFlush (dt : Nat) (s : State) : Host.Outcome State Fault Refusal :=
  onShed dt s fun s => if s.flushDue && !s.bit (hStat 0x0C8) 1 then s.flushStart else s

/-- Store the records of a finished flush, and release the full blocks that the recent area no longer needs. -/
def State.storeFlushed (s : State) : State :=
  let done := s.evr.may.take s.evr.flushing
  let stored := (evGroups done).foldl (writeBlock false) s.evr.stored
  let gone := surplusBlocks stored
  let top := match done.getLast? with | some r => r.seq + 1 | none => 0
  let s : State := { s with evr := { s.evr with
    may := s.evr.may.drop s.evr.flushing, flushing := 0
    stored := stored.filter (fun b => !gone.any (fun x => x.pos == b.pos))
    recentFrom := gone.foldl (fun m (b : EvBlock) => max m (b.first + 64)) s.evr.recentFrom
    clr := s.evr.clr.map (fun (c : EvrClr) => { c with flushed := c.flushed || decide (c.below < top) }) } }
  ((s.putBit (hStat 0x0C8) 1 false).putBit (hStat 0x0C8) 0 true).evrShow

/-- A flush that the main domain's fall cuts off: how many of its blocks are written, and whether the position that the last
of them replaces is released already, is open. -/
def State.flushCut (s : State) : State :=
  if !s.bit (hStat 0x0C8) 1 then s
  else
    let g := evGroups (s.evr.may.take s.evr.flushing)
    let a := s.draw 7
    let b := a.2.draw 1
    let n := a.1 % (g.length + 1)
    { b.2 with evr := { b.2.evr with
      stored := (g.drop (n - 1)).head?.toList.foldl (writeBlock (b.1 == 1)) ((g.take (n - 1)).foldl (writeBlock false) s.evr.stored) } }

/-- Steps 1 and 2 of R515: the CLEAR record enters, and a flush that includes it is asked. -/
def State.clrEnter (s : State) (n : Nat) : State :=
  let first := s.evr.recentFrom
  let seq := s.evr.next + (if s.evr.lost = 0 then 0 else 1)
  let last := seq - 1
  let s := s.record 0x15 0x0002 1 0x0C8 s.moduleTime
    [first % 2 ^ 32, first / 2 ^ 32, last % 2 ^ 32, last / 2 ^ 32, n]
  { s with evr := { s.evr with want := true, clr := some { below := seq }, clrWait := none } }

/-- A clear that waited for the flush starts (R516). -/
def State.clrNext (s : State) : State :=
  match s.evr.clrWait with
  | some n => s.clrEnter n
  | none => s

/-- EVR_FLUSH_DONE: blocks and index entries are written, or a write error abandons the flush and the records stay in
Mayfly (R511, R512). -/
def execEvrFlushDone (dt : Nat) (ok : Bool) (s : State) : Host.Outcome State Fault Refusal :=
  onShed dt s fun s =>
    if !s.bit (hStat 0x0C8) 1 then s
    else if ok then s.storeFlushed.clrNext
    else
      let s := { s with evr := { s.evr with flushing := 0 } }
      ((((s.putBit (hStat 0x0C8) 1 false).putBit (hStat 0x0C8) 0 false).incSatF R.EVR_STORERR 31 16).raise 0x0C8 2).clrNext

/-- EVR_FLUSH_CMD: a write of FLUSH asks for a flush (R510, R526). -/
def execEvrFlushCmd (dt : Nat) (who : Init) (v : Word) (s : State) : Host.Outcome State Fault Refusal :=
  onMain dt s fun s => s.cmdW who 0x0C8 0xC00 fun _ => onOne v fun s =>
    { s with evr := { s.evr with want := true } }

/-- RDGO: start the read of record RDSEQ, or refuse it with READ_BUSY (R513). -/
def execRdgo (dt : Nat) (who : Init) (v : Word) (s : State) : Host.Outcome State Fault Refusal :=
  onMain dt s fun s => s.cmdW who 0x0C9 0xC00 fun n => onOne v fun s =>
    if s.bit R.EVR_RDSTAT 0 then s.err 0x0C9 n 0x0101 R.EVR_RDGO
    else { s with evr := { s.evr with rd := some (s.rd64 R.EVR_RDSEQ) } }.wr R.EVR_RDSTAT 1

/-- EVR_READ_DONE: RDREC holds the record and RDSTAT shows READY, or RDSTAT shows ABSENT (R513). -/
def execEvrReadDone (dt : Nat) (s : State) : Host.Outcome State Fault Refusal :=
  onShed dt s fun s =>
    match s.evr.rd with
    | none => s
    | some q =>
      let s := { s with evr := { s.evr with rd := none } }
      match s.findRec q with
      | none => s.wr R.EVR_RDSTAT 4
      | some r =>
        let b := r.image
        (forN 16 (fun i t => t.wr (R.EVR_RDREC i) (fromBytes ((b.drop (4 * i)).take 4))) s).wr R.EVR_RDSTAT 2

/-- SWGO: enter a software record from SWCODE and SWPAY, subject to SWRATE (R514). -/
def execSwgo (dt : Nat) (who : Init) (v : Word) (s : State) : Host.Outcome State Fault Refusal :=
  onMain dt s fun s => s.cmdW who 0x0C9 0xC04 fun n => onOne v fun s =>
    let now := s.moduleTime
    let recent := s.evr.sw.filter (fun t => decide (now < t + 4000000000) && decide (t ≤ now))
    if 4 < s.fld R.EVR_SWCODE 18 16 then s.err 0x0C9 n eBadValue R.EVR_SWGO
    else if recent.length < s.fld R.EVR_CFG 15 8 then
      { s with evr := { s.evr with sw := recent ++ [now] } }.enter 0x00 n (s.fld R.EVR_SWCODE 15 0)
        (s.fld R.EVR_SWCODE 18 16) n now ((List.range 8).map (fun i => s.rd (R.EVR_SWPAY i)))
    else { s with evr := { s.evr with sw := recent } }.incSat R.EVR_DROPCNT

/-- Arm a clear for 10 s. -/
def State.clrArm (s : State) : State :=
  { s with evr := { s.evr with armTick := s.ticks } }.putBit (hStat 0x0C8) 2 true

/-- Is a clear armed, within its 10 s? -/
def State.clrArmed (s : State) : Bool := s.bit (hStat 0x0C8) 2 && !s.secSince s.evr.armTick 10

/-- A clear is accepted: it starts now, or when the flush that runs ends (R515, R516). -/
def State.clrStart (s : State) (n : Nat) : State :=
  let s := s.putBit (hStat 0x0C8) 2 false
  if s.bit (hStat 0x0C8) 1 then { s with evr := { s.evr with clrWait := some n } } else s.clrEnter n

/-- CLRCMD_ARM: arm a clear; only with CFG.CLREN = 1 (R515). -/
def execClrcmdArm (dt : Nat) (who : Init) (v : Word) (s : State) : Host.Outcome State Fault Refusal :=
  onMain dt s fun s => s.cmdW who 0x0C8 0xC04 fun n s => s.keyed 0x0C8 0xC04 n 0xE5C1 v fun s =>
    if nf v.toNat 1 0 = 1 ∧ s.bit R.EVR_CFG 0 then s.clrArm else s

/-- CLRCMD_CLEAR: start the clear, or refuse it with CLR_NOTARMED (R515). -/
def execClrcmdClear (dt : Nat) (who : Init) (v : Word) (s : State) : Host.Outcome State Fault Refusal :=
  onMain dt s fun s => s.cmdW who 0x0C8 0xC04 fun n s => s.keyed 0x0C8 0xC04 n 0xE5C1 v fun s =>
    if nf v.toNat 1 0 ≠ 2 then s
    else if s.clrArmed && s.bit R.EVR_CFG 0 then s.clrStart n
    else s.err 0x0C8 n 0x0102 R.EVR_CLRCMD

/-- EVR_CLEAR_DONE: steps 3 and 4 of R515, once the flush that includes the CLEAR record has ended. -/
def execEvrClearDone (dt : Nat) (s : State) : Host.Outcome State Fault Refusal :=
  onShed dt s fun s =>
    match s.evr.clr with
    | none => s
    | some c =>
      if !c.flushed then s
      else
        let keep := s.evr.stored.filter (fun b => decide (b.first < 16384) || b.recs.any (fun r => decide (c.below ≤ r.seq)))
        let s := { s with evr := { s.evr with stored := keep, recentFrom := max c.below 16384, clr := none } }
        (s.evrShow.incWrap R.EVR_CLRCNT).raise 0x0C8 3

/-- CLEAR_ARM_EXPIRY: 10 s after ARM the arm lapses (R515). -/
def execClearArmExpiry (dt : Nat) (s : State) : Host.Outcome State Fault Refusal :=
  onMain dt s fun s =>
    if s.bit (hStat 0x0C8) 2 && s.secSince s.evr.armTick 10 then s.putBit (hStat 0x0C8) 2 false else s

/-- EVR_CNTCLR: clear DROPCNT and STORERR (R526). -/
def execEvrCntclr (dt : Nat) (who : Init) (v : Word) (s : State) : Host.Outcome State Fault Refusal :=
  onMain dt s fun s => s.cmdW who 0x0C8 0xC08 fun _ => onOne v fun s => s.zero [R.EVR_DROPCNT, R.EVR_STORERR]

end Sys2Proof.Machine
end

