-- ==== Sys2Proof/Machine/Life.lean ====
section
/-! DEFINITION. LIFE: the 128 counters, their saves and alarms, and the calendar (R518 to R524, R527). -/
namespace Sys2Proof.Machine

/-- KIND and SRC of counter `k` (R518). -/
def State.lifeKind (s : State) (k : Nat) : Nat := s.fld (R.LIFE_CFG k) 2 0
def State.lifeSrc (s : State) (k : Nat) : Nat := s.fld (R.LIFE_CFG k) 31 16

/-- Add to counter `k`, which saturates; reaching or passing ALMk sets its ALMSTAT bit and raises ES256 once
(R518, R521). -/
def State.lifeCount (s : State) (k n : Nat) : State :=
  let old := s.rd64 (R.LIFE_VAL k)
  let new := satAdd (2 ^ 64 - 1) old n
  let alm := s.rd64 (R.LIFE_ALM k)
  let s := s.wr64 (R.LIFE_VAL k) new
  if old < alm ∧ alm ≤ new then (s.putBit (R.LIFE_ALMSTAT (k / 32)) (k % 32) true).raise 0x0CA 0 else s

/-- Add to every counter of a kind and source. -/
def State.lifeAdd (s : State) (kind src n : Nat) : State :=
  forN 128 (fun k t => if t.lifeKind k = kind ∧ t.lifeSrc k = src then t.lifeCount k n else t) s

/-- Save the counter table to the other FRAM slot, header last (R520). -/
def State.lifeStore (s : State) : State :=
  { s with life := { s.life with
      older := s.life.saved
      saved := some
        { vals := (List.range 128).filterMap (fun k =>
            if s.rd64 (R.LIFE_VAL k) = 0 then none else some (k, s.rd64 (R.LIFE_VAL k)))
          cfgs := (List.range 128).filterMap (fun k =>
            if s.rd (R.LIFE_CFG k) = 0 then none else some (k, s.rd (R.LIFE_CFG k)))
          startCnt := s.rd R.LIFE_STARTCNT }
      saveTick := s.ticks } }

/-- LIFE_SAVE: LIFESAVE seconds after the last save the table is saved; a save that fails leaves the other slot newest
and raises ES257 (R520). -/
def execLifeSave (dt : Nat) (ok : Bool) (s : State) : Host.Outcome State Fault Refusal :=
  onMain dt s fun s =>
    if s.stage ≠ 5 ∨ !s.secSince s.life.saveTick (s.fld R.LIFE_LIFESAVE 9 0) then s
    else if ok then s.lifeStore
    else { s with life := { s.life with saveTick := s.ticks, older := none } }.raise 0x0CA 1

/-- CNTCMD_ADD: count one in a SOFT counter (R518); for another kind the write is ignored with BAD_VALUE
(assumption 13). -/
def execCntcmdAdd (dt : Nat) (who : Init) (v : Word) (s : State) : Host.Outcome State Fault Refusal :=
  onMain dt s fun s => s.cmdW who 0x0CA 0xC00 fun n s => s.keyed 0x0CA 0xC00 n 0x1F3D v fun s =>
    let k := nf v.toNat 14 8
    if nf v.toNat 1 0 ≠ 1 then s
    else if s.lifeKind k = 4 then s.lifeCount k 1 else s.err 0x0CA n eBadValue R.LIFE_CNTCMD

/-- CNTCMD_RESET: set a counter to 0 and enter a CNTRESET record; a PERM counter refuses it (R521). -/
def execCntcmdReset (dt : Nat) (who : Init) (v : Word) (s : State) : Host.Outcome State Fault Refusal :=
  onMain dt s fun s => s.cmdW who 0x0CA 0xC00 fun n s => s.keyed 0x0CA 0xC00 n 0x1F3D v fun s =>
    let k := nf v.toNat 14 8
    if nf v.toNat 1 0 ≠ 2 then s
    else if s.bit (R.LIFE_CFG k) 3 then s.err 0x0CA n 0x0101 R.LIFE_CNTCMD
    else
      let old := s.rd64 (R.LIFE_VAL k)
      (s.wr64 (R.LIFE_VAL k) 0).record 0x16 0x0001 1 0x0CA s.moduleTime
        [k, 0, old % 2 ^ 32, old / 2 ^ 32, s.rd (R.LIFE_CFG k)]

/-! ### The calendar -/

/-- CALTRIM in 0.1 ppm (R527). -/
def State.calTrim (s : State) : Int := sx 16 (s.rd R.LIFE_CALTRIM)

/-- The trimmed time since `calTick` and the part before it, in 10^-15 of 1/32,768 s (R522, assumption 14). -/
def State.calPast (s : State) : Nat :=
  s.life.calFrac + ((((s.ticks - s.life.calTick) * 32768 : Nat) : Int) * (10000000 + s.calTrim)).toNat

/-- The calendar now, in 1/32,768 s: its last setting and the trimmed time since (R522). -/
def State.calNow (s : State) : Nat := s.life.cal + s.calPast / 1000000000000000

/-- Set the calendar, in 1/32,768 s. -/
def State.calSet (s : State) (c : Nat) : State :=
  { s with life := { s.life with cal := c, calTick := s.ticks, calFrac := 0 } }

/-- The calendar goes on from here at another trim. -/
def State.calHold (s : State) : State :=
  { s with life := { s.life with cal := s.calNow, calTick := s.ticks, calFrac := s.calPast % 1000000000000000 } }

/-- UTC as module time has it, in 0.25 ns units (R523). -/
def State.utcNow (s : State) : Int := (s.moduleTime : Int) - sx 16 (s.rd R.TMB_TAIUTC) * 4000000000

/-- CALENDAR_DISCIPLINE: every 64 s while time is locked (R523). -/
def execCalendarDiscipline (dt : Nat) (s : State) : Host.Outcome State Fault Refusal :=
  onShed dt s fun s =>
    if s.timeLocked && s.secSince s.life.discTick 64 then
      let old := s.calNow
      let utc := s.utcNow
      let d : Int := (old : Int) * 4000000000 / 32768 - utc
      let new := (utc * 32768 / 4000000000).toNat
      let s := { s with life := { s.life with discTick := s.ticks, calTai := some (s.fld R.TMB_TAIUTC 15 0) } }
      let s := if 4000000 < d.natAbs then s.calSet new else s.calHold
      let s := if 4000000000 < d.natAbs then
          (s.record 0x16 0x0003 1 0x0CA s.moduleTime [old / 32768 % 2 ^ 32, old / 32768 / 2 ^ 32,
            new / 32768 % 2 ^ 32, new / 32768 / 2 ^ 32]).raise 0x0CB 1
        else s
      let t := clampInt (-2000) 2000 (s.calTrim - Int.tdiv d 25600)
      ((s.wr R.LIFE_CALTRIM (toBits 16 t)).putBit R.LIFE_CALSTAT 0 true).putBit R.LIFE_CALSTAT 1 (decide (t ≠ 0))
    else s

/-- CALGO: set the calendar to CALSET seconds, or refuse with CAL_LOCKED while time is locked (R524). -/
def execCalgo (dt : Nat) (who : Init) (v : Word) (s : State) : Host.Outcome State Fault Refusal :=
  onMain dt s fun s => s.cmdW who 0x0CB 0xC00 fun n s => s.keyed 0x0CB 0xC00 n 0x0CA1 v fun s =>
    if !nb v.toNat 0 then s
    else if s.timeLocked then s.err 0x0CB n 0x0102 R.LIFE_CALGO
    else
      let old := s.calNow / 32768
      let new := s.rd64 R.LIFE_CALSET
      ((s.calSet (new * 32768)).record 0x16 0x0003 1 0x0CA s.moduleTime
        [old % 2 ^ 32, old / 2 ^ 32, new % 2 ^ 32, new / 2 ^ 32]).putBit R.LIFE_CALSTAT 0 true

/-- CALENDAR_STOP: the calendar oscillator stops, so VALID clears; what the calendar counts until it is set again is open in the
spec, and the model lets it count on (R522, DESIGN CHOICE, assumption 14). -/
def execCalendarStop (dt : Nat) (s : State) : Host.Outcome State Fault Refusal :=
  always dt s fun s => s.putBit R.LIFE_CALSTAT 0 false

end Sys2Proof.Machine
end

