-- ==== Sys2Proof/Machine/Dio.lean ====
section
/-! DEFINITION. DIO: digital inputs, edge queues, outputs, readback, test pulses and group latches (R345 to R367). -/
namespace Sys2Proof.Machine

/-! ### Inputs -/

def State.di (s : State) (i : Nat) : DiIn := tabGet {} s.dio.di i
def State.setDi (s : State) (i : Nat) (d : DiIn) : State :=
  { s with dio := { s.dio with di := tabSet {} s.dio.di i d } }

/-- FILT times in µs (R346); 15 is refused. -/
def filtUs (f : Nat) : Nat :=
  [5, 10, 20, 50, 100, 200, 500, 1000, 2000, 3000, 5000, 10000, 20000, 50000, 100000].getD f 0

/-- Word and bit of DI `i` in LEV and RAW. -/
def State.diLevel (s : State) (i : Nat) : Bool := s.bit (R.DIO_LEV + 4 * (i / 32)) (i % 32)
def State.diRaw (s : State) (i : Nat) : Bool := s.bit (R.DIO_RAW + 4 * (i / 32)) (i % 32)
def State.diInv (s : State) (i : Nat) : Bool := s.bit (R.DIO_DICFG i) 6
def State.diOn (s : State) (i : Nat) : Bool := s.bit R.DIO_CTRL (i / 8)

/-- The last change of DI `i` at or before an instant. -/
def DiIn.changeAt (d : DiIn) (inst : Nat) : Option (Nat × Nat × Bool) := d.hist.find? (fun e => decide (e.1 ≤ inst))

/-- The filtered level of DI `i` at an instant, and the instant since which it has stood then. -/
def State.diLevelAt (s : State) (i inst : Nat) : Bool :=
  match (s.di i).changeAt inst with
  | some e => e.2.2
  | none => match (s.di i).hist.getLast? with
    | some e => !e.2.2
    | none => s.diLevel i
def State.diSinceAt (s : State) (i inst : Nat) : Nat := (((s.di i).changeAt inst).map (·.1)).getD 0

/-- DI `i` is accepted OFF: RSTSTUCK clears on the functions that name it (R374). -/
def State.stuckEnd (s : State) (i : Nat) : State :=
  forN 16 (fun f t => if t.fld (R.SFN_FAUX (f / 8) (f % 8)) 5 0 = i then t.putBit (R.SFN_FSTATE f) 4 false else t) s

/-- A press of DI `i` has ended with its accepted OFF: SFN judges it at the next evaluation (R373). -/
def State.pressEnd (s : State) (i start inst : Nat) : State :=
  { s with sfn := { s.sfn with press := s.sfn.press ++ [(i, start, inst)] } }

/-- Any bit of the XCONN words of input group `g`. -/
def State.groupXconn (s : State) (g : Nat) : Bool :=
  decide ((if g < 4 then s.fld R.DIO_XCONN0 (8 * g + 7) (8 * g) else s.fld R.DIO_XCONN1 (8 * (g - 4) + 7) (8 * (g - 4))) ≠ 0)

/-- An input group as CYC source (R358): data, quality and stamp. -/
def State.diSrc (s : State) (e : MapEnt) : List Nat × Nat × Nat :=
  ([forN 8 (fun j v => nputb v j (s.diLevel (8 * e.item + j))) 0],
    qual (s.bit R.DIO_CTRL e.item) false false (s.groupXconn e.item),
    forN 8 (fun j m => max m ((((s.di (8 * e.item + j)).hist.head?).map (·.2.1)).getD 0)) 0)

/-- The changes that a snapshot, a set or an evaluation of SFN may still ask for: those of the last 1 ms and since the last
evaluation, and the one before them. -/
def State.diKeep (s : State) (l : List (Nat × Nat × Bool)) : List (Nat × Nat × Bool) :=
  let from_ := min (s.moduleTime - 4000000) (if s.bit R.SFN_CTRL 0 then s.sfn.evalInst else s.moduleTime)
  l.takeWhile (fun e => decide (from_ ≤ e.1)) ++ (l.dropWhile (fun e => decide (from_ ≤ e.1))).take 1

/-- Set the filtered level of DI `i`, changed at a stamp and, on the present scale of module time, at `at_`.  A change that is no
accepted edge begins and ends no press. -/
def State.setDiLevel (s : State) (i : Nat) (l : Bool) (inst at_ : Nat) : State :=
  let d := s.di i
  if s.diLevel i = l then s.setDi i { d with press := false }
  else
    ((s.putBit (R.DIO_LEV + 4 * (i / 32)) (i % 32) l).setDi i
      { d with hist := s.diKeep ((at_, inst, l) :: d.hist), press := false }).srcReport
      (fun e => e.kind == 0x01 && e.item == i / 8) State.diSrc

def State.edges (s : State) (g : Nat) : List (Nat × Nat × Bool) := tabGet [] s.dio.eq g

/-- Enter an accepted edge in its group's queue; a full queue drops it (R347). -/
def State.edgePut (s : State) (i inst : Nat) (l : Bool) : State :=
  let g := i / 8
  let q := s.edges g
  if q.length < 64 then
    { s with dio := { s.dio with eq := tabSet [] s.dio.eq g (q ++ [(inst, i, l)]) } }.wr (R.DIO_EQCNT g) (q.length + 1)
  else
    ({ s with dio := { s.dio with eqDrop := nputb s.dio.eqDrop g true } }.incSat (R.DIO_EQOVR g)).raise 0x092 0

/-- The change in the filter of DI `i` is accepted: stamped at the raw edge plus FILT, queued and counted (R346). -/
def State.diAccept (s : State) (i : Nat) : State :=
  let d := s.di i
  match d.chg with
  | none => s
  | some (_, inst, us) =>
    let at_ : Nat := (inst + 4000 * us) % 2 ^ 64
    let l := !d.acc != s.diInv i
    let s := s.setDi i { d with acc := !d.acc, chg := none }
    let end_ : Nat := ((at_ : Int) + d.shift).toNat
    let s := s.setDiLevel i l at_ end_
    let s := if l then s.setDi i { s.di i with press := true }
      else
        let t := s.stuckEnd i
        if d.press && s.bit R.SFN_CTRL 0 then t.pressEnd i (((d.hist.head?).map (·.1)).getD 0) end_ else t
    let s := s.incWrapF (R.DIO_EDGECNT i) 15 0
    let s := if l then s.lifeAdd 2 i 1 else s
    if (l && s.bit (R.DIO_DICFG i) 4) || (!l && s.bit (R.DIO_DICFG i) 5) then
      (s.edgePut i at_ l).raise 0x090 0
    else s

/-- Has the change in the filter of DI `i` been held for FILT at an instant in 1.25 ns? -/
def State.diHeld (s : State) (i e : Nat) : Bool :=
  match (s.di i).chg with
  | some (t, _, us) => decide (t + 800 * us ≤ e)
  | none => false

/-- Has it been held for FILT in the present tick? -/
def State.diDue (s : State) (i : Nat) : Bool := s.diHeld i (8 * s.ticks + 7)

/-- The stamp of the raw edge in the filter of DI `i` plus FILT. -/
def State.diAt (s : State) (i : Nat) : Nat :=
  match (s.di i).chg with
  | some (_, inst, us) => inst + 4000 * us
  | none => 0

/-- Accept the change of DI `i`, which is due, and before it every earlier one that is due in its group: the group's edges
are queued in stamp order (R347). -/
def State.diTake (s : State) (i : Nat) : State :=
  let due := (List.range 8).map (8 * (i / 8) + ·) |>.filter (fun j => s.diOn j && s.diDue j && decide (s.diAt j ≤ s.diAt i))
  forL ((due.filter (· != i)).mergeSort (fun a b => decide (s.diAt a ≤ s.diAt b))) (fun j t => t.diAccept j) s |>.diAccept i

/-- The raw level that the filter of DI `i` sees has become `r` at phase `ph` of this tick: it starts, ends or leaves a change.
A change that ends before FILT is a suppressed pulse. -/
def State.diSeen (s : State) (i : Nat) (r : Bool) (ph : Nat) : State :=
  let e := 8 * s.ticks + ph % 8
  let s := if s.diHeld i e then s.diTake i else s
  let d := s.di i
  match d.chg with
  | none => if r = d.acc then s
    else s.setDi i { d with chg := some (e, s.stamp ph, filtUs (s.fld (R.DIO_DICFG i) 3 0)), shift := 0 }
  | some _ => if r = d.acc then (s.setDi i { d with chg := none }).incSatF (R.DIO_EDGECNT i) 31 16 else s

/-- DI_RAW_EDGE: a raw threshold crossing of the terminal (R346); a frozen filter does not see it (R355). -/
def execDiRawEdge (dt : Nat) (i : Fin 48) (ph : Fin 8) (level : Bool) (s : State) :
    Host.Outcome State Fault Refusal :=
  onMain dt s fun s =>
    let i := i.val
    let s := s.putBit (R.DIO_RAW + 4 * (i / 32)) (i % 32) level
    let d := s.di i
    if d.frozen.isSome then s.setDi i { d with sawOff := d.sawOff || !level }
    else if s.diOn i then s.diSeen i level ph.val
    else s

/-- DI_EDGE_ACCEPT: the input has held its new level for FILT (R346). -/
def execDiEdgeAccept (dt : Nat) (i : Fin 48) (s : State) : Host.Outcome State Fault Refusal :=
  onMain dt s fun s => if s.diOn i.val && s.diDue i.val then s.diTake i.val else s

/-- EQPOP: remove and return the oldest edge; 0 for an empty queue, and QUEUE_MAPPED for a mapped one (R347). -/
def execEqpop (dt : Nat) (who : Init) (g : Fin 6) (s : State) : Host.Outcome State Fault Refusal :=
  onMain dt s fun s => s.cmdR who 0x092 (0xC00 + 4 * g.val) fun n s =>
    if s.bit R.DIO_EQMAP g.val then { s.err 0x092 n 0x0103 (R.DIO_EQPOP g.val) with resp := .data 0 }
    else match s.edges g.val with
    | [] => { s with resp := .data 0 }
    | (inst, i, l) :: t =>
      let s := { s with dio := { s.dio with eq := tabSet [] s.dio.eq g.val t } }
      { (s.wr (R.DIO_EQCNT g.val) t.length).wr64 (R.DIO_EQSTAMP g.val) inst with
        resp := .data (0x80000000 + b2n l * 256 + i) }

/-! ### Outputs -/

def State.doCh (s : State) (k : Nat) : DoCh := tabGet {} s.dio.ch k
def State.setDoCh (s : State) (k : Nat) (c : DoCh) : State :=
  { s with dio := { s.dio with ch := tabSet {} s.dio.ch k c } }
def State.doGrp (s : State) (g : Nat) : DoGrp := tabGet {} s.dio.grp g
def State.setDoGrp (s : State) (g : Nat) (x : DoGrp) : State :=
  { s with dio := { s.dio with grp := tabSet {} s.dio.grp g x } }

/-- The channel of a group that takes the command of channel `c` (R348). -/
def parLead (gpar c : Nat) : Nat :=
  if nb gpar (4 + c / 4) then c / 4 * 4 else if nb gpar (c / 2) then c / 2 * 2 else c

/-- The commanding channel of DO `k`, as a DO number. -/
def State.doLead (s : State) (k : Nat) : Nat := k / 8 * 8 + parLead (s.rd (R.DO_GPAR (k / 8))) (k % 8)

def State.doEn (s : State) (g : Nat) : Bool := s.bit (R.DO_CTRL g) 0
def State.doLatched (s : State) (g : Nat) : Bool := s.bit (R.DO_STAT g) 1
def State.doMode (s : State) (k : Nat) : Nat := s.fld (R.DO_CHCFG (k / 8) (k % 8)) 1 0
def State.doSafety (s : State) (k : Nat) : Bool := s.bit (R.DO_SAFEMASK (k / 8)) (k % 8)

/-- May the group drive: enabled, not latched, not gated and not waiting for a commit (R356, R357)? -/
def State.doFree (s : State) (g : Nat) : Bool :=
  s.doEn g && !s.doLatched g && s.rdn.gates && !(s.doGrp g).await

/-- The command level of DO `k`, taken from its commanding channel. -/
def State.doLevel (s : State) (k : Nat) : Bool := s.bit (R.DO_DOCMD (k / 8)) (s.doLead k % 8)

/-- Does the release of SFN let DO `k` follow its commanding channel `l`: both channels have their release, and a commit
has set the command to 1 since it was given (R377, R378)? -/
def State.doReleased (s : State) (k l : Nat) : Bool :=
  !s.doSafety k || (s.bit R.SFN_GATE k && s.bit R.SFN_GATE l && (s.doCh l).rel)

/-- The driver command of DO `k`, before test pulses (R349, R350, R377). -/
def State.doDrive (s : State) (k : Nat) : Bool :=
  let l := s.doLead k
  s.doFree (k / 8) && s.doReleased k l && !s.bit (R.DO_OVLD (k / 8)) (l % 8) &&
    (if s.doMode l = 0 then s.doLevel k
     else if s.doMode l = 1 then (s.doCh l).pwm
     else s.doMode l == 2 && (s.doCh l).strobe && s.doLevel k)

/-- The inputs whose filter a pulse of DO `k` freezes: TPEN, and TPSRC names a channel that pulses with it (R355). -/
def State.frozenBy (s : State) (k : Nat) : List Nat :=
  (List.range 48).filter (fun i => s.bit (R.DIO_DICFG i) 14 && s.doLead (s.fld (R.DIO_DICFG i) 13 8) == k)

/-- The inputs that a pulse of DO `k` has frozen. -/
def State.frozenOf (s : State) (k : Nat) : List Nat := (List.range 48).filter (fun i => (s.di i).frozen == some k)


/-- The level of a list of changes at a tick. -/
def levelAt (l : List (Nat × Bool)) (t : Nat) : Bool :=
  match l.find? (fun e => decide (e.1 ≤ t)) with
  | some e => e.2
  | none => match l.getLast? with
    | some e => !e.2
    | none => false

/-- A change to level `v` from tick `t`: what was to change later is dropped. -/
def levelPut (l : List (Nat × Bool)) (t : Nat) (v : Bool) : List (Nat × Bool) :=
  let r := l.filter (fun e => decide (e.1 < t))
  if (match r with
      | e :: _ => e.2
      | [] => match l.getLast? with
        | some e => !e.2
        | none => false) = v then r else (t, v) :: r

/-- The readback at tick `t` behind the filter of 5 µs, for changes of the terminal oldest first, and the tick of its last
change (R352). -/
def rbRun (t : Nat) : List (Nat × Bool) → Bool × Nat → Bool × Nat
  | [], o => o
  | (a, v) :: rest, o =>
    let till := match rest with
      | [] => t
      | (b, _) :: _ => min b t
    rbRun t rest (if v ≠ o.1 ∧ a + 500 ≤ till then (v, a + 500) else o)

/-- Forget the changes of a channel that are older than 1 ms, but for the last one. -/
def DoCh.pruned (c : DoCh) (now : Nat) : DoCh :=
  let young (l : List (Nat × Bool)) := l.takeWhile (fun e => decide (now ≤ e.1 + 100000))
  let old (l : List (Nat × Bool)) := l.dropWhile (fun e => decide (now ≤ e.1 + 100000))
  let rb := match old c.term with
    | e :: older => rbRun e.1 older.reverse c.rb0
    | [] => c.rb0
  { c with cmd := young c.cmd ++ (old c.cmd).take 1, term := young c.term ++ (old c.term).take 1, rb0 := rb }

/-- The driver command as it will stand, and the tick from which it holds. -/
def DoCh.drv (c : DoCh) : Bool := ((c.cmd.head?).map (·.2)).getD false
def DoCh.since (c : DoCh) : Nat := ((c.cmd.head?).map (·.1)).getD 0

/-- Change the driver command of a channel from tick `t`; a test pulse that runs keeps the output off. -/
def DoCh.drive (c : DoCh) (pulse : Bool) (now t : Nat) (v : Bool) : DoCh :=
  DoCh.pruned { c with cmd := levelPut c.cmd t v, term := if pulse then c.term else levelPut c.term t v } now

/-- The switch-ons of DO `k` that a new command from tick `t` forestalls, which LIFE does not count. -/
def State.lifeTake (s : State) (k t : Nat) : State :=
  let n := ((s.doCh k).cmd.filter (fun e => decide (t ≤ e.1) && e.2)).length
  forN 128 (fun i u => if u.lifeKind i = 2 ∧ u.lifeSrc i = 0x100 + k then
    u.wr64 (R.LIFE_VAL i) (u.rd64 (R.LIFE_VAL i) - n) else u) s

/-- The outputs that switch with DO `k` go off for its test pulse, or back to their commands after it. -/
def State.pulseTerm (s : State) (k : Nat) (off : Bool) : State :=
  forN 8 (fun j t =>
    let m := k / 8 * 8 + j
    if t.doLead m = k then
      t.setDoCh m { t.doCh m with term := levelPut (t.doCh m).term t.ticks (!off && levelAt (t.doCh m).cmd t.ticks) }
    else t) s

/-- A pulse that starts in the tick of the commit which switches its channel off is none (R355). -/
def State.pulseNone (s : State) (k : Nat) : State :=
  (forL (s.frozenOf k) (fun i t => t.setDi i { t.di i with frozen := none })
    (s.setDoCh k { s.doCh k with pulse := false })).pulseTerm k false

/-- Bring one output up to date; a driver command that changes holds from tick `from_`.  An output that is switched off
during a test pulse discards the evaluation (R355), and a switch-on counts in LIFE (R518).  OPEN needs a channel that is on
in LEVEL mode with OLEN = 1 (R349). -/
def State.doSync (s : State) (from_ k : Nat) : State :=
  let c := s.doCh k
  let lvl := s.doLevel k
  let c := { c with lvl := lvl, strobe := c.strobe && lvl, pwm := c.pwm && s.doEn (k / 8) && s.doMode k == 1 }
  let s := s.setDoCh k c
  let d := s.doDrive k
  let open_ := d && s.doMode (s.doLead k) == 0 && s.bit (R.DO_CHCFG (k / 8) (s.doLead k % 8)) 14
  let s := if open_ then s else s.putBit (R.DO_OVLD (k / 8)) (8 + k % 8) false
  if d = c.drv then s
  else
    let s := if c.pulse && !d && c.pStart == s.ticks then s.pulseNone k else s
    let c := s.doCh k
    let dis := c.pulse && !d && !c.disc
    let s := if (s.doCh k).cmd.any (fun e => decide (from_ ≤ e.1) && e.2) then s.lifeTake k from_ else s
    let s := s.setDoCh k ({ c with disc := c.disc || dis }.drive (s.doCh (s.doLead k)).pulse s.ticks from_ d)
    let s := if dis then s.incSat (R.DO_TPDISC (k / 8)) else s
    if d && (s.doCh k).since == from_ then s.lifeAdd 2 (0x100 + k) 1 else s

/-- Bring a group up to date. -/
def State.doUpdate (s : State) (g : Nat) : State :=
  (forN 8 (fun c t => t.doSync t.ticks (8 * g + c)) s).putBit (R.DO_STAT g) 0 (s.doEn g && !s.doLatched g)

/-- Is DO `k` commanded on: does its driver command hold, be it that a test pulse interrupts it? -/
def State.doHeld (s : State) (k : Nat) : Bool :=
  levelAt (s.doCh k).cmd s.ticks

/-- Is DO `k` conducting: its driver command holds, and no test pulse interrupts it (R354)? -/
def State.doOn (s : State) (k : Nat) : Bool := s.doHeld k && !(s.doCh (s.doLead k)).pulse

/-- The readback level of DO `k` at tick `t` and the tick of its last change: 5 µs behind the terminal, or the level of a
terminal that does not follow (R352, assumption 26). -/
def State.rbAt (s : State) (k t : Nat) : Bool × Nat :=
  let c := s.doCh k
  let o := rbRun t (c.term.filter (fun e => decide (e.1 ≤ t))).reverse c.rb0
  let o := if c.follow ≤ t then (o.1, max o.2 c.follow) else o
  match c.stuck with
  | some (b, from_) => if from_ ≤ t then (b, max o.2 from_) else o
  | none => o

/-- The readback level of DO `k`. -/
def State.rbLev (s : State) (k : Nat) : Bool := (s.rbAt k s.ticks).1

/-- RBLEV of a group. -/
def State.rblev (s : State) (g : Nat) : Nat := forN 8 (fun c v => nputb v c (s.rbLev (8 * g + c))) 0

/-- Latch a group off with a cause, and log it; a group already latched keeps its cause (R353, R356, R367). -/
def State.doLatch (s : State) (g cause : Nat) : State :=
  if s.doLatched g then s
  else
    let s := (s.putBit (R.DO_STAT g) 1 true).putFld (R.DO_STAT g) 3 2 cause
    let s := ((s.incSat (R.DIO_LATCHCNT g)).wr (R.DIO_LASTCAUSE g) cause).wr64 (R.DIO_LAST g) s.moduleTime
    (s.raise (0x093 + g) 1).doUpdate g

/-- The tick of a driver command 40 ns after the instant that a strobe carries, in the 10 ns placement (R350). -/
def State.strobeAt (s : State) (o : Strobe) : Nat := max s.ticks ((o.ph + 39) / 8)

/-- Strobes for STROBE channels: off wins over on in one tick; the driver command follows 40 ns after the crossing instant
that the strobe carries (R350). -/
def State.doStrobe (s : State) (line : Nat) : State :=
  forN 32 (fun k t =>
    let cfg := t.rd (R.DO_CHCFG (k / 8) (k % 8))
    if !t.doEn (k / 8) || nf cfg 1 0 != 2 || t.doLead k != k then t
    else
      let off := t.strobe (nf cfg 13 8)
      let offNow := off.count != 0 && off.tick == t.ticks
      let c := t.doCh k
      let on := if offNow then false else if nf cfg 7 2 = line ∧ t.doLevel k then true else c.strobe
      let onS := t.strobe (nf cfg 7 2)
      let at_ := if !offNow then t.strobeAt (t.strobe line)
        else if onS.count ≠ 0 ∧ onS.tick = t.ticks then min (t.strobeAt off) (t.strobeAt onS) else t.strobeAt off
      if on = c.strobe then t
      else forN 8 (fun j u =>
          if u.doLead (k / 8 * 8 + j) = k then u.doSync at_ (k / 8 * 8 + j) else u)
        (t.setDoCh k { c with strobe := on })) s

/-- The lead position of entry `d` crosses armed targets in its direction: it fires for each (R107); the answer names the line
whose strobe it gave.  The tick of the commit that changed it still belongs to the old table (R111). -/
def State.entryFire (s : State) (d : Nat) : State × Option Nat :=
  if !s.dOn d || !s.axLive (s.dAxis d) || (s.entry d).done || (s.entry d).born == s.ticks + 1 ||
      (s.entry d).fired == s.ticks + 1 then (s, none)
  else
    let s := s.axRearm (s.dAxis d)
    match s.entryCross d with
    | [] => (s, none)
    | l =>
      let act := s.fld (dCfg d) 9 8
      let line := s.fld (dCfg d) 15 10
      let s := forL l (fun t u => u.fire d t) s
      if act = 0 ∨ act = 2 then (s.doStrobe line, some line) else (s, none)

/-! ### Faults of outputs -/

/-- OVLD: the channel and its members switch off together (R349); a test pulse that runs is discarded (R355). -/
def execOvld (dt : Nat) (k : Fin 32) (s : State) : Host.Outcome State Fault Refusal :=
  onMain dt s fun s =>
    let l := s.doLead k.val
    let g := k.val / 8
    if s.doHeld l then
      let c := s.doCh l
      let dis := c.pulse && !c.disc
      let s := s.setDoCh l { c with disc := c.disc || dis }
      let s := if dis then s.incSat (R.DO_TPDISC g) else s
      ((s.putBit (R.DO_OVLD g) (l % 8) true).raise (0x093 + g) 9).doUpdate g
    else s

/-- DO_OPEN_LOAD: OPEN follows its condition; it is set on a channel that has been on in LEVEL mode with OLEN = 1 and below 5 mA
for 100 ms (R349). -/
def execDoOpenLoad (dt : Nat) (k : Fin 32) (open_ : Bool) (ma : Fin 4096) (s : State) :
    Host.Outcome State Fault Refusal :=
  onMain dt s fun s =>
    let g := k.val / 8
    let s := s.wr (R.DO_ICH g (k.val % 8)) ma.val
    if open_ then
      let l := s.doLead k.val
      let c := s.doCh k.val
      if decide (ma.val < 5) && s.bit (R.DO_CHCFG g (l % 8)) 14 && s.doMode l == 0 && s.doHeld k.val &&
          s.msSince (max c.since c.loadTick) 100 then
        (s.putBit (R.DO_OVLD g) (8 + k.val % 8) true).raise (0x093 + g) 10
      else s
    else (s.putBit (R.DO_OVLD g) (8 + k.val % 8) false).setDoCh k.val { s.doCh k.val with loadTick := s.ticks }

/-- RBDLY of a group in ticks. -/
def State.rbDly (s : State) (g : Nat) : Nat := s.fld (R.DO_RBDLY g) 13 0 * 1000

/-- Is readback of DO `k` evaluated now (R352)? -/
def State.rbOpen (s : State) (k : Nat) : Bool :=
  let l := s.doCh (s.doLead k)
  !l.pulse && (l.release == 0 || decide (l.release + s.rbDly (k / 8) ≤ s.ticks + 1)) &&
    !s.doLatched (k / 8) && s.rdn.gates

/-- Has readback of DO `k` been evaluated for RBDLY since the last change of its command? -/
def State.rbLong (s : State) (k : Nat) : Bool :=
  decide (max (s.doCh k).since (s.doGrp (k / 8)).evalTick + s.rbDly (k / 8) ≤ s.ticks)

/-- Have eight PWM periods of DO `k` in a row failed at a readback level: evaluated, and with an off-time, or an on-time, of at
least 10 µs? -/
def State.pwmBad (s : State) (k : Nat) (level : Bool) : Bool :=
  let c := s.doCh (s.doLead k)
  decide (8 ≤ if level then c.persOff else c.persOn)

/-- RBFLT: the terminal has read `level`, unlike the driver command, for RBDLY, or eight PWM periods have failed
(R352). -/
def execRbflt (dt : Nat) (k : Fin 32) (level : Bool) (s : State) : Host.Outcome State Fault Refusal :=
  onMain dt s fun s =>
    let c := s.doCh k.val
    let g := k.val / 8
    let bad := if s.doMode (s.doLead k.val) = 1 then s.pwmBad k.val level else level != c.drv && s.rbLong k.val
    if s.rbOpen k.val && bad then
      ((s.setDoCh k.val { c with stuck := some (level, s.ticks) }).putBit (R.DO_RBFLT g) (k.val % 8) true).raise (0x093 + g) 8
        |>.replicaErr (0x093 + g)
    else s

/-- STUCK_LATCH: a safety channel commanded off has read back ON for RBDLY (R353). -/
def execStuckLatch (dt : Nat) (k : Fin 32) (s : State) : Host.Outcome State Fault Refusal :=
  onMain dt s fun s =>
    let c := s.doCh k.val
    let g := k.val / 8
    if s.doSafety k.val && !c.drv && s.rbOpen k.val && s.rbLong k.val then
      (s.setDoCh k.val { c with stuck := some (true, s.ticks) }).doLatch g 2
    else s

/-! ### PWM (R351) -/

/-- The length in force at an instant, where the register says `reg`. -/
def Period.inForce (p : Period) (reg now : Nat) : Nat := if now < p.from_ then p.old else reg

/-- The first multiple of a length after an instant. -/
def nextMultiple (reg now : Nat) : Nat := (now / max 1 reg + 1) * reg

/-- The register changes: the old length holds until the first multiple of the new one (R351, R354). -/
def Period.change (p : Period) (was reg now : Nat) : Period :=
  { old := p.inForce was now, from_ := nextMultiple reg now }

/-- Periods start, or resume after a step of module time, at the next multiple. -/
def Period.resume (reg now : Nat) : Period := { old := 0, from_ := nextMultiple reg now }

/-- The carrier period that PWMPER sets and the one in force, in module-time units. -/
def State.pwmPer (s : State) (g : Nat) : Nat := s.fld (R.DO_PWMPER g) 23 0 * 40
def State.pwmIn (s : State) (g : Nat) : Nat := (s.doGrp g).pwm.inForce (s.pwmPer g) s.moduleTime

/-- The start of the present carrier period in module time. -/
def State.pwmBegin (s : State) (g : Nat) : Nat := s.moduleTime / max 1 (s.pwmIn g) * s.pwmIn g

/-- The on-time of a channel in ticks: below 2 µs the output stays off, and with less than 2 µs of off-time it stays on
(assumption 28). -/
def pwmOnTicks (per duty : Nat) : Nat :=
  let on := per * duty / 10000
  if on < 200 then 0 else if per - on < 200 then per else on

/-- The period of DO `k` that ends now counts when it was evaluated (R352). -/
def DoCh.perEnd (c : DoCh) (seen : Bool) (per : Nat) : DoCh :=
  { c with
    persOn := if seen && decide (1000 ≤ c.onTicks) then c.persOn + 1 else 0
    persOff := if seen && decide (c.onTicks + 1000 ≤ per) then c.persOff + 1 else 0 }

/-- PWM_PERIOD_START: the carrier reaches a multiple of its period, and the PWM channels switch on. -/
def execPwmPeriodStart (dt : Nat) (g : Fin 4) (s : State) : Host.Outcome State Fault Refusal :=
  onMain dt s fun s =>
    let g := g.val
    let x := s.doGrp g
    let per := s.pwmIn g / 40
    if !s.doEn g || per == 0 || s.pwmBegin g + 1 == x.perAt then s
    else
      let s := s.setDoGrp g { x with perAt := s.pwmBegin g + 1, perTick := s.ticks, per := per }
      (forN 8 (fun j t =>
        let k := 8 * g + j
        let on := if t.doLevel k then pwmOnTicks per (t.fld (R.DO_DUTY g j) 13 0) else 0
        let c := (t.doCh k).perEnd (decide (t.doMode k = 1) && t.rbOpen k && decide (x.perAt ≠ 0) &&
          decide (x.evalTick ≤ x.perTick)) x.per
        t.setDoCh k (if t.doMode k = 1 then { c with pwm := decide (0 < on), onTicks := on } else c)) s).doUpdate g

/-- PWM_OFF_EDGE: a channel's on-time ends. -/
def execPwmOffEdge (dt : Nat) (k : Fin 32) (s : State) : Host.Outcome State Fault Refusal :=
  onMain dt s fun s =>
    let c := s.doCh k.val
    let g := k.val / 8
    if s.doMode k.val = 1 ∧ c.pwm ∧ c.onTicks < (s.doGrp g).per ∧
        (s.doGrp g).perTick + c.onTicks ≤ s.ticks then
      (s.setDoCh k.val { c with pwm := false }).doUpdate g
    else s

/-! ### Test pulses (R354, R355) -/

/-- The group period that TPPER sets and the one in force, in module-time units. -/
def State.tpPer (s : State) (g : Nat) : Nat := s.fld (R.DO_TPCFG g) 13 0 * 4000000
def State.tpIn (s : State) (g : Nat) : Nat := (s.doGrp g).tp.inForce (s.tpPer g) s.moduleTime

/-- The instant of the pulse of DO `k` in the present group period. -/
def State.tpAt (s : State) (k : Nat) : Nat :=
  let per := s.tpIn (k / 8)
  s.moduleTime / max 1 per * per + k % 8 * per / 8

/-- Is the pulse of DO `k` due: its instant lies within the last µs, and it has not been made? -/
def State.tpDue (s : State) (k : Nat) : Bool :=
  let at_ := s.tpAt k
  decide (0 < s.tpIn (k / 8)) && decide (at_ ≤ s.moduleTime) && decide (s.moduleTime < at_ + 4000) &&
    (s.doCh k).pulsed != at_ + 1

/-- TEST_PULSE_START: a safety channel that is on receives an off-pulse. -/
def execTestPulseStart (dt : Nat) (k : Fin 32) (s : State) : Host.Outcome State Fault Refusal :=
  onMain dt s fun s =>
    let k := k.val
    let c := s.doCh k
    if s.doSafety k && s.doLead k == k && s.doOn k && s.tpDue k then
      let s := (s.setDoCh k { c with
        pulse := true, pStart := s.ticks, disc := false, release := 0, pulsed := s.tpAt k + 1 }).pulseTerm k true
      forL (s.frozenBy k) (fun i t => t.setDi i { t.di i with frozen := some k, sawOff := !t.diRaw i }) s
    else s

/-- The judgement of a pulse that was not discarded.  Gates 1 and 2 make the pulses in turn; a failure while the last pulse of
either gate failed latches the group (R354, R379). -/
def State.tpJudge (s : State) (k : Nat) (pass : Bool) : State :=
  let g := k / 8
  let c := s.doCh k
  let d := if c.gate then { c with failed2 := !pass, passed := pass } else { c with failed1 := !pass, passed := pass }
  if pass then (s.setDoCh k d).incWrap (R.DO_TPRUNS g)
  else
    let s := ((s.setDoCh k d).putBit (R.DO_TPFAIL g) (k % 8) true).raise (0x093 + g) 11
    if c.failed1 || c.failed2 then s.doLatch g 2 else s

/-- TEST_PULSE_END: TPW after its start the driver returns to its command; `off` says whether the readback read OFF at
an instant of the pulse, and an input of the pulsed channel that never read OFF sets XCONN. -/
def execTestPulseEnd (dt : Nat) (k : Fin 32) (off : Bool) (s : State) : Host.Outcome State Fault Refusal :=
  onMain dt s fun s =>
    let k := k.val
    let c := s.doCh k
    if c.pulse ∧ c.pStart + 100 * s.fld (R.DO_TPCFG (k / 8)) 24 16 ≤ s.ticks then
      let bad := (s.frozenOf k).filter (fun i => !(s.di i).sawOff)
      let s := (s.setDoCh k { c with pulse := false, disc := false, release := s.ticks + 1 }).pulseTerm k false
      let s := forL bad (fun i t =>
        (if i < 32 then t.putBit R.DIO_XCONN0 i true else t.putBit R.DIO_XCONN1 (i - 32) true).raise 0x091 0) s
      let s := if c.disc then s else s.tpJudge k off
      s.setDoCh k { s.doCh k with gate := !c.gate }
    else s

/-- TEST_PULSE_FILTER_RELEASE: 50 µs after the pulse the filters see the live raw level again; a change seen during the
interval starts here. -/
def execTestPulseFilterRelease (dt : Nat) (k : Fin 32) (s : State) : Host.Outcome State Fault Refusal :=
  onMain dt s fun s =>
    let c := s.doCh k.val
    if c.release ≠ 0 ∧ !c.pulse ∧ c.release + 5000 ≤ s.ticks + 1 then
      forL (s.frozenOf k.val) (fun i t =>
        let t := t.setDi i { t.di i with frozen := none }
        if t.diOn i then t.diSeen i (t.diRaw i) 0 else t) s
    else s

/-! ### Field supplies (R356) -/

/-- The field supply of a group stands below 19.2 V. -/
def State.supplyLow (s : State) (g : Nat) : State := s.setDoGrp g { s.doGrp g with lowTick := s.ticks }

/-- FSWARN: below 19.2 V for 100 µs. -/
def execFswarn (dt : Nat) (g : Fin 4) (s : State) : Host.Outcome State Fault Refusal :=
  onMain dt s fun s =>
    let s := s.supplyLow g.val
    if s.bit (R.DO_STAT g.val) 4 then s else (s.putBit (R.DO_STAT g.val) 4 true).raise (0x093 + g.val) 0

/-- FSWARN_CLEAR: above 20.0 V for 100 µs. -/
def execFswarnClear (dt : Nat) (g : Fin 4) (s : State) : Host.Outcome State Fault Refusal :=
  onMain dt s fun s => s.putBit (R.DO_STAT g.val) 4 false

/-- FSLOW_LATCH: below 15.0 V for 20 µs the group switch opens and the group is latched. -/
def execFslowLatch (dt : Nat) (g : Fin 4) (s : State) : Host.Outcome State Fault Refusal :=
  onMain dt s fun s => ((s.supplyLow g.val).putBit (R.DO_STAT g.val) 5 false).doLatch g.val 1

/-- FSOK: at or above 19.2 V for 100 ms. -/
def execFsok (dt : Nat) (g : Fin 4) (s : State) : Host.Outcome State Fault Refusal :=
  onMain dt s fun s =>
    if s.bit (R.DO_STAT g.val) 5 || !s.msSince (s.doGrp g.val).lowTick 100 then s
    else (s.putBit (R.DO_STAT g.val) 5 true).raise (0x093 + g.val) 2

/-! ### Commands -/

/-- DIO_FLTCLR: `agree` names the channels whose terminal follows the driver command again; RBFLT clears where the readback
now agrees, and TPFAIL clears where a pulse has passed since the failure (R366). -/
def execDioFltclr (dt : Nat) (who : Init) (g : Fin 4) (v : Word) (agree : Byte) (s : State) :
    Host.Outcome State Fault Refusal :=
  onMain dt s fun s => s.cmdW who (0x093 + g.val) 0xC00 fun n s =>
    s.keyed (0x093 + g.val) 0xC00 n 0x4D21 v fun s =>
      forN 8 (fun j t =>
        let k := 8 * g.val + j
        if !nb v.toNat j then t
        else
          let t := if nb agree.toNat j && (t.doCh k).stuck.isSome then
              t.setDoCh k { t.doCh k with stuck := none, follow := t.ticks } else t
          let t := if t.rbLev k == t.doHeld k then t.putBit (R.DO_RBFLT g.val) j false else t
          if (t.doCh k).passed then t.putBit (R.DO_TPFAIL g.val) j false else t) s

/-- LOGCLR: clear the group latch log (R367). -/
def execLogclr (dt : Nat) (who : Init) (v : Word) (s : State) : Host.Outcome State Fault Refusal :=
  onMain dt s fun s => s.cmdW who 0x097 0xC00 fun _ => onOne v fun s =>
    forN 4 (fun g t => ((t.zero [R.DIO_LATCHCNT g, R.DIO_LASTCAUSE g]).wr64 (R.DIO_LAST g) 0)) s

/-! ### Commits -/

/-- May the output group hold this GPAR and SAFEMASK (R348)? -/
def parOk (gpar safe : Nat) : Bool :=
  (List.range 4).all (fun p => !(nb gpar p && nb gpar (4 + p / 2))) &&
  (List.range 8).all (fun c => nb safe c == nb safe (parLead gpar c))

/-- The check of an output group page (R348 to R356, R366, R637). -/
def State.doCheck (s : State) (g : Nat) : Verdict :=
  if s.shBit (R.DO_CTRL g) 1 && !s.bit (R.DO_STAT g) 5 then .coded 0x0102
  else rangeIf (
    parOk (s.rd (R.DO_GPAR g)) (s.rd (R.DO_SAFEMASK g)) &&
    within 5000 10000000 (s.shFld (R.DO_PWMPER g) 23 0) && within 10 10000 (s.shFld (R.DO_RBDLY g) 13 0) &&
    within 10 10000 (s.shFld (R.DO_TPCFG g) 13 0) && within 100 500 (s.shFld (R.DO_TPCFG g) 24 16) &&
    (List.range 8).all (fun c =>
      s.shFld (R.DO_CHCFG g c) 1 0 != 3 && decide (s.shFld (R.DO_DUTY g c) 13 0 ≤ 10000) &&
      (!s.bit (R.DO_SAFEMASK g) c || s.shFld (R.DO_CHCFG g c) 1 0 == 0)))

/-- The check of a DIO page. -/
def State.dioCheck (s : State) (p : Nat) : Verdict :=
  if p = 0x090 then rangeIf ((List.range 48).all (fun i =>
    s.shFld (R.DIO_DICFG i) 3 0 != 15 && decide (s.shFld (R.DIO_DICFG i) 13 8 < 32)))
  else if 0x093 ≤ p ∧ p ≤ 0x096 then s.doCheck (p - 0x093)
  else .ok

/-- What the input page does when its shadows became active: groups enabled or disabled, and INV changed (R346). -/
def State.diApplied (s old : State) : State :=
  let inst := s.stamp 0
  (forN 48 (fun i t =>
    let was := old.diOn i
    let d := t.di i
    if !t.diOn i then
      if was then (t.setDi i { d with acc := t.diInv i, chg := none }).setDiLevel i false inst inst else t
    else if !was then
      let t := (t.setDi i { d with acc := t.diInv i, chg := none }).setDiLevel i false inst inst
      t.diSeen i (t.diRaw i) 0
    else if t.diInv i ≠ old.diInv i then t.setDiLevel i (d.acc != t.diInv i) inst inst
    else t) s).putFld R.DIO_STAT 5 0 (s.fld R.DIO_CTRL 5 0)

/-- The commands of a group were set by a commit: it leaves the wait after a gain of primacy, and a command level of 0
clears OVLD (R349, R357). -/
def State.doCommanded (s : State) (g : Nat) : State :=
  let s := s.setDoGrp g { s.doGrp g with await := false }
  let s := forN 8 (fun c t =>
    let k := 8 * g + c
    if t.doLevel k then (if t.bit R.SFN_GATE k then t.setDoCh k { t.doCh k with rel := true } else t)
    else t.putBit (R.DO_OVLD g) c false) s
  s.doUpdate g

/-- What an output group page does when its shadows became active. -/
def State.doApplied (s old : State) (g : Nat) : State :=
  let s := if s.bit (R.DO_CTRL g) 1 then
      (((s.putBit (R.DO_CTRL g) 1 false).putBit (R.DO_STAT g) 1 false).putFld (R.DO_STAT g) 3 2 0).setDoGrp g
        { s.doGrp g with evalTick := s.ticks }
    else s
  let x := s.doGrp g
  let now := s.moduleTime
  let s := s.setDoGrp g { x with
    pwm := if s.doEn g && !old.doEn g then Period.resume (s.pwmPer g) now
      else if s.pwmPer g = old.pwmPer g then x.pwm else x.pwm.change (old.pwmPer g) (s.pwmPer g) now
    perAt := if s.doEn g && !old.doEn g then 0 else x.perAt
    tp := if s.tpPer g = old.tpPer g then x.tp else x.tp.change (old.tpPer g) (s.tpPer g) now }
  s.doCommanded g

/-- What a DIO page does when its shadows became active. -/
def State.dioApplied (s old : State) (p : Nat) : State :=
  if p = 0x090 then s.diApplied old
  else if 0x093 ≤ p ∧ p ≤ 0x096 then s.doApplied old (p - 0x093)
  else s

/-- The safe values of a group's outputs take effect (R366). -/
def State.doSafe (s : State) (g : Nat) : State :=
  (s.wr (R.DO_DOCMD g) (s.rd (R.DO_DOSAFE g))).doCommanded g

/-- The gates of primacy open or close: GATED changes, pulses in progress are discarded, and a group that opens waits
for its first commit (R355, R357). -/
def State.dioGate (s : State) (open_ : Bool) : State :=
  forN 4 (fun g t =>
    let t := (t.putBit (R.DO_STAT g) 6 (!open_)).raiseIf (t.bit (R.DO_STAT g) 6 == open_) (0x093 + g) 3
    let t := if open_ then t.setDoGrp g { t.doGrp g with await := true, evalTick := t.ticks } else t
    t.doUpdate g) s

/-! ### TIME counters of LIFE -/

/-- Does the condition of TIME source `src` hold (R518)? -/
def State.lifeHolds (s : State) (src : Nat) : Bool :=
  if src = 0 then true
  else if 0x100 ≤ src ∧ src < 0x108 then
    s.pstate (src - 0x100) == psRunning || s.pstate (src - 0x100) == psDegraded
  else if 0x200 ≤ src ∧ src < 0x220 then s.doOn (src - 0x200)
  else false

/-- LIFE_SECOND: a whole second has elapsed since the last, and the TIME counters whose condition holds count it. -/
def execLifeSecond (dt : Nat) (s : State) : Host.Outcome State Fault Refusal :=
  onShed dt s fun s =>
    if s.secSince s.life.secTick 1 then
      forN 128 (fun k t => if t.lifeKind k = 1 ∧ t.lifeHolds (t.lifeSrc k) then t.lifeCount k 1 else t)
        { s with life := { s.life with secTick := s.life.secTick + 100000000 } }
    else s

end Sys2Proof.Machine
end

