-- ==== Sys2Proof/Machine/Sfn.lean ====
section
/-! DEFINITION. SFN: safety functions, their evaluation, resets and faults, and the release of outputs (R368 to
R389). -/
namespace Sys2Proof.Machine

/-! ### Configuration of a function -/

/-- Registers of function `f`. -/
abbrev fCfg (f : Nat) : Nat := R.SFN_FCFG (f / 8) (f % 8)
abbrev fIn (f : Nat) : Nat := R.SFN_FIN (f / 8) (f % 8)
abbrev fAux (f : Nat) : Nat := R.SFN_FAUX (f / 8) (f % 8)
abbrev fDisc (f : Nat) : Nat := R.SFN_FDISC (f / 8) (f % 8)
abbrev fEdmt (f : Nat) : Nat := R.SFN_FEDMT (f / 8) (f % 8)
abbrev fOut (f : Nat) : Nat := R.SFN_FOUT (f / 8) (f % 8)

/-- TYPE codes of R368. -/
abbrev fEstop : Nat := 1
abbrev fGuard : Nat := 2
abbrev fOssd : Nat := 3
abbrev fTwohand : Nat := 4

/-- STATE codes of R389. -/
abbrev fsOff : Nat := 0
abbrev fsWaitproof : Nat := 1
abbrev fsDemand : Nat := 2
abbrev fsLockout : Nat := 3
abbrev fsEnabled : Nat := 4
abbrev fsWaitrelease : Nat := 5
abbrev fsFault : Nat := 6

/-- Does a configuration use a reset (R369): ESTOP, and GUARD and OSSD with RSTAUTO = 0? -/
def cfgReset (cfg : Nat) : Bool :=
  nf cfg 2 0 == 1 || ((nf cfg 2 0 == 2 || nf cfg 2 0 == 3) && !nb cfg 4)

/-- The inputs that a configuration names (R369). -/
def cfgInputs (cfg ins aux : Nat) : List Nat :=
  (if nf cfg 2 0 = 0 then []
   else if nf cfg 2 0 = 4 then [nf ins 5 0, nf ins 13 8, nf ins 21 16, nf ins 29 24]
   else [nf ins 5 0, nf ins 13 8]) ++
  (if cfgReset cfg then [nf aux 5 0] else []) ++
  (if nf cfg 2 0 ≠ 0 ∧ nb cfg 5 then [nf aux 13 8] else [])

def State.sfnFn (s : State) (f : Nat) : SfnFn := tabGet {} s.sfn.fn f
def State.setSfnFn (s : State) (f : Nat) (x : SfnFn) : State :=
  { s with sfn := { s.sfn with fn := tabSet {} s.sfn.fn f x } }

def State.sfnState (s : State) (f : Nat) : Nat := s.fld (R.SFN_FSTATE f) 2 0
def State.sfnType (s : State) (f : Nat) : Nat := s.fld (fCfg f) 2 0
def State.sfnOn (s : State) : Bool := s.bit R.SFN_CTRL 0

/-- Input `j` of function `f`, as a DI number. -/
def State.sfnIn (s : State) (f j : Nat) : Nat := s.fld (fIn f) (8 * j + 5) (8 * j)

/-- The accepted level of a DI at an evaluation instant: the one with the greatest stamp below it (R369). -/
def State.sfnLevel (s : State) (i te : Nat) : Bool := s.diLevelAt i (te - 1)

/-! ### What the inputs say -/

/-- Is channel `j` of ESTOP, GUARD or OSSD at its healthy level (R368)? -/
def State.sfnHealthy (s : State) (f j te : Nat) : Bool :=
  s.sfnLevel (s.sfnIn f j) te == !(s.bit (fCfg f) 3 && j == 1)

/-- Is hand `h` actuated, and is it released (R368)? -/
def State.handAct (s : State) (f h te : Nat) : Bool :=
  s.sfnLevel (s.sfnIn f (2 * h)) te && !s.sfnLevel (s.sfnIn f (2 * h + 1)) te
def State.handRel (s : State) (f h te : Nat) : Bool :=
  !s.sfnLevel (s.sfnIn f (2 * h)) te && s.sfnLevel (s.sfnIn f (2 * h + 1)) te

/-- Since when the combination of two inputs stands that an evaluation sees. -/
def State.pairSince (s : State) (a b te : Nat) : Nat := max (s.diSinceAt a (te - 1)) (s.diSinceAt b (te - 1))

/-- The stamp of hand `h`'s combination. -/
def State.handSince (s : State) (f h te : Nat) : Nat := s.pairSince (s.sfnIn f (2 * h)) (s.sfnIn f (2 * h + 1)) te

/-- Both channels healthy, or both hands actuated with stamps no more than 500 ms apart. -/
def State.sfnBoth (s : State) (f te : Nat) : Bool := s.sfnHealthy f 0 te && s.sfnHealthy f 1 te
def State.sfnSync (s : State) (f te : Nat) : Bool :=
  s.handAct f 0 te && s.handAct f 1 te &&
    decide (s.handSince f 0 te ≤ s.handSince f 1 te + 2000000000) &&
    decide (s.handSince f 1 te ≤ s.handSince f 0 te + 2000000000)

/-- Both channels at their demand level, or both hands released. -/
def State.sfnDown (s : State) (f te : Nat) : Bool :=
  if s.sfnType f = 4 then s.handRel f 0 te && s.handRel f 1 te
  else !s.sfnHealthy f 0 te && !s.sfnHealthy f 1 te

/-- Does a demand stand (R368)? -/
def State.sfnDemand (s : State) (f te : Nat) : Bool :=
  if s.sfnType f = 4 then !(s.handAct f 0 te && s.handAct f 1 te) else !s.sfnBoth f te

/-- One hand has been actuated for more than 500 ms while the other is not. -/
def State.handTimeout (s : State) (f te : Nat) : Bool :=
  let one (a b : Nat) : Bool :=
    s.handAct f a te && decide (s.handSince f a te + 2000000000 < te) &&
      (!s.handAct f b te || decide (s.handSince f a te + 2000000000 < s.handSince f b te))
  s.sfnType f == 4 && (one 0 1 || one 1 0)

/-! ### Fault conditions (R370, R375, R376, R379) -/

/-- The pairs of inputs whose discrepancy is checked. -/
def State.sfnPairs (s : State) (f : Nat) : List (Nat × Nat) :=
  if s.sfnType f = 4 then [(s.sfnIn f 0, s.sfnIn f 1), (s.sfnIn f 2, s.sfnIn f 3)] else [(s.sfnIn f 0, s.sfnIn f 1)]

/-- Is pair `h` of function `f` discrepant just before an instant (R370)? -/
def State.pairBad (s : State) (f h te : Nat) : Bool :=
  if s.sfnType f = 4 then !s.handAct f h te && !s.handRel f h te else s.sfnHealthy f 0 te != s.sfnHealthy f 1 te

/-- A pair discrepant for longer than FfDISC, be it that the discrepancy ended since the last evaluation: durations run between
the stamps of the inputs (R369, R370). -/
def State.sfnDiscrep (s : State) (f te : Nat) : Bool :=
  (List.range (s.sfnPairs f).length).any (fun h =>
    let p := (s.sfnPairs f).getD h (0, 0)
    let ends := te :: ((((s.di p.1).hist ++ (s.di p.2).hist).map (·.1)).filter (fun x =>
      decide (max s.sfn.evalInst (s.sfnFn f).from_ < x) && decide (x < te)))
    ends.any (fun x => s.pairBad f h x && decide (s.pairSince p.1 p.2 x + s.fld (fDisc f) 11 0 * 4000000 < x)))

/-- The inputs that function `f` names. -/
def State.sfnInputs (s : State) (f : Nat) : List Nat := cfgInputs (s.rd (fCfg f)) (s.rd (fIn f)) (s.rd (fAux f))

def State.xconn (s : State) (i : Nat) : Bool :=
  if i < 32 then s.bit R.DIO_XCONN0 i else s.bit R.DIO_XCONN1 (i - 32)
def State.sfnXconn (s : State) (f : Nat) : Bool := (s.sfnInputs f).any s.xconn

/-- The EDM input shows the load released. -/
def State.edmIn (s : State) (f te : Nat) : Bool := s.sfnLevel (s.fld (fAux f) 13 8) te
def State.edmEn (s : State) (f : Nat) : Bool := s.bit (fCfg f) 5

/-- The tick since which every channel of FfOUT has read back OFF. -/
def State.sfnOffSince (s : State) (f : Nat) : Option Nat :=
  let rb := ((List.range 32).filter (fun k => s.bit (fOut f) k)).map (fun k => s.rbAt k s.ticks)
  if rb.any (·.1) then none else some (rb.foldl (fun m r => max m r.2) 0)

/-- The outputs have read back OFF for FfEDMT and the EDM input is not ON (R375). -/
def State.sfnEdm (s : State) (f te : Nat) : Bool :=
  s.edmEn f && !s.edmIn f te && (match s.sfnOffSince f with
    | some t => decide (t + s.fld (fEdmt f) 9 0 * 100000 ≤ s.ticks)
    | none => false)

/-- An input whose group is not enabled. -/
def State.sfnInput (s : State) (f : Nat) : Bool := (s.sfnInputs f).any (fun i => !s.diOn i)

/-- The fault cause that holds at an evaluation, 0 for none. -/
def State.sfnCause (s : State) (f te : Nat) : Nat :=
  if s.sfnDiscrep f te then 1
  else if s.sfnXconn f then 2
  else if s.sfnEdm f te then 3
  else if s.sfn.episode then 4
  else if s.sfnInput f then 5
  else 0

/-! ### Releases -/

/-- The release of DO `k`: a safety channel that some function names, every such function ENABLED (R377). -/
def State.sfnRelease (s : State) (k : Nat) : Bool :=
  let fs := (List.range 16).filter (fun f => s.sfnType f != 0 && s.bit (fOut f) k)
  s.doSafety k && fs != [] && fs.all (fun f => s.sfnState f == fsEnabled)

/-- Bring GATE up to date.  A release that is withdrawn switches the channel off at once and one that is given waits
for a commit (R378). -/
def State.sfnGate (s : State) : State :=
  let new := forN 32 (fun k v => nputb v k (s.sfnRelease k)) 0
  if new = s.rd R.SFN_GATE then s
  else
    let s := s.wr R.SFN_GATE new
    let s := forN 32 (fun k t => if nb new k then t else t.setDoCh k { t.doCh k with rel := false }) s
    forN 4 (fun g t => t.doUpdate g) s

/-! ### State changes -/

/-- Enter a state: FSTATE shows it before ES(168 + f), and the recorder takes a record (R371). -/
def State.sfnEnter (s : State) (f new cause inst : Nat) : State :=
  let old := s.sfnState f
  let s := (s.putFld (R.SFN_FSTATE f) 2 0 new).putFld (R.SFN_FSTATE f) 11 8 cause
  let s := if new = fsLockout then s.setSfnFn f { s.sfnFn f with lockInst := inst } else s
  let s := if new = fsFault then s else s.setSfnFn f { s.sfnFn f with clr := false }
  if new = old then s
  else
    let s := (s.raise 0x09B f).raiseIf (new == fsFault) 0x09B (16 + f)
    s.record 0x0F 0x0001 4 0x098 inst [f + old * 2 ^ 8 + new * 2 ^ 16 + cause * 2 ^ 24]

/-- Enter DEMAND or WAITRELEASE at an evaluation; `count` says whether the row increments DEMCNT. -/
def State.sfnToDemand (s : State) (f new te : Nat) (count : Bool) : State :=
  let s := if count then s.incWrapF (R.SFN_FSTATE f) 31 16 else s
  let s := if new = fsDemand then s.wr64 (R.SFN_DEMT f) te else s
  s.sfnEnter f new 0 te

/-- The entry state of a type (R371). -/
def entryState (type : Nat) : Nat :=
  if type = 2 then fsWaitproof else if type = 4 then fsWaitrelease else fsDemand

/-- Is a press valid for function `f`: begun in LOCKOUT, 0.2 s to 3 s long, both channels healthy throughout, and the load
released at its end (R373)? -/
def State.pressValid (s : State) (f te : Nat) (p : Nat × Nat × Nat) : Bool :=
  p.1 == s.fld (fAux f) 5 0 && decide ((s.sfnFn f).lockInst < p.2.1) &&
  within 800000000 12000000000 (p.2.2 - p.2.1) &&
  (List.range 2).all (fun j => s.sfnHealthy f j (p.2.2 + 1) && decide (s.diSinceAt (s.sfnIn f j) p.2.2 ≤ p.2.1)) &&
  decide (p.2.2 < te) && (!s.edmEn f || s.diLevelAt (s.fld (fAux f) 13 8) p.2.2)

/-- One row of R371 for function `f` at an evaluation, once no fault condition holds. -/
def State.sfnRow (s : State) (f te : Nat) : State :=
  let ty := s.sfnType f
  let st := s.sfnState f
  if st = fsWaitproof then
    if s.sfnDown f te then (s.putBit (R.SFN_FSTATE f) 3 true).sfnToDemand f fsDemand te true else s
  else if st = fsDemand then
    if ty = 4 then
      if s.sfnSync f te then s.sfnEnter f fsEnabled 0 te
      else if s.handTimeout f te then s.sfnEnter f fsWaitrelease 0 te
      else s
    else if !s.sfnBoth f te then s
    else if cfgReset (s.rd (fCfg f)) then s.sfnEnter f fsLockout 0 te
    else if !s.edmEn f || s.edmIn f te then s.sfnEnter f fsEnabled 0 te
    else s
  else if st = fsLockout then
    if !s.sfnBoth f te then s.sfnToDemand f fsDemand te true
    else if s.sfn.press.any (s.pressValid f te) then s.sfnEnter f fsEnabled 0 te
    else s
  else if st = fsEnabled then
    if s.sfnDemand f te then s.sfnToDemand f (if ty = 4 then fsWaitrelease else fsDemand) te true else s
  else if st = fsWaitrelease then
    if s.sfnDown f te then s.sfnToDemand f fsDemand te false else s
  else if st = fsFault then
    if (s.sfnFn f).clr then
      (s.putBit (R.SFN_FSTATE f) 3 false).sfnToDemand f (entryState ty) te false
    else s
  else s

/-- RSTSTUCK: the reset input of function `f` has been ON for 10 s (R374). -/
def State.sfnStuck (s : State) (f te : Nat) : Bool :=
  let i := s.fld (fAux f) 5 0
  cfgReset (s.rd (fCfg f)) && s.sfnLevel i te && decide (s.diSinceAt i (te - 1) + 40000000000 ≤ te)

/-- Set RSTSTUCK on every function that names the input, with one record (R374). -/
def State.sfnSetStuck (s : State) (i te : Nat) : State :=
  let fs := (List.range 16).filter (fun f => s.sfnState f != 0 && s.fld (fAux f) 5 0 == i && s.sfnStuck f te &&
    !s.bit (R.SFN_FSTATE f) 4)
  if fs = [] then s
  else
    (forL fs (fun f t => (t.putBit (R.SFN_FSTATE f) 4 true).raise 0x09B (16 + f)) s).record 0x0F 0x0002 4 0x098 te [i]

/-- The whole evaluation of function `f`: EDMOK, the fault conditions, else the row of its state. -/
def State.sfnEval (s : State) (f te : Nat) : State :=
  if s.sfnState f = fsOff then s
  else
    let s := s.putBit (R.SFN_FSTATE f) 5 (s.edmEn f && !s.sfnEdm f te)
    let s := s.sfnSetStuck (s.fld (fAux f) 5 0) te
    let c := s.sfnCause f te
    if c ≠ 0 then (s.setSfnFn f { s.sfnFn f with clr := false }).sfnEnter f fsFault c te else s.sfnRow f te

/-- Count the presses that ended before the evaluation, once each (R373). -/
def State.sfnPresses (s : State) (te : Nat) : State :=
  forL (s.sfn.press.filter (fun p => p.2.2 < te)) (fun p t =>
    let used := (List.range 16).any (fun f => t.sfnState f != 0 && cfgReset (t.rd (fCfg f)) &&
      t.fld (fAux f) 5 0 == p.1)
    if !used then t
    else if p.2.2 - p.2.1 < 800000000 then t.incSatF R.SFN_RSTREJ 15 0
    else if 12000000000 < p.2.2 - p.2.1 then t.incSatF R.SFN_RSTREJ 31 16
    else t) s

/-- The exchange of the evaluator channels (R379): `ok1` and `ok2` say that the words came on time with a correct CRC,
`same` that they agree. -/
def State.sfnExchange (s : State) (ok1 ok2 same : Bool) : State :=
  let diff := !(ok1 && ok2 && same)
  let s :=
    if !diff then (s.putBit R.SFN_STAT 1 true).putBit R.SFN_STAT 2 true
    else (if ok1 then s else s.putBit R.SFN_STAT 1 false) |> fun t => if ok2 then t else t.putBit R.SFN_STAT 2 false
  let start := diff && s.sfn.diff && !s.sfn.episode
  let s := if start then (s.incSat R.SFN_EVALDIS).replicaErr 0x098 else s
  { s with sfn := { s.sfn with
      diff := diff
      episode := diff && (s.sfn.episode || start)
      agreeTick := if s.sfn.diff && !diff then s.ticks else s.sfn.agreeTick } }

/-- The SFN item of CYC source kind 0x03 (R384). -/
def State.sfnItem (s : State) : List Nat := (List.range 16).map (fun f => s.rd (R.SFN_FSTATE f) % 256)

/-- Is any function in FAULT? -/
def State.sfnAnyFault (s : State) : Bool := (List.range 16).any (fun f => s.sfnState f == fsFault)

/-- SFN as CYC source kind 0x03: data, quality and stamp (R384). -/
def State.sfnSrc (s : State) (_ : MapEnt) : List Nat × Nat × Nat :=
  (s.sfnItem, qual (s.bit R.SFN_CTRL 0) false false s.sfnAnyFault, s.sfn.evalInst)

/-- Is an evaluation due: 250 µs on the counter of SFN have passed since the last (R369)? -/
def State.sfnDue (s : State) : Bool := s.sfnOn && decide (s.sfn.evalTick + 25000 ≤ s.ticks + 1)

/-- The tick of the counter at which the present evaluation stands, plus one. -/
def State.sfnCount (s : State) : Nat :=
  if s.sfn.evalTick = 0 then s.ticks + 1 else s.ticks + 1 - (s.ticks + 1 - s.sfn.evalTick) % 25000

/-- SFN_EVALUATION: 250 µs after the last evaluation both channels evaluate every function. -/
def execSfnEvaluation (dt : Nat) (ok1 ok2 same : Bool) (s : State) : Host.Outcome State Fault Refusal :=
  onMain dt s fun s =>
    if !s.sfnDue then s
    else
      let te := s.moduleTime
      let s := (s.sfnExchange ok1 ok2 same).sfnPresses te
      let s := forN 16 (fun f t => t.sfnEval f te) s
      { s with sfn := { s.sfn with
          evalTick := s.sfnCount, evalInst := te, press := s.sfn.press.filter (fun p => te ≤ p.2.2) } }.sfnGate.srcReport
        (fun e => e.kind == 0x03) State.sfnSrc

/-- A fault that the evaluation which is due finds in one function; in FAULT it sets FCAUSE (R371). -/
def State.sfnFaultIf (s : State) (f cause : Nat) (c : Bool) : State :=
  if s.sfnDue && s.sfnState f != fsOff && c then
    ((s.setSfnFn f { s.sfnFn f with clr := false }).sfnEnter f fsFault cause s.moduleTime).sfnGate
  else s

/-- DISCREP: a pair has been discrepant for longer than FfDISC (R370). -/
def execDiscrep (dt : Nat) (f : Fin 16) (s : State) : Host.Outcome State Fault Refusal :=
  onMain dt s fun s => s.sfnFaultIf f.val 1 (s.sfnDiscrep f.val s.moduleTime)

/-- EDM_FAULT: the outputs have read back OFF for FfEDMT and the EDM input is not ON (R375). -/
def execEdmFault (dt : Nat) (f : Fin 16) (s : State) : Host.Outcome State Fault Refusal :=
  onMain dt s fun s =>
    if s.sfnDue && s.sfnEdm f.val s.moduleTime then (s.putBit (R.SFN_FSTATE f.val) 5 false).sfnFaultIf f.val 3 true else s

/-- TWOHAND_TIMEOUT: one hand actuated for more than 500 ms without the other (R371). -/
def execTwohandTimeout (dt : Nat) (f : Fin 16) (s : State) : Host.Outcome State Fault Refusal :=
  onMain dt s fun s =>
    if s.sfnDue && s.sfnState f.val == fsDemand && s.handTimeout f.val s.moduleTime then
      s.sfnEnter f.val fsWaitrelease 0 s.moduleTime
    else s

/-- RSTSTUCK: a reset input has stayed ON for 10 s (R374). -/
def execRststuck (dt : Nat) (i : Fin 48) (s : State) : Host.Outcome State Fault Refusal :=
  onMain dt s fun s => if s.sfnOn then s.sfnSetStuck i.val s.moduleTime else s

/-- Is a FLTCLR of function `f` accepted, judged at the most recent evaluation (R376)? -/
def State.fltclrOk (s : State) (f : Nat) : Bool :=
  let te := s.sfn.evalInst
  let c := s.fld (R.SFN_FSTATE f) 11 8
  if c = 1 then s.sfnDown f te
  else if c = 2 then !s.sfnXconn f && s.sfnDown f te
  else if c = 3 then s.edmIn f te
  else if c = 4 then !s.sfn.episode && !s.sfn.diff && s.msSince s.sfn.agreeTick 100
  else !s.sfnInput f

/-- SFN_FLTCLR: the named functions whose condition is met leave FAULT at the next evaluation; for any other the write
has no effect and records NOT_READY (R376). -/
def execSfnFltclr (dt : Nat) (who : Init) (v : Word) (s : State) : Host.Outcome State Fault Refusal :=
  onMain dt s fun s => s.cmdW who 0x098 0xC00 fun n s => s.keyed 0x098 0xC00 n 0x2B6E v fun s =>
    forN 16 (fun f t =>
      if !nb v.toNat f || t.sfnState f != fsFault then t
      else if t.fltclrOk f then t.setSfnFn f { t.sfnFn f with clr := true }
      else t.err 0x098 n 0x0101 R.SFN_FLTCLR) s

/-! ### Commits -/

/-- Do the ranges of one function hold (R368, R369, R389)? `g` lists the pages of the commit. -/
def State.sfnRange (s : State) (g : List Nat) (f : Nat) : Bool :=
  let cfg := s.eff g (fCfg f)
  let ty := nf cfg 2 0
  let ins := cfgInputs cfg (s.eff g (fIn f)) (s.eff g (fAux f))
  decide (ty ≤ 4) && !(nb cfg 3 && (ty == 3 || ty == 4)) && !(nb cfg 4 && ty == 1) &&
  (List.range 4).all (fun j => decide (nf (s.eff g (fIn f)) (8 * j + 5) (8 * j) < 48)) &&
  within 10 3000 (nf (s.eff g (fDisc f)) 11 0) && within 10 1000 (nf (s.eff g (fEdmt f)) 9 0) &&
  ins.all (fun i => decide (i < 48) && nb (s.eff g R.DIO_CTRL) (i / 8))

/-- Does FfOUT of an enabled function name only safety channels of groups that the owner of SFN owns (R380)? -/
def State.sfnOuts (s : State) (g : List Nat) (f : Nat) : Bool :=
  !nb (s.eff g R.SFN_CTRL) 0 || nf (s.eff g (fCfg f)) 2 0 == 0 ||
  (List.range 32).all (fun k => !nb (s.eff g (fOut f)) k ||
    (s.doSafety k && s.owner (0x093 + k / 8) == s.owner 0x098))

/-- Does the commit change FfCFG, FfIN, FfAUX or FfOUT of a function in ENABLED? -/
def State.sfnTouched (s : State) (g : List Nat) (f : Nat) : Bool :=
  s.sfnState f == fsEnabled && [fCfg f, fIn f, fAux f, fOut f].any (fun x => s.eff g x != s.rd x)

/-- The check of an SFN page committed with the pages `g`. -/
def State.sfnCheck (s : State) (g : List Nat) (p : Nat) : Verdict :=
  let fs := if p = 0x099 then List.range 8 else if p = 0x09A then (List.range 8).map (· + 8)
    else if p = 0x098 ∧ nb (s.sh R.SFN_CTRL) 0 then List.range 16 else []
  match fs.find? (s.sfnTouched g) with
  | some f => .codedAt 0x0103 (0x40000000 + fCfg f)
  | none =>
    if !fs.all (s.sfnRange g) then .range
    else match fs.find? (fun f => !s.sfnOuts g f) with
    | some f => .codedAt 0x0102 (0x40000000 + fOut f)
    | none => .ok

/-- Put a function into the entry state of its type, PROOF cleared (R371, R372). -/
def State.sfnStart (s : State) (f : Nat) : State :=
  ((s.setSfnFn f { from_ := s.moduleTime }).putBit (R.SFN_FSTATE f) 3 false).sfnEnter f (entryState (s.sfnType f)) 0 s.moduleTime

/-- Put a function into OFF. -/
def State.sfnStop (s : State) (f : Nat) : State :=
  ((s.setSfnFn f {}).putFld (R.SFN_FSTATE f) 5 3 0).sfnEnter f fsOff 0 s.moduleTime

/-- What an SFN page does when its shadows became active (R371). -/
def State.sfnApplied (s old : State) (p : Nat) : State :=
  if p < 0x098 ∨ 0x09A < p then s
  else
    let s := s.putBit R.SFN_STAT 0 s.sfnOn
    let s := if s.sfnOn && !old.sfnOn then
        { (s.putBit R.SFN_STAT 1 true).putBit R.SFN_STAT 2 true with
          sfn := { s.sfn with diff := false, episode := false, press := [] } }
      else if !s.sfnOn then (s.putBit R.SFN_STAT 1 false).putBit R.SFN_STAT 2 false
      else s
    (forN 16 (fun f t =>
      let st := t.sfnState f
      if !t.sfnOn || t.sfnType f == 0 then (if st = fsOff then t else t.sfnStop f)
      else if st = fsOff then t.sfnStart f
      else if (nf (t.rd (fCfg f)) 3 0 != nf (old.rd (fCfg f)) 3 0 || t.rd (fIn f) != old.rd (fIn f)) &&
          st != fsEnabled && st != fsFault then t.sfnStart f
      else t) s).sfnGate

/-! ### Writes of GPAR and SAFEMASK -/

/-- GPAR or SAFEMASK of an output group was written: releases and drivers follow (R348, R377). -/
def State.masked (s : State) (p o : Nat) : State :=
  if within 0x093 0x096 p && (o == 0x040 || o == 0x058) then s.sfnGate.doUpdate (p - 0x093) else s

/-- REGISTER_WRITE: a 32-bit write to a register that has no behaviour of its own. -/
def execRegisterWrite (dt : Nat) (who : Init) (p : Fin 512) (w : Fin 1024) (v : Word) (s : State) :
    Host.Outcome State Fault Refusal :=
  onMain dt s fun s => s.cmdW who p.val (4 * w.val) fun n s =>
    if isWide (reg p.val (4 * w.val)) then s
    else (s.plainWrite n p.val (4 * w.val) v.toNat).masked p.val (4 * w.val)

/-! ### What other blocks take -/

/-- Bits of trace kind 4 of DRC: ENABLED, DEMAND, waiting and FAULT of each function (R384). -/
def State.sfnTrace (s : State) : Nat :=
  forN 16 (fun f v =>
    let st := s.sfnState f
    let b := if st = fsEnabled then 1 else if st = fsDemand then 2
      else if st = fsWaitproof ∨ st = fsLockout ∨ st = fsWaitrelease then 4 else if st = fsFault then 8 else 0
    v + b * 2 ^ (4 * f)) 0

end Sys2Proof.Machine
end

