-- ==== Sys2Proof/Machine/Pad.lean ====
section
/-! DEFINITION. PAD: the grid, sample sets, the cross-check, settling and captures (R222 to R252). -/
namespace Sys2Proof.Machine

/-! ### The grid's parameters -/

/-- Samples per cycle (R233). -/
def State.spc (s : State) : Nat := if s.bit R.PAD_CTRL 7 then 512 else 256

/-- The largest SINCN among enabled channels, or 3 (R236). -/
def State.nmax (s : State) : Nat :=
  let on := (List.range 24).filter (fun n => s.chOn n)
  if on = [] then 3 else on.foldl (fun a n => max a (s.fld (chCfg n) 10 8)) 0

/-- DFIX in 10 ns ticks (R236), the sum of the parts that it covers (assumption 32). -/
def State.dfix (s : State) : Rat := 5473 + 7 / 16 + (s.nmax : Nat) * (3150000 / 16384)

/-- τAA in grid ticks (R234). -/
def State.tauAA (s : State) : Rat := if s.bit R.PAD_CTRL 1 then 20499 / 10000 else 11882 / 10000

/-- A grid period in 10 ns ticks at a frequency in Hz. -/
def State.gridTicks (s : State) (f : Rat) : Rat := if f ≤ 0 then 0 else 100000000 / (f * (s.spc : Nat))

/-- LATAA in 10 ns ticks, at the last coefficient update. -/
def State.lataa (s : State) : Rat := s.tauAA * s.gridTicks s.pad.aaFreq

/-! ### The grid (R233 to R238) -/

/-- Does axis `k` agree with the grid: a mains source and a TICKDIV equal to SPC? -/
def State.gridAgrees (s : State) (g : List Nat) (k spc : Nat) : Bool :=
  nf (s.eff g (R.AXS_SRC k)) 2 0 == 1 && nf (s.eff g (R.AXS_TICK k)) 16 0 == spc

/-- FIXF in Hz. -/
def State.fixHz (s : State) : Rat := (s.fld R.PAD_FIXF 16 0 : Nat) / 1000

/-- An axis velocity in Hz. -/
def velHz (v : Int) : Rat := (v.natAbs : Nat) / (2 ^ 32 : Nat)

/-- The grid that the state of the grid axis asks for: 0 none, 1 axis, 2 hold, 3 fallback; and its frequency in Hz.  ACQUIRING
after a lock without a FROZEN spell falls back at FIXF, and ACQUIRING after a FROZEN spell at the frequency held at loss
though no lock has come since the PAD commit (DESIGN CHOICE, assumption 141). -/
def State.gridSel (s : State) : Nat × Rat :=
  let k := s.gridAx
  if !s.padOn || s.gridMode = 0 then (0, s.fixHz)
  else if s.gridMode ≠ 1 ∨ s.pad.mism then (3, s.fixHz)
  else if s.axState k = axLocked then (1, velHz (s.axVel k))
  else if s.axState k = axHold then (2, velHz (s.axVel k))
  else if (s.axState k = axFrozen ∨ s.axState k = axAcquiring) ∧ (s.axis k).frozen then (3, velHz (s.axis k).vloss)
  else (3, s.fixHz)

/-- STAT.GRID. -/
def State.gridStat (s : State) : Nat := s.fld R.PAD_STAT 2 1

/-- Show a grid in STAT; a change raises ES104 (R238). -/
def State.setGrid (s : State) (g : Nat) : State :=
  if s.gridStat = g then s else (s.putFld R.PAD_STAT 2 1 g).raise 0x060 0

/-- The instant of 1.25 ns phase `ph` of the local clock in module time. -/
def State.instOf (s : State) (ph : Nat) : Nat :=
  (((s.moduleTime : Int) + 5 * ((ph : Int) - 8 * s.ticks)) % 2 ^ 64).toNat

/-- From 1.25 ns phase `ph` on the chain runs with what the registers and the last coefficient update give (R234, R239). -/
def State.padEra (s : State) (ph : Nat) : State :=
  let e : PadEra :=
    { start := ph, ctl := s.rd R.PAD_CTRL, freq := s.pad.aaFreq, cal := s.bit R.PAD_STAT 4
      ch := (List.range 24).map (fun n => (List.range 8).map (fun j => s.rd (chCfg n + 4 * j))) }
  { s with pad := { s.pad with eras := e :: s.pad.eras, cap := s.pad.cap.map (fun x => { x with eras := e :: x.eras }) } }

/-- Recompute the filter coefficients at the tick of index 0, at phase `ph` (R234). -/
def State.gridCoef (s : State) (ph : Nat) (f : Rat) : State :=
  let s := { s with pad := { s.pad with aaFreq := f } }.padEra ph
  (s.wr R.PAD_GRIDFREQ (nearestInt 1 (f * 1000)).toNat).wr R.PAD_LATAA (nearestInt 2 s.lataa).toNat

/-- Make the set of a grid tick (R236): crossing instant as a phase, index, grid and frequency. -/
def State.makeSet (s : State) (ph idx grid : Nat) (f : Rat) : State :=
  let inst := s.instOf ph
  let jumps := s.rd (R.AXS_JUMPCNT s.gridAx)
  let chg := s.pad.chg || (s.gridStat == 3 && grid != 3 && s.pad.some_) || (grid != 3 && jumps != s.pad.jumps)
  let s := s.setGrid grid
  let s := if idx = 0 then s.gridCoef ph f else s
  let set : SampleSet :=
    { num := s.rd64 R.PAD_TICK + s.pad.flight.length + 1
      inst := inst, phase := ph, lat := 8 * s.lataa
      delta := if s.pad.some_ then 5 * (ph - s.pad.lastPhase) else 0
      idx := idx, freq := f
      flags := b2n chg * 64 + b2n (grid == 3) * 32 + b2n (grid == 2) * 16
      mods := decide (8 * (s.pad.onTick + 20000) ≤ ph)
      due := ((ph : Nat) / 8 + s.lataa + s.dfix).ceil.toNat
      trDi := forN 48 (fun i m => nputb m i (s.diLevelAt i inst)) 0
      trPre := s.fld R.PRE_OUTSTAT 11 0
      trSfn := s.sfnTrace
      locked := s.timeLocked
      trDo := forN 32 (fun k m => nputb m k (s.doLevel k)) 0 }
  let s := { s with pad := { s.pad with
    flight := s.pad.flight ++ [set], chg := false, jumps := jumps, start := none
    some_ := true, lastPhase := ph, idx := idx } }
  if chg then s.incSat R.PAD_GRIDJMP else s

/-- The phase of the next fallback tick. -/
def State.fbDue (s : State) : Nat :=
  s.pad.fbBase + (((s.pad.fbN + 1 : Nat) : Rat) * 8 * s.gridTicks s.pad.fbFreq).floor.toNat

/-- The fallback grid starts again from phase `base` at a frequency. -/
def State.fbStart (s : State) (base : Nat) (f : Rat) : State :=
  { s with pad := { s.pad with
    fbBase := base, fbN := 0, fbFreq := f, fbSpc := s.spc, seen := (s.axis s.gridAx).tickN } }

/-- A running fallback grid follows the frequency and SPC in force; the first set at the new rate carries GRIDCHG (R233,
R238). -/
def State.fbMove (s : State) : State :=
  let f := s.gridSel
  if s.gridStat = 3 ∧ f.1 = 3 ∧ (s.pad.fbFreq ≠ f.2 ∨ s.pad.fbSpc ≠ s.spc) then
    let s := s.fbStart (max s.pad.lastPhase (8 * s.ticks - (8 * s.gridTicks f.2).floor.toNat)) f.2
    { s with pad := { s.pad with chg := true } }
  else s

/-- The next tick of the fallback grid, when it is due: its index and frequency. -/
def State.fbTick (s : State) (idx : Nat) : State :=
  if s.fbDue ≤ 8 * s.ticks + 7 then
    { s with pad := { s.pad with fbN := s.pad.fbN + 1 } }.makeSet s.fbDue idx 3 s.pad.fbFreq
  else s

/-- GRID_TICK: an axis tick of the grid axis, the first tick of an enabling commit, or a tick of the fallback grid.
An axis tick wins over a fallback tick of the same tick.  The first tick of a commit on a LOCKED axis or one in HOLD shows that
grid, with index 0 (DESIGN CHOICE, assumption 142). -/
def execGridTick (dt : Nat) (s : State) : Host.Outcome State Fault Refusal :=
  onMain dt s fun s =>
    let s := s.fbMove
    let sel := s.gridSel
    let a := s.axis s.gridAx
    if sel.1 = 0 then s
    else if sel.1 ≠ 3 ∧ a.tickN ≠ s.pad.seen then
      { s with pad := { s.pad with seen := a.tickN } }.makeSet a.tickPh (a.tickNo % (s.spc : Nat)).toNat sel.1 sel.2
    else match s.pad.start with
    | some ph => (s.fbStart ph sel.2).makeSet ph 0 sel.1 sel.2
    | none =>
      if s.gridStat ≠ 3 ∧ sel.1 = 3 then (s.fbStart s.pad.lastPhase sel.2).fbTick 0
      else if s.gridStat = 3 then s.fbTick ((s.pad.idx + 1) % s.spc)
      else s

/-! ### The start of an integrator (R229) -/

/-- The integrator's start: the mean over the first SPC grid samples is subtracted once (R229). -/
def PadChan.mean (x : PadChan) (spc : Nat) : PadChan :=
  if x.leak = 0 ∨ spc ≤ x.cnt then x
  else
    let m := x.sumM + x.main.y
    let c := x.sumC + x.check.y
    if x.cnt + 1 < spc then { x with cnt := x.cnt + 1, sumM := m, sumC := c }
    else { x with cnt := spc, main := { x.main with y := x.main.y - openInt 19 (m / (spc : Nat)) }
                  check := { x.check with y := x.check.y - openInt 19 (c / (spc : Nat)) } }

/-! ### Samples -/

/-- The signal instant of R235 on the samples of step 7: t_k, LATAA and SKEW, and the delays of steps 2, 3 and 4, in periods
of 256 kS/s. -/
def SampleSet.point (t : SampleSet) (skew : Int) (n : Nat) : Rat :=
  ((t.phase : Nat) + t.lat) / 3125 + ((skew + 480 : Int) + 63 * (n : Nat) / 2) / 64

/-- Full scale of a range in V (R223). -/
def rangeV (r : Nat) : Rat := if r = 0 then 1 / 4 else if r = 1 then 1 else if r = 2 then 4 else 8

/-- What channel `n` runs with at the signal instant of a set, whose skew is that of the configuration itself (R235, R239). -/
def State.eraFor (s : State) (t : SampleSet) (n : Nat) : PadEra :=
  (s.pad.eras.find? (fun e =>
    decide (((e.start : Nat) : Rat) ≤ (t.phase : Nat) + t.lat + ((sx 10 (e.word n 3) * 3125 : Int) : Rat) / 64))).getD
    (s.pad.eras.getLastD {})

/-- VALUE of R237 for a step-7 value of channel `n`, and whether it was clipped. -/
def PadEra.value (e : PadEra) (n : Nat) (v : Rat) : Int × Bool :=
  let c := e.word n 0
  let pfs := b32.rat (e.word n 1)
  let q := b32.rat (e.word n 2) * v * rangeV (nf c 5 4) / (2 ^ 38 : Nat) * (if nf c 2 1 = 1 then 16 / 1000 else 1)
  let x := if pfs = 0 then 0 else nearestInt 3 (q / pfs * (2 ^ 23 : Nat))
  (clampInt (-8388607) 8388607 x, decide (x < -8388607) || decide (8388607 < x))

def State.xwinOf (s : State) (n : Nat) : XWin := tabGet {} s.pad.xwin n
def State.setXwin (s : State) (n : Nat) (x : XWin) : State :=
  { s with pad := { s.pad with xwin := tabSet {} s.pad.xwin n x } }

/-- Latch the cross-check of a channel; ES106 is raised when it was not latched (R231), and its check modulator is reported
(R11). -/
def State.xlatch (s : State) (n : Nat) : State :=
  if s.bit R.PAD_XLATCH n then s
  else (((s.putBit R.PAD_XLATCH n true).incSatF (R.PAD_XCNT n) 31 16).raise 0x065 0).replicaErr 0x065

/-- The cross-check of one sample: difference `d` in LSB (R231, R250). -/
def State.xcheck (s : State) (n d : Nat) : State :=
  let gross := decide (s.fld R.PAD_XCFG 23 16 * 2 ^ 23 < d * 1000)
  let s := if gross then s.incSatF (R.PAD_XCNT n) 15 0 else s
  let w := s.xwinOf n
  let sum := w.sum + d
  let cnt := w.cnt + 1
  if cnt < s.fld R.PAD_XCFG 6 0 then s.setXwin n { w with sum := sum, cnt := cnt }
  else
    let above := decide (s.fld R.PAD_XTOL 7 0 * 2 ^ 23 * cnt < sum * 1000)
    let mean := min 0xFFFF (sum * 10000 / (2 ^ 23 * cnt))
    let bad := if above then w.bad + 1 else 0
    let s := s.setXwin n { sum := 0, cnt := 0, bad := bad, last := !above }
    let s := (s.putFld (R.PAD_XDIFF n) 15 0 mean).putFld (R.PAD_XDIFF n) 31 16
      (max mean (s.fld (R.PAD_XDIFF n) 31 16))
    if s.fld R.PAD_XCFG 11 8 ≤ bad then s.xlatch n else s

/-- Count a sample's SAT; ES107 when it ends a full grid cycle without (R245, R250). -/
def State.satCount (s : State) (n : Nat) (sat : Bool) : State :=
  let was := tabGet 0 s.pad.clean n
  let s := { s with pad := { s.pad with clean := tabSet 0 s.pad.clean n (if sat then 0 else min s.spc (was + 1)) } }
  let s := s.putBit R.PAD_SATNOW n sat
  if sat then (s.incSat (R.PAD_SATCNT n)).raiseIf (decide (s.spc ≤ was)) 0x065 1 else s

/-- One channel of a set: the sample word, after its cross-check, with the state it leaves (R231, R235, R237).  The registers
that name the channel, its scale and its skew act by the signal instant (R239). -/
def State.sample (s : State) (set : SampleSet) (n : Nat) (c : ChIn) : State × Nat :=
  let e := s.eraFor set n
  let cfg := e.word n 0
  let on := nb cfg 0
  let u := set.point (sx 10 (e.word n 3)) (nf cfg 10 8)
  let m := u.floor.toNat
  let x := (s.chainTo s.pad.eras n (m + 2) false (tabFind s.pad.chan n) c).1.mean s.spc
  let vm := interp x.main.out x.next m (u - u.floor)
  let vc := interp x.check.out x.next m (u - u.floor)
  let s := { s with pad := { s.pad with
    chan := if on then tabIns (tabDel s.pad.chan n) n x else if s.chOn n then s.pad.chan else tabDel s.pad.chan n } }
  let a := e.value n vm.1
  let b := e.value n vc.1
  let run := on && set.mods
  let d := if run then (a.1 - b.1).natAbs else 0
  let gross := decide (s.fld R.PAD_XCFG 23 16 * 2 ^ 23 < d * 1000)
  let latched := s.bit R.PAD_XLATCH n
  let s := if run then s.xcheck n d else s
  let sat := set.mods && (if on then vm.2 || a.2 else (c.main.reverse.take 4).any (fun w => w.sat))
  let s := if set.mods then s.satCount n sat else s.putBit R.PAD_SATNOW n false
  let valid := run && !s.bit R.PAD_MFLTM n
  (s, (if valid then toBits 24 a.1 else 0) * 256 + b2n (!s.bit R.PAD_STAT 4) * 128 + set.flags +
    b2n (decide (set.phase < tabGet 0 s.pad.settle n)) * 8 + b2n (gross || latched) * 4 + b2n sat * 2 + b2n valid)

/-- Deliver the oldest set: samples, cross-check, TICK and a waiting LIVEGRAB (R236, R249). -/
def State.padDeliver (s : State) (set : SampleSet) (x : List ChIn) : State :=
  let r := (List.range 24).foldl (fun (a : State × List Nat) n =>
    let q := a.1.sample set n (x.getD n { main := [], check := [] })
    (q.1, a.2 ++ [q.2])) (s, [])
  let s := r.1
  let set := { set with words := r.2, pfs := (List.range 24).map (fun n => (s.eraFor set n).word n 1) }
  let eras := s.pad.eras.takeWhile (fun e => decide (set.phase < e.start)) ++
    (s.pad.eras.find? (fun e => decide (e.start ≤ set.phase))).toList
  let s := { s with pad := { s.pad with flight := s.pad.flight.drop 1, last := set, eras := eras } }.wr64 R.PAD_TICK set.num
  if s.pad.grab then
    let s := forN 24 (fun n t => t.wr (R.PAD_LAST n) (set.words.getD n 0)) { s with pad := { s.pad with grab := false } }
    (s.wr64 R.PAD_LTICK set.num).wr R.PAD_LIVESTAT 1
  else s

/-! ### Events and commands -/

/-- MODULATOR_FAULT: a main fault takes VALID from the samples, a check fault latches the channel (R232). -/
def execModulatorFault (dt : Nat) (n : Fin 24) (check : Bool) (s : State) : Host.Outcome State Fault Refusal :=
  onMain dt s fun s =>
    if !s.padOn || decide (s.ticks < s.pad.onTick + 20000) then s
    else if check then ((s.putBit R.PAD_MFLTC n.val true).raise 0x065 2).xlatch n.val
    else (s.putBit R.PAD_MFLTM n.val true).raise 0x065 2

/-- STAT.SETTLE follows SETTLEMASK, and ES105 is raised when the mask becomes 0 from `was` (R239). -/
def State.settleShow (s : State) (was : Nat) : State :=
  let m := s.rd R.PAD_SETTLEMASK
  (s.putBit R.PAD_STAT 3 (m != 0)).raiseIf (was != 0 && m == 0) 0x060 1

/-- SETTLED: the settling interval of a channel is over in the last delivered set; ES105 when the mask becomes 0 (R239). -/
def execSettled (dt : Nat) (n : Fin 24) (s : State) : Host.Outcome State Fault Refusal :=
  onMain dt s fun s =>
    if s.bit R.PAD_SETTLEMASK n.val && decide (tabGet 0 s.pad.settle n.val ≤ s.pad.last.phase) then
      (s.putBit R.PAD_SETTLEMASK n.val false).settleShow (s.rd R.PAD_SETTLEMASK)
    else s

/-- LIVEGRAB: READY clears and the next delivered set is copied (R249). -/
def execLivegrab (dt : Nat) (who : Init) (v : Word) (s : State) : Host.Outcome State Fault Refusal :=
  onMain dt s fun s => s.cmdW who 0x064 0xC00 fun _ => onOne v fun s =>
    { s with pad := { s.pad with grab := true } }.wr R.PAD_LIVESTAT 0

/-- XCLR: `gone` names the modulators whose fault condition has gone, main in [23:0] and check in [47:24]; a latch clears
when the current window is within XTOL (R231, R232, R250). -/
def execXclr (dt : Nat) (who : Init) (v : Word) (gone : BitVec 48) (s : State) : Host.Outcome State Fault Refusal :=
  onMain dt s fun s => s.cmdW who 0x065 0xC00 fun part s =>
    if nf v.toNat 31 24 ≠ 0xA7 then s.err 0x065 part eBadKey R.PAD_XCLR
    else forN 24 (fun n t =>
      if !nb v.toNat n then t
      else
        let t := if nb gone.toNat n then t.putBit R.PAD_MFLTM n false else t
        let t := if nb gone.toNat (24 + n) then t.putBit R.PAD_MFLTC n false else t
        let w := t.xwinOf n
        let good := if w.cnt = 0 then w.last
          else decide (w.sum * 1000 ≤ t.fld R.PAD_XTOL 7 0 * 2 ^ 23 * w.cnt)
        let t := if good then t.putBit R.PAD_XLATCH n false else t
        t.putFld (R.PAD_XDIFF n) 31 16 0) s

/-- PAD_CAPGO: start a raw capture at the next sample of the channel and tap of CAPCFG; ignored while BUSY, and for a
channel above 23 (R252, assumption 126). -/
def execPadCapgo (dt : Nat) (who : Init) (v : Word) (s : State) : Host.Outcome State Fault Refusal :=
  onMain dt s fun s => s.cmdW who 0x067 0xC00 fun _ => onOne v fun s =>
    let n := s.fld R.PAD_CAPCFG 4 0
    if s.bit R.PAD_CAPSTAT 0 || decide (23 < n) then s
    else
      let first := divUp (8 * s.ticks) 3125
      let x : PadCap :=
        { ch := n, tap := s.bit R.PAD_CAPCFG 8, first := first, chan := tabFind s.pad.chan n, eras := s.pad.eras }
      ({ s with pad := { s.pad with cap := some x } }.wr R.PAD_CAPSTAT 1).wr64 R.PAD_CAPT (s.instOf (3125 * first))

/-- A value of the chain as the 24 bits of a capture, sign-extended. -/
def cap24 (v : Int) : Nat := toBits 32 (clampInt (-8388608) 8388607 (nearestInt 18 ((v : Rat) / (2 ^ 15 : Nat))))

/-- CAPDONE: the 256 samples of both paths are in place, DONE is set and ES109 follows (R243, R252).  `m` and `c` are the
words of the modulators up to the last sample. -/
def execCapdone (dt : Nat) (m c : List ModWord) (s : State) : Host.Outcome State Fault Refusal :=
  onMain dt s fun s =>
    match s.pad.cap with
    | none => s
    | some x =>
      if 8 * s.ticks < 3125 * (x.first + 255) then s
      else
        let r := (s.chainTo x.eras x.ch (x.first + 255) x.tap x.chan { main := m, check := c }).2
        let s := forN 256 (fun i t =>
          let v := r.getD (255 - i) (0, 0)
          (t.wr (R.PAD_CAPM i) (cap24 v.1)).wr (R.PAD_CAPC i) (cap24 v.2)) s
        ({ s with pad := { s.pad with cap := none } }.wr R.PAD_CAPSTAT 2).raise 0x067 0

/-! ### Commits (R239, R240, R248) -/

/-- The check of one channel. -/
def State.chOk (s : State) (n : Nat) : Bool :=
  let c := s.sh (chCfg n)
  let f0 := s.shFld (chReg R.PAD_CHNF0 n) 14 0
  let bw := s.shFld (chReg R.PAD_CHNBW n) 10 0
  let sk := sx 10 (s.sh (chReg R.PAD_CHSKEW n))
  let gt := sx 16 (s.sh (chReg R.PAD_CHGTRIM n))
  decide (nf c 2 1 < 2) && within 1 5 (nf c 10 8) &&
  f32Pos (s.sh (chReg R.PAD_CHPFS n)) && f32Pos (s.sh (chReg R.PAD_CHRATIO n)) &&
  decide (-256 ≤ sk) && decide (sk ≤ 255) && decide (gt.natAbs ≤ 20000) &&
  within 100 20000 f0 && within 2 2000 bw && decide (2 * bw ≤ f0) &&
  within 20 500 (s.shFld (chReg R.PAD_CHLEAK n) 9 0)

/-- The check of a PAD page. -/
def State.padCheck (s : State) (g : List Nat) (p : Nat) : Verdict :=
  if p = 0x060 then
    let c := s.sh R.PAD_CTRL
    let old := s.rd R.PAD_CTRL
    if s.bit R.PRE_CTRL 0 ∧ (nf c 7 2 ≠ nf old 7 2 ∨ nb c 0 ≠ nb old 0) then .coded 0x0101
    else
      let x := s.sh R.PAD_XCFG
      rangeIf (nf c 3 2 != 3 &&
        (nf c 3 2 != 1 || s.gridAgrees g (nf c 6 4) (if nb c 7 then 512 else 256)) &&
        within 10000 70000 (s.shFld R.PAD_FIXF 16 0) && within 5 100 (s.shFld R.PAD_XTOL 7 0) &&
        within 8 64 (nf x 6 0) && within 1 15 (nf x 11 8) && within 50 250 (nf x 23 16))
  else if p ≤ 0x063 then rangeIf ((List.range 8).all (fun j => s.chOk (8 * (p - 0x061) + j)))
  else .ok

/-- The settling terms of a channel, in ticks (R239); `all` when the whole chain starts. -/
def State.settleTerms (s old : State) (n : Nat) (all : Bool) : Nat :=
  let c := s.rd (chCfg n)
  let o := old.rd (chCfg n)
  let grid := s.gridTicks (if s.gridStat = 3 ∨ s.gridStat = 0 then s.gridSel.2 else s.pad.aaFreq)
  let en := all || !nb o 0
  let t1 := if en || nf c 5 4 != nf o 5 4 || nf c 2 1 != nf o 2 1 then 30000 else 0
  let t2 := if nf c 10 8 ≠ nf o 10 8 then 10000 else 0
  let t3 := if nf c 2 1 = 1 ∧ (en ∨ nf o 2 1 ≠ 1 ∨
      s.rd (chReg R.PAD_CHLEAK n) ≠ old.rd (chReg R.PAD_CHLEAK n)) then
      ((s.spc : Nat) * grid).ceil.toNat else 0
  let bw := s.fld (chReg R.PAD_CHNBW n) 10 0
  let t4 := if nb c 6 ∧ (en ∨ !nb o 6 ∨ s.rd (chReg R.PAD_CHNF0 n) ≠ old.rd (chReg R.PAD_CHNF0 n) ∨
      s.rd (chReg R.PAD_CHNBW n) ≠ old.rd (chReg R.PAD_CHNBW n)) then divUp 146400000 (max bw 1) else 0
  let ctl := s.rd R.PAD_CTRL
  let t5 := if nb ctl 1 ≠ nb (old.rd R.PAD_CTRL) 1 ∨ s.rd R.PAD_FIXF ≠ old.rd R.PAD_FIXF then
      (8 * grid).ceil.toNat else 0
  t1 + t2 + t3 + t4 + t5

/-- Put channels into SETTLE, all of them when the modulators start; a channel that is disabled leaves it. -/
def State.settleGo (s old : State) (ns : List Nat) (all : Bool) : State :=
  if !s.padOn then s
  else (forL ns (fun n t =>
    let d := t.settleTerms old n all
    let put (e : Nat) : State :=
      { t with pad := { t.pad with settle := tabSet 0 t.pad.settle n e } }.putBit R.PAD_SETTLEMASK n (e != 0)
    if !t.chOn n && !all then (if old.chOn n then put 0 else t)
    else if d = 0 then t
    else put (max (8 * (t.ticks + d)) (tabGet 0 t.pad.settle n))) s).settleShow (s.rd R.PAD_SETTLEMASK)

/-- Stop set delivery: CTRL.EN = 0 (R242).  A waiting LIVEGRAB and a running capture stay. -/
def State.padStop (s : State) : State :=
  let mask := s.rd R.PAD_SETTLEMASK
  let s := ({ s with pad := { grab := s.pad.grab, cap := s.pad.cap } }.setGrid 0).wr R.PAD_SETTLEMASK 0
  (s.settleShow mask).putBit R.PAD_STAT 0 false

/-- What page 0x060 does when its shadows became active. -/
def State.padCtlApplied (s old : State) : State :=
  let s := { s with pad := { s.pad with mism := false } }.putBit R.PAD_STAT 5 (s.padOn && s.bit R.PAD_CTRL 7)
  let seen := (s.axis s.gridAx).tickN
  let jumps := s.rd (R.AXS_JUMPCNT s.gridAx)
  let start := if s.gridMode = 0 then none else some (8 * s.ticks)
  if !s.padOn then (if old.padOn then s.padStop else s)
  else if !old.padOn then
    let s := { s with pad := { s.pad with
      onTick := s.ticks, start := start, aaFreq := s.gridSel.2, jumps := jumps, seen := seen } }
    (s.putBit R.PAD_STAT 0 true).settleGo old (List.range 24) true
  else
    let s :=
      if s.gridMode = 0 then { s with pad := { s.pad with start := none, flight := [], some_ := false } }.setGrid 0
      else if old.gridMode = 0 then { s with pad := { s.pad with start := start, jumps := jumps, seen := seen } }
      else if nf (s.rd R.PAD_CTRL) 7 2 ≠ nf (old.rd R.PAD_CTRL) 7 2 then
        { s with pad := { s.pad with chg := true, seen := seen } }
      else s
    s.settleGo old (List.range 24) false

/-- What a PAD page does when its shadows became active. -/
def State.padApplied (s old : State) (p : Nat) : State :=
  let s := if p = 0x060 then s.padCtlApplied old
    else if 0x061 ≤ p ∧ p ≤ 0x063 then s.settleGo old ((List.range 8).map (fun j => 8 * (p - 0x061) + j)) false
    else s
  if s.padOn then (s.padEra (8 * s.ticks)).wr R.PAD_LATFIX s.dfix.ceil.toNat else s

/-- An AXS commit may take the grid axis out of agreement: GRID_MISMATCH, and the fallback grid runs (R233). -/
def State.padAxis (s : State) (k : Nat) : State :=
  if s.padOn ∧ s.gridMode = 1 ∧ s.gridAx = k ∧ !s.pad.mism ∧ !s.gridAgrees [] k s.spc then
    ({ s with pad := { s.pad with mism := true, chg := true } }.err 0x060 ((s.owner 0x060).getD 0) 0x0102
      (R.AXS_SRC k)).raise 0x060 0
  else s

end Sys2Proof.Machine
end

