-- ==== Sys2Proof/Machine/PreProg.lean ====
section
/-! DEFINITION. PRE: the protection program, its instructions and its elements, run over one sample set (R253 to
R277). -/
namespace Sys2Proof.Machine

/-! ### Program and group memory (R254, R263) -/

/-- The fields of an instruction. -/
structure PIns where
  op : Nat
  mod : Nat
  e : Nat
  d : Nat
  a : Nat
  b : Nat
  c : Nat
  x : Nat
deriving DecidableEq, Repr

/-- Split an instruction word. -/
def pDecode (w : Nat) : PIns :=
  { op := nf w 63 56, mod := nf w 55 48, e := nf w 47 40, d := nf w 39 32
    a := nf w 31 24, b := nf w 23 16, c := nf w 15 8, x := nf w 7 0 }

/-- Instruction `i`. -/
def State.pIns (s : State) (i : Nat) : PIns := pDecode (memNum s.pre.mem (8 * i) 8)

/-- The number of instructions up to and with END, if there is one; `fuel` instructions from `i`. -/
def State.pEnd (s : State) : Nat → Nat → Option Nat
  | 0, _ => none
  | fuel + 1, i => if memNum s.pre.mem (8 * i + 7) 1 = 0x3F then some (i + 1) else s.pEnd fuel (i + 1)

/-- The program: every instruction up to END, with its index. -/
def State.program (s : State) : List (Nat × PIns) :=
  match s.pEnd 8192 0 with
  | some n => (List.range n).map (fun i => (i, s.pIns i))
  | none => []

/-- A 32-bit word of PRE memory. -/
def State.pWord (s : State) (o : Nat) : Nat := memNum s.pre.mem o 4

/-- Parameter `j` of element `e` in group `g`, as a word and as a value. -/
def State.par (s : State) (g e j : Nat) : Nat := s.pWord (0x10000 + 0x4000 * g + 0x60 * e + 4 * j)
def State.parQ (s : State) (g e j : Nat) : Rat := b32.rat (s.par g e j)
def State.parN (s : State) (g e j : Nat) : Nat := (s.parQ g e j).floor.toNat

/-- Constant `i` of group `g`. -/
def State.konst (s : State) (g i : Nat) : Nat := s.pWord (0x10000 + 0x4000 * g + 0x3000 + 4 * i)

/-! ### The run of one tick -/

/-- What a tick works on: the lanes' registers and state memory, the demand and its rises. -/
structure Run where
  lane : MLane
  demand : Nat
  rise : Nat
  /-- Events to raise: pages 0x06B bits. -/
  ev : Nat
  rec_ : Nat
  skip : Nat
  /-- Elements seen: state for their registers, newest first: element, op, EVAL, EVAL2. -/
  out : List (Nat × Nat × Nat × Nat)

/-- What a tick reads: the machine, the group, the latched matrix, the set, and the window of sets with the present one first. -/
structure Ctx where
  s : State
  g : Nat
  /-- The words of the trip matrix as latched. -/
  tmr : List Nat
  set : SampleSet
  hist : List SampleSet
  freqs : List (Rat × Nat)

def Run.val (r : Run) (i : Nat) : Nat := (tabGet (0, 0) r.lane.sig (i % 256)).1
def Run.qual (r : Run) (i : Nat) : Nat := (tabGet (0, 0) r.lane.sig (i % 256)).2
def Run.q (r : Run) (i : Nat) : Rat := b32.num (r.val i)
def Run.flag (r : Run) (i : Nat) : Bool := nb r.lane.flags i

/-- Join two qualities: VALID when both are, every other bit when either has it (R261). -/
def qJoin (a b : Nat) : Nat := ((a ||| b) &&& 0xFE) ||| (a &&& b &&& 1)

/-- Write a signal; a NaN or an infinity clears VALID (R261). -/
def Run.put (r : Run) (i v q : Nat) : Run :=
  { r with lane := { r.lane with sig := tabSet (0, 0) r.lane.sig (i % 256) (v, if b32.finite v then q else q &&& 0xFE) } }

/-- The outputs that a row of the trip matrix drives under flags: TRIP masks low, CLOSE masks in [11:8] (R280). -/
def tmRow (flags w : Nat) : Nat := if nb w 31 && nb flags (nf w 7 0) then nf w 19 8 else 0

/-- The demand of the outputs: the OR of the rows. -/
def tmDemand (tmr : List Nat) (flags : Nat) : Nat := tmr.foldl (fun d w => d ||| tmRow flags w) 0

/-- Write a flag; one that an enabled row names reaches the matrix. -/
def Run.setFlag (r : Run) (k : Ctx) (i : Nat) (b : Bool) : Run :=
  if r.flag i = b then r
  else
    let flags := nputb r.lane.flags i b
    let d := tmDemand k.tmr flags
    { r with lane := { r.lane with flags := flags }, demand := d, rise := r.rise ||| (d &&& (r.demand ^^^ 0xFFF)) }

/-! ### Measurement (R264, R266, R267) -/

/-- A sample of channel `x` in primary units, with its quality. -/
def SampleSet.prim (t : SampleSet) (x : Nat) : Rat × Nat :=
  let w := t.words.getD x 0
  (((sx 24 (w / 256) : Int) : Rat) / (2 ^ 23 : Nat) * b32.rat (t.pfs.getD x 0), w % 256)

/-- The quality of a window of sets on a channel: `w` sets wanted (R261, R266). -/
def winQual (h : List SampleSet) (x w : Nat) : Nat :=
  let q := h.foldl (fun a t => qJoin a (t.prim x).2) 1
  if h.length < w then q &&& 0xFE else q

/-- PHASOR: real part, imaginary part and quality (R266). -/
def Ctx.phasor (k : Ctx) (half : Bool) (h x : Nat) : Nat × Nat × Nat :=
  let w := if half then k.s.spc / 2 else k.s.spc
  let win := k.hist.take w
  let z := win.foldl (fun (a : Rat × Rat) t =>
    let v := (t.prim x).1
    if v = 0 then a
    else
      let c := cosSin ((h * t.idx : Nat) / (k.s.spc : Nat))
      (a.1 + v * c.1, a.2 - v * c.2)) (0, 0)
  let n := rootQ 2 / (w : Nat)
  (openB32 (n * z.1), openB32 (n * z.2), winQual win x w)

/-- RMS. -/
def Ctx.rms (k : Ctx) (x : Nat) : Nat × Nat :=
  let win := k.hist.take k.s.spc
  let ms := win.foldl (fun a t => a + (t.prim x).1 * (t.prim x).1) (0 : Rat)
  (openRoot (ms / (k.s.spc : Nat)), winQual win x k.s.spc)

/-- df/dt over `n` cycles, and whether the window is full (R267). -/
def Ctx.dfdt (k : Ctx) (n : Nat) : Nat × Bool :=
  let m := n * k.s.spc
  match k.freqs[m]? with
  | none => (0, false)
  | some old =>
    let t := (k.freqs.take m).foldl (fun a p => a + p.2) 0
    if t = 0 then (0, false)
    else (openB32 ((k.set.freq - old.1) * (4000000000 : Nat) / (t : Nat)), true)

/-- A product of complex numbers. -/
def cMul (x y : Rat × Rat) : Rat × Rat := (x.1 * y.1 - x.2 * y.2, x.1 * y.2 + x.2 * y.1)

/-- SEQ: the zero, positive and negative sequence pairs of three pairs (R267). -/
def seqPairs (a b c : Rat × Rat) : List (Rat × Rat) :=
  let h : Rat := (cosSin (1 / 3)).2
  let p (x : Rat × Rat) := cMul (-1 / 2, h) x
  let n (x : Rat × Rat) := cMul (-1 / 2, -h) x
  let third (x y z : Rat × Rat) := ((x.1 + y.1 + z.1) / 3, (x.2 + y.2 + z.2) / 3)
  [third a b c, third a (p b) (n c), third a (n b) (p c)]

/-! ### Elements (R268 to R277) -/

/-- What an element gives in one tick. -/
structure ElOut where
  st : PreEl
  f0 : Bool
  f1 : Bool
  f2 : Option Bool
  v1 : Nat
  v2 : Nat

/-- Times in 0.25 ns as seconds. -/
def secQ (t : Nat) : Rat := (t : Nat) / (4000000000 : Nat)

/-- A time in binary64 seconds, advanced by Δt in 0.25 ns (R255, R268). -/
def tAdd (w dt : Nat) : Nat := openB64 (b64.rat w + secQ dt)

/-- The PICKUP rule of INST and DEFT: beyond PICKUP, or back beyond PICKUP times DROPOUT (R269). -/
def pickRule (under : Bool) (v pick drop : Rat) (was : Bool) : Bool × Bool :=
  let beyond := if under then decide (v < pick) else decide (pick < v)
  let back := if under then decide (pick * drop < v) else decide (v < pick * drop)
  (beyond, if beyond then true else if back then false else was)

/-- INST. -/
def Ctx.inst (k : Ctx) (e : Nat) (i : PIns) (r : Run) (p : PreEl) : ElOut :=
  let w := if nb i.mod 1 then r.val i.a % 2 ^ 31 else r.val i.a
  let pr := pickRule (nb i.mod 0) (b32.num w) (k.s.parQ k.g e 2) (k.s.parQ k.g e 3) p.pick
  let cnt := if pr.1 then p.cnt + 1 else 0
  let oper := pr.2 && (p.oper || decide (k.s.parN k.g e 4 ≤ cnt))
  { st := { p with pick := pr.2, oper := oper, cnt := cnt }, f0 := oper, f1 := pr.2, f2 := none, v1 := w, v2 := 0 }

/-- DEFT. -/
def Ctx.deft (k : Ctx) (e : Nat) (i : PIns) (r : Run) (p : PreEl) : ElOut :=
  let w := if nb i.mod 1 then r.val i.a % 2 ^ 31 else r.val i.a
  let pr := pickRule (nb i.mod 0) (b32.num w) (k.s.parQ k.g e 2) (k.s.parQ k.g e 3) p.pick
  let el := if pr.2 && p.pick then tAdd p.el k.set.delta else p.el
  let rst := if pr.2 || p.pick then 0 else tAdd p.rst k.set.delta
  let el := if !pr.2 && decide (k.s.parQ k.g e 6 ≤ b64.rat rst) then 0 else el
  let oper := pr.2 && decide (k.s.parQ k.g e 5 ≤ b64.rat el)
  { st := { p with pick := pr.2, oper := oper, el := el, rst := rst }, f0 := oper, f1 := pr.2, f2 := none
    v1 := openB32 (b64.rat el), v2 := openB32 (b64.rat rst) }

/-- Word `i` of curve table `t`. -/
def State.curve (s : State) (t i : Nat) : Rat := b32.rat (s.pWord (0x20000 + 0x800 * t + 4 * i))

/-- The operating rate of a curve at M: 0 below 1, a word at its M_i, and else interpolated linearly in log M (R270). -/
def State.rateOp (s : State) (t : Nat) (m : Rat) : Rat :=
  if m < 1 then 0
  else
    let i := ((List.range 256).filter (fun j => decide ((40 ^ j : Nat) ≤ m ^ 255))).length - 1
    if m ^ 255 = ((40 ^ i : Nat) : Rat) ∨ 255 ≤ i then s.curve t i
    else s.curve t i + (s.curve t (i + 1) - s.curve t i) * (255 * logQ m / logQ 40 - (i : Nat))

/-- The reset rate of a curve at M: interpolated linearly between its words; beyond them it is 0 where the two words at that
end are 0, and else open (R270, R271, assumption 30). -/
def State.rateRs (s : State) (t : Nat) (m : Rat) : Rat :=
  let x := m * (256 : Nat)
  let j := x.floor.toNat
  let past (a b : Nat) : Rat := if s.curve t a = 0 ∧ s.curve t b = 0 then 0 else Config.rateBeyond t m
  if x < 0 then past 256 257
  else if j < 255 then s.curve t (256 + j) + (s.curve t (257 + j) - s.curve t (256 + j)) * (x - (j : Nat))
  else if x = (255 : Nat) then s.curve t 511
  else past 510 511

/-- IDMT. -/
def Ctx.idmt (k : Ctx) (e : Nat) (i : PIns) (r : Run) (p : PreEl) : ElOut :=
  let par := k.s.parQ k.g e
  let ratio := if par 2 = 0 then par 9 else r.q i.a / par 2
  let m := if par 9 < ratio then par 9 else ratio
  let tab := k.s.parN k.g e 4
  let pum := par 5
  let dt := secQ k.set.delta
  let g := b64.rat p.x
  let mode := k.s.parN k.g e 6
  let st : PreEl :=
    if pum ≤ m then
      let g' := openB64 (g + dt * k.s.rateOp tab m / par 3)
      let el := if p.pick then tAdd p.el k.set.delta else 0
      { p with x := g', pick := true, el := el, rst := 0
               oper := p.oper || (decide (1 ≤ b64.rat g') && decide (par 8 ≤ b64.rat el)) }
    else if m < pum * 95 / 100 then
      let rst := tAdd p.rst k.set.delta
      let g' :=
        if mode = 0 then 0
        else if mode = 1 then (if par 7 ≤ b64.rat rst then 0 else p.x)
        else
          let y := g - dt * k.s.rateRs tab m / par 3
          if y ≤ 0 then 0 else openB64 y
      { p with x := g', pick := false, oper := false, rst := rst }
    else { p with rst := 0, el := if p.pick then tAdd p.el k.set.delta else p.el }
  { st := st, f0 := st.oper, f1 := st.pick, f2 := none, v1 := openB32 (b64.rat st.x), v2 := openB32 m }

/-- THERM. -/
def Ctx.therm (k : Ctx) (e : Nat) (i : PIns) (r : Run) (p : PreEl) : ElOut :=
  let par := k.s.parQ k.g e
  let x := r.q i.a
  let base := par 3 * par 2
  let q := if base = 0 then 0 else x / base * (x / base)
  let tau := if par 10 * par 2 ≤ x then par 4 else par 5
  let th := b64.rat p.x
  let x' := openB64 (q + (th - q) * expQ (-(secQ k.set.delta / tau)))
  let th' := b64.rat x'
  let oper := decide (par 7 ≤ th') || (p.oper && decide (par 7 * 98 / 100 ≤ th'))
  let alm := decide (par 6 ≤ th') || (p.pick && decide (par 6 * 98 / 100 ≤ th'))
  let inh := oper || (p.f2 && decide (par 8 ≤ th'))
  { st := { p with x := x', oper := oper, pick := alm, f2 := inh }, f0 := oper, f1 := alm, f2 := some inh
    v1 := openB32 th', v2 := openB32 q }

/-- An angle in degrees brought into (-180, 180]. -/
def wrapDeg (d : Rat) : Rat :=
  let t := (d + 180) / 360
  let f := d - 360 * (t.floor : Int)
  if f = -180 then 180 else f

/-- The square of a pair's magnitude. -/
def mag2 (p : Rat × Rat) : Rat := p.1 * p.1 + p.2 * p.2

/-- The pair of words at signal `i`. -/
def Run.pair (r : Run) (i : Nat) : Nat × Nat := (r.val i, r.val (i + 1))
def ratPair (p : Nat × Nat) : Rat × Rat := (b32.num p.1, b32.num p.2)

/-- The angle of a pair in degrees. -/
def angleQ (p : Rat × Rat) : Rat := argDeg p.1 p.2

/-- DIR. -/
def Ctx.dir (k : Ctx) (e : Nat) (i : PIns) (r : Run) (p : PreEl) : ElOut :=
  let par := k.s.parQ k.g e
  let op := ratPair (r.pair i.a)
  let pol := r.pair i.b
  let good := decide (par 4 * par 4 ≤ mag2 (ratPair pol))
  let fell := !good && (match p.pol with
    | q :: _ => decide (par 4 * par 4 ≤ mag2 (ratPair q))
    | [] => false)
  let memPol := if good then none else if fell then p.pol[2 * k.s.spc - 1]? else p.memPol
  let el := if good ∨ fell then 0 else tAdd p.el k.set.delta
  let use := !good && memPol.isSome && decide (b64.rat el < par 6)
  let ref := if good then some pol else if use then memPol else none
  let dev := match ref with
    | some q => wrapDeg (angleQ op - angleQ (ratPair q) - par 2)
    | none => 0
  let strong := decide (par 5 * par 5 ≤ mag2 op) && ref.isSome
  let fwd := strong && decide (dev.abs ≤ par 3)
  let rev := strong && decide ((wrapDeg (dev - 180)).abs ≤ par 3)
  { st := { p with oper := fwd, pick := rev, f2 := use, el := el, memPol := memPol
                   pol := (pol :: p.pol).take (2 * k.s.spc) }
    f0 := fwd, f1 := rev, f2 := some use, v1 := openB32 dev
    v2 := match ref with | some q => openRoot (mag2 (ratPair q)) | none => 0 }

/-- The vector sum of `n` pairs from signal `i`, and the sum of their magnitudes. -/
def Run.sumPairs (r : Run) (i n : Nat) : (Rat × Rat) × Rat :=
  (List.range n).foldl (fun a j =>
    let q := ratPair (r.pair (i + 2 * j))
    ((a.1.1 + q.1, a.1.2 + q.2), a.2 + rootQ (mag2 q))) ((0, 0), 0)

/-- DIFF. -/
def Ctx.diff (k : Ctx) (e : Nat) (i : PIns) (r : Run) (p : PreEl) : ElOut :=
  let par := k.s.parQ k.g e
  let n := i.mod % 4 + 1
  let f := r.sumPairs i.a n
  let idq := rootQ (mag2 f.1)
  let ir := f.2 / 2
  let met := decide (par 2 ≤ idq) &&
    (if ir ≤ par 4 then decide (par 3 * ir ≤ idq) else decide (par 3 * par 4 + par 5 * (ir - par 4) ≤ idq))
  let h2 := rootQ (mag2 (r.sumPairs i.b n).1)
  let h5 := rootQ (mag2 (r.sumPairs i.c n).1)
  let hb := decide (par 6 * idq ≤ h2) || (i.c != 0xFF && decide (par 7 * idq ≤ h5))
  let un := decide (par 8 ≤ idq)
  let oper := (met && !hb) || un
  { st := { p with oper := oper, pick := un, f2 := hb }, f0 := oper, f1 := un, f2 := some hb
    v1 := openB32 idq, v2 := openB32 ir }

/-- BF. -/
def Ctx.bf (k : Ctx) (e : Nat) (i : PIns) (r : Run) (p : PreEl) : ElOut :=
  let par := k.s.parQ k.g e
  let run := r.flag i.a && (decide (par 2 ≤ r.q i.b) || (nb i.mod 0 && i.c != 0xFF && r.flag i.c))
  let el := if !run then 0 else if p.a then tAdd p.el k.set.delta else 0
  let ret := run && decide (par 3 ≤ b64.rat el)
  let back := run && decide (par 4 ≤ b64.rat el)
  { st := { p with a := run, el := el, oper := ret, pick := back }, f0 := ret, f1 := back, f2 := none
    v1 := openB32 (b64.rat el), v2 := 0 }

/-- One step of the reclosing machine (R276): state, shot, opened, and the timer to restart. -/
def reclStep (par : Nat → Rat) (sub shot : Nat) (opened a aRose b bFell c : Bool) (el : Rat) :
    Nat × Nat × Bool × Bool :=
  if sub ≠ 0 ∧ c then (0, shot, false, true)
  else if sub = 0 then
    if b ∧ !c then (if par 7 ≤ el then (1, 0, false, true) else (0, shot, false, false)) else (0, shot, false, true)
  else if sub = 1 then (if aRose then (2, 1, !b, true) else (1, shot, false, false))
  else if sub = 2 then
    if opened ∧ b then (0, shot, false, true)
    else if !opened ∧ b then (if par 8 ≤ el then (0, shot, false, true) else (2, shot, false, false))
    else if !opened then (2, shot, true, true)
    else if par (2 + shot) ≤ el then (3, shot, false, true)
    else (2, shot, true, false)
  else if sub = 3 then
    if b then (4, shot, false, true)
    else if par 8 ≤ el then (0, shot, false, true)
    else (3, shot, false, false)
  else
    if aRose then
      (if ((shot : Nat) : Rat) < par 2 then (2, shot + 1, !b, true) else (0, shot, false, true))
    else if bFell then (0, shot, false, true)
    else if par 7 ≤ el then (1, 0, false, true)
    else (4, shot, a && opened, false)

/-- RECL.  One restored in DEAD with its breaker open goes on with the time that the checkpoint carries (R288). -/
def Ctx.recl (k : Ctx) (e : Nat) (i : PIns) (r : Run) (p : PreEl) (blkf : Bool) : ElOut :=
  let a := r.flag i.a
  let b := r.flag i.b
  let c := r.flag i.c || blkf
  let el := tAdd p.el k.set.delta
  let n := reclStep (k.s.parQ k.g e) p.sub p.shot (p.opened || (p.rest && p.sub == 2 && !b)) a (a && !p.a) b (!b && p.b) c (b64.rat el)
  let el := if n.2.2.2 then 0 else el
  let close := n.1 == 3
  let lock := n.1 == 0
  let prog := decide (2 ≤ n.1)
  { st := { p with sub := n.1, shot := n.2.1, opened := n.2.2.1, a := a, b := b, el := el, rest := false
                   oper := close, pick := lock, f2 := prog }
    f0 := close, f1 := lock, f2 := some prog, v1 := openB32 (b64.rat el), v2 := openB32 (n.2.1 : Nat) }

/-- TIMER. -/
def Ctx.timer (k : Ctx) (e : Nat) (i : PIns) (r : Run) (p : PreEl) : ElOut :=
  let a := r.flag i.a
  let el := if a = p.a then tAdd p.el k.set.delta else 0
  let out := if a then p.oper || decide (k.s.parQ k.g e 2 ≤ b64.rat el)
    else p.oper && !decide (k.s.parQ k.g e 3 ≤ b64.rat el)
  { st := { p with a := a, el := el, oper := out }, f0 := out, f1 := false, f2 := none, v1 := openB32 (b64.rat el), v2 := 0 }

/-- LATCH: B is dominant. -/
def elLatch (i : PIns) (r : Run) (p : PreEl) : ElOut :=
  let out := if r.flag i.b then false else p.oper || r.flag i.a
  { st := { p with oper := out }, f0 := out, f1 := false, f2 := none, v1 := 0, v2 := 0 }

/-- How many of the flags F0, F1, F2 an element has. -/
def elFlags (op : Nat) : Nat :=
  if op = 0x13 ∨ op = 0x14 ∨ op = 0x15 ∨ op = 0x17 then 3 else if op = 0x18 ∨ op = 0x19 then 1 else 2

/-- The joined quality of an element's operand signals (R262). -/
def elQual (i : PIns) (r : Run) : Nat :=
  let l :=
    if i.op ≤ 0x13 then [i.a]
    else if i.op = 0x14 then [i.a, i.a + 1, i.b, i.b + 1]
    else if i.op = 0x15 then
      (List.range (2 * (i.mod % 4 + 1))).flatMap (fun j =>
        [i.a + j, i.b + j] ++ (if i.c = 0xFF then [] else [i.c + j]))
    else if i.op = 0x16 then [i.b]
    else []
  l.foldl (fun z j => qJoin z (r.qual j)) 1

/-- Does a block mask name a bit of a quality: bit 0 stands for VALID = 0 (R262)? -/
def masked (m q : Nat) : Bool := ((q ^^^ 1) &&& m) % 256 != 0

/-- One element instruction (R262, R268). -/
def Ctx.element (k : Ctx) (i : PIns) (r : Run) : Run :=
  let e := i.e
  let p := tabGet {} r.lane.el e
  let blkf := r.flag (k.s.parN k.g e 1 % 256)
  let blocked := masked (k.s.parN k.g e 0) (elQual i r) || blkf
  let o : ElOut :=
    if blocked ∧ i.op ≠ 0x17 then
      { st := { p with oper := false, pick := false }, f0 := false, f1 := false, f2 := none
        v1 := k.s.rd (R.PRE_EVAL (e / 32) (e % 32)), v2 := k.s.rd (R.PRE_EVAL2 (e / 32) (e % 32)) }
    else if i.op = 0x10 then k.inst e i r p
    else if i.op = 0x11 then k.deft e i r p
    else if i.op = 0x12 then k.idmt e i r p
    else if i.op = 0x13 then k.therm e i r p
    else if i.op = 0x14 then k.dir e i r p
    else if i.op = 0x15 then k.diff e i r p
    else if i.op = 0x16 then k.bf e i r p
    else if i.op = 0x17 then k.recl e i r p blkf
    else if i.op = 0x18 then k.timer e i r p
    else elLatch i r p
  let f0 := o.f0 && !blocked
  let f1 := o.f1 && !blocked
  let was1 := p.f1w
  let same := f0 == p.f0w && f1 == p.f1w && o.st.sub == p.sub
  let st := { o.st with blocked := blocked, f0w := f0, f1w := f1, time := if same then tAdd p.time k.set.delta else 0 }
  let n := elFlags i.op
  let r := r.setFlag k i.d f0
  let r := if 2 ≤ n then r.setFlag k (i.d + 1) f1 else r
  let r := match o.f2 with
    | some b => if n = 3 then r.setFlag k (i.d + 2) b else r
    | none => r
  let ev := b2n (f1 && !was1) + 2 * b2n (i.op == 0x17 && o.st.sub == 0 && p.sub != 0) +
    4 * b2n (i.op == 0x16 && f1 && !was1) + 8 * b2n (i.op == 0x13 && f1 && !was1) +
    16 * b2n (blocked && !p.blocked)
  { r with lane := { r.lane with el := tabSet {} r.lane.el e st }, ev := r.ev ||| ev, out := (e, i.op, o.v1, o.v2) :: r.out }

/-! ### One instruction -/

/-- The B operand of ARITH and CMP: a constant or a signal, with its quality. -/
def Ctx.bOp (k : Ctx) (i : PIns) (r : Run) : Nat × Nat :=
  if nb i.mod 7 then (k.s.konst k.g i.b, 1) else (r.val i.b, r.qual i.b)

/-- A rising edge of the flag of an EVT or REC instruction. -/
def Run.rose (r : Run) (ix : Nat) (b : Bool) : Run × Bool :=
  ({ r with lane := { r.lane with edge := tabSet false r.lane.edge ix b } }, b && !tabGet false r.lane.edge ix)

/-- Run one instruction (R264). -/
def Ctx.step1 (k : Ctx) (ix : Nat) (i : PIns) (r : Run) : Run :=
  if i.op = 0x01 then
    let p := k.set.prim i.x
    r.put i.d (openB32 p.1) p.2
  else if i.op = 0x02 then
    let p := k.phasor (nb i.mod 0) i.a i.x
    (r.put i.d p.1 p.2.2).put (i.d + 1) p.2.1 p.2.2
  else if i.op = 0x03 then
    let p := k.rms i.x
    r.put i.d p.1 p.2
  else if i.op = 0x04 then
    let p := ratPair (r.pair i.a)
    let q := qJoin (r.qual i.a) (r.qual (i.a + 1))
    let r' := r.put i.d (openRoot (mag2 p)) q
    if nb i.mod 0 then r'.put (i.d + 1) (openB32 (angleQ p)) q else r'
  else if i.op = 0x05 then
    let l := seqPairs (ratPair (r.pair i.a)) (ratPair (r.pair i.b)) (ratPair (r.pair i.c))
    let q := [i.a, i.a + 1, i.b, i.b + 1, i.c, i.c + 1].foldl (fun z j => qJoin z (r.qual j)) 1
    forL ((List.range 3).zip l) (fun x t =>
      (t.put (i.d + 2 * x.1) (openB32 x.2.1) q).put (i.d + 2 * x.1 + 1) (openB32 x.2.2) q) r
  else if i.op = 0x06 then
    let n := if nb i.mod 0 then 3 else 1
    let z := (List.range n).foldl (fun (a : Rat × Rat × Nat) j =>
      let v := ratPair (r.pair (i.a + 2 * j))
      let c := ratPair (r.pair (i.b + 2 * j))
      let q := qJoin (qJoin (r.qual (i.a + 2 * j)) (r.qual (i.a + 2 * j + 1)))
        (qJoin (r.qual (i.b + 2 * j)) (r.qual (i.b + 2 * j + 1)))
      (a.1 + v.1 * c.1 + v.2 * c.2, a.2.1 + v.2 * c.1 - v.1 * c.2, qJoin a.2.2 q)) (0, 0, 1)
    (r.put i.d (openB32 z.1) z.2.2).put (i.d + 1) (openB32 z.2.1) z.2.2
  else if i.op = 0x07 then
    let q := 1 + (k.set.flags &&& 32)
    let d := k.dfdt i.x
    (r.put i.d (openB32 k.set.freq) q).put (i.d + 1) d.1 (if d.2 then q else q - 1)
  else if i.op = 0x08 then
    let b := k.bOp i r
    let z := arithB32 (i.mod % 16) (r.val i.a) b.1
    let q := if 6 ≤ i.mod % 16 then r.qual i.a else qJoin (r.qual i.a) b.2
    r.put i.d z.1 (if z.2 then q else q &&& 0xFE)
  else if i.op = 0x09 then
    let b := k.bOp i r
    r.setFlag k i.d (nb (r.qual i.a) 0 && nb b.2 0 && cmpB32 (i.mod % 4) (r.val i.a) b.1)
  else if 0x10 ≤ i.op ∧ i.op ≤ 0x19 then k.element i r
  else if i.op = 0x20 then
    r.setFlag k i.d (nb (i.e * 256 + i.mod)
      (b2n (r.flag i.x) * 8 + b2n (r.flag i.c) * 4 + b2n (r.flag i.b) * 2 + b2n (r.flag i.a)))
  else if i.op = 0x30 then
    let z := r.rose ix (r.flag i.a)
    if z.2 then { z.1 with ev := z.1.ev ||| 2 ^ (8 + i.mod % 8) } else z.1
  else if i.op = 0x31 then
    let z := r.rose ix (r.flag i.a)
    if z.2 then { z.1 with rec_ := z.1.rec_ ||| 2 ^ (i.mod % 16) } else z.1
  else if i.op = 0x38 then (if r.flag i.a == nb i.mod 0 then { r with skip := i.x } else r)
  else r

/-- Run the program in address order. -/
def Ctx.run (k : Ctx) : List (Nat × PIns) → Run → Run
  | [], r => r
  | (ix, i) :: t, r => if r.skip = 0 then k.run t (k.step1 ix i r) else k.run t { r with skip := r.skip - 1 }

/-! ### Checks at enable and at sealing (R259, R264, R268, R278) -/

/-- Clocks of an instruction. -/
def pClocks (op : Nat) : Nat :=
  if op = 0x00 then 2 else if op = 0x01 then 4 else if op = 0x02 then 40 else if op = 0x03 then 24
  else if op = 0x04 then 16 else if op = 0x05 then 60 else if op = 0x06 then 40 else if op = 0x07 then 8
  else if op = 0x08 then 6 else if op = 0x09 then 6 else if op = 0x10 then 12 else if op = 0x11 then 16
  else if op = 0x12 then 48 else if op = 0x13 then 40 else if op = 0x14 then 48 else if op = 0x15 then 120
  else if op = 0x16 then 24 else if op = 0x17 then 32 else if op = 0x18 then 12 else if op = 0x19 then 6
  else if op = 0x20 then 6 else if op = 0x30 then 8 else if op = 0x31 then 8 else if op = 0x38 then 4
  else if op = 0x3F then 2 else 0

/-- Is an opcode an element's? -/
def isEl (op : Nat) : Bool := decide (0x10 ≤ op) && decide (op ≤ 0x19)

/-- Does a run of `n` signals or flags from `i` stay inside the 256? -/
def fits (i n : Nat) : Bool := decide (i + n ≤ 256)

/-- A pair operand: even and inside. -/
def pairOk (i n : Nat) : Bool := i % 2 == 0 && fits i (2 * n)

/-- Flags from `i` that a program may write. -/
def flagsOk (i n : Nat) : Bool := decide (i + n ≤ 224)

/-- Are the opcode and the operands of instruction `ix` legal in a program of `len` instructions? -/
def insOk (len ix : Nat) (i : PIns) : Bool :=
  let e := i.e == 0xFF
  if i.op = 0x00 ∨ i.op = 0x3F then e
  else if i.op = 0x01 ∨ i.op = 0x03 then e && decide (i.x < 24)
  else if i.op = 0x02 then
    e && decide (i.x < 24) && within 1 25 i.a && (!nb i.mod 0 || i.a % 2 == 1) && fits i.d 2
  else if i.op = 0x04 then e && pairOk i.a 1 && fits i.d (if nb i.mod 0 then 2 else 1)
  else if i.op = 0x05 then e && pairOk i.a 1 && pairOk i.b 1 && pairOk i.c 1 && fits i.d 6
  else if i.op = 0x06 then
    e && pairOk i.a (if nb i.mod 0 then 3 else 1) && pairOk i.b (if nb i.mod 0 then 3 else 1) && fits i.d 2
  else if i.op = 0x07 then e && within 1 16 i.x && fits i.d 2
  else if i.op = 0x08 then e && decide (i.mod % 16 ≤ 8)
  else if i.op = 0x09 then e && flagsOk i.d 1
  else if isEl i.op then
    decide (i.e < 128) && flagsOk i.d (elFlags i.op) &&
    (if i.op = 0x14 then pairOk i.a 1 && pairOk i.b 1
     else if i.op = 0x15 then
       let n := i.mod % 4 + 1
       decide (2 ≤ n) && pairOk i.a n && pairOk i.b n && (i.c == 0xFF || pairOk i.c n)
     else true)
  else if i.op = 0x20 then flagsOk i.d 1
  else if i.op = 0x30 ∨ i.op = 0x31 then e
  else if i.op = 0x38 then e && decide (ix + i.x + 1 < len)
  else false

/-- The first instruction that the enable check refuses, if any: illegal, or an element index used twice. -/
def progBad (prog : List (Nat × PIns)) : Option Nat :=
  let els := prog.filter (fun p => isEl p.2.op)
  (prog.find? (fun p => !insOk prog.length p.1 p.2 ||
    (isEl p.2.op && els.any (fun q => decide (q.1 < p.1) && q.2.e == p.2.e)))).map (·.1)

/-- Is a parameter a value between the binary32 words of two bounds? -/
def parIn (lo hi : Rat) (w : Nat) : Bool :=
  b32.finite w && decide (b32.rat (b32.ofRat lo) ≤ b32.rat w) && decide (b32.rat w ≤ b32.rat (b32.ofRat hi))

/-- An integral parameter between two bounds. -/
def parInt (lo hi : Nat) (w : Nat) : Bool := parIn (lo : Nat) (hi : Nat) w && (b32.rat w).den == 1

/-- The parameters that an element's opcode bounds, with the words that break the bounds left over (R268). -/
def State.elBad (s : State) (g : Nat) (i : PIns) : List Nat :=
  let p := s.par g i.e
  let c (j : Nat) (good : Bool) : List Nat := if good then [] else [j]
  let under := nb i.mod 0
  let inst := c 2 (b32.finite (p 2)) ++ c 3 (if under then parIn (101 / 100) 2 (p 3) else parIn (1 / 2) (99 / 100) (p 3)) ++
    c 4 (parInt 1 8 (p 4))
  c 0 (parInt 0 255 (p 0)) ++ c 1 (parInt 0 255 (p 1)) ++
  (if i.op = 0x10 then inst
   else if i.op = 0x11 then inst ++ c 5 (parIn 0 300 (p 5)) ++ c 6 (parIn 0 60 (p 6))
   else if i.op = 0x12 then
     c 2 (b32.finite (p 2)) ++ c 3 (parIn (1 / 100) 100 (p 3)) ++ c 4 (parInt 0 31 (p 4)) ++
       c 5 (parIn 1 (13 / 10) (p 5)) ++ c 6 (parInt 0 2 (p 6)) ++ c 7 (parIn 0 60 (p 7)) ++ c 8 (parIn 0 10 (p 8)) ++
       c 9 (parIn (13 / 10) 40 (p 9))
   else if i.op = 0x13 then
     c 2 (b32.finite (p 2)) ++ c 3 (parIn (1 / 2) 2 (p 3)) ++ c 4 (parIn 1 30000 (p 4)) ++ c 5 (parIn 1 30000 (p 5)) ++
       c 6 (parIn (1 / 2) 1 (p 6)) ++ c 7 (parIn (4 / 5) (3 / 2) (p 7)) ++ c 8 (parIn (1 / 10) (99 / 100) (p 8)) ++
       c 9 (parIn 0 1 (p 9)) ++ c 10 (parIn (1 / 100) (1 / 5) (p 10))
   else if i.op = 0x14 then
     c 2 (parIn (-180) 180 (p 2)) ++ c 3 (parIn 30 90 (p 3)) ++ c 4 (b32.finite (p 4)) ++ c 5 (b32.finite (p 5)) ++
       c 6 (parIn 0 (1 / 2) (p 6))
   else if i.op = 0x15 then
     c 2 (b32.finite (p 2)) ++ c 3 (parIn (1 / 10) 1 (p 3)) ++ c 4 (b32.finite (p 4)) ++ c 5 (parIn (3 / 10) 2 (p 5)) ++
       c 6 (parIn (1 / 20) (1 / 2) (p 6)) ++ c 7 (parIn (1 / 20) (1 / 2) (p 7)) ++ c 8 (b32.finite (p 8))
   else if i.op = 0x16 then
     c 2 (b32.finite (p 2)) ++ c 3 (parIn 0 1 (p 3)) ++
       c 4 (parIn (1 / 20) 2 (p 4) && decide (b32.rat (p 3) < b32.rat (p 4)))
   else if i.op = 0x17 then
     c 2 (parInt 1 4 (p 2)) ++ c 3 (parIn (1 / 10) 600 (p 3)) ++ c 4 (parIn (1 / 10) 600 (p 4)) ++
       c 5 (parIn (1 / 10) 600 (p 5)) ++ c 6 (parIn (1 / 10) 600 (p 6)) ++ c 7 (parIn 1 600 (p 7)) ++
       c 8 (parIn (1 / 20) 5 (p 8))
   else if i.op = 0x18 then c 2 (parIn 0 3600 (p 2)) ++ c 3 (parIn 0 3600 (p 3))
   else [])

/-- The offset of the first parameter word of a group that the program's opcodes refuse, if any. -/
def State.grpBadPar (s : State) (g : Nat) : Option Nat :=
  ((s.program.filter (fun p => isEl p.2.op)).flatMap (fun p =>
    (s.elBad g p.2).map (fun j => 0x10000 + 0x4000 * g + 0x60 * p.2.e + 4 * j))).min?

/-- Does the CRC-32C of a group area match GRPCRC? -/
def State.grpCrcOk (s : State) (g : Nat) : Bool :=
  crc32c (memBytes s.pre.mem (0x10000 + 0x4000 * g) 0x4000) == s.rd (R.PRE_GRPCRC g)

/-- WCET of the program in clocks (R256). -/
def State.wcet (s : State) : Nat := 600 + s.program.foldl (fun a p => a + pClocks p.2.op) 0

/-- BUDGET in clocks for FMAX and SPC (R256). -/
def budget (fmax spc : Nat) : Nat :=
  if fmax = 0 then 0 else ((400000000 : Rat) * (1 / ((fmax * spc : Nat) : Rat) - 1 / 500000)).floor.toNat

end Sys2Proof.Machine
end

