-- ==== Sys2Proof/Machine/Pre.lean ====
section
/-! DEFINITION. PRE: the engine, the trip outputs, breakers, setting groups and Mantis lanes (R253 to R299). -/
namespace Sys2Proof.Machine

/-! ### The engine -/

abbrev engOff : Nat := 0
abbrev engRun : Nat := 1
abbrev engFault : Nat := 2

def State.engine (s : State) : Nat := s.fld R.PRE_STAT 1 0
def State.preGroup (s : State) : Nat := s.fld R.PRE_STAT 3 2

/-- Change STAT.ENGINE; each change raises ES134 (R258). -/
def State.setEngine (s : State) (e : Nat) : State :=
  if s.engine = e then s else (s.putFld R.PRE_STAT 1 0 e).raise 0x068 3

/-! ### Outputs and breakers (R280, R284, R295) -/

/-- The registers of page 0x069 behind the trip matrix. -/
def outRegs : List Nat :=
  (List.range 8).map R.PRE_TOCFG ++ (List.range 4).map R.PRE_COCFG ++ (List.range 8).map R.PRE_BRKCFG ++
    (List.range 8).map R.PRE_BRKWMIN ++ (List.range 8).map R.PRE_BRKWALM

/-- A register of page 0x069 as it is in force: a commit waits for the next tick while the engine runs, and acts at once while it
does not (R295; DESIGN CHOICE, assumption 143). -/
def State.outReg (s : State) (x : Nat) : Nat := (tabFind s.pre.cfg x).getD (s.rd x)

def State.preOut (s : State) (n : Nat) : PreOut := tabGet {} s.pre.out n
def State.setPreOut (s : State) (n : Nat) (o : PreOut) : State :=
  { s with pre := { s.pre with out := tabSet {} s.pre.out n o } }

/-- Show the conducting outputs: none while the module does not hold primacy (R282). -/
def State.outStat (s : State) : State :=
  let m := (List.range 12).foldl (fun m n => nputb m n ((s.preOut n).act && s.rdn.gates)) 0
  (s.putFld R.PRE_OUTSTAT 11 0 m).putFld R.PRE_OUTSTAT 17 16 (s.fld R.PWR_TSSTAT 1 0)

def State.brk (s : State) (b : Nat) : PreBrk := tabGet {} s.pre.brk b
def State.setBrk (s : State) (b : Nat) (x : PreBrk) : State :=
  { s with pre := { s.pre with brk := tabSet {} s.pre.brk b x } }
def State.brkOn (s : State) (b : Nat) : Bool := nb (s.outReg (R.PRE_BRKCFG b)) 0
def State.brkTrip (s : State) (b : Nat) : Nat := nf (s.outReg (R.PRE_BRKCFG b)) 3 1
def State.brkChans (s : State) (b : Nat) : List Nat :=
  [nf (s.outReg (R.PRE_BRKCFG b)) 12 8, nf (s.outReg (R.PRE_BRKCFG b)) 20 16, nf (s.outReg (R.PRE_BRKCFG b)) 28 24]

/-- Is every sample of the breaker's channels in the last SPC/2 ticks below √2 WMIN in size (R280)? -/
def State.brkLow (s : State) (b : Nat) : Bool :=
  let win := s.pre.hist.take (s.spc / 2)
  let w := b32.rat (s.outReg (R.PRE_BRKWMIN b))
  decide (win.length = s.spc / 2) && win.all (fun t => (s.brkChans b).all (fun x =>
    let p := (t.prim x).1
    decide (p * p < 2 * (w * w))))

/-- Bring breakers up to date with a set: the integrals of running interruptions, and current-low. -/
def State.brkTick (s : State) (t : SampleSet) : State :=
  forN 8 (fun b u =>
    if !u.brkOn b then u
    else
      let x := u.brk b
      let ps := (u.brkChans b).map (fun c => t.prim c)
      let dt := secQ t.delta
      let x := if x.run then { x with
          sums := (x.sums.zip ps).map (fun p => p.1 + p.2.1 * p.2.1 * dt)
          sat := x.sat || ps.any (fun p => nb p.2 1) } else x
      let low := u.brkLow b
      u.setBrk b { x with low := low, lowTick := if low && !x.low then u.ticks else x.lowTick }) s

/-- A set that no engine tick takes brings the breakers up to date: while the engine does not run, they follow the sets as they
arrive (R280, R284). -/
def State.brkFeed (s : State) (t : SampleSet) : State :=
  { s with pre := { s.pre with hist := (t :: s.pre.hist).take 512 } }.brkTick t

/-- TMIN or CPW of an output, in ticks. -/
def State.pulseTicks (s : State) (n : Nat) : Nat :=
  (if n < 8 then nf (s.outReg (R.PRE_TOCFG n)) 15 8 else nf (s.outReg (R.PRE_COCFG (n - 8))) 15 8) * 100000

def State.outOn (s : State) (n : Nat) : Bool :=
  if n < 8 then nb (s.outReg (R.PRE_TOCFG n)) 0 else nb (s.outReg (R.PRE_COCFG (n - 8))) 0

/-- The enabled breakers whose trip output is `n`. -/
def State.tripBrks (s : State) (n : Nat) : List Nat :=
  (List.range 8).filter (fun b => s.brkOn b && s.brkTrip b == n)

/-- The enabled breakers whose close output is `n`. -/
def State.closeBrks (s : State) (n : Nat) : List Nat :=
  (List.range 8).filter (fun b => s.brkOn b && nb (s.outReg (R.PRE_BRKCFG b)) 6 && nf (s.outReg (R.PRE_BRKCFG b)) 5 4 == n)

/-- The engine leaves RUN: nothing is in process, demanded or waiting for the end of a pulse, and the sets not taken go to the
breakers (R258, R284). -/
def State.preLeave (s : State) : State :=
  let outs := (List.range 12).foldl (fun t n => tabMod {} t n (fun o => { o with edge := none })) s.pre.out
  forL s.pre.waiting (fun t u => u.brkFeed t) { s with pre := { s.pre with
    out := outs, demand := 0, waiting := [], latch := none, stopping := false, restart := false, cfg := [] } }

/-- The engine enters FAULT from RUN: no new pulse starts (R258). -/
def State.preFault (s : State) : State :=
  if s.engine = engRun then (s.preLeave.setEngine engFault).raise 0x068 1 else s

/-- The engine is OFF: nothing waits and nothing is demanded. -/
def State.preOff (s : State) : State := (s.preLeave.putFld R.PRE_STAT 5 4 0).setEngine engOff

/-! ### The begin of a tick (R255, R257, R279) -/

/-- Flags B224 to B255 of a tick (R260). -/
def State.engFlags (s : State) (t : SampleSet) (chg : Bool) : Nat :=
  let xin := (List.range 16).foldl (fun m i =>
    let x := s.rd (R.PRE_XIN i)
    let di := nf x 5 0
    nputb m i (nb x 7 && s.diLevelAt di t.inst)) 0
  (xin + s.fld R.PRE_CTLFLAGS 7 0 * 2 ^ 16 + 2 ^ 25 + b2n s.pre.first * 2 ^ 26 + b2n (s.gridStat == 1) * 2 ^ 27 +
    b2n (s.gridStat == 3) * 2 ^ 28 + b2n chg * 2 ^ 29 + b2n (s.rd R.PRE_TCSFLT != 0) * 2 ^ 30) * 2 ^ 224

/-- The group that a tick whose step 1 begins now takes: of the requests in effect the latest, and of those of one tick that
of CYC (R279). -/
def State.grpNext (s : State) : Option Nat :=
  (s.pre.grpReq.filter (fun q => decide (q.2.1 ≤ s.ticks))).foldl (fun (a : Option (Nat × Nat × Bool)) q =>
    match a with
    | some b => if q.2.1 < b.2.1 || (q.2.1 == b.2.1 && b.2.2 && !q.2.2) then some b else some q
    | none => some q) none |>.map (·.1)

/-- An output that is not enabled has no edge that waits. -/
def State.outDrop (s : State) : State :=
  forN 12 (fun n t => if t.outOn n then t else
    if (t.preOut n).edge.isSome then t.setPreOut n { t.preOut n with edge := none } else t) s

/-- Step 1 of R255 for the oldest waiting set: backlog, the group request, the configuration of page 0x069 (R295), and what the
lanes latch. -/
def State.preBegin (s : State) : State :=
  match s.pre.waiting with
  | [] => { s with pre := { s.pre with latch := none } }
  | set :: rest =>
    let backlog := decide (2 ≤ rest.length)
    let s := (s.putBit R.PRE_STAT 4 backlog).putBit R.PRE_STAT 5
      (backlog && decide ((s.fld R.PRE_CTRL 14 8 : Nat) < set.freq))
    let s := if backlog then (s.incSat R.PRE_BACKCNT).raise 0x068 2 else s
    let req := s.grpNext
    let chg := match req with | some g => g != s.preGroup | none => false
    let s := { s with pre := { s.pre with grpReq := s.pre.grpReq.filter (fun q => decide (s.ticks < q.2.1)), cfg := [] } }.outDrop
    let s := if chg then ((s.putFld R.PRE_STAT 3 2 (req.getD 0)).incWrap R.PRE_GRPCNT).raise 0x068 0 else s
    let l : PreLatch := { flags := s.engFlags set chg, tmr := (List.range 32).map (fun r => s.rd (R.PRE_TMR r)) }
    { s with pre := { s.pre with latch := some l } }

/-- A set arrives on the sample bus and its tick begins when none is in process; a fifth waiting set puts the engine in
FAULT (R255, R257). -/
def State.preAccept (s : State) (t : SampleSet) : State :=
  if s.engine ≠ engRun then s.brkFeed { t with due := s.ticks }
  else if s.pre.stopping then { s with pre := { s.pre with waiting := s.pre.waiting ++ [{ t with due := s.ticks }] } }
  else if 5 ≤ s.pre.waiting.length then s.preFault
  else
    let idle := s.pre.waiting.isEmpty
    let s := { s with pre := { s.pre with waiting := s.pre.waiting ++ [{ t with due := s.ticks }] } }
    if idle then s.preBegin else s

/-! ### The wear of breakers (R284) -/

/-- BREAKER_CURRENT_LOW: the largest of the three integrals goes to WEAR, WLAST and LIFE (R284). -/
def execBreakerCurrentLow (dt : Nat) (b : Fin 8) (s : State) : Host.Outcome State Fault Refusal :=
  onMain dt s fun s =>
    let x := s.brk b.val
    if !s.brkOn b.val || !x.run || !x.low then s
    else
      let w := (openInt 4 (x.sums.foldl (fun a v => if a < v then v else a) 0)).toNat
      let old := s.rd64 (R.PRE_WEAR b.val)
      let new := satAdd (2 ^ 64 - 1) old w
      let alm := s.outReg (R.PRE_BRKWALM b.val)
      let above (n : Nat) : Bool := b32.finite alm && decide (b32.rat alm < (n : Nat))
      let s := s.setBrk b.val { x with run := false, sums := [0, 0, 0], sat := false }
      let s := (s.wr64 (R.PRE_WEAR b.val) new).wr (R.PRE_WLAST b.val) (min w 0xFFFFFFFF)
      let s := if x.sat then s.putBit R.PRE_WSAT b.val true else s
      (s.lifeAdd 3 b.val w).raiseIf (above new && !above old) 0x06A 6

/-! ### Mantis lanes (R285) -/

def State.mlane (s : State) (l : Nat) : Nat := s.fld R.PRE_MLSTAT (4 * l + 3) (4 * l)
def State.setMlane (s : State) (l c : Nat) : State := s.putFld R.PRE_MLSTAT (4 * l + 3) (4 * l) c

/-- The active lanes. -/
def State.mactive (s : State) : List Nat := (List.range 3).filter (fun l => s.mlane l == 1)

/-- What the active lanes hold. -/
def State.mheld (s : State) : MLane := tabGet {} s.pre.lanes (s.mactive.headD 0)

/-- Put what lanes hold. -/
def State.mhold (s : State) (ls : List Nat) (x : MLane) : State :=
  forL ls (fun l t => { t with pre := { t.pre with lanes := tabSet {} t.pre.lanes l x } }) s

/-- Resynchronisations of a lane started in the last 3,600 s. -/
def State.mrecent (s : State) (l : Nat) : List Nat :=
  (tabGet [] s.pre.resyncs l).filter (fun t => decide (s.moduleTime < t + 14400000000000))

/-- Show MLRCNT. -/
def State.mcount (s : State) : State :=
  forN 3 (fun l t => t.putFld R.PRE_MLRCNT (4 * l + 3) (4 * l) (min 15 (t.mrecent l).length)) s

/-- A lane differs from two others: the majority takes effect, the lane is reported (R11), and it is resynchronised or
fenced. -/
def State.mminority (s : State) (l kind : Nat) : State :=
  let s := (s.incSatF R.PRE_MLMIS (8 * l + 7) (8 * l)).wr R.PRE_MLLAST (kind * 16 + l)
  let s := (s.raise 0x074 0).replicaErr 0x074
  if 3 ≤ (s.mrecent l).length ∨ !s.bit R.PRE_CTRL 16 then s.setMlane l 4 else s.setMlane l 2

/-- The verdict of a tick: true when the engine goes on. -/
def State.mvote (s : State) (v : MantisVote) : State × Bool :=
  let act := s.mactive
  match v with
  | .agree => (s, true)
  | .nomaj => (s.wr R.PRE_MLLAST 0x33, false)
  | .output l => if !act.contains l.val then (s, true)
    else if act.length = 3 then (s.mminority l.val 1, true) else (s.wr R.PRE_MLLAST 0x13, false)
  | .digest l => if !act.contains l.val then (s, true)
    else if act.length = 3 then (s.mminority l.val 2, true) else (s.wr R.PRE_MLLAST 0x23, false)

/-- After END: a MINORITY lane starts its resynchronisation, and one that runs copies 1 KiB; it rejoins after 34
ticks. -/
def State.mresync (s : State) : State :=
  (forN 3 (fun l t =>
    if t.mlane l = 2 then
      { t with pre := { t.pre with
          resyncs := tabSet [] t.pre.resyncs l (t.moduleTime :: t.mrecent l), left := tabSet 0 t.pre.left l 33 } }.setMlane
        l 3
    else if t.mlane l = 3 then
      let n := tabGet 0 t.pre.left l
      if n = 0 then (t.mhold [l] t.mheld).setMlane l 1 else { t with pre := { t.pre with left := tabSet 0 t.pre.left l (n - 1) } }
    else t) s).mcount

/-! ### What a tick gives (R255) -/

/-- Publish the element registers of a tick (R297, R298). -/
def State.publishEl (s : State) (r : Run) : State :=
  forL r.out.reverse (fun x t =>
    let e := x.1
    let p := tabGet {} r.lane.el e
    let w := e / 32
    let was0 := t.bit (R.PRE_ESTAT w (e % 32)) 0
    let f0 := p.f0w
    let f1 := p.f1w
    let st := b2n f0 + 2 * b2n f1 + 4 * b2n p.f2 + 8 * b2n p.blocked + p.sub * 16 + x.2.1 * 256 + p.shot * 65536
    let t := (t.wr (R.PRE_ESTAT w (e % 32)) st).wr (R.PRE_EVAL w (e % 32)) x.2.2.1
    let t := (t.wr (R.PRE_EVAL2 w (e % 32)) x.2.2.2).wr (R.PRE_ETIME w (e % 32)) (openB32 (b64.rat p.time))
    let t := if f0 && !was0 then t.incWrap (R.PRE_ECNT w (e % 32)) else t
    ((t.putBit (R.PRE_EF1W w) (e % 32) f1).putBit (R.PRE_EF0W w) (e % 32) f0).putBit (R.PRE_EBLKW w) (e % 32)
      p.blocked) s

/-- What a tick's requests do at issue (R255 step 2, R285): program events, lines to DRC, the demand, and its rising edges, with
`tmr` the latched matrix.  An edge while a pulse of the output runs, or while it is not enabled, starts nothing (R280). -/
def State.issue (s : State) (r : Run) (tmr : List Nat) (set : SampleSet) : State :=
  let s := forN 8 (fun b t => if nb r.ev (8 + b) then t.raise 0x06B (8 + b) else t) s
  let s := { s with pre := { s.pre with demand := r.demand } }
  let s := if r.rec_ = 0 then s
    else { s with pre := { s.pre with rec_ := s.pre.rec_ ||| r.rec_, recTick := s.ticks } }
  forN 12 (fun n t =>
    if !nb r.rise n || !t.outOn n || (t.preOut n).act then t
    else
      let rows := forL (tmr.zip (List.range 32)) (fun x m => nputb m x.2 (nb (tmRow r.lane.flags x.1) n)) 0
      { t with pre := { t.pre with
          out := tabMod {} t.pre.out n (fun o => { o with edge := some (rows, set.inst, set.num) }) } }) s

/-- Publish the results of a tick (R255 step 3): the active lanes' signals, flags and elements, and the events of elements. -/
def State.publish (s : State) (r : Run) : State :=
  let s := forN 256 (fun i t =>
    let v := tabGet (0, 0) r.lane.sig i
    (t.wr (R.PRE_SVAL (i / 64) (i % 64)) v.1).wr (R.PRE_SQUAL (i / 64) (i % 64)) v.2) s
  let s := forN 8 (fun w t => t.wr (R.PRE_FLAGW w) (r.lane.flags / 2 ^ (32 * w))) s
  let s := s.publishEl r
  let s := forN 8 (fun b t => if nb r.ev b then t.raise 0x06B b else t) s
  let s := s.mhold s.mactive r.lane
  { s with pre := { s.pre with endInst := s.moduleTime } }

/-- What the page shows of PRE for CYC (R287): data, quality and stamp of an item. -/
def State.preSrc (s : State) (e : MapEnt) : List Nat × Nat × Nat :=
  let eng := s.engine
  let q := qual (eng == engRun) false false (eng == engFault)
  let tp := s.pre.endInst
  if e.item = 0 then
    ((List.range 64).map (fun i =>
      let nib (k : Nat) := s.rd (R.PRE_ESTAT (k / 32) (k % 32)) % 16
      nib (2 * i) + 16 * nib (2 * i + 1)), q, tp)
  else if e.item = 1 then (bytesOf 4 (s.rd R.PRE_OUTSTAT) ++ bytesOf 4 (s.rd R.PRE_STAT), q, tp)
  else if e.item = 2 then ((List.range 8).flatMap (fun w => bytesOf 4 (s.rd (R.PRE_FLAGW w))), q, tp)
  else
    let k := e.item - 0x100
    let z := s.rd (R.PRE_SQUAL (k / 64) (k % 64))
    (bytesOf 4 (s.rd (R.PRE_SVAL (k / 64) (k % 64))),
      qual (eng == engRun && nb z 0) (nb z 1) (nb z 4) (eng == engFault || nb z 2), tp)

/-! ### Trip and close pulses (R280, R281) -/

/-- A pulse starts: counted, raised and recorded (R280). -/
def State.pulseStart (s : State) (n rows inst num : Nat) (test : Bool) : State :=
  let o := s.preOut n
  let s := s.setPreOut n { o with act := true, start := s.ticks, test := test, edge := none }
  let trip := decide (n < 8)
  let k := if trip then n else n - 8
  let s := if trip then (s.incSat (R.PRE_TRIPCNT k)).raise 0x06A 0 else (s.incSat (R.PRE_CLOSECNT k)).raise 0x06A 1
  let s := s.lifeAdd 2 ((if trip then 0x200 else 0x280) + k) 1
  let s := s.enter 0x0B 0 (if trip then 1 else 2) 3 (s.hwOrigin 0x068) inst [k, rows, num % 2 ^ 32, num / 2 ^ 32]
  s.outStat

/-- A pulse ends. -/
def State.pulseEnd (s : State) (n : Nat) : State :=
  (s.setPreOut n { s.preOut n with act := false, test := false, ended := s.ticks + 1 }).outStat

/-- A close pulse ends before its time; what its peak was is open. -/
def State.closeCut (s : State) (c : Nat) : State :=
  if (s.preOut c).act then ((s.pulseEnd c).draw 16).2.wr (R.PRE_CPEAK (c - 8)) ((s.pulseEnd c).draw 16).1 else s

/-- A trip pulse starts: the interruption of its breaker is measured from its first pulse on, and a running close pulse of the
breaker ends at once (R281, R284). -/
def State.tripGo (s : State) (n rows inst num : Nat) (test : Bool) : State :=
  forL (s.tripBrks n) (fun b t =>
    let x := t.brk b
    let t := if x.run then t else t.setBrk b { x with run := true, sums := [0, 0, 0], sat := false }
    if nb (t.outReg (R.PRE_BRKCFG b)) 6 then t.closeCut (8 + nf (t.outReg (R.PRE_BRKCFG b)) 5 4) else t)
    (s.pulseStart n rows inst num test)

/-- Start the pulse of a trip output whose edge waits: 20 ms after the end of the last one at the earliest (R280). -/
def State.tripStart (s : State) (n : Nat) : State :=
  let o := s.preOut n
  match o.edge with
  | none => s
  | some (rows, inst, num) =>
    if s.engine ≠ engRun ∨ !s.outOn n ∨ o.act then s
    else if o.ended ≠ 0 ∧ s.ticks + 1 < o.ended + 2000000 then s
    else s.tripGo n rows inst num false

/-- TRIP_PULSE_START: a rising demand starts a pulse, 20 ms after the last one at the earliest; a running close pulse
of the breaker ends at once. -/
def execTripPulseStart (dt : Nat) (n : Fin 8) (s : State) : Host.Outcome State Fault Refusal :=
  onMain dt s fun s => s.tripStart n.val

/-- TRIP_PULSE_END: at 200 ms, or at TMIN or later with the demand gone or the breaker current-low for 20 ms. -/
def execTripPulseEnd (dt : Nat) (n : Fin 8) (peak : BitVec 16) (s : State) : Host.Outcome State Fault Refusal :=
  onMain dt s fun s =>
    let o := s.preOut n.val
    let age := s.ticks - o.start
    let late := decide (20000000 ≤ age)
    let min_ := decide (s.pulseTicks n.val ≤ age)
    let low := (s.tripBrks n.val).any (fun b => (s.brk b).low && decide ((s.brk b).lowTick + 2000000 ≤ s.ticks))
    if !o.act then s
    else if o.test then (if min_ then (s.pulseEnd n.val).wr (R.PRE_TPEAK n.val) peak.toNat else s)
    else if late then
      (((s.pulseEnd n.val).wr (R.PRE_TPEAK n.val) peak.toNat).putBit R.PRE_TLIM n.val true).raise 0x06A 5
    else if min_ && (!nb s.pre.demand n.val || low) then (s.pulseEnd n.val).wr (R.PRE_TPEAK n.val) peak.toNat
    else s

/-- Start the pulse of a close output whose edge waits, unless the breaker's trip output is demanded or conducting (R281). -/
def State.closeStart (s : State) (n : Nat) : State :=
  let k := 8 + n
  let o := s.preOut k
  match o.edge with
  | none => s
  | some (rows, inst, num) =>
    if s.engine ≠ engRun ∨ !s.outOn k ∨ o.act then s
    else if (s.closeBrks n).any (fun b => nb s.pre.demand (s.brkTrip b) || (s.preOut (s.brkTrip b)).act) then
      (s.setPreOut k { o with edge := none }).incSat R.PRE_CLINTLK
    else s.pulseStart k rows inst num false

/-- The pulses whose edges wait start, trips first (R281). -/
def State.pulsesStart (s : State) : State := forN 4 (fun n t => t.closeStart n) (forN 8 (fun n t => t.tripStart n) s)

/-- CLOSE_PULSE_START: a rising close demand, suppressed while the breaker's trip output is demanded or conducting
(R281). -/
def execClosePulseStart (dt : Nat) (n : Fin 4) (s : State) : Host.Outcome State Fault Refusal :=
  onMain dt s fun s => s.closeStart n.val

/-- CLOSE_PULSE_END: after CPW. -/
def execClosePulseEnd (dt : Nat) (n : Fin 4) (peak : BitVec 16) (s : State) : Host.Outcome State Fault Refusal :=
  onMain dt s fun s =>
    let o := s.preOut (8 + n.val)
    if o.act && decide (o.start + s.pulseTicks (8 + n.val) ≤ s.ticks) then
      (s.pulseEnd (8 + n.val)).wr (R.PRE_CPEAK n.val) peak.toNat
    else s

/-! ### Supervision of the drivers (R283) -/

/-- The bit of output `n` in the masks of page 0x06A. -/
abbrev outBit (n : Nat) : Nat := n

/-- TCSFLT: the supervision current has stayed below 0.4 mA for TCSDLY, or flows again. -/
def execTcsflt (dt : Nat) (n : Fin 12) (on : Bool) (s : State) : Host.Outcome State Fault Refusal :=
  onMain dt s fun s =>
    let en := if n.val < 8 then nb (s.outReg (R.PRE_TOCFG n.val)) 16 else nb (s.outReg (R.PRE_COCFG (n.val - 8))) 16
    if on then
      if en && !(s.preOut n.val).act then (s.putBit R.PRE_TCSFLT n.val true).raise 0x06A 2 else s
    else s.putBit R.PRE_TCSFLT n.val false

/-- DRVFLT: current flows through an off driver for 10 ms, or no longer. -/
def execDrvflt (dt : Nat) (n : Fin 12) (on : Bool) (s : State) : Host.Outcome State Fault Refusal :=
  onMain dt s fun s =>
    if on then
      if (s.preOut n.val).act && s.rdn.gates then s else ((s.putBit R.PRE_DRVFLT n.val true).raise 0x06A 3).replicaErr 0x06A
    else s.putBit R.PRE_DRVFLT n.val false

/-- TFAIL: less than 100 mA flows 2 ms after a pulse start. -/
def execTfail (dt : Nat) (n : Fin 12) (s : State) : Host.Outcome State Fault Refusal :=
  onMain dt s fun s =>
    let o := s.preOut n.val
    if o.act && decide (o.start + 200000 ≤ s.ticks) then (s.putBit R.PRE_TFAIL n.val true).raise 0x06A 4 else s

/-! ### Setting groups (R278) -/

/-- GRPCMD_SEAL: the check of a group starts, behind those that run; it is done within 2 ms. -/
def execGrpcmdSeal (dt : Nat) (who : Init) (v : Word) (s : State) : Host.Outcome State Fault Refusal :=
  onMain dt s fun s => s.cmdW who 0x075 0xC00 fun n s => s.keyed 0x075 0xC00 n 0x5E17 v fun s =>
    if nf v.toNat 1 0 = 1 then { s with pre := { s.pre with sealing := s.pre.sealing ++ [nf v.toNat 5 4] } } else s

/-- GROUP_SEAL_DONE: the group's CRC and every parameter hold, so the seal bit is set; else GROUP_INVALID names the
first failing word (a failed CRC names none: the address is open). -/
def execGroupSealDone (dt : Nat) (s : State) : Host.Outcome State Fault Refusal :=
  onMain dt s fun s =>
    match s.pre.sealing with
    | [] => s
    | g :: rest =>
      let s := { s with pre := { s.pre with sealing := rest } }
      let part := (s.owner 0x068).getD 0
      match s.grpBadPar g with
      | some o => s.errAt 0x075 part 0x0105 (0x41200000 + o)
      | none =>
        if s.grpCrcOk g then s.putBit R.PRE_GRPSEAL g true
        else (s.draw 32).2.errAt 0x075 part 0x0105 (s.draw 32).1

/-- GRPCMD_UNSEAL: clear the seal bit, but not of the group in use while the engine runs. -/
def execGrpcmdUnseal (dt : Nat) (who : Init) (v : Word) (s : State) : Host.Outcome State Fault Refusal :=
  onMain dt s fun s => s.cmdW who 0x075 0xC00 fun n s => s.keyed 0x075 0xC00 n 0x5E17 v fun s =>
    let g := nf v.toNat 5 4
    if nf v.toNat 1 0 ≠ 2 then s
    else if s.engine = engRun ∧ g = s.preGroup then s.err 0x075 n eBadValue R.PRE_GRPCMD
    else s.putBit R.PRE_GRPSEAL g false

/-! ### Commands -/

/-- OUTTEST: one test pulse while the engine is OFF (R296). -/
def execOuttest (dt : Nat) (who : Init) (v : Word) (s : State) : Host.Outcome State Fault Refusal :=
  onMain dt s fun s => s.cmdW who 0x06A 0xC00 fun p s => s.keyed 0x06A 0xC00 p 0x7C1D v fun s =>
    let n := nf v.toNat 3 0
    if s.engine ≠ engOff ∨ 11 < n then s.err 0x06A p eBadValue R.PRE_OUTTEST
    else if (s.preOut n).act then s
    else if n < 8 then s.tripGo n 0 s.moduleTime (s.rd64 R.PRE_TICK) true
    else s.pulseStart n 0 s.moduleTime (s.rd64 R.PRE_TICK) true

/-- PRE_CNTCLR: clear LATMAX and BACKCNT (R294). -/
def execPreCntclr (dt : Nat) (who : Init) (v : Word) (s : State) : Host.Outcome State Fault Refusal :=
  onMain dt s fun s => s.cmdW who 0x068 0xC00 fun _ => onOne v fun s => s.zero [R.PRE_LATMAX, R.PRE_BACKCNT]

/-- PRE_OUT_CNTCLR: clear TFAIL, TLIM, CLINTLK, TRIPCNT and CLOSECNT (R296). -/
def execPreOutCntclr (dt : Nat) (who : Init) (v : Word) (s : State) : Host.Outcome State Fault Refusal :=
  onMain dt s fun s => s.cmdW who 0x06A 0xC04 fun _ => onOne v fun s =>
    s.zero ([R.PRE_TFAIL, R.PRE_TLIM, R.PRE_CLINTLK] ++ (List.range 8).map (fun n => R.PRE_TRIPCNT n) ++
      (List.range 4).map (fun n => R.PRE_CLOSECNT n))

/-- WEARCLR: clear WEAR, WLAST and WSAT of a breaker (R296). -/
def execWearclr (dt : Nat) (who : Init) (v : Word) (s : State) : Host.Outcome State Fault Refusal :=
  onMain dt s fun s => s.cmdW who 0x06A 0xC08 fun p s => s.keyed 0x06A 0xC08 p 0x3E9A v fun s =>
    let b := nf v.toNat 2 0
    ((s.wr64 (R.PRE_WEAR b) 0).wr (R.PRE_WLAST b) 0).putBit R.PRE_WSAT b false

/-- MLCMD: fence a Mantis lane, unless fewer than two active lanes would remain (R285, R299). -/
def execMlcmd (dt : Nat) (who : Init) (v : Word) (s : State) : Host.Outcome State Fault Refusal :=
  onMain dt s fun s => s.cmdW who 0x074 0xC00 fun p s => s.keyed 0x074 0xC00 p 0xB4D1 v fun s =>
    let l := nf v.toNat 5 4
    if nf v.toNat 3 0 ≠ 1 ∨ 2 < l ∨ (s.mactive.filter (fun x => x != l)).length < 2 then
      s.err 0x074 p eBadValue R.PRE_MLCMD
    else if s.mlane l = 4 then s
    else (s.setMlane l 4).raise 0x074 0

/-- May the owner write PRE memory at an offset (R254)? -/
def State.preMemOpen (s : State) (o : Nat) : Bool :=
  if o < 0x10000 then s.engine == engOff
  else if o < 0x20000 then !s.bit R.PRE_GRPSEAL ((o - 0x10000) / 0x4000)
  else decide (o < 0x30000) && s.engine == engOff

/-- PRE_MEMORY_WRITE: the owner's write takes effect, or is ignored with PROG_BUSY (R254); a misaligned one faults
(assumption 94). -/
def execPreMemoryWrite (dt : Nat) (who : Init) (o : Fin 262144) (b : List Byte) (s : State) :
    Host.Outcome State Fault Refusal :=
  guarded (Instr.preMemoryWrite dt who o b).wf dt s (onMain dt s fun s =>
    if !s.live who then s
    else
      let ok := match s.partOf who with
        | some n => s.owns n 0x068 && !s.inDsec n
        | none => who == .boot
      if !ok || o.val % b.length != 0 then s.busFault who (0x41200000 + o.val)
      else if s.preMemOpen o.val then
        { s with resp := .done, pre := { s.pre with mem := memPut s.pre.mem o.val (b.map BitVec.toNat) } }
      else { s.errAt 0x068 (s.partNo who) 0x0101 (0x41200000 + o.val) with resp := .done })

/-- PRE_MEMORY_UE: an uncorrectable error in the program, the curves or the active group puts the engine in FAULT; in
an inactive group it takes the seal (R254). -/
def execPreMemoryUe (dt : Nat) (o : Fin 196608) (s : State) : Host.Outcome State Fault Refusal :=
  onMain dt s fun s =>
    if 0x10000 ≤ o.val ∧ o.val < 0x20000 then
      let g := (o.val - 0x10000) / 0x4000
      if s.engine = engRun ∧ g = s.preGroup then s.preFault else s.putBit R.PRE_GRPSEAL g false
    else s.preFault

/-! ### Commits (R258, R259, R279, R295) -/

/-- The lanes that are not fenced. -/
def State.mfree (s : State) : Nat := ((List.range 3).filter (fun l => s.mlane l != 4)).length

/-- The check of a commit that enables the engine, in the order of R259. -/
def State.enableCheck (s : State) (g : List Nat) : Verdict :=
  let prog := s.program
  let els := (prog.filter (fun p => isEl p.2.op)).length
  let meas := (prog.filter (fun p => p.2.op == 2 || p.2.op == 3)).length
  let grp := s.shFld R.PRE_ACTGRP 1 0
  let pad := s.eff g R.PAD_CTRL
  let spc := if nb pad 7 then 512 else 256
  if 128 < els then .table 0x03
  else if 128 < meas then .table 0x10
  else if prog = [] then .codedOpen 0x0102
  else match progBad prog with
  | some i => .codedAt 0x0102 i
  | none =>
    if crc32c (memBytes s.pre.mem 0 (8 * prog.length)) ≠ s.rd R.PRE_PROGCRC then .codedOpen 0x0102
    else if budget (s.shFld R.PRE_CTRL 14 8) spc < s.wcet then .coded 0x0103
    else if !nb pad 0 ∨ nf pad 3 2 = 0 then .coded 0x0104
    else if !s.bit R.PRE_GRPSEAL grp then .coded 0x0106
    else match (List.range 4).find? (fun g => s.bit R.PRE_GRPSEAL g && (!s.grpCrcOk g || (s.grpBadPar g).isSome)) with
    | some g => if !s.grpCrcOk g then .codedOpen 0x0105 else .codedAt 0x0105 (0x41200000 + (s.grpBadPar g).getD 0)
    | none => if s.mfree < 2 then .coded 0x0107 else .ok

/-- The check of a PRE page. -/
def State.preCheck (s : State) (g : List Nat) (p : Nat) : Verdict :=
  if p = 0x068 then
    let v := if s.shBit R.PRE_CTRL 0 && !s.bit R.PRE_CTRL 0 then s.enableCheck g else .ok
    firstVerdict v (rangeIf (within 10 70 (s.shFld R.PRE_CTRL 14 8) && s.bit R.PRE_GRPSEAL (s.shFld R.PRE_ACTGRP 1 0)))
  else if p = 0x069 then
    rangeIf ((List.range 8).all (fun n => within 20 200 (s.shFld (R.PRE_TOCFG n) 15 8) &&
        within 1 100 (s.shFld (R.PRE_TOCFG n) 27 20)) &&
      (List.range 4).all (fun n => within 20 200 (s.shFld (R.PRE_COCFG n) 15 8) &&
        within 1 100 (s.shFld (R.PRE_COCFG n) 27 20)) &&
      (List.range 8).all (fun b => !s.shBit (R.PRE_BRKCFG b) 0 || (List.range b).all (fun c =>
        !s.shBit (R.PRE_BRKCFG c) 0 || s.shFld (R.PRE_BRKCFG c) 3 1 != s.shFld (R.PRE_BRKCFG b) 3 1)))
  else if p = 0x06B then rangeIf ((List.range 16).all (fun i => decide (s.shFld (R.PRE_XIN i) 5 0 < 48)))
  else .ok

/-- The elements at enable: times and integrators 0, θ at THINIT, RECL in LOCKOUT (R268). -/
def State.elInit (s : State) (g : Nat) : Tab PreEl :=
  (s.program.filter (fun p => isEl p.2.op)).foldl (fun t p =>
    tabSet {} t p.2.e (if p.2.op = 0x13 then { x := openB64 (s.parQ g p.2.e 9) }
      else if p.2.op = 0x17 then { pick := true } else {})) []

/-- The element registers begin anew: all but ECNT, which counts on (R268, R297, R298). -/
def State.elClear (s : State) : State :=
  { s with regs := s.regs.filter (fun e =>
      !(within 0x06C040 0x06FFFF e.1 && decide (e.1 % 4096 < 0x440) && decide (0x040 ≤ e.1 % 4096) && e.1 % 0x20 != 0x10)) }.zero
    ((List.range 4).flatMap (fun w => [R.PRE_EF1W w, R.PRE_EF0W w, R.PRE_EBLKW w]))

/-- The engine starts: WCET, BUDGET, USAGE, elements and flags (R256, R258). -/
def State.preEnable (s : State) : State :=
  let prog := s.program
  let grp := s.fld R.PRE_ACTGRP 1 0
  let els := (prog.filter (fun p => isEl p.2.op)).length
  let meas := (prog.filter (fun p => p.2.op == 2 || p.2.op == 3)).length
  let s := { s with pre := { s.pre with
    waiting := [], latch := none, stopping := false, restart := false, since := 0, freqs := [], first := true, grpReq := []
    demand := 0, cfg := [], out := s.pre.out.map (fun (e : Nat × PreOut) => (e.1, { e.2 with edge := none })) } }
  let s := (s.elClear.zero ((List.range 8).map R.PRE_FLAGW)).mhold
    ((List.range 3).filter (fun l => s.mlane l != 4)) { el := s.elInit grp }
  let s := ((s.wr R.PRE_WCET s.wcet).wr R.PRE_BUDGET (budget (s.fld R.PRE_CTRL 14 8) s.spc)).wr R.PRE_USAGE
    (els + meas * 256 + prog.length * 65536)
  ((s.wr R.PRE_PROGLEN prog.length).putFld R.PRE_STAT 5 2 grp).setEngine engRun

/-- The engine stops: CTRL.EN = 0.  In RUN the tick in process completes first, and an enabling commit that comes before it has
completed takes effect after it (R258). -/
def State.preDisable (s : State) : State :=
  if s.engine = engRun ∧ s.pre.latch.isSome then
    { s with pre := { s.pre with stopping := true } }
  else s.preOff

/-! ### The engine tick (R255) -/

/-- The end of a tick after CTRL.EN = 0, or of one that put the engine in FAULT meanwhile (R258). -/
def State.preStop (s : State) : State :=
  if !s.pre.stopping then s else if s.pre.restart then s.preOff.preEnable else s.preOff

/-- The engine tick ends: the set in process is run and voted, the results are published, and the next waiting set begins
(R255, R257, R258, R285).  A tick that is the last one, and one whose digests differ, has had the effect of its requests at
issue, pulses among them. -/
def State.engineTick (s : State) (vote : MantisVote) : State :=
  match s.pre.waiting, s.pre.latch with
  | set :: rest, some latch =>
    if s.engine ≠ engRun then s
    else
      let hist := (set :: s.pre.hist).take 512
      let since := min 512 (s.pre.since + 1)
      let freqs := ((set.freq, set.delta) :: s.pre.freqs).take 8193
      let s := { s with pre := { s.pre with waiting := rest, latch := none, hist := hist, since := since, freqs := freqs } }
      let s := s.brkTick set
      let held := s.mheld
      let flags := held.flags % 2 ^ 224 + latch.flags
      let d := tmDemand latch.tmr flags
      let k : Ctx := { s := s, g := s.preGroup, tmr := latch.tmr, set := set, hist := hist.take since, freqs := freqs }
      let r := k.run s.program
        { lane := { held with sig := [], flags := flags }, demand := d
          rise := d &&& (s.pre.demand ^^^ 0xFFF), ev := 0, rec_ := 0, skip := 0, out := [] }
      let v := s.mvote vote
      if !v.2 then
        let s := match vote with
          | .digest _ => (v.1.issue r latch.tmr set).pulsesStart
          | _ => v.1
        let stop := s.pre.stopping
        let again := s.pre.restart
        let s := s.preFault
        if stop then { s with pre := { s.pre with stopping := true, restart := again } }.preStop else s
      else
        let s := (v.1.issue r latch.tmr set).publish r
        let s := { s with pre := { s.pre with first := false } }.wr64 R.PRE_TICK set.num
        let s := s.wr R.PRE_LATMAX (max (s.rd R.PRE_LATMAX) (s.ticks - set.due))
        let s := s.mresync.srcReport (fun e => e.kind == 0x07) State.preSrc
        if s.pre.stopping then s.pulsesStart.preStop else s.preBegin
  | _, _ => s

/-- What a PRE page does when its shadows became active. -/
def State.preApplied (s old : State) (p : Nat) : State :=
  if p = 0x068 then
    let on := s.bit R.PRE_CTRL 0
    if s.pre.stopping then { s with pre := { s.pre with restart := on } }
    else if on && s.engine == engOff then s.preEnable
    else if !on && s.engine != engOff then s.preDisable
    else if s.rd R.PRE_ACTGRP ≠ old.rd R.PRE_ACTGRP then
      { s with pre := { s.pre with grpReq := s.pre.grpReq ++ [(s.fld R.PRE_ACTGRP 1 0, s.ticks, false)] } }
    else s
  else if p = 0x069 then
    if s.engine = engRun then
      { s with pre := { s.pre with cfg := forL outRegs (fun x t =>
          if s.rd x = old.rd x ∨ (tabFind t x).isSome then t else tabIns t x (old.rd x)) s.pre.cfg } }
    else s.outDrop
  else s

/-- A partition reset of the owner, or a module reset: outputs off and OFF (R258). -/
def State.preReset (s : State) : State :=
  { s with pre := { mem := s.pre.mem, resyncs := s.pre.resyncs, left := s.pre.left } }

end Sys2Proof.Machine
end

