-- ==== Sys2Proof/Machine/Drc.lean ====
section
/-! DEFINITION. DRC: frames, triggers, records, the archive and COMTRADE export (R300 to R317); the delivery of a sample
set and the engine tick, which write and complete a frame. -/
namespace Sys2Proof.Machine

/-! ### State and slots -/

abbrev drcOff : Nat := 0
abbrev drcArmed : Nat := 1
abbrev drcPost : Nat := 2
abbrev drcBlocked : Nat := 3

/-- Frames in the ring, and the offset of the ring in DRAM (R19, R300). -/
abbrev ringFrames : Nat := 524288
abbrev ringBase : Nat := 0xDC000000
abbrev frameAt (f : Nat) : Nat := ringBase + 128 * (f % ringFrames)

def State.drcState (s : State) : Nat := s.fld R.DRC_STAT 1 0
def State.slot (s : State) (i : Nat) : DrcSlot := tabGet {} s.drc.slots i
def State.heldSlots (s : State) : List Nat := (List.range 16).filter (fun i => (s.slot i).st != 0)
def State.drcOwner (s : State) : Nat := (s.owner 0x080).getD 0

/-- Replace a slot; STAT shows the slots held. -/
def State.setSlot (s : State) (i : Nat) (d : DrcSlot) : State :=
  let s := { s with drc := { s.drc with slots := tabSet {} s.drc.slots i d } }
  s.putFld R.DRC_STAT 8 4 s.heldSlots.length

/-- The slot of the OPEN record. -/
def State.openSlot (s : State) : Option Nat := (List.range 16).find? (fun i => (s.slot i).st == 1)

/-- DINFO of a descriptor (R317). -/
def DrcSlot.info (d : DrcSlot) : Nat :=
  d.st + d.code * 2 ^ 8 + b2n d.multi * 2 ^ 16 + b2n d.preshort * 2 ^ 17 + b2n d.clip * 2 ^ 18 + b2n d.trunc * 2 ^ 19 +
    b2n d.cut * 2 ^ 20 + d.ext * 2 ^ 24

/-- The next frame would overwrite a frame of a held descriptor (R305). -/
def State.drcHeld (s : State) : Bool :=
  s.heldSlots.any (fun i => decide ((s.slot i).first + ringFrames ≤ s.drc.frames))

/-- Held frames were released: a BLOCKED ring is ARMED again, and its next frame carries GAP. -/
def State.drcUnblock (s : State) : State :=
  if s.drcState = drcBlocked ∧ !s.drcHeld then
    { s with drc := { s.drc with gap := true, floor := s.drc.frames, run := s.drc.frames } }.putFld R.DRC_STAT 1 0
      drcArmed
  else s

/-- Free a slot; a failed copy of it is forgotten. -/
def State.freeSlot (s : State) (i : Nat) : State :=
  let s := s.setSlot i {}
  (if s.drc.failed = some i then { s with drc := { s.drc with failed := none } } else s).drcUnblock

/-- A trigger is lost. -/
def State.drcLost (s : State) (fault : Bool) : State := (s.incSat R.DRC_TRGLOST).raiseIf fault 0x080 1

/-! ### Traces (R301) -/

/-- Kind and index of trace `j` in TRSEL words. -/
def selKind (sel : List Nat) (j : Nat) : Nat := nf (sel.getD (j / 2) 0) (16 * (j % 2) + 11) (16 * (j % 2) + 8)
def selIdx (sel : List Nat) (j : Nat) : Nat := nf (sel.getD (j / 2) 0) (16 * (j % 2) + 7) (16 * (j % 2))

/-- The TRSEL words in force. -/
def State.trSel (s : State) : List Nat := (List.range 64).map (fun k => s.rd (R.DRC_TRSEL k))

/-- The published PRE flags. -/
def State.preFlags (s : State) : Nat := (List.range 8).foldl (fun m w => m + s.rd (R.PRE_FLAGW w) * 2 ^ (32 * w)) 0

/-- The value of trace `j` for a set, under TRSEL words. -/
def State.trace (s : State) (set : SampleSet) (sel : List Nat) (j : Nat) : Bool :=
  let i := selIdx sel j
  match selKind sel j with
  | 1 => nb set.trDi i
  | 2 => nb s.preFlags i
  | 3 => nb set.trPre i
  | 4 => nb set.trSfn i
  | 5 => nb set.trDo i
  | _ => false

/-- The configuration a frame is written under: a commit changes it from the first frame after it (R317). -/
def State.drcCfg (s : State) : DrcCfg where
  sel := s.trSel
  rise := (List.range 4).foldl (fun m w => m + s.rd (R.DRC_TRRISE w) * 2 ^ (32 * w)) 0
  fall := (List.range 4).foldl (fun m w => m + s.rd (R.DRC_TRFALL w) * 2 ^ (32 * w)) 0
  gen := s.rd R.DRC_TRGEN
  pre := s.fld R.DRC_PRECYC 9 0
  post := s.fld R.DRC_POSTCYC 10 0
  lim := s.fld R.DRC_LIMCYC 10 0
  retrig := s.bit R.DRC_CTRL 1
  spc := s.spc
  floor := s.drc.floor
  run := s.drc.run

/-- Codes of the enabled edges from the traces of the frame before to the traces `new` of a tick, of the traces whose kind
is, or is not, PRE flags; none at the first frame after arming or a gap (R302). -/
def State.trEdges (s : State) (t : DrcTick) (new : Nat) (pre : Bool) : List Nat :=
  match s.drc.recent.find? (fun e => t.frame.isSome && e.frame.map (· + 1) == t.frame) with
  | none => []
  | some e =>
    if t.frame.getD 0 ≤ t.cfg.run then []
    else ((List.range 128).filter (fun j => (selKind t.cfg.sel j == 2) == pre && nb e.tr j != nb new j &&
      nb (if nb new j then t.cfg.rise else t.cfg.fall) j)).map (· + 0x20)

/-- Note trigger sources of a tick; ticks stay in set order. -/
def State.addTrig (s : State) (t : DrcTick) (codes : List Nat) : State :=
  if codes = [] then s
  else
    let l := s.drc.trig
    let l := if l.any (fun e => e.tick.set == t.set) then
        l.map (fun e => if e.tick.set = t.set then { e with codes := e.codes ++ codes } else e)
      else l.takeWhile (fun e => decide (e.tick.set < t.set)) ++
        { tick := t, codes := codes } :: l.dropWhile (fun e => decide (e.tick.set < t.set))
    { s with drc := { s.drc with trig := l } }

/-- Code and MULTI of the one trigger that the sources of a tick form (R302). -/
def DrcTrig.code (e : DrcTrig) : Nat := e.codes.foldl min 255
def DrcTrig.multi (e : DrcTrig) : Bool := decide (1 < e.codes.length)

/-- Sources other than traces at the tick of a set: TRGNOW and the strobe line (R302). -/
def State.trOther (s : State) (set : SampleSet) : State × List Nat :=
  let l := (s.strobes (s.fld R.DRC_TRGEN 29 24)).filter (fun o => decide (s.drc.strobes < o.count) && decide (o.ph ≤ set.phase))
  ({ s with drc := { s.drc with
      now := s.drc.now.filter (fun t => decide (set.phase < t))
      strobes := l.foldl (fun m o => max m o.count) s.drc.strobes } },
    (if s.drc.now.any (fun t => decide (t ≤ set.phase)) && s.bit R.DRC_TRGEN 17 then [0] else []) ++
      (if !l.isEmpty && s.bit R.DRC_TRGEN 16 then [0xA0] else []))

/-! ### Records (R303 to R307) -/

/-- Write the number of a record into the older slot of the numbering block, with its CRC-32C (R307, assumption 145). -/
def State.drcNumber (s : State) (num : Nat) : State :=
  let b := bytesOf 4 num
  { s with drc := { s.drc with nums := tabSet [] s.drc.nums (num % 2) (b ++ bytesOf 4 (crc32c b)) } }

/-- The number that a slot of the numbering block holds, when its CRC is right. -/
def numSlot (b : List Nat) : Option Nat :=
  if b.length = 8 ∧ fromBytes (b.drop 4) = crc32c (b.take 4) then some (fromBytes (b.take 4)) else none

/-- The longest record in frames, and whether 262,144 frames is what limits it (R304). -/
def DrcCfg.limit (c : DrcCfg) : Nat × Bool :=
  if 262144 < c.lim * c.spc then (262144, true) else (c.lim * c.spc, false)

/-- Open a record for a trigger in frame `f`, or lose the trigger when no slot is free (R303, R305).  Trigger instants never
decrease in number order: an earlier one after a step of module time takes the last (R81, R307, assumption 129). -/
def State.drcOpen (s : State) (e : DrcTrig) (f : Nat) : State :=
  match (List.range 16).find? (fun i => (s.slot i).st == 0) with
  | none => s.drcLost true
  | some i =>
    let c := e.tick.cfg
    let first := max (f - c.pre * c.spc) (max c.floor (s.drc.frames - ringFrames))
    let want := f + c.post * c.spc - 1
    let time := max e.tick.inst s.drc.lastTime
    let num := s.drc.next
    let s := s.setSlot i
      { st := 1, num := num, code := e.code, multi := e.multi, preshort := decide (f < first + c.pre * c.spc)
        clip := c.limit.2 && decide (first + c.limit.1 ≤ want), first := first, trig := f
        last := min want (first + c.limit.1 - 1), time := time, locked := e.tick.locked }
    ({ s with drc := { s.drc with next := (num + 1) % 2 ^ 32, cutBy := none, lastTime := time } }.drcNumber num).putFld
      R.DRC_STAT 1 0 drcPost

/-- Extend the OPEN record to a retrigger (R306). -/
def State.drcExtend (s : State) (e : DrcTrig) (f : Nat) : State :=
  match s.openSlot with
  | none => s
  | some i =>
    let d := s.slot i
    let lim := e.tick.cfg.limit
    let want := f + e.tick.cfg.post * e.tick.cfg.spc - 1
    let cut := decide (d.first + lim.1 ≤ want)
    let s := s.setSlot i { d with
      ext := min 255 (d.ext + 1), last := min want (d.first + lim.1 - 1), clip := d.clip || (cut && lim.2) }
    { s with drc := { s.drc with cutBy := if cut then some e else none } }

/-- Set TRIG in a frame of the ring. -/
def State.markTrig (s : State) (f : Nat) : State :=
  s.dramPut (frameAt f + 0x0C) [(s.dramNum (frameAt f + 0x0C) 1) ||| 8]

/-- Frame `f` is whole: written, run by PRE, and the triggers up to it judged. -/
def State.drcWhole (s : State) (f : Nat) : Bool :=
  decide (f < s.drc.frames) && !s.drc.trig.any (fun e => e.tick.frame.any (fun g => decide (g ≤ f))) &&
    !(s.drc.recent.any fun t => t.frame == some f && s.pre.waiting.any (fun w => decide (w.num ≤ t.set)))

/-- The trigger whose post-trigger the limit cut short opens the next record; one that falls into BLOCKED is lost
(R306). -/
def State.drcReopen (s : State) : State :=
  match s.drc.cutBy with
  | none => s
  | some e =>
    let s := { s with drc := { s.drc with cutBy := none, reopen := false } }
    if s.drcState = drcArmed then s.drcOpen e (e.tick.frame.getD 0)
    else if s.drcState = drcBlocked then s.drcLost false
    else s

/-- Complete the OPEN record once its last frame is whole; RECDONE follows its descriptor and its frames (R305, R307).  What
the limit cut short opens the next record in the following tick, at once where that tick is past. -/
def State.drcSettle (s : State) : State :=
  match s.openSlot with
  | none => s
  | some i =>
    let f := (s.slot i).last
    if s.drcWhole f then
      let s := (s.setSlot i { s.slot i with st := 2, cut := s.drc.cutBy.isSome }).raise 0x082 0
      let s := if s.drcState = drcPost then s.putFld R.DRC_STAT 1 0 drcArmed else s
      if s.drc.cutBy.isSome && s.drcState == drcArmed && s.drc.frames == f + 1 then
        { s with drc := { s.drc with reopen := true } }
      else s.drcReopen
    else s

/-- The OPEN record gets no more frames: one whose last frame is not written ends here with TRUNC. -/
def State.drcTrunc (s : State) : State :=
  match s.openSlot with
  | none => s
  | some i =>
    if (s.slot i).last < s.drc.frames then s
    else { s with drc := { s.drc with cutBy := none } }.setSlot i { s.slot i with trunc := true, last := s.drc.frames - 1 }

/-- The next frame would overwrite a frame of a held descriptor: BLOCKED (R305). -/
def State.drcBlock (s : State) : State :=
  let s := (s.drcTrunc.putFld R.DRC_STAT 1 0 drcBlocked).raise 0x080 0
  (if s.drc.reopen then s.drcReopen else s).drcSettle

/-- Recording stops: an OPEN record completes with TRUNC (R305). -/
def State.drcStop (s : State) : State :=
  if s.drcState = drcOff then s
  else
    let s := s.drcTrunc.putFld R.DRC_STAT 1 0 drcOff
    let s := { s with drc := { s.drc with trig := [], now := [], gap := false } }
    (if s.drc.reopen then s.drcReopen else s).drcSettle

/-- Judge a trigger (R305). -/
def State.drcJudge (s : State) (e : DrcTrig) : State :=
  match e.tick.frame with
  | none => s.drcLost false
  | some f =>
    if s.drcState = drcArmed then
      let n := s.heldSlots.length
      let s := s.drcOpen e f
      if s.heldSlots.length = n then s else s.markTrig f
    else if s.drcState = drcPost then
      if e.tick.cfg.retrig then (s.drcExtend e f).markTrig f else s.incSat R.DRC_RTIGN
    else s.drcLost false

/-- DRC_TRIGGER: the sources of the oldest tick that has any form one trigger, once PRE has run that tick (R302, R305).  A
record that ended before that tick is complete first. -/
def execDrcTrigger (dt : Nat) (s : State) : Host.Outcome State Fault Refusal :=
  onMain dt s fun s =>
    match s.drc.trig with
    | [] => s
    | e :: rest =>
      if s.pre.waiting.any (fun w => decide (w.num ≤ e.tick.set)) then s
      else
        let s := s.drcSettle
        ({ s with drc := { s.drc with trig := rest } }.drcJudge e).drcSettle

/-- TRGNOW: a trigger at the next tick (R302). -/
def execTrgnow (dt : Nat) (who : Init) (v : Word) (s : State) : Host.Outcome State Fault Refusal :=
  onMain dt s fun s => s.cmdW who 0x080 0xC00 fun _ => onOne v fun s =>
    if s.drcState = drcOff then s
    else { s with drc := { s.drc with now := 8 * s.ticks :: s.drc.now } }

/-! ### Frames (R300) -/

/-- The 128 bytes of a frame. -/
def frameBytes (set : SampleSet) (gap : Bool) (traces : Nat) : List Nat :=
  bytesOf 8 set.inst ++ bytesOf 4 set.num ++
  bytesOf 4 (b2n (nb set.flags 6) + b2n (nb set.flags 5) * 2 + b2n (nb set.flags 4) * 4 + b2n gap * 16) ++
  (List.range 24).flatMap (fun n => bytesOf 4 (set.words.getD n 0)) ++ bytesOf 16 traces

/-- A set that DRC took. -/
def State.drcNote (s : State) (t : DrcTick) : State :=
  { s with drc := { s.drc with recent := (t :: s.drc.recent).take 16 } }

/-- A delivered set: one frame, its trace edges and other sources; or a set not written while BLOCKED.  The trigger of a
record that its limit cut short opens its record in the tick after (R306). -/
def State.drcFrame (s : State) (set : SampleSet) : State :=
  if s.drcState = drcOff then s
  else
    let s := s.drcSettle
    let s := if s.drcState ≠ drcBlocked ∧ s.drcHeld then s.drcBlock else s
    let o := s.trOther set
    let s := o.1
    let t : DrcTick := { set := set.num, inst := set.inst, locked := set.locked, cfg := s.drcCfg }
    if s.drcState = drcBlocked then ((s.incSat R.DRC_GAPCNT).drcNote t).addTrig t o.2
    else
      let f := s.drc.frames
      let tr := forN 128 (fun j m => nputb m j (s.trace set t.cfg.sel j)) 0
      let t := { t with frame := some f, tr := tr }
      let edges := s.trEdges t tr false
      let s := s.dramPut (frameAt f) (frameBytes set s.drc.gap tr)
      let s := { s with drc := { s.drc with gap := false, frames := f + 1 } }.wr64 R.DRC_FRW (f + 1)
      let s := (s.drcNote t).addTrig t (o.2 ++ edges)
      (if s.drc.reopen then s.drcReopen else s).drcSettle

/-- What the engine tick of a set adds to its frame: the PRE flags that it publishes, and REC pulses (R301, R302).  A tick
of an earlier run than the present one triggers nothing. -/
def State.drcFlags (s : State) (set : SampleSet) : State :=
  let rec_ := s.pre.rec_
  let s := { s with pre := { s.pre with rec_ := 0 } }
  match s.drc.recent.find? (fun e => e.set == set.num) with
  | none => s
  | some t =>
    let lines := ((List.range 16).filter (fun i => nb rec_ i && nb t.cfg.gen i)).map (· + 1)
    match t.frame with
    | none => if s.drcState = drcOff then s else s.addTrig t lines
    | some f =>
      let tr := forN 128 (fun j m =>
        if selKind t.cfg.sel j = 2 then nputb m j (nb s.preFlags (selIdx t.cfg.sel j)) else m) t.tr
      let edges := s.trEdges t tr true
      let s := s.dramPut (frameAt f + 0x70) (bytesOf 16 tr)
      let s := { s with drc := { s.drc with
        recent := s.drc.recent.map (fun (e : DrcTick) => if e.set = set.num then { t with tr := tr } else e) } }
      (if s.drcState = drcOff ∨ f < s.drc.run then s else s.addTrig t (lines ++ edges)).drcSettle

/-- SAMPLE_SET_DELIVERY: the oldest set in flight reaches the sample bus; PAD makes its samples, PRE takes it, and DRC
writes its frame (R236, R257, R300). -/
def execSampleSetDelivery (dt : Nat) (x : List ChIn) (s : State) : Host.Outcome State Fault Refusal :=
  guarded (Instr.sampleSetDelivery dt x).wf dt s (onMain dt s fun s =>
    match s.pad.flight with
    | [] => s
    | set :: _ =>
      if s.ticks < set.due then s
      else
        let s := s.padDeliver set x
        (s.preAccept s.pad.last).drcFrame s.pad.last)

/-- ENGINE_TICK: the oldest waiting set is processed and voted, the results are published, and the frame of its tick
takes them (R255, R257, R260, R279, R285, R301). -/
def execEngineTick (dt : Nat) (vote : MantisVote) (s : State) : Host.Outcome State Fault Refusal :=
  onMain dt s fun s =>
    match s.pre.waiting with
    | [] => s
    | set :: _ =>
      if s.engine = engRun ∧ s.pre.latch.isSome then (s.engineTick vote).drcFlags set else s

/-! ### The archive (R308 to R311) -/

/-- Show ARCNT, AOLDEST and ANEWEST. -/
def State.arcShow (s : State) : State :=
  let ns := s.drc.arc.map (·.1)
  ((s.wr R.DRC_ARCNT ns.length).wr R.DRC_AOLDEST (ns.headD 0)).wr R.DRC_ANEWEST (ns.getLastD 0)

/-- Frames of a descriptor, and its size in the archive. -/
def DrcSlot.count (d : DrcSlot) : Nat := d.last + 1 - d.first
def DrcSlot.size (d : DrcSlot) : Nat := 4096 * (1 + divUp d.count 31)

/-- A block of 4 KiB: its content, zeros, and a CRC-32C over them in its last four bytes. -/
def arcBlock (b : List Nat) : List Nat :=
  let b := b ++ List.replicate (4092 - b.length) 0
  b ++ bytesOf 4 (crc32c b)

/-- The header block of a record (DESIGN CHOICE, assumption 144). -/
def DrcSlot.header (d : DrcSlot) (protect : Bool) : List Nat :=
  arcBlock (bytesOf 4 d.num ++ bytesOf 4 d.info ++ bytesOf 8 d.first ++ bytesOf 8 d.trig ++ bytesOf 8 d.last ++
    bytesOf 8 d.time ++ [b2n d.locked, b2n protect])

/-- The data block of a record with index `i`: 31 frames and a trailer with the index of its first frame and the CRC-32C
(R308). -/
def State.dataBlock (s : State) (d : DrcSlot) (i : Nat) : List Nat :=
  let b := (List.range (min 31 (d.count - 31 * i))).flatMap (fun j => s.dramBytes (frameAt (d.first + 31 * i + j)) 128)
  arcBlock (b ++ List.replicate (3968 - b.length) 0 ++ bytesOf 8 (d.first + 31 * i))

/-- The archived form of a record: its data blocks, and the header written last. -/
def State.archived (s : State) (d : DrcSlot) : DrcArc where
  d := d
  hdr := d.header false
  blocks := (List.range (divUp d.count 31)).map (s.dataBlock d)

/-- The frames of an archived record. -/
def DrcArc.data (a : DrcArc) : List Nat := (a.blocks.flatMap (·.take 3968)).take (128 * a.d.count)

/-- The directory entry that a header block gives, none where its CRC is wrong (R311). -/
def DrcArc.reread (a : DrcArc) : Option DrcArc :=
  let h := a.hdr
  let n (o k : Nat) : Nat := fromBytes ((h.drop o).take k)
  let i := n 4 4
  if h.length = 4096 ∧ n 4092 4 = crc32c (h.take 4092) then
    some { a with
      protect := decide (n 41 1 = 1)
      d := { st := nf i 1 0, num := n 0 4, code := nf i 15 8, multi := nb i 16, preshort := nb i 17, clip := nb i 18
             trunc := nb i 19, cut := nb i 20, ext := nf i 31 24, first := n 8 8, trig := n 16 8, last := n 24 8
             time := n 32 8, locked := decide (n 40 1 = 1) } }
  else none

/-- Does a record of this size fit: at most 256 records and 4 GiB? -/
def State.arcFits (s : State) (size : Nat) : Bool :=
  decide (s.drc.arc.length < 256) &&
    decide ((s.drc.arc.map (fun e => e.2.d.size)).foldl (· + ·) 0 + size ≤ 2 ^ 32)

/-- Delete the oldest records without PROTECT, as often as needed; a record under export stays. -/
def State.arcRoom : Nat → Nat → State → State
  | 0, _, s => s
  | fuel + 1, size, s =>
    if s.arcFits size then s
    else match s.drc.arc.find? (fun e => !e.2.protect && (s.drc.exp.map (·.num)) != some e.1) with
    | none => s
    | some e =>
      State.arcRoom fuel size
        (({ s with drc := { s.drc with arc := tabDel s.drc.arc e.1 } }.incSat R.DRC_ARCHDROP).raise 0x080 3)

/-- The COMPLETE slot with the lowest record number. -/
def State.oldestComplete (s : State) : Option Nat :=
  (List.range 16).foldl (fun b i =>
    if (s.slot i).st ≠ 2 then b
    else match b with
    | none => some i
    | some j => if (s.slot i).num < (s.slot j).num then some i else b) none

/-- ARCHIVE_COPY_START: the oldest COMPLETE record is taken, when it fits or policy 0 makes room (R308, R309). -/
def execArchiveCopyStart (dt : Nat) (s : State) : Host.Outcome State Fault Refusal :=
  onMain dt s fun s =>
    if !s.bit R.DRC_CTRL 2 || s.drc.failed.isSome || s.drc.copying.isSome then s
    else match s.oldestComplete with
    | none => s
    | some i =>
      let size := (s.slot i).size
      let s := if s.bit R.DRC_CTRL 3 then s else (State.arcRoom 256 size s).arcShow
      if !s.arcFits size then s
      else
        { s.setSlot i { s.slot i with st := 3 } with
          drc := { (s.setSlot i { s.slot i with st := 3 }).drc with copying := some i } }.putBit R.DRC_STAT 9 true

/-- ARCHDONE: the header is written last, and the slot is released (R308). -/
def execArchdone (dt : Nat) (s : State) : Host.Outcome State Fault Refusal :=
  onMain dt s fun s =>
    match s.drc.copying with
    | none => s
    | some i =>
      let d := s.slot i
      let s := { s with drc := { s.drc with
        copying := none, arc := tabSet {} s.drc.arc d.num (s.archived d) } }
      (((s.putBit R.DRC_STAT 9 false).arcShow).raise 0x082 1).freeSlot i

/-- ARCH_IO: the copy ends, its blocks are discarded, the slot stays held until RETRY (R310). -/
def execArchIo (dt : Nat) (s : State) : Host.Outcome State Fault Refusal :=
  onMain dt s fun s =>
    match s.drc.copying with
    | none => s
    | some i =>
      let s := s.setSlot i { s.slot i with st := 2 }
      let s := { s with drc := { s.drc with copying := none, failed := some i } }.putBit R.DRC_STAT 9 false
      (s.errOpen 0x080 s.drcOwner 0x0102).raise 0x080 2

/-! ### ARCMD -/

/-- An ARCMD of operation `op`. -/
def State.arcmd (s : State) (who : Init) (v : Word) (op : Nat) (f : Nat → State → State) : State :=
  s.cmdW who 0x082 0xC04 fun n s => s.keyed 0x082 0xC04 n 0x9D2C v fun s => if nf v.toNat 2 0 = op then f n s else s

/-- Change PROTECT of the record named in ASEL, in its header too; a record that is absent changes nothing. -/
def State.arcProtect (s : State) (on : Bool) : State :=
  match tabFind s.drc.arc (s.rd R.DRC_ASEL) with
  | none => s
  | some a =>
    { s with drc := { s.drc with
      arc := tabSet {} s.drc.arc (s.rd R.DRC_ASEL) { a with protect := on, hdr := a.d.header on } } }

/-- ARCMD_PROTECT. -/
def execArcmdProtect (dt : Nat) (who : Init) (v : Word) (s : State) : Host.Outcome State Fault Refusal :=
  onMain dt s fun s => s.arcmd who v 1 fun _ s => s.arcProtect true

/-- ARCMD_UNPROTECT. -/
def execArcmdUnprotect (dt : Nat) (who : Init) (v : Word) (s : State) : Host.Outcome State Fault Refusal :=
  onMain dt s fun s => s.arcmd who v 2 fun _ s => s.arcProtect false

/-- ARCMD_DELETE: the record named in ASEL is deleted; while it is exported the command records REC_BUSY
(assumption 43). -/
def execArcmdDelete (dt : Nat) (who : Init) (v : Word) (s : State) : Host.Outcome State Fault Refusal :=
  onMain dt s fun s => s.arcmd who v 3 fun n s =>
    if s.drc.exp.map (·.num) = some (s.rd R.DRC_ASEL) then s.err 0x082 n 0x0101 R.DRC_ARCMD
    else { s with drc := { s.drc with arc := tabDel s.drc.arc (s.rd R.DRC_ASEL) } }.arcShow

/-- ARCMD_RELEASE: with ARCHEN = 0 the COMPLETE slot named in DSEL is freed. -/
def execArcmdRelease (dt : Nat) (who : Init) (v : Word) (s : State) : Host.Outcome State Fault Refusal :=
  onMain dt s fun s => s.arcmd who v 4 fun _ s =>
    let i := s.fld R.DRC_DSEL 3 0
    if !s.bit R.DRC_CTRL 2 && (s.slot i).st == 2 then s.freeSlot i else s

/-- ARCMD_RETRY: a failed copy may start again. -/
def execArcmdRetry (dt : Nat) (who : Init) (v : Word) (s : State) : Host.Outcome State Fault Refusal :=
  onMain dt s fun s => s.arcmd who v 5 fun _ s => { s with drc := { s.drc with failed := none } }

/-! ### COMTRADE (R312, R313) -/

/-- Characters of a text and of a decimal number. -/
def txt (t : String) : List Nat := t.toList.map Char.toNat
def decTxt (n : Nat) : List Nat := (Nat.toDigits 10 n).map Char.toNat

/-- `w` decimal digits of a number. -/
def padTxt : Nat → Nat → List Nat
  | 0, _ => []
  | w + 1, n => padTxt w (n / 10) ++ [48 + n % 10]

/-- An open decimal text. -/
def numTxt (kind n : Nat) : List Nat := (Config.numText kind n).map BitVec.toNat

/-- The characters of a text field up to its padding. -/
def State.nameTxt (s : State) (x words : Nat) : List Nat :=
  ((List.range words).flatMap (fun i => bytesOf 4 (s.rd (x + 4 * i)))).takeWhile (· != 0)

/-- Year, month and day of a day counted from 1970-01-01. -/
def civil (days : Nat) : Nat × Nat × Nat :=
  let z := days + 719468
  let doe := z % 146097
  let yoe := (doe - doe / 1460 + doe / 36524 - doe / 146096) / 365
  let doy := doe - (365 * yoe + yoe / 4 - yoe / 100)
  let mp := (5 * doy + 2) / 153
  let m := if mp < 10 then mp + 3 else mp - 9
  (yoe + z / 146097 * 400 + (if m ≤ 2 then 1 else 0), m, doy - (153 * mp + 2) / 5 + 1)

/-- An instant in UTC to 1 µs as dd/mm/yyyy,hh:mm:ss.ssssss. -/
def State.utcTxt (s : State) (inst : Nat) : List Nat :=
  let us := (((inst : Int) - sx 16 (s.rd R.TMB_TAIUTC) * 4000000000) / 4000).toNat
  let sec := us / 1000000
  let c := civil (sec / 86400)
  padTxt 2 c.2.2 ++ txt "/" ++ padTxt 2 c.2.1 ++ txt "/" ++ padTxt 4 c.1 ++ txt "," ++ padTxt 2 (sec / 3600 % 24) ++
    txt ":" ++ padTxt 2 (sec / 60 % 60) ++ txt ":" ++ padTxt 2 (sec % 60) ++ txt "." ++ padTxt 6 (us % 1000000)

/-- The exported analog channels and digital traces. -/
def State.expCh (s : State) : List Nat := (List.range 24).filter (fun n => s.bit R.DRC_ANAMASK n)
def State.expTr (s : State) : List Nat := (List.range 128).filter (fun j => selKind s.trSel j != 0)

/-- Frame `i` of archived data, and a number in it. -/
def DrcArc.num (a : DrcArc) (i o n : Nat) : Nat := fromBytes ((a.data.drop (128 * i + o)).take n)
def DrcArc.frames (a : DrcArc) : Nat := a.d.count
def DrcArc.time (a : DrcArc) (i : Nat) : Nat := a.num i 0 8

/-- Does the record span more than 42.9 s? -/
def DrcArc.long (a : DrcArc) : Bool := decide (171600000000 < a.time (a.frames - 1) - a.time 0)

/-- A line with its end. -/
def textLine (t : List Nat) : List Nat := t ++ [13, 10]

/-- Fields separated by commas. -/
def csv (l : List (List Nat)) : List Nat := (l.intersperse [44]).flatten

/-- The .cfg file. -/
def State.cfgFile (s : State) (a : DrcArc) : List Nat :=
  let ch := s.expCh
  let tr := s.expTr
  let z := txt "0"
  textLine (csv [s.nameTxt (R.DRC_STATION 0) 8, numTxt 1 (s.rd64 R.SYS_SERIAL), txt "2013"]) ++
  textLine (csv [decTxt (ch.length + tr.length), decTxt ch.length ++ txt "A", decTxt tr.length ++ txt "D"]) ++
  ((List.range ch.length).flatMap fun i =>
    let n := ch.getD i 0
    let pfs := numTxt 0 (s.rd (chReg R.PAD_CHPFS n))
    textLine (csv [decTxt (i + 1), s.nameTxt (R.DRC_NAME (4 * n)) 4, s.nameTxt (R.DRC_CHPH n) 1, [],
      s.nameTxt (R.DRC_CHUNIT n) 1, txt "1", z, z, txt "-" ++ pfs, pfs, numTxt 0 (s.rd (chReg R.PAD_CHRATIO n)),
      txt "1", txt "P"])) ++
  ((List.range tr.length).flatMap fun i =>
    let j := tr.getD i 0
    textLine (csv [decTxt (i + 1), s.nameTxt (R.DRC_TNAME (4 * j)) 4, [], [],
      decTxt (b2n (s.bit (R.DRC_TRNORM (j / 32)) (j % 32)))])) ++
  textLine (numTxt 2 (s.rd R.PAD_FIXF)) ++ textLine z ++ textLine (csv [z, decTxt a.frames]) ++
  textLine (s.utcTxt (a.time 0)) ++ textLine (s.utcTxt a.d.time) ++ textLine (txt "float32") ++
  textLine (if a.long then txt "0.1" else txt "0.01") ++ textLine (csv [z, z]) ++
  textLine (csv [if a.d.locked then z else txt "F", z])

/-- VALUE / 2^23 × PFS of a sample word, 0.0 without VALID. -/
def State.sampleB32 (s : State) (n w : Nat) : Nat :=
  if !nb w 0 then 0
  else openB32 (((sx 24 (w / 256) : Int) : Rat) / (2 ^ 23 : Nat) * b32.rat (s.rd (chReg R.PAD_CHPFS n)))

/-- The .dat file. -/
def State.datFile (s : State) (a : DrcArc) : List Nat :=
  let ch := s.expCh
  let tr := s.expTr
  let unit : Nat := if a.long then 400 else 40
  (List.range a.frames).flatMap fun i =>
    let traces := a.num i 0x70 16
    bytesOf 4 (i + 1) ++ bytesOf 4 (nearestInt 5 (((a.time i - a.time 0 : Nat) : Rat) / (unit : Nat))).toNat ++
    ch.flatMap (fun n => bytesOf 4 (s.sampleB32 n (a.num i (0x10 + 4 * n) 4))) ++
    (List.range (divUp tr.length 16)).flatMap (fun w => bytesOf 2 (forN 16 (fun b m =>
      match tr[16 * w + b]? with
      | some j => nputb m b (nb traces j)
      | none => m) 0))

/-- The .hdr file: lines of decimal numbers, the record number, the trigger code, the DINFO flags [20:16] and EXT; then
for each exported channel the samples without VALID and with SAT, CHKFAIL, FALLBACK, HOLD and UNCAL; and the GRIDCHG frames
(the form of a line: assumption 44). -/
def State.hdrFile (s : State) (a : DrcArc) : List Nat :=
  let fs := List.range a.frames
  let count (n : Nat) (p : Nat → Bool) : Nat := (fs.filter (fun i => p (a.num i (0x10 + 4 * n) 4))).length
  let line (l : List Nat) : List Nat := textLine (csv (l.map decTxt))
  [a.d.num, a.d.code, a.d.info / 2 ^ 16 % 32, a.d.ext].flatMap (fun v => line [v]) ++
  s.expCh.flatMap (fun n => line (count n (fun w => !nb w 0) :: [1, 2, 5, 4, 7].map (fun b => count n (fun w => nb w b)))) ++
  line [(fs.filter (fun i => nb (a.num i 0x0C 4) 0)).length]

/-- Does the range lie in a NORMAL window with W = 1 that partition `n` owns (R312)? -/
def State.expTarget (s : State) (n dst len : Nat) : Bool :=
  decide (dramBase ≤ dst) && s.windows.any (fun w => s.wOwner w == some n && s.wKind w == kNormal && s.wW w &&
    decide (s.wBase w ≤ dst - dramBase) && decide (dst - dramBase + len ≤ s.wBase w + s.wSize w))

/-- An export command for file `kind` whose content is `file`. -/
def State.expStart (s : State) (who : Init) (v : Word) (kind : Nat) (file : State → DrcArc → List Nat) : State :=
  s.cmdW who 0x082 0xC00 fun n s => s.keyed 0x082 0xC00 n 0x9D2B v fun s =>
    if nf v.toNat 1 0 ≠ kind ∨ s.bit R.DRC_EXPSTAT 0 then s
    else match tabFind s.drc.arc (s.rd R.DRC_ASEL) with
    | none => (s.err 0x082 n 0x0104 R.DRC_EXPCMD).wr R.DRC_EXPSTAT 4
    | some a =>
      let data := file s a
      let dst := s.rd64 R.DRC_EXPDST
      let o := s.drcOwner
      if !s.expTarget o dst data.length then (s.dmaLog o 0x0C dst).wr R.DRC_EXPSTAT 4
      else if s.rd R.DRC_EXPMAX < data.length then (s.err 0x082 n 0x0103 R.DRC_EXPCMD).wr R.DRC_EXPSTAT 4
      else { s with drc := { s.drc with exp := some { num := a.d.num, dst := dst, data := data } } }.wr R.DRC_EXPSTAT 1

/-- EXPCMD_CFG. -/
def execExpcmdCfg (dt : Nat) (who : Init) (v : Word) (s : State) : Host.Outcome State Fault Refusal :=
  onMain dt s fun s => s.expStart who v 0 State.cfgFile

/-- EXPCMD_HDR. -/
def execExpcmdHdr (dt : Nat) (who : Init) (v : Word) (s : State) : Host.Outcome State Fault Refusal :=
  onMain dt s fun s => s.expStart who v 1 State.hdrFile

/-- EXPCMD_DAT. -/
def execExpcmdDat (dt : Nat) (who : Init) (v : Word) (s : State) : Host.Outcome State Fault Refusal :=
  onMain dt s fun s => s.expStart who v 2 State.datFile

/-- EXPDONE: every byte is visible, then EXPLEN, DONE and ES138; a transfer that stops fails (R172, R181, R312). -/
def execExpdone (dt : Nat) (s : State) : Host.Outcome State Fault Refusal :=
  onMain dt s fun s =>
    match s.drc.exp with
    | none => s
    | some e =>
      let r := s.dmaWrite 0x080 0x0C e.dst e.data
      let s := { r.1 with drc := { r.1.drc with exp := none } }
      if r.2 ≠ .ok then s.wr R.DRC_EXPSTAT 4
      else ((s.wr R.DRC_EXPLEN e.data.length).wr R.DRC_EXPSTAT 2).raise 0x082 2

/-- DRC_CNTCLR: clear TRGLOST, RTIGN, GAPCNT and ARCHDROP. -/
def execDrcCntclr (dt : Nat) (who : Init) (v : Word) (s : State) : Host.Outcome State Fault Refusal :=
  onMain dt s fun s => s.cmdW who 0x080 0xC04 fun _ => onOne v fun s =>
    s.zero [R.DRC_TRGLOST, R.DRC_RTIGN, R.DRC_GAPCNT, R.DRC_ARCHDROP]

/-! ### Commits, resets and views -/

/-- Text registers: allowed characters, and nothing after the padding starts. -/
def State.textOk (s : State) (x words len : Nat) : Bool :=
  let b := ((List.range words).flatMap (fun i => bytesOf 4 (s.sh (x + 4 * i)))).take len
  b.all (fun c => c == 0 || (within 0x20 0x7E c && c != 44)) && (b.dropWhile (· != 0)).all (· == 0)

/-- Is the trace selection of half a TRSEL word in range (R301)? -/
def selOk (h : Nat) : Bool :=
  match nf h 11 8 with
  | 0 => true
  | 1 => decide (nf h 7 0 < 48)
  | 2 => true
  | 3 => decide (nf h 7 0 < 12)
  | 4 => decide (nf h 7 0 < 64)
  | 5 => decide (nf h 7 0 < 32)
  | _ => false

/-- The check of a DRC page (R301, R304, R315, R317). -/
def State.drcCheck (s : State) (p : Nat) : Verdict :=
  if p = 0x080 then
    let a := s.shFld R.DRC_PRECYC 9 0
    let b := s.shFld R.DRC_POSTCYC 10 0
    rangeIf (within 1 1024 b && within (a + b) 1024 (s.shFld R.DRC_LIMCYC 10 0))
  else if p = 0x081 then
    let sel := (List.range 64).map (fun k => R.DRC_TRSEL k)
    match sel.find? (fun x => s.drcState == drcPost && s.sh x != s.rd x) with
    | some x => .codedAt 0x0101 (0x40000000 + x)
    | none => rangeIf (sel.all (fun x => selOk (s.sh x) && selOk (s.sh x / 2 ^ 16)))
  else if p = 0x083 then
    rangeIf (s.textOk (R.DRC_STATION 0) 8 32 &&
      (List.range 24).all (fun n => s.textOk (R.DRC_NAME (4 * n)) 4 16 && s.textOk (R.DRC_CHUNIT n) 1 4 &&
        s.textOk (R.DRC_CHPH n) 1 4) &&
      (List.range 128).all (fun j => s.textOk (R.DRC_TNAME (4 * j)) 4 16))
  else .ok

/-- A record still OPEN when recording starts anew completes. -/
def State.drcEnd (s : State) : State :=
  match s.openSlot with
  | none => s
  | some i => (s.setSlot i { s.slot i with st := 2 }).raise 0x082 0

/-- What a DRC page does when its shadows became active. -/
def State.drcApplied (s old : State) (p : Nat) : State :=
  if p = 0x080 then
    let line := s.fld R.DRC_TRGEN 29 24
    let s := if line ≠ old.fld R.DRC_TRGEN 29 24 ∨ s.drcState = drcOff then
        { s with drc := { s.drc with strobes := (s.strobe line).count } }
      else s
    if s.bit R.DRC_CTRL 0 && s.drcState == drcOff then
      let s := s.drcEnd
      { s with drc := { s.drc with floor := s.drc.frames, run := s.drc.frames, gap := false } }.putFld R.DRC_STAT 1 0
        drcArmed
    else if !s.bit R.DRC_CTRL 0 then s.drcStop
    else s
  else if p = 0x081 then
    if (List.range 64).any (fun k => s.rd (R.DRC_TRSEL k) != old.rd (R.DRC_TRSEL k)) then
      { s with drc := { s.drc with floor := s.drc.frames } }
    else s
  else s

/-- A partition reset of the owner: a copy in progress completes, the other slots are discarded (R311).  The frame index
goes on, since it counts from module start. -/
def State.drcReset (s : State) : State :=
  let keep := s.drc.slots.filter (fun e => e.2.st == 3)
  let s := { s with drc := { s.drc with
    slots := keep, trig := [], now := [], cutBy := none, reopen := false, gap := false, failed := none
    exp := none } }
  ((s.putFld R.DRC_STAT 8 4 keep.length).putBit R.DRC_STAT 9 s.drc.copying.isSome |>.wr64 R.DRC_FRW s.drc.frames).arcShow

/-- A module start: the ring is empty, the archive directory is rebuilt from the headers, and numbering goes on above the
numbering block and the archive (R307, R311). -/
def State.drcBoot (s : State) : State :=
  let arc := s.drc.arc.filterMap (fun e => e.2.reread.map (fun a => (e.1, a)))
  let used := s.drc.nums.filterMap (fun e => numSlot e.2) ++ arc.map (fun e => e.2.d.num)
  { s with drc := { next := (used.foldl max 0 + 1) % 2 ^ 32, nums := s.drc.nums, arc := arc } }.arcShow

/-- The registers of page 0x082 that DSEL and ASEL select. -/
def State.drcView (s : State) (x : Nat) : Option Nat :=
  let d := s.slot (s.fld R.DRC_DSEL 3 0)
  let a := tabFind s.drc.arc (s.rd R.DRC_ASEL)
  if x = R.DRC_DNUM then some d.num
  else if x = R.DRC_DINFO then some d.info
  else if x = R.DRC_DFIRST then some (d.first % 2 ^ 32)
  else if x = R.DRC_DFIRST + 4 then some (d.first / 2 ^ 32)
  else if x = R.DRC_DPRE then some (d.trig - d.first)
  else if x = R.DRC_DPOST then some (if d.st = 0 then 0 else d.last + 1 - d.trig)
  else if x = R.DRC_DTIME then some (d.time % 2 ^ 32)
  else if x = R.DRC_DTIME + 4 then some (d.time / 2 ^ 32)
  else if x = R.DRC_AINFO then some (match a with
    | some r => 1 + b2n r.protect * 2 + r.d.info / 256 * 256
    | none => 0)
  else if x = R.DRC_ASIZE then some (match a with
    | some r => r.d.size
    | none => 0)
  else none

end Sys2Proof.Machine
end

