-- ==== Sys2Proof/Machine/Sar.lean ====
section
/-! DEFINITION. SAR: converters, triggers, sequences, urgent conversions, fall-back and filters (R318 to R344). -/
namespace Sys2Proof.Machine

/-! ### Converters -/

def State.sarC (s : State) (c : Nat) : SarConv := tabGet {} s.sar.conv c
def State.setSarC (s : State) (c : Nat) (x : SarConv) : State :=
  { s with sar := { s.sar with conv := tabSet {} s.sar.conv c x } }

/-- The page of converter `c`. -/
abbrev sarPage (c : Nat) : Nat := 0x088 + 2 * c

/-- MODE in force (R321, R323). -/
def State.sarMode (s : State) (c : Nat) : Nat := s.fld (R.SAR_STAT c) 1 0
def State.sarReady (s : State) (c : Nat) : Bool := s.bit (R.SAR_STAT c) 2
def State.sarTrigSel (s : State) (c : Nat) : Nat := s.fld (R.SAR_CTRL c) 4 2
def State.sarLine (s : State) (c : Nat) : Nat := s.fld (R.SAR_CTRL c) 10 5
def State.sarDelay (s : State) (c e : Nat) : Nat := 4 * s.fld (R.SAR_ENTB c e) 15 0

/-- The present instant in quarter ticks. -/
def State.now4 (s : State) : Nat := 4 * s.ticks

/-- Module time at an instant in quarter ticks not later than now, plus an offset in module-time units. -/
def State.stampAt (s : State) (q ofs : Nat) : Nat := s.moduleTime + ofs - 10 * (s.now4 - q)

/-- The instant in quarter ticks of a module time near the present one. -/
def State.quarterOf (s : State) (m : Nat) : Nat :=
  if m ≤ s.moduleTime then s.now4 - (s.moduleTime - m) / 10 else s.now4 + (m - s.moduleTime) / 10

/-- RUN and CONVREQ pending follow the converter. -/
def State.sarShow (s : State) (c : Nat) : State :=
  let x := s.sarC c
  (s.putBit (R.SAR_STAT c) 3 (x.run.isSome || x.old.isSome)).putBit (R.SAR_STAT c) 7 x.req.isSome

/-! ### Filters (R333, R334) -/

/-- One stage of a filter: the memory it leaves and its output. -/
structure Stage where
  mem : List Nat
  out : Nat

/-- The stages of a section in order: true for the notch. -/
def stages (cfg : Nat) : List Bool :=
  let lp := List.replicate (nf cfg 2 0) false
  if !nb cfg 3 then lp else if nb cfg 4 then lp ++ [true] else true :: lp

/-- A stage in the steady state of a value. -/
def steady (notch : Bool) (x : Nat) : List Nat := if notch then [x, x, x, x] else [x]

/-- Run one stage (R333): the memory of a notch is its last two inputs and its last two outputs. -/
def State.runStage (s : State) (c f : Nat) (notch : Bool) (mem : List Nat) (x : Nat) : Stage :=
  let fs := s.fld (R.SAR_FLTFS c f) 20 0
  if notch then
    let nt := s.rd (R.SAR_FLTNOTCH c f)
    let v (i : Nat) : Rat := b32.rat (mem.getD i 0)
    let cw := 2 * (cosSin ((nf nt 15 0 : Nat) / (fs : Nat))).1
    let rr := 1 - piQ * (nf nt 31 16 : Nat) / (fs : Nat)
    let g := if cw = 2 then 1 else (1 - rr * cw + rr * rr) / (2 - cw)
    let y := openB32 (g * (b32.rat x - cw * v 0 + v 1) + rr * cw * v 2 - rr * rr * v 3)
    { mem := [x, mem.getD 0 0, y, mem.getD 2 0], out := y }
  else
    let a := expQ (-2 * piQ * ((s.fld (R.SAR_FLTFC c f) 23 0 : Nat) / 10) / (fs : Nat))
    let y := openB32 (a * b32.rat (mem.getD 0 0) + (1 - a) * b32.rat x)
    { mem := [y], out := y }

/-- A binary32 value clipped to ±`top`, and whether it was. -/
def clipB32 (top : Nat) (x : Nat) : Nat × Bool :=
  let q := b32.rat x
  if ((top : Nat) : Rat) < q then (b32.ofRat ((top : Nat) : Rat), true)
  else if q < -((top : Nat) : Rat) then (b32.ofRat (-((top : Nat) : Rat)), true)
  else (x, false)

/-- The stages in turn: memories, output and clipping. -/
def State.runStages (s : State) (c f : Nat) : List (Bool × List Nat) → Nat → List (List Nat) × Nat × Bool
  | [], x => ([], x, false)
  | [st], x =>
    let r := s.runStage c f st.1 st.2 x
    ([r.mem], r.out, false)
  | st :: rest, x =>
    let r := s.runStage c f st.1 st.2 x
    let k := clipB32 49152 r.out
    let t := s.runStages c f rest k.1
    (r.mem :: t.1, t.2.1, k.2 || t.2.2)

/-- The filtered value of a slot, whether it clipped, and the memories: the first value starts every stage in its steady
state. -/
def State.sarFilter (s : State) (c slot : Nat) (x : Int) : Int × Bool × List (List Nat) :=
  let f := s.fld (R.SAR_SLOTCFG c slot) 2 0
  let st := stages (s.rd (R.SAR_FLTCFG c f))
  let w := b32.ofRat (x : Rat)
  match tabFind (s.sarC c).filt slot with
  | none => (x, false, st.map (fun n => steady n w))
  | some mem =>
    let r := s.runStages c f (st.zip mem) w
    let y := b32.rat r.2.1
    (clampInt (-32768) 32767 (nearestInt 6 y), r.2.2 || decide (y < -32768) || decide (32767 < y), r.1)

/-! ### Conversions (R322 to R325, R335) -/

/-- A code that reached an end of its range is clipped (R319). -/
def clipped (code : Int) : Bool := code == -32768 || code == 32767

/-- A conversion of the reference is compared with its expected code (R335). -/
def State.sarRef (s : State) (c cfg : Nat) (code : Int) : State :=
  if !nb cfg 5 then s
  else
    let d := (code - (if nb cfg 6 then -16384 else 8192)).natAbs
    let s := s.setSarC c { s.sarC c with refDev := some d }
    if s.fld (R.SAR_REFTOL c) 7 0 < d then (s.putBit (R.SAR_STAT c) 5 true).raise (sarPage c) 5 else s

/-- A slot as CYC source kind 0x04 maps it (R338). -/
def State.sarItem (s : State) (c i len : Nat) : List Nat :=
  (bytesOf 2 (s.rd (R.SAR_VAL c i)) ++ bytesOf 2 (s.rd (R.SAR_SSTAT c i)) ++ bytesOf 8 (s.rd64 (R.SAR_STAMP c i))).take len

/-- A slot as CYC source: data, quality and stamp. -/
def State.sarSrc (s : State) (e : MapEnt) : List Nat × Nat × Nat :=
  let st := s.rd (R.SAR_SSTAT e.inst e.item)
  (s.sarItem e.inst e.item e.len, qual (nb st 0) (nb st 1 || nb st 4) false (nb st 3), s.rd64 (R.SAR_STAMP e.inst e.item))

/-- Write a slot: value, status and stamp together (R332). -/
def State.slotWrite (s : State) (c e slot : Nat) (v raw : Int) (rng fb : Bool) (stamp : Nat) : State :=
  let fen := s.bit (R.SAR_SLOTCFG c slot) 3
  let r := if fen then s.sarFilter c slot v else (v, false, [])
  let s := if fen then s.setSarC c { s.sarC c with filt := tabIns (tabDel (s.sarC c).filt slot) slot r.2.2 } else s
  let upd := (s.fld (R.SAR_SSTAT c slot) 15 8 + 1) % 256
  let s := s.wr (R.SAR_VAL c slot) (toBits 16 r.1 + toBits 16 raw * 2 ^ 16)
  let s := s.wr (R.SAR_SSTAT c slot) (1 + b2n rng * 2 + b2n fb * 4 + b2n (s.bit (R.SAR_STAT c) 5) * 8 + b2n r.2.1 * 16 +
    upd * 2 ^ 8 + e * 2 ^ 16)
  (s.wr64 (R.SAR_STAMP c slot) stamp).srcReport (fun e => e.kind == 0x04 && e.inst == c && e.item == slot) State.sarSrc

/-- The mean of codes, rounded to nearest with ties to even. -/
def meanEven (l : List Int) : Int :=
  let n : Int := l.length
  let t := l.foldl (· + ·) 0
  let q := t / n
  let r := t - q * n
  if 2 * r < n then q else if n < 2 * r then q + 1 else if q % 2 = 0 then q else q + 1

/-- A conversion of a pass in the slot that starts at `q`: what it writes, and the pass that goes on.  A pass whose last
conversion STOP lets end is complete, and the last of its trigger (DEDUCED, assumption 146); one that a commit abandons is not
(R326, R336). -/
def State.seqConv (s : State) (c : Nat) (p : SarPass) (q : Nat) (code : Int) : State × Option SarPass :=
  let a := (p.stop.map (·.1)).getD (s.rd (R.SAR_ENTA c p.e))
  let end_p := (p.stop.map (·.2.1)).getD (s.fld (R.SAR_SEQCFG c) 13 8)
  let codes := p.codes ++ [code]
  let rng := p.rng || clipped code
  let s := (s.sarRef c a code).raiseIf (clipped code) (sarPage c) 4
  let stamp := s.stampAt q 800
  let done := decide (nf a 19 16 < codes.length)
  let slot := nf a 13 8
  let s := if !nb a 20 then s.slotWrite c p.e slot code code (clipped code) p.fb stamp
    else if done then s.slotWrite c p.e slot (meanEven codes) code rng p.fb stamp
    else s
  let end_ := q + 200
  if p.stop.any (fun t => t.2.2.isSome || !done || decide (p.e < end_p)) then (s, none)
  else if !done then (s, some { p with codes := codes, rng := rng, due := end_ })
  else if p.e < end_p then
    (s, some { p with e := p.e + 1, codes := [], rng := false, due := end_ + s.sarDelay c (p.e + 1) })
  else
    let s := s.incWrap (R.SAR_PASSCNT c)
    let last := p.left == 1 || p.stop.isSome
    let s := s.raiseIf (last || s.bit (R.SAR_CTRL c) 13) (sarPage c) 0
    let e := s.fld (R.SAR_SEQCFG c) 5 0
    if last then (s, none)
    else (s, some { p with left := p.left - 1, e := e, codes := [], rng := false, due := end_ + s.sarDelay c e })

/-- The result of a CONVREQ whose slot starts at `q` (R324, R331). -/
def State.reqConv (s : State) (c : Nat) (r : Nat × Nat × Nat) (q : Nat) (code : Int) : State :=
  let s := (s.sarRef c r.2.2 code).raiseIf (clipped code) (sarPage c) 4
  let s := s.setSarC c { s.sarC c with req := none, free := q + 200 }
  let s := if r.2.1 = r.1 then s.wr (R.SAR_URGWAIT c) ((q - r.1) / 4 % 64) else s
  let s := s.wr (R.SAR_CONVRES c) (toBits 16 code + 2 ^ 16 + b2n (clipped code) * 2 ^ 17 +
    b2n (s.bit (R.SAR_STAT c) 5) * 2 ^ 18)
  (s.wr64 (R.SAR_CONVT c) (s.stampAt q 800)).raise (sarPage c) 1

/-- A CONVREQ accepted at instant `t`: in SINGLE mode its slot starts one 2.5 ns clock later (R324). -/
def State.newReq (s : State) (c t bits : Nat) : Nat × Nat × Nat := (t, t + b2n (s.sarMode c == 1), bits)

/-- The instant at which the slot of a pending CONVREQ starts.  One that stays in OFF has begun. -/
def State.reqStart (s : State) (c : Nat) : Option Nat :=
  let x := s.sarC c
  match x.req with
  | some r => if s.sarReady c || s.sarMode c == 0 then some (max r.2.1 x.free) else none
  | none => none

/-- The instant at which the next conversion of a pass starts: it goes before a request made in the same clock or later, and
after the slot of a request made before it (R331, R337). -/
def State.seqStart (s : State) (c : Nat) (p : SarPass) : Nat :=
  let x := s.sarC c
  let q := max p.due x.free
  match s.reqStart c with
  | some t => if (x.req.getD (0, 0, 0)).1 < q then max p.due (t + 200) else q
  | none => q

/-- A fall-back run that the triggered run ends: its next conversion is dropped unless it ends by that run's start
(R330).  The conversion in progress of an abandoned triggered run is made (R336). -/
def State.sarTrim (s : State) (c : Nat) : SarConv :=
  let x := s.sarC c
  match x.old, x.run with
  | some p, some r => if !p.fb || decide (s.seqStart c p + 200 ≤ r.start) then x else { x with old := none }
  | _, _ => x

/-- SAR_CONVERSION: the next 0.5 µs slot of the converter has ended; the sequence goes before a request that starts in
the same clock (R322, R331, R337). -/
def execSarConversion (dt : Nat) (c : Fin 4) (code : BitVec 16) (s : State) : Host.Outcome State Fault Refusal :=
  onMain dt s fun s =>
    let c := c.val
    let x := s.sarTrim c
    let s := s.setSarC c x
    let seq := match if x.old.isSome then x.old else x.run with
      | some p => some (p, s.seqStart c p)
      | none => none
    let u := match s.reqStart c, seq with
      | some t, some (_, q) => if q ≤ t then none else some t
      | t, none => t
      | none, _ => none
    match u, seq with
    | some t, _ =>
      if s.now4 < t + 200 then s else (s.reqConv c (x.req.getD (0, 0, 0)) t code.toInt).sarShow c
    | none, some (p, q) =>
      if s.now4 < q + 200 then s
      else
        let r := s.seqConv c p q code.toInt
        let y := { r.1.sarC c with free := q + 200 }
        (r.1.setSarC c (if x.old.isSome then { y with old := r.2 } else { y with run := r.2 })).sarShow c
    | none, none => s

/-- CONVREQ: a single conversion is asked, or refused with CONV_BUSY (R323, R324, R331). -/
def execConvreq (dt : Nat) (who : Init) (c : Fin 4) (v : Word) (s : State) : Host.Outcome State Fault Refusal :=
  onMain dt s fun s => s.cmdW who (sarPage c.val) 0xC00 fun n s =>
    let c := c.val
    let x := s.sarC c
    if s.sarMode c = 0 then s
    else if x.req.isSome then s.err (sarPage c) n 0x0101 (R.SAR_CONVREQ c)
    else
      let fb (p : SarPass) : SarPass :=
        if p.fb && decide (s.seqStart c p ≤ s.now4) then { p with due := s.now4 + 200 } else p
      let s := s.setSarC c { x with req := some (s.newReq c s.now4 (v.toNat % 128)), old := x.old.map fb, run := x.run.map fb }
      (s.putBit (R.SAR_CONVRES c) 16 false).sarShow c

/-! ### Triggers (R327 to R330) -/

/-- The run that a trigger at instant `tr` starts. -/
def State.newRun (s : State) (c tr : Nat) (fb : Bool) : SarPass :=
  let start := tr + 16 + 4 * s.fld (R.SAR_TDLY c) 15 0
  let e := s.fld (R.SAR_SEQCFG c) 5 0
  { fb := fb, left := s.fld (R.SAR_SEQCFG c) 23 16, start := start, tr := tr, e := e, due := start + s.sarDelay c e }

/-- A trigger at instant `tr`: accepted, discarded, or ignored before READY and outside SEQUENCE.  One in the clock of a commit
that abandoned the run is accepted (R337). -/
def State.sarFire (s : State) (c tr : Nat) : State :=
  if s.sarMode c ≠ 2 ∨ !s.sarReady c then s
  else
    let x := s.sarC c
    let busy : Bool := match x.run with
      | some p => !p.fb && !(p.stop.any fun t => t.2.2 == some tr)
      | none => false
    if busy then (s.incSat (R.SAR_TRIGOVR c)).raise (sarPage c) 2
    else
      let s := s.setSarC c { x with old := x.run, run := some (s.newRun c tr false), trigTick := tr }
      ((s.incWrap (R.SAR_TRIGCNT c)).putBit (R.SAR_STAT c) 4 false).sarShow c

/-- The timer's present multiple (R328). -/
def State.sarTimer (s : State) (c : Nat) : Nat := s.moduleTime / (max 1 (s.fld (R.SAR_TPER c) 23 0) * 40)

/-- The PWM point of a DO channel in its present period, in quarter ticks, when it has one (R328). -/
def State.pwmPoint (s : State) (k pt : Nat) : Option Nat :=
  let k := s.doLead k
  let g := s.doGrp (k / 8)
  let on := (s.doCh k).onTicks
  if s.doMode k ≠ 1 ∨ !s.doEn (k / 8) ∨ g.perTick = 0 then none
  else if pt = 0 then some (4 * g.perTick)
  else if on = 0 then none
  else if pt = 1 then some (4 * g.perTick + 2 * on)
  else if on < g.per then some (4 * (g.perTick + on))
  else none

/-- What the trigger source of converter `c` has counted to: multiples, strobes, or the tick of the PWM period. -/
def State.sarSeen (s : State) (c : Nat) : Nat :=
  match s.sarTrigSel c with
  | 1 => s.sarTimer c
  | 2 => (s.strobe (s.sarLine c)).count
  | 3 => (s.doGrp (s.sarLine c / 8)).perTick
  | _ => 0

/-- The oldest trigger that the source has given, or gives at the point of the present PWM period, behind the first `seen`:
what `seen` becomes with it, and its instant. -/
def State.sarNext (s : State) (c seen : Nat) : Option (Nat × Nat) :=
  match s.sarTrigSel c with
  | 1 =>
    if seen < s.sarTimer c then
      some (seen + 1, s.quarterOf ((seen + 1) * (s.fld (R.SAR_TPER c) 23 0 * 40)))
    else none
  | 2 => (s.strobeNext (s.sarLine c) seen).map (fun o => (o.count, o.ph / 2))
  | 3 =>
    if s.sarSeen c < seen then none
    else (s.pwmPoint (s.sarLine c) (s.fld (R.SAR_CTRL c) 12 11)).map (fun t => (s.sarSeen c + 1, t))
  | _ => none

/-- A trigger that the converter has not taken, once its clock is past: a commit of the same clock goes first (R337). -/
def State.sarDue (s : State) (c : Nat) : Option (Nat × Nat) :=
  (s.sarNext c (s.sarC c).seen).filter (fun t => decide (t.2 < s.now4))

/-- What a converter that begins to listen now has seen: all but a trigger of this clock or one still to come (R337). -/
def State.sarMark (s : State) (c : Nat) : Nat :=
  let n := s.sarSeen c
  let before (k : Nat) : Bool := match s.sarNext c k with
    | some t => decide (s.now4 ≤ t.2)
    | none => false
  if s.sarTrigSel c = 3 then (if before n then n else n + 1) else if before (n - 1) then n - 1 else n

/-- SAR_TRIGGER: the trigger source of the converter has given a trigger. -/
def execSarTrigger (dt : Nat) (c : Fin 4) (s : State) : Host.Outcome State Fault Refusal :=
  onMain dt s fun s =>
    match s.sarDue c.val with
    | none => s
    | some (n, tr) => (s.setSarC c.val { s.sarC c.val with seen := n }).sarFire c.val tr

/-- SEQCMD_GO: acts as a trigger at the instant of its acceptance. -/
def execSeqcmdGo (dt : Nat) (who : Init) (c : Fin 4) (v : Word) (s : State) : Host.Outcome State Fault Refusal :=
  onMain dt s fun s => s.cmdW who (sarPage c.val) 0xC04 fun n s => s.keyed (sarPage c.val) 0xC04 n 0x5AC0 v fun s =>
    if nf v.toNat 1 0 = 1 then s.sarFire c.val s.now4 else s

/-- The passes end at the current conversion boundary: the conversion in progress is still made, with its entry as it began
in `old` (R326, R336).  `aband` is the instant of the commit that abandons them. -/
def State.sarEnd (s old : State) (c : Nat) (aband : Option Nat) : State :=
  let x := s.sarTrim c
  let cut (p : SarPass) : Option SarPass :=
    if s.seqStart c p ≤ s.now4 then
      some { p with stop := some (p.stop.getD (old.rd (R.SAR_ENTA c p.e), old.fld (R.SAR_SEQCFG c) 13 8, aband)) }
    else none
  let x := match x.old with
    | some p => { x with old := cut p, run := none }
    | none => { x with run := x.run.bind cut }
  (s.setSarC c x).sarShow c

/-- SEQCMD_STOP. -/
def execSeqcmdStop (dt : Nat) (who : Init) (c : Fin 4) (v : Word) (s : State) : Host.Outcome State Fault Refusal :=
  onMain dt s fun s => s.cmdW who (sarPage c.val) 0xC04 fun n s => s.keyed (sarPage c.val) 0xC04 n 0x5AC0 v fun s =>
    if nf v.toNat 1 0 = 2 then s.sarEnd s c.val none else s

/-- SAR_READY: the 100 µs of calibration end; slots are unwritten and a held CONVREQ starts (R323). -/
def execSarReady (dt : Nat) (c : Fin 4) (s : State) : Host.Outcome State Fault Refusal :=
  onMain dt s fun s =>
    let c := c.val
    let x := s.sarC c
    if s.sarMode c = 0 ∨ s.sarReady c ∨ !s.usSince x.calTick 100 then s
    else
      let req := match x.req with
        | some r => some (s.newReq c s.now4 r.2.2)
        | none => none
      let s := (s.setSarC c { x with req := req, filt := [], seen := s.sarMark c }).putBit (R.SAR_STAT c) 2 true
      forN 64 (fun i t => t.putBit (R.SAR_SSTAT c i) 0 false) s

/-- The fall-back time in ticks, if fall-back applies. -/
def State.sarFbto (s : State) (c : Nat) : Option Nat :=
  let t := s.fld (R.SAR_FBTO c) 23 0
  if within 1 3 (s.sarTrigSel c) && t != 0 && s.sarMode c == 2 && s.sarReady c then some (100 * t) else none

/-- A fall-back pass starts by itself. -/
def State.sarSelf (s : State) (c : Nat) : State :=
  (s.setSarC c { s.sarC c with run := some (s.newRun c s.now4 true), fbTick := s.ticks }).sarShow c

/-- SAR_FALLBACK: FBTO without a trigger, and the converter does not run. -/
def execSarFallback (dt : Nat) (c : Fin 4) (s : State) : Host.Outcome State Fault Refusal :=
  onMain dt s fun s =>
    let x := s.sarC c.val
    match s.sarFbto c.val with
    | none => s
    | some t =>
      if s.bit (R.SAR_STAT c.val) 4 || x.run.isSome || x.old.isSome || decide (s.now4 < x.trigTick + 4 * t) then s
      else
        (((s.putBit (R.SAR_STAT c.val) 4 true).incSat (R.SAR_FBCNT c.val)).raise (sarPage c.val) 3).sarSelf c.val

/-- SAR_FALLBACK_PASS: FBTO after the last fall-back pass the next one starts; one that still runs goes on. -/
def execSarFallbackPass (dt : Nat) (c : Fin 4) (s : State) : Host.Outcome State Fault Refusal :=
  onMain dt s fun s =>
    let x := s.sarC c.val
    match s.sarFbto c.val with
    | none => s
    | some t =>
      if !s.bit (R.SAR_STAT c.val) 4 || decide (s.ticks < x.fbTick + t) then s
      else if x.run.isSome then s.setSarC c.val { x with fbTick := x.fbTick + t }
      else s.sarSelf c.val

/-- CHKCLR: SELFCHK clears when the most recent REF conversion is within REFTOL (R335). -/
def execChkclr (dt : Nat) (who : Init) (c : Fin 4) (v : Word) (s : State) : Host.Outcome State Fault Refusal :=
  onMain dt s fun s => s.cmdW who (sarPage c.val) 0xC0C fun _ => onOne v fun s =>
    match (s.sarC c.val).refDev with
    | some d => if d ≤ s.fld (R.SAR_REFTOL c.val) 7 0 then s.putBit (R.SAR_STAT c.val) 5 false else s
    | none => s

/-- SAR_CNTCLR: clear TRIGOVR, ABNCNT and FBCNT. -/
def execSarCntclr (dt : Nat) (who : Init) (c : Fin 4) (v : Word) (s : State) : Host.Outcome State Fault Refusal :=
  onMain dt s fun s => s.cmdW who (sarPage c.val) 0xC08 fun _ => onOne v fun s =>
    s.zero [R.SAR_TRIGOVR c.val, R.SAR_ABNCNT c.val, R.SAR_FBCNT c.val]

/-! ### Commits and resets -/

/-- The check of a filter section: the notch counts while NEN = 1 (assumption 47). -/
def State.fltOk (s : State) (c f : Nat) : Bool :=
  let cfg := s.sh (R.SAR_FLTCFG c f)
  let fs := s.shFld (R.SAR_FLTFS c f) 20 0
  let fc := s.shFld (R.SAR_FLTFC c f) 23 0
  let f0 := s.shFld (R.SAR_FLTNOTCH c f) 15 0
  let bw := s.shFld (R.SAR_FLTNOTCH c f) 31 16
  decide (nf cfg 2 0 ≤ 4) && within 1 2000000 fs &&
  decide (1 ≤ fc) && decide (4 * fc ≤ 10 * fs) &&
  (!nb cfg 3 || (decide (1 ≤ f0) && decide (2 * f0 < fs) && decide (1 ≤ bw) && decide (2 * bw ≤ f0)))

/-- The check of a SAR page. -/
def State.sarCheck (s : State) (p : Nat) : Verdict :=
  let c := (p - 0x088) / 2
  if (p - 0x088) % 2 = 0 then
    let ctl := s.sh (R.SAR_CTRL c)
    let fb := s.shFld (R.SAR_FBTO c) 23 0
    let seq := s.sh (R.SAR_SEQCFG c)
    let fen := (List.range 64).filter (fun i => s.shBit (R.SAR_SLOTCFG c i) 3)
    if c = 3 ∧ s.bit (R.SAR_STAT 3) 6 ∧ nf ctl 1 0 ≠ 0 then .codedAt 0x0102 (0x40000000 + R.SAR_CTRL 3)
    else rangeIf (nf ctl 1 0 != 3 && decide (nf ctl 4 2 ≤ 3) && nf ctl 12 11 != 3 &&
      (nf ctl 4 2 != 3 || decide (nf ctl 10 5 < 32)) && decide (50 ≤ s.shFld (R.SAR_TPER c) 23 0) &&
      decide (nf seq 5 0 ≤ nf seq 13 8) && (fb == 0 || within 10 10000000 fb) &&
      decide (4 ≤ s.shFld (R.SAR_REFTOL c) 7 0) &&
      fen.all (fun i => fen.all (fun j => i == j ||
        s.shFld (R.SAR_SLOTCFG c i) 2 0 != s.shFld (R.SAR_SLOTCFG c j) 2 0)))
  else rangeIf ((List.range 8).all (s.fltOk c))

/-- Do passes run that nothing has ended yet? -/
def SarConv.live (x : SarConv) : Bool := x.run.any (·.stop.isNone) || x.old.any (·.stop.isNone)

/-- Abandon the passes that run, with ABNCNT, once for a commit (R336).  A run whose trigger came in this same clock is not one
of them: it starts anew under the new configuration (R337). -/
def State.sarAbandon (s old : State) (c : Nat) : State :=
  let x := s.sarC c
  if !x.live then s
  else match x.run with
  | some r =>
    if !r.fb && r.tr == s.now4 then
      let t := s.setSarC c { x with run := x.old, old := none }
      let t := if x.old.isSome then (t.sarEnd old c (some s.now4)).incSat (R.SAR_ABNCNT c) else t
      (t.setSarC c { t.sarC c with old := (t.sarC c).run, run := some (t.newRun c r.tr false) }).sarShow c
    else (s.sarEnd old c (some s.now4)).incSat (R.SAR_ABNCNT c)
  | none => (s.sarEnd old c (some s.now4)).incSat (R.SAR_ABNCNT c)

/-- Take MODE into force: outside SEQUENCE a run that has only been triggered and the fall-back end; in OFF a conversion
that has started is the last. -/
def State.sarTake (s : State) (c m : Nat) : State :=
  let old := s.sarMode c
  let begun := match s.reqStart c with
    | some t => decide (t ≤ s.now4)
    | none => false
  let x := s.sarC c
  let x := if m = 2 then x else { x with run := x.run.filter (fun r => r.stop.isSome) }
  let s := if m = 2 then s else s.putBit (R.SAR_STAT c) 4 false
  let s := s.putFld (R.SAR_STAT c) 1 0 m
  if m = 0 then
    ((s.setSarC c { x with req := if begun then x.req else none }).putBit (R.SAR_STAT c) 2 false).sarShow c
  else if old = 0 then s.setSarC c { x with calTick := s.ticks, trigTick := s.now4, seen := s.sarMark c }
  else (s.setSarC c x).sarShow c

/-- What a SAR page does when its shadows became active. -/
def State.sarApplied (s old : State) (p : Nat) : State :=
  let c := (p - 0x088) / 2
  let ch (x : Nat) : Bool := s.rd x != old.rd x
  let ctl := s.rd (R.SAR_CTRL c)
  let octl := old.rd (R.SAR_CTRL c)
  let seqCh := (List.range 64).any (fun e => ch (R.SAR_ENTA c e) || ch (R.SAR_ENTB c e)) ||
    (List.range 8).any (fun f => ch (R.SAR_FLTCFG c f) || ch (R.SAR_FLTFS c f) || ch (R.SAR_FLTFC c f) ||
      ch (R.SAR_FLTNOTCH c f))
  let src := ctl % 2 ^ 13 != octl % 2 ^ 13
  let s := if src || ch (R.SAR_TDLY c) || ch (R.SAR_SEQCFG c) || seqCh then s.sarAbandon old c else s
  let s := if src ∨ ch (R.SAR_TPER c) then
      s.setSarC c { s.sarC c with
        seen := s.sarMark c, trigTick := if ctl % 2 ^ 11 = octl % 2 ^ 11 then (s.sarC c).trigTick else s.now4 }
    else s
  let sec (t : State) (i : Nat) : List Nat :=
    let f := t.fld (R.SAR_SLOTCFG c i) 2 0
    [t.rd (R.SAR_SLOTCFG c i), t.rd (R.SAR_FLTCFG c f), t.rd (R.SAR_FLTFS c f), t.rd (R.SAR_FLTFC c f),
      t.rd (R.SAR_FLTNOTCH c f)]
  let s := s.setSarC c { s.sarC c with filt := (s.sarC c).filt.filter (fun e => sec s e.1 == sec old e.1) }
  let m := nf ctl 1 0
  let s := if s.sarMode c = m ∨ (c = 3 ∧ s.bit (R.SAR_STAT 3) 6) then s else s.sarTake c m
  if within 1 3 (s.sarTrigSel c) && s.fld (R.SAR_FBTO c) 23 0 != 0 then s else s.putBit (R.SAR_STAT c) 4 false

/-- LOOP takes SAR3, or releases it (R321). -/
def State.sarHold (s : State) (on : Bool) : State :=
  let s := if on && s.sarMode 3 != 0 then (s.sarAbandon s 3).sarTake 3 0 else s
  s.putBit (R.SAR_STAT 3) 6 on

/-- Module time was stepped: the timers resume at the first multiple that follows (R328). -/
def State.sarStep (s : State) : State :=
  forN 4 (fun c t => if t.sarTrigSel c = 1 then t.setSarC c { t.sarC c with seen := t.sarSeen c } else t) s

/-- A reset of converter `c`. -/
def State.sarReset (s : State) (c : Nat) : State := s.setSarC c {}

end Sys2Proof.Machine
end

