-- ==== Sys2Proof/Machine/Loop.lean ====
section
/-! DEFINITION. LOOP: the scan, inputs with their limiters, outputs with compliance, open-loop and miswire detection
(R390 to R412). -/
namespace Sys2Proof.Machine

def State.li (s : State) (n : Nat) : LoopIn := tabGet {} s.loop.li n
def State.setLi (s : State) (n : Nat) (x : LoopIn) : State :=
  { s with loop := { s.loop with li := tabSet {} s.loop.li n x } }
def State.lo (s : State) (c : Nat) : LoopOut := tabGet {} s.loop.lo c
def State.setLo (s : State) (c : Nat) (x : LoopOut) : State :=
  { s with loop := { s.loop with lo := tabSet {} s.loop.lo c x } }

def State.loopOn (s : State) : Bool := s.bit R.LOOP_CTRL 0
def State.loopGated (s : State) : Bool := s.bit R.LOOP_STAT 2
def State.liOn (s : State) (n : Nat) : Bool := s.bit (R.LOOP_LICFG n) 0
def State.loOn (s : State) (c : Nat) : Bool := s.bit (R.LOOP_LOCFG c) 0
def State.loSet (s : State) (c : Nat) : Nat := s.fld (R.LOOP_LOSET c) 15 0

/-- The setpoint that drives output `c`, in µA: 0 while LOOP or the output is off, while it is gated, miswired, or waits
for a commit (R398, R402, R403). -/
def State.loDrive (s : State) (c : Nat) : Nat :=
  if s.loopOn && s.loOn c && !s.loopGated && !s.bit (R.LOOP_LOSTAT c) 3 && !(s.lo c).await &&
      !(s.lo c).miswait then s.loSet c else 0

/-- The scan period in module-time units. -/
def State.scanPer (s : State) : Nat := max 1 (s.fld R.LOOP_SCANPER 9 0) * 40000

/-- A current in µA from four codes (R400). -/
def loopMicro (codes : List Int) : Int := nearestInt 7 ((meanEven codes : Int) * 25000 / (32768 : Nat))

/-! ### Inputs -/

/-- Set the status bits LOW, HIGH and BREAK from the filtered value; each entry counts (R392). -/
def State.liStatus (s : State) (n : Nat) (y : Int) : State :=
  let lim := s.rd (R.LOOP_LITH n)
  let set (b : Nat) (c : Bool) (t : State) : State :=
    if c && !t.bit (R.LOOP_LISTAT n) b then
      ((t.putBit (R.LOOP_LISTAT n) b true).incSatF (R.LOOP_FCNT n) 15 0).raise 0x09D 0
    else t.putBit (R.LOOP_LISTAT n) b c
  set 3 (decide (y < 500)) (set 2 (decide ((nf lim 31 16 : Int) < y)) (set 1 (decide (y < (nf lim 15 0 : Int))) s))

/-- A scanned value of input `n` (R400). -/
def State.liScan (s : State) (n : Nat) (codes : List Int) (stamp : Nat) : State :=
  let x := s.li n
  let s := if s.bit (R.LOOP_LISTAT n) 4 && !x.open_ && decide (x.closed + 100000 ≤ s.ticks + 1) then
      s.putBit (R.LOOP_LISTAT n) 4 false
    else s
  if s.bit (R.LOOP_LISTAT n) 4 then s
  else
    let raw := loopMicro codes
    let tau := s.fld (R.LOOP_LICFG n) 11 4
    let y : Rat := match x.y with
      | some y => if tau = 0 then (raw : Rat)
        else fxQ (fxOf (y + ((raw : Rat) - y) * (1 - expQ (-((s.fld R.LOOP_SCANPER 9 0 : Nat) / (100 * tau : Nat))))))
      | none => (raw : Rat)
    let v := clampInt (-32768) 32767 (nearestInt 8 y)
    let live := s.loopOn && s.liOn n
    let s := s.setLi n { x with y := if live then some y else none }
    let s := s.wr (R.LOOP_LIVAL n) (toBits 16 v + toBits 16 raw * 2 ^ 16)
    let s := (s.wr64 (R.LOOP_LIST n) stamp).putBit (R.LOOP_LISTAT n) 0 live
    (s.incWrapF (R.LOOP_LISTAT n) 15 8).liStatus n v

/-! ### Outputs -/

/-- The start of a spell: it goes on while its condition holds in every included scan. -/
def spell (c : Bool) (start tick : Nat) : Nat := if !c then 0 else if start = 0 then tick + 1 else start

/-- Has a spell lasted `n` ticks at the last included scan? -/
def State.spellOver (s : State) (c start n : Nat) (strict : Bool) : Bool :=
  s.loopOn && !s.loopGated && s.loOn c && start != 0 &&
    decide (start + n + (if strict then 1 else 0) ≤ (s.lo c).scan + 1)

/-- Set a fault bit of an output that was not set: counted, then its event. -/
def State.loFault (s : State) (c b ev : Nat) : State :=
  if s.bit (R.LOOP_LOSTAT c) b then s
  else ((s.putBit (R.LOOP_LOSTAT c) b true).incSatF (R.LOOP_FCNT (8 + c)) 15 0).raise 0x09E ev

/-- A scanned value of output `c` in a scan that began at tick `t0` (R395 to R397). -/
def State.loScan (s : State) (c t0 : Nat) (codes : List Int) (stamp : Nat) : State :=
  let x := s.lo c
  let m := loopMicro codes
  let d := (s.loSet c : Int) - m
  let s := s.wr (R.LOOP_LORB c) (toBits 16 m + toBits 16 d * 2 ^ 16)
  let s := (s.wr64 (R.LOOP_LOST c) stamp).incWrapF (R.LOOP_LOSTAT c) 15 8
  let live := s.loopOn && s.loOn c
  let s := (s.putBit (R.LOOP_LOSTAT c) 0 (live && !s.bit (R.LOOP_LOSTAT c) 3)).setLo c { x with scanned := live }
  let settling := x.setTick != 0 && decide (t0 + 1 < x.setTick + 100000)
  let s := s.putBit (R.LOOP_LOSTAT c) 5 settling
  if settling || s.loopGated || !live then s
  else
    let above := decide ((s.loSet c : Int) + 500 < m)
    let s := s.setLo c { s.lo c with
      compl := spell (decide (200 < d)) x.compl t0
      opn := spell (s.bit (R.LOOP_LOCFG c) 1 && decide (1000 ≤ s.loSet c) && decide (m < 200)) x.opn t0
      rbh := spell above x.rbh t0, scan := t0 }
    let s := if d ≤ 150 then s.putBit (R.LOOP_LOSTAT c) 1 false else s
    let s := if 200 ≤ m then s.putBit (R.LOOP_LOSTAT c) 2 false else s
    let s := if above then s else s.putBit (R.LOOP_LOSTAT c) 4 false
    let s := if s.spellOver c (s.lo c).compl 1000000 true then s.loFault c 1 0 else s
    let s := if s.spellOver c (s.lo c).opn 5000000 false then s.loFault c 2 1 else s
    if s.spellOver c (s.lo c).rbh 1000000 false then s.loFault c 4 3 else s

/-- COMPL: the deficit has exceeded 200 µA in every included scan for more than 10 ms (R395). -/
def execCompl (dt : Nat) (c : Fin 8) (s : State) : Host.Outcome State Fault Refusal :=
  onMain dt s fun s => if s.spellOver c.val (s.lo c.val).compl 1000000 true then s.loFault c.val 1 0 else s

/-- LOOP_OPEN: with a setpoint of at least 1,000 µA the current has stayed below 200 µA for 50 ms (R396). -/
def execLoopOpen (dt : Nat) (c : Fin 8) (s : State) : Host.Outcome State Fault Refusal :=
  onMain dt s fun s => if s.spellOver c.val (s.lo c.val).opn 5000000 false then s.loFault c.val 2 1 else s

/-- RBHIGH: the current has exceeded the setpoint by more than 500 µA for 10 ms (R397). -/
def execRbhigh (dt : Nat) (c : Fin 8) (s : State) : Host.Outcome State Fault Refusal :=
  onMain dt s fun s => if s.spellOver c.val (s.lo c.val).rbh 1000000 false then s.loFault c.val 4 3 else s

/-! ### The scan (R399) -/

/-- The enabled channels in scan order: 0 to 7 inputs, 8 to 15 outputs. -/
def State.scanList (s : State) : List Nat :=
  (List.range 16).filter (fun k => if k < 8 then s.liOn k else s.loOn (k - 8))

/-- VLMEAS, VLMIN and VLOK (R390). -/
def State.loopRail (s : State) (vl : Nat) : State :=
  let s := (s.wr R.LOOP_VLMEAS vl).wr R.LOOP_VLMIN (min vl (s.rd R.LOOP_VLMIN))
  let good := decide (18000 ≤ vl)
  if s.bit R.LOOP_STAT 1 = good then s else (s.putBit R.LOOP_STAT 1 good).raise 0x09C 0

/-- A LOOP item of CYC source kind 0x05 (R401). -/
def State.loopItem (s : State) (i len : Nat) : List Nat :=
  (if i < 8 then
    bytesOf 2 (s.rd (R.LOOP_LIVAL i)) ++ bytesOf 2 (s.rd (R.LOOP_LISTAT i)) ++ bytesOf 8 (s.rd64 (R.LOOP_LIST i))
  else
    let c := i - 8
    bytesOf 2 (s.rd (R.LOOP_LORB c)) ++ bytesOf 2 (s.rd (R.LOOP_LOSTAT c)) ++ bytesOf 8 (s.rd64 (R.LOOP_LOST c))).take len

/-- A channel as CYC source kind 0x05: data, quality and stamp (R401). -/
def State.loopSrc (s : State) (e : MapEnt) : List Nat × Nat × Nat :=
  if e.item < 8 then
    let st := s.rd (R.LOOP_LISTAT e.item)
    (s.loopItem e.item e.len, qual (nb st 0 && !nb st 4) (nb st 1 || nb st 2) false (nb st 3 || nb st 4),
      s.rd64 (R.LOOP_LIST e.item))
  else
    let st := s.rd (R.LOOP_LOSTAT (e.item - 8))
    (s.loopItem e.item e.len, qual (nb st 0 && !nb st 3) (nb st 1) false (nb st 2 || nb st 3 || nb st 4),
      s.rd64 (R.LOOP_LOST (e.item - 8)))

/-- The scan that runs: one of which channels are still to come, until a whole scan period after its instant, or the one of the
present multiple.  A multiple that falls into a scan still running makes none (DESIGN CHOICE, assumption 147). -/
def State.loopRun (s : State) : Option LoopRun :=
  let no := s.moduleTime / s.scanPer
  let tsc := no * s.scanPer
  let t0 := s.ticks - (s.moduleTime - tsc) / 40
  match s.loop.run.filter (fun r => decide (s.ticks < r.t0 + 10000)) with
  | some r => some r
  | none =>
    if s.loopOn && no != s.loop.scanNo && decide (s.loop.endTick ≤ t0) then
      some { tsc := tsc, t0 := t0, chans := s.scanList }
    else none

/-- The scan of `old` that a commit finds running goes on with its channels. -/
def State.loopFreeze (s old : State) : State :=
  match old.loopRun with
  | some r =>
    if r.chans.length ≤ r.done ∨ r.t0 + 350 * r.chans.length + 10 ≤ s.ticks ∨ s.loop.run.any (fun q => q.t0 == r.t0) then s
    else { s with loop := { s.loop with
      run := some r, scanNo := old.moduleTime / old.scanPer } }
  | none => s

/-- CTRL.EN became 0: the conversion in progress completes and no further channel is converted (R404). -/
def State.loopCut (s : State) : State :=
  if s.loopOn then s
  else { s with loop := { s.loop with
    run := s.loop.run.map (fun r => { r with chans := r.chans.take ((s.ticks - r.t0) / 350 + 1) }) } }

/-- LOOP_SCAN: a scan converts the enabled channels; those whose step 4 has come become visible, each by 3.6 µs after its step 1.
`x` are the four codes of each of the 16 channels and `vl` the loop rail in mV. -/
def execLoopScan (dt : Nat) (x : List (List (BitVec 16))) (vl : BitVec 16) (s : State) :
    Host.Outcome State Fault Refusal :=
  guarded (Instr.loopScan dt x vl).wf dt s (onMain dt s fun s =>
    match s.loopRun with
    | none => s
    | some r =>
      let n := if s.ticks < r.t0 + 360 then 0 else min r.chans.length ((s.ticks - r.t0 - 360) / 350 + 1)
      if n ≤ r.done ∧ r.chans ≠ [] then s
      else
        let s := if r.done = 0 then
            ({ s with loop := { s.loop with
              scanNo := if s.loop.run = none then s.moduleTime / s.scanPer else s.loop.scanNo } }.incWrap
                R.LOOP_SCANCNT).loopRail vl.toNat
          else s
        let s := { s with loop := { s.loop with
          run := if n < r.chans.length then some { r with done := n } else none, endTick := s.ticks } }
        (List.range n).foldl (fun t j =>
          if j < r.done then t
          else
            let k := r.chans.getD j 0
            let codes := (x.getD k []).map BitVec.toInt
            let stamp := r.tsc + 14000 * j + 12800
            (if k < 8 then t.liScan k codes stamp else t.loScan (k - 8) r.t0 codes stamp).srcReport
              (fun e => e.kind == 0x05 && e.item == k) State.loopSrc) s)

/-! ### Protection -/

/-- PROT: the comparator has tripped; the limiter opens (R393). -/
def execProt (dt : Nat) (n : Fin 8) (s : State) : Host.Outcome State Fault Refusal :=
  onMain dt s fun s =>
    let x := s.li n.val
    if x.open_ then s
    else
      let s := s.setLi n.val { x with open_ := true, openTick := s.ticks }
      let s := (s.putBit (R.LOOP_LISTAT n.val) 4 true).putBit (R.LOOP_LISTAT n.val) 0 false
      (s.incSatF (R.LOOP_FCNT n.val) 31 16).raise 0x09D 1

/-- LIMITER_RECLOSE: 1 s after opening the limiter closes again (R393). -/
def execLimiterReclose (dt : Nat) (n : Fin 8) (s : State) : Host.Outcome State Fault Refusal :=
  onMain dt s fun s =>
    let x := s.li n.val
    if x.open_ && s.secSince x.openTick 1 then s.setLi n.val { x with open_ := false, closed := s.ticks + 1 } else s

/-- MISWIRE: a terminal stands more than 0.5 V above VL for 100 µs; the stage is off until a commit after FLTCLR
(R398). -/
def execMiswire (dt : Nat) (c : Fin 8) (s : State) : Host.Outcome State Fault Refusal :=
  onMain dt s fun s =>
    let s := s.setLo c.val { s.lo c.val with miswait := true }
    if s.bit (R.LOOP_LOSTAT c.val) 3 then s
    else
      let s := (s.putBit (R.LOOP_LOSTAT c.val) 3 true).putBit (R.LOOP_LOSTAT c.val) 0 false
      (s.incSatF (R.LOOP_FCNT (8 + c.val)) 31 16).raise 0x09E 2

/-- LOOP_FLTCLR: MISWIRE clears where `below` says that the terminal is back below VL; else MISWIRED (R398).  It acts before a
commit of the same tick, which then re-enables the output (R404). -/
def execLoopFltclr (dt : Nat) (who : Init) (v : Word) (below : Byte) (s : State) : Host.Outcome State Fault Refusal :=
  onMain dt s fun s => s.cmdW who 0x09C 0xC00 fun n s => s.keyed 0x09C 0xC00 n 0x1C9E v fun s =>
    forN 8 (fun c t =>
      if !nb v.toNat c || !t.bit (R.LOOP_LOSTAT c) 3 then t
      else if nb below.toNat c then
        let x := t.lo c
        ((t.putBit (R.LOOP_LOSTAT c) 3 false).putBit (R.LOOP_LOSTAT c) 0 x.scanned).setLo c
          { x with miswait := x.miswait && x.cmtTick != t.ticks + 1 }
      else t.err 0x09C n 0x0102 R.LOOP_FLTCLR) s

/-- LOOP_CNTCLR: clear VLMIN and the counts of page 0x09F; the next scan gives VLMIN its first value. -/
def execLoopCntclr (dt : Nat) (who : Init) (v : Word) (s : State) : Host.Outcome State Fault Refusal :=
  onMain dt s fun s => s.cmdW who 0x09C 0xC04 fun _ => onOne v fun s =>
    (s.zero ((List.range 16).map (fun k => R.LOOP_FCNT k))).wr R.LOOP_VLMIN 0xFFFF

/-! ### Commits, gates and views -/

/-- The check of a LOOP page. -/
def State.loopCheck (s : State) (p : Nat) : Verdict :=
  if p = 0x09C then rangeIf (within 10 500 (s.shFld R.LOOP_SCANPER 9 0))
  else if p = 0x09D then rangeIf ((List.range 8).all (fun n =>
    let lim := s.sh (R.LOOP_LITH n)
    decide (nf lim 15 0 < nf lim 31 16) && decide (nf lim 31 16 ≤ 25000)))
  else if p = 0x09E then rangeIf ((List.range 8).all (fun c =>
    decide (s.shFld (R.LOOP_LOSET c) 15 0 ≤ 24000) && decide (s.shFld (R.LOOP_LOSAFE c) 15 0 ≤ 24000)))
  else .ok

/-- A setpoint of output `c` takes effect: a change restarts the spell of COMPL alone (R395, R404), and the wait after a gain of
primacy ends (R403).  A cycle commit or a commit of the page, not a safe commit, ends the wait after MISWIRE (R398). -/
def State.loTake (s : State) (c v : Nat) (safe : Bool) : State :=
  let x := s.lo c
  let ch := s.loSet c != v
  let x := { x with await := false }
  let x := if safe then x else { x with miswait := x.miswait && s.bit (R.LOOP_LOSTAT c) 3, cmtTick := s.ticks + 1 }
  let x := if ch then { x with setTick := s.ticks + 1, compl := 0 } else x
  let s := if ch then s.putBit (R.LOOP_LOSTAT c) 5 true else s
  (s.wr (R.LOOP_LOSET c) v).setLo c x
def State.loCommit (s : State) (c v : Nat) : State := s.loTake c v false

/-- What a LOOP page does when its shadows became active. -/
def State.loopApplied (s old : State) (p : Nat) : State :=
  let s := s.loopFreeze old
  if p = 0x09C then
    if s.loopOn = old.loopOn then
      if s.rd R.LOOP_SCANPER = old.rd R.LOOP_SCANPER then s
      else { s with loop := { s.loop with scanNo := s.moduleTime / s.scanPer } }
    else
      let s := (s.putBit R.LOOP_STAT 0 s.loopOn).sarHold s.loopOn
      let s := { s with loop := { s.loop with scanNo := s.moduleTime / s.scanPer } }.loopCut
      if s.loopOn then s
      else forN 8 (fun k t =>
        let t := (t.putBit (R.LOOP_LISTAT k) 0 false).putBit (R.LOOP_LOSTAT k) 0 false
        (t.setLi k { t.li k with y := none }).setLo k { t.lo k with compl := 0, opn := 0, rbh := 0, scanned := false }) s
  else if p = 0x09D then
    forN 8 (fun n t => if t.liOn n then t
      else (t.setLi n { t.li n with y := none }).putBit (R.LOOP_LISTAT n) 0 false) s
  else if p = 0x09E then
    forN 8 (fun c t =>
      let v := t.loSet c
      let t := t.wr (R.LOOP_LOSET c) (old.loSet c)
      let t := t.loCommit c v
      if t.loOn c then t
      else (t.setLo c { t.lo c with compl := 0, opn := 0, rbh := 0, scanned := false }).putBit (R.LOOP_LOSTAT c) 0 false) s
  else s

/-- The safe value of output `c` takes effect (R402). -/
def State.loSafe (s : State) (c : Nat) : State := s.loTake c (s.fld (R.LOOP_LOSAFE c) 15 0) true

/-- The gates of primacy open or close (R403). -/
def State.loopGate (s : State) (open_ : Bool) : State :=
  let s := (s.putBit R.LOOP_STAT 2 (!open_)).raiseIf (s.bit R.LOOP_STAT 2 == open_) 0x09C 1
  forN 8 (fun c t =>
    let x := t.lo c
    if open_ then t.setLo c { x with await := true } else t.setLo c { x with compl := 0, opn := 0, rbh := 0 }) s

/-- Module time was stepped: the scan resumes at the next multiple (R399). -/
def State.loopStep (s : State) : State := { s with loop := { s.loop with scanNo := s.moduleTime / s.scanPer } }

end Sys2Proof.Machine
end

