-- ==== Sys2Proof/Machine/Can.lean ====
section
/-! DEFINITION. CAN: controller states, receiving, transmitting, wake-up and time-triggered operation (R413 to R446). -/
namespace Sys2Proof.Machine

def State.canC (s : State) (c : Nat) : CanCtl := tabGet {} s.can c
def State.setCan (s : State) (c : Nat) (x : CanCtl) : State := { s with can := tabSet {} s.can c x }
def State.canTx (s : State) (c k : Nat) : CanTx := tabGet {} (s.canC c).tx k
def State.setTx (s : State) (c k : Nat) (x : CanTx) : State :=
  s.setCan c { s.canC c with tx := tabSet {} (s.canC c).tx k x }
def State.setTt (s : State) (c : Nat) (x : CanTt) : State := s.setCan c { s.canC c with tt := x }

/-- The control page of controller `c`. -/
abbrev canPage (c : Nat) : Nat := 0x0A0 + 4 * c

/-- STATE codes of R443. -/
abbrev csOff : Nat := 0
abbrev csInteg : Nat := 1
abbrev csActive : Nat := 2
abbrev csPassive : Nat := 3
abbrev csBusoff : Nat := 4
abbrev csSleep : Nat := 5
abbrev csListen : Nat := 6

def State.canState (s : State) (c : Nat) : Nat := s.fld (R.CAN_STAT c) 2 0
def State.canOpen (s : State) (c : Nat) : Bool := s.canState c == csActive || s.canState c == csPassive
def State.canTtMode (s : State) (c : Nat) : Nat := s.fld (R.CAN_CTRL c) 7 6
def State.canEv (s : State) (c b : Nat) : State := s.raise (canPage c) b
def State.txTrig (s : State) (c k : Nat) : Nat := s.fld (R.CAN_TXCFG c k) 3 1
def State.txMapped (s : State) (c k : Nat) : Bool := s.bit (R.CAN_TXSTAT c k) 4

/-- Is object `k` enabled: by TXkCFG, and while it is mapped by the last commit that named it (R427, R437)? -/
def State.txOn (s : State) (c k : Nat) : Bool :=
  s.bit (R.CAN_TXCFG c k) 0 && !(s.txMapped c k && (s.canTx c k).off)

/-! ### Descriptors and objects (R417 to R420) -/

/-- The three words of descriptor `d`, as a commit of the pages `g` would leave them. -/
def State.rxd (s : State) (g : List Nat) (c d : Nat) : Nat × Nat × Nat :=
  if d < 192 then (s.eff g (R.CAN_RXDA c d), s.eff g (R.CAN_RXDAMASK c d), s.eff g (R.CAN_RXDACFG c d))
  else (s.eff g (R.CAN_RXDB c (d - 192)), s.eff g (R.CAN_RXDBMASK c (d - 192)), s.eff g (R.CAN_RXDBCFG c (d - 192)))

/-- The enabled descriptors: entry n is the n-th of them. -/
def State.rxEntries (s : State) (g : List Nat) (c : Nat) : List Nat :=
  (List.range 384).filter (fun d => nb (s.rxd g c d).1 30)

/-- DSIZE in bytes. -/
def dsize (cfg : Nat) : Nat := [8, 12, 16, 20, 24, 32, 48, 64].getD (nf cfg 2 0) 64

/-- RXMAP word `k`. -/
def State.rxmap (s : State) (c k : Nat) : Nat :=
  let l := s.rxEntries [] c
  l.getD (2 * k) 0 + l.getD (2 * k + 1) 0 * 65536

def State.canObj (s : State) (c d : Nat) : CanObj := tabGet {} (s.canC c).obj d
def State.setObj (s : State) (c d : Nat) (x : CanObj) : State :=
  s.setCan c { s.canC c with obj := tabSet {} (s.canC c).obj d x }

/-- The bits NEW, LOST and STALE of object `n`. -/
def State.objNew (s : State) (c n : Nat) : Bool := s.bit (R.CAN_NEW c (n / 32)) (n % 32)
def State.objLost (s : State) (c n : Nat) : Bool := s.bit (R.CAN_LOST c (n / 32)) (n % 32)
def State.objStale (s : State) (c n : Nat) : Bool := s.bit (R.CAN_STALE c (n / 32)) (n % 32)
def State.setNew (s : State) (c n : Nat) (b : Bool) : State := s.putBit (R.CAN_NEW c (n / 32)) (n % 32) b
def State.setLost (s : State) (c n : Nat) (b : Bool) : State := s.putBit (R.CAN_LOST c (n / 32)) (n % 32) b
def State.setStale (s : State) (c n : Nat) (b : Bool) : State := s.putBit (R.CAN_STALE c (n / 32)) (n % 32) b

/-- The 96 bytes of an object or entry (R420). -/
def CanObj.image (o : CanObj) (flags entry : Nat) : List Nat :=
  bytesOf 4 o.w0 ++
  bytesOf 4 (o.dlc + b2n o.esi * 16 + flags * 32 + b2n o.valid * 256 + o.age * 2 ^ 16 + o.upd * 2 ^ 24) ++
  bytesOf 8 o.sof ++ bytesOf 8 o.stamp ++ bytesOf 4 entry ++ bytesOf 4 0 ++
  (List.range 64).map (fun i => o.data.getD i 0)

/-- Receive object `n` as the message RAM shows it. -/
def State.objImage (s : State) (c n : Nat) : List Nat :=
  match (s.rxEntries [] c)[n]? with
  | some d => (s.canObj c d).image (b2n (s.objNew c n) + b2n (s.objLost c n) * 2 + b2n (s.objStale c n) * 4) 0
  | none => ({} : CanObj).image 0 0

/-- Byte `o` of the message RAM (R446). -/
def State.canRam (s : State) (c o : Nat) : Nat :=
  if o < 0x6000 then (s.objImage c (o / 96)).getD (o % 96) 0
  else if o < 0x7000 then (if o < 0x6800 then (memGet (s.canC c).ram (o - 0x6000)).toNat else 0)
  else if o < 0xA000 then
    let q := tabGet ({} : CanQ) (s.canC c).ring ((o - 0x7000) / 96)
    (q.obj.image 0 q.entry).getD ((o - 0x7000) % 96) 0
  else 0

/-- A write of the message RAM: only staging buffers take it (R446). -/
def State.canRamPut (s : State) (c o : Nat) (bs : List Nat) : State :=
  if 0x6000 ≤ o ∧ o + bs.length ≤ 0x6800 then
    s.setCan c { s.canC c with ram := memPut (s.canC c).ram (o - 0x6000) bs }
  else s

/-! ### Receiving -/

/-- The first word of an object or entry. -/
def canW0 (f : CanFrame) : Nat := f.id.toNat + b2n f.ide * 2 ^ 29 + b2n f.fdf * 2 ^ 30 + b2n f.brs * 2 ^ 31

/-- The queue: entries held, and HEAD. -/
def State.rxqCount (s : State) (c : Nat) : Nat := s.fld (R.CAN_RXQCNT c) 7 0
def State.rxqHead (s : State) (c : Nat) : Nat := s.fld (R.CAN_RXQCNT c) 22 16

/-- Add an entry, or drop the newest frame (R421). -/
def State.rxqAdd (s : State) (c : Nat) (q : CanQ) : State :=
  let n := s.rxqCount c
  if 128 ≤ n then (s.incSat (R.CAN_QOVR c)).canEv c 5
  else
    let i := (s.rxqHead c + n) % 128
    let s := s.setCan c { s.canC c with ring := tabSet {} (s.canC c).ring i q }
    (s.putFld (R.CAN_RXQCNT c) 7 0 (n + 1)).canEv c 1

/-- Release the oldest entries. -/
def State.rxqFree (s : State) (c k : Nat) : State :=
  (s.putFld (R.CAN_RXQCNT c) 22 16 ((s.rxqHead c + k) % 128)).putFld (R.CAN_RXQCNT c) 7 0 (s.rxqCount c - k)

/-- CYC source kind 0x08. -/
def State.canItem (s : State) (c n len : Nat) : List Nat :=
  let b := s.objImage c n
  (b.take 16 ++ b.drop 32).take len

/-- A receive object as CYC source: data, quality and stamp. -/
def State.canSrc (s : State) (e : MapEnt) : List Nat × Nat × Nat :=
  let off := s.canState e.inst == csBusoff
  match (s.rxEntries [] e.inst)[e.item]? with
  | some d =>
    (s.canItem e.inst e.item e.len,
      qual (s.canObj e.inst d).valid false false (off || s.objStale e.inst e.item), (s.canObj e.inst d).stamp)
  | none => (s.canItem e.inst e.item e.len, qual false false false off, 0)

/-- Update object `n` of descriptor `d` (R419, R436). -/
def State.objUpdate (s : State) (c n d : Nat) (f : CanFrame) (sof stamp : Nat) : State :=
  let cfg := (s.rxd [] c d).2.2
  if dsize cfg < f.data.length then (s.incSat (R.CAN_DLCOVER c)).canEv c 5
  else
    let o := s.canObj c d
    let chk := nb cfg 4
    let age := if chk then (match f.data.getLast? with | some b => b.toNat | none => 0) else 0
    let lost := s.objNew c n
    let s := s.setCan c { s.canC c with updates := (s.canC c).updates + 1 }
    let s := s.setObj c d
      { w0 := canW0 f, dlc := f.dlc.val, esi := f.esi, valid := true, age := age, upd := (o.upd + 1) % 256, sof := sof
        stamp := stamp, data := f.data.map BitVec.toNat, total := o.total + 1, num := (s.canC c).updates }
    let s := (s.setNew c n true).setStale c n (chk && decide (nf cfg 15 8 < age))
    let s := if lost then (s.setLost c n true).canEv c 5 else s
    (if nb cfg 3 then s.canEv c 0 else s).srcReport (fun e => e.kind == 0x08 && e.inst == c && e.item == n) State.canSrc

/-- Filter a valid frame with its two stamps (R416, R418). -/
def State.canFilter (s : State) (c : Nat) (f : CanFrame) (sof stamp : Nat) : State :=
  let l := s.rxEntries [] c
  let o : CanObj := { w0 := canW0 f, dlc := f.dlc.val, esi := f.esi, valid := true, sof := sof, stamp := stamp
                      data := f.data.map BitVec.toNat }
  match (List.range l.length).find? (fun n =>
    let w := s.rxd [] c (l.getD n 0)
    nb w.1 29 == f.ide && (nf w.1 28 0 &&& w.2.1) == (f.id.toNat &&& w.2.1)) with
  | some n =>
    let d := l.getD n 0
    if nb (s.rxd [] c d).1 31 then s.rxqAdd c { obj := o, entry := n } else s.objUpdate c n d f sof stamp
  | none =>
    if s.bit (R.CAN_CTRL c) 4 then s.rxqAdd c { obj := o, entry := 0x1FF } else s.incSat (R.CAN_NOMATCH c)

/-! ### Time-triggered state (R433, R434) -/

def State.ttErr (s : State) (c : Nat) : Nat := s.fld (R.CAN_STAT c) 5 4
def State.ttSync (s : State) (c : Nat) : Nat := s.fld (R.CAN_STAT c) 7 6

/-- Change TTERR or TTSYNC; every change raises the TT event. -/
def State.setTtErr (s : State) (c e : Nat) : State :=
  if s.ttErr c = e then s else (s.putFld (R.CAN_STAT c) 5 4 e).canEv c 6
def State.setTtSync (s : State) (c e : Nat) : State :=
  if s.ttSync c = e then s else (s.putFld (R.CAN_STAT c) 7 6 e).canEv c 6

/-- TTERR shows the highest level that stands (R434). -/
def State.ttShow (s : State) (c : Nat) : State :=
  let tt := (s.canC c).tt
  s.setTtErr c (if tt.high then 3 else if tt.mid then 2 else b2n tt.low)

/-- Enter an error level. -/
def State.ttRaise (s : State) (c e : Nat) : State :=
  let tt := (s.canC c).tt
  (s.setTt c (match e with
    | 1 => { tt with low := true }
    | 2 => { tt with mid := true, good := 0 }
    | _ => { tt with high := true })).ttShow c

/-- An S1 condition. -/
def State.ttS1 (s : State) (c : Nat) : State :=
  ((s.setTt c { (s.canC c).tt with s1 := true }).incSat (R.CAN_TTSCHED c)).ttRaise c 1

/-- The controller leaves ACTIVE and ERRPASSIVE, or TTMODE becomes 0: TTSYNC is NONE. -/
def State.ttNone (s : State) (c : Nat) : State :=
  ((s.setTt c { (s.canC c).tt with watch := s.moduleTime, missed := 0, good := 0, s1 := true, fired := [] }).setTtSync c
    0).putBit (R.CAN_STAT c) 8 false

/-! ### Error counters and states (R413) -/

def State.canTec (s : State) (c : Nat) : Nat := s.fld (R.CAN_ERRCNT c) 7 0
def State.canRec (s : State) (c : Nat) : Nat := s.fld (R.CAN_ERRCNT c) 15 8

/-- Change STATE; leaving ACTIVE and ERRPASSIVE ends TT synchronisation. -/
def State.canGo (s : State) (c st : Nat) : State :=
  let old := s.canState c
  if old = st then s
  else
    let s := s.putFld (R.CAN_STAT c) 2 0 st
    let s := if old = csBusoff then s.setCan c { s.canC c with recover := false } else s
    let s := if old = csPassive ∨ old = csBusoff ∨ st = csPassive ∨ st = csBusoff then s.canEv c 4 else s
    let s := if old = csBusoff ∨ st = csBusoff then s.srcReport (fun e => e.kind == 0x08 && e.inst == c) State.canSrc else s
    if (old = csActive ∨ old = csPassive) ∧ st ≠ csActive ∧ st ≠ csPassive then s.ttNone c else s

/-- End a request: LAST, and TXEND where it was not plainly transmitted (R425, R426). -/
def State.txEnd (s : State) (c k last : Nat) (late : Bool) : State :=
  let x := s.canTx c k
  let s := s.setTx c k { x with
    want := x.again, again := false, sending := false, cancel := false, excl := false, win := none, errs := 0 }
  let s := (s.putFld (R.CAN_TXSTAT c k) 1 0 last).putBit (R.CAN_TXSTAT c k) 2 x.again
  let s := if late then s.putBit (R.CAN_TXSTAT c k) 3 true else s
  if last ≠ 1 ∨ late then s.canEv c 3 else s

/-- The objects with a request or an attempt. -/
def State.txLive (s : State) (c : Nat) : List Nat :=
  (List.range 32).filter (fun k => (s.canTx c k).want || (s.canTx c k).sending)

/-- End every pending request with a result. -/
def State.txEndAll (s : State) (c last : Nat) : State :=
  (forL (s.txLive c) (fun k t => (t.setTx c k { t.canTx c k with again := false }).txEnd c k last false) s).putBit
    (R.CAN_STAT c) 9 false

/-- Put the error counters where they are and follow the fault confinement. -/
def State.canCounters (s : State) (c tec rec_ : Nat) : State :=
  let s := s.wr (R.CAN_ERRCNT c) (min 255 tec + min 255 rec_ * 256)
  if 255 < tec then
    ((s.txEndAll c 2).incSat (R.CAN_BOCNT c)).canGo c csBusoff |> fun t =>
      if t.canTtMode c ≠ 0 then t.ttRaise c 3 else t
  else if 127 < tec ∨ 127 < rec_ then (if s.canState c = csActive then s.canGo c csPassive else s)
  else if s.canState c = csPassive then s.canGo c csActive
  else s

/-- REC after a valid reception: one less, or an open value of 119 to 127 from above 127. -/
def State.recDown (s : State) (c : Nat) : State :=
  let r := s.canRec c
  if s.canState c = csListen ∨ (s.canC c).left.any Prod.snd ∨ r = 0 then s
  else if 127 < r then
    let d := s.draw 16
    d.2.canCounters c (s.canTec c) (119 + d.1 % 9)
  else s.canCounters c (s.canTec c) (r - 1)

/-- A MODE that waited for the frame in progress takes effect (R413). -/
def State.canModeGo (s : State) (c m : Nat) : State :=
  let st := s.canState c
  let s := if st = csSleep ∧ m ≠ 3 then s.wr (R.CAN_WAKESTAT c) 0 else s
  if m = 0 then (if st = csOff then s else (s.txEndAll c 3).canGo c csOff)
  else if m = 3 then
    if st = csActive ∨ st = csPassive ∨ st = csListen then s.canGo c csSleep else s
  else if st = csOff ∨ st = csSleep then (s.setCan c { s.canC c with left := none }).canGo c csInteg
  else s

/-- Does the controller take part in reception? -/
def State.canHears (s : State) (c : Nat) : Bool := s.canOpen c || s.canState c == csListen

/-- Take a MODE, at once or when the own frame in progress has ended; a frame being received when reception ends is
completed first (R413). -/
def State.canMode (s : State) (c m : Nat) : State :=
  if s.bit (R.CAN_STAT c) 9 then s.setCan c { s.canC c with goto := (s.canC c).goto ++ [m] }
  else
    let t := s.canModeGo c m
    if s.canHears c && !t.canHears c then
      t.setCan c { t.canC c with left := some (s.moduleTime, s.canState c == csListen) }
    else t

/-- The frame in progress has ended. -/
def State.canIdle (s : State) (c : Nat) : State :=
  let l := (s.canC c).goto
  l.foldl (fun t m => t.canModeGo c m)
    ((s.putBit (R.CAN_STAT c) 9 false).setCan c { s.canC c with goto := [] })

/-- The object whose frame is on the bus. -/
def State.txBusy (s : State) (c : Nat) : Option Nat := (List.range 32).find? (fun k => (s.canTx c k).sending)

/-- With TDCEN = 1 an own FD frame that has passed its FDF-to-res edge has measured the transmitter loop delay: the value
is open, and own data bits are checked at TDCVAL + TDCO, at most 127 (R415). -/
def State.tdcMeasure (s : State) (c : Nat) (fd : Bool) : State :=
  if s.bit (R.CAN_TDCCFG c) 0 && fd then
    let v := (s.draw 7).1
    let s := (s.draw 7).2.wr (R.CAN_TDCVAL c) v
    s.setCan c { s.canC c with ssp := min 127 (v + s.fld (R.CAN_TDCCFG c) 14 8) }
  else s

/-- Is the frame of object `k` an FD frame? -/
def State.txFd (s : State) (c k : Nat) : Bool := s.bit (R.CAN_TXID c k) 30

/-- The measurement of an own frame that ends in an error: an error of the data phase, a form error and an ACK or CRC error
lie behind the edge; for a stuff or bit error of the nominal phase an open bit decides. -/
def State.tdcError (s : State) (c : Nat) (fd : Bool) (lec : Nat) (dataPhase : Bool) : State :=
  if dataPhase || [2, 3, 6].contains lec then s.tdcMeasure c fd
  else if [1, 4, 5].contains lec && fd then (s.draw 1).2.tdcMeasure c ((s.draw 1).1 == 1)
  else s

/-- CAN_INTEGRATED: 11 consecutive recessive bits. -/
def execCanIntegrated (dt : Nat) (c : Fin 4) (s : State) : Host.Outcome State Fault Refusal :=
  onMain dt s fun s =>
    if s.canState c.val ≠ csInteg then s
    else
      let s := s.canGo c.val (if s.fld (R.CAN_CTRL c.val) 1 0 = 2 then csListen else csActive)
      s.setTt c.val { (s.canC c.val).tt with watch := s.moduleTime }

/-- CAN_FRAME_RECEIVED: a valid frame whose SOF came `ago` module-time units earlier, stamped at phase `ph` (R416 to
R421).  A classical node takes an FD frame as a form error (R414). -/
def execCanFrameReceived (dt : Nat) (c : Fin 4) (f : CanFrame) (ago : Nat) (ph : Fin 8) (s : State) :
    Host.Outcome State Fault Refusal :=
  guarded (Instr.canFrameReceived dt c f ago ph).wf dt s (onMain dt s fun s =>
    let c := c.val
    let sof := s.stamp ph.val - ago / 5 * 5
    if !(s.canHears c || (s.canC c).left.any (fun e => decide (sof < e.1))) then s
    else if f.fdf && !s.bit (R.CAN_CTRL c) 2 then
      let s := s.wr (R.CAN_LASTERR c) 2
      if s.canOpen c then s.canCounters c (s.canTec c) (s.canRec c + 1)
      else s.setCan c { s.canC c with left := none }
    else
      let s := (s.recDown c).incWrap (R.CAN_RXCNT c)
      let s := if f.rtr then s.incSat (R.CAN_RTRCNT c) else s.canFilter c f sof (s.stamp ph.val)
      s.setCan c { s.canC c with left := none })

/-- Drop a request without a change of its status (R429). -/
def State.txDrop (s : State) (c k : Nat) : State :=
  (s.setTx c k { s.canTx c k with want := false, again := false, sending := false, excl := false, win := none }).putBit
    (R.CAN_TXSTAT c k) 2 false

/-- An attempt ended without completing and its request waits: a further request merges into it (R424); while the
controller is gated it is dropped (R429). -/
def State.txBack (s : State) (c k : Nat) : State :=
  let x := s.canTx c k
  if s.bit (R.CAN_STAT c) 3 then s.txDrop c k
  else
    let s := if x.again then s.incSat (R.CAN_TXMERGE c) else s
    s.setTx c k { x with sending := false, want := true, again := false }

/-- The own attempt of object `k` ends in an error: CANCELLED, FAILED when its errors exceed RETRY, or retried (R425,
R426). -/
def State.txError (s : State) (c k : Nat) : State :=
  let n := (s.canTx c k).errs + 1
  let x := { s.canTx c k with errs := n }
  let limit := s.fld (R.CAN_TXCFG c k) 13 10
  let s := (s.setTx c k x).putFld (R.CAN_TXSTAT c k) 11 8 (min 15 n)
  if x.cancel || !s.txOn c k then s.txEnd c k 3 false
  else if x.excl || (limit != 15 && decide (limit < n)) then s.txEnd c k 2 false
  else s.txBack c k

/-- A bus error of kind `lec` in the data phase or not, with the additions to TEC and REC that ISO 11898-1 makes; an own
attempt ends in an error, and fails when RETRY is exceeded. -/
def State.canErr (s : State) (c lec : Nat) (dataPhase : Bool) (tec rec_ : Nat) : State :=
  if !s.canHears c then s
  else
    let s := s.wr (R.CAN_LASTERR c) (lec + b2n dataPhase * 8)
    if s.canState c = csListen then s
    else match s.txBusy c with
      | none => s.canCounters c (s.canTec c + tec) (s.canRec c + rec_)
      | some k =>
        let s := (s.tdcError c (s.txFd c k) lec dataPhase).txError c k
        (s.canCounters c (s.canTec c + tec) (s.canRec c + rec_)).canIdle c

/-- BUSOFF_RECOVERY: 128 occurrences of 11 recessive bits, counted with BOAUTO = 1 or after RECOVER. -/
def execBusoffRecovery (dt : Nat) (c : Fin 4) (s : State) : Host.Outcome State Fault Refusal :=
  onMain dt s fun s =>
    if s.canState c.val = csBusoff ∧ (s.bit (R.CAN_CTRL c.val) 3 ∨ (s.canC c.val).recover) then
      ((s.wr (R.CAN_ERRCNT c.val) 0).canGo c.val csActive).setTt c.val
        { (s.canC c.val).tt with watch := s.moduleTime }
    else s

/-- CANCMD_RECOVER; any other command value gives BAD_VALUE. -/
def execCancmdRecover (dt : Nat) (who : Init) (c : Fin 4) (v : Word) (s : State) : Host.Outcome State Fault Refusal :=
  onMain dt s fun s => s.cmdW who (canPage c.val) 0xC00 fun n s => s.keyed (canPage c.val) 0xC00 n 0xCA7D v fun s =>
    if nf v.toNat 3 0 ≠ 1 then s.err (canPage c.val) n eBadValue (R.CAN_CANCMD c.val)
    else if s.canState c.val = csBusoff ∧ !s.bit (R.CAN_CTRL c.val) 3 then
      s.setCan c.val { s.canC c.val with recover := true }
    else s

/-! ### Requests (R422 to R427) -/

/-- A request for object `k`: merged with one that waits, discarded while gated or OFF (R424, R429). -/
def State.txRequest (s : State) (c k : Nat) : State :=
  let x := s.canTx c k
  if !s.txOn c k || s.bit (R.CAN_STAT c) 3 || s.canState c == csOff then s
  else if x.sending then
    if x.again then s.incSat (R.CAN_TXMERGE c)
    else (s.setTx c k { x with again := true }).putBit (R.CAN_TXSTAT c k) 3 false
  else if x.want then s.incSat (R.CAN_TXMERGE c)
  else
    ((s.setTx c k { x with want := true, errs := 0 }).putBit (R.CAN_TXSTAT c k) 2 true).putBit
      (R.CAN_TXSTAT c k) 3 false

/-- Withdraw a request, before or after its SOF (R426). -/
def State.txCancel (s : State) (c k : Nat) : State :=
  let x := s.canTx c k
  if x.sending then s.setTx c k { x with cancel := true, again := false }
  else if x.want then s.txEnd c k 3 false
  else s

/-- A TXCMD of operation `op`; 0 is no command and gives BAD_VALUE. -/
def State.txcmd (s : State) (who : Init) (c : Nat) (v : Word) (op : Nat) (f : Nat → Nat → State → State) : State :=
  s.cmdW who (canPage c) 0xC04 fun n s => s.keyed (canPage c) 0xC04 n 0xCA7E v fun s =>
    if nf v.toNat 1 0 = 0 then s.err (canPage c) n eBadValue (R.CAN_TXCMD c)
    else if nf v.toNat 1 0 = op then f n (nf v.toNat 12 8) s
    else s

/-- TXCMD_SEND: requests a frame of a REQUEST object; MAPPED for a mapped one. -/
def execTxcmdSend (dt : Nat) (who : Init) (c : Fin 4) (v : Word) (s : State) : Host.Outcome State Fault Refusal :=
  onMain dt s fun s => s.txcmd who c.val v 1 fun n k s =>
    if s.txMapped c.val k then s.err (canPage c.val) n 0x0101 (R.CAN_TXCMD c.val)
    else if s.txTrig c.val k = 0 ∧ s.canTtMode c.val = 0 then s.txRequest c.val k
    else s

/-- TXCMD_CANCEL. -/
def execTxcmdCancel (dt : Nat) (who : Init) (c : Fin 4) (v : Word) (s : State) : Host.Outcome State Fault Refusal :=
  onMain dt s fun s => s.txcmd who c.val v 2 fun _ k s => s.txCancel c.val k

/-- Write the active buffer of an object. -/
def State.txWrite (s : State) (c k dlc : Nat) (data : List Nat) : State :=
  s.setTx c k { s.canTx c k with buf := data, dlc := dlc, fresh := true, wrote := (s.canC c).tt.cycles }

/-- Copy the staging buffer, but for the bits of GWY (R482), and TXkCFG.DLC to the active buffer. -/
def State.txLoad (s : State) (c k : Nat) : State :=
  let d := memBytes (s.canC c).ram (64 * k) 64
  let x := s.canTx c k
  s.txWrite c k (s.fld (R.CAN_TXCFG c k) 19 16)
    (if x.gmask = 0 then d else bytesOf 64 (mergeBits (fromBytes d) x.gmask (fromBytes x.buf)))

/-- TXCMD_LOAD. -/
def execTxcmdLoad (dt : Nat) (who : Init) (c : Fin 4) (v : Word) (s : State) : Host.Outcome State Fault Refusal :=
  onMain dt s fun s => s.txcmd who c.val v 3 fun n k s =>
    if s.txMapped c.val k then s.err (canPage c.val) n 0x0101 (R.CAN_TXCMD c.val) else s.txLoad c.val k

/-- The present multiple of a TIMER object's period. -/
def State.txTimer (s : State) (c k : Nat) : Nat := s.moduleTime / (max 1 (s.fld (R.CAN_TXPER c k) 23 0) * 40000)

/-- What the trigger of object `k` has counted to. -/
def State.txSeen (s : State) (c k : Nat) : Nat :=
  if s.txTrig c k = 2 then s.txTimer c k
  else if s.txTrig c k = 3 then (s.strobe (s.fld (R.CAN_TXCFG c k) 9 4)).count
  else 0

/-- CAN_TX_TIMER: a multiple of PER × 10 µs requests a frame (R423). -/
def execCanTxTimer (dt : Nat) (c : Fin 4) (k : Fin 32) (s : State) : Host.Outcome State Fault Refusal :=
  onMain dt s fun s =>
    if s.txOn c.val k.val && s.txTrig c.val k.val == 2 && s.canTtMode c.val == 0 &&
        s.txTimer c.val k.val != (s.canTx c.val k.val).seen then
      (s.setTx c.val k.val { s.canTx c.val k.val with seen := s.txTimer c.val k.val }).txRequest c.val k.val
    else s

/-- A strobe on a line requests a frame of every STROBE object on it (R423). -/
def State.canStrobe (s : State) (line : Nat) : State :=
  forN 4 (fun c t => forN 32 (fun k u =>
    if u.txOn c k && u.txTrig c k == 3 && u.canTtMode c == 0 && u.fld (R.CAN_TXCFG c k) 9 4 == line &&
        u.txSeen c k != (u.canTx c k).seen then
      (u.setTx c k { u.canTx c k with seen := u.txSeen c k }).txRequest c k
    else u) t) s

/-- SCHEDULE_ENTRY_FIRE: the lead position crosses an armed target of the entry in its direction; its strobe reaches the
STROBE channels of DIO and the STROBE objects of CAN (R107, R350, R423). -/
def execScheduleEntryFire (dt : Nat) (d : Fin 384) (s : State) : Host.Outcome State Fault Refusal :=
  onMain dt s fun s =>
    match (s.entryFire d.val).2 with
    | some line => (s.entryFire d.val).1.canStrobe line
    | none => (s.entryFire d.val).1

/-- The arbitration field of an object as ISO 11898-1 compares it: base identifier, then SRR and IDE, then the
extension. -/
def arbField (id : Nat) : Nat :=
  if nb id 29 then nf id 28 18 * 2 ^ 20 + 2 ^ 19 + nf id 17 0 else nf id 10 0 * 2 ^ 20

/-- Cycle time in NTU at instant `t` since the reference mark, corrected (R431). -/
def State.ttTimeAt (s : State) (c t : Nat) : Nat :=
  let el := t - (s.canC c).tt.mark
  ((el * (100000000 + sx 24 (s.rd (R.CAN_TTRATE c)) : Int)) / (100000000 * (max 1 (s.fld (R.CAN_TTNTU c) 13 0) * 40 : Nat))).toNat

/-- Cycle time now. -/
def State.ttTime (s : State) (c : Nat) : Nat := s.ttTimeAt c s.moduleTime

/-- The pending objects that may start now: in the event-driven mode every one, in a TT mode those in an open window. -/
def State.txReady (s : State) (c : Nat) : List Nat :=
  (List.range 32).filter (fun k =>
    let x := s.canTx c k
    x.want && !x.sending && s.txOn c k &&
      (s.canTtMode c == 0 || (match x.win with
        | some e => s.ttSync c == 2 && decide (s.ttErr c < 2) && decide (s.ttTime c < e)
        | none => false)))

/-- The object with the lowest arbitration field, the lower index first between equal ones. -/
def State.txBest (s : State) (c : Nat) : Option Nat :=
  (s.txReady c).foldl (fun b k =>
    match b with
    | none => some k
    | some j => if arbField (s.rd (R.CAN_TXID c k)) < arbField (s.rd (R.CAN_TXID c j)) then some k else some j) none

/-- The DLC of an attempt: TXkCFG.DLC, or that of the commit to a mapped object, at most TXkCFG.DLC (R422, R427). -/
def State.txDlc (s : State) (c k : Nat) : Nat :=
  let d := s.fld (R.CAN_TXCFG c k) 19 16
  if s.txMapped c k then min (s.canTx c k).dlc d else d

/-- The data of an attempt: the active buffer at its DLC, the last byte replaced by the age where AGEBYTE asks for it
(R427, R436). -/
def State.txData (s : State) (c k : Nat) : List Nat :=
  let x := s.canTx c k
  let n := canLen (s.txFd c k) (s.txDlc c k)
  let d := (List.range n).map (fun i => x.buf.getD i 0)
  if s.bit (R.CAN_TXCFG c k) 20 ∧ n ≠ 0 then d.take (n - 1) ++ [min 255 ((s.canC c).tt.cycles - x.wrote)] else d

/-- Start the frame of an object, stamped at phase `ph`. -/
def State.txStart (s : State) (c k ph : Nat) (excl : Bool) : State :=
  let x := s.canTx c k
  (s.setTx c k { x with
    want := false, sending := true, latched := s.txData c k, sof := s.stamp ph, excl := excl, fresh := false
    esi := s.txFd c k && s.canState c == csPassive
    starts := x.starts + 1 }).putBit
      (R.CAN_STAT c) 9 true

/-- CAN_TX_START: the bus is free (R424, R425, R427). -/
def execCanTxStart (dt : Nat) (c : Fin 4) (ph : Fin 8) (s : State) : Host.Outcome State Fault Refusal :=
  onMain dt s fun s =>
    if !s.canOpen c.val || s.bit (R.CAN_STAT c.val) 9 || s.bit (R.CAN_STAT c.val) 3 || !(s.canC c.val).goto.isEmpty then s
    else match s.txBest c.val with
    | some k => s.txStart c.val k ph.val false
    | none => s

/-- The attempt on the bus loses arbitration: it waits for the next bus idle; after a cancellation it ends CANCELLED, and in an
exclusive window it was the only attempt (R425, R426). -/
def State.canLost (s : State) (c : Nat) : State :=
  match s.txBusy c with
  | none => s
  | some k =>
    (if (s.canTx c k).cancel || !s.txOn c k then s.txEnd c k 3 false
      else if (s.canTx c k).excl then s.txEnd c k 2 false
      else s.txBack c k).canIdle c

/-- Queue a transmit timestamp, or drop it (R428). -/
def State.txStamp (s : State) (c k sof : Nat) : State :=
  let l := (s.canC c).ts
  if 16 ≤ l.length then (s.putBit (R.CAN_TXTSOVF c) 0 true).canEv c 5
  else (s.setCan c { s.canC c with ts := l ++ [(k, sof)] }).wr (R.CAN_TXTSCNT c) (l.length + 1)

/-- The frame on the bus completes (R425 to R428). -/
def State.canSent (s : State) (c : Nat) : State :=
  match s.txBusy c with
  | some k =>
    let x := s.canTx c k
    let cfg := s.rd (R.CAN_TXCFG c k)
    let s := ((s.tdcMeasure c (s.txFd c k)).putFld (R.CAN_TXSTAT c k) 11 8 (min 15 x.errs)).incWrap (R.CAN_TXCNT c)
    let s := s.txEnd c k 1 x.cancel
    let s := if nb cfg 15 then s.txStamp c k x.sof else s
    let s := if nb cfg 14 then s.canEv c 2 else s
    (s.canCounters c (s.canTec c - 1) (s.canRec c)).canIdle c
  | none => s

/-- TXTSPOP: remove the oldest timestamp entry (R428). -/
def execTxtspop (dt : Nat) (who : Init) (c : Fin 4) (s : State) : Host.Outcome State Fault Refusal :=
  onMain dt s fun s => s.cmdR who (canPage c.val) 0xC0C fun _ s =>
    match (s.canC c.val).ts with
    | [] => { s with resp := .data 0 }
    | (k, t) :: l =>
      let s := s.setCan c.val { s.canC c.val with ts := l }
      { (s.wr (R.CAN_TXTSCNT c.val) l.length).wr64 (R.CAN_TXTS c.val) t with resp := .data (0x80000000 + k) }

/-- RXQREL: release the oldest entries; QUEUE_MAPPED while a map holds the queue (R421). -/
def execRxqrel (dt : Nat) (who : Init) (c : Fin 4) (v : Word) (s : State) : Host.Outcome State Fault Refusal :=
  onMain dt s fun s => s.cmdW who (canPage c.val) 0xC08 fun n s =>
    let k := nf v.toNat 7 0
    if (s.canC c.val).qmap then s.err (canPage c.val) n 0x0102 (R.CAN_RXQREL c.val)
    else if k = 0 ∨ s.rxqCount c.val < k then s.err (canPage c.val) n eBadValue (R.CAN_RXQREL c.val)
    else s.rxqFree c.val k

/-! ### Wake-up (R430) -/

/-- Does a detection wake a controller with this configuration? -/
def wakes (swake : Bool) (cfg : List Nat) : CanWake → Bool
  | .wup => true
  | .errors => swake
  | .frame id ide dlc data =>
    let wid := cfg.getD 0 0
    let mask := cfg.getD 1 0
    let wc := cfg.getD 2 0
    swake && nb wid 29 == ide && (nf wid 28 0 &&& mask) == (id.toNat &&& mask) &&
      (!nb wc 4 || (nf wc 3 0 == dlc.val && (data.toNat &&& cfg.getD 3 0) != 0))

/-- The wake configuration of a controller. -/
def State.wakeCfg (s : State) (c : Nat) : List Nat :=
  [s.rd (R.CAN_WUFID c), s.rd (R.CAN_WUFMASK c), s.rd (R.CAN_WUFCFG c), s.rd64 (R.CAN_WUFD c)]

/-- The sleeping transceivers as the standby domain keeps them when the main domain goes off. -/
def State.canAsleep (s : State) : List (Nat × Bool × List Nat) :=
  ((List.range 4).filter (fun c => s.canState c == csSleep)).map (fun c => (c, s.bit (R.CAN_CTRL c) 12, s.wakeCfg c))

/-- CAN_WAKE: a sleeping transceiver detects a wake and reports it to Cricket. -/
def execCanWake (dt : Nat) (c : Fin 4) (w : CanWake) (s : State) : Host.Outcome State Fault Refusal :=
  always dt s fun s =>
    if s.sys.on then
      if s.canState c.val = csSleep ∧ wakes (s.bit (R.CAN_CTRL c.val) 12) (s.wakeCfg c.val) w then
        let b := match w with
          | .wup => 0
          | .frame _ _ _ _ => 1
          | .errors => 2
        let s := (s.putBit (R.CAN_WAKESTAT c.val) b true).canEv c.val 7
        if s.sys.down.isSome then { s with sys := { s.sys with wake := true } } else s
      else s
    else if s.sys.sleep && s.sys.canWake.any (fun e => e.1 == c.val && wakes e.2.1 e.2.2 w) then
      { s with sys := { s.sys with wake := true } }
    else s

/-! ### Time-triggered operation (R431 to R436) -/

/-- The matrix length in basic cycles. -/
def State.ttLen (s : State) (c : Nat) : Nat := 2 ^ s.fld (R.CAN_TTCFG c) 2 0

/-- Windows that have ended without a start are withdrawn: S1 each (R432). -/
def State.ttClose (s : State) (c : Nat) (all : Bool) : State :=
  let now := s.ttTime c
  forN 32 (fun k t =>
    let x := t.canTx c k
    match x.win with
    | some e => if x.want && !x.sending && (all || decide (e ≤ now)) then (t.txEnd c k 3 false).ttS1 c else t
    | none => t) s

/-- A new basic cycle begins with mark `m` and cycle count `n`. -/
def State.ttCycle (s : State) (c m n prio : Nat) : State :=
  let s := s.ttClose c true
  let s := s.setTt c { (s.canC c).tt with
    mark := m, watch := m, cycles := (s.canC c).tt.cycles + 1, missed := 0, fired := [] }
  s.wr (R.CAN_TTSTAT c) (n % 64 + prio * 256)

/-- A correct reference: two in a row leave S2, and a whole matrix cycle without an S1 condition leaves S1 (R434). -/
def State.ttGood (s : State) (c n : Nat) : State :=
  let tt := (s.canC c).tt
  (s.setTt c { tt with
    good := tt.good + 1, s1 := tt.s1 && n != 0, low := tt.low && (n != 0 || tt.s1), mid := tt.mid && decide (tt.good < 1) }).ttShow c

/-- The count that the next reference must carry. -/
def State.ttNext (s : State) (c : Nat) : Nat := (s.fld (R.CAN_TTSTAT c) 5 0 + 1) % s.ttLen c

/-- TTWATCH in module-time units. -/
def State.ttWatch (s : State) (c : Nat) : Nat :=
  s.fld (R.CAN_TTWATCH c) 16 0 * (max 1 (s.fld (R.CAN_TTNTU c) 13 0) * 40)

/-- Does time-triggered operation run on controller `c`? -/
def State.ttOn (s : State) (c : Nat) : Bool := s.canTtMode c != 0 && s.canOpen c

/-- The first word of the own reference: TTREFID with bits [2:0] replaced by TTPRIO; an FD frame in TTMODE 2 (R431,
R435). -/
def State.ttOwnId (s : State) (c : Nat) : Nat :=
  let id := s.rd (R.CAN_TTREFID c)
  let fd := s.canTtMode c == 2
  nf id 29 3 * 8 + s.fld (R.CAN_CTRL c) 11 9 + b2n fd * 2 ^ 30 + b2n (fd && nb id 30) * 2 ^ 31

/-- The data of the own TT-FD reference with mark `m`, cycle count `n` and global time `g` (R435). -/
def State.ttOwnData (s : State) (c m n g : Nat) : List Nat :=
  if s.canTtMode c = 2 then
    [n % 64, s.fld (R.CAN_CTRL c) 11 9 + b2n s.timeLocked * 8] ++ bytesOf 4 g ++ [0, 0] ++ bytesOf 8 (m / 4)
  else []

/-- The own reference wins the bus with mark `m` and cycle count `n`: this node is the cycle's time master.  Its global time
goes on from the last mark by the corrected time since (assumption 150). -/
def State.ttMaster (s : State) (c m n : Nat) : State :=
  let g := ((s.canC c).tt.gtime.toNat + s.ttTimeAt c m) % 2 ^ 32
  let own := (s.ttOwnId c, s.ttOwnData c m n g)
  let s := ((s.tdcMeasure c (s.canTtMode c == 2)).incWrap (R.CAN_TXCNT c)).ttCycle c m n (s.fld (R.CAN_CTRL c) 11 9)
  let s := s.setTt c { (s.canC c).tt with gtime := BitVec.ofNat 32 g, own := some own }
  (((s.ttGood c n).putBit (R.CAN_STAT c) 8 true).setTtSync c 2).canCounters c (s.canTec c - 1) (s.canRec c)

/-- TT_REFERENCE_ATTEMPT: a potential master's own reference, which wins the bus or not: at time mark 0 in SYNC, at once
after a missed reference, or from NONE after TTWATCH (R432, R433). -/
def execTtReferenceAttempt (dt : Nat) (c : Fin 4) (won : Bool) (ph : Fin 8) (s : State) :
    Host.Outcome State Fault Refusal :=
  onMain dt s fun s =>
    let c := c.val
    let tt := (s.canC c).tt
    let sync := s.ttSync c
    let due := (sync == 2 && (decide (s.fld (R.CAN_TTCYCLE c) 15 0 ≤ s.ttTime c) || tt.missed != 0)) ||
      (sync == 0 && decide (tt.watch + s.ttWatch c ≤ s.moduleTime))
    if !s.ttOn c || !s.bit (R.CAN_CTRL c) 8 || s.ttErr c == 3 || s.bit (R.CAN_STAT c) 3 || !due then s
    else if !won then s.putBit (R.CAN_STAT c) 8 false
    else
      s.ttMaster c (s.stamp ph.val) (if sync = 0 then 0 else s.ttNext c)

/-- TT_TRIGGER: trigger `j` reaches its time mark in a cycle that it selects; `busy` says that the bus is busy. -/
def execTtTrigger (dt : Nat) (c : Fin 4) (j : Fin 64) (busy : Bool) (ph : Fin 8) (s : State) :
    Host.Outcome State Fault Refusal :=
  onMain dt s fun s =>
    let c := c.val
    let j := j.val
    let a := s.rd (R.CAN_TTTA c j)
    let mark := s.fld (R.CAN_TTTB c j) 15 0
    let tt := (s.canC c).tt
    let sel := s.fld (R.CAN_TTSTAT c) 5 0 % 2 ^ nf a 26 24 == nf a 21 16
    if !s.ttOn c || s.ttSync c != 2 || nf a 2 0 == 0 || tt.fired.contains j || !sel ||
        decide (s.ttTime c < mark) then s
    else
      let s := (s.setTt c { tt with fired := j :: tt.fired }).ttClose c false
      let k := nf a 15 8
      if nf a 2 0 = 3 then
        match (s.rxEntries [] c)[k]? with
        | none => s
        | some d =>
          let was := tabGet 0 (s.canC c).tt.chk j
          let s := s.setTt c { (s.canC c).tt with chk := tabSet 0 (s.canC c).tt.chk j ((s.canC c).updates + 1) }
          if (s.canObj c d).num < was then
            ((s.setStale c k true).srcReport (fun e => e.kind == 0x08 && e.inst == c && e.item == k) State.canSrc).ttS1 c
          else s
      else if !s.txOn c (k % 32) then s
      else
        let k := k % 32
        let x := s.canTx c k
        let s := s.putBit (R.CAN_TXSTAT c k) 5 (!x.fresh)
        if s.ttErr c ≥ 2 ∨ s.bit (R.CAN_STAT c) 3 then s
        else if !x.fresh && s.bit (R.CAN_TXCFG c k) 21 then s
        else if nf a 2 0 = 1 then
          if busy || s.bit (R.CAN_STAT c) 9 then s.ttS1 c
          else (((s.setTx c k { x with errs := 0 }).putBit (R.CAN_TXSTAT c k) 2 true).putBit (R.CAN_TXSTAT c k) 3
            false).txStart c k ph.val true
        else
          let ends := ((List.range 64).filter (fun i => i > j && s.fld (R.CAN_TTTA c i) 2 0 != 0)).map
            (fun i => s.fld (R.CAN_TTTB c i) 15 0)
          let e := ends.headD (s.fld (R.CAN_TTCYCLE c) 15 0)
          let s := s.txRequest c k
          s.setTx c k { s.canTx c k with win := some e }

/-- TTTOFS from bytes 8 to 15 of a reference and the own SOF stamp, in ns (R435). -/
def ttOffset (time sof : Nat) : Nat :=
  toBits 32 (clampInt (-2 ^ 31) (2 ^ 31 - 1) ((time : Int) - (sof / 4 : Nat)))

/-- The rate correction of a reference with mark `m`, in 0.01 ppm: a TT-FD node computes it from the global time and its own
time over consecutive marks (R431); for level 2 it comes with the command. -/
def State.ttCorr (s : State) (c m : Nat) (r : TtRef) : Int :=
  if s.canTtMode c = 2 then
    let tt := (s.canC c).tt
    nearestInt 0 (((r.gtime - tt.gtime).toNat * (max 1 (s.fld (R.CAN_TTNTU c) 13 0) * 40) * 100000000 : Nat) /
      ((m - tt.mark : Nat) : Rat)) - 100000000
  else r.corr

/-- TT_REFERENCE_RECEIVED: a reference whose SOF came `ago` module-time units earlier; its mark is the SOF stamp (R416, R433
to R435). -/
def execTtReferenceReceived (dt : Nat) (c : Fin 4) (r : TtRef) (ago : Nat) (s : State) :
    Host.Outcome State Fault Refusal :=
  onMain dt s fun s =>
    let c := c.val
    let fd := s.canTtMode c == 2
    let n := if fd then r.count.toNat % 64 else r.count.toNat
    if !s.ttOn c then s
    else if fd && r.fdf && (r.res != 0 || decide (64 ≤ r.count.toNat)) then s
    else if r.fdf != fd || (!fd && (r.gap || decide (s.ttLen c ≤ n))) then s.ttRaise c 3
    else
      let m := s.stamp 0 - ago / 5 * 5
      let s := if fd then s.wr (R.CAN_TTTOFS c) (ttOffset r.time.toNat m) else s
      let corr := s.ttCorr c m r
      let good := decide (corr.natAbs ≤ 500000)
      let next := n == s.ttNext c
      let sync := s.ttSync c
      let s := (s.ttCycle c m n r.prio.val).putBit (R.CAN_STAT c) 8 false
      let s := if fd then s.setTt c { (s.canC c).tt with gtime := r.gtime } else s
      if sync = 0 then s.setTtSync c 1
      else if next && good then
        ((s.wr (R.CAN_TTRATE c) (toBits 24 corr)).ttGood c n).setTtSync c 2
      else if sync = 2 then
        ((if next then s else s.setTt c { (s.canC c).tt with s1 := true }).ttRaise c 2).setTtSync c (if next then 2 else 1)
      else if good then s else s.ttRaise c 2

/-- TT_WATCH_EXPIRY: no reference for TTWATCH NTU (R433). -/
def execTtWatchExpiry (dt : Nat) (c : Fin 4) (s : State) : Host.Outcome State Fault Refusal :=
  onMain dt s fun s =>
    let c := c.val
    let tt := (s.canC c).tt
    if !s.ttOn c || s.ttSync c == 0 || decide (s.moduleTime < tt.watch + s.ttWatch c) then s
    else if s.ttSync c = 1 then s.ttNone c
    else
      let s := (s.incSat (R.CAN_TTMISS c)).ttRaise c 2
      if tt.missed = 0 then s.setTt c { (s.canC c).tt with missed := 1, watch := s.moduleTime } else s.ttNone c

/-- CAN_CNTCLR: clear the saturating counters of the page and TTMISS. -/
def execCanCntclr (dt : Nat) (who : Init) (c : Fin 4) (v : Word) (s : State) : Host.Outcome State Fault Refusal :=
  onMain dt s fun s => s.cmdW who (canPage c.val) 0xC10 fun _ => onOne v fun s =>
    s.zero [R.CAN_NOMATCH c.val, R.CAN_DLCOVER c.val, R.CAN_RTRCNT c.val, R.CAN_BOCNT c.val, R.CAN_QOVR c.val,
      R.CAN_TXMERGE c.val, R.CAN_TTMISS c.val, R.CAN_TTSCHED c.val]

/-! ### Commits (R414, R417, R422, R432) -/

/-- May object `k` hold its configuration, with the pages of the commit `g` (R422)?  Whether TRIG suits TTMODE counts for an
enabled object (assumption 54). -/
def State.txOk (s : State) (g : List Nat) (c k : Nat) : Bool :=
  let id := s.eff g (R.CAN_TXID c k)
  let cfg := s.eff g (R.CAN_TXCFG c k)
  let ctl := s.eff g (R.CAN_CTRL c)
  let per := nf (s.eff g (R.CAN_TXPER c k)) 23 0
  let trig := nf cfg 3 1
  (nb id 30 || (decide (nf cfg 19 16 ≤ 8) && !nb id 31)) && (!nb id 30 || nb ctl 2) &&
    (nb id 29 || decide (nf id 28 0 ≤ 0x7FF)) && decide (trig ≤ 4) && (!nb cfg 20 || nf ctl 7 6 == 2) &&
    decide (10 ≤ per) && (!nb cfg 0 || (trig == 4) == (nf ctl 7 6 != 0))

/-- The trigger list (R432). -/
def State.ttListOk (s : State) (g : List Nat) (c : Nat) : Bool :=
  let on := (List.range 64).filter (fun j => nf (s.eff g (R.CAN_TTTA c j)) 2 0 != 0)
  let mark (j : Nat) : Nat := nf (s.eff g (R.CAN_TTTB c j)) 15 0
  let l := s.rxEntries g c
  on.all (fun j =>
    let a := s.eff g (R.CAN_TTTA c j)
    decide (nf a 2 0 ≤ 3) && decide (mark j < nf (s.eff g (R.CAN_TTCYCLE c)) 15 0) &&
    decide (nf a 21 16 < 2 ^ nf a 26 24) && decide (nf a 26 24 ≤ nf (s.eff g (R.CAN_TTCFG c)) 2 0) &&
    (if nf a 2 0 = 3 then (match l[nf a 15 8]? with
        | some d => !nb (s.rxd g c d).1 31
        | none => true)
      else decide (nf a 15 8 < 32) && nf (s.eff g (R.CAN_TXCFG c (nf a 15 8))) 3 1 == 4)) &&
  on.all (fun i => on.all (fun j => decide (j ≤ i) || decide (mark i < mark j)))

/-- Bit timing (R414). -/
def timingOk (nbt dbt : Nat) : Bool :=
  let n := (nf nbt 4 0 + 1) * (3 + nf nbt 15 8 + nf nbt 22 16)
  let d := (nf dbt 4 0 + 1) * (3 + nf dbt 12 8 + nf dbt 19 16)
  decide (80 ≤ n) && decide (10 ≤ d) && decide (d ≤ n) && decide (nf nbt 30 24 ≤ nf nbt 22 16) &&
    decide (nf dbt 27 24 ≤ nf dbt 19 16)

/-- The registers that a commit may change only while STATE = OFF. -/
def canFixed (c : Nat) : List Nat :=
  [R.CAN_NBT c, R.CAN_DBT c, R.CAN_TDCCFG c, R.CAN_TTCFG c, R.CAN_TTREFID c, R.CAN_TTCYCLE c, R.CAN_TTNTU c,
    R.CAN_TTWATCH c]

/-- The check of a CAN page. -/
def State.canCheck (s : State) (g : List Nat) (p : Nat) : Verdict :=
  let c := (p - 0x0A0) / 4
  match (p - 0x0A0) % 4 with
  | 0 =>
    let ctl := s.sh (R.CAN_CTRL c)
    let ch := (canFixed c).find? (fun x => s.sh x != s.rd x)
    let off := s.canState c == csOff
    if !off && ch.isSome then .codedAt 0x0103 (0x40000000 + ch.getD 0)
    else if !off && nb ctl 2 != s.bit (R.CAN_CTRL c) 2 then .codedAt 0x0103 (0x40000000 + R.CAN_CTRL c)
    else
      let cyc := s.shFld (R.CAN_TTCYCLE c) 15 0
      let w := s.shFld (R.CAN_TTWATCH c) 16 0
      rangeIf (timingOk (s.sh (R.CAN_NBT c)) (s.sh (R.CAN_DBT c)) && nf ctl 7 6 != 3 &&
        s.shFld (R.CAN_TTREFID c) 2 0 == 0 && decide (s.shFld (R.CAN_TTCFG c) 2 0 ≤ 6) && decide (16 ≤ cyc) &&
        within 10 10000 (s.shFld (R.CAN_TTNTU c) 13 0) && decide (cyc < w) && decide (w ≤ 2 * cyc) &&
        (List.range 32).all (s.txOk g c) && s.ttListOk g c)
  | 1 =>
    let ch := ((List.range 64).flatMap (fun j => [R.CAN_TTTA c j, R.CAN_TTTB c j])).find? (fun x => s.sh x != s.rd x)
    if s.canState c != csOff && ch.isSome then .codedAt 0x0103 (0x40000000 + ch.getD 0)
    else rangeIf ((List.range 32).all (s.txOk g c) && s.ttListOk g c)
  | _ =>
    let l := s.rxEntries g c
    if 256 < l.length then .table 0x01
    else rangeIf (l.all (fun d =>
      let w := s.rxd g c d
      (!nb w.2.2 4 || within 1 254 (nf w.2.2 15 8))) && s.ttListOk g c)

/-- STAT.GATED (R429).  When it becomes 1 the requests that wait are dropped, since transmission resumes with the next
request (assumption 52); a frame in progress completes. -/
def State.canGate (s : State) (c : Nat) : State :=
  let g := s.bit (R.CAN_CTRL c) 5 && !s.rdn.gates
  let t := s.putBit (R.CAN_STAT c) 3 g
  if g && !s.bit (R.CAN_STAT c) 3 then
    forL (s.txLive c) (fun k u =>
      if (u.canTx c k).sending then u.setTx c k { u.canTx c k with again := false } else u.txDrop c k) t
  else t

/-- What the descriptor pages do when they became active: unchanged descriptors keep content, NEW, LOST and STALE. -/
def State.canRemap (s old : State) (c : Nat) : State :=
  let was := old.rxEntries [] c
  let now := s.rxEntries [] c
  let s := s.setCan c { s.canC c with obj := (s.canC c).obj.filter (fun e => s.rxd [] c e.1 == old.rxd [] c e.1) }
  let s := forN 8 (fun w t => t.zero [R.CAN_NEW c w, R.CAN_LOST c w, R.CAN_STALE c w]) s
  let s := (List.range now.length).foldl (fun t n =>
    let d := now.getD n 0
    match (List.range was.length).find? (fun i => was.getD i 0 == d) with
    | some i => if s.rxd [] c d == old.rxd [] c d then
        ((t.setNew c n (old.objNew c i)).setLost c n (old.objLost c i)).setStale c n (old.objStale c i) else t
    | none => t) s
  s.wr (R.CAN_RXOBJCNT c) now.length

/-- What a CAN page does when its shadows became active. -/
def State.canApplied (s old : State) (p : Nat) : State :=
  let c := (p - 0x0A0) / 4
  match (p - 0x0A0) % 4 with
  | 0 =>
    let m := s.fld (R.CAN_CTRL c) 1 0
    let s := s.canMode c m
    let s :=
      if s.canTtMode c = 0 then
        (if old.canTtMode c ≠ 0 then s.ttNone c else s) |> fun t =>
          (t.setTt c { (t.canC c).tt with high := false }).ttShow c
      else if old.canTtMode c = 0 then s.setTt c { (s.canC c).tt with watch := s.moduleTime }
      else s
    s.canGate c
  | 1 =>
    forN 32 (fun k t =>
      let t := if t.rd (R.CAN_TXCFG c k) = old.rd (R.CAN_TXCFG c k) ∧ t.rd (R.CAN_TXPER c k) = old.rd (R.CAN_TXPER c k)
        then t else t.setTx c k { t.canTx c k with seen := t.txSeen c k }
      if t.txOn c k then t
      else if (t.canTx c k).sending then t.setTx c k { t.canTx c k with again := false }
      else if (t.canTx c k).want then t.txEnd c k 3 false
      else t) s
  | _ => s.canRemap old c

/-- The gates of primacy open or close. -/
def State.canPrimacy (s : State) : State := forN 4 (fun c t => t.canGate c) s

/-- The reference mark, the watch and the end of reception of controller `c` move with a step of module time by `d`, so that
the time since each keeps its true length (DEDUCED, assumption 154). -/
def State.ttMove (s : State) (c : Nat) (d : Int) : State :=
  let x := s.canC c
  s.setCan c { x with
    left := x.left.map (fun e => (movedBy d e.1, e.2))
    tt := { x.tt with mark := movedBy d x.tt.mark, watch := movedBy d x.tt.watch } }

/-- Module time was stepped by `d`: TIMER objects resume at the next multiple (R423, R453). -/
def State.canStep (s : State) (d : Int) : State :=
  forN 4 (fun c t => forN 32 (fun k u =>
    if u.txTrig c k = 2 then u.setTx c k { u.canTx c k with seen := u.txTimer c k } else u) (t.ttMove c d)) s

/-- A reset of controller `c`: every pending request ends and the frame in progress is dropped from the model. -/
def State.canReset (s : State) (c : Nat) : State := s.setCan c {}

/-! ### Programs (R437) -/

/-- CYC source kind 0x09: entry count and 128 entries, oldest first. -/
def State.canQueueItem (s : State) (c : Nat) : List Nat :=
  let n := s.rxqCount c
  bytesOf 4 n ++ (List.range 128).flatMap (fun i =>
    if i < n then
      let q := tabGet ({} : CanQ) (s.canC c).ring ((s.rxqHead c + i) % 128)
      q.obj.image 0 q.entry
    else List.replicate 96 0)

/-- CYC sink kind 0x23 for object `k`: the commit writes the active buffer; EN = 0 withdraws, SEND and COMMIT request. -/
def State.canSink (s : State) (c k : Nat) (b : List Nat) : State :=
  let h := b.getD 0 0
  let s := s.txWrite c k (b.getD 1 0 % 16) (b.drop 4)
  let s := s.setTx c k { s.canTx c k with off := !nb h 0 }
  if !nb h 0 then (if (s.canTx c k).sending then s.setTx c k { s.canTx c k with again := false } else s.txCancel c k)
  else if s.canTtMode c ≠ 0 then s
  else if s.txTrig c k = 1 ∨ (s.txTrig c k = 0 ∧ nb h 1) then s.txRequest c k
  else s

/-- The safe commit of a mapped object: the safe data with its trigger, or disabled (R427). -/
def State.canSafe (s : State) (c k : Nat) : State :=
  if s.bit (R.CAN_TXCFG c k) 22 then (s.setTx c k { s.canTx c k with off := false }).txLoad c k
  else (s.setTx c k { s.canTx c k with off := true }).txCancel c k

end Sys2Proof.Machine
end

