-- ==== Sys2Proof/Machine/Tmb.lean ====
section
/-! DEFINITION. TMB: the time servo, steps, SYNCIN, capture and leap seconds (R447 to R458, R478). -/
namespace Sys2Proof.Machine

def State.setTmb (s : State) (x : TmbS) : State := { s with tmb := x }

/-- TSTATE codes. -/
abbrev tsFreerun : Nat := 0
abbrev tsTracking : Nat := 1
abbrev tsLocked : Nat := 2
abbrev tsHoldover : Nat := 3
abbrev tsDiverged : Nat := 4

def State.tstate (s : State) : Nat := s.fld R.TMB_STAT 2 0
def State.servoOn (s : State) : Bool := s.bit R.TMB_CTRL 0
def State.tsrc (s : State) : Bool := s.bit R.TMB_CTRL 1

/-- 500 ppm in units of 2^-48 (R452): the example of the chapter shows it as 0x20_C49B_A5E3. -/
abbrev ppm500 : Int := 0x20C49BA5E3

/-- 1 ms in units of 0.25 ns. -/
abbrev unitMs : Nat := 4000000

/-- Change TSTATE: the count restarts, and ES96 follows (R451). -/
def State.setTstate (s : State) (x : Nat) : State :=
  if s.tstate = x then s
  else ((s.setTmb { s.tmb with count := 0 }).putFld R.TMB_STAT 2 0 x).raise 0x050 0

/-- Put r in force; at either limit RATELIM is 1, and ES99 is raised on entry (R452). -/
def State.setRate (s : State) (r : Int) : State :=
  let lim := decide (ppm500 ≤ r.natAbs)
  let was := s.bit R.TMB_STAT 4
  ((s.wr64 R.TMB_RATE (toBits 64 r)).putBit R.TMB_STAT 4 lim).raiseIf (lim && !was) 0x050 3

/-- One servo update with the gains of R452: `ts` is the interval since the previous sample. -/
def State.servoUpdate (s : State) (th : Int) (ts : Nat) : State :=
  let gain (k : Nat) : Int := openInt 9 ((k : Rat) * (th : Rat) * (2 ^ 32 : Nat) / (ts : Rat))
  let i := clampInt (-ppm500) ppm500 (s.tmb.i - gain (s.fld R.TMB_KI 15 0))
  let r := clampInt (-ppm500) ppm500 (i - gain (s.fld R.TMB_KP 15 0))
  (s.setTmb { s.tmb with i := i }).setRate r

/-- Count a sample towards LOCKED or out of it (R451). -/
def State.servoCount (s : State) (th : Int) : State :=
  let near := decide (th.natAbs ≤ 4 * s.fld R.TMB_LOCKTH 19 0)
  let n := s.fld R.TMB_LOCKCFG 3 0
  let st := s.tstate
  let c := if near == (st == tsTracking) then s.tmb.count + 1 else 0
  let s := s.setTmb { s.tmb with count := c }
  if st = tsTracking ∧ n ≤ c then s.setTstate tsLocked
  else if st = tsLocked ∧ n ≤ c then s.setTstate tsTracking
  else s

/-- Process a sample of partition `n`: θ, its instant in 0.25 ns since power came, and the register that brought it
(R451 to R455). -/
def State.tmbSample (s : State) (th : Int) (at_ n : Nat) (x : Option Nat) : State :=
  let ns := clampInt (-(2 ^ 31 - 1)) (2 ^ 31 - 1) (openInt 10 ((th : Rat) / 4))
  let ts := at_ - s.tmb.last
  let s := s.wr R.TMB_LASTOFS (toBits 32 ns)
  let s := s.setTmb { s.tmb with last := at_, holdTick := s.ticks }
  let st := s.tstate
  if st = tsFreerun ∨ s.bit R.TMB_STAT 5 then
    ((s.setTmb { s.tmb with count := 0, steps := s.tmb.steps ++ [(-th, divUp (at_ + 4000) 40)] }).putBit R.TMB_STAT 5
      false).setTstate tsTracking
  else if unitMs < th.natAbs then
    let s := if st = tsDiverged then s
      else
        let s := match x with
          | some a => s.err 0x050 n 0x0101 a
          | none => s.errOpen 0x050 n 0x0101
        (s.setTstate tsDiverged).raise 0x050 2
    s.setRate (if 0 < th then -ppm500 else ppm500)
  else
    let s := s.servoUpdate th ts
    if st = tsDiverged ∨ st = tsHoldover then s.setTstate tsTracking else s.servoCount th

/-- OFSGO: one offset sample, or BAD_VALUE (R450). -/
def execOfsgo (dt : Nat) (who : Init) (v : Word) (s : State) : Host.Outcome State Fault Refusal :=
  onMain dt s fun s => s.cmdW who 0x050 0xC00 fun n => onOne v fun s =>
    if s.tsrc || !s.servoOn || (s.tmb.ofsTick != 0 && !s.usSince (s.tmb.ofsTick - 1) 1) then
      s.err 0x050 n eBadValue R.TMB_OFSGO
    else
      (s.setTmb { s.tmb with ofsTick := s.ticks + 1 }).tmbSample (sx 64 (s.rd64 R.TMB_OFS)) (40 * s.ticks) n
        (some R.TMB_OFSGO)

/-- SYNCIN_PULSE: a pulse whose edge came `ago` units earlier has held for 1 µs; with TSRC = 1 it is a sample against
the nearest whole second, the later one half-way (R458). -/
def execSyncinPulse (dt : Nat) (ago : Nat) (s : State) : Host.Outcome State Fault Refusal :=
  onMain dt s fun s =>
    if !s.bit R.TMB_PPSCFG 0 || decide (ago < 3998) then s
    else
      let stamp := s.moduleTime - ago / 5 * 5
      let s := ((s.wr64 R.TMB_PPS stamp).incWrap R.TMB_PPSCNT).raise 0x051 0
      let s := s.setTmb { s.tmb with
        pulses := min 2 (s.tmb.pulses + 1), pulseTick := s.ticks - ago / 40, watch := decide (1 ≤ s.tmb.pulses) }
      if s.tsrc && s.servoOn then
        let sec := (stamp + 2000000000) / 4000000000 * 4000000000
        s.tmbSample ((stamp : Int) - sec) (40 * s.ticks - ago) ((s.owner 0x050).getD 0) none
      else s

/-- SYNCIN_MISSING: 1.1 s without a pulse after the second (R458). -/
def execSyncinMissing (dt : Nat) (s : State) : Host.Outcome State Fault Refusal :=
  onMain dt s fun s =>
    if s.bit R.TMB_PPSCFG 0 && s.tmb.watch && s.msSince s.tmb.pulseTick 1100 then
      ((s.setTmb { s.tmb with watch := false }).incSat R.TMB_PPSMISS).raise 0x051 1
    else s

/-- HOLDOVER: no sample for HOLDTO, so r := i (R451). -/
def execHoldover (dt : Nat) (s : State) : Host.Outcome State Fault Refusal :=
  onMain dt s fun s =>
    let st := s.tstate
    if s.servoOn && (st == tsTracking || st == tsLocked || st == tsDiverged) &&
        s.msSince s.tmb.holdTick (10 * s.fld R.TMB_LOCKCFG 31 16) then
      (s.setRate s.tmb.i).setTstate tsHoldover
    else s

/-- TMB_CAPGO: capture module time (R449). -/
def execTmbCapgo (dt : Nat) (who : Init) (v : Word) (s : State) : Host.Outcome State Fault Refusal :=
  onMain dt s fun s => s.cmdW who 0x051 0xC00 fun _ => onOne v fun s =>
    (s.wr64 R.TMB_CAP s.moduleTime).raise 0x051 2

/-- RESTEP: the next sample is stepped whatever its size (R455). -/
def execRestep (dt : Nat) (who : Init) (v : Word) (s : State) : Host.Outcome State Fault Refusal :=
  onMain dt s fun s => s.cmdW who 0x053 0xC00 fun n s => s.keyed 0x053 0xC00 n 0x7E51 v fun s =>
    if !nb v.toNat 0 || s.tstate == tsFreerun then s.err 0x053 n eBadValue R.TMB_RESTEP
    else ((s.putBit R.TMB_STAT 5 true).incWrap R.TMB_RESTEPCNT).raise 0x053 0

/-- The UTC day that runs now, by TAIUTC. -/
def State.utcDay (s : State) : Int := s.utcNow / (86400 * 4000000000 : Nat)

/-- LEAP is set for the day that runs. -/
def State.leapArm (s : State) : State := s.setTmb { s.tmb with leapDay := s.utcDay }

/-- LEAP_SECOND: the end of the UTC day, which lasts a second longer with LEAP = 1 and a second less with LEAP = 2
(R457). -/
def execLeapSecond (dt : Nat) (s : State) : Host.Outcome State Fault Refusal :=
  onMain dt s fun s =>
    let leap := s.fld R.TMB_LEAP 1 0
    let d : Int := if leap = 1 then 1 else -1
    if (leap = 1 ∨ leap = 2) ∧ ((s.tmb.leapDay + 1) * 86400 + d) * 4000000000 ≤ s.utcNow then
      (s.wr R.TMB_TAIUTC (toBits 16 (sx 16 (s.rd R.TMB_TAIUTC) + d))).wr R.TMB_LEAP 0
    else s

/-- The check of page 0x050 (R478). -/
def State.tmbCheck (s : State) (p : Nat) : Verdict :=
  if p = 0x050 then
    rangeIf (within 10 1000000 (s.shFld R.TMB_LOCKTH 19 0) && within 2 15 (s.shFld R.TMB_LOCKCFG 3 0) &&
      within 10 60000 (s.shFld R.TMB_LOCKCFG 31 16) && s.shFld R.TMB_LEAP 1 0 != 3)
  else .ok

/-- What a TMB page does when its shadows became active: SERVOEN restarts the count and the HOLDTO timer (R450); without
SYNCIN no pulse is missed. -/
def State.tmbApplied (s old : State) (p : Nat) : State :=
  if p = 0x050 then
    let s := if s.servoOn && !old.servoOn then s.setTmb { s.tmb with count := 0, holdTick := s.ticks } else s
    if s.rd R.TMB_LEAP ≠ old.rd R.TMB_LEAP ∨ s.rd R.TMB_TAIUTC ≠ old.rd R.TMB_TAIUTC then s.leapArm else s
  else if p = 0x051 ∧ !s.bit R.TMB_PPSCFG 0 then s.setTmb { s.tmb with pulses := 0, watch := false }
  else s

/-- Module time moves by a step, and STEPLAST, STEPCNT and ES97 show it (R453). -/
def State.timeMove (s : State) (d : Int) : State :=
  let s := { s with mtime := toBits 112 ((s.mtime : Int) + d * 2 ^ 48) }
  (((s.wr64 R.TMB_STEPLAST (toBits 64 d)).incWrap R.TMB_STEPCNT).raise 0x050 1).leapArm

/-- A step of a network-time axis, once module time has moved: the estimates so far keep their positions, and the axis is
stepped (R100, R453). -/
def State.axTimeStep (s : State) (k : Nat) (d : Int) : State :=
  let e := d * 2 ^ 32 / 4000
  let a := s.axis k
  let s := s.setAxis k { a with est := a.est.map (fun x => if x.net then { x with p := x.p + e } else x) }
  if s.axKind k = 5 ∧ s.axLive k then s.axStep k e else s

end Sys2Proof.Machine
end

