-- ==== Sys2Proof/Machine/Eth.lean ====
section
/-! DEFINITION. ETH: the switch, gate lists, launch times, redundancy, PTP support, host rings and process data
(R459 to R475, R479). -/
namespace Sys2Proof.Machine

def State.ethP (s : State) (n : Nat) : EthPort := tabGet {} s.eth.port n
def State.setEthP (s : State) (n : Nat) (x : EthPort) : State :=
  { s with eth := { s.eth with port := tabSet {} s.eth.port n x } }
def State.ethRing (s : State) (p : Nat) : EthRing := tabGet {} s.eth.ring p
def State.setEthRing (s : State) (p : Nat) (x : EthRing) : State :=
  { s with eth := { s.eth with ring := tabSet {} s.eth.ring p x } }
def State.ethPd (s : State) (k : Nat) : EthPd := tabGet {} s.eth.pd k
def State.setEthPd (s : State) (k : Nat) (x : EthPd) : State :=
  { s with eth := { s.eth with pd := tabSet {} s.eth.pd k x } }

/-- Block code of ETH in DMA errors. -/
abbrev ethBlk : Nat := 0x12

/-- The page of port `n` of ETH0 to ETH3. -/
abbrev portPage (n : Nat) : Nat := 0x0B1 + n

def State.prpMode (s : State) : Nat := s.fld R.ETH_PRPCFG 1 0
def State.ptpMode (s : State) : Nat := s.fld R.ETH_PTPCFG 1 0

/-- Is the link of a port up? -/
def State.ethLink (s : State) (n : Nat) : Bool :=
  if n < 4 then s.bit R.ETH_STAT (4 + n) else n == 5 && s.bit R.ETH_STAT 8

/-! ### Frames as bytes -/

/-- A number in network order. -/
def be (l : List Nat) : Nat := l.foldl (fun a b => a * 256 + b % 256) 0

/-- `k` bytes of a number in network order. -/
def beBytes (k n : Nat) : List Nat := (bytesOf k n).reverse

/-- The number in `n` bytes at `o`, in network order. -/
def beAt (d : List Nat) (o n : Nat) : Nat := be ((d.drop o).take n)

/-- Bytes replaced from `o` on. -/
def putAt (d : List Nat) (o : Nat) (bs : List Nat) : List Nat := d.take o ++ bs ++ d.drop (o + bs.length)

def frameTagged (d : List Nat) : Bool := beAt d 12 2 == 0x8100
def typeAt (d : List Nat) : Nat := if frameTagged d then 16 else 12
def etherType (d : List Nat) : Nat := beAt d (typeAt d) 2

/-- VLAN ID and PCP of a frame that comes in at a port (R461). -/
def State.vlanOf (s : State) (n : Nat) (d : List Nat) : Nat × Nat :=
  let pv := s.rd (R.ETH_PVID n)
  if !frameTagged d then (nf pv 11 0, nf pv 14 12)
  else
    let tci := beAt d 14 2
    (if tci % 4096 = 0 then nf pv 11 0 else tci % 4096, tci / 8192)

/-- The VLAN entry of a VLAN ID. -/
def State.vlanEntry (s : State) (vid : Nat) : Option Nat :=
  (List.range 16).find? (fun v => s.bit (R.ETH_VLAN v) 31 && s.fld (R.ETH_VLAN v) 11 0 == vid)

/-- A frame as it leaves a port of VLAN entry `v`: with its tag, or without where the entry says untagged. -/
def State.egressForm (s : State) (v n pcp : Nat) (d : List Nat) : List Nat :=
  let body := d.drop (typeAt d)
  if nb (s.fld (R.ETH_VLAN v) 29 24) n then d.take 12 ++ body
  else d.take 12 ++ beBytes 2 0x8100 ++ beBytes 2 (pcp % 8 * 8192 + s.fld (R.ETH_VLAN v) 11 0) ++ body

/-! ### PTP messages (R465 to R467) -/

/-- Kind of carriage (0 Layer 2, 1 UDP/IPv4, 2 UDP/IPv6) and offset of a PTP message. -/
def ptpAt (d : List Nat) : Option (Nat × Nat) :=
  let o := typeAt d + 2
  let port (u : Nat) : Bool := beAt d (u + 2) 2 == 319 || beAt d (u + 2) 2 == 320
  let ihl := d.getD o 0 % 16 * 4
  if etherType d = 0x88F7 then some (0, o)
  else if etherType d = 0x0800 ∧ d.getD (o + 9) 0 = 17 ∧ port (o + ihl) then some (1, o + ihl + 8)
  else if etherType d = 0x86DD ∧ d.getD (o + 6) 0 = 17 ∧ port (o + 40) then some (2, o + 48)
  else none

/-- A recognised PTP message: its type. -/
def State.ptpType (s : State) (d : List Nat) : Option Nat :=
  match ptpAt d with
  | some (k, o) => if s.bit R.ETH_PTPCFG (3 + k) then some (d.getD o 0 % 16) else none
  | none => none

/-- Is it a recognised PTP event message? -/
def State.ptpEvent (s : State) (d : List Nat) : Bool :=
  match s.ptpType d with
  | some t => decide (t < 4)
  | none => false

/-- Pdelay messages. -/
def ptpPdelay (t : Nat) : Bool := t == 2 || t == 3 || t == 10

/-- Add to correctionField, in ns times 2^16. -/
def ptpCorrect (d : List Nat) (o : Nat) (c : Int) : List Nat :=
  putAt d (o + 8) (beBytes 8 (toBits 64 ((beAt d (o + 8) 8 : Int) + c)))

/-- A one-step Sync with its MII stamp: originTimestamp, the rest of a nanosecond in correctionField, and no UDP/IPv4
checksum (R466). -/
def ptpOneStep (d : List Nat) (stamp : Nat) : List Nat :=
  match ptpAt d with
  | none => d
  | some (k, o) =>
    let d := putAt d (o + 34) (beBytes 6 (stamp / 4000000000) ++ beBytes 4 (stamp % 4000000000 / 4))
    let d := ptpCorrect d o (stamp % 4 * 16384 : Nat)
    if k = 1 then putAt d (o - 2) [0, 0] else d

/-! ### Gates (R462) -/

/-- Position in the cycle at module time `t`, in 0.25 ns. -/
def Gcl.posAt (g : Gcl) (t : Nat) : Nat := (((t : Int) - g.base) % (4 * g.cyc : Nat)).toNat

/-- Index of the entry in force at a position. -/
def gclIndex : List (Nat × Nat) → Nat → Nat
  | [], _ => 0
  | e :: t, pos => if pos < 4 * e.2 then 0 else 1 + gclIndex t (pos - 4 * e.2)

/-- Is gate `q` open from a position on, for `dur`? -/
def gclRun : List (Nat × Nat) → Nat → Nat → Nat → Bool
  | [], _, _, _ => true
  | e :: t, q, pos, dur =>
    if 4 * e.2 ≤ pos then gclRun t q (pos - 4 * e.2) dur
    else if dur = 0 then true
    else nb e.1 q && gclRun t q 0 (dur - (4 * e.2 - pos))

/-- Is gate `q` of a list open for all of `dur` from module time `t` on? -/
def Gcl.openFor (g : Gcl) (q t dur : Nat) : Bool :=
  !g.on || g.ent.all (fun e => nb e.1 q) ||
    (decide (dur < 4 * g.cyc) && gclRun (g.ent ++ g.ent) q (g.posAt t) dur)

/-- May a frame of `dur` start from queue `q` of port `n` now: its gate stays open to the end, a list that takes over
meanwhile included? -/
def State.gateFor (s : State) (n q dur : Nat) : Bool :=
  let x := s.ethP n
  let t := s.moduleTime
  match x.next with
  | some g =>
    if x.swAt ≤ t then g.openFor q t dur
    else if x.swAt < t + dur then x.gcl.openFor q t (x.swAt - t) && g.openFor q x.swAt (t + dur - x.swAt)
    else x.gcl.openFor q t dur
  | none => x.gcl.openFor q t dur

/-- The first boundary of a list at or after `t`. -/
def Gcl.boundary (g : Gcl) (t : Nat) : Nat :=
  if g.cyc = 0 ∨ t ≤ g.base then g.base else g.base + divUp (t - g.base) (4 * g.cyc) * (4 * g.cyc)

/-- Show the entry in force. -/
def State.gclShow (s : State) (n : Nat) : State :=
  let g := (s.ethP n).gcl
  s.putFld (R.ETH_TASSTAT n) 24 16 (if g.on then gclIndex g.ent (g.posAt s.moduleTime) else 0)

/-! ### Queues and transmission (R461, R463) -/

def EthPort.queue (x : EthPort) (q : Nat) : List EthItem := tabGet [] x.q q

/-- Bytes of a frame without FCS and trailer; a process-data frame has the length of its template. -/
def State.itemLen (s : State) (i : EthItem) : Nat :=
  match i.src with
  | .pd k => s.fld (R.ETH_PDTLEN k) 10 0
  | _ => i.data.length

/-- Bytes held in a queue. -/
def State.queueBytes (s : State) (l : List EthItem) : Nat := l.foldl (fun a i => a + s.itemLen i) 0

/-- The frame at a head reached it now. -/
def markHead (t : Nat) : List EthItem → List EthItem
  | [] => []
  | i :: l => { i with head := some (i.head.getD t) } :: l

def State.setQueue (s : State) (n q : Nat) (l : List EthItem) : State :=
  let x := s.ethP n
  s.setEthP n { x with q := tabSet [] x.q q (markHead s.moduleTime l) }

/-- Time that a frame takes with preamble, FCS and interframe gap, in 0.25 ns. -/
def State.frameTime (s : State) (n : Nat) (i : EthItem) : Nat :=
  let len := max 60 (s.itemLen i) + (if i.red.isSome then 6 else 0)
  (len + 24) * (if n < 4 ∧ s.fld (R.ETH_PSTAT n) 2 1 = 2 then 32 else 320)

/-- LATETOL in 0.25 ns. -/
def State.lateTol (s : State) (n : Nat) : Nat := 4 * (if n < 4 then s.fld (R.ETH_LATETOL n) 19 0 else 1000)

/-- Where a head frame stands against its launch time: 0 may start, 1 too early to start, 2 LATE, 3 EARLY. -/
def State.launchCase (s : State) (n : Nat) (i : EthItem) : Nat :=
  match i.launch with
  | none => 0
  | some l =>
    if i.head.getD s.moduleTime + 4000000000 < l then 3
    else if l + s.lateTol n < s.moduleTime then 2
    else if s.moduleTime < l then 1
    else 0

/-- Would a frame of `dur` run into the launch time of a head frame that waits for it (R463)? -/
def State.launchClear (s : State) (n dur : Nat) : Bool :=
  (List.range 8).all (fun q =>
    match ((s.ethP n).queue q).head? with
    | some i => s.launchCase n i != 1 || decide (s.moduleTime + dur ≤ i.launch.getD 0)
    | none => true)

/-- The queue whose head starts next: the highest-numbered one whose gate is open for it. -/
def State.pickQueue (s : State) (n : Nat) : Option Nat :=
  ((List.range 8).reverse).find? (fun q =>
    match ((s.ethP n).queue q).head? with
    | some i => s.launchCase n i == 0 && s.gateFor n q (s.frameTime n i) && s.launchClear n (s.frameTime n i)
    | none => false)

/-! ### Ends of frames -/

/-- One port has ended a host frame; the last status other than SENT stands. -/
def State.txDone (s : State) (p idx status : Nat) : State :=
  let r := s.ethRing p
  s.setEthRing p { r with work := r.work.map (fun w =>
    if w.idx = idx then { w with left := w.left - 1, status := if status = 0 then w.status else status } else w) }

/-- A process-data frame was not sent: LAST, and ES232 where it was late. -/
def State.pdEnd (s : State) (k last : Nat) : State :=
  let x := s.ethPd k
  ((s.setEthPd k { x with left := x.left - 1 }).putFld (R.ETH_PDTSTAT k) 1 0 last).raiseIf (last == 2) 0x0B6 1

/-- A frame ends unsent on port `n`: 1 LATE, 2 EARLY, 5 LINKDOWN. -/
def State.itemEnd (s : State) (n : Nat) (i : EthItem) (status : Nat) : State :=
  let s := if status = 1 ∧ n < 4 then (s.incSat (R.ETH_LATEDROP n)).raise (portPage n) 1 else s
  match i.src with
  | .fwd _ _ => s
  | .host p idx => s.txDone p idx status
  | .pd k => s.pdEnd k 2

/-! ### Process data: building a frame (R471) -/

/-- The ones' complement sum of 16-bit words. -/
def ocSum (d : List Nat) : Nat :=
  let go := (List.range ((d.length + 1) / 2)).foldl (fun a i => a + d.getD (2 * i) 0 * 256 + d.getD (2 * i + 1) 0) 0
  let a := go % 65536 + go / 65536
  a % 65536 + a / 65536

/-- The UDP/IPv4 checksum recomputed (R471). -/
def udpSum (d : List Nat) : List Nat :=
  let o := typeAt d + 2
  if etherType d = 0x0800 ∧ d.getD (o + 9) 0 = 17 then
    let u := o + d.getD o 0 % 16 * 4
    let len := beAt d (u + 4) 2
    let d := putAt d (u + 6) [0, 0]
    let c := 65535 - ocSum ((d.drop (o + 12)).take 8 ++ [0, 17] ++ beBytes 2 len ++ (d.drop u).take len)
    putAt d (u + 6) (beBytes 2 (if c = 0 then 65535 else c))
  else d

def State.pdMapped (s : State) (k : Nat) : Bool := s.bit (R.ETH_PDTSTAT k) 2

/-- Sending is gated: no primacy and PDGATE = 1. -/
def State.pdGated (s : State) : Bool := s.bit R.ETH_PDCTRL 0 && !s.rdn.gates

/-- A DMA transfer of page `p` stopped: the page reports it, with a code that the manual does not give (R172, R178,
assumption 120). -/
def State.dmaStop (s : State) (p : Nat) : State := (s.draw 16).2.errOpen p ((s.owner p).getD 0) (s.draw 16).1

/-- The frame of object `k` as its transmission starts: its bytes, and whether the transfer stopped after them. -/
def State.pdFrame (s : State) (k : Nat) : State × List Nat × Bool :=
  let x := s.ethPd k
  let cfg := s.rd (R.ETH_PDTCFG k)
  let r := s.dmaRead 0x0B6 ethBlk (s.rd64 R.ETH_PDTBASE % 2 ^ 40 + 2048 * k) (s.fld (R.ETH_PDTLEN k) 10 0)
  match r.2.1 with
  | .ok =>
    let o := s.fld (R.ETH_PDTLEN k) 26 16
    let n := s.fld (R.ETH_PDTPLEN k) 10 0
    let d := if s.pdMapped k && !x.template then putAt r.2.2 o ((List.range n).map (fun i => x.pay.getD i 0)) else r.2.2
    let d := if x.gmask = 0 then d else putAt d o (bytesOf n (mergeBits (fromBytes ((d.drop o).take n)) x.gmask x.gval))
    (r.1, if nb cfg 18 then udpSum d else d, false)
  | _ => (r.1.dmaStop 0x0B6, r.2.2, true)

/-! ### Starting -/

/-- Take the head of a queue into transmission.  A process-data frame whose transfer stops after its first bytes is on the wire
already (R178); one of a mapped object that a safe commit stopped meanwhile is not sent (R471). -/
def State.startFrom (s : State) (n q : Nat) : State :=
  match (s.ethP n).queue q with
  | [] => s
  | i :: l =>
    let s := s.setQueue n q l
    match i.src with
    | .pd k =>
      if s.pdGated then s.pdEnd k 3
      else if s.pdMapped k && (s.ethPd k).stopped then s.pdEnd k 2
      else
        let r := s.pdFrame k
        if r.2.2 && r.2.1.isEmpty then r.1.pdEnd k 2
        else
          (r.1.setEthPd k { r.1.ethPd k with starts := (r.1.ethPd k).starts + 1 }).setEthP n
            { r.1.ethP n with cur := some { i with data := r.2.1, cut := r.2.2 } }
    | _ => s.setEthP n { s.ethP n with cur := some i }

/-- Start the next frame of an idle port; a frame that cannot be made leaves the place to the next. -/
def State.kickGo (n : Nat) : Nat → State → State
  | 0, s => s
  | fuel + 1, s =>
    if (s.ethP n).cur.isSome || !s.ethLink n || (decide (n < 4) && !s.bit R.ETH_CTRL 0) then s
    else match s.pickQueue n with
      | some q => State.kickGo n fuel (s.startFrom n q)
      | none => s

def State.kick (s : State) (n : Nat) : State := State.kickGo n 40 s

/-- Put a frame into a queue. -/
def State.enqueue (s : State) (n q : Nat) (i : EthItem) : State :=
  (s.setQueue n q ((s.ethP n).queue q ++ [i])).kick n

/-! ### Host transmit ring (R469, R470) -/

def State.ringSize (s : State) (p : Nat) : Nat := max 16 (s.fld (reg p 0x048) 10 0)
def State.txTail (s : State) (p : Nat) : Nat := s.fld (reg p 0x04C) 9 0 % s.ringSize p
def State.ringPart (s : State) (p : Nat) : Nat := (s.owner p).getD 0

/-- Ports of a mask. -/
def maskPorts (m : Nat) : List Nat := (List.range 6).filter (fun n => nb m n)

/-- The static, learned or flooding mask of an address in VLAN entry `v` (R461). -/
def State.lookup (s : State) (v dst : Nat) : Nat :=
  match (List.range 32).find? (fun k =>
    let e := s.rd64 (R.ETH_STF k)
    nb e 63 && nf e 47 0 == dst && nf e 59 56 == v) with
  | some k => nf (s.rd64 (R.ETH_STF k)) 53 48
  | none =>
    match s.eth.fdb.find? (fun e => e.1 == dst && e.2.1 == v) with
    | some e => 2 ^ e.2.2.1
    | none => 0x1F

/-- The egress ports of a frame in VLAN entry `v`: members other than the ingress port, never SVC; a redundancy pair is
one port, and an HSR ring is kept apart from ETH2 and ETH3 (R460, R461, R464). -/
def State.egress (s : State) (n v dst : Nat) : Nat :=
  let m := s.lookup v dst &&& s.fld (R.ETH_VLAN v) 21 16 &&& 0x1F
  let m := m - (m &&& 2 ^ n)
  if n < 2 ∧ s.prpMode = 1 then m - (m &&& 3)
  else if n < 2 ∧ s.prpMode = 2 then m &&& 0x10
  else if (n = 2 ∨ n = 3) ∧ s.prpMode = 2 then m - (m &&& 3)
  else m

/-- Learn a source address (R461). -/
def State.learn (s : State) (n v src : Nat) : State :=
  if !s.bit R.ETH_CTRL 1 || src / 2 ^ 40 % 2 == 1 then s
  else
    let rest := s.eth.fdb.filter (fun e => !(e.1 == src && e.2.1 == v))
    if rest.length = s.eth.fdb.length ∧ 2048 ≤ rest.length then (s.incSat R.ETH_FDBFULL).raise 0x0B0 1
    else
      let s := { s with eth := { s.eth with fdb := rest ++ [(src, v, n, s.ticks)] } }
      s.wr R.ETH_FDBCNT s.eth.fdb.length

/-- A pair of PRP or HSR sends on both its ports, with a new sequence number. -/
def State.redPair (s : State) (m : Nat) : State × Nat × Option Nat :=
  if s.prpMode = 0 ∨ m &&& 3 = 0 then (s, m, none)
  else ({ s with eth := { s.eth with seq := (s.eth.seq + 1) % 65536 } }, m ||| 3, some s.eth.seq)

/-- A frame padded to 60 bytes (R469). -/
def padFrame (d : List Nat) : List Nat := d ++ List.replicate (60 - d.length) 0

/-- Hand over one descriptor of the ring of page `p`; the second part says whether the next may follow. -/
def State.txOne (s : State) (p : Nat) : State × Bool :=
  let r := s.ethRing p
  let size := s.ringSize p
  if r.stop || r.next % size == s.txTail p then (s, false)
  else
    let idx := r.next % size
    let take (s : State) (w : EthTx) (stop : Bool) : State :=
      let r := s.ethRing p
      s.setEthRing p { next := (idx + 1) % size, work := r.work ++ [w], stop := stop }
    let dd := s.dmaRead p ethBlk (s.rd64 (reg p 0x040) % 2 ^ 40 + 32 * idx) 32
    if dd.2.1 ≠ .ok then (take dd.1 { idx := idx, status := if dd.2.1 = .poison then 4 else 3, bad := true } true, false)
    else
      let w := fromBytes ((dd.2.2.drop 8).take 4)
      let len := nf w 10 0
      let b := dd.1.dmaRead p ethBlk (fromBytes (dd.2.2.take 8) % 2 ^ 40) len
      if len < 14 ∨ 1514 < len then (take dd.1 { idx := idx, status := 3 } false, true)
      else if b.2.1 ≠ .ok then (take b.1 { idx := idx, status := if b.2.1 = .poison then 4 else 3, bad := true } true, false)
      else
        let s := b.1
        let d := b.2.2
        if nb w 21 && (ptpAt d).any (fun x => x.1 == 2) then (take s { idx := idx, status := 3 } false, true)
        else
          let vp := s.vlanOf 4 d
          let v := s.vlanEntry vp.1
          let byAddr := p = 0x0B5 ∧ nf w 19 14 = 0
          let m := if p = 0x0B9 then 0x20
            else if byAddr then (match v with | some v => s.egress 4 v (beAt d 0 6) &&& 0xF | none => 0)
            else nf w 19 14 &&& 0xF
          let s := match v with
            | some v => if byAddr then s.learn 4 v (beAt d 6 6) else s
            | none => s
          let sp := s.redPair m
          let live := (maskPorts sp.2.1).filter (fun n => s.ethLink n)
          let q := nf w 13 11
          if sp.2.1 ≠ 0 ∧ live = [] then (take s { idx := idx, status := 5 } false, true)
          else if !live.all (fun n => decide (s.queueBytes ((s.ethP n).queue q) + len ≤ 32768)) then (s, false)
          else
            let s := take sp.1 { idx := idx, left := live.length } false
            let form (n : Nat) : List Nat := match v with
              | some v => if byAddr then s.egressForm v n vp.2 d else d
              | none => d
            (forL live (fun n t => t.enqueue n q
              { data := padFrame (form n), src := .host p idx, red := if n < 2 then sp.2.2 else none
                launch := if nb w 22 then some (fromBytes ((dd.2.2.drop 16).take 8)) else none
                tsreq := nb w 20, onestep := nb w 21, tag := fromBytes ((dd.2.2.drop 12).take 2) }) s, true)

/-- Hand over descriptors as long as the ring goes on. -/
def State.txFetchGo (p : Nat) : Nat → State → State
  | 0, s => s
  | fuel + 1, s =>
    match s.txOne p with
    | (t, true) => State.txFetchGo p fuel t
    | (t, false) => t

def State.txFetch (s : State) (p : Nat) : State := State.txFetchGo p 1024 s

/-- Both rings may have room again. -/
def State.txFetchAll (s : State) : State := (s.txFetch 0x0B5).txFetch 0x0B9

/-- The ring page of a command: the host ring, or the service ring with `svc`. -/
def ringPage (svc : Bool) : Nat := if svc then 0x0B9 else 0x0B5

/-- TXTAIL_WRITE: software hands over transmit descriptors (R469). -/
def execTxtailWrite (dt : Nat) (who : Init) (svc : Bool) (v : Word) (s : State) : Host.Outcome State Fault Refusal :=
  onMain dt s fun s => s.cmdW who (ringPage svc) 0x04C fun _ s =>
    (s.wr (reg (ringPage svc) 0x04C) (nf v.toNat 9 0)).txFetch (ringPage svc)

/-- RXTAIL_WRITE: software hands over receive descriptors (R469). -/
def execRxtailWrite (dt : Nat) (who : Init) (svc : Bool) (v : Word) (s : State) : Host.Outcome State Fault Refusal :=
  onMain dt s fun s => s.cmdW who (ringPage svc) 0x06C fun _ s => s.wr (reg (ringPage svc) 0x06C) (nf v.toNat 9 0)

/-- ETH_TX_COMPLETE: the oldest finished descriptor takes DONE and its status, then TXHEAD and ES227; a descriptor write that
stops is reported and announces nothing (R172, R181).  A buffer that was poisoned or outside the windows has stopped the
ring (R470). -/
def execEthTxComplete (dt : Nat) (svc : Bool) (s : State) : Host.Outcome State Fault Refusal :=
  onMain dt s fun s =>
    let p := ringPage svc
    let r := s.ethRing p
    match r.work.find? (fun w => w.left == 0) with
    | none => s
    | some w =>
      let work := r.work.filter (fun x => x.idx != w.idx)
      let s := s.setEthRing p { r with work := work }
      let d := s.dmaWrite p ethBlk (s.rd64 (reg p 0x040) % 2 ^ 40 + 32 * w.idx + 0x18) (bytesOf 4 (2 ^ 31 + w.status))
      let s := if d.2 ≠ .ok then d.1.dmaStop p
        else (d.1.wr (reg p 0x050) (match work with | x :: _ => x.idx | [] => r.next)).raise p 1
      if w.bad then ((s.putBit (reg p 0x0A0) 0 true).raise p 2).errOpen p (s.ringPart p) 0x0102 else s

/-- RINGERR_CLEAR: a write of 1 clears RINGERR, and the stopped ring goes on (R470). -/
def execRingerrClear (dt : Nat) (who : Init) (svc : Bool) (v : Word) (s : State) : Host.Outcome State Fault Refusal :=
  onMain dt s fun s => s.cmdW who (ringPage svc) 0x0A0 fun _ s =>
    let p := ringPage svc
    if nb v.toNat 0 && s.bit (reg p 0x0A0) 0 then
      ((s.putBit (reg p 0x0A0) 0 false).setEthRing p { s.ethRing p with stop := false }).txFetch p
    else s

/-! ### Transmission events -/

/-- Put a stamp into the timestamp queue (R468). -/
def State.tsPut (s : State) (n tag stamp : Nat) : State :=
  if 16 ≤ s.eth.tsq.length then ((s.putBit R.ETH_TSOVF 0 true).incSat R.ETH_TSDROP).raise 0x0B8 1
  else
    let s := { s with eth := { s.eth with tsq := s.eth.tsq ++ [(n, tag % 65536, stamp)] } }
    (s.wr R.ETH_TSQCNT s.eth.tsq.length).raise 0x0B8 0

/-- The bytes as they left, with what transmission writes into them (R466, R467). -/
def State.sentForm (s : State) (n : Nat) (i : EthItem) (stamp : Nat) : List Nat :=
  match i.src with
  | .fwd m inStamp =>
    if s.ptpMode = 2 ∧ n < 4 ∧ m < 4 ∧ s.ptpEvent i.data then
      match ptpAt i.data with
      | some (_, o) => ptpCorrect i.data o (((stamp : Int) - inStamp) * 16384 +
          (if s.bit R.ETH_PTPCFG 2 then (s.fld (R.ETH_PDELAY m) 19 0 * 65536 : Nat) else 0))
      | none => i.data
    else i.data
  | _ => if i.onestep then ptpOneStep i.data stamp else i.data

/-- What a sent frame leaves at its source.  One that was cut was not sent (DESIGN CHOICE, assumption 120). -/
def State.sentAt (s : State) (n : Nat) (i : EthItem) (stamp : Nat) : State :=
  match i.src with
  | .fwd _ _ => s
  | .host p idx => (if i.tsreq then s.tsPut n i.tag stamp else s).txDone p idx 0
  | .pd k =>
    let cfg := s.rd (R.ETH_PDTCFG k)
    let x := s.ethPd k
    if i.cut then s.pdEnd k 2
    else
      let s' := s.setEthPd k { x with left := x.left - 1 }
      let s' := if nb cfg 16 then ((s'.draw 16).2.tsPut n (s'.draw 16).1 stamp) else s'
      if 1 < x.left then s'
      else ((s'.putFld (R.ETH_PDTSTAT k) 1 0 1).incWrapF (R.ETH_PDTSTAT k) 15 8).raiseIf (nb cfg 19) 0x0B6 0

/-- ETH_FRAME_TRANSMITTED: the frame of a port has left; its delimiter passed the MII boundary `ago` units earlier
(R459, R461). -/
def execEthFrameTransmitted (dt : Nat) (n : Fin 6) (ago : Nat) (s : State) : Host.Outcome State Fault Refusal :=
  onMain dt s fun s =>
    let n := n.val
    match (s.ethP n).cur with
    | none => s
    | some i =>
      let stamp := s.moduleTime - ago / 5 * 5
      let s := s.setEthP n { s.ethP n with cur := none, sent := some { i with data := s.sentForm n i stamp } }
      let s := if n < 4 then s.incWrap (R.ETH_TXFRM n) else s
      ((s.sentAt n i stamp).kick n).txFetchAll

/-- ETH_LAUNCH: a frame at the head of its queue is sent at L, or ends LATE or EARLY (R463). -/
def execEthLaunch (dt : Nat) (n : Fin 6) (q : Fin 8) (s : State) : Host.Outcome State Fault Refusal :=
  onMain dt s fun s =>
    match (s.ethP n.val).queue q.val with
    | [] => s
    | i :: l =>
      let c := s.launchCase n.val i
      if 2 ≤ c then (((s.setQueue n.val q.val l).itemEnd n.val i (c - 1)).kick n.val).txFetchAll else s.kick n.val

/-- GATE_LIST_ENTRY: the next entry's gate states apply (R462). -/
def execGateListEntry (dt : Nat) (n : Fin 4) (s : State) : Host.Outcome State Fault Refusal :=
  onMain dt s fun s => if (s.ethP n.val).gcl.on then (s.gclShow n.val).kick n.val else s

/-- GATE_LIST_SWITCH: a pending list takes over at its boundary (R462). -/
def execGateListSwitch (dt : Nat) (n : Fin 4) (s : State) : Host.Outcome State Fault Refusal :=
  onMain dt s fun s =>
    let x := s.ethP n.val
    match x.next with
    | some g =>
      if s.moduleTime < x.swAt then s
      else
        let s := s.setEthP n.val { x with gcl := g, next := none }
        (((s.putBit (R.ETH_TASSTAT n.val) 0 false).gclShow n.val).raise (portPage n.val) 0).kick n.val
    | none => s

/-! ### Reception (R461, R464, R465, R472) -/

/-- Write a received frame to a ring (R469, R470).  A transfer that stops is reported, and the frame is dropped (R172). -/
def State.rxDeliver (s : State) (p n : Nat) (d : List Nat) (stamp : Nat) : State :=
  let size := max 16 (s.fld (reg p 0x068) 10 0)
  let head := s.fld (reg p 0x070) 9 0
  let desc := s.rd64 (reg p 0x060) % 2 ^ 40 + 32 * head
  if head = s.fld (reg p 0x06C) 9 0 then s.incSat (reg p 0x0A4)
  else
    let a := s.dmaRead p ethBlk desc 8
    if a.2.1 ≠ .ok then a.1.dmaStop p
    else
      let b := a.1.dmaWrite p ethBlk (fromBytes a.2.2 % 2 ^ 40) d
      if b.2 ≠ .ok then b.1.dmaStop p
      else
        let w := 2 ^ 31 + d.length % 2048 + n * 65536 + b2n (s.ptpEvent d) * 2 ^ 20
        let x := b.1.dmaWrite p ethBlk (desc + 16) (bytesOf 8 stamp)
        let y := x.1.dmaWrite p ethBlk (desc + 8) (bytesOf 4 w)
        if x.2 ≠ .ok ∨ y.2 ≠ .ok then y.1.dmaStop p
        else (y.1.wr (reg p 0x070) ((head + 1) % size)).raise p 0

/-- Duplicate discard (R464): is the frame new, and has this port not brought it before?  A full table takes no entry, and the
frame counts as new. -/
def State.dupCheck (s : State) (n src seq : Nat) : State × Bool × Bool :=
  match s.eth.dup.find? (fun e => e.1 == src && e.2.1 == seq) with
  | some e =>
    let s := s.incSat R.ETH_DUPDISC
    ({ s with eth := { s.eth with
      dup := s.eth.dup.map (fun x => if x = e then (src, seq, e.2.2.1, e.2.2.2 ||| 2 ^ n) else x) } }, false, !nb e.2.2.2 n)
  | none =>
    if 1024 ≤ s.eth.dup.length then ((s.incSat R.ETH_DUPFULL).raise 0x0B5 9, true, true)
    else
      let s := { s with eth := { s.eth with dup := s.eth.dup ++ [(src, seq, s.ticks, 2 ^ n)] } }
      (s.wr R.ETH_DUPCNT s.eth.dup.length, true, true)

/-- The receive filter that takes a frame (R472). -/
def State.pdMatch (s : State) (n vid : Nat) (d : List Nat) : Option Nat :=
  (List.range 64).find? (fun k =>
    let cfg := s.rd (R.ETH_PDRCFG k)
    let ty := s.rd (R.ETH_PDRTYPE k)
    let mask := s.rd (R.ETH_PDRKMASK k)
    nb cfg 0 && decide (n < 4) && nb (nf cfg 4 1) n && etherType d == nf ty 15 0 &&
      (!nb cfg 5 || nf cfg 17 6 == vid) &&
      (mask == 0 || (decide (typeAt d + 6 + nf ty 22 16 ≤ d.length) &&
        (beAt d (typeAt d + 2 + nf ty 22 16) 4 &&& mask) == (s.rd (R.ETH_PDRKEY k) &&& mask))))

/-- CYC source kind 0x0A: STAT, four reserved bytes, the stamp and the data of filter `k`. -/
def State.ethItem (s : State) (k len : Nat) : List Nat :=
  let st := s.rd (R.ETH_PDRSTAT k)
  let o := s.rd64 R.ETH_PDRBASE % 2 ^ 40 + 2048 * k + 1024 * nf st 4 4 - dramBase
  bytesOf 4 st ++ bytesOf 4 0 ++ bytesOf 8 (tabGet (0, 0) s.eth.rx k).2 ++ s.dramBytes o (len - 16)

/-- A receive filter as CYC source: data, quality and stamp. -/
def State.ethSrc (s : State) (e : MapEnt) : List Nat × Nat × Nat :=
  let st := s.rd (R.ETH_PDRSTAT e.item)
  (s.ethItem e.item e.len, qual (nb st 0) false false (nb st 2), (tabGet (0, 0) s.eth.rx e.item).2)

/-- A filter stores a frame: the other half, then STAT and the stamp of its FCS together (R472). A transfer that stops is
reported and not announced (R172, R181). -/
def State.pdStore (s : State) (k : Nat) (d : List Nat) (stamp : Nat) : State :=
  let w := s.rd (R.ETH_PDRPLEN k)
  let o := typeAt d + 2 + nf w 26 16
  if d.length < o + nf w 10 0 then s.putBit (R.ETH_PDRSTAT k) 3 true
  else
    let st := s.rd (R.ETH_PDRSTAT k)
    let half := !nb st 4
    let a := s.rd64 R.ETH_PDRBASE % 2 ^ 40 + 2048 * k + 1024 * b2n half
    let r := s.dmaWrite 0x0B7 ethBlk a ((d.drop o).take (nf w 10 0))
    let s := r.1
    let s' := s.wr (R.ETH_PDRSTAT k) (3 + nf st 3 3 * 8 + b2n half * 16 + (nf st 15 8 + 1) % 256 * 256)
    let s' := { s' with eth := { s'.eth with rx := tabSet (0, 0) s'.eth.rx k (s'.ticks, stamp) } }
    if r.2 ≠ .ok then s.dmaStop 0x0B7
    else (s'.raiseIf (s.bit (R.ETH_PDRCFG k) 18) 0x0B7 0).srcReport (fun e => e.kind == 0x0A && e.item == k) State.ethSrc

/-- Forward to one egress port, or drop where the queue is full. -/
def State.forward (s : State) (m v pcp inPort stamp : Nat) (red : Option Nat) (d : List Nat) (n : Nat) : State :=
  let d := s.egressForm v n pcp d
  let q := s.fld (R.ETH_PCPMAP n) (3 * (pcp % 8) + 2) (3 * (pcp % 8))
  if !nb m n || !s.ethLink n then s
  else if 32768 < s.queueBytes ((s.ethP n).queue q) + d.length then s.incSat (R.ETH_QDROP n)
  else s.enqueue n q { data := d, src := .fwd inPort stamp, red := red }

/-- The HSR ring port that a frame goes on to: the other one, unless its address is known at port 4 alone (R464). -/
def State.ringOut (s : State) (n v : Nat) (red : Option Nat) (d : List Nat) : Nat :=
  if n < 2 ∧ s.prpMode = 2 ∧ red.isSome ∧ s.lookup v (beAt d 0 6) ≠ 0x10 then 2 ^ (1 - n) else 0

/-- A duplicate on the HSR ring that comes for the first time from this side goes on around the ring. -/
def State.ringPass (s : State) (n stamp : Nat) (red : Option Nat) (d : List Nat) : State :=
  let vp := s.vlanOf n d
  match s.vlanEntry vp.1 with
  | none => s
  | some v => s.forward (s.ringOut n v red d) v vp.2 n stamp red d (1 - n)

/-- A frame on the HSR ring that this module sent: its source address is known at port 4. -/
def State.ownFrame (s : State) (n : Nat) (d : List Nat) : Bool :=
  s.prpMode == 2 && decide (n < 2) && (match s.vlanEntry (s.vlanOf n d).1 with
    | some v => s.lookup v (beAt d 6 6) == 0x10
    | none => false)

/-- Bridge a frame that no filter took. -/
def State.bridge (s : State) (n stamp : Nat) (red : Option Nat) (d : List Nat) : State :=
  let vp := s.vlanOf n d
  let ty := s.ptpType d
  let mode := s.ptpMode
  if ty.isSome && mode == 1 then s.rxDeliver 0x0B5 n d stamp
  else
    match s.vlanEntry vp.1 with
    | none => if ty.isSome && mode == 2 then s.rxDeliver 0x0B5 n d stamp else s
    | some v =>
      let s := s.learn n v (beAt d 6 6)
      let m := s.egress n v (beAt d 0 6)
      let stay := mode == 2 && s.bit R.ETH_PTPCFG 2 && ty.any ptpPdelay
      let out := if stay then 0 else (m &&& 0xF) ||| s.ringOut n v red d
      let s := if nb m 4 || (ty.isSome && mode == 2) then s.rxDeliver 0x0B5 n (s.egressForm v 4 vp.2 d) stamp else s
      let pair := !decide (n < 2) && s.prpMode != 0
      let sp := if pair then s.redPair out else (s, out, none)
      forN 4 (fun k t =>
        t.forward sp.2.1 v vp.2 n stamp (if 2 ≤ k then none else if pair then sp.2.2 else red) d k) sp.1

/-- ETH_FRAME_RECEIVED: a frame whose FCS is checked at phase `ph` and whose delimiter passed the MII boundary `ago` units
earlier (R459, R461). -/
def execEthFrameReceived (dt : Nat) (n : Fin 6) (f : EthFrame) (ago : Nat) (ph : Fin 8) (s : State) :
    Host.Outcome State Fault Refusal :=
  guarded (Instr.ethFrameReceived dt n f ago ph).wf dt s (onMain dt s fun s =>
    let n := n.val
    let d := f.data.map BitVec.toNat
    let stamp := s.stamp ph.val - ago / 5 * 5
    let big := decide (1518 < d.length)
    if n = 4 ∨ !s.ethLink n then s
    else if n = 5 then
      if !f.fcs then s
      else if big then s.incSat R.ETH_OVERSIZE
      else s.rxDeliver 0x0B9 5 d stamp
    else if !s.bit R.ETH_CTRL 0 then s
    else if !f.fcs then s.incSat (R.ETH_RXERR n)
    else
      let s := s.incWrap (R.ETH_RXFRM n)
      let s := if n < 2 ∧ s.prpMode ≠ 0 then
        { s with eth := { s.eth with lan := tabSet 0 s.eth.lan n s.ticks } }.putBit R.ETH_PRPSTAT n false else s
      if big then s.incSat R.ETH_OVERSIZE
      else
        let red := f.red.map BitVec.toNat
        let chk := match red with
          | some k => if n < 2 ∧ s.prpMode ≠ 0 ∧ !s.ptpEvent d then s.dupCheck n (beAt d 6 6) k else (s, true, true)
          | none => (s, true, true)
        if s.ownFrame n d then s
        else if !chk.2.1 then (if chk.2.2 then chk.1.ringPass n stamp red d else chk.1)
        else
          let s := chk.1
          match s.pdMatch n (s.vlanOf n d).1 d with
          | some k => s.pdStore k d (s.stamp ph.val)
          | none => s.bridge n stamp red d)

/-! ### Links, ageing, redundancy (R460, R461, R464) -/

/-- Every frame that waits on a port, or leaves it, ends for want of a link. -/
def State.portFlush (s : State) (n : Nat) : State :=
  let x := s.ethP n
  let all := (match x.cur with | some i => [i] | none => []) ++ (List.range 8).flatMap (fun q => x.queue q)
  let s := s.setEthP n { x with q := [], cur := none }
  forL all (fun i t => t.itemEnd n i 5) s

/-- The link of a port comes up or goes down. -/
def State.setLink (s : State) (n : Nat) (up gig : Bool) : State :=
  if s.ethLink n = up then s
  else
    let s := if n < 4 then
      let w := if !up then 0 else if gig then 238 + 112 * 65536 else 280 + 96 * 65536
      ((s.putBit R.ETH_STAT (4 + n) up).wr (R.ETH_PSTAT n) (if !up then 0 else if gig then 5 else 3)).wr (R.ETH_PHYLAT n) w
      else s.putBit R.ETH_STAT 8 up
    (if up then s.kick n else s.portFlush n).raise 0x0B0 0

/-- ETH_LINK_CHANGE: at 1000 Mbit/s with `gig`; a port that is disabled or does not offer the speed gets no link (R460). -/
def execEthLinkChange (dt : Nat) (n : Fin 6) (up gig : Bool) (s : State) : Host.Outcome State Fault Refusal :=
  onMain dt s fun s =>
    let n := n.val
    let sp := s.fld (R.ETH_PCFG n) 1 0
    if n = 4 then s
    else if !up then (s.setLink n false false).txFetchAll
    else if n = 5 then (if gig then s else s.setLink n true false)
    else if s.bit (R.ETH_PCFG n) 2 && (sp == 0 || (sp == 2) == gig) then s.setLink n true gig
    else s

/-- FDB_AGE_OUT: the oldest learned entry has reached AGETIME (R461). -/
def execFdbAgeOut (dt : Nat) (s : State) : Host.Outcome State Fault Refusal :=
  onMain dt s fun s =>
    match s.eth.fdb with
    | [] => s
    | e :: l =>
      if s.secSince e.2.2.2 (s.fld R.ETH_AGETIME 11 0) then { s with eth := { s.eth with fdb := l } }.wr R.ETH_FDBCNT l.length
      else s

/-- PRP_ENTRY_EXPIRY: the oldest duplicate entry has lived for FORGET (R464). -/
def execPrpEntryExpiry (dt : Nat) (s : State) : Host.Outcome State Fault Refusal :=
  onMain dt s fun s =>
    match s.eth.dup with
    | [] => s
    | e :: l =>
      if s.msSince e.2.2.1 (s.fld R.ETH_PRPCFG 25 16) then { s with eth := { s.eth with dup := l } }.wr R.ETH_DUPCNT l.length
      else s

/-- PRP_LAN_MISSING: a LAN has received nothing for 2 s while the other receives (R464). -/
def execPrpLanMissing (dt : Nat) (n : Fin 2) (s : State) : Host.Outcome State Fault Refusal :=
  onMain dt s fun s =>
    if s.prpMode != 0 && s.secSince (tabGet 0 s.eth.lan n.val) 2 && !s.secSince (tabGet 0 s.eth.lan (1 - n.val)) 2 &&
        !s.bit R.ETH_PRPSTAT n.val then (s.putBit R.ETH_PRPSTAT n.val true).raise 0x0B5 8
    else s

/-- TSPOP: the oldest entry of the timestamp queue (R468). -/
def execTspop (dt : Nat) (who : Init) (s : State) : Host.Outcome State Fault Refusal :=
  onMain dt s fun s => s.cmdR who 0x0B8 0xC00 fun _ s =>
    match s.eth.tsq with
    | [] => { s with resp := .data 0 }
    | e :: l =>
      let s := { s with eth := { s.eth with tsq := l }, resp := .data (2 ^ 31 + e.1 * 65536 + e.2.1) }
      (s.wr R.ETH_TSQCNT l.length).wr64 R.ETH_TS e.2.2

/-! ### Process data: launching (R471, R472) -/

/-- Timer multiples of object `k` passed so far. -/
def State.pdTimer (s : State) (k : Nat) : Nat :=
  (s.moduleTime + 4 * (s.fld (R.ETH_PDTPER k) 29 0 - s.fld (R.ETH_PDTPHASE k) 29 0)) / (4 * max 1 (s.fld (R.ETH_PDTPER k) 29 0))

/-- The launch time that object `k` has reached, with the object as it goes on; none if there is no new one. -/
def State.pdDue (s : State) (k : Nat) : Option (Nat × EthPd) :=
  let cfg := s.rd (R.ETH_PDTCFG k)
  let x := s.ethPd k
  match nf cfg 2 1 with
  | 0 => match x.due with
    | l :: t => if l ≤ s.moduleTime then some (l, { x with due := t }) else none
    | [] => none
  | 1 =>
    let n := s.pdTimer k
    if n = x.seen then none
    else some (4 * ((n - 1) * s.fld (R.ETH_PDTPER k) 29 0 + s.fld (R.ETH_PDTPHASE k) 29 0), { x with seen := n })
  | 2 =>
    match s.strobeNext (nf cfg 8 3) x.seen with
    | some o => if s.moduleTime < o.inst + 8000 then none else some (o.inst + 8000, { x with seen := o.count })
    | none => none
  | _ => none

/-- PD_TX_LAUNCH: object `k` reaches its launch time; its frame follows R463 on every port it names that has a link, and is
not sent where none has. -/
def execPdTxLaunch (dt : Nat) (k : Fin 32) (s : State) : Host.Outcome State Fault Refusal :=
  onMain dt s fun s =>
    let k := k.val
    let cfg := s.rd (R.ETH_PDTCFG k)
    match s.pdDue k with
    | none => s
    | some (l, x) =>
      let s := s.setEthPd k x
      if !nb cfg 0 || (s.pdMapped k && (x.stopped || (!x.en && !x.template))) then s
      else if s.pdGated then s.putFld (R.ETH_PDTSTAT k) 1 0 3
      else
        let sp := s.redPair (nf cfg 15 12)
        let live := (maskPorts sp.2.1).filter (fun n => s.ethLink n)
        if live.isEmpty then ((sp.1.putFld (R.ETH_PDTSTAT k) 1 0 2).raise 0x0B6 1)
        else
        let s := sp.1.setEthPd k { x with left := x.left + live.length }
        forL live (fun n t => t.enqueue n (nf cfg 11 9)
          { src := .pd k, red := if n < 2 then sp.2.2 else none, launch := some l }) s

/-- PD_RX_TIMEOUT: no update for TMO µs (R472). -/
def execPdRxTimeout (dt : Nat) (k : Fin 64) (s : State) : Host.Outcome State Fault Refusal :=
  onMain dt s fun s =>
    let k := k.val
    let tmo := s.fld (R.ETH_PDRTMO k) 23 0
    if s.bit (R.ETH_PDRCFG k) 0 && tmo != 0 && !s.bit (R.ETH_PDRSTAT k) 2 &&
        s.usSince (tabGet (0, 0) s.eth.rx k).1 tmo then
      ((s.putBit (R.ETH_PDRSTAT k) 2 true).raise 0x0B7 1).srcReport (fun e => e.kind == 0x0A && e.item == k) State.ethSrc
    else s

/-! ### Commits (R462, R464, R465, R469, R471, R479) -/

/-- Does a range of physical addresses lie in one NORMAL window of partition `n`, writable with `w`? -/
def State.inNormal (s : State) (n a len : Nat) (w : Bool) : Bool :=
  decide (dramBase ≤ a) &&
    (match s.windowAt (a - dramBase) with
    | some x => s.wOwner x == some n && s.wKind x == kNormal && (!w || s.wW x) &&
        decide (a - dramBase + len ≤ s.wBase x + s.wSize x)
    | none => false)

/-- A ring of the commit of its page: a ring whose base is 0 is not set up. -/
def State.ringOk (s : State) (p o : Nat) : Bool :=
  let size := s.shFld (reg p (o + 8)) 10 0
  let a := s.sh64 (reg p o) % 2 ^ 40
  within 16 1024 size && size % 16 == 0 && (a == 0 || s.inNormal (s.ringPart p) a (32 * size) true)

/-- The check of a port page. -/
def State.portCheck (s : State) (n : Nat) : Verdict :=
  let len := s.shFld (R.ETH_GCLCFG n) 24 16
  let cyc := s.shFld (R.ETH_CYCTIME n) 29 0
  let iv := (List.range len).map (fun i => s.shFld (R.ETH_GCLB n i) 29 0)
  if 256 < len then .table 0x10
  else
    let on := s.shBit (R.ETH_GCLCFG n) 0
    rangeIf (s.shFld (R.ETH_PCFG n) 1 0 != 3 && within 1000 1000000000 cyc &&
      decide (s.shFld (R.ETH_LATETOL n) 19 0 ≤ 1000000) &&
      (!on || (iv.all (fun x => within 8 1000000000 x) && iv.foldl (· + ·) 0 == cyc)))

/-- The check of an ETH page. -/
def State.ethCheck (s : State) (p : Nat) : Verdict :=
  if p = 0x0B0 then rangeIf (within 10 3600 (s.shFld R.ETH_AGETIME 11 0))
  else if 0x0B1 ≤ p ∧ p ≤ 0x0B4 then s.portCheck (p - 0x0B1)
  else if p = 0x0B5 then
    rangeIf (s.ringOk p 0x040 && s.ringOk p 0x060 && s.shFld R.ETH_PRPCFG 1 0 != 3 &&
      within 100 1000 (s.shFld R.ETH_PRPCFG 25 16))
  else if p = 0x0B9 then rangeIf (s.ringOk p 0x040 && s.ringOk p 0x060)
  else if p = 0x0B6 then
    let on := (List.range 32).filter (fun k => s.shBit (R.ETH_PDTCFG k) 0)
    if 32768 < on.foldl (fun a k => a + s.shFld (R.ETH_PDTPLEN k) 10 0) 0 then .table 0x11
    else
      rangeIf ((List.range 32).all (fun k =>
        let len := s.shFld (R.ETH_PDTLEN k) 10 0
        let pl := s.shFld (R.ETH_PDTPLEN k) 10 0
        let per := s.shFld (R.ETH_PDTPER k) 29 0
        s.shFld (R.ETH_PDTCFG k) 2 1 != 3 && within 60 1514 len && decide (pl ≤ 1454) &&
          decide (s.shFld (R.ETH_PDTLEN k) 26 16 + pl ≤ len) && within 10000 1000000000 per &&
          decide (s.shFld (R.ETH_PDTPHASE k) 29 0 < per)) &&
        on.all (fun k => s.inNormal ((s.owner p).getD 0) (s.sh64 R.ETH_PDTBASE % 2 ^ 40 + 2048 * k)
          (s.shFld (R.ETH_PDTLEN k) 10 0) false))
  else if p = 0x0B7 then rangeIf ((List.range 64).all (fun k => within 1 1024 (s.shFld (R.ETH_PDRPLEN k) 10 0)))
  else if p = 0x0B8 then rangeIf (s.shFld R.ETH_PTPCFG 1 0 != 3)
  else .ok

/-- The registers of a gate list. -/
def gclRegs (n : Nat) : List Nat :=
  [R.ETH_GCLCFG n, R.ETH_CYCTIME n, R.ETH_BASE n, R.ETH_BASE n + 4] ++
    (List.range 256).flatMap (fun i => [R.ETH_GCLA n i, R.ETH_GCLB n i])

/-- The gate list that the registers of port `n` spell. -/
def State.gclOf (s : State) (n : Nat) : Gcl :=
  { on := s.bit (R.ETH_GCLCFG n) 0, cyc := s.fld (R.ETH_CYCTIME n) 29 0, base := s.rd64 (R.ETH_BASE n)
    ent := (List.range (s.fld (R.ETH_GCLCFG n) 24 16)).map
      (fun i => (s.fld (R.ETH_GCLA n i) 7 0, s.fld (R.ETH_GCLB n i) 29 0)) }

/-- What an ETH page does when its shadows became active. -/
def State.ethApplied (s old : State) (p : Nat) : State :=
  if p = 0x0B0 then
    forN 4 (fun n t => t.kick n) (s.putBit R.ETH_STAT 0 (s.bit R.ETH_CTRL 0))
  else if 0x0B1 ≤ p ∧ p ≤ 0x0B4 then
    let n := p - 0x0B1
    let sp := s.fld (R.ETH_PCFG n) 1 0
    let s := if !s.bit (R.ETH_PCFG n) 2 || (sp != 0 && sp != s.fld (R.ETH_PSTAT n) 2 1) then
      (s.setLink n false false).txFetchAll else s
    if (gclRegs n).any (fun x => s.rd x != old.rd x) then
      let g := s.gclOf n
      (s.setEthP n { s.ethP n with next := some g, swAt := g.boundary (s.moduleTime + 4000) }).putBit (R.ETH_TASSTAT n) 0 true
    else s
  else if p = 0x0B5 then
    if s.prpMode = old.prpMode then s
    else { s with eth := { s.eth with lan := tabSet 0 (tabSet 0 s.eth.lan 0 s.ticks) 1 s.ticks } }
  else if p = 0x0B6 then
    forN 32 (fun k t =>
      if (List.range 5).any (fun j => t.rd (R.ETH_PDTCFG k + 4 * j) != old.rd (R.ETH_PDTCFG k + 4 * j)) then
        let x := t.ethPd k
        t.setEthPd k { x with
          due := [], seen := if t.fld (R.ETH_PDTCFG k) 2 1 = 1 then t.pdTimer k else (t.strobe (t.fld (R.ETH_PDTCFG k) 8 3)).count }
      else t) s
  else if p = 0x0B7 then
    forN 64 (fun k t =>
      if t.bit (R.ETH_PDRCFG k) 0 && !old.bit (R.ETH_PDRCFG k) 0 then
        { t with eth := { t.eth with rx := tabSet (0, 0) t.eth.rx k (t.ticks, (tabGet (0, 0) t.eth.rx k).2) } }
      else t) s
  else s

/-- Module time was stepped: pending boundaries are taken on the new time, and timers go on at the next multiple
(R453, R474). -/
def State.ethStep (s : State) : State :=
  let s := forN 4 (fun n t =>
    let x := t.ethP n
    match x.next with
    | some g => t.setEthP n { x with swAt := g.boundary t.moduleTime }
    | none => t.gclShow n) s
  forN 32 (fun k t =>
    if t.fld (R.ETH_PDTCFG k) 2 1 = 1 then t.setEthPd k { t.ethPd k with seen := t.pdTimer k } else t) s

/-- The state behind ETH page `p` after a reset of the page. -/
def State.ethReset (s : State) (p : Nat) : State :=
  if p = 0x0B0 then { s with eth := { s.eth with fdb := [] } }
  else if 0x0B1 ≤ p ∧ p ≤ 0x0B4 then (s.portFlush (p - 0x0B1)).setEthP (p - 0x0B1) {}
  else if p = 0x0B5 then (s.setEthRing p {}) |> fun t => { t with eth := { t.eth with dup := [], lan := [] } }
  else if p = 0x0B9 then s.setEthRing p {}
  else if p = 0x0B6 then { s with eth := { s.eth with pd := [] } }
  else if p = 0x0B7 then { s with eth := { s.eth with rx := [] } }
  else if p = 0x0B8 then { s with eth := { s.eth with tsq := [] } }
  else s

/-! ### Programs (R473) -/

/-- A snapshot clears NEW of a mapped filter. -/
def State.ethSnap (s : State) (k : Nat) : State := s.putBit (R.ETH_PDRSTAT k) 1 false

/-- CYC sink kind 0x24 for object `k` at a commit of instant `tc`. -/
def State.ethSink (s : State) (k tc : Nat) (b : List Nat) : State :=
  let x := s.ethPd k
  s.setEthPd k { x with
    en := nb (b.getD 0 0) 0, pay := b.drop 4, stopped := false, template := false
    due := if s.fld (R.ETH_PDTCFG k) 2 1 = 0 then x.due ++ [tc + 8000] else x.due }

/-- The safe commit of a mapped object (R471). -/
def State.ethSafe (s : State) (k tc : Nat) : State :=
  let x := s.ethPd k
  if s.bit (R.ETH_PDTCFG k) 17 then
    s.setEthPd k { x with
      template := true, due := if s.fld (R.ETH_PDTCFG k) 2 1 = 0 then x.due ++ [tc + 8000] else x.due }
  else s.setEthPd k { x with stopped := true, due := [] }

end Sys2Proof.Machine
end

