-- ==== Sys2Proof/Machine/Gwy.lean ====
section
/-! DEFINITION. GWY: signals copied between CAN objects, process data and cyclic programs (R481 to R487). -/
namespace Sys2Proof.Machine

def State.gwySig (s : State) (g : Nat) : GwySig := tabGet {} s.gwy.sig g
def State.setGwySig (s : State) (g : Nat) (x : GwySig) : State := { s with gwy := { sig := tabSet {} s.gwy.sig g x } }

/-! ### Registers of a signal -/

abbrev gSrc (g : Nat) : Nat := R.GWY_SRC (g / 64) (g % 64)
abbrev gSpos (g : Nat) : Nat := R.GWY_SPOS (g / 64) (g % 64)
abbrev gDst (g : Nat) : Nat := R.GWY_DST (g / 64) (g % 64)
abbrev gDpos (g : Nat) : Nat := R.GWY_DPOS (g / 64) (g % 64)
abbrev gTmo (g : Nat) : Nat := R.GWY_TMO (g / 64) (g % 64)
abbrev gSub (g : Nat) : Nat := R.GWY_SUB (g / 64) (g % 64)

def State.gwyOn (s : State) (g : Nat) : Bool := s.bit R.GWY_CTRL 0 && s.bit (gSrc g) 31

/-- Offset, length, BIGEND and SIGNED of a field register (R481). -/
structure GwyField where
  ofs : Nat
  len : Nat
  big : Bool
  sgn : Bool

def gwyField (w : Nat) : GwyField := { ofs := nf w 12 0, len := nf w 21 16 + 1, big := nb w 24, sgn := nb w 25 }

/-- The field of a region as a 64-bit number, extended (R481). -/
def GwyField.get (f : GwyField) (d : List Nat) : Nat :=
  let raw := fromBytes d / 2 ^ f.ofs % 2 ^ f.len
  let v := if f.big then be (bytesOf (f.len / 8) raw) else raw
  if f.sgn then toBits 64 (sx f.len v) else v

/-- The bits of the field in its region. -/
def GwyField.mask (f : GwyField) : Nat := (2 ^ f.len - 1) * 2 ^ f.ofs

/-- A number in the bit order of the field. -/
def GwyField.form (f : GwyField) (v : Nat) : Nat :=
  if f.big then fromBytes (beBytes (f.len / 8) v) else v % 2 ^ f.len

/-- The value that a destination field takes, and whether it was saturated (R481). -/
def gwySat (src dst : GwyField) (v : Nat) : Nat × Bool :=
  let x : Int := if src.sgn then sx 64 v else (v : Int)
  let y : Int := if dst.sgn then clampInt (-(2 ^ (dst.len - 1) : Nat)) ((2 ^ (dst.len - 1) : Nat) - 1) x
    else clampInt 0 ((2 ^ dst.len : Nat) - 1) x
  if src.len ≤ dst.len then (toBits 64 x, false) else (toBits 64 y, decide (y ≠ x))

/-! ### Sources and destinations -/

/-- Kind, INST and ITEM of a source. -/
def State.gwySource (s : State) (g : Nat) : Nat × Nat × Nat :=
  (s.fld (gSrc g) 1 0, s.fld (gSrc g) 3 2, s.fld (gSrc g) 15 8)

/-- Updates of a source so far, its last stamp and its bytes. -/
def State.gwyRead (s : State) (g : Nat) : Nat × Nat × List Nat :=
  let src := s.gwySource g
  if src.1 = 1 then
    match (s.rxEntries [] src.2.1)[src.2.2]? with
    | some d => let o := s.canObj src.2.1 d
                (o.total, o.stamp, o.data)
    | none => (0, 0, [])
  else if src.1 = 2 then
    let k := src.2.2 % 64
    let b := s.ethItem k (16 + s.fld (R.ETH_PDRPLEN k) 10 0)
    (s.fld (R.ETH_PDRSTAT k) 15 8, (tabGet (0, 0) s.eth.rx k).2, b.drop 16)
  else if src.1 = 3 then
    let x := s.gwySig g
    (x.cycN, x.cycTc, bytesOf 8 x.cyc)
  else (0, 0, [])

/-- Frames that the destination of a signal has started. -/
def State.gwyStarts (s : State) (g : Nat) : Nat :=
  let k := s.fld (gDst g) 12 8
  match s.fld (gDst g) 1 0 with
  | 1 => (s.canTx (s.fld (gDst g) 3 2) k).starts
  | 2 => (s.ethPd k).starts
  | _ => 0

/-- Write a value into the destination of a signal (R482). -/
def State.gwyPut (s : State) (g v : Nat) : State :=
  let f := gwyField (s.rd (gDpos g))
  let mask := f.mask
  let bits := f.form (gwySat (gwyField (s.rd (gSpos g))) f v).1 * 2 ^ f.ofs
  let k := s.fld (gDst g) 12 8
  match s.fld (gDst g) 1 0 with
  | 1 =>
    let c := s.fld (gDst g) 3 2
    let x := s.canTx c k
    s.txWrite c k x.dlc (bytesOf 64 (mergeBits (fromBytes x.buf) mask bits))
  | 2 =>
    let x := s.ethPd k
    s.setEthPd k { x with gmask := x.gmask ||| mask, gval := mergeBits x.gval mask bits }
  | _ => s

/-- The page of a source or destination, by its kind, controller and item. -/
def State.gwySrcPage (s : State) (g : Nat) : Option Nat :=
  let src := s.gwySource g
  if src.1 = 1 then
    let d := (s.rxEntries [] src.2.1).getD src.2.2 0
    some (0x0A2 + 4 * src.2.1 + d / 192)
  else if src.1 = 2 then some 0x0B7 else none

def State.gwyDstPage (s : State) (g : Nat) : Option Nat :=
  match s.fld (gDst g) 1 0 with
  | 1 => some (0x0A1 + 4 * s.fld (gDst g) 3 2)
  | 2 => some 0x0B6
  | _ => none

/-- May the owner of GWY use a page: its own, one without an owner, or one read-granted to it (R482)? -/
def State.gwyMay (s : State) (p : Option Nat) : Bool :=
  match p, s.owner 0x0C0 with
  | some p, some n => s.owns n p || (s.owner p).isNone || s.granted n p
  | some _, none => false
  | none, _ => true

/-- Is a signal suspended by its source or destination (R485)? -/
def State.gwyBlocked (s : State) (g : Nat) : Bool :=
  let src := s.gwySource g
  (src.1 == 1 && s.canState src.2.1 == csOff) ||
  (s.fld (gDst g) 1 0 == 1 && s.canState (s.fld (gDst g) 3 2) == csOff) ||
  (match s.gwyDstPage g with
   | some p => s.ownMask p != (s.gwySig g).own
   | none => false) ||
  !s.gwyMay (s.gwySrcPage g) || !s.gwyMay (s.gwyDstPage g)

/-! ### Updates (R483, R484) -/

/-- CYC source kind 0x0B. -/
def State.gwyItem (s : State) (g len : Nat) : List Nat :=
  (bytesOf 8 (s.rd64 (R.GWY_VAL g)) ++ bytesOf 8 (s.gwySig g).stamp).take len

/-- A signal as CYC source: data, quality and stamp. -/
def State.gwySrc (s : State) (e : MapEnt) : List Nat × Nat × Nat :=
  let st := s.rd (R.GWY_SSTAT e.item)
  (s.gwyItem e.item e.len, qual (nb st 0) (nb st 2) false (nb st 3 || nb st 4) + 8 * b2n (nb st 1),
    (s.gwySig e.item).stamp)

/-- A signal reports its value and quality. -/
def State.gwyShow (s : State) (g : Nat) : State := s.srcReport (fun e => e.kind == 0x0B && e.item == g) State.gwySrc

/-- One signal takes a new source update. -/
def State.gwyUpdate (s : State) (g : Nat) : State :=
  let x := s.gwySig g
  let r := s.gwyRead g
  let st := R.GWY_SSTAT g
  let isEth := s.fld (gSrc g) 1 0 = 2
  let n := if isEth then (r.1 + 256 - x.seen % 256) % 256 else r.1 - x.seen
  if n = 0 then s
  else if s.gwyBlocked g then
    ((((s.setGwySig g { x with seen := r.1 }).putBit st 3 true).raiseIf (!s.bit st 3) 0x0C0 3)).gwyShow g
  else
    let f := gwyField (s.rd (gSpos g))
    let s := s.putBit st 3 false
    if 8 * r.2.2.length < f.ofs + f.len then ((s.setGwySig g { x with seen := r.1 }).putBit st 4 true).gwyShow g
    else
      let v := f.get r.2.2
      let clip := s.fld (gDst g) 1 0 != 0 && (gwySat f (gwyField (s.rd (gDpos g))) v).2
      let starts := s.gwyStarts g + 1
      let unsent := if s.fld (gDst g) 1 0 = 0 then 0 else (n - 1) + b2n (x.starts == starts)
      let was := s.bit st 2
      let s := s.addSat (R.GWY_OVWR g) unsent
      let s := (s.setGwySig g { x with seen := r.1, stamp := r.2.1, tick := s.ticks, starts := starts }).wr64 (R.GWY_VAL g) v
      let s := s.wr st (1 + b2n clip * 4 + (s.fld st 15 8 + 1) % 256 * 256)
      let lat := (s.moduleTime - r.2.1) / 40
      let s := if s.fld (gDst g) 1 0 != 0 && decide (s.rd R.GWY_LATMAX < lat) then s.wr R.GWY_LATMAX lat else s
      let s := s.gwyShow g
      (((s.gwyPut g v).raiseIf (s.bit (gTmo g) 17) 0x0C0 0).raiseIf (clip && !was) 0x0C0 2)

/-- A signal that a condition of R485 meets is suspended from then on: SUSP and ES243.  Its SUSP clears at the first source
update after the condition ends (assumption 63). -/
def State.gwyWatch (s : State) : State :=
  forN 128 (fun g t =>
    if t.gwyOn g && !t.bit (R.GWY_SSTAT g) 3 && t.gwyBlocked g then
      ((t.putBit (R.GWY_SSTAT g) 3 true).raise 0x0C0 3).gwyShow g
    else t) s

/-- The enabled signals of a source. -/
def State.gwyFed (s : State) (kind inst item : Nat) : List Nat :=
  (List.range 128).filter (fun g =>
    let src := s.gwySource g
    s.gwyOn g && src.1 == kind &&
      (if kind = 3 then g == item else src.2.2 == item && (kind != 1 || src.2.1 == inst)))

/-- GWY_SIGNAL_WRITE: after an update of a source, every signal that it feeds goes to its destination (R483). -/
def execGwySignalWrite (dt : Nat) (kind : Fin 4) (inst : Fin 4) (item : Fin 256) (s : State) :
    Host.Outcome State Fault Refusal :=
  onMain dt s fun s => forL (s.gwyFed kind.val inst.val item.val) (fun g t => t.gwyUpdate g) s

/-- GWY_STALE: no update for TMO ms (R484). -/
def execGwyStale (dt : Nat) (g : Fin 128) (s : State) : Host.Outcome State Fault Refusal :=
  onMain dt s fun s =>
    let g := g.val
    let tmo := s.fld (gTmo g) 15 0
    if s.gwyOn g && tmo != 0 && !s.bit (R.GWY_SSTAT g) 1 && s.msSince (s.gwySig g).tick tmo then
      let s := ((s.putBit (R.GWY_SSTAT g) 1 true).raise 0x0C0 1).gwyShow g
      if s.bit (gTmo g) 16 && !s.gwyBlocked g then s.gwyPut g (s.rd64 (gSub g)) else s
    else s

/-- GWY_CNTCLR: clear LATMAX and every OVWR. -/
def execGwyCntclr (dt : Nat) (who : Init) (v : Word) (s : State) : Host.Outcome State Fault Refusal :=
  onMain dt s fun s => s.cmdW who 0x0C0 0xC00 fun _ => onOne v fun s =>
    (forN 128 (fun g t => t.wr (R.GWY_OVWR g) 0) s).wr R.GWY_LATMAX 0

/-! ### Commits (R482) -/

/-- A state in which the shadows of the pages `g` are active: what a commit of them would leave. -/
def State.taken (s : State) (g : List Nat) : State :=
  { s with regs := s.shadow.foldl (fun m e =>
      if g.contains (e.1 / 4096) then tabSet (resetWord e.1) m e.1 e.2 else m) s.regs }

/-- Does a field of an enabled signal lie in its frame, and does BIGEND keep to bytes? -/
def GwyField.fits (f : GwyField) (bytes : Nat) : Bool :=
  decide (f.len ≤ 64) && decide (f.ofs + f.len ≤ 8 * bytes) && (!f.big || (f.ofs % 8 == 0 && f.len % 8 == 0))

/-- Is one enabled signal right, in the state the commit would leave; `reads` says which signals a source map reads? -/
def State.gwySigOk (s : State) (reads : Nat → Bool) (g : Nat) : Bool :=
  let src := s.gwySource g
  let sf := gwyField (s.rd (gSpos g))
  let df := gwyField (s.rd (gDpos g))
  let dk := s.fld (gDst g) 1 0
  let k := s.fld (gDst g) 12 8
  let sb := if src.1 = 1 then dsize (s.rxd [] src.2.1 ((s.rxEntries [] src.2.1).getD src.2.2 0)).2.2
    else if src.1 = 2 then s.fld (R.ETH_PDRPLEN (src.2.2 % 64)) 10 0 else 8
  s.gwyMay (s.gwySrcPage g) && s.gwyMay (s.gwyDstPage g) && sf.fits sb && src.1 != 0 && dk != 3 &&
  (src.1 != 2 || decide (src.2.2 < 64)) &&
  (if dk = 0 then src.1 != 3 || reads g
   else df.fits (if dk = 1 then 64 else s.fld (R.ETH_PDTPLEN k) 10 0) &&
     !(if dk = 1 then s.txMapped (s.fld (gDst g) 3 2) k else s.pdMapped k) &&
     (List.range 128).all (fun h =>
       let o := gwyField (s.rd (gDpos h))
       h == g || !s.bit (gSrc h) 31 || s.fld (gDst h) 1 0 != dk || s.fld (gDst h) 12 8 != k ||
         (dk == 1 && s.fld (gDst h) 3 2 != s.fld (gDst g) 3 2) ||
         decide (o.ofs + o.len ≤ df.ofs) || decide (df.ofs + df.len ≤ o.ofs)))

/-- The check of a signal page, with the pages of the commit `g`. -/
def State.gwyCheck (s : State) (g : List Nat) (reads : Nat → Bool) (p : Nat) : Verdict :=
  if p = 0x0C1 ∨ p = 0x0C2 then
    let t := s.taken g
    rangeIf ((List.range 128).all (fun k => !t.bit (gSrc k) 31 || t.gwySigOk reads k))
  else .ok

/-- What a GWY page does when its shadows became active: staging buffers are loaded, and the signals write what they
hold. -/
def State.gwyApplied (s old : State) (p : Nat) : State :=
  let rises := s.bit R.GWY_CTRL 0 && !old.bit R.GWY_CTRL 0
  let s := s.wr R.GWY_STAT (b2n (s.bit R.GWY_CTRL 0))
  if p = 0x0C1 ∨ p = 0x0C2 ∨ (p = 0x0C0 ∧ rises) then
    let on := (List.range 128).filter (fun g => s.bit (gSrc g) 31)
    let s := s.wr R.GWY_SIGCNT on.length
    let s := forL on (fun g t =>
      let x := t.gwySig g
      let fresh := rises || !old.bit (gSrc g) 31 || (t.gwySource g != old.gwySource g)
      let t := if fresh then (t.wr (R.GWY_SSTAT g) 0).setGwySig g { x with
          seen := (t.gwyRead g).1, stamp := 0, tick := t.ticks, starts := 0 } else t
      t.setGwySig g { t.gwySig g with own := (t.gwyDstPage g).elim 0 t.ownMask }) s
    let s := forN 32 (fun k t => t.setEthPd k { t.ethPd k with gmask := 0, gval := 0 }) s
    let can := on.filter (fun g => s.fld (gDst g) 1 0 == 1)
    let s := forN 4 (fun c t => forN 32 (fun k u =>
      if (u.canTx c k).gmask = 0 then u else u.setTx c k { u.canTx c k with gmask := 0 }) t) s
    let s := forL can (fun g t => t.txLoad (t.fld (gDst g) 3 2) (t.fld (gDst g) 12 8)) s
    let s := forL can (fun g t =>
      let c := t.fld (gDst g) 3 2
      let k := t.fld (gDst g) 12 8
      t.setTx c k { t.canTx c k with gmask := (t.canTx c k).gmask ||| (gwyField (t.rd (gDpos g))).mask }) s
    (forL (on.filter (fun g => s.bit (R.GWY_SSTAT g) 0 && !s.bit (R.GWY_SSTAT g) 3)) (fun g t =>
      t.gwyPut g (t.rd64 (R.GWY_VAL g))) s).gwyWatch
  else s

/-- A commit of the descriptors of controller `c` gives a signal's object another descriptor: its updates are counted anew. -/
def State.gwyRemap (s old : State) (c : Nat) : State :=
  forN 128 (fun g t =>
    let src := t.gwySource g
    let d := (t.rxEntries [] c)[src.2.2]?
    if t.gwyOn g && src.1 == 1 && src.2.1 == c &&
        (d != (old.rxEntries [] c)[src.2.2]? || d.any (fun d => t.rxd [] c d != old.rxd [] c d)) then
      t.setGwySig g { t.gwySig g with seen := (t.gwyRead g).1 }
    else t) s

/-- What GWY does when a CAN page became active. -/
def State.gwyCan (s old : State) (p : Nat) : State :=
  (if (p - 0x0A0) % 4 < 2 then s else s.gwyRemap old ((p - 0x0A0) / 4)).gwyWatch

/-- The state behind the GWY pages after their reset. -/
def State.gwyReset (s : State) : State := { s with gwy := {} }

/-- Is an object the destination of an enabled signal, so that no output map may name it (R482)? -/
def State.gwyFeeds (s : State) (kind inst k : Nat) : Bool :=
  (List.range 128).any (fun g => s.bit (gSrc g) 31 && s.fld (gDst g) 1 0 == kind && s.fld (gDst g) 12 8 == k &&
    (kind != 1 || s.fld (gDst g) 3 2 == inst))

/-! ### Programs (R486) -/

/-- CYC sink kind 0x25: the value takes effect at tc. -/
def State.gwySink (s : State) (g tc : Nat) (b : List Nat) : State :=
  let x := s.gwySig g
  s.setGwySig g { x with cyc := fromBytes (b.take 8), cycTc := tc, cycN := x.cycN + 1 }

/-! ### Ends of CAN frames, at which a controller may become OFF, and ownership and grants (R44, R61, R62), which can suspend a
signal (R485) -/

/-- CAN_ERROR: a bus error. -/
def execCanError (dt : Nat) (c : Fin 4) (lec : Fin 7) (dataPhase : Bool) (tec rec_ : Fin 9) (s : State) :
    Host.Outcome State Fault Refusal :=
  onMain dt s fun s => (s.canErr c.val lec.val dataPhase tec.val rec_.val).gwyWatch

/-- CAN_ARBITRATION_LOST: the attempt waits for the next bus idle. -/
def execCanArbitrationLost (dt : Nat) (c : Fin 4) (s : State) : Host.Outcome State Fault Refusal :=
  onMain dt s fun s => (s.canLost c.val).gwyWatch

/-- CAN_TX_COMPLETE: the frame on the bus completes (R425 to R428); a frame fails at the error that exceeds RETRY, which is
CAN_ERROR. -/
def execCanTxComplete (dt : Nat) (c : Fin 4) (s : State) : Host.Outcome State Fault Refusal :=
  onMain dt s fun s => (s.canSent c.val).gwyWatch


/-- OWNER_WRITE: the owner hands the page over or releases it (R44). -/
def execOwnerWrite (dt : Nat) (who : Init) (p : Fin 512) (v : Word) (s : State) : Host.Outcome State Fault Refusal :=
  onMain dt s fun s => s.cmdW who p.val 0x008 fun n s =>
    if ownerFree p.val && s.allocated p.val then (s.tryOwner n p.val (nf v.toNat 7 0) (hOwner p.val)).gwyWatch else s

/-- OWNK_WRITE: a word of the ownership table, judged byte by byte (R61). -/
def execOwnkWrite (dt : Nat) (who : Init) (k : Fin 128) (v : Word) (s : State) : Host.Outcome State Fault Refusal :=
  onMain dt s fun s =>
    if !s.live who then s
    else if !s.mayTable who k.val then s.deny who 0x009 (0x040 + 4 * k.val) true false
    else
      let n := s.partNo who
      (forL (wordPages k.val v.toNat) (fun pb (t : State) =>
        let p := pb.1
        if !t.allocated p || !ownerFree p then t
        else if !(who == .boot || t.owns n p) then t
        else if t.ownEntry p = pb.2 then t
        else t.tryOwner n p pb.2 (R.TEN_OWN k.val)) { s with resp := .done }).gwyWatch

/-- GRANTK_WRITE: a word of the read-grant table, judged byte by byte; bit 7 of every byte reads 1 (R62). -/
def execGrantkWrite (dt : Nat) (who : Init) (k : Fin 128) (v : Word) (s : State) : Host.Outcome State Fault Refusal :=
  onMain dt s fun s =>
    if !s.live who then s
    else if !s.mayTable who k.val then s.deny who 0x00A (0x040 + 4 * k.val) true false
    else
      let n := s.partNo who
      (forL (wordPages k.val v.toNat) (fun pb (t : State) =>
        let p := pb.1
        let j := p % 4
        let b := 0x80 + pb.2 % 128
        if !t.allocated p then t
        else if !(who == .boot || t.owns n p) then t
        else if t.fld (R.TEN_GRANT k.val) (8 * j + 7) (8 * j) = b then t
        else if t.bit (hLock p) 0 then t.err p n eLocked (R.TEN_GRANT k.val)
        else t.putFld (R.TEN_GRANT k.val) (8 * j + 7) (8 * j) b) { s with resp := .done }).gwyWatch

end Sys2Proof.Machine
end

