-- ==== Sys2Proof/Machine/Hrb.lean ====
section
/-! DEFINITION. HRB: bus cycles, windows, posted writes and their failure, the commit sink, the poll cache and the
attention lines (R488 to R505). -/
namespace Sys2Proof.Machine

def State.hrbWin (s : State) (n : Nat) : HrbWin := tabGet {} s.hrb.win n
def State.setHrbWin (s : State) (n : Nat) (x : HrbWin) : State :=
  { s with hrb := { s.hrb with win := tabSet {} s.hrb.win n x } }

/-- Block error codes (R504). -/
abbrev hrbHeld : Nat := 0x0101
abbrev hrbGated : Nat := 0x0102
abbrev hrbBuserr : Nat := 0x0103
abbrev hrbTimeout : Nat := 0x0104

def State.hwOwner (s : State) (n : Nat) : Option Nat := lowestBit 8 (s.fld (R.HRB_WATTR n) 7 0)
def State.hwOn (s : State) (n : Nat) : Bool := s.bit (R.HRB_WATTR n) 8
def State.hwPosted (s : State) (n : Nat) : Bool := s.bit (R.HRB_WATTR n) 9
def State.hwSwap (s : State) (n : Nat) : Bool := s.bit (R.HRB_WATTR n) 11
def State.hwLock (s : State) (n : Nat) : Bool := s.bit (R.HRB_WATTR n) 12

/-- The bus starts no cycle: HRST_N is driven, or the module does not hold primacy (R489). -/
def State.hrbShut (s : State) : Bool := !s.bit R.HRB_CTRL 0 || s.bit R.HRB_STAT 1 || s.bit R.HRB_STAT 2

/-- Is the operation a queued write? -/
def HrbOp.isWrite (o : HrbOp) : Bool :=
  match o.kind with
  | .posted _ _ => true
  | _ => false

/-- Does a lane wait for the operation: an access that is performed, or a write that waits for room? -/
def HrbOp.isLane (o : HrbOp) : Bool :=
  match o.kind with
  | .held => true
  | .waits => true
  | _ => false

/-- Writes queued (R505). -/
def HrbWin.count (x : HrbWin) : Nat := (x.q.filter HrbOp.isWrite).length

/-- An access that is not performed raises a fault in its initiator with a code (R489, R495). -/
def State.hrbFault (s : State) (part code addr : Nat) : State :=
  { s.errAt 0x0C4 part code (addr % 2 ^ 32) with resp := .fault none }

/-! ### Cycles (R488, R491) -/

/-- The cycles of `bytes` far bytes from a far address: one byte cycle, or word cycles. -/
def hrbCycles (far : Nat) (bytes : Nat) (data : Option (List Nat)) : List HrbCycle :=
  let b (i : Nat) : Nat := (data.getD []).getD i 0
  if bytes = 1 then
    [{ addr := far, word := false, write := data.isSome, data := if far % 2 = 0 then b 0 * 256 else b 0 }]
  else (List.range (bytes / 2)).map (fun i =>
    { addr := far + 2 * i, word := true, write := data.isSome, data := b (2 * i) * 256 + b (2 * i + 1) })

/-- Far bytes of a value, and back, in the order that SWAP selects (R491). -/
def State.hrbOut (s : State) (n bytes v : Nat) : List Nat := if s.hwSwap n then beBytes bytes v else bytesOf bytes v
def State.hrbIn (s : State) (n : Nat) (l : List Nat) : Nat := if s.hwSwap n then be l else fromBytes l

/-- The result of an AMO on the value read, at 32 or 64 bits. -/
def amoApply (o : AmoOp) (w old v : Nat) : Nat :=
  match o with
  | .swap => v
  | .add => (old + v) % 2 ^ w
  | .xor => old ^^^ v
  | .and => old &&& v
  | .or => old ||| v
  | .min => if sx w v < sx w old then v else old
  | .max => if sx w old < sx w v then v else old
  | .minu => min old v
  | .maxu => max old v

/-! ### Queues (R494) -/

/-- Number the writes that have room now. -/
def hrbAdmit : List HrbOp → Nat → Nat → List HrbOp × Nat
  | [], _, pseq => ([], pseq)
  | o :: l, room, pseq =>
    match o.kind with
    | .waits =>
      if room = 0 then (o :: l, pseq)
      else
        let r := hrbAdmit l (room - 1) ((pseq + 1) % 2 ^ 32)
        ({ o with kind := .posted ((pseq + 1) % 2 ^ 32) false } :: r.1, r.2)
    | _ => let r := hrbAdmit l room pseq
           (o :: r.1, r.2)

/-- Put a queue back, with writes that wait entered while there is room: each completes to its initiator (R494). -/
def State.setHrbQ (s : State) (n : Nat) (l : List HrbOp) : State :=
  let x := s.hrbWin n
  let r := hrbAdmit l (64 - (l.filter HrbOp.isWrite).length) x.pseq
  { s with resp := if r.2 = x.pseq then s.resp else .done }.setHrbWin n { x with q := r.1, pseq := r.2 }

/-- Put an operation behind the others of its window. -/
def State.hrbPut (s : State) (n : Nat) (o : HrbOp) : State := s.setHrbQ n ((s.hrbWin n).q ++ [o])

/-- Discard the queued writes, count them, and let every waiting access fault with a code. -/
def State.hrbFlush (s : State) (n code : Nat) : State :=
  let x := s.hrbWin n
  let s := (s.addSat R.HRB_FLUSHCNT x.count).setHrbWin n { x with q := [] }
  forL x.q (fun o t => if o.isLane then t.hrbFault o.part code o.addr else t) s

/-! ### The control block (R505) -/

/-- A register of the control block. -/
def State.hrbCtl (s : State) (n o : Nat) : Nat :=
  let x := s.hrbWin n
  if o = 0x000 then b2n x.halted + b2n (s.bit R.HRB_STAT 2) * 2 + min 64 x.count * 256
  else if o = 0x004 then x.pseq
  else if o = 0x008 then x.failSeq
  else if o = 0x00C then x.failAddr
  else if o = 0x010 then x.failData
  else if o = 0x014 then x.failInfo
  else if o = 0x018 then x.failTime % 2 ^ 32
  else if o = 0x01C then x.failTime / 2 ^ 32
  else 0

/-- A write of WACK with operation `op`; other values of [1:0] and a window that is not HALTED change nothing (R496). -/
def State.wack (s : State) (n part : Nat) (v : Word) (op : Nat) : State :=
  let x := s.hrbWin n
  if nf v.toNat 31 16 ≠ 0x4B7A then s.errAt 0x0C4 part eBadKey (0x50FFF800 + n * 0x1000000)
  else if !x.halted || nf v.toNat 1 0 != op then s
  else
    let s := (s.setHrbWin n { x with halted := false }).putBit R.HRB_STAT (4 + n) false
    if op = 2 then s.hrbFlush n hrbHeld else s

/-- Does an initiator reach window `n`: it is the window's owner, and no D-section of its partition runs (R73)? -/
def State.hrbMine (s : State) (who : Init) (n : Nat) : Bool :=
  s.hwOn n && s.hwOwner n == s.partOf who && (s.partOf who).any (fun p => !s.inDsec p)

/-- A store to WACK by an initiator: only the window's owner reaches the control block. -/
def State.wackBy (s : State) (who : Init) (n : Nat) (v : Word) (op : Nat) : State :=
  if !s.live who then s
  else if s.hrbMine who n then
    { s with resp := .done }.wack n (s.partNo who) v op
  else s.busFault who (0x50FFF800 + n * 0x1000000)

/-- WACK_RESUME: the held writes are issued in order (R496). -/
def execWackResume (dt : Nat) (who : Init) (n : Fin 4) (v : Word) (s : State) : Host.Outcome State Fault Refusal :=
  onMain dt s fun s => s.wackBy who n.val v 1

/-- WACK_FLUSH: the held writes are discarded (R496). -/
def execWackFlush (dt : Nat) (who : Init) (n : Fin 4) (v : Word) (s : State) : Host.Outcome State Fault Refusal :=
  onMain dt s fun s => s.wackBy who n.val v 2

/-! ### Window accesses (R490 to R495) -/

/-- An access of `bytes` bytes at offset `x` of window `n`. -/
def State.hrbAccess (s : State) (who : Init) (n x bytes : Nat) (op : BusOp) : State :=
  let addr := 0x50000000 + n * 0x1000000 + x
  let part := s.partNo who
  let fault := s.busFault who addr
  let prefetch := decide (op = .ahead)
  if !s.hrbMine who n || bytes = 0 || x % bytes != 0 then (if prefetch then s else fault)
  else if 0xFFF000 ≤ x then
    match op with
    | .load => if bytes = 4 then { s with resp := .data (s.hrbCtl n (x - 0xFFF000)) } else fault
    | .store v =>
      if bytes ≠ 4 then fault
      else
        let s := { s with resp := .done }
        if x = 0xFFF800 then
          let w := BitVec.ofNat 32 v.toNat
          s.wack n part w (if nf w.toNat 1 0 = 2 then 2 else 1)
        else s
    | .ahead => s
    | _ => fault
  else if s.fld (R.HRB_WSIZE n) 23 0 ≤ x then (if prefetch then s else fault)
  else
    let win := s.hrbWin n
    let far := s.fld (R.HRB_WFAR n) 23 0 + x
    let wr (v : Nat) : List HrbCycle := hrbCycles far bytes (some (s.hrbOut n bytes v))
    let rd := hrbCycles far bytes none
    let wait (o : HrbOp) : State :=
      if s.hrbShut then s.hrbFault part hrbGated addr
      else if win.halted then s.hrbFault part hrbHeld addr
      else { s with resp := .none }.hrbPut n o
    match op with
    | .load => wait { cycles := rd, part := part, addr := addr }
    | .store v =>
      let v := v.toNat % 2 ^ (8 * bytes)
      if !s.hwPosted n then wait { cycles := wr v, part := part, addr := addr }
      else if s.hrbShut then s.hrbFault part hrbGated addr
      else if win.halted && decide (64 ≤ win.count) then s.hrbFault part hrbHeld addr
      else
        { s with resp := .none }.hrbPut n { cycles := wr v, kind := .waits, part := part, addr := addr }
    | .amo o v =>
      if bytes ≠ 4 then fault
      else wait { cycles := rd, part := part, addr := addr, far := far, amo := some (o, v.toNat % 2 ^ 32) }
    | .ahead =>
      if s.bit (R.HRB_WATTR n) 10 && !s.hrbShut && !win.halted then
        s.hrbPut n { cycles := rd, kind := .ahead, part := part, addr := addr }
      else s
    | .fetch => fault
    | .lr => fault
    | .sc _ => fault

/-- HRB_WINDOW_ACCESS: an access of 2^`w` bytes to offset `x` of window `n`. -/
def execHrbWindowAccess (dt : Nat) (who : Init) (n : Fin 4) (x : BitVec 24) (w : Fin 4) (op : BusOp) (s : State) :
    Host.Outcome State Fault Refusal :=
  onMain dt s fun s => if s.live who then s.hrbAccess who n.val x.toNat (2 ^ w.val) op else s

/-! ### The bus (R488, R492, R493, R495) -/

/-- Put the next cycle of the operation in progress on the bus. -/
def State.hrbDrive (s : State) : State :=
  match s.hrb.op with
  | some (n, o) =>
    match o.cycles with
    | c :: l => { s with hrb := { s.hrb with
        op := some (n, { o with cycles := l }), cur := some (c, s.ticks)
        grab := s.hrb.grab || (s.hwLock n && (o.amo.isSome || !l.isEmpty)) } }
    | [] => s
  | none => s

/-- HRB_CYCLE_START: an operation in progress goes on with no other cycle between; else the front of window `n` starts
(R488, R491, R495). -/
def execHrbCycleStart (dt : Nat) (n : Fin 4) (s : State) : Host.Outcome State Fault Refusal :=
  onMain dt s fun s =>
    if s.hrb.cur.isSome || decide (s.ticks < s.hrb.free) then s
    else if s.hrb.op.isSome then s.hrbDrive
    else if s.hrbShut || (s.hrbWin n.val).halted then s
    else match (s.hrbWin n.val).q with
      | o :: l => ({ s with hrb := { s.hrb with op := some (n.val, o) } }.setHrbQ n.val l).hrbDrive
      | [] => s

/-- The operation on the bus is over. -/
def State.hrbFree (s : State) : State := { s with hrb := { s.hrb with op := none, cur := none, grab := false } }

/-- The operation on the bus goes no further: an access faults with GATED, a posted write is discarded and counted
(R489, assumption 66). -/
def State.hrbCut (s : State) : State :=
  match s.hrb.op with
  | none => s.hrbFree
  | some (_, o) =>
    let s := s.hrbFree
    if o.isLane then s.hrbFault o.part hrbGated o.addr
    else if o.isWrite then s.addSat R.HRB_FLUSHCNT 1
    else s

/-- CYC source kind 0x0C. -/
def State.hrbItem (s : State) (e len : Nat) : List Nat :=
  (bytesOf 4 (s.rd (R.HRB_PEVAL e)) ++ bytesOf 8 (s.rd64 (R.HRB_PEST e))).take len

/-- A poll entry as CYC source: data, quality and stamp. -/
def State.hrbSrc (s : State) (e : MapEnt) : List Nat × Nat × Nat :=
  let st := s.rd (R.HRB_PESTAT e.item)
  (s.hrbItem e.item e.len, qual (nb st 0) false false (nb st 1), s.rd64 (R.HRB_PEST e.item))

/-- A read is complete with its far bytes. -/
def State.hrbRead (s : State) (n : Nat) (o : HrbOp) : State :=
  let v := s.hrbIn n o.got
  match o.kind with
  | .held => { s with resp := .data v }
  | .ahead => s.incSat R.HRB_PFDISC
  | .poll e =>
    let s := (s.wr (R.HRB_PEVAL e) v).wr64 (R.HRB_PEST e) s.moduleTime
    let s := s.wr (R.HRB_PESTAT e) (1 + (s.fld (R.HRB_PESTAT e) 15 8 + 1) % 256 * 256)
    (s.raiseIf (s.bit (R.HRB_PECFG e) 8) 0x0C5 0).srcReport (fun x => x.kind == 0x0C && x.item == e) State.hrbSrc
  | _ => s

/-- The last cycle of an operation is done: an AMO goes on with its write. -/
def State.hrbOpDone (s : State) (n : Nat) (o : HrbOp) (wrote : Bool) : State :=
  match o.amo with
  | some (f, v) =>
    let old := s.hrbIn n o.got
    let new := amoApply f 32 old v
    { s with hrb := { s.hrb with cur := none, op := some (n, { o with
        amo := none, cycles := hrbCycles o.far 4 (some (s.hrbOut n 4 new)) }) } }
  | none =>
    let s := s.hrbFree
    if !wrote then s.hrbRead n o
    else match o.kind with
      | .held => if o.got = [] then { s with resp := .done } else s.hrbRead n o
      | _ => s

/-- The cycle in progress ends done, with the lanes latched for a read. -/
def State.hrbGood (s : State) (c : HrbCycle) (d : Nat) : State :=
  match s.hrb.op with
  | none => s.hrbFree
  | some (n, o) =>
    let got := if c.write then o.got
      else if c.word then o.got ++ [d / 256 % 256, d % 256]
      else o.got ++ [if c.addr % 2 = 0 then d / 256 % 256 else d % 256]
    let o := { o with got := got }
    let s := { s with hrb := { s.hrb with op := some (n, o), cur := none } }
    let s := if o.cycles = [] then s.hrbOpDone n o c.write else s
    if s.hrb.op.isSome && s.bit R.HRB_STAT 2 && !s.hrb.grab then s.hrbCut else s

/-- The cycle in progress fails: 1 BUSERR, 2 TIMEOUT (R493, R495, R498, R500). -/
def State.hrbBad (s : State) (c : HrbCycle) (how : Nat) : State :=
  match s.hrb.op with
  | none => s.hrbFree
  | some (n, o) =>
    let s := s.hrbFree
    match o.kind with
    | .held =>
      let s := s.incSat (if how = 1 then R.HRB_BERRCNT else R.HRB_TOCNT)
      (s.hrbFault o.part (if how = 1 then hrbBuserr else hrbTimeout) o.addr).raise 0x0C4 16
    | .ahead => ((s.incSat R.HRB_PFDISC).incSat R.HRB_PFERR).raise 0x0C4 17
    | .poll e => (s.putBit (R.HRB_PESTAT e) 1 true).srcReport (fun x => x.kind == 0x0C && x.item == e) State.hrbSrc
    | .waits => s
    | .posted seq commit =>
      let x := s.hrbWin n
      let lanes := if c.word then 3 else if c.addr % 2 = 0 then 2 else 1
      let keep := x.q.filter (fun o => match o.kind with
        | .posted _ _ => true
        | _ => false)
      let out := x.q.filter HrbOp.isLane
      let s := s.setHrbWin n { x with
        q := keep, halted := true, failSeq := seq, failAddr := c.addr, failData := c.data + lanes * 65536
        failInfo := how + b2n commit * 16 + o.part % 8 * 2 ^ 24, failTime := s.moduleTime }
      let s := (s.putBit R.HRB_STAT (4 + n) true).raise 0x0C4 n
      forL out (fun o t => t.hrbFault o.part hrbHeld o.addr) s

/-- ACKTO in ticks. -/
def State.ackTo (s : State) : Nat := 100 * s.fld R.HRB_ACKTO 9 0

/-- HRB_CARD_REPLY: the card has answered and released its lines; with `flt` the cycle ends as BUSERR, else a read takes
HD[15:0] (R488). -/
def execHrbCardReply (dt : Nat) (flt : Bool) (hd : BitVec 16) (s : State) : Host.Outcome State Fault Refusal :=
  onMain dt s fun s =>
    match s.hrb.cur with
    | none => s
    | some (c, t0) =>
      if s.ticks < t0 + 4 ∨ t0 + 2 * s.ackTo + 2 < s.ticks then s
      else
        let s := { s with hrb := { s.hrb with free := s.ticks + 1 } }
        if flt then s.hrbBad c 1 else s.hrbGood c hd.toNat

/-- HRB_CYCLE_TIMEOUT: no reply by t0 + ACKTO, or no release within ACKTO of it (R488). -/
def execHrbCycleTimeout (dt : Nat) (s : State) : Host.Outcome State Fault Refusal :=
  onMain dt s fun s =>
    match s.hrb.cur with
    | none => s
    | some (c, t0) => if t0 + s.ackTo ≤ s.ticks then s.hrbBad c 2 else s

/-- HRB_RESET_END: 10 ms after EN, HRST_N is released (R489). -/
def execHrbResetEnd (dt : Nat) (s : State) : Host.Outcome State Fault Refusal :=
  onMain dt s fun s =>
    if s.bit R.HRB_CTRL 0 && s.bit R.HRB_STAT 1 && s.msSince s.hrb.rstTick 10 then s.putBit R.HRB_STAT 1 false else s

/-! ### Poll cache and attention lines (R498, R499) -/

def State.hrbPe (s : State) (e : Nat) : Nat × Bool := tabGet (0, false) s.hrb.pe e
def State.setHrbPe (s : State) (e : Nat) (x : Nat × Bool) : State :=
  { s with hrb := { s.hrb with pe := tabSet (0, false) s.hrb.pe e x } }

/-- Multiples of the period of entry `e` passed so far. -/
def State.peTimer (s : State) (e : Nat) : Nat :=
  let p := s.fld (R.HRB_PEPER e) 19 0
  if p = 0 then 0 else s.moduleTime / (4000 * p)

/-- POLL_READ_DUE: a period or the line of an entry asks for one read, which joins its window's queue (R498). -/
def execPollReadDue (dt : Nat) (e : Fin 32) (s : State) : Host.Outcome State Fault Refusal :=
  onMain dt s fun s =>
    let e := e.val
    let cfg := s.rd (R.HRB_PECFG e)
    let n := nf cfg 2 1
    let x := s.hrbPe e
    let w := if nb cfg 3 then 4 else 2
    let mine := s.hwOn n && s.hwOwner n == s.owner 0x0C4 &&
      decide (s.fld (R.HRB_PEOFS e) 23 0 + w ≤ s.fld (R.HRB_WSIZE n) 23 0)
    if !nb cfg 0 || (s.peTimer e == x.1 && !x.2) then s
    else
      let s := s.setHrbPe e (s.peTimer e, false)
      if s.hrbShut || !mine || (s.hrbWin n).halted then s
      else s.hrbPut n
        { cycles := hrbCycles (s.fld (R.HRB_WFAR n) 23 0 + s.fld (R.HRB_PEOFS e) 23 0) w none
          kind := .poll e, part := (s.owner 0x0C4).getD 0 }

/-- ATN_ACCEPT: an attention line has held a level for three samples (R499). -/
def execAtnAccept (dt : Nat) (i : Fin 8) (low : Bool) (s : State) : Host.Outcome State Fault Refusal :=
  onMain dt s fun s =>
    let i := i.val
    let was := s.bit R.HRB_ATNLEV i
    let s := (s.putBit R.HRB_ATNLEV i low).raiseIf (low && s.bit R.HRB_ATNEN i) 0x0C4 (8 + i)
    if low && !was then
      forN 32 (fun e t =>
        let cfg := t.rd (R.HRB_PECFG e)
        if nb cfg 0 && nb cfg 7 && nf cfg 6 4 == i then t.setHrbPe e ((t.hrbPe e).1, true) else t) s
    else s

/-- HRB_CNTCLR: clear the counters. -/
def execHrbCntclr (dt : Nat) (who : Init) (v : Word) (s : State) : Host.Outcome State Fault Refusal :=
  onMain dt s fun s => s.cmdW who 0x0C4 0xC00 fun _ => onOne v fun s =>
    s.zero [R.HRB_BERRCNT, R.HRB_TOCNT, R.HRB_PFDISC, R.HRB_PFERR, R.HRB_CDROP, R.HRB_FLUSHCNT]

/-! ### Commits (R490, R498, R504) -/

/-- The check of an HRB page. -/
def State.hrbCheck (s : State) (g : List Nat) (p : Nat) : Verdict :=
  let t := s.taken g
  let on := (List.range 4).filter (fun n => t.hwOn n)
  let far (n : Nat) : Nat := t.fld (R.HRB_WFAR n) 23 0
  let size (n : Nat) : Nat := t.fld (R.HRB_WSIZE n) 23 0
  if p = 0x0C4 then
    rangeIf (within 1 1000 (t.fld R.HRB_ACKTO 9 0) &&
      on.all (fun n => size n != 0) &&
      (List.range 4).all (fun n => far n % 0x1000 == 0 && size n % 0x1000 == 0 && decide (size n ≤ 0xFFF000) &&
        decide (far n + size n ≤ 0x1000000) && decide (popcount 8 (t.fld (R.HRB_WATTR n) 7 0) ≤ 1) &&
        (lowestBit 8 (t.fld (R.HRB_WATTR n) 7 0)).all (fun k => k != 7 && t.present k)) &&
      on.all (fun n => on.all (fun m => n == m || decide (far n + size n ≤ far m) || decide (far m + size m ≤ far n))) &&
      (List.range 4).all (fun n =>
        let same := t.rd (R.HRB_WFAR n) == s.rd (R.HRB_WFAR n) && t.rd (R.HRB_WSIZE n) == s.rd (R.HRB_WSIZE n) &&
          t.rd (R.HRB_WATTR n) == s.rd (R.HRB_WATTR n)
        !s.hwOn n || same || ((s.hrbWin n).count == 0 && !(s.hrbWin n).halted)))
  else if p = 0x0C5 then
    rangeIf ((List.range 32).all (fun e =>
      let cfg := t.rd (R.HRB_PECFG e)
      let n := nf cfg 2 1
      let per := t.fld (R.HRB_PEPER e) 19 0
      let w := if nb cfg 3 then 4 else 2
      !nb cfg 0 || ((per == 0 || within 10 1000000 per) && t.fld (R.HRB_PEOFS e) 23 0 % w == 0 &&
        decide (t.fld (R.HRB_PEOFS e) 23 0 + w ≤ size n) && t.hwOn n && t.hwOwner n == s.owner 0x0C4)))
  else .ok

/-- The gates of primacy: a cycle in progress completes, and queued writes are discarded (R489). -/
def State.hrbGate (s : State) : State :=
  let gated := s.bit R.HRB_CTRL 1 && !s.rdn.gates
  let was := s.bit R.HRB_STAT 2
  let s := s.putBit R.HRB_STAT 2 gated
  if gated && !was then
    let s := if s.hrb.cur.isNone && s.hrb.op.isSome && !s.hrb.grab then s.hrbCut else s
    forN 4 (fun n t => t.hrbFlush n hrbGated) s
  else s

/-- What an HRB page does when its shadows became active. -/
def State.hrbApplied (s old : State) (p : Nat) : State :=
  if p = 0x0C4 then
    let en := s.bit R.HRB_CTRL 0
    let s := if en && !old.bit R.HRB_CTRL 0 then
        { s with hrb := { s.hrb with rstTick := s.ticks } }.putBit R.HRB_STAT 1 true
      else if !en && old.bit R.HRB_CTRL 0 then
        forN 4 (fun n t => t.hrbFlush n hrbGated) (s.hrbCut.putBit R.HRB_STAT 1 true)
      else s
    forN 8 (fun i t => t.raiseIf (t.bit R.HRB_ATNLEV i && t.bit R.HRB_ATNEN i) 0x0C4 (8 + i))
      (s.putBit R.HRB_STAT 0 en).hrbGate
  else if p = 0x0C5 then
    forN 32 (fun e t =>
      if t.rd (R.HRB_PEPER e) != old.rd (R.HRB_PEPER e) || t.rd (R.HRB_PECFG e) != old.rd (R.HRB_PECFG e) then
        t.setHrbPe e (t.peTimer e, false) else t) s
  else s

/-- Module time was stepped: period reads go on at the next multiple. -/
def State.hrbStep (s : State) : State := forN 32 (fun e t => t.setHrbPe e (t.peTimer e, (t.hrbPe e).2)) s

/-- A partition reset: the halted windows of partition `n` are flushed (R496). -/
def State.hrbPartReset (s : State) (n : Nat) : State :=
  forN 4 (fun w t =>
    if t.hwOwner w == some n && (t.hrbWin w).halted then
      ((t.setHrbWin w { t.hrbWin w with halted := false }).putBit R.HRB_STAT (4 + w) false).hrbFlush w hrbHeld
    else t) s

/-- The state behind HRB page `p` after a reset of the page. -/
def State.hrbReset (s : State) (p : Nat) : State :=
  if p = 0x0C4 then { s with hrb := { pe := s.hrb.pe } }
  else if p = 0x0C5 then { s with hrb := { s.hrb with pe := [] } }
  else s

/-! ### Programs (R497, R498) -/

/-- May an entry of sink kind 0x26 stand (the sink check of R194)? -/
def State.hrbEntryOk (s : State) (n : Nat) (b : List Nat) : Bool :=
  let o := fromBytes (b.take 4)
  o % 2 == 0 && decide (o < s.fld (R.HRB_WSIZE n) 23 0) && b.getD 6 0 % 4 != 0

/-- The operation of an entry. -/
def State.hrbEntry (s : State) (n part : Nat) (b : List Nat) : HrbOp :=
  let far := s.fld (R.HRB_WFAR n) 23 0 + fromBytes (b.take 4)
  let lanes := b.getD 6 0 % 4
  { cycles := if lanes = 3 then hrbCycles far 2 (some ((b.drop 4).take 2))
      else if lanes = 1 then hrbCycles far 1 (some [b.getD 4 0])
      else hrbCycles (far + 1) 1 (some [b.getD 5 0])
    kind := .waits, part := part, addr := 0x50000000 + n * 0x1000000 + fromBytes (b.take 4) }

/-- The entries of window `n` at tc, in image order: all of them enter its queue, or none (R497). -/
def State.hrbSink (s : State) (n part : Nat) (entries : List (List Nat)) : State :=
  let on := entries.filter (fun b => nb (b.getD 7 0) 0)
  let x := s.hrbWin n
  if on = [] then s
  else if x.halted || s.hrbShut || decide (64 < x.count + on.length) then (s.incSat R.HRB_CDROP).raise 0x0C4 18
  else
    let r := on.foldl (fun a b => (a.1 ++ [{ s.hrbEntry n part b with kind := .posted ((a.2 + 1) % 2 ^ 32) true }],
      (a.2 + 1) % 2 ^ 32)) (([] : List HrbOp), x.pseq)
    s.setHrbWin n { x with q := x.q ++ r.1, pseq := r.2 }

end Sys2Proof.Machine
end

