-- ==== Sys2Proof/Machine/Rdn.lean ====
section
/-! DEFINITION. RDN: the gates of primacy, eligibility, heartbeats, the taking and receiving of checkpoints, and the
events that need no start of a partition (R528 to R546). -/
namespace Sys2Proof.Machine

/-! ### Reading the interlock -/

abbrev prIdle : Nat := 0
abbrev prClaim : Nat := 1
abbrev prHeld : Nat := 2
abbrev prIneligible : Nat := 3
abbrev prSingle : Nat := 4

def State.prim (s : State) : Nat := s.fld R.RDN_STAT 2 0
def State.setPrim (s : State) (st : Nat) : State := s.putFld R.RDN_STAT 2 0 st
def State.paired (s : State) : Bool := s.bit R.RDN_RDNCFG 0
def State.siteB (s : State) : Bool := s.bit R.SYS_STRAPS 0

/-- PRIM_IN as classified: 0 IDLE, 1 CLAIM, 2 HELD, 3 INVALID. -/
def State.primIn (s : State) : Nat := s.fld R.RDN_STAT 4 3
def State.hbto (s : State) : Nat := s.fld R.RDN_HBTO 5 0
def State.takeSet (s : State) : List Nat := (List.range 6).filter (fun n => s.bit R.RDN_RDNCFG (8 + n) && s.present n)

/-- Do heartbeats of the partner arrive: one within HBTO? -/
def State.hbArriving (s : State) : Bool := s.rdn.hbSeen && !s.msSince s.rdn.hbTick s.hbto

/-- Does the partner's last heartbeat carry RELEASE? -/
def State.partnerReleased (s : State) : Bool := nb s.rdn.word 2

/-- Cicada: a paired module whose TAKESET partitions wait for primacy (R536). -/
def State.cicada (s : State) : Bool := s.paired && s.prim != prHeld

/-- The signal on PRIM_OUT: HELD goes on for 2 µs after the gates closed (R529). -/
def State.primOut (s : State) : Nat :=
  if s.prim = prClaim then 1 else if s.prim = prHeld then 2 else if s.ticks < s.rdn.outTick then 2 else 0

/-! ### Gates (R531, R532) -/

/-- Open or close every gate: outputs follow their own block's rule; demands that stand count as rising edges at the
first engine tick after a gain (R532). -/
def State.gatesTo (s : State) (open_ : Bool) : State :=
  let s := { s with rdn := { s.rdn with gates := open_ } }
  let s := ((s.dioGate open_).loopGate open_).canPrimacy.hrbGate.ffGate
  let s := if open_ then { s with pre := { s.pre with demand := 0 } } else s
  s.outStat
def State.setGates (s : State) (open_ : Bool) : State := if s.rdn.gates = open_ then s else s.gatesTo open_

/-- Primacy is given up: the gates close at once, PRIM_OUT stops 2 µs later, and heartbeats carry RELEASE where `rel` says so:
on a release by command or by a halt, and on the power-fail warning (R529, R533, assumption 71). -/
def State.dropPrimacy (s : State) (rel : Bool) : State :=
  let was := s.prim
  let s := s.setGates false
  let s := { s with rdn := { s.rdn with relWait := none } }
  if was = prHeld then
    { (s.setPrim prIdle).raise 0x0D0 0 with rdn := { s.rdn with rel := rel, outTick := s.ticks + 200 } }
  else if was = prClaim then s.setPrim prIdle
  else s

/-! ### Eligibility (R535, R537) -/

/-- Is the digest of partition `n` in the held checkpoint that of its installed image? -/
def State.ckDigestOk (s : State) (c : CkPart) : Bool :=
  match (tabGet ({} : CycP) s.cyc.p c.part.val).img with
  | some i => decide (i.digest = c.dig.map BitVec.toNat)
  | none => false

/-- Lanes of triad `t` that are not fenced: LANESTAT code 5 is FENCED. -/
def State.unfenced (s : State) (t : Nat) : Nat :=
  ((List.range 3).filter (fun l => s.fld (R.TRI_LANESTAT t) (4 * l + 3) (4 * l) != 5)).length

/-- REFUSE as its conditions stand. -/
def State.refuseNow (s : State) : Nat :=
  let take := s.takeSet
  let b0 := s.rdn.hbSeen && s.rdn.held.isNone
  let b1 := match s.rdn.held with
    | some c => c.parts.any (fun p => take.contains p.part.val && !s.ckDigestOk p)
    | none => false
  let b2 := s.rdn.hbSeen && nf s.rdn.word 23 16 != s.fld R.SYS_DPROFILE 7 0 &&
    take.any (fun n => s.bit (R.CYC_CTRL n) 0)
  let b4 := take.any (fun n => match s.triadOf n with
    | some t => decide (s.unfenced t < 2)
    | none => false)
  let b5 := !s.bit R.PWR_STAT 0 || s.fld R.PWR_TSSTAT 1 0 != 3
  b2n b0 + 2 * b2n b1 + 4 * b2n b2 + 8 * b2n s.rdn.testFail + 16 * b2n b4 + 32 * b2n b5

/-- Bring HBOK, PARTRDY, REFUSE, INTLKFLT and the states IDLE and INELIGIBLE up to date; changes raise ES270 and ES271
(R529, R530, R545).  A module alone has none of this. -/
def State.rdnEval (s : State) : State :=
  if !s.paired || s.prim = prSingle then s
  else
    let hb := s.hbArriving
    let ref := s.refuseNow
    let s := (s.putBit R.RDN_STAT 5 hb).raiseIf (s.bit R.RDN_STAT 5 != hb) 0x0D1 1
    let s := (s.wr R.RDN_REFUSE ref).raiseIf (s.rd R.RDN_REFUSE != ref) 0x0D1 2
    let s := s.putBit R.RDN_STAT 6 (hb && nb s.rdn.word 0)
    let flt := (s.prim == prIdle || s.prim == prIneligible) && s.primIn == 0 && s.msSince s.rdn.idleTick s.hbto &&
      hb && !s.partnerReleased
    let s := if flt && !s.bit R.RDN_STAT 8 then (s.incSat R.RDN_INTLKCNT).raise 0x0D0 1 else s
    let s := s.putBit R.RDN_STAT 8 flt
    if s.prim = prIdle ∧ ref ≠ 0 then s.setPrim prIneligible
    else if s.prim = prIneligible ∧ ref = 0 then s.setPrim prIdle
    else s

/-- The health word of R537. -/
def State.hlthOwn (s : State) : Nat :=
  b2n (s.prim == prIdle && s.rd R.RDN_REFUSE == 0 && s.paired) +
  2 * b2n (s.prim == prHeld || s.prim == prSingle) + 4 * b2n s.rdn.rel + s.fld R.RDN_REFUSE 5 0 * 8 +
  s.fld R.SYS_DPROFILE 7 0 * 2 ^ 16 + s.fld R.RDN_CKSEQ 7 0 * 2 ^ 24

/-- CKAGE: ms since the newest checkpoint completed. -/
def State.ckAge (s : State) : Nat := if s.rdn.ck.isSome then min 0xFFFFFFFF ((s.ticks - s.rdn.ckTick) / 100000) else 0

/-! ### Checkpoints (R538, R539) -/

/-- Does the module send checkpoints: it holds primacy and its partner's heartbeats arrive? -/
def State.ckOn (s : State) : Bool := s.prim == prHeld && s.hbArriving && s.bit R.RDN_CTRL 0

/-- The values of R288: θ of each THERM, and state, shot and elapsed time of each RECL of the program. -/
def State.ckEls (s : State) : List CkEl :=
  s.program.filterMap (fun p =>
    if h : p.2.e < 128 then
      let x := tabGet ({} : PreEl) s.mheld.el p.2.e
      if p.2.op = 0x13 then some { el := ⟨p.2.e, h⟩, theta := BitVec.ofNat 64 x.x, state := 0, shot := 0, elapsed := 0 }
      else if p.2.op = 0x17 then
        some { el := ⟨p.2.e, h⟩, theta := 0, state := ⟨x.sub % 16, Nat.mod_lt _ (by decide)⟩
               shot := BitVec.ofNat 8 x.shot, elapsed := BitVec.ofNat 64 x.el }
      else none
    else none)

/-- The values of R116 of the eight axes. -/
def State.ckAxes (s : State) : List CkAxis :=
  (List.range 8).map (fun k =>
    { state := ⟨s.axState k % 8, Nat.mod_lt _ (by decide)⟩, pos := s.axPos k, vel := s.axVel k
      fixPos := BitVec.ofNat 64 (s.axis k).fixPos, fixTime := BitVec.ofNat 64 (s.axis k).fixTime })

/-- The arming and DONE state of the entries. -/
def State.ckEnts (s : State) : List CkEntry :=
  s.axs.ent.filterMap (fun e =>
    if h : e.1 < 384 then some { desc := ⟨e.1, h⟩, dis := e.2.dis, done := e.2.done } else none)

/-- A checkpoint of the versions taken. -/
def State.ckMake (s : State) : Ckpt :=
  { seq := (s.rdn.ck.map (·.seq)).getD 0 + 1, time := BitVec.ofNat 64 s.moduleTime
    parts := s.takeSet.filterMap (fun n => tabGet none s.rdn.vers n)
    axes := s.ckAxes, ents := s.ckEnts, els := s.ckEls
    group := ⟨s.fld R.PRE_STAT 3 2 % 4, Nat.mod_lt _ (by decide)⟩, ctl := BitVec.ofNat 8 (s.rd R.PRE_CTLFLAGS) }

/-- Take a version of partition `n` and start to send a checkpoint; while one is being sent it is skipped (R538). -/
def State.ckTake (s : State) (n : Nat) (v : CkPart) : State :=
  let s := { s with rdn := { s.rdn with vers := tabSet none s.rdn.vers n (some v), perTick := tabSet 0 s.rdn.perTick n s.ticks } }
  if s.rdn.flight.isSome then s.incSat R.RDN_CKSKIP
  else { s with rdn := { s.rdn with flight := some s.ckMake } }

/-- A checkpoint is complete, sent or held: CKSEQ, CKCYC and CKBYTES show it before ES269 (R539, R543). -/
def State.ckDone (s : State) (c : Ckpt) (size : Nat) (held : Bool) : State :=
  let s := { s with rdn := { s.rdn with
    ck := some c, ckTick := s.ticks, held := if held then some c else s.rdn.held } }
  let s := (s.wr R.RDN_CKSEQ c.seq.toNat).wr R.RDN_CKBYTES size
  (forL c.parts (fun p t => t.wr64 (R.RDN_CKCYC p.part.val) p.cycle.toNat) s).raise 0x0D1 0

/-- CHECKPOINT_SEND_DONE: the checkpoint in flight has been sent.  A release by command or by a halt lets it end; the
power-fail warning aborts it (R533). -/
def execCheckpointSendDone (dt : Nat) (size : Word) (s : State) : Host.Outcome State Fault Refusal :=
  onMain dt s fun s =>
    match s.rdn.flight with
    | some c => { s with rdn := { s.rdn with flight := none } }.ckDone c size.toNat false
    | none => s

/-- CHECKPOINT_RECEIVED: the closing CRC of a received checkpoint matches (R539). -/
def execCheckpointReceived (dt : Nat) (c : Ckpt) (size : Word) (s : State) : Host.Outcome State Fault Refusal :=
  guarded (c.parts.all (fun p => decide (p.dig.length = 32)) && decide (c.axes.length = 8)) dt s
    (onMain dt s fun s => if s.cicada then (s.ckDone c size.toNat true).rdnEval else s)

/-! ### Heartbeats -/

/-- HEARTBEAT_SEND: every 1 ms the health word goes out (R537). -/
def execHeartbeatSend (dt : Nat) (s : State) : Host.Outcome State Fault Refusal :=
  onMain dt s fun s =>
    if s.rdn.lockTick != 0 && s.msSince s.rdn.sendTick 1 then
      let s := { s with rdn := { s.rdn with sendTick := s.ticks } }.rdnEval
      s.wr R.RDN_HLTHOWN s.hlthOwn
    else s

/-- HEARTBEAT_RECEIVED: a frame of PLINK brings the partner's health word, or fails its CRC. -/
def execHeartbeatReceived (dt : Nat) (w : Word) (crc : Bool) (s : State) : Host.Outcome State Fault Refusal :=
  onMain dt s fun s =>
    if !crc then s.incSat R.RDN_PLINKERR
    else
      let h := w.toNat &&& 0xFFFF01FF
      ({ s with rdn := { s.rdn with hbSeen := true, hbTick := s.ticks, word := h } }.wr R.RDN_HLTHPART h).rdnEval

/-- HEARTBEAT_TIMEOUT: no heartbeat has arrived for HBTO, so HBOK clears and ES270 is raised (R530). -/
def execHeartbeatTimeout (dt : Nat) (s : State) : Host.Outcome State Fault Refusal :=
  onMain dt s fun s => if s.bit R.RDN_STAT 5 && !s.hbArriving then s.rdnEval else s

/-! ### PRIM_IN and the claim -/

/-- PRIM_IN_CHANGE: PRIM_IN is classified anew; INVALID counts and raises ES271, and a claim is withdrawn (R528, R529). -/
def execPrimInChange (dt : Nat) (sig : Fin 4) (s : State) : Host.Outcome State Fault Refusal :=
  onMain dt s fun s =>
    let new := sig.val
    let old := s.primIn
    if new = old then s
    else
      let s := s.putFld R.RDN_STAT 4 3 new
      let s := if new = 0 then { s with rdn := { s.rdn with idleTick := s.ticks } }
        else if 2 ≤ new ∧ old < 2 then { s with rdn := { s.rdn with heldTick := s.ticks } }
        else s
      if !s.paired then s
      else
        let s := if new = 3 then (s.incSat R.RDN_INTLKCNT).raise 0x0D0 1 else s
        let s := if s.prim = prClaim ∧ (2 ≤ new ∨ (new = 1 ∧ s.siteB)) then s.setPrim prIdle else s
        s.rdnEval

/-- TSTART in ms (R530). -/
def State.tstart (s : State) : Nat := if s.siteB then 600 else 100

/-- Does a claim condition of R530 hold? -/
def State.mayClaim (s : State) : Bool :=
  s.primIn == 0 &&
  (if s.rdn.hbSeen then s.msSince s.rdn.idleTick 1 && (!s.hbArriving || s.partnerReleased)
   else s.rdn.lockTick != 0 && s.msSince (max s.rdn.idleTick (s.rdn.lockTick - 1)) s.tstart)

/-- PRIMACY_CLAIM: an eligible module in IDLE claims (R529, R530). -/
def execPrimacyClaim (dt : Nat) (s : State) : Host.Outcome State Fault Refusal :=
  onMain dt s fun s =>
    let s := s.rdnEval
    if s.paired && s.prim == prIdle && s.rd R.RDN_REFUSE == 0 && s.mayClaim then
      { s with rdn := { s.rdn with claimTick := s.ticks, take := s.rdn.hbSeen, ti := if s.rdn.hbSeen then some s.rdn.idleTick else none } }.setPrim prClaim
    else s

/-- PRIMACY_CONFLICT: PRIM_IN has shown HELD for 5 µs while the module holds primacy (R529). -/
def execPrimacyConflict (dt : Nat) (s : State) : Host.Outcome State Fault Refusal :=
  onMain dt s fun s =>
    if s.prim == prHeld && decide (2 ≤ s.primIn) && s.usSince s.rdn.heldTick 5 then
      (((s.dropPrimacy false).incSat R.RDN_INTLKCNT).raise 0x0D0 1).rdnEval
    else s

/-! ### Release (R533, R534) -/

/-- Does the cycle of partition `n` commit: STATE RUNNING or CHANGING? -/
def State.commits (s : State) (n : Nat) : Bool := s.cycRunning n

/-- Ask for a release from partition `n` (R534). -/
def State.askRelease (s : State) (n : Nat) : State :=
  if s.prim ≠ prHeld then s.err 0x0D0 n 0x0102 R.RDN_PRIMCMD
  else if !(s.rdn.hbSeen && nb s.rdn.word 0) then s.err 0x0D0 n 0x0101 R.RDN_PRIMCMD
  else if s.rdn.relWait.isSome then s
  else { s with rdn := { s.rdn with relWait := some (s.takeSet.filter (fun p => s.commits p)) } }

/-- PRIMCMD_RELEASE: the owner of page 0x0D0 asks for the release. -/
def execPrimcmdRelease (dt : Nat) (who : Init) (v : Word) (s : State) : Host.Outcome State Fault Refusal :=
  onMain dt s fun s => s.cmdW who 0x0D0 0xC00 fun n s => s.keyed 0x0D0 0xC00 n 0x9C1D v fun s =>
    if nb v.toNat 0 then s.askRelease n else s.err 0x0D0 n eBadValue R.RDN_PRIMCMD

/-- A commit of partition `n` has completed: an accepted release waits for it no longer. -/
def State.relCommitted (s : State) (n : Nat) : State :=
  match s.rdn.relWait with
  | some l => { s with rdn := { s.rdn with relWait := some (l.filter (fun p => p != n)) } }
  | none => s

/-- A partition of PRIMDEP has entered HALTED: primacy is released at once (R533, R542). -/
def State.relHalted (s : State) (n : Nat) : State :=
  if s.prim == prHeld && decide (n < 6) && s.bit R.RDN_RDNCFG (16 + n) then
    { s with rdn := { s.rdn with relWait := some [] } }
  else s

/-- PRIMACY_RELEASE: every TAKESET partition that commits has completed a commit since the release was accepted, or a
partition of PRIMDEP has halted (R533, R534). -/
def execPrimacyRelease (dt : Nat) (s : State) : Host.Outcome State Fault Refusal :=
  onMain dt s fun s =>
    match s.rdn.relWait with
    | some l => if s.prim == prHeld && l.all (fun p => !s.commits p) then (s.dropPrimacy true).rdnEval else s
    | none => s

/-! ### Cicada self-tests (R536) -/

/-- The powered lanes of the TAKESET triads. -/
def State.takeLanes (s : State) : List Nat :=
  s.takeSet.flatMap (fun n => match s.triadOf n with
    | some t => (List.range 3).map (fun l => 3 * t + l)
    | none => [])

/-- STANDBY_LANE_TEST: STBYTEST s after the last one, the next lane in turn is tested (R536). -/
def execStandbyLaneTest (dt : Nat) (pass : Bool) (s : State) : Host.Outcome State Fault Refusal :=
  onMain dt s fun s =>
    if s.cicada && s.rdn.lockTick != 0 && s.secSince s.rdn.testTick (s.fld R.RDN_STBYTEST 11 0) && !s.takeLanes.isEmpty then
      { s with rdn := { s.rdn with
          testTick := s.ticks, testLane := (s.rdn.testLane + 1) % s.takeLanes.length
          testFail := s.rdn.testFail || !pass } }.rdnEval
    else s

/-- The check of an RDN page (R546). -/
def State.rdnCheck (s : State) (p : Nat) : Verdict :=
  if p = 0x0D0 then rangeIf (within 2 50 (s.shFld R.RDN_HBTO 5 0) && within 10 3600 (s.shFld R.RDN_STBYTEST 11 0))
  else if p = 0x0D1 then rangeIf (within 1 65535 (s.shFld R.RDN_CKDIV 15 0) && within 10 10000 (s.shFld R.RDN_CKPER 13 0))
  else .ok

end Sys2Proof.Machine
end

