-- ==== Sys2Proof/Machine/Cyc.lean ====
section
/-! DEFINITION. CYC: images and maps, what sources deliver and sinks take, snapshots, the commit path, saves, starts,
forces and on-line change (R189 to R221). -/
namespace Sys2Proof.Machine

/-! ### The engine of a partition -/

abbrev cyIdle : Nat := 0
abbrev cyStopped : Nat := 1
abbrev cyStarting : Nat := 2
abbrev cyRunning : Nat := 3
abbrev cyChanging : Nat := 4
abbrev cyHalted : Nat := 5

abbrev cycPage (n : Nat) : Nat := 0x030 + n

def State.cy (s : State) (n : Nat) : CycP := tabGet {} s.cyc.p n
def State.setCy (s : State) (n : Nat) (c : CycP) : State :=
  { s with cyc := { s.cyc with p := tabSet {} s.cyc.p n c } }

/-- A running CYC page: STARTING, RUNNING or CHANGING (R189). -/
def runs (st : Nat) : Bool := st == cyStarting || st == cyRunning || st == cyChanging
def State.cyRuns (s : State) (n : Nat) : Bool := runs (s.cycState n)

/-- Change STAT.STATE; MODE 1 commits are discarded at STOPPED and MODE 3 commits at IDLE (R53), and the tick at which
the page stops running is kept for R143. -/
def State.setCycState (s : State) (n st : Nat) : State :=
  let was := s.cyRuns n
  let s := s.putFld (R.CYC_STAT n) 2 0 st
  let s := if was && !runs st then s.setCy n { s.cy n with stopTick := s.ticks } else s
  if st = cyStopped then s.abortMode n 1 else if st = cyIdle then s.abortMode n 3 else s

/-- An error of the CYC page whose address the manual does not name. -/
def State.cycErr (s : State) (n code : Nat) : State := s.errOpen (cycPage n) n code

/-! ### Images (R219) -/

/-- The little-endian number of `k` bytes at `o` of an image. -/
def imgNum (b : List Nat) (o k : Nat) : Nat := fromBytes ((b.drop o).take k)

/-- A map entry of 16 bytes at `o` (R196, R200). -/
def imgEnt (b : List Nat) (o : Nat) : MapEnt :=
  let w (i : Nat) := imgNum b (o + 4 * i) 4
  { block := nf (w 0) 7 0, inst := nf (w 0) 15 8, kind := nf (w 0) 23 16, qual := nb (w 0) 24
    item := nf (w 1) 15 0, len := nf (w 1) 31 16, dofs := nf (w 2) 15 0, qofs := nf (w 2) 31 16, age := nf (w 3) 15 0 }

/-- Read an image by its header (R219). -/
def imgParse (b : List Nat) : CycImg :=
  let n (o : Nat) := imgNum b o 4
  { size := n 0x004, dmode := nb (n 0x008) 0, smode := nb (n 0x008) 1
    entry := imgNum b 0x010 8, trap := imgNum b 0x018 8, root := imgNum b 0x020 8
    src := (List.range (n 0x02C)).map (fun i => imgEnt b (n 0x028 + 16 * i))
    out := (List.range (n 0x034)).map (fun i => imgEnt b (n 0x030 + 16 * i))
    wmap := (b.drop (n 0x038)).take 8192
    inst := (List.range (n 0x044)).map (fun i =>
      let o := n 0x040 + 16 * i
      (imgNum b o 4, imgNum b (o + 4) 4, imgNum b (o + 8) 4, imgNum b (o + 12) 4))
    retain := n 0x048, volatile := n 0x04C
    rinit := (b.drop (n 0x050)).take (n 0x048 + n 0x04C), oinit := (b.drop (n 0x054)).take (n 0x05C)
    inlen := n 0x058, outlen := n 0x05C, scratch := n 0x060, profile := n 0x064
    digest := (b.drop 0x080).take 32 }

/-- The retained area of an image. -/
def CycImg.area (i : CycImg) : Nat := i.retain + i.volatile

/-- Exactly `k` numbers: a list cut, or filled with 0. -/
def padTo (k : Nat) (l : List Nat) : List Nat := (List.range k).map (fun i => l.getD i 0)

/-! ### Map entries (R196, R200, R358, R384, R287, R115, R338, R401, R437, R473, R486, R497) -/

/-- The block code that a source kind belongs to, and its sealing delay in ticks (R195). -/
def srcKind : Nat → Option (Nat × Nat)
  | 0x01 => some (0x0E, 200)
  | 0x02 => some (0x0E, 200)
  | 0x03 => some (0x0F, 200)
  | 0x04 => some (0x0D, 100)
  | 0x05 => some (0x10, 100)
  | 0x06 => some (0x08, 10)
  | 0x07 => some (0x0B, 2500)
  | 0x08 => some (0x11, 200)
  | 0x09 => some (0x11, 200)
  | 0x0A => some (0x12, 400)
  | 0x0B => some (0x13, 200)
  | 0x0C => some (0x14, 200)
  | _ => none

/-- The block code of a sink kind (R200). -/
def sinkKind : Nat → Option Nat
  | 0x21 => some 0x0E
  | 0x22 => some 0x10
  | 0x23 => some 0x11
  | 0x24 => some 0x12
  | 0x25 => some 0x13
  | 0x26 => some 0x14
  | 0x27 => some 0x0B
  | _ => none

def MapEnt.queue (e : MapEnt) : Bool := e.kind == 0x02 || e.kind == 0x09

/-- The page that governs the ownership of what an entry names. -/
def MapEnt.page (e : MapEnt) : Nat :=
  match e.kind with
  | 0x01 => if e.item < 8 then 0x090 else 0x093 + (e.item - 8)
  | 0x02 => 0x090
  | 0x03 => 0x098
  | 0x04 => 0x088 + 2 * e.inst
  | 0x05 => 0x09C
  | 0x06 => 0x041 + e.item
  | 0x07 => 0x068
  | 0x08 => 0x0A0 + 4 * e.inst
  | 0x09 => 0x0A0 + 4 * e.inst
  | 0x0A => 0x0B7
  | 0x0B => 0x0C0
  | 0x0C => 0x0C4
  | 0x21 => 0x093 + e.item
  | 0x22 => 0x09C
  | 0x23 => 0x0A0 + 4 * e.inst
  | 0x24 => 0x0B6
  | 0x25 => 0x0C0
  | 0x26 => 0x0C4
  | _ => 0x068

/-- DSIZE of receive object `k`, 0 for one that no descriptor has. -/
def State.objSize (s : State) (c k : Nat) : Nat :=
  match (s.rxEntries [] c)[k]? with
  | some d => dsize (s.rxd [] c d).2.2
  | none => 0

/-- Are INST, ITEM and LEN of a source entry those that its block's chapter allows? -/
def State.srcOk (s : State) (e : MapEnt) : Bool :=
  let one := e.inst == 0
  match e.kind with
  | 0x01 => one && ((decide (e.item < 6) && e.len == 1) || (within 8 11 e.item && e.len == 4))
  | 0x02 => one && decide (e.item < 6) && e.len == 772
  | 0x03 => one && e.item == 0 && e.len == 16
  | 0x04 => decide (e.inst < 4) && decide (e.item < 64) && (e.len == 2 || e.len == 4 || e.len == 12)
  | 0x05 => one && decide (e.item < 16) && (e.len == 2 || e.len == 4 || e.len == 12)
  | 0x06 => one && decide (e.item < 8) && (e.len == 8 || e.len == 16 || e.len == 17)
  | 0x07 => one && ((e.item == 0 && e.len == 64) || (e.item == 1 && e.len == 8) || (e.item == 2 && e.len == 32) ||
      (within 0x100 0x1FF e.item && e.len == 4))
  | 0x08 => decide (e.inst < 4) && decide (e.item < 256) &&
      (e.len == 16 || e.len == 16 + s.objSize e.inst e.item)
  | 0x09 => decide (e.inst < 4) && e.item == 0x100 && e.len == 12292
  | 0x0A => one && decide (e.item < 64) && e.len == 16 + s.fld (R.ETH_PDRPLEN e.item) 10 0
  | 0x0B => one && decide (e.item < 128) && (e.len == 8 || e.len == 16)
  | 0x0C => one && decide (e.item < 32) && (e.len == 4 || e.len == 12)
  | _ => false

/-- As `srcOk`, for a sink entry; an object that a gateway signal feeds may not be named (R482). -/
def State.snkOk (s : State) (e : MapEnt) : Bool :=
  let one := e.inst == 0
  match e.kind with
  | 0x21 => one && decide (e.item < 4) && (e.len == 1 || e.len == 18)
  | 0x22 => one && ((decide (e.item < 8) && e.len == 2) || (e.item == 16 && e.len == 16))
  | 0x23 => decide (e.inst < 4) && decide (e.item < 32) && !s.gwyFeeds 1 e.inst e.item &&
      e.len == 4 + canLen (s.bit (R.CAN_TXID e.inst e.item) 30) (s.fld (R.CAN_TXCFG e.inst e.item) 19 16)
  | 0x24 => one && decide (e.item < 32) && !s.gwyFeeds 2 0 e.item && e.len == 4 + s.fld (R.ETH_PDTPLEN e.item) 10 0
  | 0x25 => one && decide (e.item < 128) && e.len == 8
  | 0x26 => one && decide (e.item < 4) && e.len == 8
  | 0x27 => one && e.item == 0 && e.len == 1
  | _ => false

/-- Does partition `n` own what an entry names?  HRB windows have owners of their own (R490). -/
def State.entOwned (s : State) (n : Nat) (e : MapEnt) : Bool :=
  if e.kind = 0x26 then s.hwOn e.item && s.hwOwner e.item == some n else s.owns n e.page

/-- Do two byte ranges overlap? -/
def overlap (a la b lb : Nat) : Bool := decide (a < b + lb) && decide (b < a + la)

/-- Are byte ranges within a length and disjoint in pairs? -/
def rangesOk (top : Nat) : List (Nat × Nat) → Bool
  | [] => true
  | r :: t => decide (r.1 + r.2 ≤ top) && t.all (fun q => !overlap r.1 r.2 q.1 q.2) && rangesOk top t

/-- The bytes that a source entry writes. -/
def srcRanges (l : List MapEnt) : List (Nat × Nat) :=
  l.flatMap (fun e => (e.dofs, e.len) :: (if e.qual then [(e.qofs, 1)] else []))

/-- Does partition `n` own everything that the maps of an image name (R196, R200)? -/
def State.mapOwned (s : State) (n : Nat) (i : CycImg) : Bool := (i.src ++ i.out).all (fun e => s.entOwned n e)

/-- The map faults of R196 and R200 but for ownership: tables first. -/
def State.mapCheck (s : State) (i : CycImg) : Verdict :=
  firstVerdict (if 512 < i.src.length then .table 0x02 else if 512 < i.out.length then .table 0x10 else .ok)
    (rangeIf (
      i.src.all (fun e => (srcKind e.kind).map (·.1) == some e.block && within 1 65535 e.len && s.srcOk e) &&
      i.out.all (fun e => sinkKind e.kind == some e.block && within 1 65535 e.len && s.snkOk e) &&
      rangesOk i.inlen (srcRanges i.src) && rangesOk i.outlen (i.out.map (fun e => (e.dofs, e.len)))))

/-- RETAIN lengths in FRAM with their headers, partition `n` taking image `i` (R169, R206). -/
def State.retainSum (s : State) (n : Nat) (i : CycImg) : Nat :=
  forN 6 (fun k a =>
    match (if k = n then some i else (s.cy k).img) with
    | some j => a + j.retain + 64
    | none => a) 0

/-- The DRAM offset of the window of a kind. -/
def State.winOfs (s : State) (n kind : Nat) : Nat :=
  match s.windowOf n kind with
  | some w => s.wBase w
  | none => 0

/-- The checks of R213 but for ownership on an image for partition `n`, at a load (`change` false) or a change. -/
def State.imgCheck (s : State) (n : Nat) (i : CycImg) (change : Bool) : Verdict :=
  let size := s.winSize n kDcode
  firstVerdict (s.mapCheck i)
    (firstVerdict
      (if 16384 < i.inst.length then .table 0x11 else if 0x100000 < s.retainSum n i then .table 0x12 else .ok)
      (rangeIf (
        decide (i.inlen ≤ s.fld (R.CYC_INSIZE n) 16 0) && decide (i.outlen ≤ s.fld (R.CYC_OUTSIZE n) 16 0) &&
        (!s.dmode n || decide (i.size ≤ if change then size / 2 else size)) &&
        decide (i.area ≤ s.winSize n kRetained / 2) && within 1 12 i.scratch &&
        decide (i.scratch ≤ s.fld (R.CYC_DSCR n) 3 0) &&
        (!s.dmode n || i.profile == s.fld R.SYS_DPROFILE 7 0))))

/-! ### Mapped marks and pins (R201) -/

/-- Set or clear the marks that blocks show for what the maps of an image name. -/
def State.mapMarks (s : State) (i : CycImg) (on : Bool) : State :=
  let s := forL i.src (fun e t =>
    if e.kind = 0x02 then t.putBit R.DIO_EQMAP e.item on
    else if e.kind = 0x09 then t.setCan e.inst { t.canC e.inst with qmap := on }
    else t) s
  forL i.out (fun e t =>
    match e.kind with
    | 0x21 => t.putBit (R.DO_STAT e.item) 7 on
    | 0x22 => if e.item = 16 then forN 8 (fun c u => u.putBit (R.LOOP_LOSTAT c) 6 on) t else t.putBit (R.LOOP_LOSTAT e.item) 6 on
    | 0x23 => t.putBit (R.CAN_TXSTAT e.inst e.item) 4 on
    | 0x24 => t.putBit (R.ETH_PDTSTAT e.item) 2 on
    | _ => t) s

/-- Each number once. -/
def dedup : List Nat → List Nat
  | [] => []
  | x :: t => if t.contains x then dedup t else x :: dedup t

/-- Replace the active image of partition `n`: marks, pins and the counts that show it (R201, R221). -/
def State.useImage (s : State) (n : Nat) (i : Option CycImg) : State :=
  let s := match (s.cy n).img with
    | some o => s.mapMarks o false
    | none => s
  let pages := match i with
    | some j => dedup ((j.src ++ j.out).map MapEnt.page)
    | none => []
  let s := { s with cyc := { s.cyc with pinned := tabSet [] s.cyc.pinned n pages } }
  let s := s.setCy n { s.cy n with img := i, first := true, hist := [] }
  match i with
  | some j =>
    (((s.mapMarks j true).wr (R.CYC_SRCCNT n) (j.src.length + j.out.length * 65536)).wr (R.CYC_INSTCNT n)
      j.inst.length).wr (R.CYC_IMGDIG n) (fromBytes (j.digest.take 4))
  | none => s.zero [R.CYC_SRCCNT n, R.CYC_INSTCNT n, R.CYC_IMGDIG n]

/-! ### Forces (R208 to R211) -/

/-- Enabled forces: number, side (true output), offset, length and value. -/
def State.forces (s : State) (g : List Nat) (n : Nat) : List (Nat × Bool × Nat × Nat × Nat) :=
  (List.range 64).filterMap (fun k =>
    let c := s.eff g (R.CYC_FCFG n k)
    if nb c 0 then some (k, nb c 1, nf c 31 16, nf c 4 2 + 1, s.eff64 g (R.CYC_FVAL n k)) else none)

/-- Replace the bytes of an image that the forces of a side name. -/
def State.forceImage (s : State) (n : Nat) (side : Bool) (b : List Nat) : List Nat :=
  let fs := (s.forces [] n).filter (fun f => f.2.1 == side)
  (List.range b.length).map (fun i =>
    match fs.find? (fun f => decide (f.2.2.1 ≤ i) && decide (i < f.2.2.1 + f.2.2.2.1)) with
    | some f => f.2.2.2.2 / 256 ^ (i - f.2.2.1) % 256
    | none => b.getD i 0)

/-- Does an enabled input force cover a byte of a range? -/
def State.forcedIn (s : State) (n o len : Nat) : Bool :=
  (s.forces [] n).any (fun f => !f.2.1 && overlap f.2.2.1 f.2.2.2.1 o len)

/-- Is a force an orphan of an image: none of its bytes lies in the write map, or in an entry of the source map? -/
def orphan (i : CycImg) (f : Nat × Bool × Nat × Nat × Nat) : Bool :=
  if f.2.1 then
    !(List.range f.2.2.2.1).any (fun j => nb (i.wmap.getD ((f.2.2.1 + j) / 8) 0) ((f.2.2.1 + j) % 8))
  else !(srcRanges i.src).any (fun r => overlap f.2.2.1 f.2.2.2.1 r.1 r.2)

/-- Evaluate FORCED and the orphan bits; a force that becomes an orphan is reported (R210, R211). -/
def State.orphans (s : State) (n : Nat) : State :=
  let fs := s.forces [] n
  let old := s.rd (R.CYC_ORPH n 0) + s.rd (R.CYC_ORPH n 1) * 2 ^ 32
  let new := match (s.cy n).img with
    | some i => fs.foldl (fun m f => if orphan i f then nputb m f.1 true else m) 0
    | none => 0
  let s := (s.wr (R.CYC_ORPH n 0) new).wr (R.CYC_ORPH n 1) (new / 2 ^ 32)
  let s := (s.putBit (R.CYC_STAT n) 3 (!fs.isEmpty)).putBit (R.CYC_STAT n) 4 (new != 0)
  match (List.range 64).find? (fun k => nb new k && !nb old k) with
  | some k => (s.err (cycPage n) n 0x0106 (R.CYC_FCFG n k)).raise (cycPage n) 10
  | none => s

/-! ### What a source has at an instant (R195, R197) -/

/-- Module time of a tick of the past. -/
def State.timeAt (s : State) (tick : Nat) : Nat := s.moduleTime - 40 * (s.ticks - tick)

/-- Bytes of a list of open values. -/
def State.drawBytes (s : State) (k : Nat) : List Nat × State :=
  forN k (fun _ r => (r.1 ++ [(r.2.draw 8).1], (r.2.draw 8).2)) ([], s)

/-- How many ticks ago was the last one strictly before the instant `ts`, at the clock's present rate? -/
def State.ticksBack (s : State) (ts : Nat) : Nat := (s.mtime - ts * 2 ^ 48) / (40 * (2 ^ 48 + s.rate)).toNat + 1

/-- Data, quality and stamp of a source of kinds 0x01 to 0x06, for the instant `ts`.  Levels and readback are those of the last
tick before it. -/
def State.srcLow (s : State) (e : MapEnt) (ts : Nat) : List Nat × Nat × Nat :=
  match e.kind with
  | 0x01 =>
    if e.item < 8 then
      let g := e.item
      ([forN 8 (fun j v => nputb v j (s.diLevelAt (8 * g + j) (ts - 1))) 0],
        qual (s.bit R.DIO_CTRL g) false false (s.groupXconn g),
        forN 8 (fun j m => max m ((((s.di (8 * g + j)).changeAt (ts - 1)).map (·.2.1)).getD 0)) 0)
    else
      let g := e.item - 8
      let bad := s.fld (R.DO_OVLD g) 7 0 ||| s.fld (R.DO_TPFAIL g) 7 0
      let at_ := s.ticks - s.ticksBack ts
      let st := s.rd (R.DO_STAT g)
      ([forN 8 (fun c v => nputb v c (s.rbAt (8 * g + c) at_).1) 0, s.rd (R.DO_RBFLT g) % 256, bad, b2n (nb st 1) + 2 * b2n (nb st 4) + 4 * b2n (nb st 6)],
        qual (!(nb st 1 && nf st 3 2 == 1)) false false (s.rd (R.DO_RBFLT g) != 0 || bad != 0),
        forN 8 (fun c m => max m (let t := (s.rbAt (8 * g + c) at_).2
          if t = 0 then 0 else s.timeAt t)) 0)
  | 0x03 => s.sfnSrc e
  | 0x04 => s.sarSrc e
  | 0x05 => s.loopSrc e
  | _ =>
    let back := s.ticksBack ts
    let x := s.axEst e.item back
    let st := nf x.stat 2 0
    let live := st == axLocked || st == axHold
    ((bytesOf 8 (toBits 64 (s.axPosBack e.item back)) ++ bytesOf 8 (toBits 64 (if live then s.estVel x else 0)) ++
        [st]).take e.len,
      qual live (nb x.stat 4) (st == axHold) (nb x.stat 7 || nb x.stat 8), ts - 40)

/-- As `srcLow`, for kinds 0x07 to 0x0C without the queue. -/
def State.srcHigh (s : State) (e : MapEnt) : List Nat × Nat × Nat :=
  match e.kind with
  | 0x07 => s.preSrc e
  | 0x08 => s.canSrc e
  | 0x0A => s.ethSrc e
  | 0x0B => s.gwySrc e
  | _ => s.hrbSrc e

/-- Does a stamp lie before the instant `ts`?  A stamp later than the present module time was taken before a step and so
occurred earlier (R456). -/
def State.below (s : State) (stamp ts : Nat) : Bool := decide (stamp < ts) || decide (s.moduleTime + 40 ≤ stamp)

/-- What a latest-value source has now, for the instant `ts`. -/
def State.srcNow (s : State) (e : MapEnt) (ts : Nat) : List Nat × Nat × Nat := if e.kind ≤ 6 then s.srcLow e ts else s.srcHigh e

/-- Every mapped source reports what it has, as its map becomes active (R198). -/
def State.srcStart (s : State) : State := s.srcReport (fun e => !e.queue) (fun t e => t.srcNow e t.moduleTime)

/-- What source `k` of a map has below `ts` (R78): what it has now, or the newest of its earlier reports.  Where none of them
lies below `ts`, data and quality are open (assumption 67). -/
def State.srcTake (s : State) (c : CycP) (k : Nat) (e : MapEnt) (ts : Nat) : (List Nat × Nat × Nat) × State :=
  let r := s.srcNow e ts
  if s.below r.2.2 ts || e.kind == 0x01 || e.kind == 0x06 then (r, s)
  else match (tabGet [] c.hist k).find? (fun x => s.below x.2.2 ts) with
  | some x => (x, s)
  | none =>
    let d := s.drawBytes e.len
    ((d.1, (d.2.draw 6).1 &&& 0x3D, ts - 1), (d.2.draw 6).2)

/-- The value of source `k` at the end of sealing: a report below `ts` that came after the instant takes the place of what
the source had then (R193 step 2). -/
def State.srcLate (s : State) (c : CycP) (k : Nat) (x : List Nat × Nat × Nat) (ts : Nat) : List Nat × Nat × Nat :=
  match (tabGet [] c.hist k).find? (fun y => s.below y.2.2 ts) with
  | some y => if x.2.2 < y.2.2 then y else x
  | none => x

/-- Dseal in ticks: the largest sealing delay of the source kinds of a map (R193, R195). -/
def sealDelay (l : List MapEnt) : Nat := l.foldl (fun m e => max m (((srcKind e.kind).map (·.2)).getD 0)) 0

/-- The reports that a later snapshot may need: those at or after `ts` and the newest below it. -/
def State.histKeep (s : State) (ts : Nat) (l : List (List Nat × Nat × Nat)) : List (List Nat × Nat × Nat) :=
  l.takeWhile (fun x => !s.below x.2.2 ts) ++ (l.find? (fun x => s.below x.2.2 ts)).toList

/-- The queue entries of a group below `ts`. -/
def State.edgeUpTo (s : State) (g ts : Nat) : List (Nat × Nat × Bool) := (s.edges g).takeWhile (fun x => s.below x.1 ts)

/-- How many entries of a CAN queue lie below `ts`. -/
def State.rxqUpTo (s : State) (c ts : Nat) : Nat :=
  ((List.range (s.rxqCount c)).takeWhile (fun i =>
    s.below (tabGet ({} : CanQ) (s.canC c).ring ((s.rxqHead c + i) % 128)).obj.stamp ts)).length

/-- Deliver a queue source for `ts` and release what it delivers (R198): data, quality. -/
def State.queueTake (s : State) (e : MapEnt) (ts : Nat) : (List Nat × Nat × Nat) × State :=
  if e.kind = 0x02 then
    let g := e.item
    let q := s.edgeUpTo g ts
    let b := bytesOf 4 q.length ++ q.flatMap (fun x => bytesOf 8 x.1 ++ [x.2.1, b2n x.2.2, 0, 0])
    let lim := nb s.dio.eqDrop g
    let s' := { s with dio := { s.dio with
      eq := tabSet [] s.dio.eq g ((s.edges g).drop q.length), eqDrop := nputb s.dio.eqDrop g false } }
    ((padTo 772 b, qual (s.bit R.DIO_CTRL g) lim false (s.groupXconn g), ts - 1),
      s'.wr (R.DIO_EQCNT g) ((s.edges g).length - q.length))
  else
    let c := e.inst
    let k := s.rxqUpTo c ts
    let b := bytesOf 4 k ++ (List.range k).flatMap (fun i =>
      let q := tabGet ({} : CanQ) (s.canC c).ring ((s.rxqHead c + i) % 128)
      q.obj.image 0 q.entry)
    ((padTo 12292 b, qual true false false (s.canState c == csBusoff), ts - 1), s.rxqFree c k)

/-! ### Windows of CYC -/

/-- Clear a range of DRAM: every byte 0, no poison. -/
def State.dramClear (s : State) (o n : Nat) : State :=
  { s with mem := { s.mem with
      dram := s.mem.dram.filter (fun e => decide (e.1 < o) || decide (o + n ≤ e.1))
      poison := s.mem.poison.filter (fun e => decide (8 * e.1 < o) || decide (o + n ≤ 8 * e.1))
      syn := s.mem.syn.filter (fun e => decide (8 * e.1 < o) || decide (o + n ≤ 8 * e.1)) } }

/-- The windows of partition `n` that every start writes in full are cleared (R179). -/
def State.winClear (s : State) (n : Nat) : State :=
  forL [kSnapshot, kOutimg, kRetained] (fun k t => t.dramClear (t.winOfs n k) (t.winSize n k)) s

/-- Write bytes into the window of a kind, as far as it reaches. -/
def State.winPut (s : State) (n kind o : Nat) (b : List Nat) : State :=
  match s.windowOf n kind with
  | some w => s.dramPut (s.wBase w + o) (b.take (s.wSize w - o))
  | none => s

/-- `k` bytes of the window of a kind. -/
def State.winGet (s : State) (n kind o k : Nat) : List Nat :=
  match s.windowOf n kind with
  | some w => padTo k (s.dramBytes (s.wBase w + o) (min k (s.wSize w - o)))
  | none => padTo k []

/-- The half of the RETAINED window in use begins at this offset of the window. -/
def State.rhalf (s : State) (n : Nat) : Nat := if s.bit (R.CYC_STAT n) 10 then s.winSize n kRetained / 2 else 0

/-- The retained area as it stands, and the output image as it stands. -/
def State.retNow (s : State) (n : Nat) (i : CycImg) : List Nat := s.winGet n kRetained (s.rhalf n) i.area
def State.outNow (s : State) (n : Nat) (i : CycImg) : List Nat := s.winGet n kOutimg 0 i.outlen

/-- Put the retained area and the output image back to the last applied commit (R66, R68, R153).  Bytes of the two windows
outside the image and the area are no part of it (DESIGN CHOICE, assumption 110). -/
def State.revert (s : State) (n : Nat) (ret : Bool) : State :=
  let c := s.cy n
  let s := s.winPut n kOutimg 0 c.out
  if ret then s.winPut n kRetained (s.rhalf n) c.ret else s

/-! ### Sinks (R79, R194, R202) -/

/-- The bytes of an entry in an output image. -/
def MapEnt.bytes (e : MapEnt) (img : List Nat) : List Nat := (List.range e.len).map (fun i => img.getD (e.dofs + i) 0)

/-- The legal range of a sink (R194 step 2). -/
def State.sinkOk (s : State) (e : MapEnt) (b : List Nat) : Bool :=
  match e.kind with
  | 0x21 => e.len == 1 || (List.range 8).all (fun c => decide (fromBytes ((b.drop (2 + 2 * c)).take 2) ≤ 10000))
  | 0x22 => (List.range (e.len / 2)).all (fun c => decide (fromBytes ((b.drop (2 * c)).take 2) ≤ 24000))
  | 0x23 => decide (b.getD 1 0 ≤ s.fld (R.CAN_TXCFG e.inst e.item) 19 16)
  | 0x26 => s.hrbEntryOk e.item b
  | 0x27 => decide (b.getD 0 0 ≤ 3) && s.bit R.PRE_GRPSEAL (b.getD 0 0)
  | _ => true

/-- One sink takes its bytes at a commit strobe of module time `tc`; HRB entries are taken by window. -/
def State.sinkTake (s : State) (e : MapEnt) (b : List Nat) (tc : Nat) : State :=
  match e.kind with
  | 0x21 =>
    let g := e.item
    let s := s.wr (R.DO_DOCMD g) (b.getD 0 0)
    let s := if e.len = 18 then forN 8 (fun c t => t.wr (R.DO_DUTY g c) (fromBytes ((b.drop (2 + 2 * c)).take 2))) s else s
    s.doCommanded g
  | 0x22 =>
    if e.item = 16 then forN 8 (fun c t => t.loCommit c (fromBytes ((b.drop (2 * c)).take 2))) s
    else s.loCommit e.item (fromBytes (b.take 2))
  | 0x23 => s.canSink e.inst e.item b
  | 0x24 => s.ethSink e.item tc b
  | 0x25 => s.gwySink e.item tc b
  | 0x27 => { s with pre := { s.pre with grpReq := s.pre.grpReq ++ [(b.getD 0 0, s.ticks + 100, true)] } }
  | _ => s

/-- Every sink of an output map takes effect with one strobe (R79). -/
def State.sinksTake (s : State) (n : Nat) (out : List MapEnt) (img : List Nat) : State :=
  let tc := s.moduleTime
  let s := forL out (fun e t => t.sinkTake e (e.bytes img) tc) s
  forN 4 (fun w t =>
    let l := ((out.filter (fun e => e.kind == 0x26 && e.item == w)).mergeSort (fun a b => decide (a.dofs ≤ b.dofs))).map
      (fun e => e.bytes img)
    if l.isEmpty then t else t.hrbSink w n l) s

/-- One sink switches to its safe value. -/
def State.sinkSafe (s : State) (e : MapEnt) (tc : Nat) : State :=
  match e.kind with
  | 0x21 => s.doSafe e.item
  | 0x22 => if e.item = 16 then forN 8 (fun c t => t.loSafe c) s else s.loSafe e.item
  | 0x23 => s.canSafe e.inst e.item
  | 0x24 => s.ethSafe e.item tc
  | _ => s

/-- Every sink of the active output map takes its safe value (R189, R205). -/
def State.sinksSafe (s : State) (n : Nat) : State :=
  match (s.cy n).img with
  | some i => forL i.out (fun e t => t.sinkSafe e t.moduleTime) s
  | none => s

/-- A safe commit (R202). -/
def State.safeCommit (s : State) (n : Nat) : State :=
  if (s.cy n).img.isSome then (s.sinksSafe n).putBit (R.CYC_STAT n) 5 true else s

/-- Partition `n`'s outputs go to their safe values: the safe commit, and every output group and loop output that it
owns without a map (R30, R136, R366, R402). -/
def State.outputsSafe (s : State) (n : Nat) : State :=
  let s := s.safeCommit n
  let s := forN 4 (fun g t => if t.owns n (0x093 + g) && !t.bit (R.DO_STAT g) 7 then t.doSafe g else t) s
  if s.owns n 0x09C then forN 8 (fun c t => if t.bit (R.LOOP_LOSTAT c) 6 then t else t.loSafe c) s else s

/-! ### Retained records (R169, R206, R207) -/

/-- Bytes 0x00 to 0x3B of the header of a record (R206). -/
def CycRec.head (r : CycRec) : List Nat :=
  bytesOf 4 r.seq ++ bytesOf 4 r.retain.length ++ bytesOf 8 r.cycle ++ padTo 32 r.digest ++ List.replicate 12 0

/-- A record as FRAM holds it: the RETAIN part, and the header of 64 bytes with its CRC-32C after it (R206). -/
def CycRec.bytes (r : CycRec) : List Nat := r.retain ++ r.head ++ bytesOf 4 (crc32c (r.retain ++ r.head))

/-- The record that bytes of FRAM spell; none where the length or the CRC does not fit (R169, R206). -/
def recRead (b : List Nat) : Option CycRec :=
  let k := b.length - 64
  let h := b.drop k
  if 64 ≤ b.length ∧ imgNum h 4 4 = k ∧ crc32c (b.take (k + 60)) = imgNum h 60 4 then
    some { seq := imgNum h 0 4, cycle := imgNum h 8 8, retain := b.take k, digest := (h.drop 16).take 32 }
  else none

/-- The valid record in slot `k` of partition `n`. -/
def State.slotRec (s : State) (n k : Nat) : Option CycRec := (tabFind s.cyc.fram (2 * n + k)).bind recRead

/-- Slot of FRAM that holds the newest valid record of partition `n`. -/
def State.newestSlot (s : State) (n : Nat) : Option Nat :=
  match s.slotRec n 0, s.slotRec n 1 with
  | some a, some b => some (if b.seq < a.seq then 0 else 1)
  | some _, none => some 0
  | none, some _ => some 1
  | none, none => none

def State.newestRec (s : State) (n : Nat) : Option CycRec := (s.newestSlot n).bind (fun k => s.slotRec n k)

/-- The version that a save writes: cycle number and RETAIN part (R207). -/
def State.saveVersion (s : State) (n : Nat) (i : CycImg) : Option (Nat × List Nat) :=
  let c := s.cy n
  if s.dmode n then (if c.applied then some (s.rd64 (R.CYC_CYCNT n), c.ret.take i.retain) else none)
  else c.mark.map (fun m => (m.1, m.2.take i.retain))

/-- The lowest poisoned word in the first `k` bytes of the retained area of partition `n`. -/
def State.retPoison (s : State) (n k : Nat) : Option Nat :=
  match s.windowOf n kRetained with
  | some w => s.firstPoison (s.wBase w + s.rhalf n) k
  | none => none

/-- SOURCE and number of an entry that CYC makes for partition `n` (R188).  That of a partition of split lanes names lane 0
(DESIGN CHOICE, assumption 109). -/
def State.cycSource (s : State) (n : Nat) : Nat × Nat :=
  match s.triadOf n with
  | some t => (0, t)
  | none => (1, 0)

/-- CYC reads `k` bytes at offset `o` of the window of a kind of partition `n`: their words meet their check bits (R163). -/
def State.winMeet (s : State) (n kind o k : Nat) : State :=
  match s.windowOf n kind with
  | some w => s.dramRead (s.wBase w + o) k n (s.cycSource n).1 (s.cycSource n).2 0x0102 0
  | none => s

/-- An entry of the error log for poisoned data that partition `n` owns (R179). -/
def State.poisonLog (s : State) (n w : Nat) : State :=
  let a := dramBase + 8 * w
  let src := s.cycSource n
  (s.errAt 0x028 n 0x0105 (a % 2 ^ 32)).logErr a n src.1 src.2 0x0105 0xFF 0

/-- Write the record of partition `n` to the slot that does not hold the newest one, header last; a save that is cut off
or fails leaves that slot invalid and the other newest (R169). -/
def State.framPut (s : State) (n : Nat) (i : CycImg) (v : Nat × List Nat) (ok : Bool) : State :=
  let slot := match s.newestSlot n with
    | some k => 1 - k
    | none => 0
  let seq := match s.newestRec n with
    | some r => (r.seq + 1) % 2 ^ 32
    | none => 1
  let r : CycRec := { seq := seq, cycle := v.1, retain := v.2, digest := i.digest }
  let b := if ok then r.bytes else r.retain ++ List.replicate 64 0
  { s with cyc := { s.cyc with fram := tabIns (tabDel s.cyc.fram (2 * n + slot)) (2 * n + slot) b } }

/-- The image to which the retained state belongs: until a change is migrated, the old one (R207, R214). -/
def CycP.retImg (c : CycP) : Option CycImg := if c.old.isSome then c.old else c.img

/-- A retained save; one that meets poison in the RETAIN part is abandoned (R179, R207). -/
def State.retSave (s : State) (n : Nat) (ok : Bool) : State :=
  match (s.cy n).retImg with
  | none => s
  | some i =>
    match s.saveVersion n i with
    | none => s
    | some v =>
      let s := s.winMeet n kRetained (s.rhalf n) i.retain
      match s.retPoison n i.retain with
      | some w => (s.poisonLog n w).raise (cycPage n) 14
      | none =>
        let s := s.framPut n i v ok
        if ok then s else ((s.draw 32).2.framBad n (s.draw 32).1 true).raise (cycPage n) 14

/-- RETAINED_SAVE: RSAVE x 10 ms after the last one (R207). -/
def execRetainedSave (dt : Nat) (n : Fin 6) (ok : Bool) (s : State) : Host.Outcome State Fault Refusal :=
  onMain dt s fun s =>
    let n := n.val
    let c := s.cy n
    let per := s.fld (R.CYC_RSAVE n) 12 0
    if s.cycRunning n && per != 0 && s.msSince c.saveTick (10 * per) && s.sys.down.isNone then
      (s.setCy n { c with saveTick := s.ticks }).retSave n ok
    else s

/-! ### The end of a cycle (R190, R191) -/

/-- CMTSTAT after a change has come to an end: a page commit that waits still shows PENDING (assumption 117). -/
def State.chgStat (s : State) (p st reason table : Nat) : State :=
  s.setCmtstat p (if (s.pend p).armed then 1 else st) reason table

/-- A pending change is discarded with REASON ABORTED. -/
def State.dropChange (s : State) (n : Nat) : State :=
  let c := s.cy n
  if s.cycState n = cyChanging ∧ c.old = none then
    ((s.setCy n { c with chgTick := none }).chgStat (cycPage n) 0 rAborted 0).putFld (R.CYC_STAT n) 2 0 cyRunning
  else s

/-- STOP takes effect: retained save, safe commit, STOPPED (R189, R202, R207). -/
def State.cycStop (s : State) (n : Nat) : State :=
  let s := (s.dropChange n).setCy n
    { (s.dropChange n).cy n with stop := false, opn := false, sealed := none, fresh := false, tready := none, waits := [] }
  let s := (s.putBit (R.CYC_STAT n) 6 false).setCycState n cyStopped
  (s.retSave n true).safeCommit n

/-- A register of a saved state, x1 to x31. -/
def ctxPut (c : LaneCtx) (rd v : Nat) : LaneCtx := if rd = 0 then c else { c with x := c.x.set (rd - 1) (BitVec.ofNat 64 v) }

/-- NV.SNAP or NV.COMMIT returns in the gap code: the saved state comes back with the status in rd (R153, R154). -/
def State.gapBack (s : State) (n status : Nat) : State :=
  let c := s.cy n
  match c.gap with
  | some g =>
    { s with cyc := { s.cyc with dsec := nputb s.cyc.dsec n false }, resp := .data status }.setCy n
      { c with ctx := some (ctxPut g c.rd status), gap := none, status := status }
  | none =>
    let s := if c.waitC then { s with resp := .data status } else s
    s.setCy n { c with status := status, waitC := false }

/-- Cycle `n` ends now: CYCDUR, CYCMAX, overrun, and the earliest next snapshot instant (R191). -/
def State.cycEnd (s : State) (n status : Nat) : State :=
  let s := s.gapBack n status
  let c := s.cy n
  let te := s.moduleTime
  let tmin := c.base + 4000 * s.fld (R.CYC_MINCYC n) 23 0
  let dur := (te - c.base) / 40
  let s := (s.wr (R.CYC_CYCDUR n) dur).wr (R.CYC_CYCMAX n) (max (s.rd (R.CYC_CYCMAX n)) dur)
  let s := if tmin < te then (s.incSat (R.CYC_OVRCNT n)).raise (cycPage n) 11 else s
  let s := (s.putBit (R.CYC_STAT n) 6 false).setCy n
    { c with opn := false, retired := true, sealed := none, staged := none, tready := some (max te tmin) }
  if s.cycRunning n && c.stop then s.cycStop n else s

/-! ### Entering a snapshot (R65, R145, R154) -/

/-- Is the triad of partition `n` in reintegration? -/
def State.reintRuns (s : State) (n : Nat) : Bool :=
  match s.triadOf n with
  | some t => s.bit (R.TRI_STAT t) 4
  | none => false

/-- The architectural state at D entry (R65). -/
def dEntry (i : CycImg) (hdr : Nat) : LaneCtx :=
  { x := (List.range 31).map (fun k => if k = 9 then BitVec.ofNat 64 hdr else if k = 10 then BitVec.ofNat 64 (hdr + 64) else 0)
    f := List.replicate 32 0, fcsr := 0, priv := if i.smode then 1 else 0
    satp := BitVec.ofNat 64 i.root, pc := BitVec.ofNat 64 i.entry }

/-- The lanes take the delivered snapshot: a D-section begins with fresh scratch, or NV.SNAP returns the address of the
header (R65, R67, R153). -/
def State.cycEnter (s : State) (n : Nat) : State :=
  let c := s.cy n
  match c.img with
  | none => s
  | some i =>
    let hdr := dramBase + s.winOfs n kSnapshot
    if s.dmode n then
      let t := (s.triadOf n).getD 0
      let s := { s with
        cyc := { s.cyc with dsec := nputb s.cyc.dsec n true }
        mem := { s.mem with
          scratch := s.mem.scratch.filter (fun e => e.1 / 2 ^ 14 / 3 != t), resv := tabDel s.mem.resv t } }
      s.setCy n { c with fresh := false, waits := [], ctx := some (dEntry i hdr) }
    else { s.setCy n { c with fresh := false, waits := [] } with resp := .data hdr }

/-- Do interrupts wait at the triad of partition `n` (R141)? -/
def State.irqWaits (s : State) (n : Nat) : Bool :=
  (s.triadOf n).any (fun t => !(tabGet ({} : TriT) s.tri.t t).irqs.isEmpty)

/-- The pending interrupts of partition `n` are taken at the boundary at which its lanes wait, whatever their target (R154). -/
def State.irqNow (s : State) (n : Nat) : State :=
  match s.triadOf n with
  | some t => { s with tri := { s.tri with t := tabSet {} s.tri.t t { tabGet ({} : TriT) s.tri.t t with target := none } } }
  | none => s

/-- A waiting NV.SNAP goes on with a delivered snapshot, once no reintegration runs; a pending interrupt is taken first
and the instruction is executed again (R145, R154). -/
def State.cycResume (s : State) (n : Nat) : State :=
  let c := s.cy n
  if c.fresh && !c.waits.isEmpty && s.cyRuns n && !s.reintRuns n then
    if s.irq n || s.irqWaits n then (s.setCy n { c with waits := [] }).irqNow n else s.cycEnter n
  else s

/-! ### Snapshots (R191, R193) -/

/-- MAXCYC in units of module time. -/
def State.maxCyc (s : State) (n : Nat) : Nat := 4000 * s.fld (R.CYC_MAXCYC n) 23 0

/-- The next snapshot instant, if it has come: its module time and NOSTROBE (R191).  The first instant after a start is
this tick. -/
def State.nextTs (s : State) (n : Nat) : Option (Nat × Bool) :=
  let c := s.cy n
  match c.tready with
  | none => none
  | some tr =>
    let now := s.moduleTime
    if now < tr then none
    else
      let grid (t : Nat) := now - (now - t) / 40 * 40
      if c.ts = 0 ∧ c.first then some (now, false)
      else if !s.bit (R.CYC_CTRL n) 1 then some (grid tr, false)
      else
        let late := max tr (c.base + s.maxCyc n)
        match ((s.strobes (s.fld (R.CYC_CTRL n) 7 2)).filter (fun o => decide (tr ≤ o.inst) &&
            decide (s.ticks ≤ o.tick + 100) && decide (o.inst ≤ c.base + s.maxCyc n))).getLast? with
        | some o => some (o.inst, false)
        | none => if late ≤ now then some (late, true) else none

/-- SNAPSHOT_INSTANT: the instant ts is fixed and every latest-value source keeps what it has below it (R193 step 1). -/
def execSnapshotInstant (dt : Nat) (n : Fin 6) (s : State) : Host.Outcome State Fault Refusal :=
  onMain dt s fun s =>
    let n := n.val
    let c := s.cy n
    if !s.cycRunning n || c.opn || c.old.isSome || c.chgTick.isSome || s.sys.down.isSome then s
    else
      match c.img, s.nextTs n with
      | some i, some (ts, ns) =>
        let r := i.src.foldl (fun a e =>
          if e.queue then (a.1 ++ [([], 0, ts - 1)], a.2)
          else
            let x := a.2.srcTake c a.1.length e ts
            (a.1 ++ [x.1], x.2)) (([] : List (List Nat × Nat × Nat)), s)
        (r.2.setCy n { c with
          cycle := c.cycle + 1, prev := c.ts, ts := ts, base := ts, nostrobe := ns, tready := none, opn := true, retired := false
          sealed := some r.1, fresh := false }).putBit (R.CYC_STAT n) 6 true
      | _, _ => s

/-- The quality byte of a delivered source: FORCED, and STALE by AGE (R197). -/
def State.srcQual (s : State) (n : Nat) (e : MapEnt) (q stamp ts : Nat) : Nat :=
  let stale := !e.queue && e.age != 0 && decide (stamp + 400000 * e.age < ts)
  let q := if stale then nputb q 3 true else q
  if s.forcedIn n e.dofs e.len then nputb q 1 true else q

/-- Place bytes in an image. -/
def place (img : List Nat) (o : Nat) (b : List Nat) : List Nat :=
  (List.range img.length).map (fun i => if o ≤ i ∧ i < o + b.length then b.getD (i - o) 0 else img.getD i 0)

/-- The snapshot header (R199). -/
def snapHeader (c : CycP) (i : CycImg) (forced : Bool) : List Nat :=
  bytesOf 8 c.cycle ++ bytesOf 8 c.ts ++ [c.kind % 256, b2n forced + 2 * b2n c.nostrobe, 0, 0] ++ bytesOf 4 i.inlen ++
    padTo 4 i.digest ++ List.replicate 36 0

/-- What the blocks do at the sealing of a snapshot: NEW and LOST of mapped objects and NEW of mapped filters clear
(R437, R473). -/
def State.sealMarks (s : State) (l : List MapEnt) : State :=
  forL l (fun e t =>
    if e.kind = 0x08 then (t.setNew e.inst e.item false).setLost e.inst e.item false
    else if e.kind = 0x0A then t.ethSnap e.item
    else t) s

/-- SNAPSHOT_DELIVERY: queues are delivered, the image is assembled with its input forces, the header is written last,
and SNAP is raised (R193 steps 2 to 4).  It comes once Dseal has passed since ts (assumption 115).  Until it does, a read of
the window returns the bytes of the last snapshot (DESIGN CHOICE, assumption 137), and an enabled input force beyond INLEN
replaces no byte and sets FORCEIN (DESIGN CHOICE, assumption 139). -/
def execSnapshotDelivery (dt : Nat) (n : Fin 6) (s : State) : Host.Outcome State Fault Refusal :=
  onMain dt s fun s =>
    let n := n.val
    let c := s.cy n
    match c.img, c.sealed with
    | some i, some vals =>
      if !s.cycRunning n || !c.opn || s.sys.down.isSome || decide (s.moduleTime < c.base + 40 * sealDelay i.src) then s
      else
        let r := (i.src.zip vals).foldl (fun (a : List (MapEnt × List Nat × Nat × Nat) × State) x =>
          let v := if x.1.queue then a.2.queueTake x.1 c.ts else (s.srcLate c a.1.length x.2 c.ts, a.2)
          (a.1 ++ [(x.1, v.1)], v.2)) ([], s)
        let s := r.2.sealMarks i.src
        let qs := r.1.map (fun x => (x.1, x.2.1, s.srcQual n x.1 x.2.2.1 x.2.2.2 c.ts))
        let img := qs.foldl (fun m x => place m x.1.dofs (padTo x.1.len x.2.1)) (List.replicate i.inlen 0)
        let img := qs.foldl (fun m x => if x.1.qual then place m x.1.qofs [x.2.2] else m) img
        let forced := (s.forces [] n).any (fun f => !f.2.1)
        let img := s.forceImage n false img
        let stale := (qs.filter (fun x => nb x.2.2 3)).length
        let s := s.winPut n kSnapshot 64 img
        let s := s.winPut n kSnapshot 0 (snapHeader c i forced)
        let s := (s.wr64 (R.CYC_TS n) c.ts).wr (R.CYC_SEALDLY n) ((s.moduleTime - c.base) / 40)
        let s := (s.wr (R.CYC_STALECNT n) stale).setCy n
          { c with
            sealed := none, fresh := !c.retired, kind := 0, first := false
            hist := c.hist.map (fun h => (h.1, s.histKeep c.ts h.2)) }
        let s := (s.raise (cycPage n) 0).raiseIf (stale != 0) (cycPage n) 12
        s.cycResume n
    | _, _ => s

/-! ### The commit path (R194, R203) -/

/-- The voted triad of partition `n` stops: MODE HALTED and the HALT event (R136). -/
def State.triStop (s : State) (n : Nat) : State :=
  match s.triadOf n with
  | some t =>
    if s.fld (R.TRI_STAT t) 2 0 = 4 then s
    else
      let x := tabGet ({} : TriT) s.tri.t t
      let x := { x with wait := none, due := false, run := none, copied := false, irqs := [], target := none }
      { (s.putFld (R.TRI_STAT t) 4 0 4).raise (0x020 + 2 * t) 3 with tri := { s.tri with t := tabSet {} s.tri.t t x } }
  | none => s

/-- The cycle that is open in a D-mode partition ends without a commit, and what it wrote is discarded (R68, R72). -/
def State.dropCycle (s : State) (n : Nat) : State :=
  if s.dmode n && (s.cy n).opn && !(s.cy n).retired then s.revert n true else s

/-- The engine of a halted partition comes to rest, with its outputs safe (R136, R189, R202). -/
def State.haltEnd (s : State) (n : Nat) : State :=
  let s := (s.dropCycle n).setCy n
    { s.cy n with opn := false, sealed := none, fresh := false, waits := [], tready := none, stop := false }
  (s.putBit (R.CYC_STAT n) 6 false).outputsSafe n

/-- The partition halts: its triad stops, page HALTED, PSTATE HALTED, outputs safe; an armed commit completes first (R136,
R189, R202).  A pending change is discarded with REASON ABORTED (DESIGN CHOICE, assumption 140). -/
def State.cycHalt (s : State) (n : Nat) : State :=
  if !decide (n < 6) then s
  else
    let now := s.triadOf n |>.any (fun t => s.fld (R.TRI_STAT t) 2 0 != 4)
    let s := { s.triStop n with cyc := { s.cyc with dsec := nputb s.cyc.dsec n false } }
    if s.pstate n == psHalted then (if now && (s.cy n).staged.isNone then s.haltEnd n else s)
    else
      let s := { s with ten := { s.ten with halted := nputb s.ten.halted n true } }
      let s := s.dropChange n
      let s := if s.cycState n = cyIdle then s else s.setCycState n cyHalted
      let s := (s.setPstate n psHalted).relHalted n
      if (s.cy n).staged.isSome then s else s.haltEnd n

/-- Poisoned data is consumed on behalf of partition `n` (R178). -/
def State.poisonTake (s : State) (n w : Nat) : State :=
  ((s.poisonLog n w).incSat R.MEM_POISONRD).raise 0x028 4

/-- Step 1 of R194 for partition `n`: the image is read, CDIGEST computed and output forces applied to the staging copy;
the sink check is made on it (step 2).  Poison in the image stops the commit, and the partition halts (R178). -/
def State.commitTake (s : State) (n : Nat) (i : CycImg) : State :=
  let c := s.cy n
  let s := s.winMeet n kOutimg 0 i.outlen
  let bad := match s.windowOf n kOutimg with
    | some w => s.firstPoison (s.wBase w) i.outlen
    | none => none
  match bad with
  | some w =>
    let s := (s.poisonTake n w).revert n (s.dmode n)
    (s.gapBack n 1).cycHalt n
  | none =>
    let img := s.outNow n i
    let forced := s.forceImage n true img
    let fail := (i.out.zip (List.range i.out.length)).find? (fun x => !s.sinkOk x.1 (x.1.bytes forced))
    let s := { s with cyc := { s.cyc with dsec := nputb s.cyc.dsec n false } }
    s.setCy n { c with
      retired := true
      staged := some
        { tick := s.ticks, img := img, forced := forced, digest := crc32c img
          bad := fail.map (fun x => (x.2, x.1.dofs)) } }

/-- A commit is refused at step 2 (R203). -/
def State.commitRefuse (s : State) (n entry ofs : Nat) : State :=
  let p := cycPage n
  let s := s.putFld (hCmtstat p) 15 4 (2 : Nat)
  let s := ((s.incSat (R.CYC_REFCNT n)).wr (R.CYC_REFLAST n) (entry % 512 * 65536 + ofs % 65536)).errAt p n 0x0102 ofs
  let halted := s.cycState n == cyHalted
  let s := ((s.raise p 9).revert n (s.dmode n)).cycEnd n 2
  if halted then s.haltEnd n else s

/-- The commit strobe at tc (R194 steps 3 and 4). -/
def State.commitStrobe (s : State) (n : Nat) (i : CycImg) (g : Staged) : State :=
  let c := s.cy n
  let s := s.setCy n { c with
    staged := some { g with tc := some s.ticks }
    ret := if s.dmode n then s.retNow n i else c.ret, out := g.img, applied := true, rstat := 0, trTick := g.tick }
  let s := (s.wr64 (R.CYC_CYCNT n) c.cycle).wr64 (R.CYC_TC n) s.moduleTime
  let s := s.wr (R.CYC_CDIGEST n) g.digest
  let s := (s.putBit (R.CYC_STAT n) 5 false).gapBack n 0
  let s := s.sinksTake n i.out g.forced
  s.markPages (fun p a => s.owns n p && a.mode == 1)

/-- The version of a checkpoint that a commit of a D-mode partition gives (R84, R538). -/
def State.ckCommit (s : State) (n : Nat) (i : CycImg) : State :=
  let c := s.cy n
  let div := max 1 (s.fld R.RDN_CKDIV 15 0)
  let due := s.dmode n && s.ckOn && s.takeSet.contains n && c.cycle % div == 0
  let s := if due then s.winMeet n kRetained (s.rhalf n) i.area else s
  if due && (s.retPoison n i.area).isNone then
    if h : n < 6 then
      s.ckTake n
        { part := ⟨n, h⟩, cycle := BitVec.ofNat 64 c.cycle, ret := c.ret.map (BitVec.ofNat 8), out := c.out.map (BitVec.ofNat 8)
          cdig := s.regGet (R.CYC_CDIGEST n), dig := (padTo 32 i.digest).map (BitVec.ofNat 8) }
    else s
  else if due then
    (s.poisonLog n ((s.retPoison n i.area).getD 0))
  else s

/-- A completed commit that was armed after the verdict makes the reintegration boundary (R143). -/
def State.reintDue (s : State) (n : Nat) : State :=
  match s.triadOf n with
  | some t =>
    let x := tabGet ({} : TriT) s.tri.t t
    match x.wait with
    | some (_, tv) =>
      if tv < (s.cy n).trTick then { s with tri := { s.tri with t := tabSet {} s.tri.t t { x with due := true } } } else s
    | none => s
  | none => s

/-- The commit is complete (R194 step 5): COMMIT is raised and the cycle ends; a change boundary, a release of primacy
and a halt that waited for it come about (R136, R214, R534). -/
def State.commitDone (s : State) (n : Nat) (i : CycImg) : State :=
  let halted := s.cycState n == cyHalted
  let s := ((s.raise (cycPage n) 1).setCy n { s.cy n with teTick := s.ticks }).reintDue n
  let s := (s.relCommitted n).ckCommit n i
  let s := match s.rdn.ti with
    | some t => { s.wr R.RDN_TAKEDUR ((s.ticks - t) / 100) with rdn := { s.rdn with ti := none } }
    | none => s
  let s := s.cycEnd n 0
  let s := if s.cycState n = cyChanging ∧ (s.cy n).chgTick = none ∧ (s.cy n).old = none then
      s.setCy n { s.cy n with chgTick := some s.ticks }
    else s
  if halted then s.haltEnd n else s

/-- COMMIT_COMPLETE: after a commit instruction the first delivery ends step 2 of R194, with the refusal or the strobe at
tc, and the next one, 1 µs after tc, completes the commit.  `dis`: the halves of the sequencer disagree, so no strobe is
issued and the partition halts (assumption 68). -/
def execCommitComplete (dt : Nat) (n : Fin 6) (dis : Bool) (s : State) : Host.Outcome State Fault Refusal :=
  onShed dt s fun s =>
    let n := n.val
    let c := s.cy n
    match c.img, c.staged with
    | some i, some g =>
      match g.tc with
      | some tc => if s.usSince tc 1 then s.commitDone n i else s
      | none =>
        if s.sys.down.isSome then s
        else if dis then
          let halted := s.cycState n == cyHalted
          let s := (s.setCy n { c with staged := none }).revert n (s.dmode n)
          let s := (((s.gapBack n 1).cycErr n 0x0104).raise (cycPage n) 13).cycHalt n
          if halted then s.haltEnd n else s
        else match g.bad with
        | some (e, o) => s.commitRefuse n e o
        | none => if s.ticks ≤ g.tick then s else s.commitStrobe n i g
    | _, _ => s

/-! ### Starts (R179, R205, R87) -/

/-- How a partition starts. -/
inductive StartHow where
  | cold
  | warm
  | takeover (c : CkPart)
deriving DecidableEq, Repr

/-- A FRAM record whose CRC fails is counted and reported (R169). -/
def State.recBad (s : State) (n : Nat) : State :=
  let bad := ([0, 1].filter (fun k => (tabFind s.cyc.fram (2 * n + k)).isSome && (s.slotRec n k).isNone)).length
  forN bad (fun _ t => (t.draw 32).2.framBad n (t.draw 32).1 false) s

/-- A digest mismatch: the partition does not start (R87). -/
def State.digestHalt (s : State) (n : Nat) : State :=
  let s := (s.cycErr n 0x0103).setCycState n cyHalted
  ({ s with ten := { s.ten with halted := nputb s.ten.halted n true } }.setPstate n psHalted).relHalted n

/-- Start partition `n`: its windows are written in full, every mapped sink takes its safe value, and the engine goes to
STARTING (R179, R189, R205). -/
def State.cycStart (s : State) (n : Nat) (how : StartHow) : State :=
  match (s.cy n).img with
  | none => s
  | some i =>
    if s.cycState n ≠ cyStopped then s
    else
      let s := match how with
        | .warm => s.recBad n
        | _ => s
      let r := match how with
        | .warm => s.newestRec n
        | _ => none
      let badDig := match how with
        | .warm => (match r with | some x => decide (x.digest ≠ i.digest) | none => false)
        | .takeover c => decide (c.dig.map BitVec.toNat ≠ padTo 32 i.digest)
        | .cold => false
      if badDig then s.digestHalt n
      else
        let init := padTo i.area i.rinit
        let v : List Nat × List Nat × Nat × Nat × Nat := match how, r with
          | .takeover c, _ =>
            (padTo i.area (c.ret.map BitVec.toNat), padTo i.outlen (c.out.map BitVec.toNat), c.cycle.toNat, 4, 3)
          | .warm, some x => (padTo i.retain x.retain ++ init.drop i.retain, padTo i.outlen i.oinit, x.cycle, 2, 2)
          | _, _ => (init, padTo i.outlen i.oinit, 0, 1, 1)
        let s := s.winClear n
        let s := (s.winPut n kRetained (s.rhalf n) v.1).winPut n kOutimg 0 v.2.1
        let c := s.cy n
        ((s.sinksSafe n).wr (R.CYC_CHGCNT n) 0 |>.setCy n { c with
          cycle := v.2.2.1, ts := 0, prev := 0, first := true, kind := v.2.2.2.1, rstat := v.2.2.2.2, nostrobe := false
          tready := none, opn := false, retired := false, sealed := none, fresh := false, waits := [], stop := false, waitC := false
          staged := none, ret := v.1, out := v.2.1, mark := none, applied := false, gap := none, ctx := none, status := 0
          old := none, chgTick := none, arm := none
        }).setCycState n cyStarting

/-- The start that CTRL.STARTPOL asks for (R189, R530). -/
def State.cycBegin (s : State) (n : Nat) : State :=
  match s.fld (R.CYC_CTRL n) 10 9 with
  | 1 => s.cycStart n .warm
  | 2 => s.cycStart n .cold
  | _ => s

/-- CYC_START_COMPLETE: the windows are written and the first snapshot instant is fixed: RUNNING (R189). -/
def execCycStartComplete (dt : Nat) (n : Fin 6) (s : State) : Host.Outcome State Fault Refusal :=
  onMain dt s fun s =>
    let n := n.val
    if s.cycState n = cyStarting ∧ s.sys.down = none then
      (s.setCy n { s.cy n with tready := some s.moduleTime, saveTick := s.ticks }).setCycState n cyRunning
    else s

/-! ### Commands of the CYC page (R190, R212, R221) -/

/-- A keyed write of CYCCMD with command `k`. -/
def State.cycCmd (s : State) (who : Init) (n k : Nat) (v : Word) (f : Nat → State → State) : State :=
  s.cmdW who (cycPage n) 0xC00 fun part s => s.keyed (cycPage n) 0xC00 part 0x6C3A v fun s =>
    if nf v.toNat 3 0 = k then f part s
    else if within 1 7 (nf v.toNat 3 0) then s
    else s.err (cycPage n) part eBadValue (R.CYC_CYCCMD n)

/-- A command that the state does not allow. -/
def State.cycBad (s : State) (n part : Nat) : State := s.err (cycPage n) part eBadValue (R.CYC_CYCCMD n)

/-- START_COLD. -/
def execStartCold (dt : Nat) (who : Init) (n : Fin 6) (v : Word) (s : State) : Host.Outcome State Fault Refusal :=
  onMain dt s fun s => s.cycCmd who n.val 1 v fun p s =>
    if s.cycState n.val = cyStopped ∧ (s.cy n.val).img.isSome then s.cycStart n.val .cold else s.cycBad n.val p

/-- START_WARM. -/
def execStartWarm (dt : Nat) (who : Init) (n : Fin 6) (v : Word) (s : State) : Host.Outcome State Fault Refusal :=
  onMain dt s fun s => s.cycCmd who n.val 2 v fun p s =>
    if s.cycState n.val = cyStopped ∧ (s.cy n.val).img.isSome then s.cycStart n.val .warm else s.cycBad n.val p

/-- A CHGARM accepted in the tick of a STOP is refused with BAD_VALUE after all (R216). -/
def State.unarm (s : State) (n : Nat) : State :=
  let c := s.cy n
  match c.arm with
  | some (t, part, old) =>
    if t = s.ticks ∧ s.cycState n = cyChanging ∧ c.old = none then
      (((s.setCy n { c with arm := none, chgTick := none }).putFld (R.CYC_STAT n) 2 0 cyRunning).wr (hCmtstat (cycPage n))
        old).cycBad n part
    else s
  | none => s

/-- A stop is asked for: at once between cycles, else when the cycle ends, and during a migration when that ends (assumption
116); a pending change is discarded (R190). -/
def State.cycAsk (s : State) (n : Nat) : State :=
  let s := s.unarm n
  if (s.cy n).opn || (s.cy n).old.isSome || s.cycState n == 2 then
    let s := s.dropChange n
    s.setCy n { s.cy n with stop := true }
  else s.cycStop n

/-- STOP: at once between cycles, else when the cycle ends, and during a migration when that ends (assumption 116); a pending
change is discarded (R190). -/
def execStop (dt : Nat) (who : Init) (n : Fin 6) (v : Word) (s : State) : Host.Outcome State Fault Refusal :=
  onMain dt s fun s => s.cycCmd who n.val 3 v fun p s =>
    if !s.cycRunning n.val then s.cycBad n.val p else s.cycAsk n.val

/-- The prepared change image of UPD for partition `n`, as bytes, with whether its digest verifies. -/
def State.prepared (s : State) (n : Nat) : Option (List Nat) := tabFind s.upd.prep n

/-- CHGLOAD: copy the prepared image into the inactive bank, or refuse with CHGNOTREADY (R212).  Without D-mode or a program,
and while a change is pending, it is refused with BAD_VALUE (DESIGN CHOICE, assumption 118). -/
def execChgload (dt : Nat) (who : Init) (n : Fin 6) (v : Word) (s : State) : Host.Outcome State Fault Refusal :=
  onMain dt s fun s => s.cycCmd who n.val 4 v fun p s =>
    let n := n.val
    if !s.dmode n || (s.cy n).img.isNone || s.cycState n == cyChanging then s.cycBad n p
    else match s.prepared n with
    | none => s.err (cycPage n) p 0x0105 (R.CYC_CYCCMD n)
    | some b =>
      (s.setCy n { s.cy n with next := some (imgParse b), loading := true, loadTick := s.ticks, nextBad := 0 }).putBit
        (R.CYC_STAT n) 8 false

/-- REASON * 256 + TABLE of a verdict. -/
def verdictCode : Verdict → Nat
  | .ok => 0
  | .table t => rTable * 256 + t
  | _ => rRange * 256

/-- LOADDONE: the copy has ended and the digest is verified; the checks of R213 are made (R212). -/
def execLoaddone (dt : Nat) (n : Fin 6) (digestOk : Bool) (s : State) : Host.Outcome State Fault Refusal :=
  onMain dt s fun s =>
    let n := n.val
    let c := s.cy n
    match c.next, s.prepared n with
    | some i, some b =>
      if !c.loading then s
      else
        let bank := s.winSize n kDcode / 2
        let s := s.winPut n kDcode (if s.bit (R.CYC_STAT n) 9 then 0 else bank) (b.take bank)
        if !digestOk then
          ((s.setCy n { c with loading := false, next := none }).cycErr n 0x0103).raise (cycPage n) 3
        else
          ((s.setCy n { c with loading := false, nextBad := verdictCode (s.imgCheck n i true) }).putBit (R.CYC_STAT n) 8
            true).raise (cycPage n) 3
    | _, _ => s

/-- CHGARM: arm the loaded change for the change boundary; in the tick of a STOP it is refused (R212, R216), and so it is while
an earlier STOP waits for its cycle to end (DESIGN CHOICE, assumption 138). -/
def execChgarm (dt : Nat) (who : Init) (n : Fin 6) (v : Word) (s : State) : Host.Outcome State Fault Refusal :=
  onMain dt s fun s => s.cycCmd who n.val 5 v fun p s =>
    let n := n.val
    if s.cycState n = cyRunning ∧ s.bit (R.CYC_STAT n) 8 ∧ !(s.cy n).stop then
      let s := (s.putFld (R.CYC_STAT n) 2 0 cyChanging).setCy n
        { s.cy n with chgTick := none, arm := some (s.ticks, p, s.rd (hCmtstat (cycPage n))) }
      (s.putFld (hCmtstat (cycPage n)) 31 16 (s.fld (hCmt (cycPage n)) 31 16)).setCmtstat (cycPage n) 1 0 0
    else s.cycBad n p

/-- CHGABORT: discard the pending change with REASON ABORTED (R213). -/
def execChgabort (dt : Nat) (who : Init) (n : Fin 6) (v : Word) (s : State) : Host.Outcome State Fault Refusal :=
  onMain dt s fun s => s.cycCmd who n.val 6 v fun p s =>
    if s.cycState n.val = cyChanging ∧ (s.cy n.val).old = none then s.dropChange n.val else s.cycBad n.val p

/-- GROUPCMT: the pending MODE 3 pages of the partition form one group, with this tick as t0 (R53, R56). -/
def execGroupcmt (dt : Nat) (who : Init) (n : Fin 6) (v : Word) (s : State) : Host.Outcome State Fault Refusal :=
  onMain dt s fun s => s.cycCmd who n.val 7 v fun p s =>
    if s.cycState n.val = cyIdle ∨ s.cycState n.val = cyHalted then s.cycBad n.val p
    else s.markPages (fun q c => s.owns n.val q && c.mode == 3)

/-- CNTCLR. -/
def execCycCntclr (dt : Nat) (who : Init) (n : Fin 6) (v : Word) (s : State) : Host.Outcome State Fault Refusal :=
  onMain dt s fun s => s.cmdW who (cycPage n.val) 0xC04 fun _ => onOne v fun s =>
    s.zero [R.CYC_CYCMAX n.val, R.CYC_OVRCNT n.val, R.CYC_WDCNT n.val, R.CYC_REFCNT n.val]

/-! ### Change (R213 to R215) -/

/-- The new retained area: matched instances of the old area, initial values elsewhere (R215). -/
def migrate (old new : CycImg) (area : List Nat) : List Nat :=
  let init := padTo new.area new.rinit
  new.inst.foldl (fun m x =>
    let part (i : CycImg) (y : Nat × Nat × Nat × Nat) := decide (y.2.2.1 < i.retain)
    match old.inst.find? (fun y => y.1 == x.1 && y.2.1 == x.2.1 && y.2.2.2 == x.2.2.2 && part old y == part new x) with
    | some y => place m x.2.2.1 ((area.drop y.2.2.1).take y.2.2.2)
    | none => m) init

/-- Poison in the old retained area (R214). -/
def State.migPoison (s : State) (n : Nat) (i : CycImg) : Option Nat := s.retPoison n i.area

/-- CHANGE_APPLY: at the change boundary the change is applied, the banks switch and the new maps become active, or it is
refused; the next delivery ends the migration, switches RBANK and raises CHGDONE (R214, assumption 69). -/
def execChangeApply (dt : Nat) (n : Fin 6) (s : State) : Host.Outcome State Fault Refusal :=
  onMain dt s fun s =>
    let n := n.val
    let p := cycPage n
    let c := s.cy n
    if s.cycState n ≠ cyChanging then s
    else
      match c.old, c.img with
      | some o, some i =>
        let s := s.winMeet n kRetained (s.rhalf n) o.area
        match s.migPoison n o with
        | some w => ((s.poisonTake n w).putFld (R.CYC_STAT n) 2 0 cyRunning).cycHalt n
        | none =>
          let area := migrate o i c.ret
          let out := padTo i.outlen (c.out.take o.outlen)
          let half := s.bit (R.CYC_STAT n) 10
          let s := (s.putBit (R.CYC_STAT n) 10 (!half)).winPut n kRetained
            (if half then 0 else s.winSize n kRetained / 2) area
          let s := s.winPut n kOutimg 0 out
          let s := s.setCy n { c with
            old := none, ret := area, out := out, kind := 3, tready := c.tready.map (fun t => max t s.moduleTime) }
          let s := ((s.orphans n).raise p 2).putFld (R.CYC_STAT n) 2 0 cyRunning
          if c.stop then s.cycStop n else s
      | _, _ =>
        match c.chgTick, c.next with
        | some _, some i =>
          let v := if c.nextBad ≠ 0 then c.nextBad else if s.mapOwned n i then 0 else rRange * 256
          if v ≠ 0 then
            let s := (s.chgStat p 3 (v / 256) (v % 256)).setCy n { c with chgTick := none }
            (s.raise p 2).putFld (R.CYC_STAT n) 2 0 cyRunning
          else
            let s := (s.useImage n (some i)).srcStart
            let s := s.setCy n { s.cy n with old := c.img, next := none, chgTick := none }
            let s := ((s.putBit (R.CYC_STAT n) 9 (!s.bit (R.CYC_STAT n) 9)).putBit (R.CYC_STAT n) 8 false)
            ((s.incWrap (hGen p)).incWrap (R.CYC_CHGCNT n)).chgStat p 2 0 0
        | _, _ => s

/-! ### The watchdog (R192) -/

/-- WATCHDOG_EXPIRY: MAXCYC after ts with neither a commit nor an abort retired.  A commit instruction that
retires in the tick of the expiry is in time.  A D-section ends without a commit; then the page stops, or a partition reset
follows the save and the safe commit, by WDACT (R202). -/
def execWatchdogExpiry (dt : Nat) (n : Fin 6) (s : State) : Host.Outcome State Fault Refusal :=
  onMain dt s fun s =>
    let n := n.val
    let c := s.cy n
    if s.cycRunning n && c.opn && !c.retired && decide (c.base + s.maxCyc n < s.moduleTime) then
      let d := s.dmode n
      let s := ((s.incSat (R.CYC_WDCNT n)).cycErr n 0x0101).raise (cycPage n) 8
      let s := s.dropChange n
      let s := if d then (s.revert n true).cycEnd n 1
        else s.setCy n { s.cy n with opn := false, sealed := none, fresh := false }
      let s := s.setCy n { s.cy n with stop := false }
      if s.bit (R.CYC_CTRL n) 8 then ((s.retSave n true).safeCommit n).askReset n
      else if s.cycRunning n then s.cycStop n
      else s
    else s

/-! ### Commits of a CYC page (R208, R221) -/

/-- Are the enabled forces inside their images and apart? -/
def State.forcesOk (s : State) (g : List Nat) (n : Nat) : Bool :=
  let fs := s.forces g n
  [false, true].all (fun side =>
    rangesOk (if side then s.fld (R.CYC_OUTSIZE n) 16 0 else s.fld (R.CYC_INSIZE n) 16 0)
      ((fs.filter (fun f => f.2.1 == side)).map (fun f => (f.2.2.1, f.2.2.2.1))))

/-- The check of a CYC page. -/
def State.cycCheck (s : State) (p : Nat) : Verdict :=
  if 0x030 ≤ p ∧ p ≤ 0x035 then
    let n := p - 0x030
    let d := s.shBit (R.CYC_CTRL n) 0
    rangeIf (
      (d == s.bit (R.CYC_CTRL n) 0 || s.cycState n == cyIdle || s.cycState n == cyStopped) && (!d || s.voted n) &&
      s.shFld (R.CYC_CTRL n) 10 9 != 3 && within 50 1000000 (s.shFld (R.CYC_MINCYC n) 23 0) &&
      within (s.shFld (R.CYC_MINCYC n) 23 0) 10000000 (s.shFld (R.CYC_MAXCYC n) 23 0) &&
      decide (s.shFld (R.CYC_RSAVE n) 12 0 ≤ 6000) && s.forcesOk [p] n)
  else .ok

/-- What a CYC page does when its shadows became active; D-mode gives up the PMC pages of the partition (R582). -/
def State.cycApplied (s old : State) (p : Nat) : State :=
  if 0x030 ≤ p ∧ p ≤ 0x035 then
    let n := p - 0x030
    let s := if s.rd (R.CYC_RSAVE n) ≠ old.rd (R.CYC_RSAVE n) then s.setCy n { s.cy n with saveTick := s.ticks } else s
    let s := if s.bit (R.CYC_CTRL n) 0 && !old.bit (R.CYC_CTRL n) 0 then
        forN 4 (fun t u => if u.owns n (0x0D4 + t) then u.setOwner (0x0D4 + t) 0 else u) s
      else s
    s.orphans n
  else s

/-- The signals that source maps of the GWY owner read (R482). -/
def State.gwyReads (s : State) : List Nat :=
  match s.owner 0x0C0 with
  | some n => (match (s.cy n).img with
    | some i => (i.src.filter (fun e => e.kind == 0x0B)).map (·.item)
    | none => [])
  | none => []

end Sys2Proof.Machine
end

