-- ==== Sys2Proof/Machine/Pmc.lean ====
section
/-! DEFINITION. PMC: the source lane, the counters, overflow, and the two kinds of sampling (R581 to R593). -/
namespace Sys2Proof.Machine

abbrev pmcPage (t : Nat) : Nat := 0x0D4 + t

def State.pmcT (s : State) (t : Nat) : PmcT := tabGet {} s.pmc t
def State.setPmcT (s : State) (t : Nat) (x : PmcT) : State := { s with pmc := tabSet {} s.pmc t x }

/-- The precise-capture variant (R589). -/
def State.precise (s : State) : Bool := s.hasTriad 2

/-! ### The source lane (R585) -/

/-- The leading active lane of triad `t`, 3 when there is none: LANESTAT code 1 is ACTIVE. -/
def State.leadLane (s : State) (t : Nat) : Nat := ((List.range 3).find? (fun l => s.laneState t l == 1)).getD 3

/-- SRCLANE follows the leading active lane; a change from one lane to another counts in SRCSW. -/
def State.pmcSource (s : State) (t : Nat) : State :=
  let old := s.fld (R.PMC_STAT t) 1 0
  let new := s.leadLane t
  let s := s.putFld (R.PMC_STAT t) 1 0 new
  if old ≠ new ∧ old ≠ 3 ∧ new ≠ 3 then s.incSat (R.PMC_SRCSW t) else s

/-- The lane that counter `k` takes its events from, 3 for none. -/
def State.pmcLane (s : State) (t k : Nat) : Nat :=
  if s.split t then
    let l := b2n (s.bit (R.PMC_CFG t k) 8)
    if s.laneState t l = 6 then l else 3
  else s.leadLane t

/-! ### Counting (R584, R588) -/

/-- Does counter `k` count?  The voted-path events stay 0 in a split triad. -/
def State.pmcRuns (s : State) (t k : Nat) : Bool :=
  let c := s.rd (R.PMC_CFG t k)
  s.hasTriad t && !(s.split t && within 0x0B 0x0C (nf c 5 0)) && s.bit (R.PMC_CTRL t) 0 && !s.bit (R.PMC_STAT t) 2 && nb c 6 && nf c 5 0 != 0 && nf c 11 9 != 0 &&
    s.pmcLane t k != 3

/-- What the lanes counted since a counter was last read comes from their execution, so a counter that runs has advanced
by an open amount without passing 0 (assumption 72). -/
def State.pmcAdvance (s : State) (t : Nat) : State :=
  forN 8 (fun k s =>
    if s.pmcRuns t k then
      let c := s.rd64 (R.PMC_CNT t k)
      let d := s.draw 64
      d.2.wr64 (R.PMC_CNT t k) (c + d.1 % (2 ^ 64 - c))
    else s) s

/-- Weevil is armed by counter `k`, or the overflow starts no tag (R591). -/
def State.weevilArm (s : State) (t k : Nat) : State :=
  let x := s.pmcT t
  if x.tag.isSome ∨ 16 ≤ x.ring.length then s.incSat (R.PMC_WVSKIP t)
  else
    let d := s.draw 16
    (d.2.setPmcT t { x with tag := some (k, d.1 % 2 ^ s.fld (R.PMC_WVCFG t) 3 0) }).putBit (R.PMC_WVSTAT t) 0 true

/-- COUNTER_OVERFLOW: the counters of a mask pass from all ones to 0 in one core clock: reload, OVF, freeze and sampling
(R588, R591). -/
def execCounterOverflow (dt : Nat) (t : Fin 4) (m : Byte) (s : State) : Host.Outcome State Fault Refusal :=
  onMain dt s fun s =>
    let t := t.val
    let ks := (List.range 8).filter (fun k => nb m.toNat k && s.pmcRuns t k)
    if ks = [] then s
    else
      let s := s.pmcAdvance t
      let s := forL ks (fun k u =>
        (u.wr64 (R.PMC_CNT t k) (u.rd64 (R.PMC_RLD t k))).putBit (R.PMC_OVF t) k true) s
      let s := s.raise (pmcPage t) 0
      let s := if s.bit (R.PMC_CTRL t) 1 then s.putBit (R.PMC_STAT t) 2 true else s
      match ks.find? (fun k => s.bit (R.PMC_CFG t k) 7) with
      | some k => if s.precise then s else s.weevilArm t k
      | none => s

/-- OVF_CLEAR: OVF bits clear by writing 1; with OVF = 0 frozen counters run again (R588). -/
def execOvfClear (dt : Nat) (who : Init) (t : Fin 4) (v : Word) (s : State) : Host.Outcome State Fault Refusal :=
  onMain dt s fun s => s.cmdW who (pmcPage t.val) 0x0E0 fun _ s =>
    let o := s.rd (R.PMC_OVF t.val)
    let s := s.wr (R.PMC_OVF t.val) (o - (o &&& v.toNat))
    if s.rd (R.PMC_OVF t.val) = 0 then s.putBit (R.PMC_STAT t.val) 2 false else s

/-- PMC_SNAP: all eight counters and module time in one core clock (R586). -/
def execPmcSnap (dt : Nat) (who : Init) (t : Fin 4) (v : Word) (s : State) : Host.Outcome State Fault Refusal :=
  onMain dt s fun s => s.cmdW who (pmcPage t.val) 0xC00 fun _ => onOne v fun s =>
    if !s.hasTriad t.val then s
    else
      let s := s.pmcAdvance t.val
      let s := forN 8 (fun k u => u.wr64 (R.PMC_SNAPV t.val k) (u.rd64 (R.PMC_CNT t.val k))) s
      s.wr64 (R.PMC_SNAPT t.val) s.moduleTime

/-! ### Sampling (R589 to R591) -/

/-- Is a privilege mode (0 U, 1 S, 3 M) enabled for counter `k`? -/
def State.pmcMode (s : State) (t k priv : Nat) : Bool :=
  match priv with
  | 0 => s.bit (R.PMC_CFG t k) 9
  | 1 => s.bit (R.PMC_CFG t k) 10
  | 3 => s.bit (R.PMC_CFG t k) 11
  | _ => false

/-- An entry or record of eight words. -/
def words8 (a b : BitVec 64) (w4 w5 w6 w7 : Nat) : List Nat :=
  [a.toNat % 2 ^ 32, a.toNat / 2 ^ 32, b.toNat % 2 ^ 32, b.toNat / 2 ^ 32, w4, w5, w6, w7]

/-- PRECISE_CAPTURE: the CAPDIV-th instruction that qualifies for counter `k` retires; its entry is written, or dropped
when 4,096 are held (R590). -/
def execPreciseCapture (dt : Nat) (t : Fin 4) (k : Fin 8) (priv : Fin 4) (pc addr : BitVec 64) (lat : Word) (s : State) :
    Host.Outcome State Fault Refusal :=
  onMain dt s fun s =>
    let t := t.val
    let k := k.val
    if s.precise && s.pmcRuns t k && s.bit (R.PMC_CFG t k) 7 && s.pmcMode t k priv.val &&
        decide (s.fld (R.PMC_CAPCFG t) 15 0 ≤ lat.toNat) then
      let x := s.pmcT t
      if 4096 ≤ x.buf.length then (s.incSat (R.PMC_SBDROP t)).raise (pmcPage t) 2
      else
        let e := words8 pc addr (s.fld (R.PMC_CFG t k) 5 0 + k * 2 ^ 8 + s.pmcLane t k * 2 ^ 12 + priv.val * 2 ^ 16) lat.toNat
          (s.moduleTime % 2 ^ 32) (s.moduleTime / 2 ^ 32)
        let n := x.buf.length + 1
        ((s.setPmcT t { x with buf := x.buf ++ [e] }).wr (R.PMC_SBCNT t) n).raiseIf (n == s.fld (R.PMC_SBTHR t) 12 0)
          (pmcPage t) 1
    else s

/-- The words 6 and 4, 5, 7 of a Weevil record come with the command; the counter and the lane are the model's. -/
def execWeevilRecord (dt : Nat) (t : Fin 4) (pc blk : BitVec 64) (w4 w5 : Word) (flags : BitVec 10) (priv : Fin 4)
    (dist : BitVec 16) (s : State) : Host.Outcome State Fault Refusal :=
  onMain dt s fun s =>
    let t := t.val
    let x := s.pmcT t
    match x.tag with
    | none => s
    | some (k, _) =>
      let e := words8 pc blk w4.toNat w5.toNat
        ((flags.toNat &&& 0x3BF) + priv.val * 2 ^ 10 + k * 2 ^ 12 + s.pmcLane t k * 2 ^ 16) dist.toNat
      ((s.setPmcT t { x with ring := x.ring ++ [e], tag := none }).wr (R.PMC_WVSTAT t) ((x.ring.length + 1) * 2)).raise
        (pmcPage t) 3

/-- SBPOP: the oldest entry moves to SBENT; [31] VALID and the entries left, 0 when there is none (R590). -/
def execSbpop (dt : Nat) (who : Init) (t : Fin 4) (s : State) : Host.Outcome State Fault Refusal :=
  onMain dt s fun s => s.cmdR who (pmcPage t.val) 0xC04 fun _ s =>
    match (s.pmcT t.val).buf with
    | [] => { s with resp := .data 0 }
    | e :: l =>
      let s := (s.setPmcT t.val { s.pmcT t.val with buf := l }).wr (R.PMC_SBCNT t.val) l.length
      { forN 8 (fun i u => u.wr (R.PMC_SBENT t.val i) (e.getD i 0)) s with resp := .data (0x80000000 + l.length) }

/-- WVPOP: the oldest record moves to WVREC (R591). -/
def execWvpop (dt : Nat) (who : Init) (t : Fin 4) (s : State) : Host.Outcome State Fault Refusal :=
  onMain dt s fun s => s.cmdR who (pmcPage t.val) 0xC08 fun _ s =>
    match (s.pmcT t.val).ring with
    | [] => { s with resp := .data 0 }
    | e :: l =>
      let s := (s.setPmcT t.val { s.pmcT t.val with ring := l }).putFld (R.PMC_WVSTAT t.val) 5 1 l.length
      { forN 8 (fun i u => u.wr (R.PMC_WVREC t.val i) (e.getD i 0)) s with resp := .data (0x80000000 + l.length) }

/-- PMC_CNTCLR. -/
def execPmcCntclr (dt : Nat) (who : Init) (t : Fin 4) (v : Word) (s : State) : Host.Outcome State Fault Refusal :=
  onMain dt s fun s => s.cmdW who (pmcPage t.val) 0xC0C fun _ => onOne v fun s =>
    s.zero [R.PMC_SRCSW t.val, R.PMC_SBDROP t.val, R.PMC_WVSKIP t.val]

/-- What CSR hpmcounter3 + `k` of a lane of triad `t` reads outside a D-section (R583). -/
def State.hpmCounter (s : State) (t k : Nat) : Nat := if k < 8 then s.rd64 (R.PMC_CNT t k) else 0

/-- The check of a PMC page (R584, R593). -/
def State.pmcCheck (s : State) (p : Nat) : Verdict :=
  if 0x0D4 ≤ p ∧ p ≤ 0x0D7 then
    let t := p - 0x0D4
    rangeIf ((List.range 8).all (fun k => decide (s.shFld (R.PMC_CFG t k) 5 0 ≤ 0x10)) &&
      (!s.precise || within 1 4096 (s.shFld (R.PMC_SBTHR t) 12 0)) &&
      (s.precise || decide (s.shFld (R.PMC_WVCFG t) 3 0 ≤ 10)))
  else .ok

/-- A page of PMC after a reset of its owner: registers are at their reset values, the buffers are empty, and STAT shows
what it shows (R581, R585). -/
def State.pmcReset (s : State) (t : Nat) : State :=
  if s.hasTriad t then
    ((s.setPmcT t {}).putFld (R.PMC_STAT t) 1 0 (s.leadLane t)).putBit (R.PMC_STAT t) 3 (s.split t)
  else s.setPmcT t {}

end Sys2Proof.Machine
end

