-- ==== Sys2Proof/Machine/Tri.lean ====
section
/-! DEFINITION. TRI: the verdicts of the Scarab pair, degrade and halt, self-tests, audits, interrupt alignment,
reintegration, fences, and the start of a triad (R130 to R151, R159, R160, R636). -/
namespace Sys2Proof.Machine

/-! ### Reading a triad -/

abbrev triPage (t : Nat) : Nat := 0x020 + 2 * t
abbrev triVoter (t : Nat) : Nat := 0x021 + 2 * t

abbrev tmOff : Nat := 0
abbrev tmStarting : Nat := 1
abbrev tm2oo3 : Nat := 2
abbrev tm2oo2 : Nat := 3
abbrev tmHalted : Nat := 4
abbrev tmSplit : Nat := 5

abbrev lnOff : Nat := 0
abbrev lnActive : Nat := 1
abbrev lnMinority : Nat := 2
abbrev lnReint : Nat := 3
abbrev lnSelftest : Nat := 4
abbrev lnFenced : Nat := 5
abbrev lnSplit : Nat := 6

/-- Causes of FENCECAUSE. -/
abbrev fcBudget : Nat := 1
abbrev fcSelftest : Nat := 2
abbrev fcReset : Nat := 3
abbrev fcPolicy : Nat := 4
abbrev fcCommand : Nat := 5

/-- Kinds of VERDICT. -/
abbrev vkOutput : Nat := 1
abbrev vkAudit : Nat := 2
abbrev vkDparity : Nat := 3
abbrev vkNomaj : Nat := 4
abbrev vkHalfdis : Nat := 5
abbrev vkSelftest : Nat := 6

def State.triT (s : State) (t : Nat) : TriT := tabGet {} s.tri.t t
def State.setTriT (s : State) (t : Nat) (x : TriT) : State := { s with tri := { s.tri with t := tabSet {} s.tri.t t x } }
def State.triMode (s : State) (t : Nat) : Nat := s.fld (R.TRI_STAT t) 2 0
def State.setTriMode (s : State) (t m : Nat) : State := s.putFld (R.TRI_STAT t) 2 0 m
def State.setLane (s : State) (t l st : Nat) : State := s.putFld (R.TRI_LANESTAT t) (4 * l + 3) (4 * l) st

/-- Does the triad vote: in 2oo3 or 2oo2, and no reintegration runs? -/
def State.votes (s : State) (t : Nat) : Bool :=
  (s.triMode t == tm2oo3 || s.triMode t == tm2oo2) && !s.bit (R.TRI_STAT t) 4

/-- Reintegrations of a lane that started within the last 3,600 s of module time (R146). -/
def State.reintCount (s : State) (t l : Nat) : Nat :=
  ((tabGet [] s.tri.starts (3 * t + l)).filter (fun x => decide (s.moduleTime < x + 14400000000000))).length

/-- REINTCNT as it stands. -/
def State.reintCnt (s : State) (t : Nat) : Nat :=
  min 15 (s.reintCount t 0) + 16 * min 15 (s.reintCount t 1) + 256 * min 15 (s.reintCount t 2)

/-- Powered lanes that are ACTIVE. -/
def State.activeLanes (s : State) (t : Nat) : List Nat := (List.range 3).filter (fun l => s.laneState t l == lnActive)

/-- Lanes that are not fenced. -/
def State.openLanes (s : State) (t : Nat) : List Nat :=
  (List.range 3).filter (fun l => s.laneState t l != lnFenced && s.laneState t l != lnOff)

/-- Set or clear the FRAM mark of a lane. -/
def State.setMark (s : State) (t l : Nat) (on : Bool) : State :=
  { s with tri := { s.tri with marks := tabSet false s.tri.marks (3 * t + l) on } }

/-! ### Verdicts (R134, R636) -/

/-- Record a verdict other than AGREE. -/
def State.verdict (s : State) (t lane kind addr : Nat) : State :=
  let s := (s.wr (R.TRI_VERDICT t) (lane + 16 * kind)).wr64 (R.TRI_VADDR t)
    (if kind = vkAudit ∨ kind = vkSelftest then 0 else addr % 2 ^ 40)
  if lane < 3 then s.replicaErr (triPage t) else if kind = vkSelftest then s.replicaErr (triVoter t) else s

/-- The triad halts, and with it its partition (R136). -/
def State.triHalt (s : State) (t : Nat) : State :=
  match s.partOfTriad t with
  | some n => s.cycHalt n
  | none => s

/-- Fence a lane: it is excluded and powered down (R147). -/
def State.fenceLane (s : State) (t l cause : Nat) : State :=
  (s.setLane t l lnFenced).putFld (R.TRI_FENCECAUSE t) (4 * l + 3) (4 * l) cause

/-- PSTATE shows DEGRADED when it was RUNNING (R135, R37). -/
def State.degraded (s : State) (t : Nat) : State :=
  match s.partOfTriad t with
  | some n => if s.pstate n = psRunning then s.setPstate n psDegraded else s
  | none => s

/-- Lane `l` of a triad in 2oo3 is the minority: it is excluded, and waits for reintegration or is fenced (R135, R143,
R146, R147).  With REINTEN = 0 and the budget used up as well, the cause is POLICY (DESIGN CHOICE, assumption 105). -/
def State.degrade (s : State) (t l : Nat) : State :=
  let cause := if !s.bit (R.TRI_CTRL t) 0 then fcPolicy else if 3 ≤ s.reintCount t l then fcBudget else 0
  let s := if cause ≠ 0 then s.fenceLane t l cause
    else ((s.setLane t l lnMinority).putBit (R.TRI_STAT t) 3 true).setTriT t
      { s.triT t with wait := some (l, s.ticks), due := false }
  let s := ((s.setTriMode t tm2oo2).degraded t).raise (triPage t) 0
  (s.raiseIf (cause != 0) (triPage t) 2).pmcSource t

/-- The difference of one lane, in 2oo3 or 2oo2 (R134, R636): `audit` says that the request is a state-audit digest.
The answer says whether the request is issued. -/
def State.laneDiffers (s : State) (t l : Nat) (parity audit : Bool) (addr : Nat) : State × Bool :=
  if s.laneState t l ≠ lnActive then (s, true)
  else
    let kind := if parity then vkDparity else if audit then vkAudit else vkOutput
    let cnt := if parity then R.TRI_DPCNT t else if audit then R.TRI_LATCNT t else R.TRI_MISCNT t
    let s := s.raiseIf parity (triVoter t) 1
    if s.triMode t = tm2oo3 then
      let s := (s.incSatF cnt (8 * l + 7) (8 * l)).verdict t l kind addr
      ((s.raiseIf (kind == vkAudit) (triVoter t) 0).degrade t l, true)
    else
      let s := if parity then (s.incSatF cnt (8 * l + 7) (8 * l)).verdict t l kind addr else s.verdict t 3 kind addr
      (s.triHalt t, false)

/-- Lanes that mark their next compared request after an uncorrectable error of their memories (R166). -/
def State.markedLanes (s : State) (t : Nat) : List Nat :=
  (List.range 3).filter (fun l => tabGet false s.mem.marked (3 * t + l) && s.laneState t l == lnActive)

/-- The vote with the marks of R166 in it.  Two marked lanes at the same request leave no majority (DESIGN CHOICE,
assumption 107). -/
def markVote (marked : List Nat) (v : TriVote) : TriVote :=
  match marked, v with
  | [], _ => v
  | [m], .agree => if h : m < 3 then .lane ⟨m, h⟩ false else v
  | [m], .lane l p => if l.val = m then .lane l p else .nomaj
  | _, .halfdis => .halfdis
  | _, _ => .nomaj

/-- One compared request of triad `t`, or a digest: the state after it and whether the request is issued. -/
def State.triVote (s : State) (t : Nat) (v : TriVote) (audit : Bool) (addr : Nat) : State × Bool :=
  if !s.votes t then ({ s with resp := .stopped }, false)
  else
    let v := markVote (s.markedLanes t) v
    let s := { s with mem := { s.mem with marked := s.mem.marked.filter (fun e => e.1 / 3 != t) } }
    let r : State × Bool := match v with
      | .agree => (s, true)
      | .lane l p => s.laneDiffers t l.val p audit addr
      | .nomaj =>
        if s.triMode t = tm2oo3 then ((s.verdict t 3 vkNomaj addr).triHalt t, false)
        else ((s.verdict t 3 (if audit then vkAudit else vkOutput) addr).triHalt t, false)
      | .halfdis => (((s.verdict t 3 vkHalfdis addr).raise (triVoter t) 3).triHalt t, false)
    if r.2 then r else ({ r.1 with resp := .stopped }, false)

/-- A compared request of an initiator: a voted triad votes, every other initiator is alone. -/
def State.voteBy (s : State) (who : Init) (v : TriVote) (addr : Nat) (f : State → State) : State :=
  match who with
  | .triad t =>
    let r := s.triVote t.val v false addr
    if r.2 then f r.1 else r.1
  | _ => f s

/-- STATE_AUDIT: every 4,096 retired instructions the lanes present a digest (R139, R140). -/
def execStateAudit (dt : Nat) (t : Fin 4) (v : TriVote) (s : State) : Host.Outcome State Fault Refusal :=
  onMain dt s fun s => if s.votes t.val then { (s.triVote t.val v true 0).1 with resp := s.resp } else s

/-! ### The injection self-test (R137, R138) -/

/-- A run of the self-test ends with the results of the halves. -/
def State.selftest (s : State) (t : Nat) (h1 h2 : Bool) : State :=
  let x := s.triT t
  let s := s.setTriT t { x with stTick := s.ticks, stNow := none, stBit := (x.stBit + 1) % 168 }
  let s := ((s.putBit (R.TRI_VSTAT t) 0 h1).putBit (R.TRI_VSTAT t) 1 h2).putBit (R.TRI_VSTAT t) 2 false
  if h1 && h2 then s.incWrap (R.TRI_STRUNS t)
  else
    let s := if h1 then s else s.putBit (R.TRI_VSTAT t) 3 true
    let s := if h2 then s else s.putBit (R.TRI_VSTAT t) 4 true
    (s.raise (triVoter t) 2).verdict t 3 vkSelftest 0

/-- SCARAB_SELFTEST: STPERIOD ms after the end of the last run of any kind (DESIGN CHOICE, assumption 103), or after STNOW,
and not during a reintegration (R137, R138, R150).
A failed half of a Cicada counts as a failed self-test of R536. -/
def execScarabSelftest (dt : Nat) (t : Fin 4) (h1 h2 : Bool) (s : State) : Host.Outcome State Fault Refusal :=
  onMain dt s fun s =>
    let t := t.val
    if s.votes t && ((s.triT t).stNow.isSome || s.msSince (s.triT t).stTick (s.fld (R.TRI_STPERIOD t) 9 0)) then
      let s := s.selftest t h1 h2
      if h1 && h2 then s
      else
        let s := if s.cicada && s.takeSet.any (fun n => s.triadOf n == some t) then
            { s with rdn := { s.rdn with testFail := true } } else s
        s.triHalt t
    else s

/-- STNOW: a run within 2 µs (R137).  While MODE is neither 2OO3 nor 2OO2 it is ignored without an error (DESIGN CHOICE,
assumption 101). -/
def execStnow (dt : Nat) (who : Init) (t : Fin 4) (v : Word) (s : State) : Host.Outcome State Fault Refusal :=
  onMain dt s fun s => s.cmdW who (triVoter t.val) 0xC00 fun _ => onOne v fun s =>
    if s.allocated (triVoter t.val) ∧ (s.triMode t.val = tm2oo3 ∨ s.triMode t.val = tm2oo2) then
      (s.setTriT t.val { s.triT t.val with stNow := some s.ticks }).putBit (R.TRI_VSTAT t.val) 2 true
    else s

/-! ### Interrupt alignment (R74, R141, R142) -/

/-- The order in which pending interrupts are taken (assumption 114). -/
def irqOrder : List Irq := [.external, .software, .timer]

/-- INTERRUPT_ARRIVAL: the target is the count of the leading lane plus IRQMARGIN, or the boundary after the WFI in which
the lanes wait.  During a D-section or a reintegration the interrupt is held.  An arrival while others wait sets no target of
its own (DESIGN CHOICE, assumption 104). -/
def execInterruptArrival (dt : Nat) (t : Fin 4) (irq : Irq) (r : Nat) (wfi : Bool) (s : State) :
    Host.Outcome State Fault Refusal :=
  onMain dt s fun s =>
    let t := t.val
    let x := s.triT t
    match s.partOfTriad t with
    | none => s
    | some n =>
      if s.triMode t ≠ tm2oo3 ∧ s.triMode t ≠ tm2oo2 then s
      else
        let hold := s.inDsec n || s.bit (R.TRI_STAT t) 4 || !x.irqs.isEmpty
        s.setTriT t { x with
          irqs := if x.irqs.contains irq then x.irqs else x.irqs ++ [irq]
          target := if hold then x.target else some (if wfi then r else r + s.rd (R.TRI_IRQMARGIN t)) }

/-- INTERRUPT_TAKEN: every active lane stands at the boundary of the target, or, with held interrupts, at the first one after
the D-section or the reintegration.  The pending interrupts are taken there in priority order (R74, R141, R150). -/
def execInterruptTaken (dt : Nat) (t : Fin 4) (r : Nat) (s : State) : Host.Outcome State Fault Refusal :=
  onMain dt s fun s =>
    let t := t.val
    let x := s.triT t
    if !x.irqs.isEmpty && x.target.all (fun g => g == r) && s.votes t && !(s.partOfTriad t).any (fun n => s.inDsec n) then
      s.setTriT t { x with irqs := [], taken := irqOrder.filter (fun i => x.irqs.contains i), target := none }
    else s

/-- What mhartid reads: 4t on every lane of a voted triad and on lane A of a split one, 4t + 1 on its lane B (R128). -/
def hartId : Init → Option Nat
  | .triad t => some (4 * t.val)
  | .lane t b => some (4 * t.val + b2n b)
  | _ => none

/-! ### Reintegration (R143 to R148) -/

/-- Has the reintegration boundary come? -/
def State.reintBoundary (s : State) (t : Nat) : Bool :=
  let x := s.triT t
  match x.wait, s.partOfTriad t with
  | some (_, tv), some n => x.due || (!s.cyRuns n && s.usSince tv (s.fld (R.TRI_REINTMAX t) 16 0))
  | _, _ => false

/-- Step 1: the mark is written and LANESTAT shows REINT. -/
def State.reintStart (s : State) (t l : Nat) : State :=
  let k := 3 * t + l
  let past := (tabGet [] s.tri.starts k).filter (fun x => decide (s.moduleTime < x + 14400000000000))
  let s := { s with tri := { s.tri with starts := tabSet [] s.tri.starts k (s.moduleTime :: past) } }
  let s := ((s.setMark t l true).setLane t l lnReint).incSatF (R.TRI_REINTTOT t) (8 * l + 7) (8 * l)
  let s := (s.wr64 (R.TRI_LASTR t) s.moduleTime).putFld (R.TRI_STAT t) 4 3 2
  s.setTriT t { s.triT t with wait := none, due := false, run := some (l, s.ticks), copied := false }

/-- Lane-local SRAM of one lane becomes that of another, and its memories hold no error that marks it. -/
def State.copyLane (s : State) (t src dst : Nat) : State :=
  let a := (3 * t + src) * 2 ^ 20
  let b := (3 * t + dst) * 2 ^ 20
  let keep := s.mem.sram.filter (fun e => decide (e.1 < b) || decide (b + 2 ^ 20 ≤ e.1))
  let put := s.mem.sram.filter (fun e => decide (a ≤ e.1) && decide (e.1 < a + 2 ^ 20))
  { s with mem := { s.mem with
      sram := forL put (fun e m => memSet m (e.1 - a + b) e.2) keep
      marked := tabDel s.mem.marked (3 * t + dst) } }

/-- The end of a reintegration: the lanes go on, held self-tests and interrupts become due (R144, R150). -/
def State.reintEnd (s : State) (t : Nat) : State :=
  let x := s.triT t
  let s := (s.setTriT t { x with run := none, copied := false }).putBit (R.TRI_STAT t) 4 false
  let s := match x.run with
    | some (l, t0) => (s.setMark t l false).wr (R.TRI_REINTDUR t) (s.ticks - t0)
    | none => s
  let s := s.pmcSource t
  match s.partOfTriad t with
  | some n => s.cycResume n
  | none => s

/-- REINTEGRATION: its first delivery is the boundary, the second the end of steps 2 to 4 and the third step 6; `ok` is
false when steps 2 to 4 find a difference, and when the lane fails its self-test (assumption 73). -/
def execReintegration (dt : Nat) (t : Fin 4) (ok : Bool) (s : State) : Host.Outcome State Fault Refusal :=
  onMain dt s fun s =>
    let t := t.val
    let x := s.triT t
    match x.run with
    | none =>
      match x.wait with
      | some (l, _) => if s.reintBoundary t && s.votes t then s.reintStart t l else s
      | none => s
    | some (l, _) =>
      if !x.copied then
        if ok then ((s.copyLane t (s.leadLane t) l).setLane t l lnSelftest).setTriT t { x with copied := true }
        else
          let a := s.draw 40
          (a.2.verdict t 3 vkOutput a.1).triHalt t
      else if ok then
        let s := (s.setLane t l lnActive).setTriMode t tm2oo3
        let s := match s.partOfTriad t with
          | some n => if s.pstate n = psDegraded then s.setPstate n psRunning else s
          | none => s
        (s.raise (triPage t) 1).reintEnd t
      else ((s.fenceLane t l fcSelftest).raise (triPage t) 2).reintEnd t

/-! ### LANECMD (R147, R160) -/

/-- Fence lane `l` by command.  A lane left in REINT by a halt keeps its mark in FRAM, so the restart of the triad shows cause
RESET (DESIGN CHOICE, assumption 106). -/
def State.laneCommand (s : State) (t l : Nat) : State :=
  let x := s.triT t
  let st := s.laneState t l
  let wasRun := st = lnReint ∨ st = lnSelftest
  let s := s.fenceLane t l fcCommand
  let s := if st = lnMinority then
      (s.setTriT t { x with wait := none, due := false }).putBit (R.TRI_STAT t) 3 false
    else s
  let s := if s.triMode t = tm2oo3 then ((s.setTriMode t tm2oo2).degraded t).raise (triPage t) 0 else s
  let s := s.raise (triPage t) 2
  if wasRun ∧ s.triMode t ≠ tmHalted then s.reintEnd t else s.pmcSource t

/-- LANECMD_FENCE. -/
def execLanecmdFence (dt : Nat) (who : Init) (t : Fin 4) (v : Word) (s : State) : Host.Outcome State Fault Refusal :=
  onMain dt s fun s => s.cmdW who (triPage t.val) 0xC00 fun n s =>
    if !s.allocated (triPage t.val) then s else s.keyed (triPage t.val) 0xC00 n 0xF3C5 v fun s =>
    let t := t.val
    let l := nf v.toNat 5 4
    let bad := s.err (triPage t) n eBadValue (R.TRI_LANECMD t)
    if nf v.toNat 3 0 ≠ 1 ∨ l = 3 then bad
    else if s.laneState t l = lnOff ∨ s.laneState t l = lnFenced then s.err (triPage t) n 0x0101 (R.TRI_LANECMD t)
    else if s.split t then bad
    else
      let left := if s.triMode t = tmHalted then s.openLanes t else s.activeLanes t
      if (left.filter (fun m => m != l)).length < 2 then bad else s.laneCommand t l

/-! ### Starting a triad (R138, R148, R149, R151, R160) -/

/-- SRCLANE as the triad starts. -/
def State.putSource (s : State) (t : Nat) : State := s.putFld (R.PMC_STAT t) 1 0 (s.leadLane t)

/-- A voted triad leaves reset with every lane that is not fenced: 2oo3, 2oo2 or HALTED by their number; a failed half of
the start-up run halts it.  The answer says whether it runs. -/
def State.triRun (s : State) (t : Nat) (h1 h2 : Bool) : State × Bool :=
  let s := forN 3 (fun l u => if u.laneState t l = lnFenced ∨ u.laneState t l = lnOff then u else u.setLane t l lnActive) s
  let s := (s.putFld (R.TRI_STAT t) 4 3 0).setTriT t { stBit := (s.triT t).stBit, stTick := s.ticks }
  let n := (s.activeLanes t).length
  if n < 2 then ((s.setTriMode t tmHalted).putSource t, false)
  else
    let s := s.selftest t h1 h2
    if h1 && h2 then ((s.setTriMode t (if n = 3 then tm2oo3 else tm2oo2)).putSource t, true)
    else (((s.setTriMode t tmHalted).raise (triPage t) 3).putSource t, false)

/-- Lanes with a mark in FRAM are fenced with cause RESET, and the mark clears (R148). -/
def State.markFence (s : State) (t : Nat) : State :=
  forN 3 (fun l u =>
    if tabGet false u.tri.marks (3 * t + l) then (u.fenceLane t l fcReset).setMark t l false else u) s

/-- A partition reset restarts the triad (R149): PSTATE is the caller's. -/
def State.triRestart (s : State) (t : Nat) (h1 h2 : Bool) : State × Bool := (s.markFence t).triRun t h1 h2

/-- A module start of triad `t` (R148, R151, R160): voted, split, or powered down where no partition names it
or a lane of it (R25). -/
def State.triStart (s : State) (t : Nat) (h1 h2 : Bool) : State × Bool :=
  let s := s.setTriT t {}
  if s.split t && ((s.partOfLane t 0).isSome || (s.partOfLane t 1).isSome) then
    let s := forN 2 (fun l u => u.setLane t l (if (u.partOfLane t l).isSome then lnSplit else lnOff)) s
    (((s.setTriMode t tmSplit).putBit (R.PMC_STAT t) 3 true).putFld (R.PMC_STAT t) 1 0 3, true)
  else if (s.partOfTriad t).isSome then
    (forN 3 (fun l u => u.setLane t l lnActive) s |>.markFence t).triRun t h1 h2
  else (s.putFld (R.PMC_STAT t) 1 0 3, true)

/-- The check of a TRI page (R160). -/
def State.triCheck (s : State) (p : Nat) : Verdict :=
  if 0x020 ≤ p ∧ p ≤ 0x027 then
    let t := (p - 0x020) / 2
    if p % 2 = 0 then rangeIf (within 100 100000 (s.shFld (R.TRI_REINTMAX t) 16 0))
    else rangeIf (within 10 1000 (s.shFld (R.TRI_STPERIOD t) 9 0))
  else .ok

end Sys2Proof.Machine
end

