-- ==== Sys2Proof/Machine/Nv.lean ====
section
/-! DEFINITION. The seven Xnyvas instructions (R152 to R155), and the gain of primacy with the restoring of a checkpoint
(R529, R532, R540). -/
namespace Sys2Proof.Machine

/-! ### The contexts of R153 -/

/-- An illegal-instruction exception: in a D-section through the D trap vector (R75, R153). -/
def State.illegal (s : State) (n : Nat) : State :=
  s.except n .illegal

/-- funct3 and rd of a custom-0 word, of which `e` is [31:7]: R-type with funct7, rs1 and rs2 all 0, and rd = x0 for
NV.ABORT and NV.RMARK (R152).  None for every other encoding in custom-0. -/
def nvFields (e : BitVec 25) : Option (Nat × Nat) :=
  let rd := nf e.toNat 4 0
  let f3 := nf e.toNat 7 5
  if nf e.toNat 24 8 = 0 ∧ f3 < 7 ∧ (f3 = 2 ∨ f3 = 5 → rd = 0) then some (f3, rd) else none

/-- The Xnyvas instruction `f3` of an initiator whose lanes run, with its partition and rd.  A word whose funct3 names another
instruction is no occurrence of this one; any other encoding, and M mode, raise an illegal-instruction exception (R152,
assumption 113). -/
def State.nv (s : State) (who : Init) (f3 : Nat) (e : BitVec 25) (m : Fin 4) (f : Nat → Nat → State → State) : State :=
  if !s.live who then s
  else match s.partOf who with
    | some n =>
      if 6 ≤ n then s
      else match nvFields e with
        | some (g, rd) => if g ≠ f3 then s else if m.val ≤ 1 then f n rd s else s.illegal n
        | none => s.illegal n
    | none => s

/-- NV_SNAP: wait for the next snapshot, saving the gap state in a D-mode partition.  A snapshot that is already delivered
is taken at once, unless a reintegration runs or an interrupt is pending (R145, R153, R154). -/
def execNvSnap (dt : Nat) (who : Init) (e : BitVec 25) (gap : LaneCtx) (v : TriVote) (s : State) :
    Host.Outcome State Fault Refusal :=
  guarded (decide (gap.x.length = 31) && decide (gap.f.length = 32)) dt s
    (onMain dt s fun s => s.nv who 0 e gap.priv fun n rd s =>
      if s.inDsec n || !s.cyRuns n then s.illegal n
      else s.voteBy who v 0 fun s =>
        let c := s.cy n
        let s := s.setCy n { c with
          gap := if s.dmode n then some gap else none, rd := rd
          waits := if c.waits.contains (initCode who) then c.waits else c.waits ++ [initCode who] }
        { s with resp := .waits }.cycResume n)

/-- NV_COMMIT: in a D-section, or outside D-mode while the CYC page runs, the output image goes to the commit path; a
commit outside an open cycle hands over nothing and delivers ABORTED at once, in D-mode and outside it (R153, R154, R194;
DESIGN CHOICE, assumptions 68 and 102). -/
def execNvCommit (dt : Nat) (who : Init) (e : BitVec 25) (m : Fin 4) (v : TriVote) (s : State) :
    Host.Outcome State Fault Refusal :=
  onMain dt s fun s => s.nv who 1 e m fun n rd s =>
    if (s.dmode n && !s.inDsec n) || !s.cyRuns n || (s.inDsec n && rd != 0) then s.illegal n
    else s.voteBy who v 0 fun s =>
      match (s.cy n).img with
      | none => s.illegal n
      | some i =>
        if !(s.cy n).opn || (s.cy n).retired then { s with resp := .data 1 }
        else
          let s := if s.dmode n then { s with resp := .done }
            else { s.setCy n { s.cy n with waitC := true } with resp := .waits }
          s.commitTake n i

/-- NV_ABORT: the cycle ends without a commit, and what was written since the last one is discarded (R68, R153). -/
def execNvAbort (dt : Nat) (who : Init) (e : BitVec 25) (m : Fin 4) (v : TriVote) (s : State) :
    Host.Outcome State Fault Refusal :=
  onMain dt s fun s => s.nv who 2 e m fun n _ s =>
    if (s.dmode n && !s.inDsec n) || !s.cyRuns n then s.illegal n
    else s.voteBy who v 0 fun s =>
      let s := { s with resp := .done }.revert n (s.dmode n)
      if (s.cy n).opn && !(s.cy n).retired then s.cycEnd n 1 else s

/-- NV_DSTAT: the mode word: D-section, D-mode, voted.  A D-mode partition whose CYC page does not run shows bit 1 too (DESIGN
CHOICE, assumption 135). -/
def execNvDstat (dt : Nat) (who : Init) (e : BitVec 25) (m : Fin 4) (s : State) :
    Host.Outcome State Fault Refusal :=
  onMain dt s fun s => s.nv who 3 e m fun n _ s =>
    { s with resp := .data (b2n (s.inDsec n) + 2 * b2n (s.dmode n) + 4 * b2n (s.voted n)) }

/-- NV_RBASE: the base of the half of the retained area in use, 0 when there is no retained area (R205). -/
def execNvRbase (dt : Nat) (who : Init) (e : BitVec 25) (m : Fin 4) (s : State) :
    Host.Outcome State Fault Refusal :=
  onMain dt s fun s => s.nv who 4 e m fun n _ s =>
    { s with resp := .data (match (s.cy n).img, s.windowOf n kRetained with
      | some i, some w => if i.area = 0 then 0 else dramBase + s.wBase w + s.rhalf n
      | _, _ => 0) }

/-- NV_RMARK: outside D-mode the retained area as it stands becomes the version that saves and checkpoints use; every
CKPER ms it is taken for a checkpoint (R155, R538). -/
def execNvRmark (dt : Nat) (who : Init) (e : BitVec 25) (m : Fin 4) (v : TriVote) (s : State) :
    Host.Outcome State Fault Refusal :=
  onMain dt s fun s => s.nv who 5 e m fun n _ s =>
    if s.dmode n || !s.cyRuns n then s.illegal n
    else s.voteBy who v 0 fun s =>
      match (s.cy n).img with
      | none => s
      | some i =>
        let ret := s.retNow n i
        let s := { s.setCy n { s.cy n with mark := some (s.rd64 (R.CYC_CYCNT n), ret) } with resp := .done }
        let per := s.fld R.RDN_CKPER 13 0
        if h : n < 6 then
          if s.ckOn && s.takeSet.contains n && s.msSince (tabGet 0 s.rdn.perTick n) per then
            if (s.retPoison n i.area).isSome then s.poisonLog n ((s.retPoison n i.area).getD 0)
            else s.ckTake n
              { part := ⟨n, h⟩, cycle := BitVec.ofNat 64 (s.rd64 (R.CYC_CYCNT n)), ret := ret.map (BitVec.ofNat 8)
                out := (s.cy n).out.map (BitVec.ofNat 8), cdig := s.regGet (R.CYC_CDIGEST n)
                dig := (padTo 32 i.digest).map (BitVec.ofNat 8) }
          else s
        else s

/-- NV_RSTAT: 0 continuing, 1 after a cold start, 2 restored from FRAM, 3 restored from a partner checkpoint. -/
def execNvRstat (dt : Nat) (who : Init) (e : BitVec 25) (m : Fin 4) (s : State) :
    Host.Outcome State Fault Refusal :=
  onMain dt s fun s => s.nv who 6 e m fun n _ s => { s with resp := .data (s.cy n).rstat }

/-! ### Gaining primacy (R529, R532, R540) -/

/-- The values of R288 are applied: other element state starts fresh, and the group is taken at the next engine tick. -/
def State.preRestore (s : State) (c : Ckpt) : State :=
  let fresh := s.elInit (s.fld R.PRE_STAT 3 2)
  let el := forL c.els (fun e t =>
    let old : PreEl := tabGet {} fresh e.el.val
    match (s.program.find? (fun p => isEl p.2.op && p.2.e == e.el.val)).map (·.2.op) with
    | some 0x13 => tabSet {} t e.el.val { old with x := e.theta.toNat }
    | some 0x17 => tabSet {} t e.el.val { old with sub := e.state.val, shot := e.shot.toNat, el := e.elapsed.toNat, rest := true }
    | _ => t) fresh
  let s := s.mhold ((List.range 3).filter (fun l => s.mlane l != 4)) { s.mheld with el := el }
  let s := { s with pre := { s.pre with
    grpReq := if s.fld R.PRE_STAT 3 2 = c.group.val then s.pre.grpReq else s.pre.grpReq ++ [(c.group.val, s.ticks, false)] } }
  s.wr R.PRE_CTLFLAGS c.ctl.toNat

/-- The values of R116 are applied: a fix on every track axis, and the arming and DONE state of the entries.  A disarmed target
is carried by its unwrapped position, and a periodic axis keeps its own period count (DESIGN CHOICE, assumption 134). -/
def State.axsRestore (s : State) (c : Ckpt) : State :=
  let s := forL (c.axes.zip (List.range 8)) (fun x t =>
    if t.axKind x.2 = 4 ∧ t.axLive x.2 then t.applyFix x.2 (toBits 64 x.1.pos) c.time.toNat else t) s
  { s with axs := { s.axs with
    ent := forN 384 (fun d t =>
      let e : Entry := tabGet {} t d
      match c.ents.find? (fun x => x.desc.val == d) with
      | some x => tabSet {} t d { e with dis := x.dis, done := x.done }
      | none => tabSet {} t d { e with dis := [], done := false }) s.axs.ent } }

/-- The TAKESET partitions start from the held checkpoint, or as STARTPOL says (R530, R540). -/
def State.takeoverStart (s : State) : State :=
  match (if s.rdn.take then s.rdn.held else none) with
  | some c =>
    let s := forL s.takeSet (fun n t =>
      match c.parts.find? (fun p => p.part.val == n) with
      | some p => t.cycStart n (.takeover p)
      | none => t.cycBegin n) s
    (s.preRestore c).axsRestore c
  | none => forL s.takeSet (fun n t => t.cycBegin n) s

/-- PRIMACY_HELD: 1 ms in CLAIM, and primacy is held: the gates open, ES268 is raised and the TAKESET partitions start. -/
def execPrimacyHeld (dt : Nat) (s : State) : Host.Outcome State Fault Refusal :=
  onMain dt s fun s =>
    if s.prim = prClaim ∧ s.msSince s.rdn.claimTick 1 then
      let s := (s.setPrim prHeld).setGates true
      let s := ((s.incWrap R.RDN_GAINCNT).wr64 R.RDN_GAIN s.moduleTime).raise 0x0D0 0
      let s := { s with rdn := { s.rdn with rel := false } }
      s.takeoverStart
    else s

end Sys2Proof.Machine
end

