-- ==== Sys2Proof/Machine/View.lean ====
section
/-! DEFINITION. What a read of a register returns: the active or the shadow value, the registers that are views of other
state, and the holding registers of 64-bit reads (R41, R50, R51, R60). -/
namespace Sys2Proof.Machine

/-- CMTSTAT with its views: SHADOWED, and WAITAXIS while a MODE 2 commit waits for an axis without ticks (R51, R53). -/
def State.cmtstatView (s : State) (p : Nat) : Nat :=
  let v := nputb (s.rd (hCmtstat p)) 2 (s.shadow.any (fun e => e.1 / 4096 == p && e.2 != s.regGet e.1))
  nputb v 3 (s.isPending p && (s.pend p).mode == 2 && !s.axTicks (s.pend p).axis)

/-- The header registers that are no plain storage (R41, R42, R44, R48). -/
def State.headView (s : State) (p o : Nat) : Option Nat :=
  if o = 0x000 then some (pidOf p)
  else if o = 0x004 then some (s.capsOf p)
  else if o = 0x008 then some (s.ownMask p)
  else if o = 0x01C then (if p = 8 then some 1 else none)
  else if o = 0x020 then some (s.evpend p)
  else if o = 0x034 then some (s.cmtstatView p)
  else none

/-- The error-log view of page 0x02B: the oldest entry, 0 when the log is empty (R188). -/
def State.elView (s : State) (o : Nat) : Option Nat :=
  let e := s.mem.elog.headD {}
  if o = 0x040 then some s.mem.elog.length
  else if o = 0x048 then some (e.addr % 2 ^ 32)
  else if o = 0x04C then some (e.addr / 2 ^ 32)
  else if o = 0x050 then some e.info
  else if o = 0x054 then some e.syn
  else if o = 0x058 then some (e.time % 2 ^ 32)
  else if o = 0x05C then some (e.time / 2 ^ 32)
  else none

/-- A half of a 64-bit view whose LO lies at `lo`. -/
def half (v lo o : Nat) : Nat := if o = lo then v % 2 ^ 32 else v / 2 ^ 32 % 2 ^ 32

/-- Whole seconds for which RSTIN_N has been held low. -/
def State.rstinSecs (s : State) : Nat := (s.ticks - s.sys.rstinTick) / 100000000

/-- RSTHELD: the seconds of a hold that goes on, then its total (R548). -/
def State.rstHeld (s : State) : Nat :=
  if s.bit R.MGT_STAT 3 then min s.rstinSecs 0xFFFFFFFF else s.rd R.MGT_RSTHELD

/-- Registers of the blocks that show other state. -/
def State.blockView (s : State) (p o : Nat) : Option Nat :=
  if p = 0x009 ∧ 0x040 ≤ o ∧ o < 0x240 then
    some ((List.range 4).foldl (fun v j => v + s.ownMask (o - 0x040 + j) * 256 ^ j) 0)
  else if p = 0x00A ∧ 0x040 ≤ o ∧ o < 0x240 then some (s.rd (reg p o) ||| 0x80808080)
  else if 0x00C ≤ p ∧ p ≤ 0x013 then
    if o = 0x040 ∨ o = 0x044 then some (half (s.vpend (p - 0x00C)) 0x040 o)
    else if o = 0x050 then some (s.vnext (p - 0x00C))
    else none
  else if 0x020 ≤ p ∧ p ≤ 0x027 ∧ p % 2 = 0 ∧ o = 0x044 then some (s.reintCnt ((p - 0x020) / 2))
  else if p = 0x028 ∧ o = 0x014 then some (nputb (s.rd R.MEM_STAT) 3 (s.mem.elog.length == 32))
  else if p = 0x02B then s.elView o
  else if p = 0x04F ∧ o = 0x040 then some s.seList.length
  else if p = 0x04F ∧ 0x100 ≤ o ∧ o < 0x300 then some (s.semap ((o - 0x100) / 4))
  else if p = 0x04F ∧ 0x400 ≤ o ∧ o < 0x800 then some (s.sestat ((o - 0x400) / 4))
  else if p = 0x050 ∧ (o = 0x040 ∨ o = 0x044) then some (half s.moduleTime 0x040 o)
  else if p = 0x074 ∧ o = 0x044 then some (s.mcount.rd R.PRE_MLRCNT)
  else if p = 0x082 then s.drcView (reg p o)
  else if 0x093 ≤ p ∧ p ≤ 0x096 ∧ o = 0x0A0 then some (s.rblev (p - 0x093))
  else if 0x0A0 ≤ p ∧ p ≤ 0x0AF ∧ p % 4 = 0 ∧ 0x400 ≤ o ∧ o < 0x600 then
    some (s.rxmap ((p - 0x0A0) / 4) ((o - 0x400) / 4))
  else if p = 0x0C8 ∧ o = 0x048 then some s.evr.may.length
  else if p = 0x0CA ∧ 0x100 ≤ o ∧ o < 0x500 ∧ s.lifeKind ((o - 0x100) / 8) = 0 then some 0
  else if p = 0x0CB ∧ (o = 0x700 ∨ o = 0x704) then some (half (s.calNow / 32768) 0x700 o)
  else if p = 0x0CB ∧ o = 0x708 then some (s.calNow % 32768)
  else if p = 0x0CD ∧ 0x058 ≤ o ∧ o < 0x070 then
    let k := if o < 0x060 then s.fld R.UPD_SLOTROLE 1 0 else if o < 0x068 then s.fld R.UPD_SLOTROLE 3 2
      else s.fld R.UPD_SLOTROLE 5 4
    some (imgNum (tabGet [] s.upd.slots k) (0x010 + o % 8) 4)
  else if p = 0x0CD ∧ o = 0x070 then some (s.rd R.SYS_MINSVN)
  else if p = 0x0CE ∧ o = 0x058 then some s.rstHeld
  else if p = 0x0D1 ∧ o = 0x054 then some s.ckAge
  else if p = 0x0D1 ∧ o = 0x058 then some s.hlthOwn
  else none

/-- The stored value that a read returns: a shadow while CMT.VIEW is 1, nothing for write-only registers (R8, R50), and 0 for
GRPREARM (R366). -/
def State.plainRead (s : State) (p o : Nat) : Nat :=
  match rowOf (reg p o) with
  | none => 0
  | some r =>
    match r.acc with
    | .wo => 0
    | .rc => 0
    | .rws =>
      let v := if s.bit (hCmt p) 10 then s.sh (reg p o) else s.rd (reg p o)
      if within 0x093 0x096 p && o == 0x010 then nputb v 1 false else v
    | _ => if o = 0x024 then 0 else s.rd (reg p o)

/-- A register as a read finds it, before the holding registers of R60.  A read of a counter of PMC finds it advanced. -/
def State.liveRead (s : State) (p o : Nat) : Nat × State :=
  if !s.allocated p || s.absentReg p o then (0, s)
  else match s.headView p o with
  | some v => (v, s)
  | none => match s.blockView p o with
    | some v => (v, s)
    | none =>
      if 0x0D4 ≤ p ∧ p ≤ 0x0D7 ∧ 0x060 ≤ o ∧ o < 0x0A0 then
        ((s.pmcAdvance (p - 0x0D4)).plainRead p o, s.pmcAdvance (p - 0x0D4))
      else if reg p o = R.LIFE_CAPV then s.draw 16
      else if reg p o = R.LIFE_CALSTAT then (nput (s.plainRead p o) 2 2 (s.draw 1).1, (s.draw 1).2)
      else (s.plainRead p o, s)

/-- Is the word at `x` the HI half of a pair? -/
def isHiHalf (x : Nat) : Bool :=
  match rowOf x with
  | some r => r.isHi (x % 4096)
  | none => false

/-- A read of a pair's LO half latches its HI half into the initiator's holding register (R60). -/
def State.latchHi (s : State) (who : Init) (p o : Nat) : State :=
  let h := s.liveRead p (o + 4)
  { h.2 with ten := { h.2.ten with wideRd := tabSet (0, 0) h.2.ten.wideRd (wideKey who p) (reg p o + 1, h.1) } }

/-- A permitted read of a register: a LO half also latches, a HI half comes from the holding register when the latest LO
read of the initiator in this page was of the same pair (R60). -/
def State.readReg (s : State) (who : Init) (p o : Nat) : Nat × State :=
  let x := reg p o
  let held := tabGet (0, 0) s.ten.wideRd (wideKey who p)
  if isHiHalf x && held.1 == x - 4 + 1 then (held.2, s)
  else
    let v := s.liveRead p o
    if isLo x && s.allocated p then (v.1, v.2.latchHi who p o) else v

/-- WIDE_LO_READ: the low half is returned, and the high half latched. -/
def execWideLoRead (dt : Nat) (who : Init) (p : Fin 512) (w : Fin 1024) (s : State) : Host.Outcome State Fault Refusal :=
  onMain dt s fun s => s.cmdR who p.val (4 * w.val) fun _ s =>
    if isLo (reg p.val (4 * w.val)) then
      let v := s.readReg who p.val (4 * w.val)
      { v.2 with resp := .data v.1 }
    else s

end Sys2Proof.Machine
end

