-- ==== Sys2Proof/Machine/Pwr.lean ====
section
/-! DEFINITION. PWR and SYS: supplies and hold-up, the shutdown sequence, the module resets and the fuse command (R16, R17,
R595 to R606, R610, R615 to R618).  The start itself is in Start. -/
namespace Sys2Proof.Machine

/-! ### Codes -/

abbrev rkPoweron : Nat := 0
abbrev rkPowerfail : Nat := 1
abbrev rkRstin : Nat := 2
abbrev rkClock : Nat := 3
abbrev rkThermal : Nat := 4
abbrev rkSoft : Nat := 5
abbrev rkMgt : Nat := 6
abbrev rkRecovery : Nat := 7
abbrev rkUpdate : Nat := 8
abbrev rkWake : Nat := 9

/-- Bits of PWR.STAT (R618). -/
abbrev pwUv : Nat := 1
abbrev pwBank : Nat := 3

/-- UV of the module supply. -/
def State.uv (s : State) : Bool := s.bit R.PWR_STAT pwUv

/-! ### Module reset -/

/-- Registers that outlive a module reset: the MGT pages, the registers whose reset value a page map gives as a source, and
the live measurements of the PWR supervisor (R30, R618). -/
def keptReg (x : Nat) : Bool :=
  x / 4096 == 0x0CE || x / 4096 == 0x0CF ||
  (match rowOf x with | some r => r.keep | none => false) ||
  [R.PWR_STAT, R.PWR_VINMEAS, R.PWR_BANKMEAS, R.PWR_TEMP, R.PWR_FSMEAS 0, R.PWR_FSMEAS 1, R.PWR_FSMEAS 2, R.PWR_FSMEAS 3,
    R.PWR_FSCMP, R.PWR_TSMEAS 0, R.PWR_TSMEAS 1, R.PWR_TSSTAT].contains x

/-- STAGE of UPD as a reset leaves it: a session's content is discarded, a verification starts again (R576). -/
def State.updKept (s : State) : Nat × Nat :=
  let st := s.fld R.UPD_STAT 5 3
  let act := s.rd R.UPD_ACTSTAT
  (if st = 1 then 0 else if st = 2 then 3 else st,
    if act = 1 ∨ act = 2 ∨ act = 3 then act else 0)

/-- UPD in the journal and on the eMMC, as the next start finds it (R576). -/
def State.updReset (s : State) : UpdS :=
  { slots := if s.fld R.UPD_STAT 5 3 = 1 then tabDel s.upd.slots (s.fld R.UPD_SLOTROLE 5 4) else s.upd.slots
    settings := s.upd.settings, nor := s.upd.nor, sched := s.upd.sched, mark := s.upd.mark
    pos := s.upd.pos, parts := s.upd.parts, boot := s.upd.boot }

/-- A reset or supply loss within the 50 ms of CLOSE leaves the fuse intact or blown, which is open (R557). -/
def State.fuseCut (s : State) : State :=
  match s.mgt.closeTick with
  | none => s
  | some t =>
    let s := { s with mgt := { s.mgt with closeTick := none } }
    if s.msSince t 50 then s
    else
      let d := s.draw 1
      if d.1 = 0 then (d.2.putBit R.SYS_FUSESTAT 1 false).putBit R.MGT_STAT 2 false else d.2

/-- The main domain goes into reset: what does not outlive it returns to its reset value, and the next start records
`kind` (R30, R601, R604). -/
def State.mainOff (s : State) (kind : Nat) (sleep : Bool) : State :=
  let u := s.updKept
  let regs := s.regs.filter (fun e => keptReg e.1)
  let t : State :=
    { ticks := s.ticks, mtime := s.mtime, regs := regs, shadow := s.shadow.filter (fun e => e.1 / 4096 == 0x0CE)
      resp := s.resp, free := s.free, pending := s.pending, mgt := s.mgt
      ten := { pend := s.ten.pend.filter (fun e => e.1 == 0x0CE) }
      sys := { s.sys with on := false, kind := kind, sleep := sleep, down := none, bankDone := false, canWake := s.canAsleep }
      host := { perst := s.host.perst }
      cyc := { fram := s.cyc.fram }
      tri := { marks := s.tri.marks }
      drc := { arc := s.drc.arc, nums := s.drc.nums }
      mem := { elogFram := s.mem.elogFram }
      evr := { stored := s.evr.stored, recentFrom := s.evr.recentFrom, clr := s.evr.clr, last := s.evr.last, lost := s.evr.lost }
      life := { saved := s.life.saved, older := s.life.older, cal := s.life.cal, calTick := s.life.calTick, calFrac := s.life.calFrac, calTai := s.life.calTai }
      upd := s.updReset }
  let t := (t.wr R.PWR_STAT (s.rd R.PWR_STAT &&& 0x4F)).wr R.PWR_PFBANK (s.rd R.PWR_BANKMEAS)
  let t := (t.wr R.UPD_STAT (8 * u.1)).wr R.UPD_ACTSTAT u.2
  let t := if u.1 = 5 then t.wr R.UPD_REJECT (s.rd R.UPD_REJECT) else t
  t.putBit R.MGT_STAT 0 false

/-- A reset of the main domain, which cuts off a flush and the blowing of the fuse in progress (R557, R601). -/
def State.mainDown (s : State) (kind : Nat) (sleep : Bool) : State :=
  s.flushCut.fuseCut.mainOff kind sleep

/-- Primacy and the gates as step 2 of R599 leaves them. -/
def State.gatesShut (s : State) (rel : Bool) : State :=
  let s := (s.dropPrimacy rel).setGates false
  { s with rdn := { s.rdn with flight := none } }

/-- Start the shutdown sequence for a module reset of a kind.  Before LOCKED the main domain resets at once; a sequence
that runs already goes on (R599, R612). -/
def State.shutdown (s : State) (kind : Nat) (sleep : Bool) : State :=
  if !s.sys.on || s.sys.down.isSome then s
  else if s.stage ≠ 5 then s.mainDown kind sleep
  else
    let s := (s.gatesShut (decide (kind = rkPowerfail))).drcStop
    let s := { s with evr := { s.evr with rd := none } }
    let s := if s.bit R.EVR_RDSTAT 0 then s.wr R.EVR_RDSTAT 4 else s
    let s := if kind = rkPowerfail then
        let s := s.record 0x15 0x0004 2 0x0C8 s.moduleTime [min 65535 s.evr.may.length]
        { s with evr := { s.evr with want := true } }
      else s
    { s with sys := { s.sys with down := some { kind := kind, tw := s.ticks, sleep := sleep } } }

/-- A retained save that is cut off: its slot holds no valid record (R169). -/
def State.retCut (s : State) (n : Nat) : State :=
  match (s.cy n).retImg with
  | none => s
  | some i =>
    match s.saveVersion n i with
    | none => s
    | some v => if (s.retPoison n i.retain).isSome then s else s.framPut n i v false

/-- The FRAM saves of step 4 in their order, those below `k` complete, the k-th cut off under its slot rule. -/
def State.shutSaves (s : State) (k : Nat) : State :=
  let s := forN 6 (fun n t => if n < k then t.retSave n true else if n = k then t.retCut n else t) s
  if 6 < k then s.lifeStore else if k = 6 then { s with life := { s.life with older := none } } else s

/-- Has the flush of step 3 ended? -/
def State.flushEnded (s : State) : Bool := !s.evr.want && !s.bit (hStat 0x0C8) 1

/-- SHUTDOWN_COMPLETE: `k` is 7 when every save has completed, else the save that is cut off at tw + 40 ms: partitions 0 to
5, then LIFE (R599). -/
def execShutdownComplete (dt : Nat) (k : Fin 8) (s : State) : Host.Outcome State Fault Refusal :=
  always dt s fun s =>
    match s.sys.down with
    | none => s
    | some d =>
      if (k.val = 7 ∧ s.flushEnded) ∨ s.msSince d.tw 40 then
        let s := s.shutSaves k.val
        (s.wr R.PWR_PFDUR ((s.ticks - d.tw) / 100)).mainDown d.kind d.sleep
      else s

/-! ### Clock faults -/

/-- CLOCK_FAULT: clock `c` fails, 0 the TCXO and i + 1 PLL i: a module reset of kind CLOCK at once, and the third within
3,600 s holds the main domain (R16, R17, R612). -/
def execClockFault (dt : Nat) (c : Fin 6) (s : State) : Host.Outcome State Fault Refusal :=
  always dt s fun s =>
    if !s.sys.on then s
    else
      let l := s.ticks :: s.sys.clocks.filter (fun t => !s.secSince t 3600)
      let s := s.mainDown rkClock false
      { s with sys := { s.sys with
          clocks := l, clockHeld := true, clockStop := decide (3 ≤ l.length), clockBad := c.val + 1 } }

/-- CLOCK_RESTART: the clocks have held good for 100 ms (R17). -/
def execClockRestart (dt : Nat) (s : State) : Host.Outcome State Fault Refusal :=
  always dt s fun s =>
    match s.sys.clocks with
    | [] => s
    | t :: _ => if s.sys.clockHeld && s.msSince t 100 then { s with sys := { s.sys with clockHeld := false } } else s

/-- A WAKE or an accepted RSTIN_N ends the hold of R17. -/
def State.clockFree (s : State) : State :=
  if s.sys.clockStop then { s with sys := { s.sys with clockStop := false, clocks := s.sys.clocks.take 1 } } else s

/-! ### Supply and hold-up -/

/-- SUPPLY_UV: VIN falls below 14.0 V (R595, R597). -/
def execSupplyUv (dt : Nat) (s : State) : Host.Outcome State Fault Refusal :=
  always dt s fun s =>
    if !s.sys.standby || s.uv then s
    else
      let s := ((s.putBit R.PWR_STAT pwUv true).putBit R.PWR_STAT 0 false).raise 0x004 1
      { s with sys := { s.sys with uvTick := s.ticks } }

/-- SUPPLY_RETURN: VIN is back above the start threshold; a spell below 10 ms that led to no warning is counted (R597). -/
def execSupplyReturn (dt : Nat) (s : State) : Host.Outcome State Fault Refusal :=
  always dt s fun s =>
    if !s.sys.standby || !s.uv then s
    else
      let s := ((s.putBit R.PWR_STAT pwUv false).putBit R.PWR_STAT 0 true).raise 0x004 1
      let d := s.ticks - s.sys.uvTick
      let s := if s.sys.on && s.sys.down.isNone && decide (d < 1000000) then
          ((s.incSat R.PWR_INTCNT).wr R.PWR_LASTINT (d / 100)).raise 0x004 0
        else s
      { s with sys := { s.sys with thrTick := s.ticks } }

/-- SUPPLY_OV: VIN has stood above 36.0 V for 1 ms, or stands below it again: reported only (R595). -/
def execSupplyOv (dt : Nat) (on : Bool) (s : State) : Host.Outcome State Fault Refusal :=
  always dt s fun s =>
    if !s.sys.standby || s.bit R.PWR_STAT 2 == on then s else (s.putBit R.PWR_STAT 2 on).raise 0x004 1

/-- POWER_FAIL_WARNING: UV has lasted 10 ms, or the bank has fallen below 30.0 V (R598). -/
def execPowerFailWarning (dt : Nat) (bank : Bool) (s : State) : Host.Outcome State Fault Refusal :=
  always dt s fun s =>
    if s.sys.on && s.sys.down.isNone && s.uv && (bank || s.msSince s.sys.uvTick 10) then
      (s.incSat R.PWR_PFWCNT).shutdown rkPowerfail false
    else s

/-- Standby registers return to their reset values; keys, fuses, FRAM, eMMC and the calendar stay (R604, R618). -/
def State.standbyClear (s : State) : State :=
  let gone (x : Nat) : Bool :=
    (x / 4096 == 0x0CE && x != R.MGT_KEYSTAT && x != R.MGT_KEYACL0 && !(decide (R.MGT_KEYACL 0 ≤ x) && decide (x ≤ R.MGT_KEYACL 2))) ||
      x / 4096 == 0x0CF || x / 4096 == 0x004 || x / 4096 == 0x005
  let s := { s with
    regs := s.regs.filter (fun e => !gone e.1), shadow := []
    ten := {}, mgt := { keys := s.mgt.keys }
    sys := { standby := false } }
  (s.putBit R.MGT_STAT 0 false).putBit R.MGT_STAT 2 (s.bit R.SYS_FUSESTAT 1)

/-- STANDBY_DOMAIN_LOSS: VIN below 10.0 V and the bank below 12.0 V (R595). -/
def execStandbyDomainLoss (dt : Nat) (s : State) : Host.Outcome State Fault Refusal :=
  always dt s fun s =>
    if !s.sys.standby || !s.uv then s
    else (if s.sys.on then s.mainDown rkPoweron false else s).standbyClear

/-- POWERON: the standby domain starts from no power (R604). -/
def execPoweron (dt : Nat) (s : State) : Host.Outcome State Fault Refusal :=
  always dt s fun s =>
    if s.sys.standby then s
    else { s with sys := { standby := true, thrTick := s.ticks, supTick := s.ticks, tempTick := s.ticks } }

/-! ### Measurements -/

/-- A comparator of a field supply: the measured side of its threshold, or what it shows within its tolerance of 150 mV. -/
def fsCmp (mv thr : Nat) (shown : Bool) : Bool :=
  if thr + 150 < mv then true else if mv + 150 < thr then false else shown

/-- FSCMP of the four field supplies: bits above 15.0 V, 20.0 V, 19.2 V of each from bit 4n upwards (R602, R618). -/
def fsWord (fs : List (BitVec 16)) (shown : BitVec 12) : Nat :=
  forN 4 (fun n v =>
    let mv := (fs.getD n 0).toNat
    let b (k thr : Nat) := b2n (fsCmp mv thr (shown.getLsbD (3 * n + k)))
    v + (b 0 15000 + 2 * b 1 20000 + 4 * b 2 19200) * 2 ^ (4 * n)) 0

/-- Does a measured trip supply lie within TSnLIM? -/
def State.tsInside (s : State) (n mv : Nat) : Bool :=
  within (100 * s.fld (R.PWR_TSLIM n) 15 0) (100 * s.fld (R.PWR_TSLIM n) 31 16) mv

/-- SUPPLY_MEASURE: every 100 µs the field and trip supplies in mV at 10 mV resolution, VIN and the bank; `shown` is what
comparators within their tolerance show (R602). -/
def execSupplyMeasure (dt : Nat) (fs : List (BitVec 16)) (ts : List (BitVec 18)) (vin bank : BitVec 16) (shown : BitVec 12)
    (s : State) : Host.Outcome State Fault Refusal :=
  guarded (decide (fs.length = 4) && decide (ts.length = 2)) dt s (always dt s fun s =>
    if !s.sys.standby || s.ticks < s.sys.supTick + 10000 then s
    else
      let r (n : Nat) := n - n % 10
      let s := { s with sys := { s.sys with supTick := s.ticks } }
      let s := (s.wr R.PWR_VINMEAS (r vin.toNat)).wr R.PWR_BANKMEAS (r bank.toNat)
      let s := if s.sys.bankDone then s.putBit R.PWR_STAT pwBank (decide (36000 ≤ bank.toNat)) else s
      let old := s.rd R.PWR_FSCMP
      let new := fsWord fs shown
      let s := forN 4 (fun n t => (t.wr (R.PWR_FSMEAS n) (r (fs.getD n 0).toNat)).raiseIf
        (decide (nf old (4 * n + 2) (4 * n) ≠ nf new (4 * n + 2) (4 * n))) 0x005 n) (s.wr R.PWR_FSCMP new)
      forN 2 (fun n t =>
        let mv := r (ts.getD n 0).toNat
        let t := t.wr (R.PWR_TSMEAS n) mv
        if t.tsInside n mv == t.bit R.PWR_TSSTAT n then { t with sys := { t.sys with tsSince := tabDel t.sys.tsSince n } }
        else if (tabFind t.sys.tsSince n).isSome then t
        else { t with sys := { t.sys with tsSince := tabIns t.sys.tsSince n t.ticks } }) s)

/-- TRIP_SUPPLY_CHANGE: 1 ms on the other side of its limits, and TSnOK changes; PRE shows it in OUTSTAT (R602). -/
def execTripSupplyChange (dt : Nat) (n : Fin 2) (s : State) : Host.Outcome State Fault Refusal :=
  always dt s fun s =>
    match tabFind s.sys.tsSince n.val with
    | some t =>
      if s.sys.standby && s.msSince t 1 then
        let s := { s with sys := { s.sys with tsSince := tabDel s.sys.tsSince n.val } }
        let s := (s.putBit R.PWR_TSSTAT n.val (!s.bit R.PWR_TSSTAT n.val)).raise 0x005 (4 + n.val)
        if s.sys.on then s.outStat.rdnEval else s
      else s
    | none => s

/-- TEMP_MEASURE: every 10 ms the baseplate temperature in 0.1 °C (R603). -/
def execTempMeasure (dt : Nat) (v : BitVec 16) (s : State) : Host.Outcome State Fault Refusal :=
  always dt s fun s =>
    if !s.sys.standby || s.ticks < s.sys.tempTick + 1000000 then s
    else
      let c := sx 16 v.toNat
      let s := { s with sys := { s.sys with
        tempTick := s.ticks
        hotTick := if c ≤ 1000 then none else if s.sys.hotTick.isSome then s.sys.hotTick else some s.ticks
        hot := s.sys.hot && decide (850 ≤ c) } }
      let s := s.wr R.PWR_TEMP v.toNat
      if 900 < c ∧ !s.bit R.PWR_STAT 6 then (s.putBit R.PWR_STAT 6 true).raise 0x004 3
      else if c < 880 then s.putBit R.PWR_STAT 6 false
      else s

/-- THERMAL: above 100 °C for 1 s, a module reset of kind THERMAL (R603). -/
def execThermal (dt : Nat) (s : State) : Host.Outcome State Fault Refusal :=
  always dt s fun s =>
    match s.sys.hotTick with
    | some t =>
      if s.sys.on && s.sys.down.isNone && s.secSince t 1 then
        { s with sys := { s.sys with hot := true } }.shutdown rkThermal false
      else s
    | none => s

/-- A commit of a PWR page: TSnLIM within the rated range (R618). -/
def State.pwrCheck (s : State) (p : Nat) : Verdict :=
  if p = 0x005 then
    rangeIf ((List.range 2).all (fun n =>
      decide (s.shFld (R.PWR_TSLIM n) 31 16 ≤ 1375) && decide (s.shFld (R.PWR_TSLIM n) 15 0 < s.shFld (R.PWR_TSLIM n) 31 16)))
  else .ok

/-! ### RSTIN_N -/

/-- RSTIN_ASSERT: a low level that lasted 10 µs is accepted, and a shorter one counted (R605, R606). -/
def execRstinAssert (dt : Nat) (accepted : Bool) (s : State) : Host.Outcome State Fault Refusal :=
  always dt s fun s =>
    if !s.sys.standby || s.sys.rstin then s
    else if !accepted then (if s.sys.on then s.incSat R.SYS_RSTGLITCH else s)
    else
      let sleeping := s.sys.sleep || (s.sys.down.map (·.sleep)).getD false
      let s := { s with sys := { s.sys with
        rstin := true, rstinTick := s.ticks - 1000, wake := s.sys.wake || sleeping } }
      s.shutdown rkRstin false

/-- RSTIN_RELEASE: RSTIN_N is accepted high; a hold of 10 s keeps its total in RSTHELD (R17, R548, R605). -/
def execRstinRelease (dt : Nat) (s : State) : Host.Outcome State Fault Refusal :=
  always dt s fun s =>
    if !s.sys.rstin then s
    else
      let s := if 10 ≤ s.rstinSecs then
          { (s.wr R.MGT_RSTHELD s.rstinSecs).putBit R.MGT_STAT 3 false with mgt := { s.mgt with held := true } }
        else s
      { s with sys := { s.sys with rstin := false } }.clockFree

/-! ### Commands of the SYS pages -/

/-- A write of SYSCMD: only from the owner of page 0x001 that is a voted core partition (R604). -/
def State.sysCmd (s : State) (who : Init) (k : Nat) (v : Word) (f : State → State) : State :=
  s.cmdW who 0x001 0xC00 fun n s => s.keyed 0x001 0xC00 n 0x5A5E v fun s =>
    if nf v.toNat 1 0 ≠ k then s else if s.voted n then f s else s.err 0x001 n eBadValue R.SYS_SYSCMD

/-- SYSCMD_MRESET: a module reset of kind SOFT. -/
def execSyscmdMreset (dt : Nat) (who : Init) (v : Word) (s : State) : Host.Outcome State Fault Refusal :=
  onMain dt s fun s => s.sysCmd who 1 v fun s => s.shutdown rkSoft false

/-- SYSCMD_SLEEP: the shutdown sequence, after which the main domain stays off until a wake; the start then records WAKE
(R604, R606). -/
def execSyscmdSleep (dt : Nat) (who : Init) (v : Word) (s : State) : Host.Outcome State Fault Refusal :=
  onMain dt s fun s => s.sysCmd who 2 v fun s => { s with sys := { s.sys with wake := false } }.shutdown rkWake true

/-- The key index in the header of the image in a physical slot (R561). -/
def State.slotNum (s : State) (k o n : Nat) : Nat := imgNum (tabGet [] s.upd.slots k) o n

/-- FUSECMD_REVOKE: blow the revocation bit of a key index, unless it is the last unrevoked one or that of the active
image (R610). -/
def execFusecmdRevoke (dt : Nat) (who : Init) (v : Word) (s : State) : Host.Outcome State Fault Refusal :=
  onMain dt s fun s => s.cmdW who 0x002 0xC00 fun n s => s.keyed 0x002 0xC00 n 0xF05E v fun s =>
    if !nb v.toNat 4 then s
    else
      let i := nf v.toNat 1 0
      let last := (List.range 4).all (fun j => j == i || s.bit R.SYS_FUSESTAT (4 + j))
      if !s.voted n || last || s.slotNum (s.fld R.UPD_SLOTROLE 1 0) 0x00B 1 == i then s.err 0x002 n eBadValue R.SYS_FUSECMD
      else s.putBit R.SYS_FUSESTAT (4 + i) true

end Sys2Proof.Machine
end

