-- ==== Sys2Proof/Machine/Upd.lean ====
section
/-! DEFINITION. UPD: staging sessions, verification, the service port, activation and what a start does with the image slots
(R561 to R580). -/
namespace Sys2Proof.Machine

/-! ### Fields -/

abbrev stEmpty : Nat := 0
abbrev stReceiving : Nat := 1
abbrev stUnverified : Nat := 2
abbrev stVerifying : Nat := 3
abbrev stVerified : Nat := 4
abbrev stRejected : Nat := 5

abbrev acNone : Nat := 0
abbrev acScheduled : Nat := 1
abbrev acPostponed : Nat := 2
abbrev acProgress : Nat := 3
abbrev acDone : Nat := 4
abbrev acExpired : Nat := 5

def State.session (s : State) : Nat := s.fld R.UPD_STAT 2 0
def State.stageUpd (s : State) : Nat := s.fld R.UPD_STAT 5 3
def State.actStat (s : State) : Nat := s.fld R.UPD_ACTSTAT 2 0

/-- Physical slots by role (R563). -/
def State.slotActive (s : State) : Nat := s.fld R.UPD_SLOTROLE 1 0
def State.slotFallback (s : State) : Nat := s.fld R.UPD_SLOTROLE 3 2
def State.slotStaging (s : State) : Nat := s.fld R.UPD_SLOTROLE 5 4

/-- The bytes of a physical slot. -/
def State.slot3 (s : State) (k : Nat) : List Nat := tabGet [] s.upd.slots k

/-- Change STAGE; a change raises EVRAW[0] of page 0x0CC (R579). -/
def State.setStage (s : State) (st : Nat) : State :=
  if s.stageUpd = st then s else (s.putFld R.UPD_STAT 5 3 st).raise 0x0CC 0

/-- Change ACTSTAT; a change raises EVRAW[0] of page 0x0CD (R579). -/
def State.setAct (s : State) (a : Nat) : State :=
  if s.actStat = a then s else (s.putFld R.UPD_ACTSTAT 2 0 a).raise 0x0CD 0

/-- The staging slot takes these bytes; none empties it. -/
def State.putStaging (s : State) (b : List Nat) : State :=
  { s with upd := { s.upd with slots := tabSet [] s.upd.slots s.slotStaging b } }

/-- Staging is rejected with a reason of R562. -/
def State.reject (s : State) (why : Nat) : State := (s.wr R.UPD_REJECT why).setStage stRejected

/-- The session ends; a chunk that runs stops with it. -/
def State.sessClose (s : State) : State :=
  { (s.putFld R.UPD_STAT 2 0 0).putBit R.UPD_STAT 6 false with upd := { s.upd with chunk := none, tftp := none } }

/-- A session ends without an image: STAGE EMPTY and ES263 through EVRAW `b` (R566). -/
def State.sessDrop (s : State) (b : Nat) : State := ((s.sessClose.putStaging []).setStage stEmpty).raise 0x0CC b

/-- An accepted command or packet restarts the session timeout. -/
def State.sessTouch (s : State) : State := { s with upd := { s.upd with sessTick := s.ticks } }

/-! ### Sessions (R564 to R566) -/

/-- Is an open refused with BUSY? -/
def State.openBusy (s : State) : Bool :=
  s.session != 0 || s.actStat == acScheduled || s.actStat == acPostponed || s.actStat == acProgress

/-- A refused open is counted and raises ES263. -/
def State.busyGiven (s : State) : State := (s.incSat R.UPD_BUSYCNT).raise 0x0CC 2

/-- Open a session: earlier content goes, and a fresh nonce is drawn. -/
def State.sessOpen (s : State) (src : Nat) : State :=
  let s := ((s.putStaging []).putFld R.UPD_STAT 2 0 src).zero [R.UPD_RXBYTES, R.UPD_REJECT]
  let s := forN 4 (fun i t => (t.draw 32).2.wr (R.UPD_SESSNONCE i) (t.draw 32).1) s
  ({ s with upd := { s.upd with openLen := s.rd R.UPD_OPENLEN } }.setStage stReceiving).sessTouch

/-- A write of UPDCMD with command `k`. -/
def State.updCmd (s : State) (who : Init) (k : Nat) (v : Word) (f : Nat → State → State) : State :=
  s.cmdW who 0x0CC 0xC00 fun n s => s.keyed 0x0CC 0xC00 n 0x0D7A v fun s => if nf v.toNat 2 0 = k then f n s else s

/-- An error of UPDCMD. -/
def State.updErr (s : State) (n code : Nat) : State := s.err 0x0CC n code R.UPD_UPDCMD

/-- UPDCMD_OPEN. -/
def execUpdcmdOpen (dt : Nat) (who : Init) (v : Word) (s : State) : Host.Outcome State Fault Refusal :=
  onMain dt s fun s => s.updCmd who 1 v fun n s =>
    if s.openBusy then (s.updErr n 0x0101).busyGiven else s.sessOpen 1

/-- Do `len` bytes from a physical address lie in one NORMAL window of partition `n`? -/
def State.updWindow (s : State) (n a len : Nat) : Bool :=
  decide (dramBase ≤ a) && s.windows.any (fun w => s.wKind w == kNormal && s.wOwner w == some n &&
    decide (s.wBase w ≤ a - dramBase) && decide (a - dramBase + len ≤ s.wBase w + s.wSize w))

/-- CHSRC as a physical address. -/
def State.chSrc (s : State) : Nat := s.rd64 R.UPD_CHSRC % 2 ^ 40

/-- UPDCMD_CHUNK (R565). -/
def execUpdcmdChunk (dt : Nat) (who : Init) (v : Word) (s : State) : Host.Outcome State Fault Refusal :=
  onMain dt s fun s => s.updCmd who 2 v fun n s =>
    let len := s.fld R.UPD_CHLEN 20 0
    if s.session ≠ 1 ∨ s.upd.chunk.isSome then s.updErr n 0x0105
    else if !within 1 1048576 len || !s.updWindow n s.chSrc len then s.updErr n eBadValue
    else if s.upd.openLen < s.rd R.UPD_RXBYTES + len then s.updErr n 0x0105
    else ({ s with upd := { s.upd with chunk := some (s.chSrc, len) } }.putBit R.UPD_STAT 6 true).sessTouch

/-- Bytes arrive in staging. -/
def State.stageBytes (s : State) (b : List Nat) : State :=
  (s.putStaging (s.slot3 s.slotStaging ++ b)).wr R.UPD_RXBYTES (s.rd R.UPD_RXBYTES + b.length)

/-- CHUNK_DONE: the chunk that runs is written.  A transfer that meets poison or leaves its windows stops there
(R172, R178). -/
def execChunkDone (dt : Nat) (s : State) : Host.Outcome State Fault Refusal :=
  onMain dt s fun s =>
    match s.upd.chunk with
    | none => s
    | some (a, len) =>
      let n := (s.owner 0x0CC).getD 0
      let r := s.dmaRead 0x0CC 0x17 a len
      let s := ({ r.1 with upd := { r.1.upd with chunk := none } }.putBit R.UPD_STAT 6 false).stageBytes r.2.2
      if r.2.1 = .ok then s.raise 0x0CC 1 else s.errAt 0x0CC n 0x0105 ((a + r.2.2.length) % 2 ^ 32)

/-- The end of a transfer: the image goes to verification, or is rejected for its length (R565). -/
def State.sessEnd (s : State) (lenOk : Bool) : State :=
  let s := { s with upd := { s.upd with ended := (s.session, s.ticks) } }
  if lenOk then (s.sessClose.setStage stUnverified).setStage stVerifying else s.sessClose.reject 7

/-- UPDCMD_CLOSE (R565). -/
def execUpdcmdClose (dt : Nat) (who : Init) (v : Word) (s : State) : Host.Outcome State Fault Refusal :=
  onMain dt s fun s => s.updCmd who 3 v fun n s =>
    if s.session ≠ 1 ∨ s.upd.chunk.isSome then s.updErr n 0x0105
    else s.sessEnd (s.rd R.UPD_RXBYTES == s.upd.openLen)

/-- UPDCMD_ABORT: the owner ends its own session (R566). -/
def execUpdcmdAbort (dt : Nat) (who : Init) (v : Word) (s : State) : Host.Outcome State Fault Refusal :=
  onMain dt s fun s => s.updCmd who 4 v fun n s => if s.session = 1 then s.sessDrop 4 else s.updErr n 0x0105

/-- The unrevoked key hashes of the fuses, as bytes. -/
def State.fuseKeys (s : State) : List Nat :=
  (List.range 4).flatMap (fun i => if s.bit R.SYS_FUSESTAT (4 + i) then []
    else (List.range 12).flatMap (fun j => bytesOf 4 (s.rd (R.SYS_KEYHASH i j))))

/-- A token for the session of the other source: SESSNONCE, then a signature over "ZQAB", the serial number and that nonce
by a key that passes the KEY check (R566). -/
def State.tokenGood (s : State) (t : List Nat) : Bool :=
  let nonce := (List.range 4).flatMap (fun i => bytesOf 4 (s.rd (R.UPD_SESSNONCE i)))
  t.length == 112 && t.take 16 == nonce &&
    Config.tokenOk s.fuseKeys (t.drop 16) ([0x5A, 0x51, 0x41, 0x42] ++ bytesOf 8 (s.rd64 R.SYS_SERIAL) ++ nonce)

/-- Is there a session of a source to abort: an open one, or one that went to its end in this very tick (R577)? -/
def State.abortable (s : State) (src : Nat) : Bool := s.session == src || s.upd.ended == (src, s.ticks)

/-- UPDCMD_ABORTOTHER: the owner aborts the session of the service port with a token at CHSRC. -/
def execUpdcmdAbortother (dt : Nat) (who : Init) (v : Word) (s : State) : Host.Outcome State Fault Refusal :=
  onMain dt s fun s => s.updCmd who 5 v fun n s =>
    if !s.updWindow n s.chSrc 112 then s.updErr n eBadValue
    else
      let r := s.dmaRead 0x0CC 0x17 s.chSrc 112
      let s := r.1
      if s.abortable 2 ∧ r.2.1 = .ok ∧ s.tokenGood r.2.2 then s.sessDrop 4 else s.updErr n 0x0104

/-- SESSION_TIMEOUT: 60 s without an accepted command or packet. -/
def execSessionTimeout (dt : Nat) (s : State) : Host.Outcome State Fault Refusal :=
  onMain dt s fun s =>
    if s.session ≠ 0 ∧ s.secSince s.upd.sessTick 60 then (s.sessDrop 3).incSat R.UPD_IDLECNT else s

/-! ### Verification (R561, R562) -/

/-- The limit of a payload by KIND. -/
def kindLimit (kind : Nat) : Nat :=
  if kind = 1 then 1536 * 2 ^ 20 else if kind = 2 then 8 * 2 ^ 20 else 64 * 2 ^ 20 - 512

/-- The reserved bytes of a header: 0x024 to 0x02F and 0x120 to 0x1FF. -/
def reservedZero (b : List Nat) : Bool := ((b.drop 0x024).take 12 ++ (b.drop 0x120).take 224).all (fun x => x == 0)

/-- The number of a header field. -/
def hdr (b : List Nat) (o n : Nat) : Nat := imgNum b o n

/-- Are the target partition and the flags of a header as R561 lays them down?  They fall under check 1 (assumption 90). -/
def headerOk (b : List Nat) : Bool :=
  (if hdr b 8 1 = 2 then decide (hdr b 9 1 ≤ 5) else hdr b 9 1 == 0) && decide (hdr b 0x00A 1 ≤ 1)

/-- The first check of R562 that an image fails, 0 when it passes them all.  `good` says whether the payload reads back
as it was received. -/
def State.imageReason (s : State) (b : List Nat) (good : Bool) : Nat :=
  let key := hdr b 0x00B 1
  let pub := (b.drop 0x060).take 96
  let pay := b.drop 512
  let variant := if s.hasTriad 2 then 0 else 1
  if b.length < 512 ∨ hdr b 0 4 ≠ 0x4D49515A ∨ hdr b 4 4 ≠ 1 ∨ !within 1 4 (hdr b 8 1) ∨ !reservedZero b ∨ !headerOk b then 1
  else if 3 < key ∨ s.bit R.SYS_FUSESTAT (4 + key) ∨
      bytesOf 48 (Config.sha384 pub).toNat ≠ (List.range 12).flatMap (fun j => bytesOf 4 (s.rd (R.SYS_KEYHASH key j))) then 2
  else if !Config.ecdsaOk pub ((b.drop 0x0C0).take 96) (b.take 0x0C0) then 3
  else if !nb (hdr b 0x00C 4) variant ∨ s.fld R.SYS_STEPPING 7 0 < nf (hdr b 0x00C 4) 15 8 then 4
  else if hdr b 0x018 4 < s.rd R.SYS_MINSVN then 5
  else if hdr b 0x01C 4 ≠ pay.length ∨ kindLimit (hdr b 8 1) < pay.length then 7
  else if !good ∨ bytesOf 48 (Config.sha384 pay).toNat ≠ (b.drop 0x030).take 48 then 6
  else 0

/-! ### Activation (R568, R569) -/

/-- Staging is used up. -/
def State.stagingDone (s : State) : State := (((s.putStaging []).setStage stEmpty).setAct acDone)

/-- The activation of the verified image by its KIND. -/
def State.activate (s : State) : State :=
  let b := s.slot3 s.slotStaging
  let pay := b.drop 512
  let s := { s with upd := { s.upd with sched := none } }
  let kind := hdr b 8 1
  if kind = 1 then
    let s := { s with upd := { s.upd with mark := true, actTick := some s.ticks, pos := 0 } }.setAct acProgress
    forN 6 (fun n t => if t.cycOn n then t.cycAsk n else t) s
  else if kind = 2 then
    let n := hdr b 9 1
    { s with upd := { s.upd with
      prep := tabSet [] s.upd.prep n pay, parts := tabSet [] s.upd.parts (8 * s.slotActive + n) pay } }.stagingDone
  else if kind = 3 then
    let other := if s.bit R.SYS_BOOTSTAT 24 then 0 else 1
    let s := { s with upd := { s.upd with nor := tabSet [] s.upd.nor other pay } }
    (((s.putBit R.SYS_LOADSTAT other true).putBit R.SYS_LOADSTAT 2 (other == 1)).putFld R.SYS_LOADSTAT 5 4 0).stagingDone
  else { s with upd := { s.upd with settings := tabSet [] s.upd.settings s.slotActive pay } }.stagingDone

/-- VERIFY_DONE: the verification ends; `read` is 0 when the slot reads back as received, 1 when it does not, 2 on a read or
write error.  In recovery mode a MODULE image is activated at once (R562, R575). -/
def execVerifyDone (dt : Nat) (read : Fin 3) (s : State) : Host.Outcome State Fault Refusal :=
  onMain dt s fun s =>
    if s.stageUpd ≠ stVerifying then s
    else
      let b := s.slot3 s.slotStaging
      let why := if read = 2 then 8 else s.imageReason b (read == 0)
      if why ≠ 0 then s.reject why
      else
        let s := s.setStage stVerified
        if s.stage = 6 ∧ hdr b 8 1 = 1 then s.activate else s

/-- A write of ACTCMD with command `k`. -/
def State.actCmd (s : State) (who : Init) (k : Nat) (v : Word) (f : Nat → State → State) : State :=
  s.cmdW who 0x0CD 0xC00 fun n s => s.keyed 0x0CD 0xC00 n 0x0D7B v fun s => if nf v.toNat 2 0 = k then f n s else s

/-- An error of ACTCMD. -/
def State.actErr (s : State) (n code : Nat) : State := s.err 0x0CD n code R.UPD_ACTCMD

/-- PROBATION of PROBSTAT. -/
def State.probation (s : State) : Bool := s.bit R.UPD_PROBSTAT 0

/-- SCHEDULE and NOW act on a VERIFIED slot, outside probation and while no activation proceeds. -/
def State.actOpen (s : State) (n : Nat) (f : State → State) : State :=
  if s.stageUpd ≠ stVerified then s.actErr n 0x0103
  else if s.probation || s.actStat == acProgress then s.actErr n eBadValue
  else f s

/-- ACTCMD_SCHEDULE (R568). -/
def execActcmdSchedule (dt : Nat) (who : Init) (v : Word) (s : State) : Host.Outcome State Fault Refusal :=
  onMain dt s fun s => s.actCmd who 1 v fun n s => s.actOpen n fun s =>
    let t := s.rd64 R.UPD_ACTTIME
    let w := s.fld R.UPD_ACTWIN 19 0
    if !within 1 604800 w || decide (t + 4000000000 * w < s.moduleTime) then s.actErr n eBadValue
    else { s with upd := { s.upd with sched := some (t, w) } }.setAct acScheduled

/-- ACTCMD_NOW: activate at once, with or without time lock. -/
def execActcmdNow (dt : Nat) (who : Init) (v : Word) (s : State) : Host.Outcome State Fault Refusal :=
  onMain dt s fun s => s.actCmd who 2 v fun n s => s.actOpen n fun s => s.activate

/-- Is a scheduled or postponed activation due now: at or after ACTTIME, within ACTWIN, with TMB LOCKED (R569)? -/
def State.actDue (s : State) : Bool :=
  match s.upd.sched with
  | some (t, w) =>
    (s.actStat == acScheduled || s.actStat == acPostponed) && decide (t ≤ s.moduleTime) &&
      decide (s.moduleTime ≤ t + 4000000000 * w) && s.timeLocked
  | none => false

/-- ACTCMD_CANCEL: back to NONE, and staging stays VERIFIED; in the tick of ta the activation proceeds (R577). -/
def execActcmdCancel (dt : Nat) (who : Init) (v : Word) (s : State) : Host.Outcome State Fault Refusal :=
  onMain dt s fun s => s.actCmd who 3 v fun n s =>
    if s.actDue then s.activate
    else if s.actStat = acScheduled ∨ s.actStat = acPostponed then
      { s with upd := { s.upd with sched := none } }.setAct acNone
    else s.actErr n eBadValue

/-- ACTCMD_CONFIRM: probation ends; SVNBUMP of the active image raises MINSVN (R571). -/
def execActcmdConfirm (dt : Nat) (who : Init) (v : Word) (s : State) : Host.Outcome State Fault Refusal :=
  onMain dt s fun s => s.actCmd who 4 v fun n s =>
    if !s.probation then s.actErr n 0x0106
    else
      let b := s.slot3 s.slotActive
      let s := (((s.putBit R.UPD_PROBSTAT 0 false).putFld R.UPD_PROBSTAT 3 2 0)).raise 0x0CD 2
      if nb (hdr b 0x00A 1) 0 then s.wr R.SYS_MINSVN (max (s.rd R.SYS_MINSVN) (hdr b 0x018 4)) else s

/-- ACTIVATION_DUE: ACTTIME has come, and TMB is LOCKED (R569). -/
def execActivationDue (dt : Nat) (s : State) : Host.Outcome State Fault Refusal :=
  onMain dt s fun s => if s.actDue then s.activate else s

/-- ACTIVATION_POSTPONED: ACTTIME has come without time lock. -/
def execActivationPostponed (dt : Nat) (s : State) : Host.Outcome State Fault Refusal :=
  onMain dt s fun s =>
    match s.upd.sched with
    | some (t, _) =>
      if s.actStat = acScheduled ∧ t ≤ s.moduleTime ∧ !s.timeLocked then
        (s.setAct acPostponed).err 0x0CD ((s.owner 0x0CD).getD 0) 0x0102 R.UPD_ACTTIME
      else s
    | none => s

/-- ACTIVATION_EXPIRED: no due instant by ACTTIME + ACTWIN. -/
def execActivationExpired (dt : Nat) (s : State) : Host.Outcome State Fault Refusal :=
  onMain dt s fun s =>
    match s.upd.sched with
    | some (t, w) =>
      if (s.actStat = acScheduled ∨ s.actStat = acPostponed) ∧ t + 4000000000 * w < s.moduleTime then
        { s with upd := { s.upd with sched := none } }.setAct acExpired
      else s
    | none => s

/-- UPDATE_RESET: every CYC has stopped, or 1 s has passed since ta (R569). -/
def execUpdateReset (dt : Nat) (s : State) : Host.Outcome State Fault Refusal :=
  onMain dt s fun s =>
    match s.upd.actTick with
    | some ta =>
      if (List.range 6).all (fun n => !s.cyRuns n) || s.secSince ta 1 then s.shutdown rkUpdate false else s
    | none => s

/-! ### The service port (R567) -/

/-- The transfer engine serves: with SVCEN = 1, or in recovery mode (R567, R575). -/
def State.svcOn (s : State) : Bool := s.stage == 6 || s.bit R.UPD_CTRL 0

/-- The IPv4 address of the engine. -/
def State.svcIp (s : State) : Nat := if s.stage = 6 then 0xA9FE0001 else s.rd R.UPD_SVCIP

/-- A TFTP ERROR packet of RFC 1350. -/
def tftpError (code : Nat) (text : List Nat) : List Nat := [0, 5, 0, code] ++ text ++ [0]

/-- A TFTP ACK packet. -/
def tftpAck (n : Nat) : List Nat := [0, 4, n / 256 % 256, n % 256]

/-- The bytes of "BUSY". -/
def txtBusy : List Nat := [0x42, 0x55, 0x53, 0x59]

/-- Decimal digits of a number below 10,000. -/
def decText (n : Nat) : List Nat :=
  let d := [n / 1000 % 10, n / 100 % 10, n / 10 % 10, n % 10]
  (d.dropWhile (fun x => x == 0)).map (fun x => 0x30 + x)

/-- A TFTP OACK for the block-size option of RFC 2348. -/
def tftpOack (blk : Nat) : List Nat := [0, 6, 0x62, 0x6C, 0x6B, 0x73, 0x69, 0x7A, 0x65, 0] ++ decText blk ++ [0]

/-- An answer of the transfer engine. -/
def State.say (s : State) (b : List Nat) : State := { s with resp := .bytes b }

/-- TFTP_WRITE_STAGE: a write request for "stage" by a peer, with the block size of its option if it has one. -/
def execTftpWriteStage (dt : Nat) (peer : BitVec 48) (blk : Option (BitVec 16)) (s : State) :
    Host.Outcome State Fault Refusal :=
  onMain dt s fun s =>
    if !s.svcOn then s
    else if s.openBusy then s.busyGiven.say (tftpError 0 txtBusy)
    else
      let s := s.sessOpen 2
      match blk with
      | some b =>
        let k := min 1468 (max 8 b.toNat)
        { s with upd := { s.upd with tftp := some { peer := peer.toNat, blk := k } } }.say (tftpOack k)
      | none => { s with upd := { s.upd with tftp := some { peer := peer.toNat } } }.say (tftpAck 0)

/-- TFTP_DATA: the next block of the peer's transfer; the last one is shorter than the block size and acts as CLOSE. -/
def execTftpData (dt : Nat) (peer : BitVec 48) (block : BitVec 16) (data : List Byte) (s : State) :
    Host.Outcome State Fault Refusal :=
  guarded (decide (data.length ≤ 1468)) dt s (onMain dt s fun s =>
    match s.upd.tftp with
    | none => if s.svcOn then s.say (tftpError 5 []) else s
    | some t =>
      if peer.toNat ≠ t.peer then s.say (tftpError 5 [])
      else if block.toNat = t.last % 65536 then s.say (tftpAck block.toNat)
      else if block.toNat ≠ (t.last + 1) % 65536 ∨ t.blk < data.length then s
      else
        let total := s.rd R.UPD_RXBYTES + data.length
        let kind := hdr (s.slot3 s.slotStaging) 8 1
        let limit := 512 + kindLimit (if 9 ≤ s.rd R.UPD_RXBYTES ∧ within 1 4 kind then kind else 1)
        let s := ({ s with upd := { s.upd with tftp := some { t with last := t.last + 1 } } }.stageBytes
          (data.map BitVec.toNat)).sessTouch
        if limit < total then (s.sessClose.reject 7).say (tftpError 3 [])
        else if data.length = t.blk then s.say (tftpAck block.toNat)
        else if total < 512 then (s.sessClose.reject 7).say (tftpError 3 [])
        else (s.sessEnd true).say (tftpAck block.toNat))

/-- TFTP_WRITE_ABORT: a write of the file "abort" submits a token against the owner's session. -/
def execTftpWriteAbort (dt : Nat) (token : List Byte) (s : State) : Host.Outcome State Fault Refusal :=
  onMain dt s fun s =>
    if !s.svcOn then s
    else if s.abortable 1 ∧ s.tokenGood (token.map BitVec.toNat) then (s.sessDrop 4).say (tftpAck 1)
    else s.say (tftpError 2 [])

/-- TFTP_READ_STATUS: the 64 bytes of the file "status" in one DATA packet. -/
def execTftpReadStatus (dt : Nat) (s : State) : Host.Outcome State Fault Refusal :=
  onMain dt s fun s =>
    if !s.svcOn then s
    else
      let w := [s.rd R.UPD_STAT, s.rd R.UPD_REJECT, s.rd R.UPD_ACTSTAT, s.rd R.UPD_PROBSTAT, s.rd R.UPD_SLOTROLE,
        s.rd R.UPD_RXBYTES]
      s.say ([0, 3, 0, 1] ++ padTo 64 (w.flatMap (bytesOf 4)))

/-- TFTP_ERROR: an ERROR packet of the peer aborts its session (R566). -/
def execTftpError (dt : Nat) (peer : BitVec 48) (s : State) : Host.Outcome State Fault Refusal :=
  onMain dt s fun s =>
    match s.upd.tftp with
    | some t => if t.peer = peer.toNat ∧ s.session = 2 then s.sessDrop 4 else s
    | none => s

/-- ARP_REQUEST: the engine answers for SVCIP with its own hardware address, which no page gives. -/
def execArpRequest (dt : Nat) (target sender : BitVec 32) (mac : BitVec 48) (s : State) :
    Host.Outcome State Fault Refusal :=
  onMain dt s fun s =>
    if s.svcOn ∧ target.toNat = s.svcIp then
      let own := s.draw 48
      own.2.say ([0, 1, 8, 0, 6, 4, 0, 2] ++ (bytesOf 6 own.1).reverse ++ (bytesOf 4 target.toNat).reverse ++
        (bytesOf 6 mac.toNat).reverse ++ (bytesOf 4 sender.toNat).reverse)
    else s

/-! ### What a start does (R570 to R574, R576) -/

/-- Exchange roles. -/
def State.putRoles (s : State) (a f g : Nat) : State := s.wr R.UPD_SLOTROLE (a + 4 * f + 16 * g)

/-- The newest FRAM record of every partition is migrated from the image that slot `old` held to the new one (R574). -/
def State.migrateAll (s : State) (old new : Nat) : State :=
  forN 6 (fun n t =>
    match tabFind t.upd.parts (8 * old + n), tabFind t.upd.parts (8 * new + n), t.newestRec n with
    | some ob, some nb, some r =>
      let o := imgParse ob
      let i := imgParse nb
      t.framPut n i (r.cycle, (migrate o i (padTo o.area r.retain)).take i.retain) true
    | _, _, _ => t) s

/-- Whole MiB that a number of bytes begins (R570). -/
def mibUp (n : Nat) : Nat := (n + 1048575) / 1048576

/-- Step 4 of R570: the roles change, and what the starts knew of the target slot is forgotten. -/
def State.copyDone (s : State) (ms : Nat) (setdef : Bool) : State :=
  let a := s.slotActive
  let f := s.slotFallback
  let g := s.slotStaging
  let b := s.slot3 g
  let s := { s with upd := { s.upd with slots := tabSet [] (tabSet [] s.upd.slots f b) g [], mark := false } }
  let s := (s.putRoles f a g).setStage stEmpty
  let s := (s.wr R.UPD_PROBSTAT (5 + 32 * b2n setdef)).raise 0x0CD 1
  let mib := mibUp (b.length - 512)
  let gone (t : Tab (List Nat)) : Tab (List Nat) := t.filter (fun e => !(e.1 / 8 == f || e.1 / 8 == g))
  { (s.wr R.UPD_COPYPOS mib).wr R.UPD_COPYDUR ms with
    upd := { s.upd with pos := mib, parts := gone s.upd.parts, boot := tabDel (tabDel s.upd.boot f) g } }

/-- The copy failed twice: the roles stand. -/
def State.copyFail (s : State) : State :=
  ({ s with upd := { s.upd with mark := false } }.reject 8).setAct acNone

/-- A revert of R572. -/
def State.updRevert (s : State) : State :=
  let a := s.slotActive
  let f := s.slotFallback
  let g := s.slotStaging
  let s := (s.putRoles f g a).reject 9
  ((s.wr R.UPD_PROBSTAT 16).raise 0x0CD 3)

/-- The probation count of R571; the copying start counts itself. -/
def State.countStart (s : State) : State :=
  if s.probation then s.putFld R.UPD_PROBSTAT 3 2 (s.fld R.UPD_PROBSTAT 3 2 + 1) else s

/-- Have three starts been counted without confirmation? -/
def State.threeStarts (s : State) : Bool := s.probation && s.fld R.UPD_PROBSTAT 3 2 == 3

end Sys2Proof.Machine
end

