-- ==== Sys2Proof/Machine/Mgt.lean ====
section
/-! DEFINITION. Cricket: the management port, its authentication, and the commands of R550 (R547 to R560). -/
namespace Sys2Proof.Machine

/-! ### Status codes (R551) -/

abbrev mgOk : Nat := 0x00
abbrev mgBadcmd : Nat := 0x01
abbrev mgBadlen : Nat := 0x02
abbrev mgAuthfail : Nat := 0x03
abbrev mgAuthlock : Nat := 0x04
abbrev mgDenied : Nat := 0x05
abbrev mgMainoff : Nat := 0x06
abbrev mgAction : Nat := 0x07
abbrev mgPoison : Nat := 0x08
abbrev mgRefused : Nat := 0x0A

/-! ### Frames and replies -/

/-- Payload bytes as numbers. -/
def mgtBytes (f : MgtFrame) : List Nat := f.pay.map BitVec.toNat

/-- A little-endian number of the payload. -/
def mgtNum (f : MgtFrame) (o n : Nat) : Nat := fromBytes (((mgtBytes f).drop o).take n)

/-- A reply: LASTCMD shows it, and DENIED replies are counted (R560). -/
def State.mgtReply (s : State) (cmd slot status : Nat) (l : List Nat) : State :=
  let s := { s.wr R.MGT_LASTCMD (cmd + 256 * status + 65536 * (slot % 16)) with resp := .reply status l }
  if status = mgDenied then s.incSat R.MGT_DENYCNT else s

/-- A frame for the module: it is counted and served while the port is enabled (R549, R560). -/
def State.mgtFrame (s : State) (f : State → State) : State :=
  if s.sys.standby && s.bit R.MGT_CTRL 0 then f (s.incSat R.MGT_RXFRM) else s

/-- The key of a slot, empty for an empty slot (R554). -/
def State.mgtKey (s : State) (k : Nat) : List Nat :=
  (tabFind s.mgt.keys k).getD (if k = 0 then bytesOf 32 Config.moduleKey.toNat else [])

/-- The command mask of a slot. -/
def State.mgtMask (s : State) (k : Nat) : Nat := if k = 0 then s.rd R.MGT_KEYACL0 else s.rd (R.MGT_KEYACL (k - 1))

/-- The tag of a frame under a key and a nonce (R552). -/
def State.mgtTag (s : State) (key nonce : List Nat) (cmd : Nat) (f : MgtFrame) : List Nat :=
  let frame := [s.fld R.MGT_MGTADDR 7 0, 64 * b2n f.auth + f.seq.val, cmd] ++ bytesOf 2 f.pay.length ++ mgtBytes f
  ((bytesOf 32 (Config.hmacSha256 key (nonce ++ frame)).toNat).reverse).take 16

/-- Is the tag of the frame right under the key of a slot, with a nonce that is not used and not older than 10 s? -/
def State.mgtTagOk (s : State) (cmd slot : Nat) (f : MgtFrame) : Bool :=
  match s.mgt.nonce with
  | none => false
  | some (n, t) =>
    !s.secSince t 10 && decide (slot < 4) && s.mgtKey slot != [] && f.auth &&
      f.tag.map BitVec.toNat == s.mgtTag (s.mgtKey slot) n cmd f

/-- An AUTHFAIL reply: counted, ES265, and the third within 60 s locks authentication out (R552, R553). -/
def State.mgtFail (s : State) (cmd slot : Nat) : State :=
  let l := s.ticks :: s.mgt.fails.filter (fun t => !s.secSince t 60)
  let s := (s.incSat R.MGT_AUTHFAILCNT).raise 0x0CE 1
  let s := if 3 ≤ l.length then
      { (s.putBit R.MGT_STAT 1 true).raise 0x0CE 3 with mgt := { s.mgt with fails := [], lockTick := some s.ticks } }
    else { s with mgt := { s.mgt with fails := l } }
  s.mgtReply cmd slot mgAuthfail []

/-- Field closure (R557). -/
def State.closed (s : State) : Bool := s.bit R.MGT_STAT 2

/-- Authenticate a command whose slot is named: lockout, then tag and nonce, then the slot's mask and closure. -/
def State.mgtAuth (s : State) (cmd slot : Nat) (f : MgtFrame) (go : State → State) : State :=
  if s.mgt.lockTick.any (fun t => !s.secSince t 60) then s.mgtReply cmd slot mgAuthlock []
  else if !s.mgtTagOk cmd slot f then { s with mgt := { s.mgt with nonce := none } }.mgtFail cmd slot
  else
    let s := { s with mgt := { s.mgt with nonce := none } }
    if !nb (s.mgtMask slot) cmd || ((cmd == 0x16 || cmd == 0x17) && (s.closed || slot != 0)) then
      s.mgtReply cmd slot mgDenied []
    else go s

/-- Is the main domain on? -/
def State.mainOn (s : State) : Bool := s.sys.on

/-- An accepted authenticated command raises ES264 (R552). -/
def State.mgtAccept (s : State) (cmd slot : Nat) : State :=
  ((s.incSat R.MGT_AUTHOKCNT).raise 0x0CE 0).mgtReply cmd slot mgOk []

/-- Status REFUSED of a target that has no code for it: the byte that follows is open (assumption 91). -/
def State.mgtRefuse (s : State) (cmd slot : Nat) : State := (s.draw 8).2.mgtReply cmd slot mgRefused [(s.draw 8).1]

/-- A command of class Auth with a payload of `len` bytes, the key slot first (R550).  Status REFUSED carries the target's
code. -/
def State.mgtCmd (s : State) (cmd len : Nat) (f : MgtFrame) (go : Nat → State → State) : State :=
  s.mgtFrame fun s =>
    let slot := mgtNum f 0 1
    if f.pay.length ≠ len then s.mgtReply cmd 0 mgBadlen []
    else s.mgtAuth cmd slot f fun s => if s.mainOn then go slot s else s.mgtReply cmd slot mgMainoff []

/-- READPAGE, READEVR or READLIFE: open before closure, and with AUTH = 1 or after closure verified; the payload of R550
then follows the key slot.  `len` is its length (R550, R557). -/
def State.mgtRead (s : State) (cmd len : Nat) (f : MgtFrame) (go : Nat → (Nat → Nat → Nat) → State → State) : State :=
  s.mgtFrame fun s =>
    if !f.auth then
      if s.closed then s.mgtReply cmd 0 mgDenied []
      else if f.pay.length ≠ len then s.mgtReply cmd 0 mgBadlen []
      else go 0 (fun o n => mgtNum f o n) s
    else if f.pay.length ≠ len + 1 then s.mgtReply cmd 0 mgBadlen []
    else s.mgtAuth cmd (mgtNum f 0 1) f fun s => go (mgtNum f 0 1) (fun o n => mgtNum f (o + 1) n) s

/-- The end of a read: with a tag it is an accepted authenticated command. -/
def State.mgtData (s : State) (cmd slot : Nat) (f : MgtFrame) (l : List Nat) : State :=
  let s := if f.auth then (s.incSat R.MGT_AUTHOKCNT).raise 0x0CE 0 else s
  s.mgtReply cmd slot mgOk l

/-! ### Open commands -/

/-- A command without payload that needs no tag. -/
def State.mgtOpen (s : State) (cmd : Nat) (f : MgtFrame) (go : State → State) : State :=
  s.mgtFrame fun s => if f.pay.length ≠ 0 then s.mgtReply cmd 0 mgBadlen [] else go s

/-- MGT_IDENT: identity from SYS, which reads 0 while the main domain is off, and CLOSED (R547, R550). -/
def execMgtIdent (dt : Nat) (f : MgtFrame) (s : State) : Host.Outcome State Fault Refusal :=
  always dt s fun s => s.mgtOpen 0x01 f fun s =>
    let m (x : Nat) := if s.mainOn then s.rd x else 0
    s.mgtReply 0x01 0 mgOk (([m R.SYS_ORDCODE, m R.SYS_STEPPING, m R.SYS_SERIAL, m (R.SYS_SERIAL + 4), m R.SYS_DPROFILE,
      b2n s.closed]).flatMap (bytesOf 4))

/-- The registers in which the blocks report their faulty replicas (R11, R12, R258): lanes, Scarab halves and delay paths of
the triads (in their verdicts), commit sequencers, axes, check modulators, the engine with its Mantis lanes and driver
readbacks, output readbacks, and evaluator channels. -/
def State.replicaWords (s : State) : List Nat :=
  ((List.range 4).flatMap (fun t => [R.TRI_LANESTAT t, R.TRI_VSTAT t, R.TRI_VERDICT t]) ++ (List.range 6).map (fun n => R.CYC_STAT n) ++
    (List.range 8).map (fun k => R.AXS_STAT k) ++ [R.PAD_XLATCH, R.PAD_MFLTM, R.PAD_MFLTC, R.PRE_STAT, R.PRE_MLSTAT,
      R.PRE_DRVFLT] ++ (List.range 4).map (fun g => R.DO_RBFLT g) ++ [R.SFN_STAT] ++
    (List.range 8).map (fun k => R.LOOP_LOSTAT k)).map s.rd

/-- MGT_HEALTH: the health report.  The words of R550 come first; behind them stand the attributions of R11 in the order of
`State.replicaWords`, which is the model's choice (DESIGN CHOICE, assumption 131). -/
def execMgtHealth (dt : Nat) (f : MgtFrame) (s : State) : Host.Outcome State Fault Refusal :=
  always dt s fun s => s.mgtOpen 0x02 f fun s =>
    let m (v : Nat) := if s.mainOn then v else 0
    s.mgtReply 0x02 0 mgOk (([b2n s.mainOn, b2n (s.bit R.MGT_STAT 3), m (s.rd R.TEN_PSTATE), m s.hlthOwn,
      m (s.rd R.RDN_HLTHPART), s.rd R.PWR_STAT, s.sys.kind, s.calNow / 32768 % 2 ^ 32,
      s.calNow / 32768 / 2 ^ 32] ++ s.replicaWords.map m).flatMap (bytesOf 4))

/-- MGT_NONCE: a fresh nonce of 16 bytes, valid for one command and 10 s (R552). -/
def execMgtNonce (dt : Nat) (f : MgtFrame) (s : State) : Host.Outcome State Fault Refusal :=
  always dt s fun s => s.mgtOpen 0x06 f fun s =>
    let a := s.draw 64
    let b := a.2.draw 64
    let n := bytesOf 8 a.1 ++ bytesOf 8 b.1
    { b.2 with mgt := { b.2.mgt with nonce := some (n, b.2.ticks) } }.mgtReply 0x06 0 mgOk n

/-- MGT_UNKNOWN_CMD: status BADCMD. -/
def execMgtUnknownCmd (dt : Nat) (cmd : Byte) (f : MgtFrame) (s : State) : Host.Outcome State Fault Refusal :=
  always dt s fun s =>
    let c := cmd.toNat
    if within 1 7 c || within 0x10 0x17 c then s
    else s.mgtFrame fun s => if f.pay.length ≤ 1024 then s.mgtReply c 0 mgBadcmd [] else s

/-- MGT_BAD_FRAME: a frame that is discarded (R549). -/
def execMgtBadFrame (dt : Nat) (why : MgtBad) (s : State) : Host.Outcome State Fault Refusal :=
  always dt s fun s =>
    if !(s.sys.standby && s.bit R.MGT_CTRL 0) then s
    else match why with
    | .crc => s.incSat R.MGT_CRCERR
    | .len => s.incSat R.MGT_CRCERR
    | .addr => s
    | .early => s.incSat R.MGT_OVERRUN

/-! ### Reads -/

/-- Registers of a page as Cricket reads them, in ascending order. -/
def State.readRegs (s : State) (p o : Nat) : Nat → List Nat × State
  | 0 => ([], s)
  | n + 1 =>
    let r := s.readRegs p o n
    let v := r.2.readReg .cricket p (o + 4 * n)
    (r.1 ++ bytesOf 4 v.1, v.2)

/-- MGT_READPAGE: `count` registers from an offset of a page (R547, R550, R555). -/
def execMgtReadpage (dt : Nat) (f : MgtFrame) (s : State) : Host.Outcome State Fault Refusal :=
  always dt s fun s => s.mgtRead 0x03 5 f fun slot num s =>
    let p := num 0 2
    let o := num 2 2
    let n := num 4 1
    if 512 ≤ p ∨ o % 4 ≠ 0 ∨ 4096 ≤ o ∨ !within 1 64 n then s.mgtReply 0x03 slot mgBadlen []
    else if 0xC00 < o + 4 * n then s.mgtReply 0x03 slot mgAction []
    else if !s.mainOn && !(p == 0x004 || p == 0x005 || p == 0x0CE || p == 0x0CF) then s.mgtReply 0x03 slot mgMainoff []
    else
      let r := s.readRegs p o n
      r.2.mgtData 0x03 slot f r.1

/-- MGT_READEVR: one event record; a number that is not held is out of range. -/
def execMgtReadevr (dt : Nat) (f : MgtFrame) (s : State) : Host.Outcome State Fault Refusal :=
  always dt s fun s => s.mgtRead 0x04 8 f fun slot num s =>
    if !s.mainOn then s.mgtReply 0x04 slot mgMainoff []
    else match s.findRec (num 0 8) with
    | some r => s.mgtData 0x04 slot f r.image
    | none => s.mgtReply 0x04 slot mgBadlen []

/-- MGT_READLIFE: up to 32 counter values. -/
def execMgtReadlife (dt : Nat) (f : MgtFrame) (s : State) : Host.Outcome State Fault Refusal :=
  always dt s fun s => s.mgtRead 0x05 2 f fun slot num s =>
    if !s.mainOn then s.mgtReply 0x05 slot mgMainoff []
    else if !within 1 32 (num 1 1) || decide (128 < num 0 1 + num 1 1) then s.mgtReply 0x05 slot mgBadlen []
    else s.mgtData 0x05 slot f ((List.range (num 1 1)).flatMap (fun i =>
      bytesOf 8 (if s.lifeKind (num 0 1 + i) = 0 then 0 else s.rd64 (R.LIFE_VAL (num 0 1 + i)))))

/-- Do `n` bytes from a DRAM offset lie in windows whose WnGRANT names P7? -/
def State.grant7 (s : State) (o n : Nat) : Bool :=
  (List.range n).all (fun i => match s.windowAt (o + i) with
    | some w => s.bit (R.MEM_WGRANT w) 7
    | none => false)

/-- MGT_READMEM: bytes of a DRAM window granted to P7; `ecc` is what the first
word's syndrome has changed by (R163, R178, R555). -/
def execMgtReadmem (dt : Nat) (f : MgtFrame) (ecc : Byte) (s : State) : Host.Outcome State Fault Refusal :=
  always dt s fun s => s.mgtCmd 0x07 11 f fun slot s =>
    let a := mgtNum f 1 8
    let n := mgtNum f 9 2
    if !within 1 256 n then s.mgtReply 0x07 slot mgBadlen []
    else if a < dramBase ∨ !s.grant7 (a - dramBase) n then s.mgtReply 0x07 slot mgDenied []
    else
      let o := a - dramBase
      let s := (s.upset (o / 8) ecc.toNat).dramRead o n 7 5 0 0x0102 0
      if s.poisoned o n then s.mgtReply 0x07 slot mgPoison []
      else
        let d := s.dramBytes o n
        { s.mgtAccept 0x07 slot with resp := .reply mgOk d }

/-! ### Requests (R556) -/

/-- MGT_PRESET: the reset of a partition is asked, or refused for one that is absent and for P7. -/
def execMgtPreset (dt : Nat) (f : MgtFrame) (s : State) : Host.Outcome State Fault Refusal :=
  always dt s fun s => s.mgtCmd 0x10 2 f fun slot s =>
    let n := mgtNum f 1 1
    if 7 < n then s.mgtReply 0x10 slot mgBadlen []
    else if n = 7 ∨ !s.present n then s.mgtRefuse 0x10 slot
    else (s.mgtAccept 0x10 slot).askReset n

/-- MGT_MRESET: a module reset of kind MGT after the reply. -/
def execMgtMreset (dt : Nat) (f : MgtFrame) (s : State) : Host.Outcome State Fault Refusal :=
  always dt s fun s => s.mgtCmd 0x11 1 f fun slot s => (s.mgtAccept 0x11 slot).shutdown rkMgt false

/-- MGT_RECOVERY: as MRESET, and the start enters recovery mode. -/
def execMgtRecovery (dt : Nat) (f : MgtFrame) (s : State) : Host.Outcome State Fault Refusal :=
  always dt s fun s => s.mgtCmd 0x12 1 f fun slot s =>
    let s := s.mgtAccept 0x12 slot
    s.shutdown rkRecovery false

/-- MGT_EVRCLEAR: the ARM or the CLEAR of R515. -/
def execMgtEvrclear (dt : Nat) (f : MgtFrame) (s : State) : Host.Outcome State Fault Refusal :=
  always dt s fun s => s.mgtCmd 0x13 2 f fun slot s =>
    if mgtNum f 1 1 = 1 then (s.mgtAccept 0x13 slot).clrArm
    else if mgtNum f 1 1 ≠ 2 then s.mgtReply 0x13 slot mgBadlen []
    else if s.clrArmed then (s.mgtAccept 0x13 slot).clrStart 7
    else (s.err 0x0C8 7 0x0102 R.EVR_CLRCMD).mgtReply 0x13 slot mgRefused [0x02]

/-- MGT_PRIMREL: the release of primacy; NOT_HELD and NOT_READY give REFUSED. -/
def execMgtPrimrel (dt : Nat) (f : MgtFrame) (s : State) : Host.Outcome State Fault Refusal :=
  always dt s fun s => s.mgtCmd 0x14 1 f fun slot s =>
    let t := s.askRelease 7
    if s.prim ≠ prHeld then t.mgtReply 0x14 slot mgRefused [0x02]
    else if !(s.rdn.hbSeen && nb s.rdn.word 0) then t.mgtReply 0x14 slot mgRefused [0x01]
    else t.mgtAccept 0x14 slot

/-- MGT_WAKE: starts the main domain from off; with the main domain on it is refused, unless the sequence of SLEEP runs
(R547, R556, R606). -/
def execMgtWake (dt : Nat) (f : MgtFrame) (s : State) : Host.Outcome State Fault Refusal :=
  always dt s fun s => s.mgtFrame fun s =>
    if f.pay.length ≠ 1 then s.mgtReply 0x15 0 mgBadlen []
    else s.mgtAuth 0x15 (mgtNum f 0 1) f fun s =>
      if s.mainOn && !(s.sys.down.map (·.sleep)).getD false then s.mgtRefuse 0x15 (mgtNum f 0 1)
      else { s.mgtAccept 0x15 (mgtNum f 0 1) with sys := { s.sys with wake := true } }.clockFree

/-- MGT_SETKEY: a key and its mask for a slot; a key of zeros empties it (R554). -/
def execMgtSetkey (dt : Nat) (f : MgtFrame) (s : State) : Host.Outcome State Fault Refusal :=
  always dt s fun s => s.mgtCmd 0x16 38 f fun slot s =>
    let k := mgtNum f 1 1
    let key := ((mgtBytes f).drop 2).take 32
    let mask := mgtNum f 34 4
    let empty := key.all (fun b => b == 0)
    if 3 < k ∨ mask &&& 0xFF00FF01 ≠ 0 then s.mgtReply 0x16 slot mgBadlen []
    else
      let s := { s with mgt := { s.mgt with keys := tabIns (tabDel s.mgt.keys k) k (if empty then [] else key) } }
      let s := (s.putBit R.MGT_KEYSTAT k !empty).wr (if k = 0 then R.MGT_KEYACL0 else R.MGT_KEYACL (k - 1))
        (if empty then 0 else mask)
      s.mgtAccept 0x16 slot

/-- MGT_CLOSE: the field-closure fuse is blown, and CLOSED shows it at once; for 50 ms a reset may still leave it intact
(`State.fuseCut`, R557). -/
def execMgtClose (dt : Nat) (f : MgtFrame) (s : State) : Host.Outcome State Fault Refusal :=
  always dt s fun s => s.mgtCmd 0x17 5 f fun slot s =>
    if mgtNum f 1 4 ≠ 0x434C4F53 then s.mgtReply 0x17 slot mgBadlen []
    else
      let s := ((s.mgtAccept 0x17 slot).putBit R.SYS_FUSESTAT 1 true).putBit R.MGT_STAT 2 true
      { s with mgt := { s.mgt with closeTick := some s.ticks } }

/-! ### Lockout, held resets, counters -/

/-- AUTHLOCK_END: 60 s after the third failure. -/
def execAuthlockEnd (dt : Nat) (s : State) : Host.Outcome State Fault Refusal :=
  always dt s fun s =>
    match s.mgt.lockTick with
    | some t =>
      if s.secSince t 60 then { s.putBit R.MGT_STAT 1 false with mgt := { s.mgt with lockTick := none } } else s
    | none => s

/-- RESET_HELD: RSTIN_N has been low for 10 s or more; RSTHELD counts the seconds (R548). -/
def execResetHeld (dt : Nat) (s : State) : Host.Outcome State Fault Refusal :=
  always dt s fun s =>
    if s.sys.standby && s.sys.rstin && decide (10 ≤ s.rstinSecs) then
      { (s.putBit R.MGT_STAT 3 true).wr R.MGT_RSTHELD s.rstinSecs with mgt := { s.mgt with held := true } }
    else s

/-- MGT_CNTCLR: clear the counters of page 0x0CF. -/
def execMgtCntclr (dt : Nat) (who : Init) (v : Word) (s : State) : Host.Outcome State Fault Refusal :=
  always dt s fun s =>
    if !s.sys.standby then s
    else s.cmdW who 0x0CF 0xC00 fun _ => onOne v fun s =>
      s.zero [R.MGT_RXFRM, R.MGT_CRCERR, R.MGT_OVERRUN, R.MGT_AUTHOKCNT, R.MGT_AUTHFAILCNT, R.MGT_DENYCNT]

/-- A commit of an MGT page takes effect as it stands. -/
def State.mgtCheck (_s : State) (_p : Nat) : Verdict := .ok

end Sys2Proof.Machine
end

