-- ==== Sys2Proof/Machine/Commit.lean ====
section
/-! DEFINITION. Applying a page commit: the check of the shadows against every table and range, and what each block does when
they became active (R54 to R57). -/
namespace Sys2Proof.Machine

/-- The check of an EVF page: a source that another EVF page enables is taken (R633). -/
def State.evfCheck (s : State) (p : Nat) : Verdict :=
  let taken := (List.range 276).any (fun k =>
    s.shBit (R.EVF_ROUTE (p - 0x00C) k) 31 &&
      (List.range 8).any (fun m => m != p - 0x00C && s.bit (R.EVF_ROUTE m k) 31))
  if taken then .coded 0x0101 else .ok

/-- The ranges of EVR and LIFE (R526, R527). -/
def State.recCheck (s : State) (p : Nat) : Verdict :=
  if p = 0x0C8 then rangeIf (within 10 60000 (s.shFld R.EVR_FLUSHIVL 15 0))
  else if p = 0x0CA then rangeIf (within 1 600 (s.shFld R.LIFE_LIFESAVE 9 0))
  else .ok

/-- Step 2 of R54 for page `p`, as one of the pages `g` that are applied together. -/
def State.pageCheck (s : State) (g : List Nat) (p : Nat) : Verdict :=
  match blockOf p with
  | none => .ok
  | some (code, _) =>
    match code with
    | 0x02 => s.pwrCheck p
    | 0x04 => s.evfCheck p
    | 0x05 => s.triCheck p
    | 0x06 => s.memCheck p
    | 0x07 => s.cycCheck p
    | 0x08 => s.axsCheck g p
    | 0x09 => s.tmbCheck p
    | 0x0A => s.padCheck g p
    | 0x0B => s.preCheck g p
    | 0x0C => s.drcCheck p
    | 0x0D => s.sarCheck p
    | 0x0E => s.dioCheck p
    | 0x0F => s.sfnCheck g p
    | 0x10 => s.loopCheck p
    | 0x11 => s.canCheck g p
    | 0x12 => s.ethCheck p
    | 0x13 => s.gwyCheck g s.gwyReads.contains p
    | 0x14 => s.hrbCheck g p
    | 0x15 => s.recCheck p
    | 0x16 => s.recCheck p
    | 0x18 => s.mgtCheck p
    | 0x19 => s.rdnCheck p
    | 0x1A => s.pmcCheck p
    | _ => .ok

/-- What the block of page `p` does when its shadows became active; `old` is the state before. -/
def State.pageApplied (s old : State) (p : Nat) : State :=
  match blockOf p with
  | none => s
  | some (code, _) =>
    match code with
    | 0x06 => s.memApplied p
    | 0x07 => s.cycApplied old p
    | 0x08 =>
      let s := s.axsApplied old p
      if 0x041 ≤ p ∧ p ≤ 0x048 then s.padAxis (p - 0x041) else s
    | 0x09 => s.tmbApplied old p
    | 0x0A => s.padApplied old p
    | 0x0B => s.preApplied old p
    | 0x0C => s.drcApplied old p
    | 0x0D => s.sarApplied old p
    | 0x0E => s.dioApplied old p
    | 0x0F => s.sfnApplied old p
    | 0x10 => s.loopApplied old p
    | 0x11 => (s.canApplied old p).gwyCan old p
    | 0x12 => s.ethApplied old p
    | 0x13 => s.gwyApplied old p
    | 0x14 => s.hrbApplied old p
    | 0x19 => s.rdnEval
    | _ => s

/-- What must be settled before the shadows of a page become active: the counters of PMC. -/
def State.pageBefore (s : State) (p : Nat) : State :=
  if 0x0D4 ≤ p ∧ p ≤ 0x0D7 ∧ s.hasTriad (p - 0x0D4) then s.pmcAdvance (p - 0x0D4) else s

/-- A refusal: the shadows keep what was written (R55). -/
def State.refuseCommit (s : State) (p : Nat) (v : Verdict) : State :=
  let n := (s.owner p).getD 0
  let r (s : State) (reason table : Nat) := (s.setPend p {}).endCmtstat p 3 reason table
  match v with
  | .ok => r s rGroup 0
  | .table c => r s rTable c
  | .range => r s rRange 0
  | .coded c => (r s rRange 0).err p n c (hCmt p)
  | .codedAt c a => (r s rRange 0).errAt p n c a
  | .codedOpen c => (r s rRange 0).errOpen p n c

/-- The pages that take effect together with page `p`: the MODE 3 group of its owner, or `p` alone (R53, R56). -/
def State.commitGroup (s : State) (p : Nat) : List Nat :=
  if (s.pend p).mode = 3 then
    s.armedPages.filter (fun q => s.owner q == s.owner p && (s.pend q).mode == 3 && (s.pend q).t0.isSome)
  else [p]

/-- Steps 3 and 4 of R54 on every page of a group: the shadows become active in one tick, GEN counts, and the blocks
act. -/
def State.applyGroup (s : State) (g : List Nat) : State :=
  let old := forL g (fun p t => t.pageBefore p) s
  let t := forL g (fun p t => ((t.dropShadows p).setPend p {}).endCmtstat p 2 0 0 |>.incWrap (hGen p)) (old.taken g)
  forL g (fun p t => t.pageApplied old p) t

/-- Does a descriptor page wait for a lower one that is due in the same tick, outside a group: they are checked in ascending
page order (R105)? -/
def State.descWaits (s : State) (p : Nat) : Bool :=
  decide (0x04B ≤ p) && decide (p ≤ 0x04D) && (s.pend p).mode != 3 &&
    (List.range (p - 0x04A)).any (fun i =>
      let c := s.pend (0x04A + i)
      s.isPending (0x04A + i) && c.armed && c.mode != 3 && c.t0 == (s.pend p).t0 && !s.ownerHalted (0x04A + i))

/-- PAGE_COMMIT_APPLY: the boundary of the pending commit of page `p` has come; it is applied, with its whole group, or
refused (R54 to R57); that of an owner whose triad is HALTED waits (R58). -/
def execPageCommitApply (dt : Nat) (p : Fin 512) (s : State) : Host.Outcome State Fault Refusal :=
  onMain dt s fun s =>
    let c := s.pend p.val
    if !(s.isPending p.val && c.armed && c.t0.isSome) || s.ownerHalted p.val || s.descWaits p.val then s
    else
      let g := s.commitGroup p.val
      if g.all (fun q => s.pageCheck g q == .ok) then s.applyGroup g
      else forL g (fun q t => t.refuseCommit q (s.pageCheck g q)) s

end Sys2Proof.Machine
end

