-- ==== Sys2Proof/Machine/Time.lean ====
section
/-! DEFINITION. A step of module time and what goes with it (R453). -/
namespace Sys2Proof.Machine

/-- Instants that CYC has fixed move with the step, so that intervals keep their length (R453). -/
def State.cycMove (s : State) (d : Int) : State :=
  forN 6 (fun n t =>
    let c := t.cy n
    t.setCy n { c with base := movedBy d c.base, tready := c.tready.map (movedBy d) }) s

/-- What SFN has placed on the scale of module time moves with it; stamps stay (R453). -/
def State.sfnMove (s : State) (d : Int) : State :=
  let s := forN 48 (fun i t =>
    let x := t.di i
    t.setDi i { x with hist := x.hist.map (fun e => (movedBy d e.1, e.2)), shift := if x.chg.isSome then x.shift + d else 0 }) s
  let s := forN 16 (fun f t =>
    let x := t.sfnFn f
    t.setSfnFn f { x with lockInst := movedBy d x.lockInst, from_ := movedBy d x.from_ }) s
  { s with sfn := { s.sfn with
      evalInst := movedBy d s.sfn.evalInst
      press := s.sfn.press.map (fun p => (p.1, movedBy d p.2.1, movedBy d p.2.2)) } }

/-- PWM carriers and test-pulse periods resume at the next multiple (R351, R354). -/
def State.dioStep (s : State) : State :=
  let s := forN 4 (fun g t => t.setDoGrp g { t.doGrp g with
    pwm := Period.resume (t.pwmPer g) t.moduleTime, perAt := 0, tp := Period.resume (t.tpPer g) t.moduleTime }) s
  forN 32 (fun k t => t.setDoCh k { t.doCh k with pulsed := 0 }) s

/-- TIME_STEP: the step that waits longest takes effect at its tick: module time moves, network-time axes are stepped,
fixed instants move along, and what follows multiples of module time resumes at the next one (R453). -/
def execTimeStep (dt : Nat) (s : State) : Host.Outcome State Fault Refusal :=
  onMain dt s fun s =>
    match s.tmb.steps with
    | [] => s
    | (d, due) :: rest =>
      if s.ticks < due then s
      else
        let s := s.setTmb { s.tmb with steps := rest }
        let s := forN 8 (fun k t => t.axTimeStep k d) (s.timeMove d)
        let s := s.record 0x09 0x0001 1 0x050 s.moduleTime [toBits 64 d % 2 ^ 32, toBits 64 d / 2 ^ 32]
        ((((((s.cycMove d).sfnMove d).dioStep).sarStep).loopStep.canStep d).ethStep).hrbStep

end Sys2Proof.Machine
end

