-- ==== Sys2Proof/Machine/Reset.lean ====
section
/-! DEFINITION. Partition resets: what returns to its reset value and what R30 leaves, the restart of the triad and the
reinstalled image (R30, R31, R58, R149, R189, R202, R207). -/
namespace Sys2Proof.Machine

/-! ### What is kept (R30, assumption 79) -/

/-- Status registers that show at every instant a condition which the reset of a page's owner does not end: the boot
stage, the time state and its rate (R448), levels at terminals, supplies and links, the session of UPD with its nonce, whose
ends R566 lists, the schedule that R568 keeps, and primacy, on which the outputs of other partitions rest. -/
def liveReg (x : Nat) : Bool :=
  [R.SYS_BOOTSTAT, R.MEM_STAT, R.TMB_STAT, R.TMB_RATE, R.TMB_RATE + 4, R.DIO_LEV, R.DIO_LEV + 4, R.DIO_RAW, R.DIO_RAW + 4,
    R.PWR_STAT, R.PWR_TSSTAT, R.ETH_STAT, R.ETH_PSTAT 0, R.ETH_PSTAT 1, R.ETH_PSTAT 2, R.ETH_PSTAT 3, R.UPD_STAT,
    R.UPD_SESSNONCE 0, R.UPD_SESSNONCE 1, R.UPD_SESSNONCE 2, R.UPD_SESSNONCE 3, R.UPD_ACTSTAT,
    R.RDN_STAT].contains x

/-- Does a register keep its value at a partition reset of its page's owner? -/
def State.resetKeeps (s : State) (x : Nat) : Bool :=
  let p := x / 4096
  let o := x % 4096
  o == 0x00C || (decide (0x040 ≤ p) && decide (p ≤ 0x04F)) || liveReg x ||
  (match rowOf x with
   | none => true
   | some r =>
     r.keep || (decide (r.acc = .rwl) && s.bit (hLock p) 0) ||
     (decide (r.acc = .ro) && decide (0x020 ≤ p) && decide (p ≤ 0x027) && (o == 0x014 || decide (0x040 ≤ o))) ||
     (p == 0x097 && decide (0x040 ≤ o)))

/-- Is a register one that a program or the start sequence configures? -/
def configReg (x : Nat) : Bool :=
  match rowOf x with
  | some r => decide (r.acc = .rw) || decide (r.acc = .rws) || decide (r.acc = .rwl)
  | none => false

/-- Does R30 keep a register of the page other than OWNER and LOCK (R58)? -/
def State.pageKeeps (s : State) (p : Nat) : Bool :=
  (decide (0x020 ≤ p) && decide (p ≤ 0x027)) || (decide (0x040 ≤ p) && decide (p ≤ 0x04F)) ||
  (decide (0x093 ≤ p) && decide (p ≤ 0x097)) ||
  (pageRows p).any (fun r => r.keep || (decide (r.acc = .rwl) && s.bit (hLock p) 0))

/-- The pages that partition `n` owns. -/
def State.ownedPages (s : State) (n : Nat) : List Nat :=
  (List.range 512).filter (fun p => (blockOf p).isSome && s.ownMask p == 2 ^ n)

/-! ### The blocks behind the pages -/

/-- Put the state of the block behind page `p` back, once its registers have been.  The 3,600 s window of R185 and its mark
go on (DESIGN CHOICE, assumption 136). -/
def State.blockReset (s : State) (p : Nat) : State :=
  match blockOf p with
  | none => s
  | some (code, b) =>
    match code with
    | 0x06 =>
      if p = 0x028 then s.memApplied p
      else if p = 0x02A then { s with mem := { s.mem with passStart := s.ticks, scrubPer := s.fld R.MEM_SCRUBPER 16 0 } }
      else if p = 0x02B then { s with mem := { s.mem with elog := [] } }
      else s
    | 0x09 => if p = 0x051 then s.setTmb { s.tmb with pulses := 0, watch := false } else s
    | 0x0A => if p = 0x064 then { s with pad := { s.pad with grab := false } }
      else if p = 0x067 then { s with pad := { s.pad with cap := none } } else s
    | 0x0B => if p = 0x068 then s.preReset else s
    | 0x0C => if p = 0x080 then s.drcReset else s
    | 0x0D => if p % 2 = 0 then s.sarReset ((p - b) / 2) else s
    | 0x0E => if p = 0x092 then { s with dio := { s.dio with eq := [], eqDrop := 0 } } else s
    | 0x0F => if p = 0x098 then { s with sfn := { evalTick := s.sfn.evalTick } } else s
    | 0x10 => if p = 0x09C then { s with loop := { scanNo := s.loop.scanNo, endTick := s.loop.endTick } } else s
    | 0x11 => if p % 4 = 0 then s.canReset ((p - b) / 4) else s
    | 0x12 => s.ethReset p
    | 0x13 => if p = 0x0C0 then s.gwyReset else s
    | 0x14 => s.hrbReset p
    | 0x15 => if p = 0x0C9 then { s with evr := { s.evr with rd := none } } else s
    | 0x1A => s.pmcReset (p - b)
    | _ => s

/-- Bits of registers that show the gates, the hold of SAR3 by an enabled LOOP (R321), a group latch, fenced Mantis lanes (R285),
the calibration of the fuses and a flush that runs. -/
def State.standing (s old : State) (ps : List Nat) : State :=
  let s := forN 4 (fun g t =>
    if ps.contains (0x093 + g) then
      (t.putFld (R.DO_STAT g) 3 1 (old.fld (R.DO_STAT g) 3 1)).putBit (R.DO_STAT g) 6 (!t.rdn.gates) else t) s
  let s := if ps.contains 0x09C then s.putBit R.LOOP_STAT 2 (!s.rdn.gates) else s
  let s := if ps.contains 0x08E then s.putBit (R.SAR_STAT 3) 6 s.loopOn else s
  let s := if ps.contains 0x074 then
      forN 3 (fun l t => if old.fld R.PRE_MLSTAT (4 * l + 3) (4 * l) = 4 then t.setMlane l 4 else t) s.mcount else s
  let s := if ps.contains 0x0B0 then s.putBit R.ETH_STAT 8 (old.bit R.ETH_STAT 8) else s
  let s := if ps.contains 0x060 then s.putBit R.PAD_STAT 4 (old.bit R.PAD_STAT 4) else s
  let s := if ps.contains 0x0C8 then s.putBit R.EVR_STAT 1 (old.bit R.EVR_STAT 1) else s
  (forN 4 (fun c t => t.canGate c) s).hrbGate.outStat.gwyWatch

/-- Every register of the pages `ps` returns to its reset value but for what R30 keeps.  Each block first acts as on an
applied commit of the reset values. -/
def State.pagesReset (s : State) (ps : List Nat) : State :=
  let old := s
  let s := forL ps (fun p t =>
    if t.isPending p && t.pageKeeps p then t.discard p rAborted else (t.dropShadows p).setPend p {}) s
  let s := { s with regs := s.regs.filter (fun e => !(ps.contains (e.1 / 4096) && configReg e.1 && !old.resetKeeps e.1)) }
  let s := forL ps (fun p t => if 0x040 ≤ p ∧ p ≤ 0x04F then t else t.pageApplied old p) s
  let aborted (x : Nat) : Bool :=
    x % 4096 == 0x034 && old.isPending (x / 4096) && old.pageKeeps (x / 4096)
  let s := { s with
    regs := s.regs.filter (fun e => !(ps.contains (e.1 / 4096) && !old.resetKeeps e.1 && !aborted e.1)) }
  (forL ps (fun p t => t.blockReset p) s).standing old ps

/-! ### The reset (R30, R31) -/

/-- Is a commit of partition `n` in progress: a cycle commit that has been taken, or a page commit past its boundary, which
the reset of a HALTED triad discards instead (R58)? -/
def State.commitRuns (s : State) (n : Nat) : Bool :=
  (decide (n < 6) && (s.cy n).staged.isSome) || s.armedPages.any (fun p => s.owns n p && (s.pend p).t0.isSome && !s.ownerHalted p)

/-- Initiators of partition `n`, by their codes. -/
def State.partInits (s : State) (n : Nat) : List Nat :=
  ((List.range 4).filter (fun t => s.partOfTriad t == some n)) ++
  ((List.range 8).filter (fun k => s.partOfLane (k / 2) (k % 2) == some n)).map (fun k => 4 + k)

/-- The engine of partition `n` is emptied: no image, no cycle, and no D-section. -/
def State.cycEmpty (s : State) (n : Nat) : State :=
  if 6 ≤ n then s
  else
    let s := (s.useImage n none).setCy n {}
    let dead := s.partInits n
    { s with
      cyc := { s.cyc with dsec := nputb s.cyc.dsec n false }
      mem := { s.mem with resv := s.mem.resv.filter (fun e => !dead.contains e.1) } }

/-- The voted triad of partition `n` goes into reset: what it waited for is gone (R149, R160). -/
def State.triHold (s : State) (n : Nat) : State :=
  match s.triadOf n with
  | some t => (s.setTriT t { stBit := (s.triT t).stBit }).putFld (R.TRI_STAT t) 4 0 tmStarting
  | none => s

/-- The reset of partition `n`: retained save, safe values, pages, vectors and engine (R30, R202, R207). -/
def State.partReset (s : State) (n : Nat) : State :=
  let s := { s with ten := { s.ten with
    resetReq := tabSet 0 s.ten.resetReq n 0, halted := nputb s.ten.halted n false } }
  let s := if n < 6 then ((s.dropCycle n).retSave n true).outputsSafe n else s
  let s := (s.hrbPartReset n).cycEmpty n
  let s := s.pagesReset (s.ownedPages n)
  ((s.triHold n).setPstate n psResetting).rdnEval

/-! ### Starting a partition (R149, R189) -/

/-- REASON * 256 + TABLE in CMTSTAT after a load commit; the image of the active slot becomes the program of partition
`n`, or the commit is refused (R189, R213). -/
def State.installImage (s : State) (n : Nat) : State :=
  match tabFind s.upd.parts (8 * s.slotActive + n) with
  | none => s
  | some b =>
    let i := imgParse b
    let p := cycPage n
    match firstVerdict (s.imgCheck n i false) (rangeIf (s.mapOwned n i)) with
    | .ok =>
      let s := if (s.windowOf n kDcode).isSome then s.winPut n kDcode 0 (b.take (s.winSize n kDcode)) else s
      let s := ((s.useImage n (some i)).srcStart.orphans n).sinksSafe n
      ((s.incWrap (hGen p)).setCmtstat p 2 0 0).setCycState n cyStopped
    | v => s.setCmtstat p 3 (verdictCode v / 256) (verdictCode v % 256)

/-- May the program of partition `n` start now: those of TAKESET wait for primacy in a paired module (R529, R530)? -/
def State.mayStart (s : State) (n : Nat) : Bool := !(s.paired && s.takeSet.contains n) || s.prim == prHeld

/-- The windows are written in full, then CTRL from the boot configuration, the image, and the start by STARTPOL (R179, R189,
R221). -/
def State.loadPart (s : State) (n : Nat) : State :=
  let s := ((s.winClear n).wr (R.CYC_CTRL n) (tabGet 0 s.cyc.bootCtl n)).installImage n
  if s.mayStart n then s.cycBegin n else s

/-- BOOTSTAT names a triad that cannot run (R149, R611). -/
def State.nameTriad (s : State) (t : Nat) : State := (s.putFld R.SYS_BOOTSTAT 15 8 0x09).putFld R.SYS_BOOTSTAT 23 16 t

/-- The triad of partition `n` stays halted, and with it the partition; its CYC page is IDLE (R149, R189). -/
def State.partStuck (s : State) (n t : Nat) : State :=
  let s := if (s.openLanes t).length < 2 then s.nameTriad t else s
  let s := { s with ten := { s.ten with halted := nputb s.ten.halted n true } }
  (s.setPstate n psHalted).relHalted n

/-- Partition `n` starts running: RUNNING, or DEGRADED with its triad in 2oo2 (R37, R149). -/
def State.partRun (s : State) (n : Nat) : State :=
  let s := if n < 6 then s.loadPart n else s
  let code := match s.triadOf n with
    | some t => if s.triMode t = tm2oo2 then psDegraded else psRunning
    | none => if n = 6 ∧ !s.host.up then psLinkdown else psRunning
  if s.pstate n = psHalted then s else s.setPstate n code

/-- The end of a reset of partition `n`: its triad restarts when both halves pass their run (R138, R149). -/
def State.partRestart (s : State) (n : Nat) (h1 h2 : Bool) : State :=
  match s.triadOf n with
  | some t =>
    let r := s.triRestart t h1 h2
    if r.2 then (r.1.setPstate n psStarting).partRun n else r.1.partStuck n t
  | none => (s.setPstate n psStarting).partRun n

/-- PARTITION_RESET: the first delivery after an accepted request is the reset, once no commit of the partition is in
progress; the next one ends it, with the results of the voter halves `h1` and `h2` (R31, R149, assumption 80). -/
def execPartitionReset (dt : Nat) (n : Fin 8) (h1 h2 : Bool) (s : State) : Host.Outcome State Fault Refusal :=
  onMain dt s fun s =>
    let n := n.val
    if tabGet 0 s.ten.resetReq n ≠ 0 then (if s.commitRuns n then s else s.partReset n)
    else if s.pstate n = psResetting then s.partRestart n h1 h2
    else s

end Sys2Proof.Machine
end

