-- ==== Sys2Proof/Machine/Bus.lean ====
section
/-! DEFINITION. LANE_MEMORY_ACCESS: one access to the physical address space, decoded, checked, voted and performed (R19 to
R23, R43, R45, R59, R66 to R75, R172, R178). -/
namespace Sys2Proof.Machine

/-! ### The register space -/

/-- The next state of an outcome, or the state itself. -/
def State.after (s : State) (r : Host.Outcome State Fault Refusal) : State :=
  match r with
  | .next t => t
  | _ => s

/-- Numbers as operands. -/
def fin4 (n : Nat) : Fin 4 := Fin.ofNat 4 n
def fin6 (n : Nat) : Fin 6 := Fin.ofNat 6 n
def fin8 (n : Nat) : Fin 8 := Fin.ofNat 8 n
def fin128 (n : Nat) : Fin 128 := Fin.ofNat 128 n
def fin512 (n : Nat) : Fin 512 := Fin.ofNat 512 n
def fin1024 (n : Nat) : Fin 1024 := Fin.ofNat 1024 n

/-- A load from a register whose read has a side effect, as its own command (R8 RC). -/
def State.readCmd (s : State) (who : Init) (p o : Nat) : Option (Host.Outcome State Fault Refusal) :=
  if p = 0x00B ∧ o = 0xC00 then some (execDenypop 0 who s)
  else if p = 0x092 ∧ 0xC00 ≤ o ∧ o < 0xC18 then some (execEqpop 0 who (fin6 ((o - 0xC00) / 4)) s)
  else if 0x0A0 ≤ p ∧ p ≤ 0x0AF ∧ p % 4 = 0 ∧ o = 0xC0C then some (execTxtspop 0 who (fin4 ((p - 0x0A0) / 4)) s)
  else if p = 0x0B8 ∧ o = 0xC00 then some (execTspop 0 who s)
  else if 0x0D4 ≤ p ∧ p ≤ 0x0D7 ∧ o = 0xC04 then some (execSbpop 0 who (fin4 (p - 0x0D4)) s)
  else if 0x0D4 ≤ p ∧ p ≤ 0x0D7 ∧ o = 0xC08 then some (execWvpop 0 who (fin4 (p - 0x0D4)) s)
  else none

/-- A load from the register space. -/
def State.regLoad (s : State) (who : Init) (p o : Nat) : State :=
  match s.readCmd who p o with
  | some r => s.after r
  | none => s.cmdR who p o fun _ s =>
      let r := s.readReg who p o
      { r.2 with resp := .data r.1 }

/-- A store to a register of the common header or to the TEN tables, as the command it is. -/
def State.headCmd (s : State) (who : Init) (p o : Nat) (v : Word) (ext : BitVec 48) : Option (Host.Outcome State Fault Refusal) :=
  let w := v.toNat
  if o = 0x008 then some (execOwnerWrite 0 who (fin512 p) v s)
  else if o = 0x00C ∧ nb w 0 then some (execLockWrite 0 who (fin512 p) v s)
  else if o = 0x024 then some (execEvackWrite 0 who (fin512 p) v (ext.setWidth 32) s)
  else if o = 0x030 ∧ nb w 9 then some (execCmtAbort 0 who (fin512 p) v s)
  else if o = 0x030 ∧ nb w 8 then some (execCmtGo 0 who (fin512 p) v s)
  else if o = 0xFFC then some (execErrclrWrite 0 who (fin512 p) v s)
  else if p = 0x008 ∧ o = 0xC00 then some (execPresetWrite 0 who v s)
  else if p = 0x009 ∧ 0x040 ≤ o ∧ o < 0x240 then some (execOwnkWrite 0 who (fin128 ((o - 0x040) / 4)) v s)
  else if p = 0x00A ∧ 0x040 ≤ o ∧ o < 0x240 then some (execGrantkWrite 0 who (fin128 ((o - 0x040) / 4)) v s)
  else none

/-- Stores to the action registers of SYS, MEM, TRI, CYC, AXS and TMB. -/
def State.coreCmd (s : State) (who : Init) (p o : Nat) (v : Word) : Option (Host.Outcome State Fault Refusal) :=
  let w := v.toNat
  if p = 0x001 ∧ o = 0xC00 then
    some (if nf w 1 0 = 2 then execSyscmdSleep 0 who v s else execSyscmdMreset 0 who v s)
  else if p = 0x002 ∧ o = 0xC00 then some (execFusecmdRevoke 0 who v s)
  else if p = 0x02A ∧ o = 0xC00 then some (execMemCntclr 0 who v s)
  else if p = 0x02B ∧ o = 0xC00 then some (execElnext 0 who v s)
  else if 0x020 ≤ p ∧ p ≤ 0x027 ∧ o = 0xC00 then
    some (if p % 2 = 0 then execLanecmdFence 0 who (fin4 ((p - 0x020) / 2)) v s
      else execStnow 0 who (fin4 ((p - 0x020) / 2)) v s)
  else if 0x030 ≤ p ∧ p ≤ 0x035 ∧ o = 0xC00 then
    let n := fin6 (p - 0x030)
    some (match nf w 3 0 with
      | 2 => execStartWarm 0 who n v s
      | 3 => execStop 0 who n v s
      | 4 => execChgload 0 who n v s
      | 5 => execChgarm 0 who n v s
      | 6 => execChgabort 0 who n v s
      | 7 => execGroupcmt 0 who n v s
      | _ => execStartCold 0 who n v s)
  else if 0x030 ≤ p ∧ p ≤ 0x035 ∧ o = 0xC04 then some (execCycCntclr 0 who (fin6 (p - 0x030)) v s)
  else if 0x041 ≤ p ∧ p ≤ 0x048 ∧ o = 0xC00 then some (execAxisCapture 0 who (fin8 (p - 0x041)) v s)
  else if 0x041 ≤ p ∧ p ≤ 0x048 ∧ o = 0xC04 then some (execFixgo 0 who (fin8 (p - 0x041)) v s)
  else if p = 0x04F ∧ o = 0xC00 then some (execSeclr 0 who v s)
  else if p = 0x050 ∧ o = 0xC00 then some (execOfsgo 0 who v s)
  else if p = 0x051 ∧ o = 0xC00 then some (execTmbCapgo 0 who v s)
  else if p = 0x053 ∧ o = 0xC00 then some (execRestep 0 who v s)
  else none

/-- Stores to the action registers of PAD, PRE, DRC, SAR, DIO, SFN and LOOP.  `ext` says what the command finds outside:
channels whose error is gone, outputs that agree, currents below their limit. -/
def State.ioCmd (s : State) (who : Init) (p o : Nat) (v : Word) (ext : BitVec 48) : Option (Host.Outcome State Fault Refusal) :=
  let w := v.toNat
  if p = 0x064 ∧ o = 0xC00 then some (execLivegrab 0 who v s)
  else if p = 0x065 ∧ o = 0xC00 then some (execXclr 0 who v ext s)
  else if p = 0x067 ∧ o = 0xC00 then some (execPadCapgo 0 who v s)
  else if p = 0x068 ∧ o = 0xC00 then some (execPreCntclr 0 who v s)
  else if p = 0x06A ∧ o = 0xC00 then some (execOuttest 0 who v s)
  else if p = 0x06A ∧ o = 0xC04 then some (execPreOutCntclr 0 who v s)
  else if p = 0x06A ∧ o = 0xC08 then some (execWearclr 0 who v s)
  else if p = 0x074 ∧ o = 0xC00 then some (execMlcmd 0 who v s)
  else if p = 0x075 ∧ o = 0xC00 then
    some (if nf w 1 0 = 2 then execGrpcmdUnseal 0 who v s else execGrpcmdSeal 0 who v s)
  else if p = 0x080 ∧ o = 0xC00 then some (execTrgnow 0 who v s)
  else if p = 0x080 ∧ o = 0xC04 then some (execDrcCntclr 0 who v s)
  else if p = 0x082 ∧ o = 0xC00 then
    some (match nf w 1 0 with
      | 1 => execExpcmdHdr 0 who v s
      | 2 => execExpcmdDat 0 who v s
      | _ => execExpcmdCfg 0 who v s)
  else if p = 0x082 ∧ o = 0xC04 then
    some (match nf w 2 0 with
      | 2 => execArcmdUnprotect 0 who v s
      | 3 => execArcmdDelete 0 who v s
      | 4 => execArcmdRelease 0 who v s
      | 5 => execArcmdRetry 0 who v s
      | _ => execArcmdProtect 0 who v s)
  else if 0x088 ≤ p ∧ p ≤ 0x08F ∧ p % 2 = 0 ∧ 0xC00 ≤ o ∧ o ≤ 0xC0C then
    let c := fin4 ((p - 0x088) / 2)
    if o = 0xC00 then some (execConvreq 0 who c v s)
    else if o = 0xC04 then some (if nf w 1 0 = 2 then execSeqcmdStop 0 who c v s else execSeqcmdGo 0 who c v s)
    else if o = 0xC08 then some (execSarCntclr 0 who c v s)
    else some (execChkclr 0 who c v s)
  else if 0x093 ≤ p ∧ p ≤ 0x096 ∧ o = 0xC00 then some (execDioFltclr 0 who (fin4 (p - 0x093)) v (ext.setWidth 8) s)
  else if p = 0x097 ∧ o = 0xC00 then some (execLogclr 0 who v s)
  else if p = 0x098 ∧ o = 0xC00 then some (execSfnFltclr 0 who v s)
  else if p = 0x09C ∧ o = 0xC00 then some (execLoopFltclr 0 who v (ext.setWidth 8) s)
  else if p = 0x09C ∧ o = 0xC04 then some (execLoopCntclr 0 who v s)
  else none

/-- Stores to the action registers of CAN, ETH, GWY, HRB, EVR, LIFE, UPD, MGT, RDN and PMC. -/
def State.netCmd (s : State) (who : Init) (p o : Nat) (v : Word) : Option (Host.Outcome State Fault Refusal) :=
  let w := v.toNat
  if 0x0A0 ≤ p ∧ p ≤ 0x0AF ∧ p % 4 = 0 ∧ 0xC00 ≤ o ∧ o ≤ 0xC10 then
    let c := fin4 ((p - 0x0A0) / 4)
    if o = 0xC00 then some (execCancmdRecover 0 who c v s)
    else if o = 0xC04 then
      some (match nf w 1 0 with
        | 2 => execTxcmdCancel 0 who c v s
        | 3 => execTxcmdLoad 0 who c v s
        | _ => execTxcmdSend 0 who c v s)
    else if o = 0xC08 then some (execRxqrel 0 who c v s)
    else if o = 0xC10 then some (execCanCntclr 0 who c v s)
    else none
  else if (p = 0x0B5 ∨ p = 0x0B9) ∧ o = 0x04C then some (execTxtailWrite 0 who (p == 0x0B9) v s)
  else if (p = 0x0B5 ∨ p = 0x0B9) ∧ o = 0x06C then some (execRxtailWrite 0 who (p == 0x0B9) v s)
  else if (p = 0x0B5 ∨ p = 0x0B9) ∧ o = 0x0A0 then some (execRingerrClear 0 who (p == 0x0B9) v s)
  else if p = 0x0C0 ∧ o = 0xC00 then some (execGwyCntclr 0 who v s)
  else if p = 0x0C4 ∧ o = 0xC00 then some (execHrbCntclr 0 who v s)
  else if p = 0x0C8 ∧ o = 0xC00 then some (execEvrFlushCmd 0 who v s)
  else if p = 0x0C8 ∧ o = 0xC04 then
    some (if nf w 1 0 = 1 then execClrcmdArm 0 who v s else execClrcmdClear 0 who v s)
  else if p = 0x0C8 ∧ o = 0xC08 then some (execEvrCntclr 0 who v s)
  else if p = 0x0C9 ∧ o = 0xC00 then some (execRdgo 0 who v s)
  else if p = 0x0C9 ∧ o = 0xC04 then some (execSwgo 0 who v s)
  else if p = 0x0CA ∧ o = 0xC00 then
    some (if nf w 1 0 = 2 then execCntcmdReset 0 who v s else execCntcmdAdd 0 who v s)
  else if p = 0x0CB ∧ o = 0xC00 then some (execCalgo 0 who v s)
  else if p = 0x0CC ∧ o = 0xC00 then
    some (match nf w 2 0 with
      | 2 => execUpdcmdChunk 0 who v s
      | 3 => execUpdcmdClose 0 who v s
      | 4 => execUpdcmdAbort 0 who v s
      | 5 => execUpdcmdAbortother 0 who v s
      | _ => execUpdcmdOpen 0 who v s)
  else if p = 0x0CD ∧ o = 0xC00 then
    some (match nf w 2 0 with
      | 2 => execActcmdNow 0 who v s
      | 3 => execActcmdCancel 0 who v s
      | 4 => execActcmdConfirm 0 who v s
      | _ => execActcmdSchedule 0 who v s)
  else if p = 0x0CF ∧ o = 0xC00 then some (execMgtCntclr 0 who v s)
  else if p = 0x0D0 ∧ o = 0xC00 then some (execPrimcmdRelease 0 who v s)
  else if 0x0D4 ≤ p ∧ p ≤ 0x0D7 then
    let t := fin4 (p - 0x0D4)
    if o = 0x0E0 then some (execOvfClear 0 who t v s)
    else if o = 0xC00 then some (execPmcSnap 0 who t v s)
    else if o = 0xC0C then some (execPmcCntclr 0 who t v s)
    else none
  else none

/-- A store to the register space: the command whose register it is, else a half of a pair, else a plain write. -/
def State.regStore (s : State) (who : Init) (p o : Nat) (v : Word) (ext : BitVec 48) : State :=
  let x := reg p o
  match s.headCmd who p o v ext with
  | some r => s.after r
  | none =>
    match s.coreCmd who p o v with
    | some r => s.after r
    | none =>
      match s.ioCmd who p o v ext with
      | some r => s.after r
      | none =>
        match s.netCmd who p o v with
        | some r => s.after r
        | none =>
          s.after (if isLo x then execWideLoWrite 0 who (fin512 p) (fin1024 (o / 4)) v s
            else if isHiHalf x then execWideHiWrite 0 who (fin512 p) (fin1024 (o / 4)) v s
            else execRegisterWrite 0 who (fin512 p) (fin1024 (o / 4)) v s)

/-- An access of `n` bytes at offset `x` of the register space: 32 bits wide, aligned, a load or a store (R43, assumption
81). -/
def State.regAccess (s : State) (who : Init) (x n : Nat) (op : BusOp) (ext : BitVec 48) : State :=
  let p := x / 4096
  let o := x % 4096
  let bad := n != 4 || o % 4 != 0
  match op with
  | .load => if bad then s.deny who p o false true else s.regLoad who p o
  | .store v => if bad then s.deny who p o true true else s.regStore who p o (v.setWidth 32) ext
  | .fetch => s.deny who p o false bad
  | .ahead => s
  | _ => s.deny who p o true bad

/-! ### Regions (R19) -/

/-- The regions of the physical address map. -/
inductive Region where
  | rom
  | regs
  | canRam (c : Nat)
  | preMem
  | ring
  | hrb (n : Nat)
  | sram
  | dram
  | reserved
deriving DecidableEq, Repr

/-- The region that holds `n` bytes from physical address `a`, with the offset in it. -/
def regionOf (a n : Nat) : Region × Nat :=
  let e := a + n
  if e ≤ 0x20000 then (.rom, a)
  else if 0x40000000 ≤ a ∧ e ≤ 0x40200000 then (.regs, a - 0x40000000)
  else if 0x41000000 ≤ a ∧ e ≤ 0x41040000 then (.canRam ((a - 0x41000000) / 0x10000), (a - 0x41000000) % 0x10000)
  else if 0x41200000 ≤ a ∧ e ≤ 0x41240000 then (.preMem, a - 0x41200000)
  else if 0x42000000 ≤ a ∧ e ≤ 0x46000000 then (.ring, a - 0x42000000)
  else if 0x50000000 ≤ a ∧ e ≤ 0x54000000 then (.hrb ((a - 0x50000000) / 0x1000000), (a - 0x50000000) % 0x1000000)
  else if 0x60000000 ≤ a ∧ e ≤ 0x60100000 then (.sram, a - 0x60000000)
  else if dramBase ≤ a ∧ e ≤ dramBase + 0x100000000 then (.dram, a - dramBase)
  else (.reserved, a)

/-- Is the access one that only a lane makes? -/
def laneOnly : BusOp → Bool
  | .load => false
  | .store _ => false
  | _ => true

/-- LR, SC and AMO. -/
def atomic : BusOp → Bool
  | .amo _ _ => true
  | .lr => true
  | .sc _ => true
  | _ => false

/-- What an access wants of a memory. -/
def wants : BusOp → Want
  | .load => .read
  | .lr => .read
  | .ahead => .read
  | .fetch => .fetch
  | _ => .write

/-! ### Memories -/

/-- Does the SC of an initiator succeed: its latest LR was to the same address and size?  Outside a D-section the ISA
lets it fail at any time, an open choice (R75, assumption 82). -/
def State.scWins (s : State) (who : Init) (a n : Nat) : Bool × State :=
  let hit := tabFind s.mem.resv (initCode who) == some (a, n)
  let s' := { s with mem := { s.mem with resv := tabDel s.mem.resv (initCode who) } }
  if !hit then (false, s')
  else if (s.partOf who).any (fun p => s.inDsec p) then (true, s')
  else ((s'.draw 1).1 == 1, (s'.draw 1).2)

/-- A reservation of an LR. -/
def State.reserve (s : State) (who : Init) (a n : Nat) : State :=
  { s with mem := { s.mem with resv := tabIns s.mem.resv (initCode who) (a, n) } }

/-- An operation on a memory that reads `old` and is written by `put`. -/
def State.memOp (s : State) (who : Init) (a n : Nat) (op : BusOp) (old : Nat) (put : State → Nat → State) : State :=
  let own := tabFind s.mem.resv (initCode who)
  let keep (t : State) : State := match own with
    | some r => { t with mem := { t.mem with resv := tabIns t.mem.resv (initCode who) r } }
    | none => t
  match op with
  | .load => { s with resp := .data old }
  | .fetch => { s with resp := .data old }
  | .ahead => s
  | .store v => { keep (put s (v.toNat % 2 ^ (8 * n))) with resp := .done }
  | .amo o v => { keep (put s (amoApply o (8 * n) old (v.toNat % 2 ^ (8 * n)))) with resp := .data old }
  | .lr => { s.reserve who a n with resp := .data old }
  | .sc v =>
    let r := s.scWins who a n
    if r.1 then { put r.2 (v.toNat % 2 ^ (8 * n)) with resp := .data 0 } else { r.2 with resp := .data 1 }

/-- The lanes whose SRAM an initiator's access reaches, the one that is read first (R21). -/
def State.sramLanes (s : State) (who : Init) : List Nat :=
  match who with
  | .triad t => (s.activeLanes t.val).map (fun l => 3 * t.val + l)
  | .lane t b => [3 * t.val + b2n b]
  | .boot => [0, 1, 2]
  | _ => []

/-- Bytes of a granule that the D-section has not written since snapshot delivery (R67). -/
def State.fresh (s : State) (lane o : Nat) : Bool := !(tabGet false s.mem.scratch (lane * 2 ^ 14 + o / 64))

/-- The bytes that a lane reads in its SRAM: in a D-section a fresh granule reads 0. -/
def State.sramRead (s : State) (dsec : Bool) (lane o n : Nat) : Nat :=
  fromBytes ((List.range n).map (fun i =>
    if dsec && s.fresh lane (o + i) then 0 else (memGet s.mem.sram (lane * 2 ^ 20 + o + i)).toNat))

/-- A store to the SRAM of a lane: in a D-section the rest of a fresh granule becomes 0 (R67, assumption 83). -/
def State.sramWrite (s : State) (dsec : Bool) (lane o : Nat) (bs : List Nat) : State :=
  let s := if !dsec then s
    else forL (dedup ((List.range bs.length).map (fun i => (o + i) / 64))) (fun g t =>
      if t.fresh lane (64 * g) then
        { t with mem := { t.mem with
            sram := memPut t.mem.sram (lane * 2 ^ 20 + 64 * g) (List.replicate 64 0)
            scratch := tabSet false t.mem.scratch (lane * 2 ^ 14 + g) true } }
      else t) s
  { s with mem := { s.mem with sram := memPut s.mem.sram (lane * 2 ^ 20 + o) bs } }

/-- An access to lane-local SRAM: the lane's own, never voted; a D-section reaches its scratch and does not execute it
(R21, R66, R73). -/
def State.sramAccess (s : State) (who : Init) (a o n : Nat) (op : BusOp) : State :=
  let part := s.partNo who
  let dsec := s.inDsec part
  match s.sramLanes who with
  | [] => if op = .ahead then s else s.busFault who a
  | lead :: rest =>
    if dsec && (decide (s.fld (R.CYC_DSCR part) 3 0 * 65536 < o + n) || decide (op = .fetch)) then
      (if op = .ahead then s else s.busFault who a)
    else s.memOp who a n op (s.sramRead dsec lead o n) fun t v =>
      forL (lead :: rest) (fun l u => u.sramWrite dsec l o (bytesOf n v)) t

/-- Poison reaches the access of partition `n` to window `w` at word `x`: a precise access fault.  A load or fetch in a
D-section ends the section without a commit, and the partition halts but for a snapshot; a partial store only faults, and
the word stays poisoned (R178). -/
def State.poisonHit (s : State) (who : Init) (n w x : Nat) (store : Bool) : State :=
  let sn := sourceOf who
  let s := s.poisonUse (8 * x) n sn.1 sn.2
  let s := { s with mem := { s.mem with resv := tabDel s.mem.resv (initCode who) } }
  if s.inDsec n && !store then
    let s := { s.revert n true with resp := .done }
    let s := if (s.cy n).opn && !(s.cy n).retired then s.cycEnd n 1 else s.gapBack n 1
    if s.wKind ((s.windowAt (8 * x)).getD w) = kSnapshot then s else s.cycHalt n
  else if who = .host then { s with resp := .poisoned }
  else s.except n .fault

/-- May the initiator reach `n` bytes of DRAM at offset `o`, and which window holds the first? -/
def State.dramWindow (s : State) (who : Init) (o n : Nat) (x : Want) : Option Nat :=
  match s.windowAt o, s.windowAt (o + n - 1) with
  | some w, some w' =>
    match s.partOf who with
    | some p => if s.winAllows p w x && s.winAllows p w' x && (who != .host || s.wKind w == kNormal) then some w else none
    | none => some w
  | _, _ => none

/-- Is the access a store, which gives nothing of the word to its lane? -/
def stores : BusOp → Bool
  | .store _ => true
  | .sc _ => true
  | _ => false

/-- What the syndromes of the first two words of an access have changed by: before a read of them, after a store (R163). -/
def State.upset2 (s : State) (o : Nat) (ecc : BitVec 16) : State :=
  (s.upset (o / 8) (nf ecc.toNat 7 0)).upset (o / 8 + 1) (nf ecc.toNat 15 8)

/-- An access to DRAM (R172, R178).  A store of a whole word needs no read; every other access meets the check bits. -/
def State.dramAccess (s : State) (who : Init) (a o n : Nat) (op : BusOp) (ecc : BitVec 16) : State :=
  let part := s.partNo who
  let meet (s : State) : State := s.dramRead o n part (sourceOf who).1 (sourceOf who).2 0x0102 0
  match s.dramWindow who o n (wants op) with
  | none =>
    if op = .ahead then (if (s.dramWindow who o n .fetch).isSome then meet (s.upset2 o ecc) else s)
    else s.busFault who a
  | some w =>
    let whole := stores op && n == 8 && o % 8 == 0
    let s := if whole then s else meet (if stores op then s else s.upset2 o ecc)
    match (if whole || decide (op = .ahead) then none else s.firstPoison o n) with
    | some x => if who = .host && stores op then { s with resp := .done } else s.poisonHit who part w x (stores op)
    | none =>
      let s := s.memOp who a n op (s.dramNum o n) fun t v => t.dramPut o (bytesOf n v)
      if stores op then s.upset2 o ecc else s

/-- Owner of a device memory: the accessing partition must own page `p`, and no D-section runs in it (R19, R73). -/
def State.ownsMem (s : State) (who : Init) (p : Nat) : Bool :=
  match s.partOf who with
  | some n => s.owns n p && !s.inDsec n
  | none => who == .boot

/-- CAN message RAM (R446): aligned loads and stores of its owner. -/
def State.canMem (s : State) (who : Init) (a c o n : Nat) (op : BusOp) : State :=
  if op = .ahead then s
  else if !s.ownsMem who (0x0A0 + 4 * c) || a % n != 0 then s.busFault who a
  else match op with
  | .load => { s with resp := .data (fromBytes ((List.range n).map (fun i => s.canRam c (o + i)))) }
  | .store v => { s.canRamPut c o (bytesOf n v.toNat) with resp := .done }
  | _ => s.busFault who a

/-- A read of PRE memory: the state memory of a Mantis lane is open, and the last 32 KiB read 0 (R254, assumption 84). -/
def State.preMemRead (s : State) (o n : Nat) : Nat × State :=
  if o < 0x30000 then (memNum s.pre.mem o n, s)
  else if o < 0x38000 then s.draw (8 * n)
  else (0, s)

/-- PRE program and curve memory (R254): aligned loads and stores of its owner. -/
def State.preMemAccess (s : State) (who : Init) (a o n : Nat) (op : BusOp) : State :=
  if op = .ahead then s
  else if !s.ownsMem who 0x068 || a % n != 0 then s.busFault who a
  else match op with
  | .load =>
    let r := s.preMemRead o n
    { r.2 with resp := .data r.1 }
  | .store v =>
    s.after (execPreMemoryWrite 0 who (Fin.ofNat 262144 o) ((bytesOf n v.toNat).map (BitVec.ofNat 8)) s)
  | _ => s.busFault who a

/-- The DRC ring window: loads of its owner (R19, R300, R317). -/
def State.ringAccess (s : State) (who : Init) (a o n : Nat) (op : BusOp) (ecc : BitVec 16) : State :=
  let d := ringBase + o
  match op with
  | .ahead => s
  | .load =>
    if !s.ownsMem who 0x080 then s.busFault who a
    else
      let sn := sourceOf who
      let part := s.partNo who
      let s := (s.upset2 d ecc).dramRead d n part sn.1 sn.2 0x0102 0
      match s.firstPoison d n with
      | some x =>
        let s := s.poisonUse (8 * x) part sn.1 sn.2
        if who = .host then { s with resp := .poisoned } else s.except part .fault
      | none => { s with resp := .data (s.dramNum d n) }
  | _ => s.busFault who a

/-- The mask ROM: the start sequence alone executes and reads it, before the configuration is locked; what it holds is
open (R19, assumption 85). -/
def State.romAccess (s : State) (who : Init) (a n : Nat) (op : BusOp) : State :=
  match op with
  | .ahead => s
  | .load => if who = .boot then { (s.draw (8 * n)).2 with resp := .data (s.draw (8 * n)).1 } else s.busFault who a
  | .fetch => if who = .boot then { (s.draw (8 * n)).2 with resp := .data (s.draw (8 * n)).1 } else s.busFault who a
  | _ => s.busFault who a

/-- An access whose request has been issued. -/
def State.busIssue (s : State) (who : Init) (a n : Nat) (op : BusOp) (ecc : BitVec 16) (ext : BitVec 48) : State :=
  match regionOf a n with
  | (.rom, _) => s.romAccess who a n op
  | (.regs, o) => s.regAccess who o n op ext
  | (.canRam c, o) => s.canMem who a c o n op
  | (.preMem, o) => s.preMemAccess who a o n op
  | (.ring, o) => s.ringAccess who a o n op ecc
  | (.hrb w, o) => s.hrbAccess who w o n op
  | (.sram, o) => s.sramAccess who a o n op
  | (.dram, o) => s.dramAccess who a o n op ecc
  | (.reserved, _) => if op = .ahead then s else s.busFault who a

/-- NORMAL windows of P6 in ascending order (R23, R173). -/
def State.hostWins (s : State) : List Nat := s.windows.filter (fun w => s.wOwner w == some 6 && s.wKind w == kNormal)

/-- The DRAM offset that BAR2 offset `y` reaches: the windows of P6 follow one another in it (R23). -/
def State.bar2 (s : State) : List Nat → Nat → Nat → Option Nat
  | [], _, _ => none
  | w :: t, y, n =>
    if y < s.wSize w then (if y + n ≤ s.wSize w then some (s.wBase w + y) else none) else s.bar2 t (y - s.wSize w) n

/-- The physical address that an address of the host reaches.  BAR0 offset x stands as 0x4000_0000 + x and BAR2 offset y as
0x8_0000_0000 + y; outside both BARs there is none (R23, assumption 111). -/
def State.hostAddr (s : State) (a n : Nat) : Option Nat :=
  match regionOf a n with
  | (.regs, _) => some a
  | (.dram, y) => (s.bar2 s.hostWins y n).map (dramBase + ·)
  | _ => none

/-- One access of an initiator that can make it. -/
def State.busAccess (s : State) (who : Init) (a n : Nat) (op : BusOp) (ecc : BitVec 16) (v : TriVote) (ext : BitVec 48) : State :=
  if (who == .host || who == .cricket) && laneOnly op then s
  else if who = .host then
    match s.hostAddr a n with
    | some b => s.busIssue who b n op ecc ext
    | none => { s with resp := .fault none }
  else if atomic op && n < 4 then s
  else if atomic op && a % n != 0 && (regionOf a n).1 != .regs then s.except (s.partNo who) .misaligned
  else if (regionOf a n).1 = .sram ∨ op = .ahead then s.busIssue who a n op ecc ext
  else s.voteBy who v a fun s => s.busIssue who a n op ecc ext

/-- LANE_MEMORY_ACCESS: 2^`w` bytes at physical address `a`, of the host at a BAR address. `ecc` is what the check bits give
where DRAM is read, `v` what the lanes of a voted triad present, `ext` what a command register finds outside. -/
def execLaneMemoryAccess (dt : Nat) (who : Init) (a : BitVec 40) (w : Fin 4) (op : BusOp) (ecc : BitVec 16) (v : TriVote)
    (ext : BitVec 48) (s : State) : Host.Outcome State Fault Refusal :=
  onMain dt s fun s => if s.live who then s.busAccess who a.toNat (2 ^ w.val) op ecc v ext else s

end Sys2Proof.Machine
end

