-- ==== Sys2Proof/Machine/Start.lean ====
section
/-! DEFINITION. The start of the main domain, from ROM to LOCKED or to recovery mode, and the hold-up bank that the
partitions wait for (R26, R149, R165, R171, R448, R512, R520, R529, R570 to R576, R596, R601, R606 to R611). -/
namespace Sys2Proof.Machine

/-! ### Results (R611) -/

abbrev rsNoloader : Nat := 1
abbrev rsFuse : Nat := 2
abbrev rsStrap : Nat := 3
abbrev rsMem : Nat := 4
abbrev rsImage : Nat := 5
abbrev rsConfig : Nat := 6
abbrev rsWindow : Nat := 7
abbrev rsPartition : Nat := 8
abbrev rsTriad : Nat := 9
abbrev rsMgtcmd : Nat := 10

/-- Show a stage of the start. -/
def State.toStage (s : State) (st : Nat) : State := s.putFld R.SYS_BOOTSTAT 3 0 st

/-- A step fails: recovery mode, with result and item (R575, R607). -/
def State.recovery (s : State) (result item : Nat) : State :=
  ((s.putFld R.SYS_BOOTSTAT 15 8 result).putFld R.SYS_BOOTSTAT 23 16 item).toStage 6

/-! ### Step 1: leaving reset (R16, R17, R595, R601, R603, R605, R606) -/

/-- May the main domain leave reset? -/
def State.canStart (s : State) : Bool :=
  s.sys.standby && !s.sys.on && !s.uv && s.msSince s.sys.thrTick 100 && !s.sys.rstin && !s.sys.clockHeld &&
    !s.sys.clockStop && !s.sys.hot && (!s.sys.sleep || s.sys.wake)

/-- Module time from the calendar: UTC plus TAIUTC, or 0 without a valid one (R448, R457). -/
def State.timeStart (s : State) : State :=
  let tai := s.life.calTai.getD 37
  let s := s.wr R.TMB_TAIUTC tai
  if s.bit R.LIFE_CALSTAT 0 then
    { s with mtime := (((s.calNow : Nat) : Int) * 4000000000 / 32768 + sx 16 tai * 4000000000).toNat * 2 ^ 48 % 2 ^ 112 }
  else ({ s with mtime := 0 }.putBit (hStat 0x050) 3 true).raise 0x0CB 0

/-- The counter table that a start loads (R520). -/
def State.lifeTable (s : State) (k : Nat) : Option LifeSave :=
  if k = 0 then s.life.saved else if k = 1 then s.life.older else none

/-- EVR at a start: blocks in positions with a bad CRC are discarded, of two blocks with one number the one with the higher
count is accepted, numbering continues, START is entered first and LOST follows when records were dropped; a clear whose
CLEAR record is held goes on with step 3 (R512, R516). -/
def State.evrStart (s : State) (bad : List Nat) : State :=
  let good := s.evr.stored.filter (fun b => !bad.contains b.pos)
  let s : State := forN (s.evr.stored.length - good.length) (fun _ (t : State) =>
    (t.incSatF R.EVR_STORERR 15 0).raise 0x0C8 2) s
  let stored := good.filter (fun b => !good.any (fun x => x.first == b.first && decide (b.recs.length < x.recs.length)))
  let newest := (stored.flatMap EvBlock.recs).foldl (fun (m : Option EvRec) r =>
    if m.any (fun x => r.seq < x.seq) then m else some r) none
  let pf := newest.any (fun r => r.src == 0x15 && r.code == 0x0004)
  let s : State := { s with evr := { s.evr with stored := stored, next := (newest.map (fun r => r.seq + 1)).getD 0 } }
  let s : State := { s with evr := { s.evr with
    clr := s.evr.clr.bind (fun c => if (s.findRec c.below).isSome then some { c with flushed := true } else none) } }
  let s : State := s.evrShow.mayPut 0x15 0 0x0003 0 (s.hwOrigin 0x0C8) s.moduleTime [s.sys.kind + 256 * b2n pf]
  if s.evr.lost = 0 then s
  else
    let s : State := s.mayPut 0x15 0 0x0001 2 (s.hwOrigin 0x0C8) s.moduleTime [s.evr.lost]
    { s with evr := { s.evr with lost := 0 } }

/-- The RESET_HELD record of a hold that Cricket has counted (R548). -/
def State.heldRecord (s : State) : State :=
  if s.mgt.held then
    let s : State := { s with mgt := { s.mgt with held := false } }
    (s.record 0x18 0x0001 3 0x0CE s.moduleTime [s.rd R.MGT_RSTHELD]).raise 0x0CE 2
  else s

/-- CALCRC is the CRC-32C over offsets 0x040 to 0x63F of the calibration page (R241). -/
def State.calOk (s : State) : Bool :=
  crc32c ((List.range 384).flatMap (fun i => bytesOf 4 (s.rd (0x66040 + 4 * i)))) == s.rd R.PAD_CALCRC

/-- The fuses are read, the calibration data copied to their page, and both are checked; bad calibration data alone do not
stop the start (R241, R610). -/
def State.fuseCheck (s : State) (bad : Bool) (cal : List Word) : State :=
  let s : State := if bad then (s.putBit R.SYS_FUSESTAT 0 false).raise 0x002 0
    else
      let s : State := forL (cal.zip (List.range 386)) (fun x t =>
        t.wr (if x.2 < 384 then 0x66040 + 4 * x.2 else R.PAD_CALCRC + 4 * (x.2 - 384)) x.1.toNat) s
      if s.calOk then (s.putBit R.SYS_FUSESTAT 0 true).putBit R.PAD_STAT 4 true
      else
        ((((s.putBit R.SYS_FUSESTAT 0 false).raise 0x002 0).putBit R.PAD_STAT 4 false).err 0x066 0 0x0103
          R.PAD_CALCRC).raise 0x066 0
  if bad then s.recovery rsFuse 0 else s

/-- Steps 1 and 2 of R607: the main domain leaves reset, module time, EVR and the start count begin, and the straps and
fuses are read; RDN.STAT shows the site strap (R546, R609). -/
def State.bootRom (s : State) (b : Boot) : State :=
  let t := s.ticks
  let s : State := { s with
    sys := { s.sys with on := true, sleep := false, wake := false, canWake := [], t0 := t }
    mem := { s.mem with ceStart := t, tempTick := t, passStart := t }
    life := { s.life with saveTick := t, secTick := t, discTick := t } }
  let s : State := ((s.wr R.SYS_RSTKIND s.sys.kind).putBit R.PWR_STAT 0 true).putBit R.MGT_STAT 0 true
  let start := ((s.lifeTable b.life.val).map (·.startCnt)).getD 0 + 1
  let s : State := ((s.timeStart.wr R.LIFE_STARTCNT (min start 0xFFFFFFFF)).setPstate 7 psRunning).evrStart b.evrBad
  let s : State := ((s.heldRecord.drcBoot).wr R.SYS_STRAPS b.straps.toNat).putBit R.RDN_STAT 7 (nb b.straps.toNat 0)
  let s : State := s.fuseCheck b.fuse b.cal
  if s.stage = 6 then s
  else if !b.rom then s.recovery rsTriad 0
  else if s.sys.kind = rkRecovery then s.recovery rsMgtcmd 0
  else if nf b.straps.toNat 3 1 ≠ 0 then s.recovery rsStrap 0
  else s

/-! ### Steps 3 to 5: loader, memory, copy -/

/-- Step 3: the loader that PREF names is tried first; three starts in a row that did not reach LOCKED turn PREF over
(R608). -/
def State.bootLoader (s : State) (b : Boot) : State :=
  let s := if s.fld R.SYS_LOADSTAT 5 4 = 3 then
      (s.putBit R.SYS_LOADSTAT 2 (!s.bit R.SYS_LOADSTAT 2)).putFld R.SYS_LOADSTAT 5 4 0 else s
  let pref := s.bit R.SYS_LOADSTAT 2
  let ok (l : Bool) := if l then b.loaderB else b.loaderA
  let seen (s : State) (l : Bool) := s.putBit R.SYS_LOADSTAT (b2n l) (ok l)
  let s := seen s pref
  if ok pref then
    ((s.putFld R.SYS_LOADSTAT 5 4 (s.fld R.SYS_LOADSTAT 5 4 + 1)).putBit R.SYS_BOOTSTAT 24 pref).toStage 1
  else
    let s := seen s (!pref)
    if ok (!pref) then (s.putBit R.SYS_BOOTSTAT 24 (!pref)).toStage 1 else s.recovery rsNoloader 0

/-- Step 4: MEM is trained and every word written with zero (R165). -/
def State.bootMem (s : State) (b : Boot) : State :=
  if b.memOk then
    ({ s with mem := { s.mem with dram := [], poison := [], syn := [], passStart := s.ticks } }.putBit
      (hStat 0x028) 0 true).scrubShow.toStage 2
  else s.recovery rsMem 0

/-- The slot `k` is loaded: its boot configuration and partition images become known, once (R607). -/
def State.slotLoad (s : State) (k : Nat) (c : BootCfg) : State :=
  match tabFind s.upd.boot k with
  | some _ => s
  | none => { s with upd := { s.upd with
      boot := tabIns s.upd.boot k c
      parts := forN 6 (fun n t => tabSet [] t (8 * k + n) ((c.images.getD n []).map BitVec.toNat)) s.upd.parts } }

/-- Step 5, with the activation mark set: the copy of R570 and the migrations that follow it. -/
def State.bootCopy (s : State) (b : Boot) : State :=
  let s := s.toStage 3
  if !s.upd.mark then s
  else match b.copy with
  | .partway mib => { s.wr R.UPD_COPYPOS mib with upd := { s.upd with pos := max s.upd.pos mib } }
  | .failed => s.copyFail
  | .done ms setdef =>
    let old := s.slotActive
    let s := s.copyDone ms setdef
    ((s.slotLoad s.slotActive b.cfg).migrateAll old s.slotActive)

/-! ### Step 6: the image and its configuration -/

/-- Has this very start completed the copy?  Its count is already journalled (R571). -/
def State.copyStart (s : State) : Bool := s.rd R.UPD_COPYDUR != 0

/-- The image that runs: a revert when three starts are counted or the active image fails, and the probation count.
`none` when no valid image is left (R571, R572). -/
def State.pickImage (s : State) (b : Boot) : Option State :=
  let three := s.threeStarts && !s.copyStart
  if three || !b.act then
    if b.fb then
      let old := s.slotActive
      let s := s.updRevert
      some ((s.slotLoad s.slotActive b.cfg).migrateAll old s.slotActive)
    else none
  else some ((if s.copyStart then s else s.countStart).slotLoad s.slotActive b.cfg)

/-- Write a value of the boot configuration: an RWL register, or CTRL of a CYC page.  Ownership is in the owners of the
configuration, and HOSTCFG supplies bit 0 only (R34, R36, R221, R607). -/
def State.bootReg (s : State) (x v : Nat) : State :=
  if !s.allocated (x / 4096) then s
  else match rowOf x with
  | none => s
  | some r =>
    let w := v &&& r.maskAt (x % 4096)
    match (List.range 6).find? (fun n => R.CYC_CTRL n == x) with
    | some n => { s with cyc := { s.cyc with bootCtl := tabSet 0 s.cyc.bootCtl n w } }.wr x w
    | none =>
      if r.acc ≠ .rwl ∨ x / 4096 = 0x009 then s
      else if x / 4096 = 0x00A then s.wr x (w ||| 0x80808080)
      else if x = R.TEN_HOSTCFG then s.wr x (w &&& 1)
      else s.wr x w

/-- Does the composition of partition `n` break R25 or R2?  A PCOMP with VALID = 0 names no triad (DESIGN CHOICE, assumption
100). -/
def State.compBad (s : State) (n : Nat) : Bool :=
  let tri (m : Nat) := if s.bit (R.TEN_PCOMP m) 31 then s.fld (R.TEN_PCOMP m) 3 0 else 0
  let lanes (m : Nat) := if s.bit (R.TEN_PCOMP m) 31 then s.fld (R.TEN_PCOMP m) 15 8 else 0
  let others := (List.range 6).filter (fun m => m != n)
  s.bit (R.TEN_PCOMP n) 31 &&
  ((tri n == 0) == (lanes n == 0) || decide (1 < popcount 4 (tri n)) ||
    (List.range 4).any (fun t =>
      let voted := nb (tri n) t
      let lane := nb (lanes n) (2 * t) || nb (lanes n) (2 * t + 1)
      (voted && s.split t) || (lane && !s.split t) || ((voted || lane) && !s.hasTriad t)) ||
    others.any (fun m => tri m &&& tri n != 0 || lanes m &&& lanes n != 0) ||
    (nb (tabGet 0 s.cyc.bootCtl n) 0 && tri n == 0))

/-- Does window `w` break R171, or R27? -/
def State.winBad (s : State) (w : Nat) : Bool :=
  let own := s.fld (R.MEM_WATTR w) 7 0
  let kind := s.wKind w
  let rest := s.windows.filter (fun v => v != w)
  let who := s.wOwner w
  s.wSize w == 0 || decide (winEnd < s.wBase w + s.wSize w) || decide (1 < popcount 8 own) || decide (4 < kind) ||
  rest.any (fun v => overlap (s.wBase w) (s.wSize w) (s.wBase v) (s.wSize v)) ||
  (match who with
   | none => kind != kNormal
   | some n => if kind = kNormal then n == 7 else if kind = kDcode then !s.voted n else decide (6 ≤ n) || !s.present n) ||
  (kind != kNormal && rest.any (fun v => s.wKind v == kind && s.wOwner v == who)) ||
  (kind == kDcode && decide (16 * 2 ^ 20 < s.wSize w))

/-- The first of these windows beyond 1 GiB in all. -/
def State.hostOver (s : State) : List Nat → Nat → Option Nat
  | [], _ => none
  | w :: t, sum => if 2 ^ 30 < sum + s.wSize w then some w else s.hostOver t (sum + s.wSize w)

/-- HOSTCFG[7:4]: the size of BAR2 as its power of two less 20 (R36). -/
def State.hostSize (s : State) : State :=
  if !s.bit R.TEN_HOSTCFG 0 then s
  else
    let total := s.hostWins.foldl (fun a w => a + s.wSize w) 0
    s.putFld R.TEN_HOSTCFG 7 4 (((List.range 11).find? (fun k => decide (total ≤ 2 ^ (20 + k)))).getD 10)

/-- RETAIN lengths with their headers over the images of the present partitions (R169). -/
def State.retainTotal (s : State) : Nat :=
  forN 6 (fun n a =>
    match tabFind s.upd.parts (8 * s.slotActive + n) with
    | some b => if s.present n then a + (imgParse b).retain + 64 else a
    | none => a) 0

/-- Would output group page `p` hold a combination that R348 or R350 refuses (R637)? -/
def State.groupBad (s : State) (p : Nat) : Bool :=
  decide (0x093 ≤ p) && decide (p ≤ 0x096) &&
  (!parOk (s.rd (R.DO_GPAR (p - 0x093))) (s.rd (R.DO_SAFEMASK (p - 0x093))) ||
    (List.range 8).any (fun c =>
      s.bit (R.DO_SAFEMASK (p - 0x093)) c && s.fld (R.DO_CHCFG (p - 0x093) c) 1 0 != 0))

/-- Does the boot configuration give the CYC page of partition `n` a value out of its range (R221)? -/
def State.cycCfgBad (s : State) (n : Nat) : Bool :=
  let ok (x : Nat) := s.rd x == resetOf x || s.rwlOk x (s.rd x)
  nf (tabGet 0 s.cyc.bootCtl n) 10 9 == 3 || !(ok (R.CYC_INSIZE n) && ok (R.CYC_OUTSIZE n) && ok (R.CYC_DSCR n))

/-- What is wrong with composition and windows, as result and item: the first of R2, R25, R171, R36, R169, R518, R221.  A SPLIT
bit that names T2 or T3 on a ZQ-4820 where no partition does offends no partition, and the item is 0 (assumption 100). -/
def State.cfgBad (s : State) : Option (Nat × Nat) :=
  match (List.range 6).find? (fun n => s.compBad n) with
  | some n => some (rsPartition, n)
  | none =>
    if (List.range 4).any (fun t => s.split t && !s.hasTriad t) then some (rsPartition, 0)
    else match s.windows.find? (fun w => s.winBad w) with
    | some w => some (rsWindow, w)
    | none => match s.hostOver s.hostWins 0 with
      | some w => some (rsWindow, w)
      | none =>
        if 0x100000 < s.retainTotal then some (rsMem, 0)
        else if (List.range 128).any (fun k => decide (4 < s.lifeKind k)) then some (rsConfig, 0)
        else ((List.range 6).find? (fun n => s.cycCfgBad n)).map (fun n => (rsConfig, n))

/-- Owners that follow from the composition: the TRI pages of each triad and the CYC page of each partition (R160,
R221). -/
def State.fixedOwners (s : State) : State :=
  let put (p m : Nat) (t : State) := t.putFld (R.TEN_OWN (p / 4)) (8 * (p % 4) + 7) (8 * (p % 4)) m
  let s := forN 4 (fun k t =>
    let n := if t.split k then (match t.partOfLane k 0 with | some n => some n | none => t.partOfLane k 1)
      else t.partOfTriad k
    match n with
    | some n => put (triPage k) (2 ^ n) (put (triVoter k) (2 ^ n) t)
    | none => t) s
  forN 6 (fun n t => if t.present n then put (cycPage n) (2 ^ n) t else t) s

/-- The entries that an assignment of page `p` writes: all four of MEM together (R184), none of a page whose owner is fixed
or follows another page. -/
def ownedWith (p : Nat) : List Nat :=
  if 0x028 ≤ p ∧ p ≤ 0x02B then [0x028, 0x029, 0x02A, 0x02B] else if ownerFree p then [p] else []

/-- Put an owner into entries of the ownership table. -/
def State.putEntries (s : State) (ps : List Nat) (m : Nat) : State :=
  forL ps (fun p t => t.putFld (R.TEN_OWN (p / 4)) (8 * (p % 4) + 7) (8 * (p % 4)) m) s

/-- The owners of the configuration, or the first assignment that R27 excludes. -/
def State.putOwners (s : State) : List (Nat × Nat) → State × Option (Nat × Nat)
  | [] => (s, none)
  | (p, m) :: t =>
    if !s.allocated p || (decide (0x008 ≤ p) && decide (p ≤ 0x013)) || (decide (0x020 ≤ p) && decide (p ≤ 0x027)) then
      s.putOwners t
    else match lowestBit 8 m with
    | none => (s.putEntries (ownedWith p) 0).putOwners t
    | some n =>
      if m = 2 ^ n ∧ s.canOwn n p then (s.putEntries (ownedWith p) m).putOwners t
      else (s, some (rsPartition, n))

/-- The settings of one page, applied by a whole commit (R573). -/
def State.putSettings (s : State) (p : Nat) (l : List (Nat × Nat)) : State :=
  if !s.allocated p then s
  else
    let s := forL l (fun e t =>
      match rowOf (reg p e.1) with
      | some r => if r.acc = .rws then t.setShadow (reg p e.1) (e.2 &&& r.maskAt e.1) else t
      | none => t) s
    if s.pageCheck [p] p = .ok then s.applyGroup [p] else s.refuseCommit p (s.pageCheck [p] p)

/-- The partition that settings of page `p` give an HRB window to although R27 excludes it. -/
def State.hrbOwnBad (s : State) (p : Nat) (l : List (Nat × Nat)) : Option Nat :=
  if p ≠ 0x0C4 then none
  else l.findSome? (fun e =>
    if (List.range 4).any (fun n => e.1 == 0x048 + 0x10 * n) then
      (lowestBit 8 (nf e.2 7 0)).filter (fun k => k == 7 || !s.present k)
    else none)

/-- Lock a page; a digest of the list that is not the page's own stops the start, and so does R637. -/
def State.bootLock (s : State) (p : Nat) (dig : Option Nat) : State × Option (Nat × Nat) :=
  let own := crc16 (s.lockBytes p)
  if s.groupBad p then (s, some (rsConfig, p % 256))
  else if dig.getD own = own then (s.wr (hLock p) (own * 65536 + 1), none)
  else (s, some (rsConfig, 0))

/-- Lock the pages of a list, up to the first that stops the start. -/
def State.bootLocks (s : State) : List (Nat × Option Nat) → State × Option (Nat × Nat)
  | [] => (s, none)
  | (p, d) :: t =>
    if !s.allocated p then s.bootLocks t
    else match s.bootLock p d with
    | (s, none) => s.bootLocks t
    | r => r

/-- LIFE at a start: the table is loaded, and a counter whose CFG differs from the saved one starts at 0 (R520, R521). -/
def State.lifeLoad (s : State) (k : Nat) : State :=
  let s : State := match s.lifeTable k with
    | none => (forN 128 (fun k (t : State) => t.wr64 (R.LIFE_VAL k) 0) s).raise 0x0CA 1
    | some x =>
      (forN 128 (fun k (t : State) =>
        let v := tabGet 0 x.vals k
        let c := tabGet 0 x.cfgs k
        if t.rd (R.LIFE_CFG k) = c then t.wr64 (R.LIFE_VAL k) v
        else (t.wr64 (R.LIFE_VAL k) 0).record 0x16 0x0002 1 0x0CA t.moduleTime
          [k, 0, v % 2 ^ 32, v / 2 ^ 32, c]) s).putBit (hStat 0x0CA) 0 true
  s.lifeAdd 2 0x400 1

/-- The boot configuration of the active slot is checked and written whole, or refused with result and item (R26, R607). -/
def State.writeConfig (s : State) (b : Boot) : State × Option (Nat × Nat) :=
  let c := (tabFind s.upd.boot s.slotActive).getD b.cfg
  let s := forL c.regs (fun e t => t.bootReg e.1.toNat e.2.toNat) s
  match s.cfgBad with
  | some e => (s, some e)
  | none =>
    match (s.hostSize.fixedOwners).putOwners (c.owners.map (fun e => (e.1.val, e.2.toNat))) with
    | (s, some e) => (s, some e)
    | (s, none) =>
      let sets := c.settings.map (fun e => (e.1.val, e.2.map (fun r => (4 * r.1.val, r.2.toNat))))
      match sets.findSome? (fun e => s.hrbOwnBad e.1 e.2) with
      | some k => (s, some (rsPartition, k))
      | none => (forL sets (fun e t => t.putSettings e.1 e.2) s).bootLocks ([0x008, 0x009, 0x00A, 0x00B, 0x028, 0x029, 0x02A, 0x02B].map (fun p => (p, none)) ++
        c.locks.map (fun e => (e.1.val, some e.2.toNat)))

/-- Step 6. -/
def State.bootConfig (s : State) (b : Boot) : State :=
  match s.pickImage b with
  | none => s.recovery rsImage 0
  | some s =>
    match s.writeConfig b with
    | (_, some e) => s.recovery e.1 e.2
    | (s, none) => (s.lifeLoad b.life.val).toStage 4

/-! ### Step 7: LOCKED, and the partitions -/

/-- The self-test results of the two voter halves of triad `t`. -/
def selfHalf (h : BitVec 8) (t i : Nat) : Bool := h.getLsbD (2 * t + i)

/-- Every triad starts, and with it the partitions: R149 and R189. -/
def State.startParts (s : State) (h : BitVec 8) : State :=
  let s := forN 4 (fun t u =>
    let r := u.triStart t (selfHalf h t 0) (selfHalf h t 1)
    if r.2 then r.1
    else match r.1.partOfTriad t with
    | some n => r.1.partStuck n t
    | none => r.1) s
  let s := forN 6 (fun n u => if u.present n ∧ u.pstate n = psStarting then u.partRun n else u) s
  s.rdnEval

/-- The partitions start once the configuration is locked and the bank is charged, or its timeout has come (R596). -/
def State.bankStart (s : State) (h : BitVec 8) : State :=
  if s.sys.on && s.stage == 5 && s.sys.bankDone then s.startParts h else s

/-- Step 7: the end of the start. -/
def State.bootLocked (s : State) (b : Boot) : State :=
  let s := (s.toStage 5).wr R.SYS_BOOTDUR ((s.ticks - s.sys.t0) / 100000)
  let s := (s.putFld R.SYS_LOADSTAT 5 4 0).raise 0x000 0
  let s := if s.actStat = acProgress then s.setAct acDone else s
  let s := forN 6 (fun n t => if t.present n then t.setPstate n psStarting else t) s
  let s := if s.present 6 then s.setPstate 6 psLinkdown else s
  let s := forN 4 (fun t u => if (u.partOfTriad t).isSome then u.setTriMode t tmStarting else u) s
  let s := { s with rdn := { s.rdn with lockTick := s.ticks + 1, sendTick := s.ticks, testTick := s.ticks } }
  let s := if s.paired then ((s.setPrim prIdle).gatesTo false).rdnEval else (s.setPrim prSingle).setGates true
  s.bankStart b.halves

/-- The stages of R607 in turn, up to the one that this delivery comes to; a failure leaves the rest undone. -/
def State.bootRun (s : State) (b : Boot) : State :=
  let s := if s.stage = 0 ∧ 1 ≤ b.upTo.val then s.bootLoader b else s
  let s := if s.stage = 1 ∧ 2 ≤ b.upTo.val then s.bootMem b else s
  let s := if (s.stage = 2 ∨ (s.stage = 3 ∧ s.upd.mark)) ∧ 3 ≤ b.upTo.val then s.bootCopy b else s
  let s := if s.stage = 3 ∧ !s.upd.mark ∧ 4 ≤ b.upTo.val then s.bootConfig b else s
  if s.stage = 4 ∧ 5 ≤ b.upTo.val then s.bootLocked b else s

/-- MAIN_DOMAIN_START: the main domain leaves reset, or a start in progress goes on, and runs the boot sequence up to the
stage `b.upTo`, 5 for LOCKED (R607, assumption 86). -/
def execMainDomainStart (dt : Nat) (b : Boot) (s : State) : Host.Outcome State Fault Refusal :=
  guarded (decide (b.cfg.images.length = 6)) dt s (always dt s fun s =>
    if s.canStart then
      let s := s.bootRom b
      if s.stage = 0 then (s.elapse (100000 * b.ms)).bootRun b else s
    else if s.sys.on && decide (s.stage < 5) then (s.elapse (100000 * b.ms)).bootRun b
    else s)

/-- BANKOK: the bank reaches 36.0 V, and its capacitance in µF is measured from the charge time (R596). -/
def execBankok (dt : Nat) (cap : BitVec 16) (halves : BitVec 8) (s : State) : Host.Outcome State Fault Refusal :=
  always dt s fun s =>
    if !s.sys.standby || s.sys.bankDone then s
    else
      let s := ((s.putBit R.PWR_STAT pwBank true).wr R.PWR_BANKCAP cap.toNat)
      let s := if cap.toNat < 2000 then (s.putBit R.PWR_STAT 4 true).raise 0x004 2 else s
      { s with sys := { s.sys with bankDone := true } }.bankStart halves

/-- HUFAULT: BANKOK has not come 2 s after the start threshold, and the start continues without it (R596). -/
def execHufault (dt : Nat) (halves : BitVec 8) (s : State) : Host.Outcome State Fault Refusal :=
  always dt s fun s =>
    if !s.sys.on || s.sys.bankDone || s.bit R.PWR_STAT pwBank || !s.msSince s.sys.thrTick 2100 then s
    else
      let s := (s.putBit R.PWR_STAT 5 true).raise 0x004 2
      { s with sys := { s.sys with bankDone := true } }.bankStart halves

/-! ### Front indicators (R210, R626) -/

/-- RUN: lit in LOCKED; it flashes at 1 Hz while a partition is DEGRADED. -/
def State.ledRun (s : State) : Bool :=
  s.sys.on && s.stage == 5 &&
    (!(List.range 8).any (fun n => s.pstate n == psDegraded) || decide (s.ticks / 50000000 % 2 = 0))

/-- FAULT: a halted partition, the protection engine or a safety function in FAULT, or recovery mode. -/
def State.ledFault (s : State) : Bool :=
  s.sys.on && ((List.range 8).any (fun n => s.pstate n == psHalted) || s.engine == engFault ||
    (List.range 16).any (fun f => s.sfnState f == fsFault) || s.stage == 6)

/-- FORCE: a CYC page has FORCED = 1. -/
def State.ledForce (s : State) : Bool := s.sys.on && (List.range 6).any (fun n => s.bit (R.CYC_STAT n) 3)

/-- PRIM: primacy is HELD, or the module is SINGLE. -/
def State.ledPrim (s : State) : Bool := s.sys.on && (s.prim == prHeld || s.prim == prSingle)

end Sys2Proof.Machine
end

