-- ==== Sys2Proof/Machine/Dispatch.lean ====
section
/-! DEFINITION. The meaning of every command: one arm per constructor, each a direct call of its meaning. -/
namespace Sys2Proof.Machine

def exec (i : Instr) (s : State) : Host.Outcome State Fault Refusal :=
  match i with
  | .clockFault dt c => Sys2Proof.Machine.execClockFault dt c s
  | .clockRestart dt => Sys2Proof.Machine.execClockRestart dt s
  | .laneMemoryAccess dt who a w op ecc v ext => Sys2Proof.Machine.execLaneMemoryAccess dt who a w op ecc v ext s
  | .registerWrite dt who p w v => Sys2Proof.Machine.execRegisterWrite dt who p w v s
  | .hostlinkDown dt => Sys2Proof.Machine.execHostlinkDown dt s
  | .hostlinkUp dt c => Sys2Proof.Machine.execHostlinkUp dt c s
  | .perstAssert dt => Sys2Proof.Machine.execPerstAssert dt s
  | .perstRelease dt => Sys2Proof.Machine.execPerstRelease dt s
  | .presetWrite dt who v => Sys2Proof.Machine.execPresetWrite dt who v s
  | .partitionReset dt n h1 h2 => Sys2Proof.Machine.execPartitionReset dt n h1 h2 s
  | .ownerWrite dt who p v => Sys2Proof.Machine.execOwnerWrite dt who p v s
  | .lockWrite dt who p v => Sys2Proof.Machine.execLockWrite dt who p v s
  | .evackWrite dt who p v again => Sys2Proof.Machine.execEvackWrite dt who p v again s
  | .errclrWrite dt who p v => Sys2Proof.Machine.execErrclrWrite dt who p v s
  | .cmtGo dt who p v => Sys2Proof.Machine.execCmtGo dt who p v s
  | .cmtAbort dt who p v => Sys2Proof.Machine.execCmtAbort dt who p v s
  | .pageCommitApply dt p => Sys2Proof.Machine.execPageCommitApply dt p s
  | .ownkWrite dt who k v => Sys2Proof.Machine.execOwnkWrite dt who k v s
  | .grantkWrite dt who k v => Sys2Proof.Machine.execGrantkWrite dt who k v s
  | .denypop dt who => Sys2Proof.Machine.execDenypop dt who s
  | .wideLoRead dt who p w => Sys2Proof.Machine.execWideLoRead dt who p w s
  | .wideLoWrite dt who p w v => Sys2Proof.Machine.execWideLoWrite dt who p w v s
  | .wideHiWrite dt who p w v => Sys2Proof.Machine.execWideHiWrite dt who p w v s
  | .axisMeasurement dt x ph => Sys2Proof.Machine.execAxisMeasurement dt x ph s
  | .axisAcquired dt k v => Sys2Proof.Machine.execAxisAcquired dt k v s
  | .axisLoss dt k => Sys2Proof.Machine.execAxisLoss dt k s
  | .axisHoldRecover dt k => Sys2Proof.Machine.execAxisHoldRecover dt k s
  | .axisHoldExpired dt k => Sys2Proof.Machine.execAxisHoldExpired dt k s
  | .axisFrozenRecover dt k => Sys2Proof.Machine.execAxisFrozenRecover dt k s
  | .axisTick dt k => Sys2Proof.Machine.execAxisTick dt k s
  | .scheduleEntryFire dt d => Sys2Proof.Machine.execScheduleEntryFire dt d s
  | .hiddenTargetMissed dt d => Sys2Proof.Machine.execHiddenTargetMissed dt d s
  | .encoderLineFault dt n f => Sys2Proof.Machine.execEncoderLineFault dt n f s
  | .encoderZPulse dt n ph count => Sys2Proof.Machine.execEncoderZPulse dt n ph count s
  | .ssiFrame dt m ph f => Sys2Proof.Machine.execSsiFrame dt m ph f s
  | .fixgo dt who k v => Sys2Proof.Machine.execFixgo dt who k v s
  | .axisCapture dt who k v => Sys2Proof.Machine.execAxisCapture dt who k v s
  | .seclr dt who v => Sys2Proof.Machine.execSeclr dt who v s
  | .fireflyStrobe dt n => Sys2Proof.Machine.execFireflyStrobe dt n s
  | .fireflyPps dt n => Sys2Proof.Machine.execFireflyPps dt n s
  | .fireflyPulseEnd dt n => Sys2Proof.Machine.execFireflyPulseEnd dt n s
  | .fireflyReadback dt n level => Sys2Proof.Machine.execFireflyReadback dt n level s
  | .scarabSelftest dt t h1 h2 => Sys2Proof.Machine.execScarabSelftest dt t h1 h2 s
  | .stnow dt who t v => Sys2Proof.Machine.execStnow dt who t v s
  | .stateAudit dt t v => Sys2Proof.Machine.execStateAudit dt t v s
  | .interruptArrival dt t irq r wfi => Sys2Proof.Machine.execInterruptArrival dt t irq r wfi s
  | .interruptTaken dt t r => Sys2Proof.Machine.execInterruptTaken dt t r s
  | .reintegration dt t ok => Sys2Proof.Machine.execReintegration dt t ok s
  | .lanecmdFence dt who t v => Sys2Proof.Machine.execLanecmdFence dt who t v s
  | .nvSnap dt who e gap v => Sys2Proof.Machine.execNvSnap dt who e gap v s
  | .nvCommit dt who e m v => Sys2Proof.Machine.execNvCommit dt who e m v s
  | .nvAbort dt who e m v => Sys2Proof.Machine.execNvAbort dt who e m v s
  | .nvDstat dt who e m => Sys2Proof.Machine.execNvDstat dt who e m s
  | .nvRbase dt who e m => Sys2Proof.Machine.execNvRbase dt who e m s
  | .nvRmark dt who e m v => Sys2Proof.Machine.execNvRmark dt who e m v s
  | .nvRstat dt who e m => Sys2Proof.Machine.execNvRstat dt who e m s
  | .laneUncorrectableError dt t l a syn => Sys2Proof.Machine.execLaneUncorrectableError dt t l a syn s
  | .laneCorrectableError dt t l => Sys2Proof.Machine.execLaneCorrectableError dt t l s
  | .laneScrub dt t l => Sys2Proof.Machine.execLaneScrub dt t l s
  | .dramScrub dt ecc => Sys2Proof.Machine.execDramScrub dt ecc s
  | .dramTempPoll dt code hi => Sys2Proof.Machine.execDramTempPoll dt code hi s
  | .ceWindowEnd dt => Sys2Proof.Machine.execCeWindowEnd dt s
  | .memCntclr dt who v => Sys2Proof.Machine.execMemCntclr dt who v s
  | .elnext dt who v => Sys2Proof.Machine.execElnext dt who v s
  | .startCold dt who n v => Sys2Proof.Machine.execStartCold dt who n v s
  | .startWarm dt who n v => Sys2Proof.Machine.execStartWarm dt who n v s
  | .stop dt who n v => Sys2Proof.Machine.execStop dt who n v s
  | .chgload dt who n v => Sys2Proof.Machine.execChgload dt who n v s
  | .loaddone dt n digestOk => Sys2Proof.Machine.execLoaddone dt n digestOk s
  | .chgarm dt who n v => Sys2Proof.Machine.execChgarm dt who n v s
  | .chgabort dt who n v => Sys2Proof.Machine.execChgabort dt who n v s
  | .groupcmt dt who n v => Sys2Proof.Machine.execGroupcmt dt who n v s
  | .cycStartComplete dt n => Sys2Proof.Machine.execCycStartComplete dt n s
  | .snapshotInstant dt n => Sys2Proof.Machine.execSnapshotInstant dt n s
  | .snapshotDelivery dt n => Sys2Proof.Machine.execSnapshotDelivery dt n s
  | .commitComplete dt n dis => Sys2Proof.Machine.execCommitComplete dt n dis s
  | .watchdogExpiry dt n => Sys2Proof.Machine.execWatchdogExpiry dt n s
  | .retainedSave dt n ok => Sys2Proof.Machine.execRetainedSave dt n ok s
  | .changeApply dt n => Sys2Proof.Machine.execChangeApply dt n s
  | .cycCntclr dt who n v => Sys2Proof.Machine.execCycCntclr dt who n v s
  | .gridTick dt => Sys2Proof.Machine.execGridTick dt s
  | .sampleSetDelivery dt x => Sys2Proof.Machine.execSampleSetDelivery dt x s
  | .modulatorFault dt n check => Sys2Proof.Machine.execModulatorFault dt n check s
  | .settled dt n => Sys2Proof.Machine.execSettled dt n s
  | .livegrab dt who v => Sys2Proof.Machine.execLivegrab dt who v s
  | .xclr dt who v gone => Sys2Proof.Machine.execXclr dt who v gone s
  | .padCapgo dt who v => Sys2Proof.Machine.execPadCapgo dt who v s
  | .capdone dt m c => Sys2Proof.Machine.execCapdone dt m c s
  | .engineTick dt vote => Sys2Proof.Machine.execEngineTick dt vote s
  | .tripPulseStart dt n => Sys2Proof.Machine.execTripPulseStart dt n s
  | .tripPulseEnd dt n peak => Sys2Proof.Machine.execTripPulseEnd dt n peak s
  | .closePulseStart dt n => Sys2Proof.Machine.execClosePulseStart dt n s
  | .closePulseEnd dt n peak => Sys2Proof.Machine.execClosePulseEnd dt n peak s
  | .tcsflt dt n on => Sys2Proof.Machine.execTcsflt dt n on s
  | .drvflt dt n on => Sys2Proof.Machine.execDrvflt dt n on s
  | .tfail dt n => Sys2Proof.Machine.execTfail dt n s
  | .breakerCurrentLow dt b => Sys2Proof.Machine.execBreakerCurrentLow dt b s
  | .grpcmdSeal dt who v => Sys2Proof.Machine.execGrpcmdSeal dt who v s
  | .groupSealDone dt => Sys2Proof.Machine.execGroupSealDone dt s
  | .grpcmdUnseal dt who v => Sys2Proof.Machine.execGrpcmdUnseal dt who v s
  | .outtest dt who v => Sys2Proof.Machine.execOuttest dt who v s
  | .preCntclr dt who v => Sys2Proof.Machine.execPreCntclr dt who v s
  | .preOutCntclr dt who v => Sys2Proof.Machine.execPreOutCntclr dt who v s
  | .wearclr dt who v => Sys2Proof.Machine.execWearclr dt who v s
  | .mlcmd dt who v => Sys2Proof.Machine.execMlcmd dt who v s
  | .preMemoryWrite dt who o b => Sys2Proof.Machine.execPreMemoryWrite dt who o b s
  | .preMemoryUe dt o => Sys2Proof.Machine.execPreMemoryUe dt o s
  | .drcTrigger dt => Sys2Proof.Machine.execDrcTrigger dt s
  | .trgnow dt who v => Sys2Proof.Machine.execTrgnow dt who v s
  | .archiveCopyStart dt => Sys2Proof.Machine.execArchiveCopyStart dt s
  | .archdone dt => Sys2Proof.Machine.execArchdone dt s
  | .archIo dt => Sys2Proof.Machine.execArchIo dt s
  | .arcmdProtect dt who v => Sys2Proof.Machine.execArcmdProtect dt who v s
  | .arcmdUnprotect dt who v => Sys2Proof.Machine.execArcmdUnprotect dt who v s
  | .arcmdDelete dt who v => Sys2Proof.Machine.execArcmdDelete dt who v s
  | .arcmdRelease dt who v => Sys2Proof.Machine.execArcmdRelease dt who v s
  | .arcmdRetry dt who v => Sys2Proof.Machine.execArcmdRetry dt who v s
  | .expcmdCfg dt who v => Sys2Proof.Machine.execExpcmdCfg dt who v s
  | .expcmdHdr dt who v => Sys2Proof.Machine.execExpcmdHdr dt who v s
  | .expcmdDat dt who v => Sys2Proof.Machine.execExpcmdDat dt who v s
  | .expdone dt => Sys2Proof.Machine.execExpdone dt s
  | .drcCntclr dt who v => Sys2Proof.Machine.execDrcCntclr dt who v s
  | .sarTrigger dt c => Sys2Proof.Machine.execSarTrigger dt c s
  | .seqcmdGo dt who c v => Sys2Proof.Machine.execSeqcmdGo dt who c v s
  | .seqcmdStop dt who c v => Sys2Proof.Machine.execSeqcmdStop dt who c v s
  | .sarConversion dt c code => Sys2Proof.Machine.execSarConversion dt c code s
  | .convreq dt who c v => Sys2Proof.Machine.execConvreq dt who c v s
  | .sarReady dt c => Sys2Proof.Machine.execSarReady dt c s
  | .sarFallback dt c => Sys2Proof.Machine.execSarFallback dt c s
  | .sarFallbackPass dt c => Sys2Proof.Machine.execSarFallbackPass dt c s
  | .chkclr dt who c v => Sys2Proof.Machine.execChkclr dt who c v s
  | .sarCntclr dt who c v => Sys2Proof.Machine.execSarCntclr dt who c v s
  | .diRawEdge dt n ph level => Sys2Proof.Machine.execDiRawEdge dt n ph level s
  | .diEdgeAccept dt n => Sys2Proof.Machine.execDiEdgeAccept dt n s
  | .eqpop dt who g => Sys2Proof.Machine.execEqpop dt who g s
  | .ovld dt k => Sys2Proof.Machine.execOvld dt k s
  | .doOpenLoad dt k open_ ma => Sys2Proof.Machine.execDoOpenLoad dt k open_ ma s
  | .pwmPeriodStart dt g => Sys2Proof.Machine.execPwmPeriodStart dt g s
  | .pwmOffEdge dt k => Sys2Proof.Machine.execPwmOffEdge dt k s
  | .rbflt dt k level => Sys2Proof.Machine.execRbflt dt k level s
  | .stuckLatch dt k => Sys2Proof.Machine.execStuckLatch dt k s
  | .testPulseStart dt k => Sys2Proof.Machine.execTestPulseStart dt k s
  | .testPulseEnd dt k off => Sys2Proof.Machine.execTestPulseEnd dt k off s
  | .fswarn dt g => Sys2Proof.Machine.execFswarn dt g s
  | .fswarnClear dt g => Sys2Proof.Machine.execFswarnClear dt g s
  | .fslowLatch dt g => Sys2Proof.Machine.execFslowLatch dt g s
  | .fsok dt g => Sys2Proof.Machine.execFsok dt g s
  | .dioFltclr dt who g v agree => Sys2Proof.Machine.execDioFltclr dt who g v agree s
  | .logclr dt who v => Sys2Proof.Machine.execLogclr dt who v s
  | .sfnEvaluation dt ok1 ok2 same => Sys2Proof.Machine.execSfnEvaluation dt ok1 ok2 same s
  | .discrep dt f => Sys2Proof.Machine.execDiscrep dt f s
  | .twohandTimeout dt f => Sys2Proof.Machine.execTwohandTimeout dt f s
  | .edmFault dt f => Sys2Proof.Machine.execEdmFault dt f s
  | .rststuck dt n => Sys2Proof.Machine.execRststuck dt n s
  | .sfnFltclr dt who v => Sys2Proof.Machine.execSfnFltclr dt who v s
  | .loopScan dt x vl => Sys2Proof.Machine.execLoopScan dt x vl s
  | .compl dt c => Sys2Proof.Machine.execCompl dt c s
  | .loopOpen dt c => Sys2Proof.Machine.execLoopOpen dt c s
  | .rbhigh dt c => Sys2Proof.Machine.execRbhigh dt c s
  | .prot dt n => Sys2Proof.Machine.execProt dt n s
  | .limiterReclose dt n => Sys2Proof.Machine.execLimiterReclose dt n s
  | .miswire dt c => Sys2Proof.Machine.execMiswire dt c s
  | .loopFltclr dt who v below => Sys2Proof.Machine.execLoopFltclr dt who v below s
  | .loopCntclr dt who v => Sys2Proof.Machine.execLoopCntclr dt who v s
  | .canIntegrated dt c => Sys2Proof.Machine.execCanIntegrated dt c s
  | .canFrameReceived dt c f ago ph => Sys2Proof.Machine.execCanFrameReceived dt c f ago ph s
  | .canError dt c lec dataPhase tec rec_ => Sys2Proof.Machine.execCanError dt c lec dataPhase tec rec_ s
  | .busoffRecovery dt c => Sys2Proof.Machine.execBusoffRecovery dt c s
  | .cancmdRecover dt who c v => Sys2Proof.Machine.execCancmdRecover dt who c v s
  | .txcmdSend dt who c v => Sys2Proof.Machine.execTxcmdSend dt who c v s
  | .txcmdCancel dt who c v => Sys2Proof.Machine.execTxcmdCancel dt who c v s
  | .txcmdLoad dt who c v => Sys2Proof.Machine.execTxcmdLoad dt who c v s
  | .canTxTimer dt c k => Sys2Proof.Machine.execCanTxTimer dt c k s
  | .canTxStart dt c ph => Sys2Proof.Machine.execCanTxStart dt c ph s
  | .canArbitrationLost dt c => Sys2Proof.Machine.execCanArbitrationLost dt c s
  | .canTxComplete dt c => Sys2Proof.Machine.execCanTxComplete dt c s
  | .txtspop dt who c => Sys2Proof.Machine.execTxtspop dt who c s
  | .rxqrel dt who c v => Sys2Proof.Machine.execRxqrel dt who c v s
  | .canWake dt c w => Sys2Proof.Machine.execCanWake dt c w s
  | .ttReferenceAttempt dt c won ph => Sys2Proof.Machine.execTtReferenceAttempt dt c won ph s
  | .ttTrigger dt c j busy ph => Sys2Proof.Machine.execTtTrigger dt c j busy ph s
  | .ttReferenceReceived dt c r ago => Sys2Proof.Machine.execTtReferenceReceived dt c r ago s
  | .ttWatchExpiry dt c => Sys2Proof.Machine.execTtWatchExpiry dt c s
  | .canCntclr dt who c v => Sys2Proof.Machine.execCanCntclr dt who c v s
  | .ofsgo dt who v => Sys2Proof.Machine.execOfsgo dt who v s
  | .syncinPulse dt ago => Sys2Proof.Machine.execSyncinPulse dt ago s
  | .syncinMissing dt => Sys2Proof.Machine.execSyncinMissing dt s
  | .timeStep dt => Sys2Proof.Machine.execTimeStep dt s
  | .holdover dt => Sys2Proof.Machine.execHoldover dt s
  | .tmbCapgo dt who v => Sys2Proof.Machine.execTmbCapgo dt who v s
  | .restep dt who v => Sys2Proof.Machine.execRestep dt who v s
  | .leapSecond dt => Sys2Proof.Machine.execLeapSecond dt s
  | .ethFrameReceived dt n f ago ph => Sys2Proof.Machine.execEthFrameReceived dt n f ago ph s
  | .ethLinkChange dt n up gig => Sys2Proof.Machine.execEthLinkChange dt n up gig s
  | .txtailWrite dt who svc v => Sys2Proof.Machine.execTxtailWrite dt who svc v s
  | .rxtailWrite dt who svc v => Sys2Proof.Machine.execRxtailWrite dt who svc v s
  | .ethTxComplete dt svc => Sys2Proof.Machine.execEthTxComplete dt svc s
  | .ringerrClear dt who svc v => Sys2Proof.Machine.execRingerrClear dt who svc v s
  | .ethLaunch dt n q => Sys2Proof.Machine.execEthLaunch dt n q s
  | .gateListEntry dt n => Sys2Proof.Machine.execGateListEntry dt n s
  | .gateListSwitch dt n => Sys2Proof.Machine.execGateListSwitch dt n s
  | .fdbAgeOut dt => Sys2Proof.Machine.execFdbAgeOut dt s
  | .prpLanMissing dt n => Sys2Proof.Machine.execPrpLanMissing dt n s
  | .prpEntryExpiry dt => Sys2Proof.Machine.execPrpEntryExpiry dt s
  | .pdTxLaunch dt k => Sys2Proof.Machine.execPdTxLaunch dt k s
  | .pdRxTimeout dt k => Sys2Proof.Machine.execPdRxTimeout dt k s
  | .tspop dt who => Sys2Proof.Machine.execTspop dt who s
  | .gwySignalWrite dt kind inst item => Sys2Proof.Machine.execGwySignalWrite dt kind inst item s
  | .gwyStale dt g => Sys2Proof.Machine.execGwyStale dt g s
  | .gwyCntclr dt who v => Sys2Proof.Machine.execGwyCntclr dt who v s
  | .hrbWindowAccess dt who n x w op => Sys2Proof.Machine.execHrbWindowAccess dt who n x w op s
  | .hrbCycleStart dt n => Sys2Proof.Machine.execHrbCycleStart dt n s
  | .hrbCardReply dt flt hd => Sys2Proof.Machine.execHrbCardReply dt flt hd s
  | .hrbCycleTimeout dt => Sys2Proof.Machine.execHrbCycleTimeout dt s
  | .hrbResetEnd dt => Sys2Proof.Machine.execHrbResetEnd dt s
  | .wackResume dt who n v => Sys2Proof.Machine.execWackResume dt who n v s
  | .wackFlush dt who n v => Sys2Proof.Machine.execWackFlush dt who n v s
  | .pollReadDue dt e => Sys2Proof.Machine.execPollReadDue dt e s
  | .atnAccept dt n low => Sys2Proof.Machine.execAtnAccept dt n low s
  | .hrbCntclr dt who v => Sys2Proof.Machine.execHrbCntclr dt who v s
  | .evrFlush dt => Sys2Proof.Machine.execEvrFlush dt s
  | .evrFlushDone dt ok => Sys2Proof.Machine.execEvrFlushDone dt ok s
  | .evrFlushCmd dt who v => Sys2Proof.Machine.execEvrFlushCmd dt who v s
  | .rdgo dt who v => Sys2Proof.Machine.execRdgo dt who v s
  | .evrReadDone dt => Sys2Proof.Machine.execEvrReadDone dt s
  | .swgo dt who v => Sys2Proof.Machine.execSwgo dt who v s
  | .clrcmdArm dt who v => Sys2Proof.Machine.execClrcmdArm dt who v s
  | .clrcmdClear dt who v => Sys2Proof.Machine.execClrcmdClear dt who v s
  | .evrClearDone dt => Sys2Proof.Machine.execEvrClearDone dt s
  | .evrCntclr dt who v => Sys2Proof.Machine.execEvrCntclr dt who v s
  | .lifeSecond dt => Sys2Proof.Machine.execLifeSecond dt s
  | .lifeSave dt ok => Sys2Proof.Machine.execLifeSave dt ok s
  | .cntcmdAdd dt who v => Sys2Proof.Machine.execCntcmdAdd dt who v s
  | .cntcmdReset dt who v => Sys2Proof.Machine.execCntcmdReset dt who v s
  | .calendarDiscipline dt => Sys2Proof.Machine.execCalendarDiscipline dt s
  | .calgo dt who v => Sys2Proof.Machine.execCalgo dt who v s
  | .calendarStop dt => Sys2Proof.Machine.execCalendarStop dt s
  | .primInChange dt sig => Sys2Proof.Machine.execPrimInChange dt sig s
  | .primacyClaim dt => Sys2Proof.Machine.execPrimacyClaim dt s
  | .primacyHeld dt => Sys2Proof.Machine.execPrimacyHeld dt s
  | .primacyConflict dt => Sys2Proof.Machine.execPrimacyConflict dt s
  | .primcmdRelease dt who v => Sys2Proof.Machine.execPrimcmdRelease dt who v s
  | .primacyRelease dt => Sys2Proof.Machine.execPrimacyRelease dt s
  | .heartbeatSend dt => Sys2Proof.Machine.execHeartbeatSend dt s
  | .heartbeatReceived dt w crc => Sys2Proof.Machine.execHeartbeatReceived dt w crc s
  | .heartbeatTimeout dt => Sys2Proof.Machine.execHeartbeatTimeout dt s
  | .checkpointSendDone dt size => Sys2Proof.Machine.execCheckpointSendDone dt size s
  | .checkpointReceived dt c size => Sys2Proof.Machine.execCheckpointReceived dt c size s
  | .standbyLaneTest dt pass => Sys2Proof.Machine.execStandbyLaneTest dt pass s
  | .mgtIdent dt f => Sys2Proof.Machine.execMgtIdent dt f s
  | .mgtHealth dt f => Sys2Proof.Machine.execMgtHealth dt f s
  | .mgtReadpage dt f => Sys2Proof.Machine.execMgtReadpage dt f s
  | .mgtReadevr dt f => Sys2Proof.Machine.execMgtReadevr dt f s
  | .mgtReadlife dt f => Sys2Proof.Machine.execMgtReadlife dt f s
  | .mgtNonce dt f => Sys2Proof.Machine.execMgtNonce dt f s
  | .mgtReadmem dt f ecc => Sys2Proof.Machine.execMgtReadmem dt f ecc s
  | .mgtPreset dt f => Sys2Proof.Machine.execMgtPreset dt f s
  | .mgtMreset dt f => Sys2Proof.Machine.execMgtMreset dt f s
  | .mgtRecovery dt f => Sys2Proof.Machine.execMgtRecovery dt f s
  | .mgtEvrclear dt f => Sys2Proof.Machine.execMgtEvrclear dt f s
  | .mgtPrimrel dt f => Sys2Proof.Machine.execMgtPrimrel dt f s
  | .mgtWake dt f => Sys2Proof.Machine.execMgtWake dt f s
  | .mgtSetkey dt f => Sys2Proof.Machine.execMgtSetkey dt f s
  | .mgtClose dt f => Sys2Proof.Machine.execMgtClose dt f s
  | .mgtBadFrame dt why => Sys2Proof.Machine.execMgtBadFrame dt why s
  | .mgtUnknownCmd dt cmd f => Sys2Proof.Machine.execMgtUnknownCmd dt cmd f s
  | .authlockEnd dt => Sys2Proof.Machine.execAuthlockEnd dt s
  | .resetHeld dt => Sys2Proof.Machine.execResetHeld dt s
  | .mgtCntclr dt who v => Sys2Proof.Machine.execMgtCntclr dt who v s
  | .updcmdOpen dt who v => Sys2Proof.Machine.execUpdcmdOpen dt who v s
  | .updcmdChunk dt who v => Sys2Proof.Machine.execUpdcmdChunk dt who v s
  | .chunkDone dt => Sys2Proof.Machine.execChunkDone dt s
  | .updcmdClose dt who v => Sys2Proof.Machine.execUpdcmdClose dt who v s
  | .updcmdAbort dt who v => Sys2Proof.Machine.execUpdcmdAbort dt who v s
  | .updcmdAbortother dt who v => Sys2Proof.Machine.execUpdcmdAbortother dt who v s
  | .verifyDone dt read => Sys2Proof.Machine.execVerifyDone dt read s
  | .sessionTimeout dt => Sys2Proof.Machine.execSessionTimeout dt s
  | .tftpWriteStage dt peer blk => Sys2Proof.Machine.execTftpWriteStage dt peer blk s
  | .tftpWriteAbort dt token => Sys2Proof.Machine.execTftpWriteAbort dt token s
  | .tftpReadStatus dt => Sys2Proof.Machine.execTftpReadStatus dt s
  | .tftpData dt peer block data => Sys2Proof.Machine.execTftpData dt peer block data s
  | .tftpError dt peer => Sys2Proof.Machine.execTftpError dt peer s
  | .arpRequest dt target sender mac => Sys2Proof.Machine.execArpRequest dt target sender mac s
  | .actcmdSchedule dt who v => Sys2Proof.Machine.execActcmdSchedule dt who v s
  | .actcmdNow dt who v => Sys2Proof.Machine.execActcmdNow dt who v s
  | .actcmdCancel dt who v => Sys2Proof.Machine.execActcmdCancel dt who v s
  | .actcmdConfirm dt who v => Sys2Proof.Machine.execActcmdConfirm dt who v s
  | .activationDue dt => Sys2Proof.Machine.execActivationDue dt s
  | .activationPostponed dt => Sys2Proof.Machine.execActivationPostponed dt s
  | .activationExpired dt => Sys2Proof.Machine.execActivationExpired dt s
  | .updateReset dt => Sys2Proof.Machine.execUpdateReset dt s
  | .counterOverflow dt t m => Sys2Proof.Machine.execCounterOverflow dt t m s
  | .ovfClear dt who t v => Sys2Proof.Machine.execOvfClear dt who t v s
  | .pmcSnap dt who t v => Sys2Proof.Machine.execPmcSnap dt who t v s
  | .preciseCapture dt t k priv pc addr lat => Sys2Proof.Machine.execPreciseCapture dt t k priv pc addr lat s
  | .weevilRecord dt t pc blk w4 w5 flags priv dist => Sys2Proof.Machine.execWeevilRecord dt t pc blk w4 w5 flags priv dist s
  | .sbpop dt who t => Sys2Proof.Machine.execSbpop dt who t s
  | .wvpop dt who t => Sys2Proof.Machine.execWvpop dt who t s
  | .pmcCntclr dt who t v => Sys2Proof.Machine.execPmcCntclr dt who t v s
  | .poweron dt => Sys2Proof.Machine.execPoweron dt s
  | .supplyUv dt => Sys2Proof.Machine.execSupplyUv dt s
  | .supplyReturn dt => Sys2Proof.Machine.execSupplyReturn dt s
  | .supplyOv dt on => Sys2Proof.Machine.execSupplyOv dt on s
  | .powerFailWarning dt bank => Sys2Proof.Machine.execPowerFailWarning dt bank s
  | .shutdownComplete dt k => Sys2Proof.Machine.execShutdownComplete dt k s
  | .mainDomainStart dt b => Sys2Proof.Machine.execMainDomainStart dt b s
  | .bankok dt cap halves => Sys2Proof.Machine.execBankok dt cap halves s
  | .hufault dt halves => Sys2Proof.Machine.execHufault dt halves s
  | .supplyMeasure dt fs ts vin bank shown => Sys2Proof.Machine.execSupplyMeasure dt fs ts vin bank shown s
  | .tripSupplyChange dt n => Sys2Proof.Machine.execTripSupplyChange dt n s
  | .tempMeasure dt v => Sys2Proof.Machine.execTempMeasure dt v s
  | .thermal dt => Sys2Proof.Machine.execThermal dt s
  | .rstinAssert dt accepted => Sys2Proof.Machine.execRstinAssert dt accepted s
  | .rstinRelease dt => Sys2Proof.Machine.execRstinRelease dt s
  | .syscmdMreset dt who v => Sys2Proof.Machine.execSyscmdMreset dt who v s
  | .syscmdSleep dt who v => Sys2Proof.Machine.execSyscmdSleep dt who v s
  | .fusecmdRevoke dt who v => Sys2Proof.Machine.execFusecmdRevoke dt who v s
  | .standbyDomainLoss dt => Sys2Proof.Machine.execStandbyDomainLoss dt s
  | .ethFrameTransmitted dt n ago => Sys2Proof.Machine.execEthFrameTransmitted dt n ago s
  | .testPulseFilterRelease dt k => Sys2Proof.Machine.execTestPulseFilterRelease dt k s
  | .clearArmExpiry dt => Sys2Proof.Machine.execClearArmExpiry dt s

end Sys2Proof.Machine
end

