-- ==== Sys2Proof/Safety.lean ====
section
/-! DEFINITION. What counts as a safe run, and the words in which statements about the block are put. -/
namespace Sys2Proof.Machine

/-- The main domain is at work: out of reset, with no shutdown sequence running (R599, R600). -/
abbrev Ready (s : State) : Prop := s.sys.on = true ∧ s.sys.down = none

/-- Every command that waits is one that its event can carry. -/
def QueueOk (s : State) : Prop := ∀ c ∈ s.pending, c.wf = true

/-- A register table is in its one canonical form: keys rise strictly, and no entry equals its register's reset value. -/
def RegsOk (t : Tab Word) : Prop := rising t = true ∧ ∀ e ∈ t, e.2 ≠ resetWord e.1

/-- The one canonical form of a byte memory: addresses rise strictly, and no entry is what an unlisted byte reads as. -/
def Memory.wf (m : Tab Byte) : Bool := tabWf (0 : Byte) m

/-- A byte memory is in its canonical form. -/
def MemOk (m : Tab Byte) : Prop := Memory.wf m = true

/-- The invariant of the block: the register table, the DRAM and the lane memories are in their canonical form, and every
command that waits is well-formed. -/
def Inv (s : State) : Prop := RegsOk s.regs ∧ MemOk s.mem.dram ∧ MemOk s.mem.sram ∧ QueueOk s

/-- The state in which a register command that was let in is answered. -/
def State.ack (s : State) : State := { s with resp := .done }

/-- The initiator can act, the main domain is at work, and the write of offset `o` of page `p` is allowed (R45). -/
abbrev Writes (who : Init) (p o : Nat) (u : State) : Prop :=
  Ready u ∧ u.live who = true ∧ u.mayWrite who p o = true

/-- The initiator can act, the main domain is at work, and the read of offset `o` of page `p` is allowed (R45). -/
abbrev Reads (who : Init) (p o : Nat) (u : State) : Prop :=
  Ready u ∧ u.live who = true ∧ u.mayRead who p o = true

/-- Command `c` completes: let `u` be the block after the command's ticks have passed.  Where `h u` holds, the command answers
the next state `f u`, from which the MSI-X messages that are then due have gone out (R24). -/
def Does (c : Nat → Instr) (h : State → Prop) (f : State → State) : Prop :=
  ∀ dt s, (c dt).wf = true → h (s.elapse dt) → exec (c dt) s = .next (f (s.elapse dt)).msixSend

/-- `n` steps of the block, each of which must answer a next state. -/
def State.run : Nat → State → Option State
  | 0, s => some s
  | n + 1, s =>
    match step s with
    | .next t => t.run n
    | _ => none

/-- The management port takes a frame: it is enabled and the standby domain is at work (R549, R560). -/
abbrev Heard (u : State) : Prop := u.sys.standby = true ∧ u.bit R.MGT_CTRL 0 = true

/-- The block once a frame is counted. -/
def State.heard (s : State) : State := s.incSat R.MGT_RXFRM

/-- A frame of class Auth passes: no lockout, a right tag under a fresh nonce, and a slot whose mask has the command; the two
key commands need slot 0 before field closure (R552 to R554, R557). -/
abbrev Authentic (cmd : Nat) (f : MgtFrame) (u : State) : Prop :=
  Heard u ∧ u.mgt.lockTick.any (fun t => !u.secSince t 60) = false ∧ u.heard.mgtTagOk cmd (mgtNum f 0 1) f = true ∧
  nb (u.heard.mgtMask (mgtNum f 0 1)) cmd = true ∧ (cmd = 0x16 ∨ cmd = 0x17 → u.heard.closed = false ∧ mgtNum f 0 1 = 0)

/-- The block once a frame is authenticated: the nonce is used up. -/
def State.authed (s : State) : State := { s.heard with mgt := { s.mgt with nonce := none } }

/-- A write of the CYC command register of partition `n` is let in, with its key and command code `k` (R190). -/
abbrev CycWrites (who : Init) (n k : Nat) (v : Word) (u : State) : Prop :=
  Writes who (cycPage n) 0xC00 u ∧ nf v.toNat 31 16 = 0x6C3A ∧ nf v.toNat 3 0 = k

/-- The initiator executes an instruction of Xnyvas as core partition `n` (R153). -/
abbrev Executes (who : Init) (n : Fin 6) (u : State) : Prop :=
  Ready u ∧ u.live who = true ∧ u.partOf who = some n.val

/-- A compared request goes through and leaves the block as `w`: the lanes of a triad agree, or the initiator is alone. -/
def Agreed (who : Init) (v : TriVote) (u w : State) : Prop :=
  match who with
  | .triad t => u.triVote t.val v false 0 = (w, true)
  | _ => w = u

/-- A write to a command register is let in and carries its key in [31:16]. -/
abbrev KeyWrites (who : Init) (p o key : Nat) (v : Word) (u : State) : Prop :=
  Writes who p o u ∧ nf v.toNat 31 16 = key

end Sys2Proof.Machine

namespace Sys2Proof
open Sys2Proof.Machine

/-- The register that a register-write command writes, with the initiator that writes it. -/
def Instr.writes : Instr → Option (Init × Nat × Nat)
  | .registerWrite _ who p w _ => some (who, p.val, 4 * w.val)
  | .presetWrite _ who _ => some (who, 0x008, 0xC00)
  | .ownerWrite _ who p _ => some (who, p.val, 0x008)
  | .lockWrite _ who p _ => some (who, p.val, 0x00C)
  | .evackWrite _ who p _ _ => some (who, p.val, 0x024)
  | .errclrWrite _ who p _ => some (who, p.val, 0xFFC)
  | .cmtGo _ who p _ => some (who, p.val, 0x030)
  | .cmtAbort _ who p _ => some (who, p.val, 0x030)
  | .wideLoWrite _ who p w _ => some (who, p.val, 4 * w.val)
  | .wideHiWrite _ who p w _ => some (who, p.val, 4 * w.val)
  | .fixgo _ who k _ => some (who, 0x041 + k.val, 0xC04)
  | .axisCapture _ who k _ => some (who, 0x041 + k.val, 0xC00)
  | .seclr _ who _ => some (who, 0x04F, 0xC00)
  | .stnow _ who t _ => some (who, triVoter t.val, 0xC00)
  | .lanecmdFence _ who t _ => some (who, triPage t.val, 0xC00)
  | .memCntclr _ who _ => some (who, 0x02A, 0xC00)
  | .elnext _ who _ => some (who, 0x02B, 0xC00)
  | .startCold _ who n _ => some (who, cycPage n.val, 0xC00)
  | .startWarm _ who n _ => some (who, cycPage n.val, 0xC00)
  | .stop _ who n _ => some (who, cycPage n.val, 0xC00)
  | .chgload _ who n _ => some (who, cycPage n.val, 0xC00)
  | .chgarm _ who n _ => some (who, cycPage n.val, 0xC00)
  | .chgabort _ who n _ => some (who, cycPage n.val, 0xC00)
  | .groupcmt _ who n _ => some (who, cycPage n.val, 0xC00)
  | .cycCntclr _ who n _ => some (who, cycPage n.val, 0xC04)
  | .livegrab _ who _ => some (who, 0x064, 0xC00)
  | .xclr _ who _ _ => some (who, 0x065, 0xC00)
  | .padCapgo _ who _ => some (who, 0x067, 0xC00)
  | .grpcmdSeal _ who _ => some (who, 0x075, 0xC00)
  | .grpcmdUnseal _ who _ => some (who, 0x075, 0xC00)
  | .outtest _ who _ => some (who, 0x06A, 0xC00)
  | .preCntclr _ who _ => some (who, 0x068, 0xC00)
  | .preOutCntclr _ who _ => some (who, 0x06A, 0xC04)
  | .wearclr _ who _ => some (who, 0x06A, 0xC08)
  | .mlcmd _ who _ => some (who, 0x074, 0xC00)
  | .trgnow _ who _ => some (who, 0x080, 0xC00)
  | .arcmdProtect _ who _ => some (who, 0x082, 0xC04)
  | .arcmdUnprotect _ who _ => some (who, 0x082, 0xC04)
  | .arcmdDelete _ who _ => some (who, 0x082, 0xC04)
  | .arcmdRelease _ who _ => some (who, 0x082, 0xC04)
  | .arcmdRetry _ who _ => some (who, 0x082, 0xC04)
  | .expcmdCfg _ who _ => some (who, 0x082, 0xC00)
  | .expcmdHdr _ who _ => some (who, 0x082, 0xC00)
  | .expcmdDat _ who _ => some (who, 0x082, 0xC00)
  | .drcCntclr _ who _ => some (who, 0x080, 0xC04)
  | .seqcmdGo _ who c _ => some (who, sarPage c.val, 0xC04)
  | .seqcmdStop _ who c _ => some (who, sarPage c.val, 0xC04)
  | .convreq _ who c _ => some (who, sarPage c.val, 0xC00)
  | .chkclr _ who c _ => some (who, sarPage c.val, 0xC0C)
  | .sarCntclr _ who c _ => some (who, sarPage c.val, 0xC08)
  | .dioFltclr _ who g _ _ => some (who, 0x093 + g.val, 0xC00)
  | .logclr _ who _ => some (who, 0x097, 0xC00)
  | .sfnFltclr _ who _ => some (who, 0x098, 0xC00)
  | .loopFltclr _ who _ _ => some (who, 0x09C, 0xC00)
  | .loopCntclr _ who _ => some (who, 0x09C, 0xC04)
  | .cancmdRecover _ who c _ => some (who, canPage c.val, 0xC00)
  | .txcmdSend _ who c _ => some (who, canPage c.val, 0xC04)
  | .txcmdCancel _ who c _ => some (who, canPage c.val, 0xC04)
  | .txcmdLoad _ who c _ => some (who, canPage c.val, 0xC04)
  | .rxqrel _ who c _ => some (who, canPage c.val, 0xC08)
  | .canCntclr _ who c _ => some (who, canPage c.val, 0xC10)
  | .ofsgo _ who _ => some (who, 0x050, 0xC00)
  | .tmbCapgo _ who _ => some (who, 0x051, 0xC00)
  | .restep _ who _ => some (who, 0x053, 0xC00)
  | .txtailWrite _ who svc _ => some (who, ringPage svc, 0x04C)
  | .rxtailWrite _ who svc _ => some (who, ringPage svc, 0x06C)
  | .ringerrClear _ who svc _ => some (who, ringPage svc, 0x0A0)
  | .gwyCntclr _ who _ => some (who, 0x0C0, 0xC00)
  | .hrbCntclr _ who _ => some (who, 0x0C4, 0xC00)
  | .evrFlushCmd _ who _ => some (who, 0x0C8, 0xC00)
  | .rdgo _ who _ => some (who, 0x0C9, 0xC00)
  | .swgo _ who _ => some (who, 0x0C9, 0xC04)
  | .clrcmdArm _ who _ => some (who, 0x0C8, 0xC04)
  | .clrcmdClear _ who _ => some (who, 0x0C8, 0xC04)
  | .evrCntclr _ who _ => some (who, 0x0C8, 0xC08)
  | .cntcmdAdd _ who _ => some (who, 0x0CA, 0xC00)
  | .cntcmdReset _ who _ => some (who, 0x0CA, 0xC00)
  | .calgo _ who _ => some (who, 0x0CB, 0xC00)
  | .primcmdRelease _ who _ => some (who, 0x0D0, 0xC00)
  | .updcmdOpen _ who _ => some (who, 0x0CC, 0xC00)
  | .updcmdChunk _ who _ => some (who, 0x0CC, 0xC00)
  | .updcmdClose _ who _ => some (who, 0x0CC, 0xC00)
  | .updcmdAbort _ who _ => some (who, 0x0CC, 0xC00)
  | .updcmdAbortother _ who _ => some (who, 0x0CC, 0xC00)
  | .actcmdSchedule _ who _ => some (who, 0x0CD, 0xC00)
  | .actcmdNow _ who _ => some (who, 0x0CD, 0xC00)
  | .actcmdCancel _ who _ => some (who, 0x0CD, 0xC00)
  | .actcmdConfirm _ who _ => some (who, 0x0CD, 0xC00)
  | .ovfClear _ who t _ => some (who, pmcPage t.val, 0x0E0)
  | .pmcSnap _ who t _ => some (who, pmcPage t.val, 0xC00)
  | .pmcCntclr _ who t _ => some (who, pmcPage t.val, 0xC0C)
  | .syscmdMreset _ who _ => some (who, 0x001, 0xC00)
  | .syscmdSleep _ who _ => some (who, 0x001, 0xC00)
  | .fusecmdRevoke _ who _ => some (who, 0x002, 0xC00)
  | _ => none

/-- The commands of the standby domain and of pins, which act while the main domain is off. -/
def Instr.standby : Instr → Bool
  | .clockFault .. => true
  | .clockRestart .. => true
  | .canWake .. => true
  | .calendarStop .. => true
  | .mgtIdent .. => true
  | .mgtHealth .. => true
  | .mgtReadpage .. => true
  | .mgtReadevr .. => true
  | .mgtReadlife .. => true
  | .mgtNonce .. => true
  | .mgtReadmem .. => true
  | .mgtPreset .. => true
  | .mgtMreset .. => true
  | .mgtRecovery .. => true
  | .mgtEvrclear .. => true
  | .mgtPrimrel .. => true
  | .mgtWake .. => true
  | .mgtSetkey .. => true
  | .mgtClose .. => true
  | .mgtBadFrame .. => true
  | .mgtUnknownCmd .. => true
  | .authlockEnd .. => true
  | .resetHeld .. => true
  | .mgtCntclr .. => true
  | .poweron .. => true
  | .supplyUv .. => true
  | .supplyReturn .. => true
  | .supplyOv .. => true
  | .powerFailWarning .. => true
  | .shutdownComplete .. => true
  | .mainDomainStart .. => true
  | .bankok .. => true
  | .hufault .. => true
  | .supplyMeasure .. => true
  | .tripSupplyChange .. => true
  | .tempMeasure .. => true
  | .thermal .. => true
  | .rstinAssert .. => true
  | .rstinRelease .. => true
  | .standbyDomainLoss .. => true
  | _ => false

/-- The commands of the parts that load shedding keeps running (R600). -/
def Instr.shed : Instr → Bool
  | .dramScrub .. => true
  | .dramTempPoll .. => true
  | .ceWindowEnd .. => true
  | .commitComplete .. => true
  | .evrFlush .. => true
  | .evrFlushDone .. => true
  | .evrReadDone .. => true
  | .evrClearDone .. => true
  | .lifeSecond .. => true
  | .calendarDiscipline .. => true
  | _ => false

end Sys2Proof
end

