-- ==== Sys2Proof/Certificates/Slice0/Obligations.lean ====
section
/-! DEFINITION. The statements for the provers: what the rules of the manual say the block does. -/
open Sys2Proof Sys2Proof.Machine

/-- A step takes the command at the front of the queue and answers what `exec` answers on the state with the rest of it. On an empty queue one tick of the timebase passes (DESIGN CHOICE, assumption 4). -/
def Obligations.StepRunsTheFrontCommand : Prop :=
  ∀ s : State,
    (∀ c q, s.pending = c :: q → step s = exec c { s with pending := q }) ∧ (s.pending = [] → step s = .next (s.elapse 1))

/-- No command of the block can fail: whatever the state, a command answers a next state with the same queue, and time does not go back. -/
def Obligations.NoCommandStopsTheBlock : Prop :=
  ∀ (c : Instr) (s : State), ∃ t, exec c s = .next t ∧ t.pending = s.pending ∧ s.ticks ≤ t.ticks

/-- Commands whose lists have lengths that their events cannot carry are no occurrences: only their time passes (DESIGN CHOICE, assumption 97). -/
def Obligations.IllFormedCommandOnlyLetsTimePass : Prop :=
  ∀ (dt : Nat) (s : State),
    (∀ x ph, (Instr.axisMeasurement dt x ph).wf = false → exec (.axisMeasurement dt x ph) s = .next (s.elapse dt)) ∧
    (∀ who e gap v, (Instr.nvSnap dt who e gap v).wf = false → exec (.nvSnap dt who e gap v) s = .next (s.elapse dt)) ∧
    (∀ x, (Instr.sampleSetDelivery dt x).wf = false → exec (.sampleSetDelivery dt x) s = .next (s.elapse dt)) ∧
    (∀ who o b, (Instr.preMemoryWrite dt who o b).wf = false → exec (.preMemoryWrite dt who o b) s = .next (s.elapse dt)) ∧
    (∀ x vl, (Instr.loopScan dt x vl).wf = false → exec (.loopScan dt x vl) s = .next (s.elapse dt)) ∧
    (∀ c f ago ph, (Instr.canFrameReceived dt c f ago ph).wf = false → exec (.canFrameReceived dt c f ago ph) s = .next (s.elapse dt)) ∧
    (∀ n f ago ph, (Instr.ethFrameReceived dt n f ago ph).wf = false → exec (.ethFrameReceived dt n f ago ph) s = .next (s.elapse dt)) ∧
    (∀ ck y, (Instr.checkpointReceived dt ck y).wf = false → exec (.checkpointReceived dt ck y) s = .next (s.elapse dt)) ∧
    (∀ peer block data, (Instr.tftpData dt peer block data).wf = false → exec (.tftpData dt peer block data) s = .next (s.elapse dt)) ∧
    (∀ b, (Instr.mainDomainStart dt b).wf = false → exec (.mainDomainStart dt b) s = .next (s.elapse dt)) ∧
    (∀ fs ts vin bank shown, (Instr.supplyMeasure dt fs ts vin bank shown).wf = false →
      exec (.supplyMeasure dt fs ts vin bank shown) s = .next (s.elapse dt))

/-- The reset state meets the invariant. -/
def Obligations.InvAtReset : Prop :=
  Inv State.reset

/-- The invariant of `Safety.lean` is kept by every step from every state that meets it, not only from reset. -/
def Obligations.InvKeptByEveryStep : Prop :=
  ∀ s t : State, Inv s → step s = .next t → Inv t

/-- Progress: the waiting commands are taken in order, one for each step, and none stops the block. -/
def Obligations.QueueIsWorkedOffInOrder : Prop :=
  ∀ (s : State) (l q : List Instr), s.pending = l ++ q →
    ∃ t, s.run l.length = some t ∧ t.pending = q ∧ s.ticks ≤ t.ticks

/-- The laws of the register file, on which every frame of a command rests. -/
def Obligations.RegisterReadAfterWrite : Prop :=
  ∀ (s : State) (x y v : Nat),
    ((s.wr x v).rd y = if y = x then v % 2 ^ 32 else s.rd y) ∧
    (s.wr x v).mem = s.mem ∧ (s.wr x v).pending = s.pending ∧ (s.wr x v).ticks = s.ticks ∧
    (∀ i j b, i < 32 → (s.putBit x i b).bit y j = if y = x ∧ j = i then b else s.bit y j) ∧
    ((s.wr64 x v).rd64 x = v % 2 ^ 64) ∧ (y ≠ x → y ≠ x + 4 → (s.wr64 x v).rd y = s.rd y)

/-- The laws of the DRAM, with the poison rule of R178 for whole words. -/
def Obligations.DramReadAfterStore : Prop :=
  ∀ (s : State) (o : Nat) (bs : List Nat),
    (∀ i, i < bs.length → memGet (s.dramPut o bs).mem.dram (o + i) = BitVec.ofNat 8 (bs.getD i 0)) ∧
    (∀ a, a < o ∨ o + bs.length ≤ a → memGet (s.dramPut o bs).mem.dram a = memGet s.mem.dram a) ∧
    (∀ w, o ≤ 8 * w → 8 * w + 8 ≤ o + bs.length → (s.dramPut o bs).poisoned (8 * w) 8 = false) ∧
    (s.dramPut o bs).regs = s.regs ∧ (s.dramPut o bs).mem.sram = s.mem.sram ∧ (s.dramPut o bs).pending = s.pending

/-- Reset values that the page maps give, and empty memories and queue. -/
def Obligations.ResetLeaves : Prop :=
  (∀ p : Fin 512, State.reset.rd (hCmt p.val) = 0 ∧ State.reset.rd (hGen p.val) = 0 ∧ State.reset.rd (hErrcode p.val) = 0) ∧
  (∀ k : Fin 128, State.reset.plainRead 0x00A (0x040 + 4 * k.val) = 0x80808080) ∧
  (State.reset.headView 0x008 0x01C = some 1) ∧ State.reset.rd R.MEM_CETHR = 0x10 ∧ State.reset.rd R.EVR_FLUSHIVL = 0x3E8 ∧
  State.reset.rd R.TEN_PSTATE = 0 ∧
  State.reset.rd R.TEN_DENYCNT = 0 ∧ State.reset.mem.dram = [] ∧ State.reset.mem.sram = [] ∧ State.reset.shadow = [] ∧ State.reset.pending = []

/-- Completion, result and frame of the commands of the page header. -/
def Obligations.PageHeaderCommandsComplete : Prop :=
  ∀ (who : Init) (p : Fin 512) (w : Fin 1024) (v again : Word),
    Does (fun dt => .registerWrite dt who p w v)
      (fun u => Writes who p.val (4 * w.val) u ∧ isWide (reg p.val (4 * w.val)) = false)
      (fun u => (u.ack.plainWrite (u.partNo who) p.val (4 * w.val) v.toNat).masked p.val (4 * w.val)) ∧
    Does (fun dt => .errclrWrite dt who p v)
      (fun u => Writes who p.val 0xFFC u ∧ u.allocated p.val = true)
      (fun u => if v = 1 then (u.ack.wr (hErrcode p.val) 0).wr (hErraddr p.val) 0 else u.ack) ∧
    Does (fun dt => .evackWrite dt who p v again)
      (fun u => Writes who p.val 0x024 u ∧ u.allocated p.val = true)
      (fun u => u.ack.regSet (hEvraw p.val) (u.regGet (hEvraw p.val) &&&
        ~~~(v &&& ~~~(again ||| BitVec.ofNat 32 (u.evStands p.val))))) ∧
    Does (fun dt => .lockWrite dt who p v)
      (fun u => Writes who p.val 0x00C u ∧ u.allocated p.val = true ∧ nb v.toNat 0 = true ∧ u.bit (hLock p.val) 0 = false ∧
        crc16 (u.lockBytes p.val) = nf v.toNat 31 16)
      (fun u => u.ack.wr (hLock p.val) (nf v.toNat 31 16 * 65536 + 1)) ∧
    Does (fun dt => .lockWrite dt who p v)
      (fun u => Writes who p.val 0x00C u ∧ u.allocated p.val = true ∧ nb v.toNat 0 = true ∧ u.bit (hLock p.val) 0 = false ∧
        crc16 (u.lockBytes p.val) ≠ nf v.toNat 31 16)
      (fun u => (u.ack.wr (hLock p.val) (nf v.toNat 31 16 * 65536 + 2)).err p.val (u.partNo who) eDigest (hLock p.val)) ∧
    Does (fun dt => .cmtGo dt who p v)
      (fun u => Writes who p.val 0x030 u ∧ u.allocated p.val = true ∧ nb v.toNat 8 = true ∧ nb v.toNat 9 = false ∧
        u.isPending p.val = false ∧ u.goRange p.val (nf v.toNat 1 0) = false)
      (fun u => (((u.ack.cmtFields v.toNat p.val).putFld (hCmtstat p.val) 31 16 (nf v.toNat 31 16)).setCmtstat p.val 1 0 0).setPend
        p.val { armed := true, goTick := u.ticks, mode := nf v.toNat 1 0, axis := nf v.toNat 6 4
                t0 := if nf v.toNat 1 0 = 0 then some u.ticks else none }) ∧
    Does (fun dt => .cmtGo dt who p v)
      (fun u => Writes who p.val 0x030 u ∧ u.allocated p.val = true ∧ nb v.toNat 8 = true ∧ nb v.toNat 9 = false ∧
        u.isPending p.val = true)
      (fun u => u.ack.err p.val (u.partNo who) eShadowBusy (hCmt p.val)) ∧
    Does (fun dt => .cmtAbort dt who p v)
      (fun u => Writes who p.val 0x030 u ∧ u.allocated p.val = true ∧ u.isPending p.val = true ∧ v.toNat = 0x200)
      (fun u => u.ack.discard p.val rAborted) ∧
    Does (fun dt => .cmtAbort dt who p v)
      (fun u => Writes who p.val 0x030 u ∧ u.allocated p.val = true ∧ u.isPending p.val = false ∧ nb v.toNat 9 = true)
      (fun u => (u.ack.discard p.val rAborted).cmtFields v.toNat p.val) ∧
    (∀ r, rowOf (reg p.val (4 * w.val)) = some r → r.acc = .rw →
      Does (fun dt => .wideLoWrite dt who p w v)
        (fun u => Writes who p.val (4 * w.val) u ∧ u.allocated p.val = true ∧ isLo (reg p.val (4 * w.val)) = true)
        (fun u => { u.ack with ten := { u.ten with
          wideWr := tabSet (0, 0) u.ten.wideWr (wideKey who p.val) (reg p.val (4 * w.val) + 1, v.toNat) } }) ∧
      Does (fun dt => .wideHiWrite dt who p w v)
        (fun u => Writes who p.val (4 * w.val) u ∧ u.allocated p.val = true ∧ r.isHi (4 * w.val) = true ∧
          (tabGet (0, 0) u.ten.wideWr (wideKey who p.val)).1 ≠ reg p.val (4 * w.val) - 4 + 1)
        (fun u => u.ack.err p.val (u.partNo who) eBadValue (reg p.val (4 * w.val)))) ∧
    (∀ r, rowOf (reg p.val (4 * w.val)) = some r → r.acc = .rw →
      Does (fun dt => .wideHiWrite dt who p w v)
        (fun u => Writes who p.val (4 * w.val) u ∧ u.allocated p.val = true ∧ r.isHi (4 * w.val) = true ∧
          (tabGet (0, 0) u.ten.wideWr (wideKey who p.val)).1 = reg p.val (4 * w.val) - 4 + 1)
        (fun u => ({ u.ack with ten := { u.ten with wideWr := tabSet (0, 0) u.ten.wideWr (wideKey who p.val) (0, 0) } }.plainWrite
          (u.partNo who) p.val (4 * w.val - 4) (tabGet (0, 0) u.ten.wideWr (wideKey who p.val)).2).plainWrite
          (u.partNo who) p.val (4 * w.val) v.toNat)) ∧
    Does (fun dt => .wideLoRead dt who p w)
      (fun u => Reads who p.val (4 * w.val) u ∧ isLo (reg p.val (4 * w.val)) = true ∧ u.allocated p.val = true ∧
        isHiHalf (reg p.val (4 * w.val)) = false)
      (fun u => { (u.liveRead p.val (4 * w.val)).2.latchHi who p.val (4 * w.val) with
        resp := .data (u.liveRead p.val (4 * w.val)).1 })

/-- Completion, result and frame of the commands of the TEN pages. -/
def Obligations.OwnershipCommandsComplete : Prop :=
  ∀ (who : Init) (p : Fin 512) (k : Fin 128) (n : Fin 8) (v : Word) (h1 h2 : Bool) (cfg : HostCfg),
    Does (fun dt => .ownerWrite dt who p v)
      (fun u => Writes who p.val 0x008 u ∧ ownerFree p.val = true ∧ u.allocated p.val = true)
      (fun u => (u.ack.tryOwner (u.partNo who) p.val (nf v.toNat 7 0) (hOwner p.val)).gwyWatch) ∧
    Does (fun dt => .ownkWrite dt who k v)
      (fun u => Ready u ∧ u.live who = true ∧ u.mayTable who k.val = true)
      (fun u => (forL (wordPages k.val v.toNat) (fun pb t =>
        if t.allocated pb.1 && ownerFree pb.1 && (who == .boot || t.owns (u.partNo who) pb.1) && t.ownEntry pb.1 != pb.2 then
          t.tryOwner (u.partNo who) pb.1 pb.2 (R.TEN_OWN k.val) else t) u.ack).gwyWatch) ∧
    Does (fun dt => .grantkWrite dt who k v)
      (fun u => Ready u ∧ u.live who = true ∧ u.mayTable who k.val = true)
      (fun u => (forL (wordPages k.val v.toNat) (fun pb t =>
        if t.allocated pb.1 && (who == .boot || t.owns (u.partNo who) pb.1) &&
            t.fld (R.TEN_GRANT k.val) (8 * (pb.1 % 4) + 7) (8 * (pb.1 % 4)) != 0x80 + pb.2 % 128 then
          if t.bit (hLock pb.1) 0 then t.err pb.1 (u.partNo who) eLocked (R.TEN_GRANT k.val)
          else t.putFld (R.TEN_GRANT k.val) (8 * (pb.1 % 4) + 7) (8 * (pb.1 % 4)) (0x80 + pb.2 % 128)
        else t) u.ack).gwyWatch) ∧
    Does (fun dt => .denypop dt who) (fun u => Reads who 0x00B 0xC00 u)
      (fun u => { u with resp := .data (u.ten.deny.headD 0), ten := { u.ten with deny := u.ten.deny.tail } }) ∧
    Does (fun dt => .presetWrite dt who v)
      (fun u => Writes who 0x008 0xC00 u ∧ v.toNat = 0xA5C30000 + u.partNo who ∧ u.partNo who < 8 ∧ u.present (u.partNo who) = true)
      (fun u => u.ack.askReset (u.partNo who)) ∧
    Does (fun dt => .hostlinkDown dt) (fun u => Ready u ∧ u.host.up = true)
      (fun u => { u with host := { u.host with up := false } }.setPstate 6 psLinkdown) ∧
    Does (fun dt => .hostlinkUp dt cfg) (fun u => Ready u ∧ u.present 6 = true ∧ u.host.perst = false ∧ u.host.up = false)
      (fun u => ({ u with host := { u.host with up := true, cfg := joinCfg u.host.cfg cfg, msix := [] } }.setPstate 6 psRunning)) ∧
    Does (fun dt => .perstAssert dt) (fun u => Ready u ∧ u.present 6 = true)
      (fun u => { u with host := { up := false, perst := true, cfg := {}, msix := [] } }.setPstate 6 psLinkdown) ∧
    Does (fun dt => .perstRelease dt) (fun u => Ready u ∧ u.present 6 = true)
      (fun u => { u with host := { u.host with perst := false } }) ∧
    Does (fun dt => .partitionReset dt n h1 h2)
      (fun u => Ready u ∧ tabGet 0 u.ten.resetReq n.val ≠ 0 ∧ u.commitRuns n.val = false)
      (fun u => u.partReset n.val) ∧
    Does (fun dt => .partitionReset dt n h1 h2)
      (fun u => Ready u ∧ tabGet 0 u.ten.resetReq n.val = 0 ∧ u.pstate n.val = psResetting)
      (fun u => u.partRestart n.val h1 h2)

/-- R38, with the register file's view of ERRCODE and ERRADDR. -/
def Obligations.PresetOnlyByThePartitionItself : Prop :=
  (∀ f : MgtFrame, Does (fun dt => .mgtPreset dt f)
      (fun u => Authentic 0x10 f u ∧ f.pay.length = 2 ∧ u.sys.on = true ∧ mgtNum f 1 1 < 7 ∧ u.present (mgtNum f 1 1) = true)
      (fun u => (u.authed.mgtAccept 0x10 (mgtNum f 0 1)).askReset (mgtNum f 1 1))) ∧
  ∀ (dt : Nat) (who : Init) (v : Word) (s : State), Writes who 0x008 0xC00 (s.elapse dt) → (s.elapse dt).partNo who < 8 →
    ∃ t, exec (.presetWrite dt who v) s = .next t ∧
    if nf v.toNat 31 16 = 0xA5C3 ∧ nf v.toNat 15 3 = 0 ∧ nf v.toNat 2 0 = (s.elapse dt).partNo who ∧
        (s.elapse dt).present (nf v.toNat 2 0) = true then
      (∀ m, tabGet 0 t.ten.resetReq m = if m = nf v.toNat 2 0 then t.ticks + 1 else tabGet 0 s.ten.resetReq m) ∧
      t.regs = s.regs
    else t.ten = s.ten ∧ t.rd (hErraddr 0x008) = 0x40008C00 ∧
      t.rd (hErrcode 0x008) = 0x80000000 + (s.elapse dt).partNo who * 2 ^ 24 +
        (if nf v.toNat 31 16 = 0xA5C3 then eBadValue else eBadKey) ∧
      (∀ x, x ≠ hErrcode 0x008 → x ≠ hErraddr 0x008 → t.rd x = s.rd x)

/-- R43. `deny` is the access fault of R20 with the log of page 0x00B. -/
def Obligations.RegisterAccessRules : Prop :=
  ∀ (s : State) (who : Init) (x n : Nat) (v : BitVec 64) (ext : BitVec 48) (k p o : Nat),
    (n ≠ 4 ∨ x % 4 ≠ 0 →
      s.regAccess who x n .load ext = s.deny who (x / 4096) (x % 4096) false true ∧
      s.regAccess who x n (.store v) ext = s.deny who (x / 4096) (x % 4096) true true ∧
      s.regAccess who x n .fetch ext = s.deny who (x / 4096) (x % 4096) false true) ∧
    (∀ r, rowOf (reg p o) = some r → r.acc = .ro → o ≠ 0x030 → o ≠ 0x00C → s.plainWrite k p o v.toNat = s) ∧
    (rowOf (reg p o) = none → o < 4096 → s.plainRead p o = 0) ∧
    (rowOf (reg p o) = none → p < 512 → o < 4096 → s.headView p o = none → s.blockView p o = none → (s.liveRead p o).1 = 0)

/-- R20 and R63: the record of an access fault and its frame. -/
def Obligations.AccessFaultLeaves : Prop :=
  ∀ (s : State) (who : Init) (p o : Nat) (wr wd : Bool), p < 512 → o < 4096 → s.partNo who < 8 →
    (s.deny who p o wr wd).resp = .fault (if s.inDsec (s.partNo who) then (tabGet {} s.cyc.p (s.partNo who)).img.map (·.trap) else none) ∧
    (s.deny who p o wr wd).rd R.TEN_DENYCNT = min 0xFFFFFFFF (s.rd R.TEN_DENYCNT + 1) ∧
    (s.deny who p o wr wd).rd R.TEN_DENYOFS = o ∧
    (s.deny who p o wr wd).rd R.TEN_DENYLAST = 0x80000000 + s.partNo who * 2 ^ 24 + b2n wr * 2 ^ 23 + b2n wd * 2 ^ 22 +
      b2n (decide (0xC00 ≤ o)) * 2 ^ 21 + p ∧
    (s.deny who p o wr wd).rd (hErrcode 0x028) = 0x80000101 + s.partNo who * 2 ^ 24 ∧
    (s.deny who p o wr wd).rd (hErraddr 0x028) = 0x40000000 + p * 4096 + o ∧
    (s.deny who p o wr wd).bit (hEvraw 0x028) 3 = true ∧
    ((s.deny who p o wr wd).ten.deny.length = min 16 (s.ten.deny.length + 1) ∨ 16 < s.ten.deny.length) ∧
    (∀ x, x ∉ [R.TEN_DENYCNT, R.TEN_DENYLAST, R.TEN_DENYOFS, R.TEN_DENYOVF, hErrcode 0x028, hErraddr 0x028, hEvraw 0x028,
        R.MEM_ELOVF] → (s.deny who p o wr wd).rd x = s.rd x) ∧
    (s.deny who p o wr wd).mem.dram = s.mem.dram ∧ (s.deny who p o wr wd).mem.sram = s.mem.sram ∧
    (s.deny who p o wr wd).shadow = s.shadow ∧ (s.deny who p o wr wd).pending = s.pending

/-- R52 and step 3 of R54, for every RWS register and every group of pages. -/
def Obligations.CommitTakesTheShadows : Prop :=
  ∀ (s : State) (n p o v : Nat), p < 512 → o < 4096 →
    (∀ r, rowOf (reg p o) = some r → r.acc = .rws → ownRow p o = false → s.allocated p = true → s.absentReg p o = false → o ≠ 0x030 → o ≠ 0x00C →
      s.isPending p = false → s.mappedAt p o = false →
      (s.plainWrite n p o v).sh (reg p o) = (v &&& r.maskAt o) % 2 ^ 32 ∧
      ∀ x, (s.plainWrite n p o v).rd x = s.rd x ∧ (x ≠ reg p o → (s.plainWrite n p o v).sh x = s.sh x)) ∧
    (∀ x, x / 4096 = p → (s.dropShadows p).sh x = s.rd x) ∧
    (∀ g : List Nat, ∀ x, rising s.shadow = true → (s.taken g).rd x = if g.contains (x / 4096) then s.sh x else s.rd x)

/-- Completion, result and frame of the commands that need no key. -/
def Obligations.OpenManagementCommandsComplete : Prop :=
  ∀ (f : MgtFrame) (why : MgtBad) (cmd : Byte) (who : Init),
    Does (fun dt => .mgtIdent dt f) (fun u => Heard u ∧ f.pay.length = 0)
      (fun u => u.heard.mgtReply 0x01 0 mgOk (([R.SYS_ORDCODE, R.SYS_STEPPING, R.SYS_SERIAL, R.SYS_SERIAL + 4, R.SYS_DPROFILE].map
        (fun x => if u.sys.on then u.heard.rd x else 0) ++ [b2n u.heard.closed]).flatMap (bytesOf 4))) ∧
    Does (fun dt => .mgtHealth dt f) (fun u => Heard u ∧ f.pay.length = 0 ∧ u.sys.on = false)
      (fun u => u.heard.mgtReply 0x02 0 mgOk (([0, b2n (u.heard.bit R.MGT_STAT 3), 0, 0, 0, u.heard.rd R.PWR_STAT, u.sys.kind,
        u.heard.calNow / 32768 % 2 ^ 32, u.heard.calNow / 32768 / 2 ^ 32] ++ u.heard.replicaWords.map (fun _ => 0)).flatMap
        (bytesOf 4))) ∧
    Does (fun dt => .mgtHealth dt f) (fun u => Heard u ∧ f.pay.length = 0 ∧ u.sys.on = true)
      (fun u => u.heard.mgtReply 0x02 0 mgOk (([1, b2n (u.heard.bit R.MGT_STAT 3), u.heard.rd R.TEN_PSTATE, u.heard.hlthOwn,
        u.heard.rd R.RDN_HLTHPART, u.heard.rd R.PWR_STAT, u.sys.kind,
        u.heard.calNow / 32768 % 2 ^ 32, u.heard.calNow / 32768 / 2 ^ 32] ++ u.heard.replicaWords).flatMap (bytesOf 4))) ∧
    Does (fun dt => .mgtNonce dt f) (fun u => Heard u ∧ f.pay.length = 0)
      (fun u => { u.heard with free := u.free + 2, mgt := { u.mgt with nonce := some (bytesOf 8 (u.heard.draw 64).1 ++
          bytesOf 8 ((u.heard.draw 64).2.draw 64).1, u.ticks) } }.mgtReply 0x06 0 mgOk
        (bytesOf 8 (u.heard.draw 64).1 ++ bytesOf 8 ((u.heard.draw 64).2.draw 64).1)) ∧
    Does (fun dt => .mgtUnknownCmd dt cmd f)
      (fun u => Heard u ∧ f.pay.length ≤ 1024 ∧ ¬ (1 ≤ cmd.toNat ∧ cmd.toNat ≤ 7) ∧ ¬ (0x10 ≤ cmd.toNat ∧ cmd.toNat ≤ 0x17))
      (fun u => u.heard.mgtReply cmd.toNat 0 mgBadcmd []) ∧
    Does (fun dt => .mgtBadFrame dt why) (fun u => Heard u)
      (fun u => match why with
        | .crc => u.incSat R.MGT_CRCERR
        | .len => u.incSat R.MGT_CRCERR
        | .addr => u
        | .early => u.incSat R.MGT_OVERRUN) ∧
    Does (fun dt => .mgtReadpage dt f)
      (fun u => Heard u ∧ f.auth = false ∧ u.heard.closed = false ∧ f.pay.length = 5 ∧ u.sys.on = true ∧ mgtNum f 0 2 < 512 ∧
        mgtNum f 2 2 % 4 = 0 ∧ 1 ≤ mgtNum f 4 1 ∧ mgtNum f 4 1 ≤ 64 ∧ mgtNum f 2 2 + 4 * mgtNum f 4 1 ≤ 0xC00)
      (fun u => (u.heard.readRegs (mgtNum f 0 2) (mgtNum f 2 2) (mgtNum f 4 1)).2.mgtReply 0x03 0 mgOk
        (u.heard.readRegs (mgtNum f 0 2) (mgtNum f 2 2) (mgtNum f 4 1)).1) ∧
    Does (fun dt => .mgtReadpage dt f)
      (fun u => Authentic 0x03 f u ∧ f.auth = true ∧ f.pay.length = 6 ∧ u.sys.on = true ∧ mgtNum f 1 2 < 512 ∧
        mgtNum f 3 2 % 4 = 0 ∧ 1 ≤ mgtNum f 5 1 ∧ mgtNum f 5 1 ≤ 64 ∧ mgtNum f 3 2 + 4 * mgtNum f 5 1 ≤ 0xC00)
      (fun u => (u.authed.readRegs (mgtNum f 1 2) (mgtNum f 3 2) (mgtNum f 5 1)).2.mgtData 0x03 (mgtNum f 0 1) f
        (u.authed.readRegs (mgtNum f 1 2) (mgtNum f 3 2) (mgtNum f 5 1)).1) ∧
    (∀ r, Does (fun dt => .mgtReadevr dt f)
      (fun u => Heard u ∧ f.auth = false ∧ u.heard.closed = false ∧ f.pay.length = 8 ∧ u.sys.on = true ∧
        u.heard.findRec (mgtNum f 0 8) = some r)
      (fun u => u.heard.mgtReply 0x04 0 mgOk r.image)) ∧
    (∀ r, Does (fun dt => .mgtReadevr dt f)
      (fun u => Authentic 0x04 f u ∧ f.auth = true ∧ f.pay.length = 9 ∧ u.sys.on = true ∧
        u.authed.findRec (mgtNum f 1 8) = some r)
      (fun u => u.authed.mgtData 0x04 (mgtNum f 0 1) f r.image)) ∧
    Does (fun dt => .mgtReadlife dt f)
      (fun u => Heard u ∧ f.auth = false ∧ u.heard.closed = false ∧ f.pay.length = 2 ∧ u.sys.on = true ∧
        1 ≤ mgtNum f 1 1 ∧ mgtNum f 1 1 ≤ 32 ∧ mgtNum f 0 1 + mgtNum f 1 1 ≤ 128)
      (fun u => u.heard.mgtReply 0x05 0 mgOk ((List.range (mgtNum f 1 1)).flatMap (fun i => bytesOf 8
        (if u.heard.lifeKind (mgtNum f 0 1 + i) = 0 then 0 else u.heard.rd64 (R.LIFE_VAL (mgtNum f 0 1 + i)))))) ∧
    Does (fun dt => .mgtReadlife dt f)
      (fun u => Authentic 0x05 f u ∧ f.auth = true ∧ f.pay.length = 3 ∧ u.sys.on = true ∧
        1 ≤ mgtNum f 2 1 ∧ mgtNum f 2 1 ≤ 32 ∧ mgtNum f 1 1 + mgtNum f 2 1 ≤ 128)
      (fun u => u.authed.mgtData 0x05 (mgtNum f 0 1) f ((List.range (mgtNum f 2 1)).flatMap (fun i => bytesOf 8
        (if u.authed.lifeKind (mgtNum f 1 1 + i) = 0 then 0 else u.authed.rd64 (R.LIFE_VAL (mgtNum f 1 1 + i)))))) ∧
    (∀ t, Does (fun dt => .authlockEnd dt) (fun u => u.mgt.lockTick = some t ∧ u.secSince t 60 = true)
      (fun u => { u.putBit R.MGT_STAT 1 false with mgt := { u.mgt with lockTick := none } })) ∧
    Does (fun dt => .resetHeld dt) (fun u => u.sys.standby = true ∧ u.sys.rstin = true ∧ 10 ≤ u.rstinSecs)
      (fun u => { (u.putBit R.MGT_STAT 3 true).wr R.MGT_RSTHELD u.rstinSecs with mgt := { u.mgt with held := true } }) ∧
    Does (fun dt => .mgtCntclr dt who 1)
      (fun u => u.sys.standby = true ∧ u.live who = true ∧ u.mayWrite who 0x0CF 0xC00 = true)
      (fun u => u.ack.zero [R.MGT_RXFRM, R.MGT_CRCERR, R.MGT_OVERRUN, R.MGT_AUTHOKCNT, R.MGT_AUTHFAILCNT, R.MGT_DENYCNT])

/-- Completion, result and frame of the commands of class Auth. -/
def Obligations.AuthenticatedCommandsComplete : Prop :=
  ∀ (f : MgtFrame) (ecc : Byte),
    Does (fun dt => .mgtReadmem dt f ecc)
      (fun u => Authentic 0x07 f u ∧ f.pay.length = 11 ∧ u.sys.on = true ∧ 1 ≤ mgtNum f 9 2 ∧ mgtNum f 9 2 ≤ 256 ∧
        dramBase ≤ mgtNum f 1 8 ∧ u.authed.grant7 (mgtNum f 1 8 - dramBase) (mgtNum f 9 2) = true ∧
        ((u.authed.upset ((mgtNum f 1 8 - dramBase) / 8) ecc.toNat).dramRead (mgtNum f 1 8 - dramBase) (mgtNum f 9 2) 7 5 0 0x0102
          0).poisoned (mgtNum f 1 8 - dramBase) (mgtNum f 9 2) = false)
      (fun u =>
        let w := (u.authed.upset ((mgtNum f 1 8 - dramBase) / 8) ecc.toNat).dramRead (mgtNum f 1 8 - dramBase) (mgtNum f 9 2) 7 5 0
          0x0102 0
        { w.mgtAccept 0x07 (mgtNum f 0 1) with
          resp := .reply mgOk (w.dramBytes (mgtNum f 1 8 - dramBase) (mgtNum f 9 2)) }) ∧
    Does (fun dt => .mgtPreset dt f)
      (fun u => Authentic 0x10 f u ∧ f.pay.length = 2 ∧ u.sys.on = true ∧ mgtNum f 1 1 < 7 ∧ u.authed.present (mgtNum f 1 1) = true)
      (fun u => (u.authed.mgtAccept 0x10 (mgtNum f 0 1)).askReset (mgtNum f 1 1)) ∧
    Does (fun dt => .mgtMreset dt f) (fun u => Authentic 0x11 f u ∧ f.pay.length = 1 ∧ u.sys.on = true)
      (fun u => (u.authed.mgtAccept 0x11 (mgtNum f 0 1)).shutdown rkMgt false) ∧
    Does (fun dt => .mgtRecovery dt f) (fun u => Authentic 0x12 f u ∧ f.pay.length = 1 ∧ u.sys.on = true)
      (fun u => (u.authed.mgtAccept 0x12 (mgtNum f 0 1)).shutdown rkRecovery false) ∧
    Does (fun dt => .mgtEvrclear dt f) (fun u => Authentic 0x13 f u ∧ f.pay.length = 2 ∧ u.sys.on = true ∧ mgtNum f 1 1 = 1)
      (fun u => (u.authed.mgtAccept 0x13 (mgtNum f 0 1)).clrArm) ∧
    Does (fun dt => .mgtEvrclear dt f)
      (fun u => Authentic 0x13 f u ∧ f.pay.length = 2 ∧ u.sys.on = true ∧ mgtNum f 1 1 = 2 ∧ u.authed.clrArmed = true)
      (fun u => (u.authed.mgtAccept 0x13 (mgtNum f 0 1)).clrStart 7) ∧
    Does (fun dt => .mgtPrimrel dt f)
      (fun u => Authentic 0x14 f u ∧ f.pay.length = 1 ∧ u.sys.on = true ∧ u.authed.prim = prHeld ∧ u.rdn.hbSeen = true ∧
        nb u.rdn.word 0 = true)
      (fun u => (u.authed.askRelease 7).mgtAccept 0x14 (mgtNum f 0 1)) ∧
    Does (fun dt => .mgtWake dt f) (fun u => Authentic 0x15 f u ∧ f.pay.length = 1 ∧ u.sys.on = false)
      (fun u => { u.authed.mgtAccept 0x15 (mgtNum f 0 1) with sys := { u.sys with wake := true } }.clockFree) ∧
    Does (fun dt => .mgtSetkey dt f)
      (fun u => Authentic 0x16 f u ∧ f.pay.length = 38 ∧ u.sys.on = true ∧ 1 ≤ mgtNum f 1 1 ∧ mgtNum f 1 1 ≤ 3 ∧
        mgtNum f 34 4 &&& 0xFF00FF01 = 0 ∧ (((mgtBytes f).drop 2).take 32).all (fun b => b == 0) = false)
      (fun u =>
        let x := tabIns (tabDel u.mgt.keys (mgtNum f 1 1)) (mgtNum f 1 1) (((mgtBytes f).drop 2).take 32)
        (({ u.authed with mgt := { u.authed.mgt with keys := x } }.putBit R.MGT_KEYSTAT (mgtNum f 1 1) true).wr
          (R.MGT_KEYACL (mgtNum f 1 1 - 1)) (mgtNum f 34 4)).mgtAccept 0x16 0) ∧
    Does (fun dt => .mgtClose dt f)
      (fun u => Authentic 0x17 f u ∧ f.pay.length = 5 ∧ u.sys.on = true ∧ mgtNum f 1 4 = 0x434C4F53)
      (fun u =>
        let a := ((u.authed.mgtAccept 0x17 0).putBit R.SYS_FUSESTAT 1 true).putBit R.MGT_STAT 2 true
        { a with mgt := { a.mgt with closeTick := some u.ticks } })

/-- R553: the lockout of authentication. -/
def Obligations.ThirdFailureLocksOut : Prop :=
  (∀ (s : State) (cmd slot : Nat) (go : State → State) (f : MgtFrame), s.mgt.lockTick = none → s.mgtTagOk cmd slot f = false →
    2 ≤ (s.mgt.fails.filter (fun t => !s.secSince t 60)).length →
    (s.mgtAuth cmd slot f go).resp = .reply mgAuthfail [] ∧ (s.mgtAuth cmd slot f go).mgt.lockTick = some s.ticks ∧
    (s.mgtAuth cmd slot f go).bit R.MGT_STAT 1 = true ∧ (s.mgtAuth cmd slot f go).bit (hEvraw 0x0CE) 3 = true) ∧
  (∀ (dt : Nat) (f : MgtFrame) (s : State) (t : Nat), (s.elapse dt).mgt.lockTick = some t → (s.elapse dt).secSince t 60 = false →
    Heard (s.elapse dt) →
    f.pay.length = 1 →
    exec (.mgtMreset dt f) s = .next ((s.elapse dt).heard.mgtReply 0x11 (mgtNum f 0 1) mgAuthlock []).msixSend ∧
    exec (.mgtRecovery dt f) s = .next ((s.elapse dt).heard.mgtReply 0x12 (mgtNum f 0 1) mgAuthlock []).msixSend ∧
    exec (.mgtPrimrel dt f) s = .next ((s.elapse dt).heard.mgtReply 0x14 (mgtNum f 0 1) mgAuthlock []).msixSend)

/-- Completion, result and frame of the commands of EVR. -/
def Obligations.EventRecorderCommandsComplete : Prop :=
  ∀ (who : Init) (v : Word),
    Does (fun dt => .evrFlush dt) (fun u => u.sys.on = true ∧ u.flushDue = true ∧ u.bit (hStat 0x0C8) 1 = false)
      (fun u => u.flushStart) ∧
    Does (fun dt => .evrFlushDone dt true) (fun u => u.sys.on = true ∧ u.bit (hStat 0x0C8) 1 = true)
      (fun u => u.storeFlushed.clrNext) ∧
    Does (fun dt => .evrFlushDone dt false) (fun u => u.sys.on = true ∧ u.bit (hStat 0x0C8) 1 = true)
      (fun u => (((({ u with evr := { u.evr with flushing := 0 } }.putBit (hStat 0x0C8) 1 false).putBit (hStat 0x0C8) 0 false).incSatF
        R.EVR_STORERR 31 16).raise 0x0C8 2).clrNext) ∧
    Does (fun dt => .evrFlushCmd dt who 1) (fun u => Writes who 0x0C8 0xC00 u)
      (fun u => { u.ack with evr := { u.evr with want := true } }) ∧
    Does (fun dt => .rdgo dt who 1) (fun u => Writes who 0x0C9 0xC00 u ∧ u.bit R.EVR_RDSTAT 0 = false)
      (fun u => { u.ack with evr := { u.evr with rd := some (u.rd64 R.EVR_RDSEQ) } }.wr R.EVR_RDSTAT 1) ∧
    Does (fun dt => .rdgo dt who 1) (fun u => Writes who 0x0C9 0xC00 u ∧ u.bit R.EVR_RDSTAT 0 = true)
      (fun u => u.ack.err 0x0C9 (u.partNo who) 0x0101 R.EVR_RDGO) ∧
    (∀ q r, Does (fun dt => .evrReadDone dt) (fun u => u.sys.on = true ∧ u.evr.rd = some q ∧
        { u with evr := { u.evr with rd := none } }.findRec q = some r)
      (fun u => (forN 16 (fun i (t : State) => t.wr (R.EVR_RDREC i) (fromBytes ((r.image.drop (4 * i)).take 4)))
        { u with evr := { u.evr with rd := none } }).wr R.EVR_RDSTAT 2)) ∧
    (∀ q, Does (fun dt => .evrReadDone dt) (fun u => u.sys.on = true ∧ u.evr.rd = some q ∧
        { u with evr := { u.evr with rd := none } }.findRec q = none)
      (fun u => { u with evr := { u.evr with rd := none } }.wr R.EVR_RDSTAT 4)) ∧
    Does (fun dt => .swgo dt who 1) (fun u => Writes who 0x0C9 0xC04 u ∧ u.fld R.EVR_SWCODE 18 16 ≤ 4 ∧
        (u.evr.sw.filter (fun t => decide (u.moduleTime < t + 4000000000) && decide (t ≤ u.moduleTime))).length < u.fld R.EVR_CFG 15 8)
      (fun u => { u.ack with evr := { u.evr with
          sw := u.evr.sw.filter (fun t => decide (u.moduleTime < t + 4000000000) && decide (t ≤ u.moduleTime)) ++ [u.moduleTime] } }.enter
        0x00 (u.partNo who) (u.fld R.EVR_SWCODE 15 0) (u.fld R.EVR_SWCODE 18 16) (u.partNo who) u.moduleTime
        ((List.range 8).map (fun i => u.rd (R.EVR_SWPAY i)))) ∧
    Does (fun dt => .swgo dt who 1) (fun u => Writes who 0x0C9 0xC04 u ∧ u.fld R.EVR_SWCODE 18 16 ≤ 4 ∧ u.fld R.EVR_CFG 15 8 ≤
        (u.evr.sw.filter (fun t => decide (u.moduleTime < t + 4000000000) && decide (t ≤ u.moduleTime))).length)
      (fun u => { u.ack with evr := { u.evr with
          sw := u.evr.sw.filter (fun t => decide (u.moduleTime < t + 4000000000) && decide (t ≤ u.moduleTime)) } }.incSat
        R.EVR_DROPCNT) ∧
    Does (fun dt => .swgo dt who 1) (fun u => Writes who 0x0C9 0xC04 u ∧ 4 < u.fld R.EVR_SWCODE 18 16)
      (fun u => u.ack.err 0x0C9 (u.partNo who) eBadValue R.EVR_SWGO) ∧
    Does (fun dt => .clrcmdArm dt who v)
      (fun u => Writes who 0x0C8 0xC04 u ∧ nf v.toNat 31 16 = 0xE5C1 ∧ nf v.toNat 1 0 = 1 ∧ u.bit R.EVR_CFG 0 = true)
      (fun u => u.ack.clrArm) ∧
    Does (fun dt => .clrcmdClear dt who v)
      (fun u => Writes who 0x0C8 0xC04 u ∧ nf v.toNat 31 16 = 0xE5C1 ∧ nf v.toNat 1 0 = 2 ∧ u.ack.clrArmed = true ∧
        u.bit R.EVR_CFG 0 = true)
      (fun u => u.ack.clrStart (u.partNo who)) ∧
    Does (fun dt => .clrcmdClear dt who v)
      (fun u => Writes who 0x0C8 0xC04 u ∧ nf v.toNat 31 16 = 0xE5C1 ∧ nf v.toNat 1 0 = 2 ∧ u.ack.clrArmed = false)
      (fun u => u.ack.err 0x0C8 (u.partNo who) 0x0102 R.EVR_CLRCMD) ∧
    (∀ c, Does (fun dt => .evrClearDone dt) (fun u => u.sys.on = true ∧ u.evr.clr = some c ∧ c.flushed = true)
      (fun u => (({ u with evr := { u.evr with
          stored := u.evr.stored.filter (fun b => decide (b.first < 16384) || b.recs.any (fun r => decide (c.below ≤ r.seq)))
          recentFrom := max c.below 16384, clr := none } }.evrShow).incWrap R.EVR_CLRCNT).raise 0x0C8 3)) ∧
    Does (fun dt => .clearArmExpiry dt)
      (fun u => Ready u ∧ u.bit (hStat 0x0C8) 2 = true ∧ u.secSince u.evr.armTick 10 = true)
      (fun u => u.putBit (hStat 0x0C8) 2 false) ∧
    Does (fun dt => .evrCntclr dt who 1) (fun u => Writes who 0x0C8 0xC08 u)
      (fun u => (u.ack.wr R.EVR_DROPCNT 0).wr R.EVR_STORERR 0)

/-- Completion, result and frame of the commands of LIFE. -/
def Obligations.LifeAndCalendarCommandsComplete : Prop :=
  ∀ (who : Init) (v : Word),
    Does (fun dt => .lifeSecond dt) (fun u => u.sys.on = true ∧ u.secSince u.life.secTick 1 = true)
      (fun u => forN 128 (fun k t => if t.lifeKind k = 1 ∧ t.lifeHolds (t.lifeSrc k) then t.lifeCount k 1 else t)
        { u with life := { u.life with secTick := u.life.secTick + 100000000 } }) ∧
    Does (fun dt => .lifeSave dt true) (fun u => Ready u ∧ u.stage = 5 ∧ u.secSince u.life.saveTick (u.fld R.LIFE_LIFESAVE 9 0) = true)
      (fun u => u.lifeStore) ∧
    Does (fun dt => .lifeSave dt false) (fun u => Ready u ∧ u.stage = 5 ∧ u.secSince u.life.saveTick (u.fld R.LIFE_LIFESAVE 9 0) = true)
      (fun u => { u with life := { u.life with saveTick := u.ticks, older := none } }.raise 0x0CA 1) ∧
    Does (fun dt => .cntcmdAdd dt who v)
      (fun u => Writes who 0x0CA 0xC00 u ∧ nf v.toNat 31 16 = 0x1F3D ∧ nf v.toNat 1 0 = 1 ∧ u.ack.lifeKind (nf v.toNat 14 8) = 4)
      (fun u => u.ack.lifeCount (nf v.toNat 14 8) 1) ∧
    Does (fun dt => .cntcmdAdd dt who v)
      (fun u => Writes who 0x0CA 0xC00 u ∧ nf v.toNat 31 16 = 0x1F3D ∧ nf v.toNat 1 0 = 1 ∧ u.ack.lifeKind (nf v.toNat 14 8) ≠ 4)
      (fun u => u.ack.err 0x0CA (u.partNo who) eBadValue R.LIFE_CNTCMD) ∧
    Does (fun dt => .cntcmdReset dt who v)
      (fun u => Writes who 0x0CA 0xC00 u ∧ nf v.toNat 31 16 = 0x1F3D ∧ nf v.toNat 1 0 = 2 ∧ u.bit (R.LIFE_CFG (nf v.toNat 14 8)) 3 = false)
      (fun u => (u.ack.wr64 (R.LIFE_VAL (nf v.toNat 14 8)) 0).record 0x16 0x0001 1 0x0CA u.moduleTime
        [nf v.toNat 14 8, 0, u.rd64 (R.LIFE_VAL (nf v.toNat 14 8)) % 2 ^ 32, u.rd64 (R.LIFE_VAL (nf v.toNat 14 8)) / 2 ^ 32,
          u.rd (R.LIFE_CFG (nf v.toNat 14 8))]) ∧
    Does (fun dt => .cntcmdReset dt who v)
      (fun u => Writes who 0x0CA 0xC00 u ∧ nf v.toNat 31 16 = 0x1F3D ∧ nf v.toNat 1 0 = 2 ∧ u.bit (R.LIFE_CFG (nf v.toNat 14 8)) 3 = true)
      (fun u => u.ack.err 0x0CA (u.partNo who) 0x0101 R.LIFE_CNTCMD) ∧
    Does (fun dt => .calendarDiscipline dt)
      (fun u => u.sys.on = true ∧ u.timeLocked = true ∧ u.secSince u.life.discTick 64 = true ∧
        ((u.calNow : Int) * 4000000000 / 32768 - u.utcNow).natAbs ≤ 4000000)
      (fun u => ((({ u with life := { u.life with discTick := u.ticks, calTai := some (u.fld R.TMB_TAIUTC 15 0) } }.calHold).wr
        R.LIFE_CALTRIM (toBits 16 (clampInt (-2000) 2000 (u.calTrim - Int.tdiv ((u.calNow : Int) * 4000000000 / 32768 - u.utcNow) 25600)))).putBit
        R.LIFE_CALSTAT 0 true).putBit R.LIFE_CALSTAT 1
        (decide (clampInt (-2000) 2000 (u.calTrim - Int.tdiv ((u.calNow : Int) * 4000000000 / 32768 - u.utcNow) 25600) ≠ 0))) ∧
    Does (fun dt => .calendarDiscipline dt)
      (fun u => u.sys.on = true ∧ u.timeLocked = true ∧ u.secSince u.life.discTick 64 = true ∧
        4000000 < ((u.calNow : Int) * 4000000000 / 32768 - u.utcNow).natAbs ∧
        ((u.calNow : Int) * 4000000000 / 32768 - u.utcNow).natAbs ≤ 4000000000)
      (fun u => ((({ u with life := { u.life with discTick := u.ticks, calTai := some (u.fld R.TMB_TAIUTC 15 0) } }.calSet
          (u.utcNow * 32768 / 4000000000).toNat).wr
        R.LIFE_CALTRIM (toBits 16 (clampInt (-2000) 2000 (u.calTrim - Int.tdiv ((u.calNow : Int) * 4000000000 / 32768 - u.utcNow) 25600)))).putBit
        R.LIFE_CALSTAT 0 true).putBit R.LIFE_CALSTAT 1
        (decide (clampInt (-2000) 2000 (u.calTrim - Int.tdiv ((u.calNow : Int) * 4000000000 / 32768 - u.utcNow) 25600) ≠ 0))) ∧
    Does (fun dt => .calendarStop dt) (fun _ => True) (fun u => u.putBit R.LIFE_CALSTAT 0 false)

/-- R524. -/
def Obligations.CalgoSetsTheCalendar : Prop :=
  ∀ (dt : Nat) (who : Init) (v : Word) (s : State), Writes who 0x0CB 0xC00 (s.elapse dt) → nf v.toNat 31 16 = 0x0CA1 →
    nb v.toNat 0 = true →
    ((s.elapse dt).timeLocked = false → ∃ t, exec (.calgo dt who v) s = .next t ∧ t.bit R.LIFE_CALSTAT 0 = true ∧
      t.calNow / 32768 = s.rd64 R.LIFE_CALSET ∧
      t = ((((s.elapse dt).ack.calSet (s.rd64 R.LIFE_CALSET * 32768)).record 0x16 0x0003 1 0x0CA (s.elapse dt).moduleTime
        [(s.elapse dt).calNow / 32768 % 2 ^ 32, (s.elapse dt).calNow / 32768 / 2 ^ 32,
          s.rd64 R.LIFE_CALSET % 2 ^ 32, s.rd64 R.LIFE_CALSET / 2 ^ 32]).putBit R.LIFE_CALSTAT 0 true).msixSend) ∧
    ((s.elapse dt).timeLocked = true →
      exec (.calgo dt who v) s = .next ((s.elapse dt).ack.err 0x0CB ((s.elapse dt).partNo who) 0x0102 R.LIFE_CALGO).msixSend)

/-- Completion, result and frame of the commands of MEM. -/
def Obligations.MemoryCommandsComplete : Prop :=
  ∀ (t : Fin 4) (l : Fin 3) (a : BitVec 40) (syn ecc : Byte) (code : Fin 8) (hi : Bool) (who : Init),
    Does (fun dt => .laneUncorrectableError dt t l a syn) (fun u => Ready u ∧ u.laneRuns t.val l.val = true ∧ u.split t.val = true)
      (fun u => ((((u.errAt 0x028 (u.partOfAny t.val l.val) 0x0106 (a.toNat % 2 ^ 32)).logErr a.toNat (u.partOfAny t.val l.val) 1
        (2 * t.val + l.val) 0x0106 syn.toNat 0).incSatF (R.MEM_LUE t.val) (8 * l.val + 7) (8 * l.val)).raise 0x028 2).except
        (u.partOfAny t.val l.val) .fault) ∧
    Does (fun dt => .laneUncorrectableError dt t l a syn) (fun u => Ready u ∧ u.laneRuns t.val l.val = true ∧ u.split t.val = false)
      (fun u =>
        let x := (((u.errAt 0x028 (u.partOfAny t.val l.val) 0x0106 (a.toNat % 2 ^ 32)).logErr a.toNat (u.partOfAny t.val l.val) 0
          t.val 0x0106 syn.toNat 0).incSatF (R.MEM_LUE t.val) (8 * l.val + 7) (8 * l.val)).raise 0x028 2
        { x with mem := { x.mem with marked := tabSet false x.mem.marked (3 * t.val + l.val) true } }) ∧
    Does (fun dt => .laneCorrectableError dt t l) (fun u => Ready u ∧ u.laneRuns t.val l.val = true)
      (fun u => (u.incSatF (R.MEM_LCE t.val) (8 * l.val + 7) (8 * l.val)).ceCount) ∧
    Does (fun dt => .laneScrub dt t l)
      (fun u => Ready u ∧ u.bit R.MEM_CTRL 1 = true ∧ u.laneRuns t.val l.val = true ∧ u.split t.val = false ∧
        u.secSince (tabGet 0 u.mem.laneScrub (3 * t.val + l.val)) 10 = true)
      (fun u =>
        let x := tabSet 0 (tabSet 0 u.mem.laneScrub (3 * t.val) u.ticks) (3 * t.val + 1) u.ticks
        { u with mem := { u.mem with laneScrub := tabSet 0 x (3 * t.val + 2) u.ticks } }) ∧
    Does (fun dt => .laneScrub dt t l)
      (fun u => Ready u ∧ u.bit R.MEM_CTRL 1 = true ∧ u.laneRuns t.val l.val = true ∧ u.split t.val = true ∧
        u.secSince (tabGet 0 u.mem.laneScrub (3 * t.val + l.val)) 10 = true)
      (fun u => { u with mem := { u.mem with laneScrub := tabSet 0 u.mem.laneScrub (3 * t.val + l.val) u.ticks } }) ∧
    Does (fun dt => .dramScrub dt ecc)
      (fun u => u.sys.on = true ∧ u.bit R.MEM_CTRL 0 = true ∧ u.bit R.MEM_STAT 0 = true ∧ u.rd64 R.MEM_SCRUBPOS + 8 < dataEnd ∧
        u.mem.passStart + u.rd64 R.MEM_SCRUBPOS / 8 * (u.mem.scrubPer * 100000000) / scrubWords ≤ u.ticks)
      (fun u => ((u.upset (u.rd64 R.MEM_SCRUBPOS / 8) ecc.toNat).dramRead (u.rd64 R.MEM_SCRUBPOS) 8
        (u.scrubPart (u.rd64 R.MEM_SCRUBPOS)) 4 0 0x0103 0).wr64 R.MEM_SCRUBPOS
        (u.rd64 R.MEM_SCRUBPOS + 8)) ∧
    Does (fun dt => .dramScrub dt ecc)
      (fun u => u.sys.on = true ∧ u.bit R.MEM_CTRL 0 = true ∧ u.bit R.MEM_STAT 0 = true ∧ dataEnd ≤ u.rd64 R.MEM_SCRUBPOS + 8 ∧
        u.mem.passStart + u.rd64 R.MEM_SCRUBPOS / 8 * (u.mem.scrubPer * 100000000) / scrubWords ≤ u.ticks)
      (fun u =>
        let y := u.upset (u.rd64 R.MEM_SCRUBPOS / 8) ecc.toNat
        let x := ((y.dramRead (u.rd64 R.MEM_SCRUBPOS) 8 (u.scrubPart (u.rd64 R.MEM_SCRUBPOS)) 4 0 0x0103 0).wr64 R.MEM_SCRUBPOS
          0).incWrap R.MEM_SCRUBPASS
        { x with mem := { x.mem with passStart := x.ticks, scrubPer := x.fld R.MEM_SCRUBPER 16 0 } }) ∧
    Does (fun dt => .dramTempPoll dt code hi) (fun u => u.sys.on = true ∧ u.msSince u.mem.tempTick 16 = true)
      (fun u => ((({ u with mem := { u.mem with tempTick := u.ticks } }.wr R.MEM_DRAMTEMP code.val).putBit R.MEM_STAT 1 hi)).raiseIf
        hi 0x028 7) ∧
    Does (fun dt => .ceWindowEnd dt) (fun u => u.sys.on = true ∧ u.secSince u.mem.ceStart 3600 = true)
      (fun u => { u with mem := { u.mem with ceStart := u.mem.ceStart + 360000000000, ceRaised := false } }.wr R.MEM_CERATE 0) ∧
    Does (fun dt => .memCntclr dt who 1) (fun u => Writes who 0x02A 0xC00 u)
      (fun u => u.ack.zero [R.MEM_CEDRAM, R.MEM_UEDRAM, R.MEM_ADDRERR, R.MEM_POISONRD, R.MEM_FRAMERR,
        R.MEM_LCE 0, R.MEM_LCE 1, R.MEM_LCE 2, R.MEM_LCE 3, R.MEM_LUE 0, R.MEM_LUE 1, R.MEM_LUE 2, R.MEM_LUE 3]) ∧
    Does (fun dt => .elnext dt who 1) (fun u => Writes who 0x02B 0xC00 u)
      (fun u => { u.ack with mem := { u.mem with elog := u.mem.elog.tail } })

/-- Completion, result and frame of the commands that move an axis. -/
def Obligations.AxisStateCommandsComplete : Prop :=
  ∀ (k ph : Fin 8) (n : Fin 4) (w : List ChIn) (c v : Int) (d : Fin 384),
    Does (fun dt => .axisMeasurement dt (.mains n w) ph) (fun u => Ready u ∧ u.bit (R.AXS_MDCFG n.val) 0 = true)
      (fun u => forL ((u.mdTake n.val (u.phase ph.val) w).axesOn [1] n.val) (fun k t =>
          if t.axState k = axLocked then (t.axRearm k).observe k (u.phase ph.val) (t.md n.val).val (t.md n.val).dt else t)
        (u.mdTake n.val (u.phase ph.val) w)) ∧
    Does (fun dt => .axisMeasurement dt (.encoder n c) ph) (fun u => Ready u ∧ u.bit (R.AXS_ENCCFG n.val) 0 = true)
      (fun u => forL ((u.encTake n.val c (u.phase ph.val)).axesOn [2, 4] n.val) (fun k t =>
          if t.axState k = axLocked then (t.axRearm k).observe k (u.phase ph.val) (t.encPos k (u.phase ph.val)) (t.enc n.val).dt
          else t)
        (u.encTake n.val c (u.phase ph.val))) ∧
    Does (fun dt => .axisAcquired dt k v)
      (fun u => Ready u ∧ u.axState k.val = axAcquiring ∧ u.acquired k.val = true)
      (fun u =>
        let back := (u.axis k.val).frozen && (u.axKind k.val == 2 || u.axKind k.val == 4)
        let v := if u.axKind k.val = 1 then (u.rd (R.AXS_MDFREQ (u.axInst k.val)) : Int) * 2 ^ 32 / 1000 else v
        let a := u.axOrigin k.val v
        let b := (if u.axKind k.val = 5 then a else a.axSat k.val v).axBit k.val 6 false
        let c := if back then b.axBit k.val 7 true else b
        let e := (if u.axKind k.val = 4 ∧ !back then c.axBit k.val 8 true else c).axSetState k.val axLocked
        forL (e.axDescs k.val) (fun d t => t.armEntry d (t.axPos k.val) (t.axVel k.val)) e) ∧
    Does (fun dt => .axisLoss dt k) (fun u => Ready u ∧ u.axState k.val = axLocked ∧ u.lost k.val = true)
      (fun u => ((u.setAxis k.val { u.axis k.val with vloss := u.axVel k.val, holdTick := u.ticks }).incSat
        (R.AXS_LOSSCNT k.val)).axSetState k.val axHold) ∧
    Does (fun dt => .axisHoldRecover dt k)
      (fun u => Ready u ∧ u.axState k.val = axHold ∧ u.srcValid k.val (u.axis k.val).holdTick = true ∧ u.axKind k.val ≠ 5)
      (fun u => (u.axResume k.val).axSetState k.val axLocked) ∧
    Does (fun dt => .axisHoldRecover dt k)
      (fun u => Ready u ∧ u.axState k.val = axHold ∧ u.axKind k.val = 5 ∧ u.timeOk k.val = true)
      (fun u => u.axSetState k.val axLocked) ∧
    Does (fun dt => .axisHoldExpired dt k)
      (fun u => Ready u ∧ u.axState k.val = axHold ∧ u.holdOver k.val = true)
      (fun u =>
        let x := u.axInstant k.val 0
        let p := u.estPos ((u.axis k.val).est.headD {}) x
        let a := u.axPut k.val { t := x, p := p }
        let b := a.setAxis k.val { a.axis k.val with hidP := p, hidTick := a.ticks, frozen := true, slews := [] }
        let c := if b.axKind k.val = 1 then b.axBit k.val 6 true else b
        (forL (c.axDescs k.val) (fun d t => t.setEntry d { t.entry d with hidden := true, hid := t.ticks }) c).axSetState
          k.val axFrozen) ∧
    Does (fun dt => .axisFrozenRecover dt k) (fun u => Ready u ∧ u.axState k.val = axFrozen ∧ u.srcValid k.val 0 = true)
      (fun u => ((u.setAxis k.val { u.axis k.val with agree := 0 }).encRestart k.val).axSetState k.val axAcquiring) ∧
    (∀ c, Does (fun dt => .axisTick dt k)
      (fun u => Ready u ∧ u.axLive k.val = true ∧ (u.axis k.val).crossed ≠ u.ticks + 1 ∧ ((u.axRearm k.val).tickCross k.val).getLast? = some c)
      (fun u =>
        let a := u.axRearm k.val
        let sp := a.tickSpan k.val
        let q := ((a.axLast k.val).1 * sp.2, a.axPos k.val * sp.2)
        (a.setAxis k.val { a.axis k.val with
          dis := (a.tickCross k.val).foldl disarm (a.axis k.val).dis, crossed := a.ticks + 1, tickN := (a.axis k.val).tickN + (a.tickCross k.val).length
          tickInst := a.crossInst q.1 q.2 c, tickPh := 8 * (a.ticks - 1) + crossPhase q.1 q.2 c, tickNo := c / sp.1 }).markPages
          (fun _ c => c.mode == 2 && c.axis == k.val))) ∧
    Does (fun dt => .hiddenTargetMissed dt d)
      (fun u => Ready u ∧ u.dOn d.val = true ∧ u.axState (u.dAxis d.val) = axFrozen ∧ (u.entry d.val).hidden = true)
      (fun u =>
        let a := u.axis (u.dAxis d.val)
        (u.setEntry d.val { u.entry d.val with hid := u.ticks }).miss d.val
          (crossings (u.targets d.val).1 (u.targets d.val).2 (u.leadOf d.val (a.hidAt (u.entry d.val).hid) a.vloss)
            (u.leadOf d.val (a.hidAt u.ticks) a.vloss) [] (u.dDir d.val != 1) (u.dDir d.val != 0)).length)

/-- Completion, result and frame of the other commands of AXS. -/
def Obligations.AxisInputsAndFireflyComplete : Prop :=
  ∀ (who : Init) (k ph : Fin 8) (n : Fin 4) (m : Fin 2) (d : Fin 384) (count : Nat) (w : BitVec 33) (level : Bool),
    Does (fun dt => .encoderLineFault dt n .line) (fun u => Ready u ∧ u.bit (R.AXS_ENCCFG n.val) 0 = true)
      (fun u => (((u.setEnc n.val { u.enc n.val with line := true }).encLost n.val).incSatF (R.AXS_ENCERR n.val) 15 0).raise
        0x040 n.val) ∧
    Does (fun dt => .encoderLineFault dt n .clear)
      (fun u => Ready u ∧ u.bit (R.AXS_ENCCFG n.val) 0 = true ∧ (u.enc n.val).line = true)
      (fun u => forL (u.axesOn [2, 4] n.val) (fun k t => if t.axState k = axAcquiring then t.encRestart k else t)
        (u.setEnc n.val { u.enc n.val with line := false, clean := u.ticks })) ∧
    Does (fun dt => .encoderLineFault dt n .transition) (fun u => Ready u ∧ u.bit (R.AXS_ENCCFG n.val) 0 = true)
      (fun u => ((u.encLost n.val).incSatF (R.AXS_ENCERR n.val) 31 16).raise 0x040 n.val) ∧
    Does (fun dt => .encoderZPulse dt n ph count) (fun u => Ready u ∧ u.bit (R.AXS_ENCCFG n.val) 0 = true)
      (fun u =>
        let l := (u.axesOn [2] n.val).filter (fun k => u.axState k == axLocked)
        let a := if u.bit (R.AXS_ENCCFG n.val) 3 then
            forL (l.filter (fun k => u.bit (R.AXS_STAT k) 7)) (fun k t => t.zRef k n.val (u.axInstant k ph.val)) u
          else u
        if u.bit (R.AXS_ENCCFG n.val) 2 && l.any (fun k => !u.bit (R.AXS_STAT k) 7 &&
            (decide (u.rd (R.AXS_ETOL k) * 2 ^ 16 < (u.zDiff k n.val (u.axInstant k ph.val)).natAbs) ||
              count != u.rd (R.AXS_SCALE k))) then (a.incSatF (R.AXS_ENCERR n.val) 31 16).raise 0x040 n.val
        else a) ∧
    (∀ raw, Does (fun dt => .ssiFrame dt m ph (.bits w))
      (fun u => Ready u ∧ u.bit (R.AXS_SSICFG m.val) 0 = true ∧ ((u.ssi m.val).clean = 0 ∨
        (u.ssi m.val).clean + 100 * u.fld (R.AXS_SSITIM m.val) 31 16 ≤ u.ticks + 1) ∧ u.ssiWord m.val w.toNat = some raw)
      (fun u =>
        let a := u.setSsi m.val { u.ssi m.val with clean := u.ticks + 1 }
        let b := a.setSsi m.val ((a.ssi m.val).meas raw (a.phase ph.val))
        let c := forL (a.axesOn [3] m.val) (fun k t => t.ssiFeed k raw (u.ssi m.val).val) b
        if (a.axesOn [3] m.val).any (fun k => c.axState k == axLocked && (c.axis k).rej != 0) then c.ssiInvalid m.val
        else (c.setSsi m.val { c.ssi m.val with bad := 0 }).wr (R.AXS_SSIRAW m.val) raw)) ∧
    Does (fun dt => .ssiFrame dt m ph (.bits w))
      (fun u => Ready u ∧ u.bit (R.AXS_SSICFG m.val) 0 = true ∧ ((u.ssi m.val).clean = 0 ∨
        (u.ssi m.val).clean + 100 * u.fld (R.AXS_SSITIM m.val) 31 16 ≤ u.ticks + 1) ∧ u.ssiWord m.val w.toNat = none)
      (fun u => ((u.setSsi m.val { u.ssi m.val with clean := u.ticks + 1 }).incSatF (R.AXS_SSIERR m.val) 15 0).ssiMissed
        m.val) ∧
    Does (fun dt => .ssiFrame dt m ph .timeout)
      (fun u => Ready u ∧ u.bit (R.AXS_SSICFG m.val) 0 = true ∧ ((u.ssi m.val).clean = 0 ∨
        (u.ssi m.val).clean + 100 * u.fld (R.AXS_SSITIM m.val) 31 16 ≤ u.ticks + 1))
      (fun u => ((u.setSsi m.val { u.ssi m.val with clean := u.ticks + 1 }).incSatF (R.AXS_SSIERR m.val) 31 16).ssiMissed
        m.val) ∧
    (∀ line, Does (fun dt => .scheduleEntryFire dt d) (fun u => Ready u ∧ (u.entryFire d.val).2 = some line)
      (fun u => (u.entryFire d.val).1.canStrobe line)) ∧
    Does (fun dt => .scheduleEntryFire dt d) (fun u => Ready u ∧ (u.entryFire d.val).2 = none)
      (fun u => (u.entryFire d.val).1) ∧
    Does (fun dt => .fixgo dt who k 1)
      (fun u => Writes who (0x041 + k.val) 0xC04 u ∧ u.axKind k.val = 4 ∧ u.ack.axLive k.val = true ∧
        u.rd64 (R.AXS_FIXTIME k.val) ≤ u.moduleTime ∧ u.moduleTime ≤ u.rd64 (R.AXS_FIXTIME k.val) + 4000000000)
      (fun u => u.ack.applyFix k.val (u.rd64 (R.AXS_FIXPOS k.val)) (u.rd64 (R.AXS_FIXTIME k.val))) ∧
    Does (fun dt => .fixgo dt who k 1) (fun u => Writes who (0x041 + k.val) 0xC04 u ∧ u.axKind k.val ≠ 4)
      (fun u => u.ack.err (0x041 + k.val) (u.partNo who) 0x0101 (R.AXS_FIXGO k.val)) ∧
    Does (fun dt => .fixgo dt who k 1)
      (fun u => Writes who (0x041 + k.val) 0xC04 u ∧ u.axKind k.val = 4 ∧ u.axLive k.val = true ∧
        (u.moduleTime < u.rd64 (R.AXS_FIXTIME k.val) ∨ u.rd64 (R.AXS_FIXTIME k.val) + 4000000000 < u.moduleTime))
      (fun u => u.ack.err (0x041 + k.val) (u.partNo who) 0x0102 (R.AXS_FIXGO k.val)) ∧
    Does (fun dt => .axisCapture dt who k 1) (fun u => Writes who (0x041 + k.val) 0xC00 u)
      (fun u => ((u.ack.wr64 (R.AXS_CPOS k.val) (toBits 64 (u.axPos k.val))).wr64 (R.AXS_CVEL k.val)
        (toBits 64 (u.axVel k.val))).wr64 (R.AXS_CTIME k.val) u.moduleTime) ∧
    Does (fun dt => .seclr dt who 1) (fun u => Writes who 0x04F 0xC00 u)
      (fun u => { u.ack with axs := { u.axs with
        ent := forN 384 (fun d t => tabMod {} t d (fun e => { e with fires := 0, missed := 0 })) u.axs.ent } }.wr R.AXS_MISSTOT 0) ∧
    (∀ o, Does (fun dt => .fireflyStrobe dt n)
      (fun u => Ready u ∧ u.ffOn n.val = true ∧ u.strobed (u.fld (R.AXS_FFCFG n.val) 9 4) (u.firefly n.val).seen = some o ∧
        u.ffMode n.val = 0 ∧ ((u.firefly n.val).fall = 0 ∨ (u.firefly n.val).fall ≤ 8 * o.tick + 16))
      (fun u => u.setFirefly n.val (u.ffPulse n.val { (u.firefly n.val).settle (8 * u.ticks) with seen := o.count } (o.ph + 32)))) ∧
    (∀ o, Does (fun dt => .fireflyStrobe dt n)
      (fun u => Ready u ∧ u.ffOn n.val = true ∧ u.strobed (u.fld (R.AXS_FFCFG n.val) 9 4) (u.firefly n.val).seen = some o ∧
        u.ffMode n.val = 0 ∧ (u.firefly n.val).fall ≠ 0 ∧ 8 * o.tick + 16 < (u.firefly n.val).fall)
      (fun u => (u.setFirefly n.val { (u.firefly n.val).settle (8 * u.ticks) with seen := o.count }).incSat
        (R.AXS_FFOVR n.val))) ∧
    (∀ o, Does (fun dt => .fireflyStrobe dt n)
      (fun u => Ready u ∧ u.ffOn n.val = true ∧ u.strobed (u.fld (R.AXS_FFCFG n.val) 9 4) (u.firefly n.val).seen = some o ∧
        u.ffMode n.val = 1)
      (fun u =>
        let f := { (u.firefly n.val).settle (8 * u.ticks) with seen := o.count }
        u.setFirefly n.val (f.edge (o.ph + 32) (!f.level (o.ph + 32))))) ∧
    Does (fun dt => .fireflyPps dt n)
      (fun u => Ready u ∧ u.ffOn n.val = true ∧ u.ffMode n.val = 2 ∧ u.moduleTime % 4000000000 < 80 ∧
        (u.firefly n.val).pps ≤ 8 * u.ticks - u.moduleTime % 4000000000 / 5)
      (fun u => u.setFirefly n.val { u.ffPulse n.val ((u.firefly n.val).settle (8 * u.ticks))
        (8 * u.ticks - u.moduleTime % 4000000000 / 5) with pps := 8 * u.ticks - u.moduleTime % 4000000000 / 5 + 1 }) ∧
    Does (fun dt => .fireflyPulseEnd dt n)
      (fun u => Ready u ∧ (u.firefly n.val).fall ≠ 0 ∧ (u.firefly n.val).fall ≤ 8 * u.ticks)
      (fun u => u.setFirefly n.val { (u.firefly n.val).settle (8 * u.ticks) with fall := 0 }) ∧
    (∀ x l, Does (fun dt => .fireflyReadback dt n level)
      (fun u => Ready u ∧ (u.firefly n.val).back = x :: l ∧ u.ffOn n.val = true ∧ x + 80 ≤ 8 * u.ticks ∧
        u.ffPin n.val (x + 80) ≠ level)
      (fun u => ((u.setFirefly n.val { u.firefly n.val with back := l }).incSat (R.AXS_FFFLT n.val)).raise 0x04E n.val)) ∧
    (∀ x l, Does (fun dt => .fireflyReadback dt n level)
      (fun u => Ready u ∧ (u.firefly n.val).back = x :: l ∧ u.ffOn n.val = true ∧ x + 80 ≤ 8 * u.ticks ∧
        u.ffPin n.val (x + 80) = level)
      (fun u => u.setFirefly n.val { u.firefly n.val with back := l }))

/-- Completion, result and frame of the commands of TRI. -/
def Obligations.TriadCommandsComplete : Prop :=
  ∀ (who : Init) (t : Fin 4) (x : TriVote) (irq : Irq) (r : Nat) (wfi : Bool) (v : Word) (l : Nat) (q : Nat),
    Does (fun dt => .stateAudit dt t x) (fun u => Ready u ∧ u.votes t.val = true)
      (fun u => { (u.triVote t.val x true 0).1 with resp := u.resp }) ∧
    Does (fun dt => .scarabSelftest dt t true true)
      (fun u => Ready u ∧ u.votes t.val = true ∧
        ((u.triT t.val).stNow.isSome || u.msSince (u.triT t.val).stTick (u.fld (R.TRI_STPERIOD t.val) 9 0)) = true)
      (fun u => u.selftest t.val true true) ∧
    Does (fun dt => .scarabSelftest dt t false true)
      (fun u => Ready u ∧ u.votes t.val = true ∧ (u.selftest t.val false true).cicada = false ∧
        ((u.triT t.val).stNow.isSome || u.msSince (u.triT t.val).stTick (u.fld (R.TRI_STPERIOD t.val) 9 0)) = true)
      (fun u => (u.selftest t.val false true).triHalt t.val) ∧
    Does (fun dt => .stnow dt who t 1)
      (fun u => Writes who (triVoter t.val) 0xC00 u ∧ u.allocated (triVoter t.val) = true ∧
        (u.ack.triMode t.val = tm2oo3 ∨ u.ack.triMode t.val = tm2oo2))
      (fun u => (u.ack.setTriT t.val { u.triT t.val with stNow := some u.ticks }).putBit (R.TRI_VSTAT t.val) 2 true) ∧
    Does (fun dt => .interruptArrival dt t irq r wfi)
      (fun u => Ready u ∧ u.partOfTriad t.val = some q ∧ (u.triMode t.val = tm2oo3 ∨ u.triMode t.val = tm2oo2) ∧
        u.inDsec q = false ∧ u.bit (R.TRI_STAT t.val) 4 = false ∧ (u.triT t.val).irqs = [])
      (fun u => u.setTriT t.val { u.triT t.val with
        irqs := [irq], target := some (if wfi then r else r + u.rd (R.TRI_IRQMARGIN t.val)) }) ∧
    Does (fun dt => .interruptArrival dt t irq r wfi)
      (fun u => Ready u ∧ u.partOfTriad t.val = some q ∧ (u.triMode t.val = tm2oo3 ∨ u.triMode t.val = tm2oo2) ∧
        (u.inDsec q = true ∨ u.bit (R.TRI_STAT t.val) 4 = true ∨ (u.triT t.val).irqs ≠ []))
      (fun u => u.setTriT t.val { u.triT t.val with
        irqs := if (u.triT t.val).irqs.contains irq then (u.triT t.val).irqs else (u.triT t.val).irqs ++ [irq] }) ∧
    Does (fun dt => .interruptTaken dt t r)
      (fun u => Ready u ∧ (u.triT t.val).irqs ≠ [] ∧ ((u.triT t.val).target = none ∨ (u.triT t.val).target = some r) ∧
        u.votes t.val = true ∧ u.partOfTriad t.val = some q ∧ u.inDsec q = false)
      (fun u => u.setTriT t.val { u.triT t.val with
        irqs := [], taken := irqOrder.filter (fun i => (u.triT t.val).irqs.contains i), target := none }) ∧
    Does (fun dt => .reintegration dt t true)
      (fun u => Ready u ∧ (u.triT t.val).run = none ∧ (u.triT t.val).wait = some (l, q) ∧ u.reintBoundary t.val = true ∧
        u.votes t.val = true)
      (fun u => u.reintStart t.val l) ∧
    Does (fun dt => .reintegration dt t true)
      (fun u => Ready u ∧ (u.triT t.val).run = some (l, q) ∧ (u.triT t.val).copied = false)
      (fun u => ((u.copyLane t.val (u.leadLane t.val) l).setLane t.val l lnSelftest).setTriT t.val
        { u.triT t.val with copied := true }) ∧
    Does (fun dt => .reintegration dt t false)
      (fun u => Ready u ∧ (u.triT t.val).run = some (l, q) ∧ (u.triT t.val).copied = false)
      (fun u => ({ u with free := u.free + 1 }.verdict t.val 3 vkOutput (u.draw 40).1).triHalt t.val) ∧
    Does (fun dt => .reintegration dt t true)
      (fun u => Ready u ∧ (u.triT t.val).run = some (l, q) ∧ (u.triT t.val).copied = true ∧
        ((u.setLane t.val l lnActive).setTriMode t.val tm2oo3).partOfTriad t.val = none)
      (fun u => (((u.setLane t.val l lnActive).setTriMode t.val tm2oo3).raise (triPage t.val) 1).reintEnd t.val) ∧
    Does (fun dt => .reintegration dt t false)
      (fun u => Ready u ∧ (u.triT t.val).run = some (l, q) ∧ (u.triT t.val).copied = true)
      (fun u => ((u.fenceLane t.val l fcSelftest).raise (triPage t.val) 2).reintEnd t.val) ∧
    Does (fun dt => .lanecmdFence dt who t v)
      (fun u => Writes who (triPage t.val) 0xC00 u ∧ u.allocated (triPage t.val) = true ∧ nf v.toNat 31 16 = 0xF3C5 ∧ nf v.toNat 3 0 = 1 ∧ nf v.toNat 5 4 ≠ 3 ∧
        u.ack.laneState t.val (nf v.toNat 5 4) ≠ lnOff ∧ u.ack.laneState t.val (nf v.toNat 5 4) ≠ lnFenced ∧
        u.ack.split t.val = false ∧ u.ack.triMode t.val ≠ tmHalted ∧
        2 ≤ ((u.ack.activeLanes t.val).filter (fun m => m != nf v.toNat 5 4)).length)
      (fun u => u.ack.laneCommand t.val (nf v.toNat 5 4)) ∧
    Does (fun dt => .lanecmdFence dt who t v)
      (fun u => Writes who (triPage t.val) 0xC00 u ∧ u.allocated (triPage t.val) = true ∧ nf v.toNat 31 16 ≠ 0xF3C5)
      (fun u => u.ack.err (triPage t.val) (u.partNo who) eBadKey (reg (triPage t.val) 0xC00))

/-- Completion, result and frame of the commands of CYC. -/
def Obligations.CycleCommandsComplete : Prop :=
  ∀ (who : Init) (n : Fin 6) (v : Word),
    Does (fun dt => .startCold dt who n v)
      (fun u => CycWrites who n.val 1 v u ∧ u.cycState n.val = cyStopped ∧ (u.cy n.val).img.isSome = true)
      (fun u => u.ack.cycStart n.val .cold) ∧
    Does (fun dt => .startWarm dt who n v)
      (fun u => CycWrites who n.val 2 v u ∧ u.cycState n.val = cyStopped ∧ (u.cy n.val).img.isSome = true)
      (fun u => u.ack.cycStart n.val .warm) ∧
    Does (fun dt => .startCold dt who n v)
      (fun u => CycWrites who n.val 1 v u ∧ (u.cycState n.val ≠ cyStopped ∨ (u.cy n.val).img = none))
      (fun u => u.ack.err (cycPage n.val) (u.partNo who) eBadValue (reg (cycPage n.val) 0xC00)) ∧
    Does (fun dt => .startWarm dt who n v)
      (fun u => CycWrites who n.val 2 v u ∧ (u.cycState n.val ≠ cyStopped ∨ (u.cy n.val).img = none))
      (fun u => u.ack.err (cycPage n.val) (u.partNo who) eBadValue (reg (cycPage n.val) 0xC00)) ∧
    Does (fun dt => .stop dt who n v)
      (fun u => CycWrites who n.val 3 v u ∧ u.cycRunning n.val = true)
      (fun u => u.ack.cycAsk n.val) ∧
    Does (fun dt => .stop dt who n v) (fun u => CycWrites who n.val 3 v u ∧ u.cycRunning n.val = false)
      (fun u => u.ack.err (cycPage n.val) (u.partNo who) eBadValue (reg (cycPage n.val) 0xC00)) ∧
    (∀ b, Does (fun dt => .chgload dt who n v)
      (fun u => CycWrites who n.val 4 v u ∧ u.dmode n.val = true ∧ (u.cy n.val).img.isSome = true ∧
        u.cycState n.val ≠ cyChanging ∧ u.ack.prepared n.val = some b)
      (fun u => (u.ack.setCy n.val { u.cy n.val with
        next := some (imgParse b), loading := true, loadTick := u.ticks, nextBad := 0 }).putBit (R.CYC_STAT n.val) 8 false)) ∧
    Does (fun dt => .chgload dt who n v)
      (fun u => CycWrites who n.val 4 v u ∧ u.dmode n.val = true ∧ (u.cy n.val).img.isSome = true ∧
        u.cycState n.val ≠ cyChanging ∧ u.ack.prepared n.val = none)
      (fun u => u.ack.err (cycPage n.val) (u.partNo who) 0x0105 (reg (cycPage n.val) 0xC00)) ∧
    Does (fun dt => .chgarm dt who n v)
      (fun u => CycWrites who n.val 5 v u ∧ u.cycState n.val = cyRunning ∧ u.bit (R.CYC_STAT n.val) 8 = true ∧
        (u.cy n.val).stop = false)
      (fun u =>
        let a := (u.ack.putFld (R.CYC_STAT n.val) 2 0 cyChanging).setCy n.val { u.cy n.val with
          chgTick := none, arm := some (u.ticks, u.partNo who, u.rd (hCmtstat (cycPage n.val))) }
        (a.putFld (hCmtstat (cycPage n.val)) 31 16 (a.fld (hCmt (cycPage n.val)) 31 16)).setCmtstat (cycPage n.val) 1 0 0) ∧
    Does (fun dt => .chgarm dt who n v)
      (fun u => CycWrites who n.val 5 v u ∧ (u.cycState n.val ≠ cyRunning ∨ u.bit (R.CYC_STAT n.val) 8 = false ∨
        (u.cy n.val).stop = true))
      (fun u => u.ack.err (cycPage n.val) (u.partNo who) eBadValue (reg (cycPage n.val) 0xC00)) ∧
    Does (fun dt => .chgabort dt who n v)
      (fun u => CycWrites who n.val 6 v u ∧ u.cycState n.val = cyChanging ∧ (u.cy n.val).old = none)
      (fun u => u.ack.dropChange n.val) ∧
    Does (fun dt => .chgabort dt who n v)
      (fun u => CycWrites who n.val 6 v u ∧ (u.cycState n.val ≠ cyChanging ∨ (u.cy n.val).old.isSome = true))
      (fun u => u.ack.err (cycPage n.val) (u.partNo who) eBadValue (reg (cycPage n.val) 0xC00)) ∧
    Does (fun dt => .groupcmt dt who n v)
      (fun u => CycWrites who n.val 7 v u ∧ u.cycState n.val ≠ cyIdle ∧ u.cycState n.val ≠ cyHalted)
      (fun u => u.ack.markPages (fun q c => u.ack.owns n.val q && c.mode == 3)) ∧
    (∀ c ∈ [fun dt => Instr.startCold dt who n v, fun dt => .startWarm dt who n v, fun dt => .stop dt who n v,
        fun dt => .chgload dt who n v, fun dt => .chgarm dt who n v, fun dt => .chgabort dt who n v, fun dt => .groupcmt dt who n v],
      Does c (fun u => Writes who (cycPage n.val) 0xC00 u ∧ nf v.toNat 31 16 ≠ 0x6C3A)
        (fun u => u.ack.err (cycPage n.val) (u.partNo who) eBadKey (reg (cycPage n.val) 0xC00))) ∧
    Does (fun dt => .cycCntclr dt who n 1) (fun u => Writes who (cycPage n.val) 0xC04 u)
      (fun u => u.ack.zero [R.CYC_CYCMAX n.val, R.CYC_OVRCNT n.val, R.CYC_WDCNT n.val, R.CYC_REFCNT n.val])

/-- Completion, result and frame of the events of CYC. -/
def Obligations.CycleEventsComplete : Prop :=
  ∀ (n : Fin 6) (ok dis : Bool),
    Does (fun dt => .cycStartComplete dt n) (fun u => Ready u ∧ u.cycState n.val = cyStarting)
      (fun u => (u.setCy n.val { u.cy n.val with tready := some u.moduleTime, saveTick := u.ticks }).setCycState n.val cyRunning) ∧
    (∀ i ts ns, Does (fun dt => .snapshotInstant dt n)
      (fun u => Ready u ∧ u.cycRunning n.val = true ∧ (u.cy n.val).opn = false ∧ (u.cy n.val).old = none ∧
        (u.cy n.val).chgTick = none ∧ (u.cy n.val).img = some i ∧ u.nextTs n.val = some (ts, ns))
      (fun u =>
        let r := i.src.foldl (fun a e =>
          if e.queue then (a.1 ++ [([], 0, ts - 1)], a.2)
          else (a.1 ++ [(a.2.srcTake (u.cy n.val) a.1.length e ts).1], (a.2.srcTake (u.cy n.val) a.1.length e ts).2)) (([] : List (List Nat × Nat × Nat)), u)
        (r.2.setCy n.val { u.cy n.val with
          cycle := (u.cy n.val).cycle + 1, prev := (u.cy n.val).ts, ts := ts, base := ts, nostrobe := ns, tready := none
          opn := true, retired := false, sealed := some r.1, fresh := false }).putBit (R.CYC_STAT n.val) 6 true)) ∧
    (∀ i vals, Does (fun dt => .snapshotDelivery dt n)
      (fun u => Ready u ∧ u.cycRunning n.val = true ∧ (u.cy n.val).opn = true ∧ (u.cy n.val).img = some i ∧
        (u.cy n.val).sealed = some vals ∧ (u.cy n.val).base + 40 * sealDelay i.src ≤ u.moduleTime)
      (fun u =>
        let c := u.cy n.val
        let r := (i.src.zip vals).foldl (fun (a : List (MapEnt × List Nat × Nat × Nat) × State) x =>
          let w := if x.1.queue then a.2.queueTake x.1 c.ts else (u.srcLate c a.1.length x.2 c.ts, a.2)
          (a.1 ++ [(x.1, w.1)], w.2)) ([], u)
        let m := r.2.sealMarks i.src
        let qs := r.1.map (fun x => (x.1, x.2.1, m.srcQual n.val x.1 x.2.2.1 x.2.2.2 c.ts))
        let vimg := qs.foldl (fun g x => place g x.1.dofs (padTo x.1.len x.2.1)) (List.replicate i.inlen 0)
        let qimg := qs.foldl (fun g x => if x.1.qual then place g x.1.qofs [x.2.2] else g) vimg
        let stale := (qs.filter (fun x => nb x.2.2 3)).length
        let w := (m.winPut n.val kSnapshot 64 (m.forceImage n.val false qimg)).winPut n.val kSnapshot 0
          (snapHeader c i ((m.forces [] n.val).any (fun f => !f.2.1)))
        let e := (w.wr64 (R.CYC_TS n.val) c.ts).wr (R.CYC_SEALDLY n.val) ((w.moduleTime - c.base) / 40)
        let z := (((e.wr (R.CYC_STALECNT n.val) stale).setCy n.val { c with
          sealed := none, fresh := !c.retired, kind := 0, first := false
          hist := c.hist.map (fun h => (h.1, e.histKeep c.ts h.2)) }).raise (cycPage n.val) 0).raiseIf (stale != 0)
          (cycPage n.val) 12
        z.cycResume n.val)) ∧
    (∀ i g tc, Does (fun dt => .commitComplete dt n dis)
      (fun u => u.sys.on = true ∧ (u.cy n.val).img = some i ∧ (u.cy n.val).staged = some g ∧ g.tc = some tc ∧ u.usSince tc 1 = true)
      (fun u => u.commitDone n.val i)) ∧
    (∀ i g, Does (fun dt => .commitComplete dt n false)
      (fun u => Ready u ∧ (u.cy n.val).img = some i ∧ (u.cy n.val).staged = some g ∧ g.tc = none ∧ g.bad = none ∧ g.tick < u.ticks)
      (fun u => u.commitStrobe n.val i g)) ∧
    (∀ i g e o, Does (fun dt => .commitComplete dt n false)
      (fun u => Ready u ∧ (u.cy n.val).img = some i ∧ (u.cy n.val).staged = some g ∧ g.tc = none ∧ g.bad = some (e, o))
      (fun u => u.commitRefuse n.val e o)) ∧
    (∀ i g, Does (fun dt => .commitComplete dt n true)
      (fun u => Ready u ∧ (u.cy n.val).img = some i ∧ (u.cy n.val).staged = some g ∧ g.tc = none)
      (fun u =>
        let a := (u.setCy n.val { u.cy n.val with staged := none }).revert n.val (u.dmode n.val)
        let b := (((a.gapBack n.val 1).cycErr n.val 0x0104).raise (cycPage n.val) 13).cycHalt n.val
        if u.cycState n.val == cyHalted then b.haltEnd n.val else b)) ∧
    Does (fun dt => .watchdogExpiry dt n)
      (fun u => Ready u ∧ u.cycRunning n.val = true ∧ (u.cy n.val).opn = true ∧ (u.cy n.val).retired = false ∧
        (u.cy n.val).base + u.maxCyc n.val < u.moduleTime)
      (fun u =>
        let a := (((u.incSat (R.CYC_WDCNT n.val)).cycErr n.val 0x0101).raise (cycPage n.val) 8).dropChange n.val
        let b := if u.dmode n.val then (a.revert n.val true).cycEnd n.val 1
          else a.setCy n.val { a.cy n.val with opn := false, sealed := none, fresh := false }
        let c := b.setCy n.val { b.cy n.val with stop := false }
        if c.bit (R.CYC_CTRL n.val) 8 then ((c.retSave n.val true).safeCommit n.val).askReset n.val
        else if c.cycRunning n.val then c.cycStop n.val
        else c) ∧
    Does (fun dt => .retainedSave dt n ok)
      (fun u => Ready u ∧ u.cycRunning n.val = true ∧ u.fld (R.CYC_RSAVE n.val) 12 0 ≠ 0 ∧
        u.msSince (u.cy n.val).saveTick (10 * u.fld (R.CYC_RSAVE n.val) 12 0) = true)
      (fun u => (u.setCy n.val { u.cy n.val with saveTick := u.ticks }).retSave n.val ok)

/-- Completion, result and frame of LOADDONE, CHANGE_APPLY and PAGE_COMMIT_APPLY. -/
def Obligations.ChangeAndCommitBoundariesComplete : Prop :=
  ∀ (n : Fin 6) (p : Fin 512),
    (∀ i b, Does (fun dt => .loaddone dt n false)
      (fun u => Ready u ∧ (u.cy n.val).next = some i ∧ u.prepared n.val = some b ∧ (u.cy n.val).loading = true)
      (fun u => (((u.winPut n.val kDcode (if u.bit (R.CYC_STAT n.val) 9 then 0 else u.winSize n.val kDcode / 2)
        (b.take (u.winSize n.val kDcode / 2))).setCy n.val { u.cy n.val with loading := false, next := none }).cycErr n.val
        0x0103).raise (cycPage n.val) 3)) ∧
    (∀ i b, Does (fun dt => .loaddone dt n true)
      (fun u => Ready u ∧ (u.cy n.val).next = some i ∧ u.prepared n.val = some b ∧ (u.cy n.val).loading = true)
      (fun u =>
        let a := u.winPut n.val kDcode (if u.bit (R.CYC_STAT n.val) 9 then 0 else u.winSize n.val kDcode / 2)
          (b.take (u.winSize n.val kDcode / 2))
        ((a.setCy n.val { u.cy n.val with loading := false, nextBad := verdictCode (a.imgCheck n.val i true) }).putBit
          (R.CYC_STAT n.val) 8 true).raise (cycPage n.val) 3)) ∧
    (∀ i b, Does (fun dt => .changeApply dt n)
      (fun u => Ready u ∧ u.cycState n.val = cyChanging ∧ (u.cy n.val).old = none ∧ (u.cy n.val).chgTick = some b ∧
        (u.cy n.val).next = some i ∧ (u.cy n.val).nextBad ≠ 0)
      (fun u => (((u.chgStat (cycPage n.val) 3 ((u.cy n.val).nextBad / 256) ((u.cy n.val).nextBad % 256)).setCy n.val
        { u.cy n.val with chgTick := none }).raise (cycPage n.val) 2).putFld (R.CYC_STAT n.val) 2 0 cyRunning)) ∧
    (∀ i b, Does (fun dt => .changeApply dt n)
      (fun u => Ready u ∧ u.cycState n.val = cyChanging ∧ (u.cy n.val).old = none ∧ (u.cy n.val).chgTick = some b ∧
        (u.cy n.val).next = some i ∧ (u.cy n.val).nextBad = 0 ∧ u.mapOwned n.val i = true)
      (fun u =>
        let a := (u.useImage n.val (some i)).srcStart
        let c := a.setCy n.val { a.cy n.val with old := (u.cy n.val).img, next := none, chgTick := none }
        let d := (c.putBit (R.CYC_STAT n.val) 9 (!c.bit (R.CYC_STAT n.val) 9)).putBit (R.CYC_STAT n.val) 8 false
        ((d.incWrap (hGen (cycPage n.val))).incWrap (R.CYC_CHGCNT n.val)).chgStat (cycPage n.val) 2 0 0)) ∧
    (∀ i o, Does (fun dt => .changeApply dt n)
      (fun u => Ready u ∧ u.cycState n.val = cyChanging ∧ (u.cy n.val).old = some o ∧ (u.cy n.val).img = some i ∧
        (u.winMeet n.val kRetained (u.rhalf n.val) o.area).migPoison n.val o = none)
      (fun u =>
        let c := u.cy n.val
        let w := u.winMeet n.val kRetained (u.rhalf n.val) o.area
        let half := w.bit (R.CYC_STAT n.val) 10
        let a := ((w.putBit (R.CYC_STAT n.val) 10 (!half)).winPut n.val kRetained
          (if half then 0 else w.winSize n.val kRetained / 2) (migrate o i c.ret)).winPut n.val kOutimg 0
          (padTo i.outlen (c.out.take o.outlen))
        let d := a.setCy n.val { c with
          old := none, ret := migrate o i c.ret, out := padTo i.outlen (c.out.take o.outlen), kind := 3
          tready := c.tready.map (fun t => max t a.moduleTime) }
        let e := ((d.orphans n.val).raise (cycPage n.val) 2).putFld (R.CYC_STAT n.val) 2 0 cyRunning
        if c.stop then e.cycStop n.val else e)) ∧
    (∀ i b, Does (fun dt => .changeApply dt n)
      (fun u => Ready u ∧ u.cycState n.val = cyChanging ∧ (u.cy n.val).old = none ∧ (u.cy n.val).chgTick = some b ∧
        (u.cy n.val).next = some i ∧ (u.cy n.val).nextBad = 0 ∧ u.mapOwned n.val i = false)
      (fun u => (((u.chgStat (cycPage n.val) 3 rRange 0).setCy n.val
        { u.cy n.val with chgTick := none }).raise (cycPage n.val) 2).putFld (R.CYC_STAT n.val) 2 0 cyRunning)) ∧
    Does (fun dt => .pageCommitApply dt p)
      (fun u => Ready u ∧ u.isPending p.val = true ∧ (u.pend p.val).armed = true ∧ (u.pend p.val).t0.isSome = true ∧
        u.ownerHalted p.val = false ∧ u.descWaits p.val = false ∧
        ∀ q ∈ u.commitGroup p.val, u.pageCheck (u.commitGroup p.val) q = .ok)
      (fun u => u.applyGroup (u.commitGroup p.val)) ∧
    Does (fun dt => .pageCommitApply dt p)
      (fun u => Ready u ∧ u.isPending p.val = true ∧ (u.pend p.val).armed = true ∧ (u.pend p.val).t0.isSome = true ∧
        u.ownerHalted p.val = false ∧ u.descWaits p.val = false ∧
        ∃ q ∈ u.commitGroup p.val, u.pageCheck (u.commitGroup p.val) q ≠ .ok)
      (fun u => forL (u.commitGroup p.val) (fun q t => t.refuseCommit q (u.pageCheck (u.commitGroup p.val) q)) u)

/-- Completion, result and frame of the commands of the instruction set, and of PRIMACY_HELD. -/
def Obligations.XnyvasInstructionsComplete : Prop :=
  ∀ (who : Init) (n : Fin 6) (e : BitVec 25) (m : Fin 4) (rd : Nat) (gap : LaneCtx) (v : TriVote) (w : State),
    Does (fun dt => .nvSnap dt who e gap v)
      (fun u => Executes who n u ∧ nvFields e = some (0, rd) ∧ gap.priv.val ≤ 1 ∧ u.inDsec n.val = false ∧ u.cyRuns n.val = true ∧ Agreed who v u w)
      (fun _ => { w.setCy n.val { w.cy n.val with
          gap := if w.dmode n.val then some gap else none, rd := rd
          waits := if (w.cy n.val).waits.contains (initCode who) then (w.cy n.val).waits
            else (w.cy n.val).waits ++ [initCode who] } with resp := .waits }.cycResume n.val) ∧
    Does (fun dt => .nvSnap dt who e gap v)
      (fun u => Executes who n u ∧ nvFields e = some (0, rd) ∧ gap.priv.val ≤ 1 ∧ (u.inDsec n.val = true ∨ u.cyRuns n.val = false)) (fun u => u.illegal n.val) ∧
    (∀ i, Does (fun dt => .nvCommit dt who e m v)
      (fun u => Executes who n u ∧ nvFields e = some (1, rd) ∧ m.val ≤ 1 ∧ rd = 0 ∧ u.dmode n.val = true ∧ u.inDsec n.val = true ∧ u.cyRuns n.val = true ∧ Agreed who v u w ∧
        (w.cy n.val).img = some i ∧ (w.cy n.val).opn = true ∧ (w.cy n.val).retired = false ∧ w.dmode n.val = true)
      (fun _ => { w with resp := .done }.commitTake n.val i)) ∧
    (∀ i, Does (fun dt => .nvCommit dt who e m v)
      (fun u => Executes who n u ∧ nvFields e = some (1, rd) ∧ m.val ≤ 1 ∧ u.dmode n.val = false ∧ u.inDsec n.val = false ∧ u.cyRuns n.val = true ∧ Agreed who v u w ∧
        (w.cy n.val).img = some i ∧ (w.cy n.val).opn = true ∧ (w.cy n.val).retired = false ∧ w.dmode n.val = false)
      (fun _ => { w.setCy n.val { w.cy n.val with waitC := true } with resp := .waits }.commitTake n.val i)) ∧
    (∀ i, Does (fun dt => .nvCommit dt who e m v)
      (fun u => Executes who n u ∧ nvFields e = some (1, rd) ∧ m.val ≤ 1 ∧ u.dmode n.val = false ∧ u.inDsec n.val = false ∧ u.cyRuns n.val = true ∧ Agreed who v u w ∧
        (w.cy n.val).img = some i ∧ ((w.cy n.val).opn = false ∨ (w.cy n.val).retired = true))
      (fun _ => { w with resp := .data 1 })) ∧
    Does (fun dt => .nvCommit dt who e m v)
      (fun u => Executes who n u ∧ nvFields e = some (1, rd) ∧ m.val ≤ 1 ∧ (u.dmode n.val = true ∧ u.inDsec n.val = false ∨ u.cyRuns n.val = false ∨
        u.inDsec n.val = true ∧ rd ≠ 0)) (fun u => u.illegal n.val) ∧
    Does (fun dt => .nvAbort dt who e m v)
      (fun u => Executes who n u ∧ nvFields e = some (2, rd) ∧ m.val ≤ 1 ∧ (u.dmode n.val = true → u.inDsec n.val = true) ∧ u.cyRuns n.val = true ∧ Agreed who v u w)
      (fun _ =>
        let a := { w with resp := .done }.revert n.val (w.dmode n.val)
        if (a.cy n.val).opn = true ∧ (a.cy n.val).retired = false then a.cycEnd n.val 1 else a) ∧
    Does (fun dt => .nvDstat dt who e m) (fun u => Executes who n u ∧ nvFields e = some (3, rd) ∧ m.val ≤ 1)
      (fun u => { u with resp := .data (b2n (u.inDsec n.val) + 2 * b2n (u.dmode n.val) + 4 * b2n (u.voted n.val)) }) ∧
    (∀ i x, Does (fun dt => .nvRbase dt who e m)
      (fun u => Executes who n u ∧ nvFields e = some (4, rd) ∧ m.val ≤ 1 ∧ (u.cy n.val).img = some i ∧ u.windowOf n.val kRetained = some x)
      (fun u => { u with resp := .data (if i.area = 0 then 0 else dramBase + u.wBase x + u.rhalf n.val) })) ∧
    Does (fun dt => .nvRbase dt who e m)
      (fun u => Executes who n u ∧ nvFields e = some (4, rd) ∧ m.val ≤ 1 ∧ ((u.cy n.val).img = none ∨ u.windowOf n.val kRetained = none))
      (fun u => { u with resp := .data 0 }) ∧
    (∀ i, Does (fun dt => .nvRmark dt who e m v)
      (fun u => Executes who n u ∧ nvFields e = some (5, rd) ∧ m.val ≤ 1 ∧ u.dmode n.val = false ∧ u.cyRuns n.val = true ∧ Agreed who v u w ∧
        (w.cy n.val).img = some i ∧ w.ckOn = false)
      (fun _ => { w.setCy n.val { w.cy n.val with mark := some (w.rd64 (R.CYC_CYCNT n.val), w.retNow n.val i) } with resp := .done })) ∧
    Does (fun dt => .nvRmark dt who e m v)
      (fun u => Executes who n u ∧ nvFields e = some (5, rd) ∧ m.val ≤ 1 ∧ (u.dmode n.val = true ∨ u.cyRuns n.val = false)) (fun u => u.illegal n.val) ∧
    Does (fun dt => .nvRstat dt who e m) (fun u => Executes who n u ∧ nvFields e = some (6, rd) ∧ m.val ≤ 1) (fun u => { u with resp := .data (u.cy n.val).rstat }) ∧
    (∀ c ∈ [fun dt => Instr.nvSnap dt who e gap v, fun dt => .nvCommit dt who e gap.priv v, fun dt => .nvAbort dt who e gap.priv v,
        fun dt => .nvDstat dt who e gap.priv, fun dt => .nvRbase dt who e gap.priv, fun dt => .nvRmark dt who e gap.priv v,
        fun dt => .nvRstat dt who e gap.priv],
      Does c (fun u => Executes who n u ∧ (nvFields e = none ∨ 1 < gap.priv.val)) (fun u => u.illegal n.val)) ∧
    Does (fun dt => .primacyHeld dt) (fun u => Ready u ∧ u.prim = prClaim ∧ u.msSince u.rdn.claimTick 1 = true)
      (fun u =>
        let a := (((((u.setPrim prHeld).setGates true).incWrap R.RDN_GAINCNT).wr64 R.RDN_GAIN
          ((u.setPrim prHeld).setGates true).moduleTime)).raise 0x0D0 0
        { a with rdn := { a.rdn with rel := false } }.takeoverStart)

/-- Completion, result and frame of LANE_MEMORY_ACCESS on the regions of R18 that programs use most. -/
def Obligations.LaneAccessesComplete : Prop :=
  ∀ (t : Fin 4) (b : Bool) (a : BitVec 40) (w : Fin 4) (v : BitVec 64) (ecc : BitVec 16) (vote : TriVote) (ext : BitVec 48),
    (∀ x, Does (fun dt => .laneMemoryAccess dt (.lane t b) a w .load ecc vote ext)
      (fun u => Ready u ∧ u.live (.lane t b) = true ∧ 0x800000000 ≤ a.toNat ∧ a.toNat + 2 ^ w.val ≤ 0x900000000 ∧
        u.dramWindow (.lane t b) (a.toNat - 0x800000000) (2 ^ w.val) .read = some x)
      (fun u =>
        let o := a.toNat - 0x800000000
        let m := (u.upset2 o ecc).dramRead o (2 ^ w.val) (u.partNo (.lane t b)) 1 (2 * t.val + b2n b) 0x0102 0
        match m.firstPoison o (2 ^ w.val) with
        | some y => m.poisonHit (.lane t b) (u.partNo (.lane t b)) x y false
        | none => { m with resp := .data (m.dramNum o (2 ^ w.val)) })) ∧
    (∀ x, Does (fun dt => .laneMemoryAccess dt (.lane t b) a 3 (.store v) ecc vote ext)
      (fun u => Ready u ∧ u.live (.lane t b) = true ∧ 0x800000000 ≤ a.toNat ∧ a.toNat + 8 ≤ 0x900000000 ∧ a.toNat % 8 = 0 ∧
        u.dramWindow (.lane t b) (a.toNat - 0x800000000) 8 .write = some x)
      (fun u =>
        let p := u.dramPut (a.toNat - 0x800000000) (bytesOf 8 v.toNat)
        { (match tabFind u.mem.resv (initCode (.lane t b)) with
          | some r => { p with mem := { p.mem with resv := tabIns p.mem.resv (initCode (.lane t b)) r } }
          | none => p) with resp := .done }.upset2 (a.toNat - 0x800000000) ecc)) ∧
    (∀ p : Fin 512, ∀ o : Fin 1024, a.toNat = 0x40000000 + 4096 * p.val + 4 * o.val →
      Does (fun dt => .laneMemoryAccess dt (.lane t b) a 2 .load ecc vote ext)
        (fun u => Ready u ∧ u.live (.lane t b) = true) (fun u => u.regLoad (.lane t b) p.val (4 * o.val)) ∧
      Does (fun dt => .laneMemoryAccess dt (.lane t b) a 2 (.store v) ecc vote ext)
        (fun u => Ready u ∧ u.live (.lane t b) = true)
        (fun u => u.regStore (.lane t b) p.val (4 * o.val) (v.setWidth 32) ext)) ∧
    (0x70000000 ≤ a.toNat → a.toNat + 8 ≤ 0x800000000 →
      Does (fun dt => .laneMemoryAccess dt (.lane t b) a w .load ecc vote ext)
        (fun u => Ready u ∧ u.live (.lane t b) = true) (fun u => u.busFault (.lane t b) a.toNat) ∧
      Does (fun dt => .laneMemoryAccess dt (.lane t b) a w (.store v) ecc vote ext)
        (fun u => Ready u ∧ u.live (.lane t b) = true) (fun u => u.busFault (.lane t b) a.toNat))

/-- Completion, result and frame of the commands of PAD, and of SAMPLE_SET_DELIVERY. -/
def Obligations.SampleCommandsComplete : Prop :=
  ∀ (who : Init) (v : Word) (n : Fin 24) (gone : BitVec 48) (m c : List ModWord) (x : List ChIn),
    Does (fun dt => .gridTick dt)
      (fun u => Ready u ∧ u.fbMove.gridSel.1 ≠ 0 ∧ u.fbMove.gridSel.1 ≠ 3 ∧ (u.fbMove.axis u.fbMove.gridAx).tickN ≠ u.fbMove.pad.seen)
      (fun u =>
        let a := u.fbMove.axis u.fbMove.gridAx
        { u.fbMove with pad := { u.fbMove.pad with seen := a.tickN } }.makeSet a.tickPh (a.tickNo % (u.fbMove.spc : Nat)).toNat
          u.fbMove.gridSel.1 u.fbMove.gridSel.2) ∧
    (∀ ph, Does (fun dt => .gridTick dt)
      (fun u => Ready u ∧ u.fbMove.gridSel.1 = 3 ∧ u.fbMove.pad.start = some ph)
      (fun u => (u.fbMove.fbStart ph u.fbMove.gridSel.2).makeSet ph 0 3 u.fbMove.gridSel.2)) ∧
    Does (fun dt => .gridTick dt)
      (fun u => Ready u ∧ u.fbMove.gridSel.1 = 3 ∧ u.fbMove.pad.start = none ∧ u.fbMove.gridStat ≠ 3)
      (fun u => (u.fbMove.fbStart u.fbMove.pad.lastPhase u.fbMove.gridSel.2).fbTick 0) ∧
    Does (fun dt => .gridTick dt)
      (fun u => Ready u ∧ u.fbMove.gridSel.1 = 3 ∧ u.fbMove.pad.start = none ∧ u.fbMove.gridStat = 3)
      (fun u => u.fbMove.fbTick ((u.fbMove.pad.idx + 1) % u.fbMove.spc)) ∧
    (∀ set rest, Does (fun dt => .sampleSetDelivery dt x) (fun u => Ready u ∧ u.pad.flight = set :: rest ∧ set.due ≤ u.ticks)
      (fun u => ((u.padDeliver set x).preAccept (u.padDeliver set x).pad.last).drcFrame (u.padDeliver set x).pad.last)) ∧
    Does (fun dt => .modulatorFault dt n true) (fun u => Ready u ∧ u.padOn = true ∧ u.pad.onTick + 20000 ≤ u.ticks)
      (fun u => ((u.putBit R.PAD_MFLTC n.val true).raise 0x065 2).xlatch n.val) ∧
    Does (fun dt => .modulatorFault dt n false) (fun u => Ready u ∧ u.padOn = true ∧ u.pad.onTick + 20000 ≤ u.ticks)
      (fun u => (u.putBit R.PAD_MFLTM n.val true).raise 0x065 2) ∧
    Does (fun dt => .settled dt n)
      (fun u => Ready u ∧ u.bit R.PAD_SETTLEMASK n.val = true ∧ tabGet 0 u.pad.settle n.val ≤ u.pad.last.phase)
      (fun u => (u.putBit R.PAD_SETTLEMASK n.val false).settleShow (u.rd R.PAD_SETTLEMASK)) ∧
    Does (fun dt => .livegrab dt who 1) (fun u => Writes who 0x064 0xC00 u)
      (fun u => { u.ack with pad := { u.pad with grab := true } }.wr R.PAD_LIVESTAT 0) ∧
    Does (fun dt => .xclr dt who v gone) (fun u => Writes who 0x065 0xC00 u ∧ nf v.toNat 31 24 = 0xA7)
      (fun u => forN 24 (fun n (t : State) =>
        if !nb v.toNat n then t
        else
          let a := if nb gone.toNat n then t.putBit R.PAD_MFLTM n false else t
          let b := if nb gone.toNat (24 + n) then a.putBit R.PAD_MFLTC n false else a
          let good := if (b.xwinOf n).cnt = 0 then (b.xwinOf n).last
            else decide ((b.xwinOf n).sum * 1000 ≤ b.fld R.PAD_XTOL 7 0 * 2 ^ 23 * (b.xwinOf n).cnt)
          (if good then b.putBit R.PAD_XLATCH n false else b).putFld (R.PAD_XDIFF n) 31 16 0) u.ack) ∧
    Does (fun dt => .xclr dt who v gone) (fun u => Writes who 0x065 0xC00 u ∧ nf v.toNat 31 24 ≠ 0xA7)
      (fun u => u.ack.err 0x065 (u.partNo who) eBadKey R.PAD_XCLR) ∧
    Does (fun dt => .padCapgo dt who 1)
      (fun u => Writes who 0x067 0xC00 u ∧ u.bit R.PAD_CAPSTAT 0 = false ∧ u.fld R.PAD_CAPCFG 4 0 < 24)
      (fun u =>
        let y : PadCap := { ch := u.fld R.PAD_CAPCFG 4 0, tap := u.bit R.PAD_CAPCFG 8, first := divUp (8 * u.ticks) 3125
                            chan := tabFind u.pad.chan (u.fld R.PAD_CAPCFG 4 0), eras := u.pad.eras }
        ({ u.ack with pad := { u.pad with cap := some y } }.wr R.PAD_CAPSTAT 1).wr64 R.PAD_CAPT
          (u.instOf (3125 * divUp (8 * u.ticks) 3125))) ∧
    Does (fun dt => .padCapgo dt who 1) (fun u => Writes who 0x067 0xC00 u ∧ u.bit R.PAD_CAPSTAT 0 = true) (fun u => u.ack) ∧
    (∀ y, Does (fun dt => .capdone dt m c) (fun u => Ready u ∧ u.pad.cap = some y ∧ 3125 * (y.first + 255) ≤ 8 * u.ticks)
      (fun u =>
        let r := (u.chainTo y.eras y.ch (y.first + 255) y.tap y.chan { main := m, check := c }).2
        let a := forN 256 (fun i (t : State) => (t.wr (R.PAD_CAPM i) (cap24 (r.getD (255 - i) (0, 0)).1)).wr (R.PAD_CAPC i)
          (cap24 (r.getD (255 - i) (0, 0)).2)) u
        ({ a with pad := { a.pad with cap := none } }.wr R.PAD_CAPSTAT 2).raise 0x067 0))

/-- Completion, result and frame of the commands of SAR. -/
def Obligations.ConverterCommandsComplete : Prop :=
  ∀ (who : Init) (c : Fin 4) (v : Word) (code : BitVec 16),
    (∀ k tr, Does (fun dt => .sarTrigger dt c) (fun u => Ready u ∧ u.sarDue c.val = some (k, tr))
      (fun u => (u.setSarC c.val { u.sarC c.val with seen := k }).sarFire c.val tr)) ∧
    Does (fun dt => .seqcmdGo dt who c v) (fun u => KeyWrites who (sarPage c.val) 0xC04 0x5AC0 v u ∧ nf v.toNat 1 0 = 1)
      (fun u => u.ack.sarFire c.val u.now4) ∧
    Does (fun dt => .seqcmdStop dt who c v) (fun u => KeyWrites who (sarPage c.val) 0xC04 0x5AC0 v u ∧ nf v.toNat 1 0 = 2)
      (fun u => u.ack.sarEnd u.ack c.val none) ∧
    Does (fun dt => .seqcmdGo dt who c v) (fun u => Writes who (sarPage c.val) 0xC04 u ∧ nf v.toNat 31 16 ≠ 0x5AC0)
      (fun u => u.ack.err (sarPage c.val) (u.partNo who) eBadKey (reg (sarPage c.val) 0xC04)) ∧
    (∀ p, Does (fun dt => .sarConversion dt c code)
      (fun u => Ready u ∧ (u.sarTrim c.val).old = none ∧ (u.sarTrim c.val).run = some p ∧
        (u.setSarC c.val (u.sarTrim c.val)).reqStart c.val = none ∧
        (u.setSarC c.val (u.sarTrim c.val)).seqStart c.val p + 200 ≤ u.now4)
      (fun u =>
        let a := u.setSarC c.val (u.sarTrim c.val)
        let r := a.seqConv c.val p (a.seqStart c.val p) code.toInt
        (r.1.setSarC c.val { r.1.sarC c.val with free := a.seqStart c.val p + 200, run := r.2 }).sarShow c.val)) ∧
    (∀ t, Does (fun dt => .sarConversion dt c code)
      (fun u => Ready u ∧ (u.sarTrim c.val).old = none ∧ (u.sarTrim c.val).run = none ∧
        (u.setSarC c.val (u.sarTrim c.val)).reqStart c.val = some t ∧ t + 200 ≤ u.now4)
      (fun u => ((u.setSarC c.val (u.sarTrim c.val)).reqConv c.val ((u.sarTrim c.val).req.getD (0, 0, 0)) t code.toInt).sarShow
        c.val)) ∧
    Does (fun dt => .convreq dt who c v)
      (fun u => Writes who (sarPage c.val) 0xC00 u ∧ u.sarMode c.val ≠ 0 ∧ (u.sarC c.val).req = none ∧ (u.sarC c.val).run = none ∧
        (u.sarC c.val).old = none)
      (fun u => ((u.ack.setSarC c.val { u.sarC c.val with
          req := some (u.newReq c.val u.now4 (v.toNat % 128)), old := none, run := none }).putBit
        (R.SAR_CONVRES c.val) 16 false).sarShow c.val) ∧
    (∀ r, Does (fun dt => .convreq dt who c v)
      (fun u => Writes who (sarPage c.val) 0xC00 u ∧ u.sarMode c.val ≠ 0 ∧ (u.sarC c.val).req = some r)
      (fun u => u.ack.err (sarPage c.val) (u.partNo who) 0x0101 (reg (sarPage c.val) 0xC00))) ∧
    Does (fun dt => .convreq dt who c v) (fun u => Writes who (sarPage c.val) 0xC00 u ∧ u.sarMode c.val = 0) (fun u => u.ack) ∧
    Does (fun dt => .sarReady dt c)
      (fun u => Ready u ∧ u.sarMode c.val ≠ 0 ∧ u.sarReady c.val = false ∧ u.usSince (u.sarC c.val).calTick 100 = true ∧
        (u.sarC c.val).req = none)
      (fun u => forN 64 (fun i t => t.putBit (R.SAR_SSTAT c.val i) 0 false)
        ((u.setSarC c.val { u.sarC c.val with req := none, filt := [], seen := u.sarMark c.val }).putBit (R.SAR_STAT c.val) 2 true)) ∧
    (∀ r, Does (fun dt => .sarReady dt c)
      (fun u => Ready u ∧ u.sarMode c.val ≠ 0 ∧ u.sarReady c.val = false ∧ u.usSince (u.sarC c.val).calTick 100 = true ∧
        (u.sarC c.val).req = some r)
      (fun u => forN 64 (fun i t => t.putBit (R.SAR_SSTAT c.val i) 0 false)
        ((u.setSarC c.val { u.sarC c.val with req := some (u.newReq c.val u.now4 r.2.2), filt := [], seen := u.sarMark c.val }).putBit
          (R.SAR_STAT c.val) 2 true))) ∧
    (∀ t, Does (fun dt => .sarFallback dt c)
      (fun u => Ready u ∧ u.sarFbto c.val = some t ∧ u.bit (R.SAR_STAT c.val) 4 = false ∧ (u.sarC c.val).run = none ∧
        (u.sarC c.val).old = none ∧ (u.sarC c.val).trigTick + 4 * t ≤ u.now4)
      (fun u => (((u.putBit (R.SAR_STAT c.val) 4 true).incSat (R.SAR_FBCNT c.val)).raise (sarPage c.val) 3).sarSelf c.val)) ∧
    (∀ t, Does (fun dt => .sarFallbackPass dt c)
      (fun u => Ready u ∧ u.sarFbto c.val = some t ∧ u.bit (R.SAR_STAT c.val) 4 = true ∧ (u.sarC c.val).run = none ∧
        (u.sarC c.val).fbTick + t ≤ u.ticks)
      (fun u => u.sarSelf c.val)) ∧
    (∀ t p, Does (fun dt => .sarFallbackPass dt c)
      (fun u => Ready u ∧ u.sarFbto c.val = some t ∧ u.bit (R.SAR_STAT c.val) 4 = true ∧ (u.sarC c.val).run = some p ∧
        (u.sarC c.val).fbTick + t ≤ u.ticks)
      (fun u => u.setSarC c.val { u.sarC c.val with fbTick := (u.sarC c.val).fbTick + t })) ∧
    (∀ d, Does (fun dt => .chkclr dt who c 1)
      (fun u => Writes who (sarPage c.val) 0xC0C u ∧ (u.sarC c.val).refDev = some d ∧ d ≤ u.fld (R.SAR_REFTOL c.val) 7 0)
      (fun u => u.ack.putBit (R.SAR_STAT c.val) 5 false)) ∧
    Does (fun dt => .sarCntclr dt who c 1) (fun u => Writes who (sarPage c.val) 0xC08 u)
      (fun u => u.ack.zero [R.SAR_TRIGOVR c.val, R.SAR_ABNCNT c.val, R.SAR_FBCNT c.val])

/-- Completion, result and frame of the output events of PRE. -/
def Obligations.PulsesAndBreakersComplete : Prop :=
  ∀ (n : Fin 8) (k : Fin 4) (x : Fin 12) (peak : BitVec 16) (rows inst num : Nat),
    Does (fun dt => .tripPulseStart dt n)
      (fun u => Ready u ∧ u.engine = engRun ∧ u.outOn n.val = true ∧ (u.preOut n.val).edge = some (rows, inst, num) ∧
        (u.preOut n.val).act = false ∧ ((u.preOut n.val).ended = 0 ∨ (u.preOut n.val).ended + 2000000 ≤ u.ticks + 1))
      (fun u =>
        forL (u.tripBrks n.val) (fun b (t : State) =>
          let a := if (t.brk b).run then t else t.setBrk b { t.brk b with run := true, sums := [0, 0, 0], sat := false }
          if nb (a.outReg (R.PRE_BRKCFG b)) 6 then a.closeCut (8 + nf (a.outReg (R.PRE_BRKCFG b)) 5 4) else a)
          (u.pulseStart n.val rows inst num false)) ∧
    Does (fun dt => .tripPulseEnd dt n peak)
      (fun u => Ready u ∧ (u.preOut n.val).act = true ∧ (u.preOut n.val).test = false ∧
        20000000 ≤ u.ticks - (u.preOut n.val).start)
      (fun u => (((u.pulseEnd n.val).wr (R.PRE_TPEAK n.val) peak.toNat).putBit R.PRE_TLIM n.val true).raise 0x06A 5) ∧
    Does (fun dt => .tripPulseEnd dt n peak)
      (fun u => Ready u ∧ (u.preOut n.val).act = true ∧ (u.preOut n.val).test = false ∧
        u.ticks - (u.preOut n.val).start < 20000000 ∧ u.pulseTicks n.val ≤ u.ticks - (u.preOut n.val).start ∧
        nb u.pre.demand n.val = false)
      (fun u => (u.pulseEnd n.val).wr (R.PRE_TPEAK n.val) peak.toNat) ∧
    Does (fun dt => .closePulseStart dt k)
      (fun u => Ready u ∧ u.engine = engRun ∧ u.outOn (8 + k.val) = true ∧ (u.preOut (8 + k.val)).edge = some (rows, inst, num) ∧
        (u.preOut (8 + k.val)).act = false ∧
        ∀ b ∈ u.closeBrks k.val, nb u.pre.demand (u.brkTrip b) = false ∧ (u.preOut (u.brkTrip b)).act = false)
      (fun u => u.pulseStart (8 + k.val) rows inst num false) ∧
    Does (fun dt => .closePulseStart dt k)
      (fun u => Ready u ∧ u.engine = engRun ∧ u.outOn (8 + k.val) = true ∧ (u.preOut (8 + k.val)).edge = some (rows, inst, num) ∧
        (u.preOut (8 + k.val)).act = false ∧
        ∃ b ∈ u.closeBrks k.val, nb u.pre.demand (u.brkTrip b) = true ∨ (u.preOut (u.brkTrip b)).act = true)
      (fun u => (u.setPreOut (8 + k.val) { u.preOut (8 + k.val) with edge := none }).incSat R.PRE_CLINTLK) ∧
    Does (fun dt => .closePulseEnd dt k peak)
      (fun u => Ready u ∧ (u.preOut (8 + k.val)).act = true ∧
        (u.preOut (8 + k.val)).start + u.pulseTicks (8 + k.val) ≤ u.ticks)
      (fun u => (u.pulseEnd (8 + k.val)).wr (R.PRE_CPEAK k.val) peak.toNat) ∧
    Does (fun dt => .tcsflt dt x true)
      (fun u => Ready u ∧ (if x.val < 8 then nb (u.outReg (R.PRE_TOCFG x.val)) 16 else nb (u.outReg (R.PRE_COCFG (x.val - 8))) 16) = true ∧
        (u.preOut x.val).act = false)
      (fun u => (u.putBit R.PRE_TCSFLT x.val true).raise 0x06A 2) ∧
    Does (fun dt => .tcsflt dt x false) (fun u => Ready u) (fun u => u.putBit R.PRE_TCSFLT x.val false) ∧
    Does (fun dt => .drvflt dt x true) (fun u => Ready u ∧ ((u.preOut x.val).act = false ∨ u.rdn.gates = false))
      (fun u => ((u.putBit R.PRE_DRVFLT x.val true).raise 0x06A 3).replicaErr 0x06A) ∧
    Does (fun dt => .drvflt dt x false) (fun u => Ready u) (fun u => u.putBit R.PRE_DRVFLT x.val false) ∧
    Does (fun dt => .tfail dt x) (fun u => Ready u ∧ (u.preOut x.val).act = true ∧ (u.preOut x.val).start + 200000 ≤ u.ticks)
      (fun u => (u.putBit R.PRE_TFAIL x.val true).raise 0x06A 4) ∧
    Does (fun dt => .breakerCurrentLow dt n)
      (fun u => Ready u ∧ u.brkOn n.val = true ∧ (u.brk n.val).run = true ∧ (u.brk n.val).low = true)
      (fun u =>
        let w := (openInt 4 ((u.brk n.val).sums.foldl (fun a v => if a < v then v else a) 0)).toNat
        let new := satAdd (2 ^ 64 - 1) (u.rd64 (R.PRE_WEAR n.val)) w
        let alm := u.rd (R.PRE_BRKWALM n.val)
        let above (m : Nat) : Bool := b32.finite alm && decide (b32.rat alm < (m : Nat))
        let a := ((u.setBrk n.val { u.brk n.val with run := false, sums := [0, 0, 0], sat := false }).wr64 (R.PRE_WEAR n.val)
          new).wr (R.PRE_WLAST n.val) (min w 0xFFFFFFFF)
        ((if (u.brk n.val).sat then a.putBit R.PRE_WSAT n.val true else a).lifeAdd 3 n.val w).raiseIf
          (above new && !above (u.rd64 (R.PRE_WEAR n.val))) 0x06A 6)

/-- Completion, result and frame of the command registers of PRE and of its memory. -/
def Obligations.ProtectionCommandsComplete : Prop :=
  ∀ (who : Init) (v : Word) (o : Fin 262144) (e : Fin 196608) (b : List Byte) (g : Nat) (rest : List Nat),
    Does (fun dt => .grpcmdSeal dt who v) (fun u => KeyWrites who 0x075 0xC00 0x5E17 v u ∧ nf v.toNat 1 0 = 1)
      (fun u => { u.ack with pre := { u.pre with sealing := u.pre.sealing ++ [nf v.toNat 5 4] } }) ∧
    Does (fun dt => .grpcmdUnseal dt who v)
      (fun u => KeyWrites who 0x075 0xC00 0x5E17 v u ∧ nf v.toNat 1 0 = 2 ∧ (u.engine ≠ engRun ∨ nf v.toNat 5 4 ≠ u.preGroup))
      (fun u => u.ack.putBit R.PRE_GRPSEAL (nf v.toNat 5 4) false) ∧
    Does (fun dt => .grpcmdUnseal dt who v)
      (fun u => KeyWrites who 0x075 0xC00 0x5E17 v u ∧ nf v.toNat 1 0 = 2 ∧ u.engine = engRun ∧ nf v.toNat 5 4 = u.preGroup)
      (fun u => u.ack.err 0x075 (u.partNo who) eBadValue R.PRE_GRPCMD) ∧
    Does (fun dt => .groupSealDone dt)
      (fun u => Ready u ∧ u.pre.sealing = g :: rest ∧ ({ u with pre := { u.pre with sealing := rest } } : State).grpBadPar g = none ∧
        ({ u with pre := { u.pre with sealing := rest } } : State).grpCrcOk g = true)
      (fun u => ({ u with pre := { u.pre with sealing := rest } } : State).putBit R.PRE_GRPSEAL g true) ∧
    (∀ x, Does (fun dt => .groupSealDone dt)
      (fun u => Ready u ∧ u.pre.sealing = g :: rest ∧ ({ u with pre := { u.pre with sealing := rest } } : State).grpBadPar g = some x)
      (fun u => ({ u with pre := { u.pre with sealing := rest } } : State).errAt 0x075 ((u.owner 0x068).getD 0) 0x0105
        (0x41200000 + x))) ∧
    Does (fun dt => .outtest dt who v)
      (fun u => KeyWrites who 0x06A 0xC00 0x7C1D v u ∧ u.engine = engOff ∧ nf v.toNat 3 0 < 8 ∧
        (u.preOut (nf v.toNat 3 0)).act = false)
      (fun u => u.ack.tripGo (nf v.toNat 3 0) 0 u.moduleTime (u.rd64 R.PRE_TICK) true) ∧
    Does (fun dt => .outtest dt who v)
      (fun u => KeyWrites who 0x06A 0xC00 0x7C1D v u ∧ u.engine = engOff ∧ 8 ≤ nf v.toNat 3 0 ∧ nf v.toNat 3 0 ≤ 11 ∧
        (u.preOut (nf v.toNat 3 0)).act = false)
      (fun u => u.ack.pulseStart (nf v.toNat 3 0) 0 u.moduleTime (u.rd64 R.PRE_TICK) true) ∧
    Does (fun dt => .outtest dt who v)
      (fun u => KeyWrites who 0x06A 0xC00 0x7C1D v u ∧ (u.engine ≠ engOff ∨ 11 < nf v.toNat 3 0))
      (fun u => u.ack.err 0x06A (u.partNo who) eBadValue R.PRE_OUTTEST) ∧
    Does (fun dt => .outtest dt who v) (fun u => Writes who 0x06A 0xC00 u ∧ nf v.toNat 31 16 ≠ 0x7C1D)
      (fun u => u.ack.err 0x06A (u.partNo who) eBadKey (reg 0x06A 0xC00)) ∧
    Does (fun dt => .mlcmd dt who v)
      (fun u => KeyWrites who 0x074 0xC00 0xB4D1 v u ∧ nf v.toNat 3 0 = 1 ∧ nf v.toNat 5 4 ≤ 2 ∧
        2 ≤ (u.mactive.filter (fun x => x != nf v.toNat 5 4)).length ∧ u.mlane (nf v.toNat 5 4) ≠ 4)
      (fun u => (u.ack.setMlane (nf v.toNat 5 4) 4).raise 0x074 0) ∧
    Does (fun dt => .mlcmd dt who v)
      (fun u => KeyWrites who 0x074 0xC00 0xB4D1 v u ∧ (u.mactive.filter (fun x => x != nf v.toNat 5 4)).length < 2)
      (fun u => u.ack.err 0x074 (u.partNo who) eBadValue R.PRE_MLCMD) ∧
    Does (fun dt => .wearclr dt who v) (fun u => KeyWrites who 0x06A 0xC08 0x3E9A v u)
      (fun u => ((u.ack.wr64 (R.PRE_WEAR (nf v.toNat 2 0)) 0).wr (R.PRE_WLAST (nf v.toNat 2 0)) 0).putBit R.PRE_WSAT
        (nf v.toNat 2 0) false) ∧
    Does (fun dt => .preCntclr dt who 1) (fun u => Writes who 0x068 0xC00 u)
      (fun u => (u.ack.wr R.PRE_LATMAX 0).wr R.PRE_BACKCNT 0) ∧
    Does (fun dt => .preOutCntclr dt who 1) (fun u => Writes who 0x06A 0xC04 u)
      (fun u => u.ack.zero ([R.PRE_TFAIL, R.PRE_TLIM, R.PRE_CLINTLK] ++ (List.range 8).map (fun n => R.PRE_TRIPCNT n) ++
        (List.range 4).map (fun n => R.PRE_CLOSECNT n))) ∧
    (∀ n, Does (fun dt => .preMemoryWrite dt who o b)
      (fun u => Ready u ∧ u.live who = true ∧ u.partOf who = some n ∧ u.owns n 0x068 = true ∧ u.inDsec n = false ∧
        o.val % b.length = 0 ∧ u.preMemOpen o.val = true)
      (fun u => { u with resp := .done, pre := { u.pre with mem := memPut u.pre.mem o.val (b.map BitVec.toNat) } })) ∧
    (∀ n, Does (fun dt => .preMemoryWrite dt who o b)
      (fun u => Ready u ∧ u.live who = true ∧ u.partOf who = some n ∧ u.owns n 0x068 = true ∧ u.inDsec n = false ∧
        o.val % b.length = 0 ∧ u.preMemOpen o.val = false)
      (fun u => { u.errAt 0x068 (u.partNo who) 0x0101 (0x41200000 + o.val) with resp := .done })) ∧
    Does (fun dt => .preMemoryUe dt e) (fun u => Ready u ∧ (e.val < 0x10000 ∨ 0x20000 ≤ e.val)) (fun u => u.preFault) ∧
    Does (fun dt => .preMemoryUe dt e)
      (fun u => Ready u ∧ 0x10000 ≤ e.val ∧ e.val < 0x20000 ∧ (u.engine ≠ engRun ∨ (e.val - 0x10000) / 0x4000 ≠ u.preGroup))
      (fun u => u.putBit R.PRE_GRPSEAL ((e.val - 0x10000) / 0x4000) false)

/-- Completion, result and frame of the commands of DRC, and of ENGINE_TICK. -/
def Obligations.RecorderCommandsComplete : Prop :=
  ∀ (who : Init) (v : Word) (vote : MantisVote) (i : Nat) (a : DrcArc),
    (∀ set rest, Does (fun dt => .engineTick dt vote)
      (fun u => Ready u ∧ u.pre.waiting = set :: rest ∧ u.engine = engRun ∧ u.pre.latch.isSome = true)
      (fun u => (u.engineTick vote).drcFlags set)) ∧
    Does (fun dt => .engineTick dt vote) (fun u => Ready u ∧ (u.engine ≠ engRun ∨ u.pre.waiting = [])) (fun u => u) ∧
    (∀ e rest, Does (fun dt => .drcTrigger dt)
      (fun u => Ready u ∧ u.drc.trig = e :: rest ∧ (u.pre.waiting.any fun w => decide (w.num ≤ e.tick.set)) = false ∧
        u.drcSettle.drcState = drcBlocked)
      (fun u => ({ u.drcSettle with drc := { u.drcSettle.drc with trig := rest } }.drcLost false).drcSettle)) ∧
    (∀ e rest f, Does (fun dt => .drcTrigger dt)
      (fun u => Ready u ∧ u.drc.trig = e :: rest ∧ (u.pre.waiting.any fun w => decide (w.num ≤ e.tick.set)) = false ∧
        e.tick.frame = some f ∧ u.drcSettle.drcState = drcPost ∧ e.tick.cfg.retrig = true)
      (fun u => (({ u.drcSettle with drc := { u.drcSettle.drc with trig := rest } }.drcExtend e f).markTrig f).drcSettle)) ∧
    (∀ e rest f, Does (fun dt => .drcTrigger dt)
      (fun u => Ready u ∧ u.drc.trig = e :: rest ∧ (u.pre.waiting.any fun w => decide (w.num ≤ e.tick.set)) = false ∧
        e.tick.frame = some f ∧ u.drcSettle.drcState = drcPost ∧ e.tick.cfg.retrig = false)
      (fun u => ({ u.drcSettle with drc := { u.drcSettle.drc with trig := rest } }.incSat R.DRC_RTIGN).drcSettle)) ∧
    (∀ e rest f, Does (fun dt => .drcTrigger dt)
      (fun u => Ready u ∧ u.drc.trig = e :: rest ∧ (u.pre.waiting.any fun w => decide (w.num ≤ e.tick.set)) = false ∧
        e.tick.frame = some f ∧ u.drcSettle.drcState = drcArmed)
      (fun u =>
        let x : State := { u.drcSettle with drc := { u.drcSettle.drc with trig := rest } }
        let y := x.drcOpen e f
        (if y.heldSlots.length = x.heldSlots.length then y else y.markTrig f).drcSettle)) ∧
    Does (fun dt => .trgnow dt who 1) (fun u => Writes who 0x080 0xC00 u ∧ u.drcState ≠ drcOff)
      (fun u => { u.ack with drc := { u.drc with now := 8 * u.ticks :: u.drc.now } }) ∧
    Does (fun dt => .archiveCopyStart dt)
      (fun u => Ready u ∧ u.bit R.DRC_CTRL 2 = true ∧ u.bit R.DRC_CTRL 3 = true ∧ u.drc.failed = none ∧ u.drc.copying = none ∧
        u.oldestComplete = some i ∧ u.arcFits (u.slot i).size = true)
      (fun u => ({ u.setSlot i { u.slot i with st := 3 } with
        drc := { (u.setSlot i { u.slot i with st := 3 }).drc with copying := some i } } : State).putBit R.DRC_STAT 9 true) ∧
    Does (fun dt => .archdone dt) (fun u => Ready u ∧ u.drc.copying = some i)
      (fun u => ((({ u with drc := { u.drc with
          copying := none
          arc := tabSet {} u.drc.arc (u.slot i).num (u.archived (u.slot i)) } } : State).putBit
        R.DRC_STAT 9 false).arcShow.raise 0x082 1).freeSlot i) ∧
    Does (fun dt => .archIo dt) (fun u => Ready u ∧ u.drc.copying = some i)
      (fun u =>
        let x := u.setSlot i { u.slot i with st := 2 }
        let y := { x with drc := { x.drc with copying := none, failed := some i } }.putBit R.DRC_STAT 9 false
        (y.errOpen 0x080 y.drcOwner 0x0102).raise 0x080 2) ∧
    Does (fun dt => .arcmdProtect dt who v)
      (fun u => KeyWrites who 0x082 0xC04 0x9D2C v u ∧ nf v.toNat 2 0 = 1 ∧ tabFind u.drc.arc (u.rd R.DRC_ASEL) = some a)
      (fun u => { u.ack with drc := { u.drc with arc := tabSet {} u.drc.arc (u.rd R.DRC_ASEL) { a with protect := true, hdr := a.d.header true } } }) ∧
    Does (fun dt => .arcmdUnprotect dt who v)
      (fun u => KeyWrites who 0x082 0xC04 0x9D2C v u ∧ nf v.toNat 2 0 = 2 ∧ tabFind u.drc.arc (u.rd R.DRC_ASEL) = some a)
      (fun u => { u.ack with drc := { u.drc with arc := tabSet {} u.drc.arc (u.rd R.DRC_ASEL) { a with protect := false, hdr := a.d.header false } } }) ∧
    Does (fun dt => .arcmdDelete dt who v)
      (fun u => KeyWrites who 0x082 0xC04 0x9D2C v u ∧ nf v.toNat 2 0 = 3 ∧ u.drc.exp = none)
      (fun u => ({ u.ack with drc := { u.drc with arc := tabDel u.drc.arc (u.rd R.DRC_ASEL) } } : State).arcShow) ∧
    Does (fun dt => .arcmdRelease dt who v)
      (fun u => KeyWrites who 0x082 0xC04 0x9D2C v u ∧ nf v.toNat 2 0 = 4 ∧ u.bit R.DRC_CTRL 2 = false ∧
        (u.slot (u.fld R.DRC_DSEL 3 0)).st = 2)
      (fun u => u.ack.freeSlot (u.fld R.DRC_DSEL 3 0)) ∧
    Does (fun dt => .arcmdRetry dt who v) (fun u => KeyWrites who 0x082 0xC04 0x9D2C v u ∧ nf v.toNat 2 0 = 5)
      (fun u => { u.ack with drc := { u.drc with failed := none } }) ∧
    Does (fun dt => .arcmdRetry dt who v) (fun u => Writes who 0x082 0xC04 u ∧ nf v.toNat 31 16 ≠ 0x9D2C)
      (fun u => u.ack.err 0x082 (u.partNo who) eBadKey (reg 0x082 0xC04)) ∧
    (∀ data, Does (fun dt => .expcmdCfg dt who v)
      (fun u => KeyWrites who 0x082 0xC00 0x9D2B v u ∧ nf v.toNat 1 0 = 0 ∧ u.bit R.DRC_EXPSTAT 0 = false ∧
        tabFind u.drc.arc (u.rd R.DRC_ASEL) = some a ∧ u.ack.cfgFile a = data ∧
        u.ack.expTarget u.drcOwner (u.rd64 R.DRC_EXPDST) data.length = true ∧ data.length ≤ u.rd R.DRC_EXPMAX)
      (fun u => { u.ack with drc := { u.drc with
        exp := some { num := a.d.num, dst := u.rd64 R.DRC_EXPDST, data := data } } }.wr R.DRC_EXPSTAT 1)) ∧
    (∀ data, Does (fun dt => .expcmdHdr dt who v)
      (fun u => KeyWrites who 0x082 0xC00 0x9D2B v u ∧ nf v.toNat 1 0 = 1 ∧ u.bit R.DRC_EXPSTAT 0 = false ∧
        tabFind u.drc.arc (u.rd R.DRC_ASEL) = some a ∧ u.ack.hdrFile a = data ∧
        u.ack.expTarget u.drcOwner (u.rd64 R.DRC_EXPDST) data.length = true ∧ data.length ≤ u.rd R.DRC_EXPMAX)
      (fun u => { u.ack with drc := { u.drc with
        exp := some { num := a.d.num, dst := u.rd64 R.DRC_EXPDST, data := data } } }.wr R.DRC_EXPSTAT 1)) ∧
    (∀ data, Does (fun dt => .expcmdDat dt who v)
      (fun u => KeyWrites who 0x082 0xC00 0x9D2B v u ∧ nf v.toNat 1 0 = 2 ∧ u.bit R.DRC_EXPSTAT 0 = false ∧
        tabFind u.drc.arc (u.rd R.DRC_ASEL) = some a ∧ u.ack.datFile a = data ∧
        u.ack.expTarget u.drcOwner (u.rd64 R.DRC_EXPDST) data.length = true ∧ data.length ≤ u.rd R.DRC_EXPMAX)
      (fun u => { u.ack with drc := { u.drc with
        exp := some { num := a.d.num, dst := u.rd64 R.DRC_EXPDST, data := data } } }.wr R.DRC_EXPSTAT 1)) ∧
    Does (fun dt => .expcmdDat dt who v)
      (fun u => KeyWrites who 0x082 0xC00 0x9D2B v u ∧ nf v.toNat 1 0 = 2 ∧ u.bit R.DRC_EXPSTAT 0 = false ∧
        tabFind u.drc.arc (u.rd R.DRC_ASEL) = none)
      (fun u => (u.ack.err 0x082 (u.partNo who) 0x0104 R.DRC_EXPCMD).wr R.DRC_EXPSTAT 4) ∧
    (∀ e, Does (fun dt => .expdone dt)
      (fun u => Ready u ∧ u.drc.exp = some e ∧ (u.dmaWrite 0x080 0x0C e.dst e.data).2 ≠ .ok)
      (fun u =>
        let x := (u.dmaWrite 0x080 0x0C e.dst e.data).1
        ({ x with drc := { x.drc with exp := none } } : State).wr R.DRC_EXPSTAT 4)) ∧
    (∀ e, Does (fun dt => .expdone dt)
      (fun u => Ready u ∧ u.drc.exp = some e ∧ (u.dmaWrite 0x080 0x0C e.dst e.data).2 = .ok)
      (fun u =>
        let x := (u.dmaWrite 0x080 0x0C e.dst e.data).1
        let y : State := { x with drc := { x.drc with exp := none } }
        ((y.wr R.DRC_EXPLEN e.data.length).wr R.DRC_EXPSTAT 2).raise 0x082 2)) ∧
    Does (fun dt => .drcCntclr dt who 1) (fun u => Writes who 0x080 0xC04 u)
      (fun u => (((u.ack.wr R.DRC_TRGLOST 0).wr R.DRC_RTIGN 0).wr R.DRC_GAPCNT 0).wr R.DRC_ARCHDROP 0)

/-- Completion, result and frame of the commands of DIO. -/
def Obligations.DigitalInputsAndOutputsComplete : Prop :=
  ∀ (who : Init) (v : Word) (i : Fin 48) (k : Fin 32) (g : Fin 4) (q : Fin 6) (ph : Fin 8) (level off : Bool) (ma : Fin 4096)
    (agree : Byte),
    Does (fun dt => .diRawEdge dt i ph level) (fun u => Ready u)
      (fun u =>
        let a := u.putBit (R.DIO_RAW + 4 * (i.val / 32)) (i.val % 32) level
        if (a.di i.val).frozen.isSome then a.setDi i.val { a.di i.val with sawOff := (a.di i.val).sawOff || !level }
        else if a.diOn i.val then a.diSeen i.val level ph.val else a) ∧
    Does (fun dt => .diEdgeAccept dt i) (fun u => Ready u ∧ u.diOn i.val = true ∧ u.diDue i.val = true)
      (fun u => u.diTake i.val) ∧
    (∀ inst n l rest, Does (fun dt => .eqpop dt who q)
      (fun u => Reads who 0x092 (0xC00 + 4 * q.val) u ∧ u.bit R.DIO_EQMAP q.val = false ∧ u.edges q.val = (inst, n, l) :: rest)
      (fun u =>
        let a : State := { u with dio := { u.dio with eq := tabSet [] u.dio.eq q.val rest } }
        { (a.wr (R.DIO_EQCNT q.val) rest.length).wr64 (R.DIO_EQSTAMP q.val) inst with
          resp := .data (0x80000000 + b2n l * 256 + n) })) ∧
    Does (fun dt => .eqpop dt who q)
      (fun u => Reads who 0x092 (0xC00 + 4 * q.val) u ∧ u.bit R.DIO_EQMAP q.val = false ∧ u.edges q.val = [])
      (fun u => { u with resp := .data 0 }) ∧
    Does (fun dt => .eqpop dt who q) (fun u => Reads who 0x092 (0xC00 + 4 * q.val) u ∧ u.bit R.DIO_EQMAP q.val = true)
      (fun u => { u.err 0x092 (u.partNo who) 0x0103 (R.DIO_EQPOP q.val) with resp := .data 0 }) ∧
    Does (fun dt => .ovld dt k)
      (fun u => Ready u ∧ u.doHeld (u.doLead k.val) = true ∧ (u.doCh (u.doLead k.val)).pulse = false)
      (fun u => (((u.setDoCh (u.doLead k.val) (u.doCh (u.doLead k.val))).putBit (R.DO_OVLD (k.val / 8)) (u.doLead k.val % 8)
        true).raise (0x093 + k.val / 8) 9).doUpdate (k.val / 8)) ∧
    Does (fun dt => .ovld dt k)
      (fun u => Ready u ∧ u.doHeld (u.doLead k.val) = true ∧ (u.doCh (u.doLead k.val)).pulse = true ∧
        (u.doCh (u.doLead k.val)).disc = false)
      (fun u => ((((u.setDoCh (u.doLead k.val) { u.doCh (u.doLead k.val) with disc := true }).incSat (R.DO_TPDISC (k.val / 8))).putBit
        (R.DO_OVLD (k.val / 8)) (u.doLead k.val % 8) true).raise (0x093 + k.val / 8) 9).doUpdate (k.val / 8)) ∧
    Does (fun dt => .doOpenLoad dt k false ma) (fun u => Ready u)
      (fun u =>
        let a := (u.wr (R.DO_ICH (k.val / 8) (k.val % 8)) ma.val).putBit (R.DO_OVLD (k.val / 8)) (8 + k.val % 8) false
        a.setDoCh k.val { a.doCh k.val with loadTick := a.ticks }) ∧
    Does (fun dt => .doOpenLoad dt k true ma)
      (fun u =>
        let a := u.wr (R.DO_ICH (k.val / 8) (k.val % 8)) ma.val
        Ready u ∧ ma.val < 5 ∧ a.bit (R.DO_CHCFG (k.val / 8) (a.doLead k.val % 8)) 14 = true ∧
          a.doMode (a.doLead k.val) = 0 ∧ a.doHeld k.val = true ∧
          a.msSince (max (a.doCh k.val).since (a.doCh k.val).loadTick) 100 = true)
      (fun u => ((u.wr (R.DO_ICH (k.val / 8) (k.val % 8)) ma.val).putBit (R.DO_OVLD (k.val / 8)) (8 + k.val % 8) true).raise
        (0x093 + k.val / 8) 10) ∧
    Does (fun dt => .rbflt dt k level)
      (fun u => Ready u ∧ u.rbOpen k.val = true ∧ u.doMode (u.doLead k.val) ≠ 1 ∧ level ≠ (u.doCh k.val).drv ∧
        u.rbLong k.val = true)
      (fun u => (((u.setDoCh k.val { u.doCh k.val with stuck := some (level, u.ticks) }).putBit (R.DO_RBFLT (k.val / 8))
        (k.val % 8) true).raise (0x093 + k.val / 8) 8).replicaErr (0x093 + k.val / 8)) ∧
    Does (fun dt => .stuckLatch dt k)
      (fun u => Ready u ∧ u.doSafety k.val = true ∧ (u.doCh k.val).drv = false ∧ u.rbOpen k.val = true ∧
        u.rbLong k.val = true)
      (fun u => (u.setDoCh k.val { u.doCh k.val with stuck := some (true, u.ticks) }).doLatch (k.val / 8) 2) ∧
    Does (fun dt => .pwmPeriodStart dt g)
      (fun u => Ready u ∧ u.doEn g.val = true ∧ u.pwmIn g.val / 40 ≠ 0 ∧ u.pwmBegin g.val + 1 ≠ (u.doGrp g.val).perAt)
      (fun u => (forN 8 (fun j (t : State) =>
          let on := if t.doLevel (8 * g.val + j) then pwmOnTicks (u.pwmIn g.val / 40) (t.fld (R.DO_DUTY g.val j) 13 0) else 0
          let c := (t.doCh (8 * g.val + j)).perEnd (decide (t.doMode (8 * g.val + j) = 1) && t.rbOpen (8 * g.val + j) &&
            decide ((u.doGrp g.val).perAt ≠ 0) && decide ((u.doGrp g.val).evalTick ≤ (u.doGrp g.val).perTick)) (u.doGrp g.val).per
          t.setDoCh (8 * g.val + j)
            (if t.doMode (8 * g.val + j) = 1 then { c with pwm := decide (0 < on), onTicks := on } else c))
        (u.setDoGrp g.val { u.doGrp g.val with
          perAt := u.pwmBegin g.val + 1, perTick := u.ticks, per := u.pwmIn g.val / 40 })).doUpdate g.val) ∧
    Does (fun dt => .pwmOffEdge dt k)
      (fun u => Ready u ∧ u.doMode k.val = 1 ∧ (u.doCh k.val).pwm = true ∧
        (u.doCh k.val).onTicks < (u.doGrp (k.val / 8)).per ∧
        (u.doGrp (k.val / 8)).perTick + (u.doCh k.val).onTicks ≤ u.ticks)
      (fun u => (u.setDoCh k.val { u.doCh k.val with pwm := false }).doUpdate (k.val / 8)) ∧
    Does (fun dt => .testPulseStart dt k)
      (fun u => Ready u ∧ u.doSafety k.val = true ∧ u.doLead k.val = k.val ∧ u.doOn k.val = true ∧ u.tpDue k.val = true)
      (fun u =>
        let a := (u.setDoCh k.val { u.doCh k.val with
          pulse := true, pStart := u.ticks, disc := false, release := 0, pulsed := u.tpAt k.val + 1 }).pulseTerm k.val true
        forL (a.frozenBy k.val) (fun i t => t.setDi i { t.di i with frozen := some k.val, sawOff := !t.diRaw i }) a) ∧
    Does (fun dt => .testPulseEnd dt k off)
      (fun u => Ready u ∧ (u.doCh k.val).pulse = true ∧
        (u.doCh k.val).pStart + 100 * u.fld (R.DO_TPCFG (k.val / 8)) 24 16 ≤ u.ticks)
      (fun u =>
        let a := forL ((u.frozenOf k.val).filter (fun i => !(u.di i).sawOff)) (fun i (t : State) =>
            (if i < 32 then t.putBit R.DIO_XCONN0 i true else t.putBit R.DIO_XCONN1 (i - 32) true).raise 0x091 0)
          ((u.setDoCh k.val { u.doCh k.val with pulse := false, disc := false, release := u.ticks + 1 }).pulseTerm k.val false)
        let b := if (u.doCh k.val).disc then a else a.tpJudge k.val off
        b.setDoCh k.val { b.doCh k.val with gate := !(u.doCh k.val).gate }) ∧
    Does (fun dt => .testPulseFilterRelease dt k)
      (fun u => Ready u ∧ (u.doCh k.val).release ≠ 0 ∧ (u.doCh k.val).pulse = false ∧ (u.doCh k.val).release + 5000 ≤ u.ticks + 1)
      (fun u => forL (u.frozenOf k.val) (fun i (t : State) =>
        let a := t.setDi i { t.di i with frozen := none }
        if a.diOn i then a.diSeen i (a.diRaw i) 0 else a) u) ∧
    Does (fun dt => .fswarn dt g) (fun u => Ready u ∧ (u.supplyLow g.val).bit (R.DO_STAT g.val) 4 = false)
      (fun u => ((u.supplyLow g.val).putBit (R.DO_STAT g.val) 4 true).raise (0x093 + g.val) 0) ∧
    Does (fun dt => .fswarnClear dt g) (fun u => Ready u) (fun u => u.putBit (R.DO_STAT g.val) 4 false) ∧
    Does (fun dt => .fslowLatch dt g) (fun u => Ready u) 
      (fun u => ((u.supplyLow g.val).putBit (R.DO_STAT g.val) 5 false).doLatch g.val 1) ∧
    Does (fun dt => .fsok dt g) 
      (fun u => Ready u ∧ u.bit (R.DO_STAT g.val) 5 = false ∧ u.msSince (u.doGrp g.val).lowTick 100 = true)
      (fun u => (u.putBit (R.DO_STAT g.val) 5 true).raise (0x093 + g.val) 2) ∧
    Does (fun dt => .dioFltclr dt who g v agree) (fun u => KeyWrites who (0x093 + g.val) 0xC00 0x4D21 v u)
      (fun u => forN 8 (fun j (t : State) =>
        if !nb v.toNat j then t
        else
          let b := if nb agree.toNat j && (t.doCh (8 * g.val + j)).stuck.isSome then
              t.setDoCh (8 * g.val + j) { t.doCh (8 * g.val + j) with stuck := none, follow := t.ticks }
            else t
          let a := if b.rbLev (8 * g.val + j) == b.doHeld (8 * g.val + j) then b.putBit (R.DO_RBFLT g.val) j false else b
          if (a.doCh (8 * g.val + j)).passed then a.putBit (R.DO_TPFAIL g.val) j false else a) u.ack) ∧
    Does (fun dt => .dioFltclr dt who g v agree) (fun u => Writes who (0x093 + g.val) 0xC00 u ∧ nf v.toNat 31 16 ≠ 0x4D21)
      (fun u => u.ack.err (0x093 + g.val) (u.partNo who) eBadKey (reg (0x093 + g.val) 0xC00)) ∧
    Does (fun dt => .logclr dt who 1) (fun u => Writes who 0x097 0xC00 u)
      (fun u => forN 4 (fun g (t : State) =>
        ((t.wr (R.DIO_LATCHCNT g) 0).wr (R.DIO_LASTCAUSE g) 0).wr64 (R.DIO_LAST g) 0) u.ack)

/-- Completion, result and frame of the commands of SFN and LOOP. -/
def Obligations.SafetyAndLoopsComplete : Prop :=
  ∀ (who : Init) (v : Word) (f : Fin 16) (i : Fin 48) (c : Fin 8) (ok1 ok2 same : Bool) (x : List (List (BitVec 16)))
    (vl : BitVec 16) (below : Byte),
    Does (fun dt => .sfnEvaluation dt ok1 ok2 same)
      (fun u => Ready u ∧ u.sfnDue = true)
      (fun u =>
        let a := forN 16 (fun f (t : State) => t.sfnEval f u.moduleTime) ((u.sfnExchange ok1 ok2 same).sfnPresses u.moduleTime)
        let b : State := { a with sfn := { a.sfn with
          evalTick := a.sfnCount, evalInst := u.moduleTime, press := a.sfn.press.filter (fun p => u.moduleTime ≤ p.2.2) } }
        b.sfnGate.srcReport (fun e => e.kind == 0x03) State.sfnSrc) ∧
    Does (fun dt => .discrep dt f) (fun u => Ready u) (fun u => u.sfnFaultIf f.val 1 (u.sfnDiscrep f.val u.moduleTime)) ∧
    Does (fun dt => .edmFault dt f) (fun u => Ready u ∧ u.sfnDue = true ∧ u.sfnEdm f.val u.moduleTime = true)
      (fun u => (u.putBit (R.SFN_FSTATE f.val) 5 false).sfnFaultIf f.val 3 true) ∧
    Does (fun dt => .twohandTimeout dt f)
      (fun u => Ready u ∧ u.sfnDue = true ∧ u.sfnState f.val = fsDemand ∧ u.handTimeout f.val u.moduleTime = true)
      (fun u => u.sfnEnter f.val fsWaitrelease 0 u.moduleTime) ∧
    Does (fun dt => .rststuck dt i) (fun u => Ready u ∧ u.sfnOn = true) (fun u => u.sfnSetStuck i.val u.moduleTime) ∧
    Does (fun dt => .sfnFltclr dt who v) (fun u => KeyWrites who 0x098 0xC00 0x2B6E v u)
      (fun u => forN 16 (fun f (t : State) =>
        if !nb v.toNat f || t.sfnState f != fsFault then t
        else if t.fltclrOk f then t.setSfnFn f { t.sfnFn f with clr := true }
        else t.err 0x098 (u.partNo who) 0x0101 R.SFN_FLTCLR) u.ack) ∧
    Does (fun dt => .sfnFltclr dt who v) (fun u => Writes who 0x098 0xC00 u ∧ nf v.toNat 31 16 ≠ 0x2B6E)
      (fun u => u.ack.err 0x098 (u.partNo who) eBadKey (reg 0x098 0xC00)) ∧
    (∀ r : LoopRun, Does (fun dt => .loopScan dt x vl)
      (fun u => Ready u ∧ u.loopRun = some r ∧
        (r.chans = [] ∨ r.done < (if u.ticks < r.t0 + 360 then 0 else min r.chans.length ((u.ticks - r.t0 - 360) / 350 + 1))))
      (fun u =>
        let n := if u.ticks < r.t0 + 360 then 0 else min r.chans.length ((u.ticks - r.t0 - 360) / 350 + 1)
        let a := if r.done = 0 then
            (({ u with loop := { u.loop with scanNo := if u.loop.run = none then u.moduleTime / u.scanPer else u.loop.scanNo } } :
              State).incWrap R.LOOP_SCANCNT).loopRail vl.toNat
          else u
        (List.range n).foldl (fun (t : State) j =>
            if j < r.done then t
            else
              let k := r.chans.getD j 0
              let codes := (x.getD k []).map BitVec.toInt
              (if k < 8 then t.liScan k codes (r.tsc + 14000 * j + 12800)
              else t.loScan (k - 8) r.t0 codes (r.tsc + 14000 * j + 12800)).srcReport
                (fun e => e.kind == 0x05 && e.item == k) State.loopSrc)
          { a with loop := { a.loop with run := if n < r.chans.length then some { r with done := n } else none, endTick := a.ticks } })) ∧
    Does (fun dt => .compl dt c) (fun u => Ready u ∧ u.spellOver c.val (u.lo c.val).compl 1000000 true = true)
      (fun u => u.loFault c.val 1 0) ∧
    Does (fun dt => .loopOpen dt c) (fun u => Ready u ∧ u.spellOver c.val (u.lo c.val).opn 5000000 false = true)
      (fun u => u.loFault c.val 2 1) ∧
    Does (fun dt => .rbhigh dt c) (fun u => Ready u ∧ u.spellOver c.val (u.lo c.val).rbh 1000000 false = true)
      (fun u => u.loFault c.val 4 3) ∧
    Does (fun dt => .prot dt c) (fun u => Ready u ∧ (u.li c.val).open_ = false)
      (fun u => ((((u.setLi c.val { u.li c.val with open_ := true, openTick := u.ticks }).putBit (R.LOOP_LISTAT c.val) 4 true).putBit
        (R.LOOP_LISTAT c.val) 0 false).incSatF (R.LOOP_FCNT c.val) 31 16).raise 0x09D 1) ∧
    Does (fun dt => .limiterReclose dt c)
      (fun u => Ready u ∧ (u.li c.val).open_ = true ∧ u.secSince (u.li c.val).openTick 1 = true)
      (fun u => u.setLi c.val { u.li c.val with open_ := false, closed := u.ticks + 1 }) ∧
    Does (fun dt => .miswire dt c)
      (fun u => Ready u ∧ (u.setLo c.val { u.lo c.val with miswait := true }).bit (R.LOOP_LOSTAT c.val) 3 = false)
      (fun u => ((((u.setLo c.val { u.lo c.val with miswait := true }).putBit (R.LOOP_LOSTAT c.val) 3 true).putBit
        (R.LOOP_LOSTAT c.val) 0 false).incSatF (R.LOOP_FCNT (8 + c.val)) 31 16).raise 0x09E 2) ∧
    Does (fun dt => .loopFltclr dt who v below) (fun u => KeyWrites who 0x09C 0xC00 0x1C9E v u)
      (fun u => forN 8 (fun c (t : State) =>
        if !nb v.toNat c || !t.bit (R.LOOP_LOSTAT c) 3 then t
        else if nb below.toNat c then
          ((t.putBit (R.LOOP_LOSTAT c) 3 false).putBit (R.LOOP_LOSTAT c) 0 (t.lo c).scanned).setLo c
            { t.lo c with miswait := (t.lo c).miswait && (t.lo c).cmtTick != t.ticks + 1 }
        else t.err 0x09C (u.partNo who) 0x0102 R.LOOP_FLTCLR) u.ack) ∧
    Does (fun dt => .loopFltclr dt who v below) (fun u => Writes who 0x09C 0xC00 u ∧ nf v.toNat 31 16 ≠ 0x1C9E)
      (fun u => u.ack.err 0x09C (u.partNo who) eBadKey (reg 0x09C 0xC00)) ∧
    Does (fun dt => .loopCntclr dt who 1) (fun u => Writes who 0x09C 0xC04 u)
      (fun u => (u.ack.zero ((List.range 16).map (fun k => R.LOOP_FCNT k))).wr R.LOOP_VLMIN 0xFFFF)

/-- Completion, result and frame of the commands of CAN. -/
def Obligations.CanCommandsComplete : Prop :=
  ∀ (who : Init) (c : Fin 4) (k : Fin 32) (v : Word) (f : CanFrame) (ago : Nat) (lec : Fin 7) (dp : Bool) (tec rec_ : Fin 9)
    (ph : Fin 8) (w : CanWake),
    Does (fun dt => .canIntegrated dt c) (fun u => Ready u ∧ u.canState c.val = csInteg)
      (fun u =>
        let a := u.canGo c.val (if u.fld (R.CAN_CTRL c.val) 1 0 = 2 then csListen else csActive)
        a.setTt c.val { (a.canC c.val).tt with watch := a.moduleTime }) ∧
    Does (fun dt => .canFrameReceived dt c f ago ph)
      (fun u => Ready u ∧ u.canHears c.val = true ∧ (f.fdf = true → u.bit (R.CAN_CTRL c.val) 2 = true) ∧ f.rtr = false)
      (fun u =>
        let a := (u.recDown c.val).incWrap (R.CAN_RXCNT c.val)
        let b := a.canFilter c.val f (u.stamp ph.val - ago / 5 * 5) (a.stamp ph.val)
        b.setCan c.val { b.canC c.val with left := none }) ∧
    Does (fun dt => .canFrameReceived dt c f ago ph)
      (fun u => Ready u ∧ u.canHears c.val = true ∧ f.fdf = false ∧ f.rtr = true)
      (fun u =>
        let b := ((u.recDown c.val).incWrap (R.CAN_RXCNT c.val)).incSat (R.CAN_RTRCNT c.val)
        b.setCan c.val { b.canC c.val with left := none }) ∧
    Does (fun dt => .canFrameReceived dt c f ago ph)
      (fun u => Ready u ∧ u.canHears c.val = true ∧ u.canOpen c.val = true ∧ f.fdf = true ∧ u.bit (R.CAN_CTRL c.val) 2 = false)
      (fun u =>
        let a := u.wr (R.CAN_LASTERR c.val) 2
        a.canCounters c.val (a.canTec c.val) (a.canRec c.val + 1)) ∧
    Does (fun dt => .canError dt c lec dp tec rec_)
      (fun u => Ready u ∧ u.canOpen c.val = false ∧ u.canState c.val = csListen ∧
        (u.wr (R.CAN_LASTERR c.val) (lec.val + b2n dp * 8)).canState c.val = csListen)
      (fun u => (u.wr (R.CAN_LASTERR c.val) (lec.val + b2n dp * 8)).gwyWatch) ∧
    Does (fun dt => .canError dt c lec dp tec rec_)
      (fun u => Ready u ∧ u.canOpen c.val = true ∧ (u.wr (R.CAN_LASTERR c.val) (lec.val + b2n dp * 8)).canState c.val ≠ csListen ∧
        (u.wr (R.CAN_LASTERR c.val) (lec.val + b2n dp * 8)).txBusy c.val = none)
      (fun u =>
        let a := u.wr (R.CAN_LASTERR c.val) (lec.val + b2n dp * 8)
        (a.canCounters c.val (a.canTec c.val + tec.val) (a.canRec c.val + rec_.val)).gwyWatch) ∧
    (∀ n, Does (fun dt => .canError dt c lec dp tec rec_)
      (fun u => Ready u ∧ u.canOpen c.val = true ∧ (u.wr (R.CAN_LASTERR c.val) (lec.val + b2n dp * 8)).canState c.val ≠ csListen ∧
        (u.wr (R.CAN_LASTERR c.val) (lec.val + b2n dp * 8)).txBusy c.val = some n)
      (fun u =>
        let a := u.wr (R.CAN_LASTERR c.val) (lec.val + b2n dp * 8)
        let b := (a.tdcError c.val (a.txFd c.val n) lec.val dp).txError c.val n
        ((b.canCounters c.val (b.canTec c.val + tec.val) (b.canRec c.val + rec_.val)).canIdle c.val).gwyWatch)) ∧
    Does (fun dt => .busoffRecovery dt c)
      (fun u => Ready u ∧ u.canState c.val = csBusoff ∧ (u.bit (R.CAN_CTRL c.val) 3 = true ∨ (u.canC c.val).recover = true))
      (fun u => ((u.wr (R.CAN_ERRCNT c.val) 0).canGo c.val csActive).setTt c.val
        { (u.canC c.val).tt with watch := u.moduleTime }) ∧
    Does (fun dt => .cancmdRecover dt who c v)
      (fun u => KeyWrites who (canPage c.val) 0xC00 0xCA7D v u ∧ nf v.toNat 3 0 = 1 ∧ u.canState c.val = csBusoff ∧
        u.bit (R.CAN_CTRL c.val) 3 = false)
      (fun u => u.ack.setCan c.val { u.canC c.val with recover := true }) ∧
    Does (fun dt => .cancmdRecover dt who c v) (fun u => KeyWrites who (canPage c.val) 0xC00 0xCA7D v u ∧ nf v.toNat 3 0 ≠ 1)
      (fun u => u.ack.err (canPage c.val) (u.partNo who) eBadValue (R.CAN_CANCMD c.val)) ∧
    Does (fun dt => .txcmdSend dt who c v)
      (fun u => KeyWrites who (canPage c.val) 0xC04 0xCA7E v u ∧ nf v.toNat 1 0 = 1 ∧ u.txMapped c.val (nf v.toNat 12 8) = false ∧
        u.txTrig c.val (nf v.toNat 12 8) = 0 ∧ u.canTtMode c.val = 0)
      (fun u => u.ack.txRequest c.val (nf v.toNat 12 8)) ∧
    Does (fun dt => .txcmdSend dt who c v)
      (fun u => KeyWrites who (canPage c.val) 0xC04 0xCA7E v u ∧ nf v.toNat 1 0 = 1 ∧ u.txMapped c.val (nf v.toNat 12 8) = true)
      (fun u => u.ack.err (canPage c.val) (u.partNo who) 0x0101 (R.CAN_TXCMD c.val)) ∧
    Does (fun dt => .txcmdCancel dt who c v) (fun u => KeyWrites who (canPage c.val) 0xC04 0xCA7E v u ∧ nf v.toNat 1 0 = 2)
      (fun u => u.ack.txCancel c.val (nf v.toNat 12 8)) ∧
    Does (fun dt => .txcmdLoad dt who c v)
      (fun u => KeyWrites who (canPage c.val) 0xC04 0xCA7E v u ∧ nf v.toNat 1 0 = 3 ∧ u.txMapped c.val (nf v.toNat 12 8) = false)
      (fun u => u.ack.txLoad c.val (nf v.toNat 12 8)) ∧
    (∀ x ∈ [fun dt => Instr.txcmdSend dt who c v, fun dt => .txcmdCancel dt who c v, fun dt => .txcmdLoad dt who c v],
      Does x (fun u => KeyWrites who (canPage c.val) 0xC04 0xCA7E v u ∧ nf v.toNat 1 0 = 0)
        (fun u => u.ack.err (canPage c.val) (u.partNo who) eBadValue (R.CAN_TXCMD c.val)) ∧
      Does x (fun u => Writes who (canPage c.val) 0xC04 u ∧ nf v.toNat 31 16 ≠ 0xCA7E)
        (fun u => u.ack.err (canPage c.val) (u.partNo who) eBadKey (reg (canPage c.val) 0xC04))) ∧
    Does (fun dt => .canTxTimer dt c k)
      (fun u => Ready u ∧ u.txOn c.val k.val = true ∧ u.txTrig c.val k.val = 2 ∧ u.canTtMode c.val = 0 ∧
        u.txTimer c.val k.val ≠ (u.canTx c.val k.val).seen)
      (fun u => (u.setTx c.val k.val { u.canTx c.val k.val with seen := u.txTimer c.val k.val }).txRequest c.val k.val) ∧
    (∀ n, Does (fun dt => .canTxStart dt c ph)
      (fun u => Ready u ∧ u.canOpen c.val = true ∧ u.bit (R.CAN_STAT c.val) 9 = false ∧ u.bit (R.CAN_STAT c.val) 3 = false ∧
        (u.canC c.val).goto = [] ∧ u.txBest c.val = some n)
      (fun u => u.txStart c.val n ph.val false)) ∧
    (∀ n, Does (fun dt => .canArbitrationLost dt c)
      (fun u => Ready u ∧ u.txBusy c.val = some n ∧ (u.canTx c.val n).cancel = false ∧ u.txOn c.val n = true ∧
        (u.canTx c.val n).excl = false)
      (fun u => ((u.txBack c.val n).canIdle c.val).gwyWatch)) ∧
    (∀ n, Does (fun dt => .canArbitrationLost dt c)
      (fun u => Ready u ∧ u.txBusy c.val = some n ∧ ((u.canTx c.val n).cancel = true ∨ u.txOn c.val n = false))
      (fun u => ((u.txEnd c.val n 3 false).canIdle c.val).gwyWatch)) ∧
    (∀ n, Does (fun dt => .canArbitrationLost dt c)
      (fun u => Ready u ∧ u.txBusy c.val = some n ∧ (u.canTx c.val n).cancel = false ∧ u.txOn c.val n = true ∧
        (u.canTx c.val n).excl = true)
      (fun u => ((u.txEnd c.val n 2 false).canIdle c.val).gwyWatch)) ∧
    (∀ n, Does (fun dt => .canTxComplete dt c)
      (fun u => Ready u ∧ u.txBusy c.val = some n)
      (fun u =>
        let a := (((u.tdcMeasure c.val (u.txFd c.val n)).putFld (R.CAN_TXSTAT c.val n) 11 8 (min 15 (u.canTx c.val n).errs)).incWrap
          (R.CAN_TXCNT c.val)).txEnd c.val n 1 (u.canTx c.val n).cancel
        let b := if nb (u.rd (R.CAN_TXCFG c.val n)) 15 then a.txStamp c.val n (u.canTx c.val n).sof else a
        let d := if nb (u.rd (R.CAN_TXCFG c.val n)) 14 then b.canEv c.val 2 else b
        ((d.canCounters c.val (d.canTec c.val - 1) (d.canRec c.val)).canIdle c.val).gwyWatch)) ∧
    (∀ n t l, Does (fun dt => .txtspop dt who c)
      (fun u => Reads who (canPage c.val) 0xC0C u ∧ (u.canC c.val).ts = (n, t) :: l)
      (fun u => { ((u.setCan c.val { u.canC c.val with ts := l }).wr (R.CAN_TXTSCNT c.val) l.length).wr64 (R.CAN_TXTS c.val) t with
        resp := .data (0x80000000 + n) })) ∧
    Does (fun dt => .txtspop dt who c) (fun u => Reads who (canPage c.val) 0xC0C u ∧ (u.canC c.val).ts = [])
      (fun u => { u with resp := .data 0 }) ∧
    Does (fun dt => .rxqrel dt who c v)
      (fun u => Writes who (canPage c.val) 0xC08 u ∧ (u.canC c.val).qmap = false ∧ nf v.toNat 7 0 ≠ 0 ∧
        nf v.toNat 7 0 ≤ u.rxqCount c.val)
      (fun u => u.ack.rxqFree c.val (nf v.toNat 7 0)) ∧
    Does (fun dt => .rxqrel dt who c v)
      (fun u => Writes who (canPage c.val) 0xC08 u ∧ (u.canC c.val).qmap = false ∧ u.rxqCount c.val < nf v.toNat 7 0)
      (fun u => u.ack.err (canPage c.val) (u.partNo who) eBadValue (R.CAN_RXQREL c.val)) ∧
    Does (fun dt => .rxqrel dt who c v) (fun u => Writes who (canPage c.val) 0xC08 u ∧ (u.canC c.val).qmap = true)
      (fun u => u.ack.err (canPage c.val) (u.partNo who) 0x0102 (R.CAN_RXQREL c.val)) ∧
    Does (fun dt => .canWake dt c .wup)
      (fun u => Ready u ∧ u.sys.down = none ∧ u.canState c.val = csSleep ∧ wakes (u.bit (R.CAN_CTRL c.val) 12) (u.wakeCfg c.val) .wup = true)
      (fun u => (u.putBit (R.CAN_WAKESTAT c.val) 0 true).canEv c.val 7) ∧
    Does (fun dt => .canWake dt c w)
      (fun u => u.sys.on = false ∧ u.sys.sleep = true ∧ u.sys.canWake.any (fun e => e.1 == c.val && wakes e.2.1 e.2.2 w) = true)
      (fun u => { u with sys := { u.sys with wake := true } }) ∧
    Does (fun dt => .canCntclr dt who c 1) (fun u => Writes who (canPage c.val) 0xC10 u)
      (fun u => u.ack.zero [R.CAN_NOMATCH c.val, R.CAN_DLCOVER c.val, R.CAN_RTRCNT c.val, R.CAN_BOCNT c.val, R.CAN_QOVR c.val,
        R.CAN_TXMERGE c.val, R.CAN_TTMISS c.val, R.CAN_TTSCHED c.val])

/-- Completion, result and frame of the time-triggered commands of CAN. -/
def Obligations.TimeTriggeredCanCompletes : Prop :=
  ∀ (c : Fin 4) (ph : Fin 8) (j : Fin 64) (r : TtRef) (ago : Nat),
    Does (fun dt => .ttReferenceAttempt dt c true ph)
      (fun u => Ready u ∧ u.ttOn c.val = true ∧ u.bit (R.CAN_CTRL c.val) 8 = true ∧ u.ttErr c.val ≠ 3 ∧
        u.bit (R.CAN_STAT c.val) 3 = false ∧ u.ttSync c.val = 2 ∧ u.fld (R.CAN_TTCYCLE c.val) 15 0 ≤ u.ttTime c.val)
      (fun u => u.ttMaster c.val (u.stamp ph.val) (u.ttNext c.val)) ∧
    Does (fun dt => .ttReferenceAttempt dt c false ph)
      (fun u => Ready u ∧ u.ttOn c.val = true ∧ u.bit (R.CAN_CTRL c.val) 8 = true ∧ u.ttErr c.val ≠ 3 ∧
        u.bit (R.CAN_STAT c.val) 3 = false ∧ u.ttSync c.val = 2 ∧ u.fld (R.CAN_TTCYCLE c.val) 15 0 ≤ u.ttTime c.val)
      (fun u => u.putBit (R.CAN_STAT c.val) 8 false) ∧
    Does (fun dt => .ttReferenceReceived dt c r ago)
      (fun u => Ready u ∧ u.ttOn c.val = true ∧ u.canTtMode c.val ≠ 2 ∧ r.fdf = false ∧ r.gap = false ∧
        r.count.toNat < u.ttLen c.val ∧ u.ttSync c.val = 0)
      (fun u => ((u.ttCycle c.val (u.stamp 0 - ago / 5 * 5) r.count.toNat r.prio.val).putBit (R.CAN_STAT c.val) 8 false).setTtSync c.val 1) ∧
    Does (fun dt => .ttReferenceReceived dt c r ago)
      (fun u => Ready u ∧ u.ttOn c.val = true ∧ u.canTtMode c.val ≠ 2 ∧ r.fdf = false ∧ r.gap = false ∧
        r.count.toNat < u.ttLen c.val ∧ u.ttSync c.val ≠ 0 ∧ r.count.toNat = u.ttNext c.val ∧ r.corr.natAbs ≤ 500000)
      (fun u => ((((u.ttCycle c.val (u.stamp 0 - ago / 5 * 5) r.count.toNat r.prio.val).putBit (R.CAN_STAT c.val) 8 false).wr
        (R.CAN_TTRATE c.val) (toBits 24 r.corr)).ttGood c.val r.count.toNat).setTtSync c.val 2) ∧
    Does (fun dt => .ttReferenceReceived dt c r ago)
      (fun u => Ready u ∧ u.ttOn c.val = true ∧ u.canTtMode c.val ≠ 2 ∧
        (r.fdf = true ∨ r.gap = true ∨ u.ttLen c.val ≤ r.count.toNat))
      (fun u => u.ttRaise c.val 3) ∧
    Does (fun dt => .ttReferenceReceived dt c r ago)
      (fun u => Ready u ∧ u.ttOn c.val = true ∧ u.canTtMode c.val = 2 ∧ r.fdf = true ∧ r.res = 0 ∧ r.count.toNat < 64 ∧
        (u.wr (R.CAN_TTTOFS c.val) (ttOffset r.time.toNat (u.stamp 0 - ago / 5 * 5))).ttSync c.val = 0)
      (fun u =>
        let a := u.wr (R.CAN_TTTOFS c.val) (ttOffset r.time.toNat (u.stamp 0 - ago / 5 * 5))
        let b := (a.ttCycle c.val (u.stamp 0 - ago / 5 * 5) r.count.toNat r.prio.val).putBit (R.CAN_STAT c.val) 8 false
        (b.setTt c.val { (b.canC c.val).tt with gtime := r.gtime }).setTtSync c.val 1) ∧
    Does (fun dt => .ttReferenceReceived dt c r ago)
      (fun u => Ready u ∧ u.ttOn c.val = true ∧ u.canTtMode c.val = 2 ∧ r.fdf = false)
      (fun u => u.ttRaise c.val 3) ∧
    Does (fun dt => .ttTrigger dt c j true ph)
      (fun u => Ready u ∧ u.ttOn c.val = true ∧ u.ttSync c.val = 2 ∧ nf (u.rd (R.CAN_TTTA c.val j.val)) 2 0 = 1 ∧
        (u.canC c.val).tt.fired.contains j.val = false ∧
        u.fld (R.CAN_TTSTAT c.val) 5 0 % 2 ^ nf (u.rd (R.CAN_TTTA c.val j.val)) 26 24 = nf (u.rd (R.CAN_TTTA c.val j.val)) 21 16 ∧
        u.fld (R.CAN_TTTB c.val j.val) 15 0 ≤ u.ttTime c.val ∧
        ∀ t, t = (u.setTt c.val { (u.canC c.val).tt with fired := j.val :: (u.canC c.val).tt.fired }).ttClose c.val false →
          t.ttErr c.val < 2 ∧ t.bit (R.CAN_STAT c.val) 3 = false ∧ t.txOn c.val (nf (u.rd (R.CAN_TTTA c.val j.val)) 15 8 % 32) = true ∧
          (t.canTx c.val (nf (u.rd (R.CAN_TTTA c.val j.val)) 15 8 % 32)).fresh = true)
      (fun u =>
        let t := (u.setTt c.val { (u.canC c.val).tt with fired := j.val :: (u.canC c.val).tt.fired }).ttClose c.val false
        (t.putBit (R.CAN_TXSTAT c.val (nf (u.rd (R.CAN_TTTA c.val j.val)) 15 8 % 32)) 5 false).ttS1 c.val) ∧
    Does (fun dt => .ttWatchExpiry dt c)
      (fun u => Ready u ∧ u.ttOn c.val = true ∧ u.ttSync c.val = 1 ∧ (u.canC c.val).tt.watch + u.ttWatch c.val ≤ u.moduleTime)
      (fun u => u.ttNone c.val) ∧
    Does (fun dt => .ttWatchExpiry dt c)
      (fun u => Ready u ∧ u.ttOn c.val = true ∧ u.ttSync c.val ≠ 0 ∧ u.ttSync c.val ≠ 1 ∧
        (u.canC c.val).tt.watch + u.ttWatch c.val ≤ u.moduleTime ∧ (u.canC c.val).tt.missed = 0)
      (fun u =>
        let a := (u.incSat (R.CAN_TTMISS c.val)).ttRaise c.val 2
        a.setTt c.val { (a.canC c.val).tt with missed := 1, watch := a.moduleTime })

/-- Completion, result and frame of the commands of TMB, and of TIME_STEP. -/
def Obligations.TimeBaseCommandsComplete : Prop :=
  ∀ (who : Init) (v : Word) (ago : Nat),
    Does (fun dt => .ofsgo dt who 1)
      (fun u => Writes who 0x050 0xC00 u ∧ u.tsrc = false ∧ u.servoOn = true ∧ u.tmb.ofsTick = 0)
      (fun u => (u.ack.setTmb { u.tmb with ofsTick := u.ticks + 1 }).tmbSample (sx 64 (u.rd64 R.TMB_OFS)) (40 * u.ticks)
        (u.partNo who) (some R.TMB_OFSGO)) ∧
    Does (fun dt => .ofsgo dt who 1)
      (fun u => Writes who 0x050 0xC00 u ∧ u.tsrc = false ∧ u.servoOn = true ∧ u.tmb.ofsTick ≠ 0 ∧
        u.tmb.ofsTick - 1 + 100 ≤ u.ticks)
      (fun u => (u.ack.setTmb { u.tmb with ofsTick := u.ticks + 1 }).tmbSample (sx 64 (u.rd64 R.TMB_OFS)) (40 * u.ticks)
        (u.partNo who) (some R.TMB_OFSGO)) ∧
    Does (fun dt => .ofsgo dt who 1) (fun u => Writes who 0x050 0xC00 u ∧ (u.tsrc = true ∨ u.servoOn = false))
      (fun u => u.ack.err 0x050 (u.partNo who) eBadValue R.TMB_OFSGO) ∧
    Does (fun dt => .syncinPulse dt ago)
      (fun u => Ready u ∧ u.bit R.TMB_PPSCFG 0 = true ∧ 3998 ≤ ago)
      (fun u =>
        let a := ((u.wr64 R.TMB_PPS (u.moduleTime - ago / 5 * 5)).incWrap R.TMB_PPSCNT).raise 0x051 0
        let b := a.setTmb { u.tmb with
          pulses := min 2 (u.tmb.pulses + 1), pulseTick := u.ticks - ago / 40, watch := decide (1 ≤ u.tmb.pulses) }
        if b.tsrc = true ∧ b.servoOn = true then
          b.tmbSample (((u.moduleTime - ago / 5 * 5 : Nat) : Int) -
              ((u.moduleTime - ago / 5 * 5 + 2000000000) / 4000000000 * 4000000000 : Nat))
            (40 * b.ticks - ago) ((b.owner 0x050).getD 0) none
        else b) ∧
    Does (fun dt => .syncinMissing dt) (fun u => Ready u ∧ u.bit R.TMB_PPSCFG 0 = true ∧ u.tmb.watch = true ∧ u.tmb.pulseTick + 110000000 ≤ u.ticks)
      (fun u => ((u.setTmb { u.tmb with watch := false }).incSat R.TMB_PPSMISS).raise 0x051 1) ∧
    Does (fun dt => .holdover dt)
      (fun u => Ready u ∧ u.servoOn = true ∧ (u.tstate = tsTracking ∨ u.tstate = tsLocked ∨ u.tstate = tsDiverged) ∧
        u.tmb.holdTick + 100000 * (10 * u.fld R.TMB_LOCKCFG 31 16) ≤ u.ticks)
      (fun u => (u.setRate u.tmb.i).setTstate tsHoldover) ∧
    Does (fun dt => .tmbCapgo dt who 1) (fun u => Writes who 0x051 0xC00 u)
      (fun u => (u.ack.wr64 R.TMB_CAP u.moduleTime).raise 0x051 2) ∧
    Does (fun dt => .restep dt who v)
      (fun u => KeyWrites who 0x053 0xC00 0x7E51 v u ∧ nb v.toNat 0 = true ∧ u.tstate ≠ tsFreerun)
      (fun u => ((u.ack.putBit R.TMB_STAT 5 true).incWrap R.TMB_RESTEPCNT).raise 0x053 0) ∧
    Does (fun dt => .restep dt who v)
      (fun u => KeyWrites who 0x053 0xC00 0x7E51 v u ∧ (nb v.toNat 0 = false ∨ u.tstate = tsFreerun))
      (fun u => u.ack.err 0x053 (u.partNo who) eBadValue R.TMB_RESTEP) ∧
    Does (fun dt => .leapSecond dt)
      (fun u => Ready u ∧ u.fld R.TMB_LEAP 1 0 = 1 ∧ ((u.tmb.leapDay + 1) * 86400 + 1) * 4000000000 ≤ u.utcNow)
      (fun u => (u.wr R.TMB_TAIUTC (toBits 16 (sx 16 (u.rd R.TMB_TAIUTC) + 1))).wr R.TMB_LEAP 0) ∧
    Does (fun dt => .leapSecond dt)
      (fun u => Ready u ∧ u.fld R.TMB_LEAP 1 0 = 2 ∧ ((u.tmb.leapDay + 1) * 86400 - 1) * 4000000000 ≤ u.utcNow)
      (fun u => (u.wr R.TMB_TAIUTC (toBits 16 (sx 16 (u.rd R.TMB_TAIUTC) - 1))).wr R.TMB_LEAP 0) ∧
    (∀ d due rest, Does (fun dt => .timeStep dt) (fun u => Ready u ∧ u.tmb.steps = (d, due) :: rest ∧ due ≤ u.ticks)
      (fun u =>
        let a := forN 8 (fun k (t : State) => t.axTimeStep k d) ((u.setTmb { u.tmb with steps := rest }).timeMove d)
        let b := a.record 0x09 0x0001 1 0x050 a.moduleTime [toBits 64 d % 2 ^ 32, toBits 64 d / 2 ^ 32]
        ((((((b.cycMove d).sfnMove d).dioStep).sarStep).loopStep.canStep d).ethStep).hrbStep))

/-- Completion, result and frame of the commands of ETH. -/
def Obligations.EthernetCommandsComplete : Prop :=
  ∀ (who : Init) (v : Word) (svc up gig : Bool) (n : Fin 6) (g : Fin 4) (q : Fin 8) (l2 : Fin 2) (k : Fin 32) (r : Fin 64)
    (f : EthFrame) (ago : Nat) (ph : Fin 8),
    Does (fun dt => .txtailWrite dt who svc v) (fun u => Writes who (ringPage svc) 0x04C u)
      (fun u => (u.ack.wr (reg (ringPage svc) 0x04C) (nf v.toNat 9 0)).txFetch (ringPage svc)) ∧
    Does (fun dt => .rxtailWrite dt who svc v) (fun u => Writes who (ringPage svc) 0x06C u)
      (fun u => u.ack.wr (reg (ringPage svc) 0x06C) (nf v.toNat 9 0)) ∧
    (∀ w, Does (fun dt => .ethTxComplete dt svc)
      (fun u => Ready u ∧ (u.ethRing (ringPage svc)).work.find? (fun x => x.left == 0) = some w ∧ w.bad = false)
      (fun u =>
        let p := ringPage svc
        let work := (u.ethRing p).work.filter (fun x => x.idx != w.idx)
        let a := u.setEthRing p { u.ethRing p with work := work }
        let d := a.dmaWrite p ethBlk (a.rd64 (reg p 0x040) % 2 ^ 40 + 32 * w.idx + 0x18) (bytesOf 4 (2 ^ 31 + w.status))
        if d.2 = .ok then (d.1.wr (reg p 0x050) (match work with | x :: _ => x.idx | [] => (u.ethRing p).next)).raise p 1
        else d.1.dmaStop p)) ∧
    Does (fun dt => .ringerrClear dt who svc v)
      (fun u => Writes who (ringPage svc) 0x0A0 u ∧ nb v.toNat 0 = true ∧ u.bit (reg (ringPage svc) 0x0A0) 0 = true)
      (fun u =>
        let a := u.ack.putBit (reg (ringPage svc) 0x0A0) 0 false
        (a.setEthRing (ringPage svc) { u.ethRing (ringPage svc) with stop := false }).txFetch (ringPage svc)) ∧
    (∀ i, Does (fun dt => .ethFrameTransmitted dt n ago) (fun u => Ready u ∧ (u.ethP n.val).cur = some i ∧ n.val < 4)
      (fun u =>
        let a := (u.setEthP n.val { u.ethP n.val with
          cur := none, sent := some { i with data := u.sentForm n.val i (u.moduleTime - ago / 5 * 5) } }).incWrap (R.ETH_TXFRM n.val)
        ((a.sentAt n.val i (u.moduleTime - ago / 5 * 5)).kick n.val).txFetchAll)) ∧
    (∀ i l, Does (fun dt => .ethLaunch dt n q)
      (fun u => Ready u ∧ (u.ethP n.val).queue q.val = i :: l ∧ 2 ≤ u.launchCase n.val i)
      (fun u => (((u.setQueue n.val q.val l).itemEnd n.val i (u.launchCase n.val i - 1)).kick n.val).txFetchAll)) ∧
    (∀ i l, Does (fun dt => .ethLaunch dt n q)
      (fun u => Ready u ∧ (u.ethP n.val).queue q.val = i :: l ∧ u.launchCase n.val i < 2) (fun u => u.kick n.val)) ∧
    Does (fun dt => .gateListEntry dt g) (fun u => Ready u ∧ (u.ethP g.val).gcl.on = true)
      (fun u => (u.gclShow g.val).kick g.val) ∧
    (∀ x, Does (fun dt => .gateListSwitch dt g)
      (fun u => Ready u ∧ (u.ethP g.val).next = some x ∧ (u.ethP g.val).swAt ≤ u.moduleTime)
      (fun u => ((((u.setEthP g.val { u.ethP g.val with gcl := x, next := none }).putBit (R.ETH_TASSTAT g.val) 0 false).gclShow
        g.val).raise (portPage g.val) 0).kick g.val)) ∧
    Does (fun dt => .ethFrameReceived dt n f ago ph)
      (fun u => Ready u ∧ n.val < 4 ∧ u.ethLink n.val = true ∧ u.bit R.ETH_CTRL 0 = true ∧ f.fcs = false)
      (fun u => u.incSat (R.ETH_RXERR n.val)) ∧
    Does (fun dt => .ethFrameReceived dt n f ago ph)
      (fun u => Ready u ∧ 2 ≤ n.val ∧ n.val < 4 ∧ u.ethLink n.val = true ∧ u.bit R.ETH_CTRL 0 = true ∧ f.fcs = true ∧
        1518 < f.data.length)
      (fun u => (u.incWrap (R.ETH_RXFRM n.val)).incSat R.ETH_OVERSIZE) ∧
    Does (fun dt => .ethFrameReceived dt n f ago ph)
      (fun u => Ready u ∧ n.val = 5 ∧ u.ethLink 5 = true ∧ f.fcs = true ∧ f.data.length ≤ 1518)
      (fun u => u.rxDeliver 0x0B9 5 (f.data.map BitVec.toNat) (u.stamp ph.val - ago / 5 * 5)) ∧
    Does (fun dt => .ethLinkChange dt n false gig) (fun u => Ready u ∧ n.val ≠ 4)
      (fun u => (u.setLink n.val false false).txFetchAll) ∧
    Does (fun dt => .ethLinkChange dt n up gig)
      (fun u => Ready u ∧ n.val < 4 ∧ up = true ∧ u.bit (R.ETH_PCFG n.val) 2 = true ∧ u.fld (R.ETH_PCFG n.val) 1 0 = 0)
      (fun u => u.setLink n.val true gig) ∧
    (∀ e l, Does (fun dt => .fdbAgeOut dt)
      (fun u => Ready u ∧ u.eth.fdb = e :: l ∧ e.2.2.2 + 100000000 * u.fld R.ETH_AGETIME 11 0 ≤ u.ticks)
      (fun u => ({ u with eth := { u.eth with fdb := l } } : State).wr R.ETH_FDBCNT l.length)) ∧
    (∀ e l, Does (fun dt => .prpEntryExpiry dt)
      (fun u => Ready u ∧ u.eth.dup = e :: l ∧ e.2.2.1 + 100000 * u.fld R.ETH_PRPCFG 25 16 ≤ u.ticks)
      (fun u => ({ u with eth := { u.eth with dup := l } } : State).wr R.ETH_DUPCNT l.length)) ∧
    Does (fun dt => .prpLanMissing dt l2)
      (fun u => Ready u ∧ u.prpMode ≠ 0 ∧ tabGet 0 u.eth.lan l2.val + 200000000 ≤ u.ticks ∧
        u.ticks < tabGet 0 u.eth.lan (1 - l2.val) + 200000000 ∧ u.bit R.ETH_PRPSTAT l2.val = false)
      (fun u => (u.putBit R.ETH_PRPSTAT l2.val true).raise 0x0B5 8) ∧
    (∀ e l, Does (fun dt => .tspop dt who) (fun u => Reads who 0x0B8 0xC00 u ∧ u.eth.tsq = e :: l)
      (fun u => (({ u with eth := { u.eth with tsq := l }, resp := .data (2 ^ 31 + e.1 * 65536 + e.2.1) } : State).wr
        R.ETH_TSQCNT l.length).wr64 R.ETH_TS e.2.2)) ∧
    Does (fun dt => .tspop dt who) (fun u => Reads who 0x0B8 0xC00 u ∧ u.eth.tsq = []) (fun u => { u with resp := .data 0 }) ∧
    (∀ l x, Does (fun dt => .pdTxLaunch dt k)
      (fun u => Ready u ∧ u.pdDue k.val = some (l, x) ∧ nb (u.rd (R.ETH_PDTCFG k.val)) 0 = true ∧
        ((u.setEthPd k.val x).pdMapped k.val = false ∨ x.stopped = false ∧ (x.en = true ∨ x.template = true)) ∧ (u.setEthPd k.val x).pdGated = true)
      (fun u => (u.setEthPd k.val x).putFld (R.ETH_PDTSTAT k.val) 1 0 3)) ∧
    (∀ l x, Does (fun dt => .pdTxLaunch dt k)
      (fun u => Ready u ∧ u.pdDue k.val = some (l, x) ∧ nb (u.rd (R.ETH_PDTCFG k.val)) 0 = true ∧
        ((u.setEthPd k.val x).pdMapped k.val = false ∨ x.stopped = false ∧ (x.en = true ∨ x.template = true)) ∧ (u.setEthPd k.val x).pdGated = false ∧
        (maskPorts ((u.setEthPd k.val x).redPair (nf (u.rd (R.ETH_PDTCFG k.val)) 15 12)).2.1).any
          (fun m => (u.setEthPd k.val x).ethLink m) = false)
      (fun u => (((u.setEthPd k.val x).redPair (nf (u.rd (R.ETH_PDTCFG k.val)) 15 12)).1.putFld (R.ETH_PDTSTAT k.val) 1 0 2).raise
        0x0B6 1)) ∧
    (∀ l x, Does (fun dt => .pdTxLaunch dt k)
      (fun u => Ready u ∧ u.pdDue k.val = some (l, x) ∧ nb (u.rd (R.ETH_PDTCFG k.val)) 0 = true ∧
        ((u.setEthPd k.val x).pdMapped k.val = false ∨ x.stopped = false ∧ (x.en = true ∨ x.template = true)) ∧ (u.setEthPd k.val x).pdGated = false ∧
        (maskPorts ((u.setEthPd k.val x).redPair (nf (u.rd (R.ETH_PDTCFG k.val)) 15 12)).2.1).any
          (fun m => (u.setEthPd k.val x).ethLink m) = true)
      (fun u =>
        let cfg := u.rd (R.ETH_PDTCFG k.val)
        let sp := (u.setEthPd k.val x).redPair (nf cfg 15 12)
        let live := (maskPorts sp.2.1).filter (fun m => (u.setEthPd k.val x).ethLink m)
        forL live (fun m (t : State) => t.enqueue m (nf cfg 11 9)
          { src := .pd k.val, red := if m < 2 then sp.2.2 else none, launch := some l })
          (sp.1.setEthPd k.val { x with left := x.left + live.length }))) ∧
    Does (fun dt => .pdRxTimeout dt r)
      (fun u => Ready u ∧ u.bit (R.ETH_PDRCFG r.val) 0 = true ∧ u.fld (R.ETH_PDRTMO r.val) 23 0 ≠ 0 ∧
        u.bit (R.ETH_PDRSTAT r.val) 2 = false ∧
        (tabGet (0, 0) u.eth.rx r.val).1 + 100 * u.fld (R.ETH_PDRTMO r.val) 23 0 ≤ u.ticks)
      (fun u => ((u.putBit (R.ETH_PDRSTAT r.val) 2 true).raise 0x0B7 1).srcReport
        (fun e => e.kind == 0x0A && e.item == r.val) State.ethSrc)

/-- Completion, result and frame of the commands of GWY and HRB. -/
def Obligations.GatewayAndHeritageComplete : Prop :=
  ∀ (who : Init) (v : Word) (n : Fin 4) (kind inst : Fin 4) (item : Fin 256) (g : Fin 128) (x : BitVec 24) (w : Fin 4) (op : BusOp)
    (hd : BitVec 16) (e : Fin 32) (i : Fin 8),
    Does (fun dt => .gwySignalWrite dt kind inst item) (fun u => Ready u)
      (fun u => forL (u.gwyFed kind.val inst.val item.val) (fun g t => t.gwyUpdate g) u) ∧
    Does (fun dt => .gwyStale dt g)
      (fun u => Ready u ∧ u.gwyOn g.val = true ∧ u.fld (gTmo g.val) 15 0 ≠ 0 ∧ u.bit (R.GWY_SSTAT g.val) 1 = false ∧
        (u.gwySig g.val).tick + 100000 * u.fld (gTmo g.val) 15 0 ≤ u.ticks)
      (fun u =>
        let a := ((u.putBit (R.GWY_SSTAT g.val) 1 true).raise 0x0C0 1).gwyShow g.val
        if a.bit (gTmo g.val) 16 = true ∧ a.gwyBlocked g.val = false then a.gwyPut g.val (a.rd64 (gSub g.val)) else a) ∧
    Does (fun dt => .gwyCntclr dt who 1) (fun u => Writes who 0x0C0 0xC00 u)
      (fun u => (forN 128 (fun g (t : State) => t.wr (R.GWY_OVWR g) 0) u.ack).wr R.GWY_LATMAX 0) ∧
    Does (fun dt => .hrbWindowAccess dt who n x w op) (fun u => Ready u ∧ u.live who = true)
      (fun u => u.hrbAccess who n.val x.toNat (2 ^ w.val) op) ∧
    (∀ o l, Does (fun dt => .hrbCycleStart dt n)
      (fun u => Ready u ∧ u.hrb.cur = none ∧ u.hrb.free ≤ u.ticks ∧ u.hrb.op = none ∧ u.hrbShut = false ∧ (u.hrbWin n.val).halted = false ∧
        (u.hrbWin n.val).q = o :: l)
      (fun u => (({ u with hrb := { u.hrb with op := some (n.val, o) } } : State).setHrbQ n.val l).hrbDrive)) ∧
    (∀ o, Does (fun dt => .hrbCycleStart dt n) (fun u => Ready u ∧ u.hrb.cur = none ∧ u.hrb.free ≤ u.ticks ∧ u.hrb.op = some o) (fun u => u.hrbDrive)) ∧
    (∀ c t0, Does (fun dt => .hrbCardReply dt false hd)
      (fun u => Ready u ∧ u.hrb.cur = some (c, t0) ∧ t0 + 4 ≤ u.ticks ∧ u.ticks ≤ t0 + 2 * u.ackTo + 2)
      (fun u => { u with hrb := { u.hrb with free := u.ticks + 1 } }.hrbGood c hd.toNat)) ∧
    (∀ c t0, Does (fun dt => .hrbCardReply dt true hd)
      (fun u => Ready u ∧ u.hrb.cur = some (c, t0) ∧ t0 + 4 ≤ u.ticks ∧ u.ticks ≤ t0 + 2 * u.ackTo + 2)
      (fun u => { u with hrb := { u.hrb with free := u.ticks + 1 } }.hrbBad c 1)) ∧
    (∀ c t0, Does (fun dt => .hrbCycleTimeout dt) (fun u => Ready u ∧ u.hrb.cur = some (c, t0) ∧ t0 + u.ackTo ≤ u.ticks)
      (fun u => u.hrbBad c 2)) ∧
    Does (fun dt => .hrbResetEnd dt)
      (fun u => Ready u ∧ u.bit R.HRB_CTRL 0 = true ∧ u.bit R.HRB_STAT 1 = true ∧ u.hrb.rstTick + 1000000 ≤ u.ticks)
      (fun u => u.putBit R.HRB_STAT 1 false) ∧
    Does (fun dt => .wackResume dt who n v)
      (fun u => Ready u ∧ u.live who = true ∧ u.hwOn n.val = true ∧ u.hwOwner n.val = u.partOf who ∧
        (u.partOf who).any (fun p => !u.inDsec p) = true)
      (fun u => u.ack.wack n.val (u.partNo who) v 1) ∧
    Does (fun dt => .wackFlush dt who n v)
      (fun u => Ready u ∧ u.live who = true ∧ u.hwOn n.val = true ∧ u.hwOwner n.val = u.partOf who ∧
        (u.partOf who).any (fun p => !u.inDsec p) = true)
      (fun u => u.ack.wack n.val (u.partNo who) v 2) ∧
    Does (fun dt => .wackResume dt who n v)
      (fun u => Ready u ∧ u.live who = true ∧ (u.hwOn n.val = false ∨ u.hwOwner n.val ≠ u.partOf who ∨
        (u.partOf who).all (fun p => u.inDsec p) = true))
      (fun u => u.busFault who (0x50FFF800 + n.val * 0x1000000)) ∧
    Does (fun dt => .wackFlush dt who n v)
      (fun u => Ready u ∧ u.live who = true ∧ (u.hwOn n.val = false ∨ u.hwOwner n.val ≠ u.partOf who ∨
        (u.partOf who).all (fun p => u.inDsec p) = true))
      (fun u => u.busFault who (0x50FFF800 + n.val * 0x1000000)) ∧
    Does (fun dt => .pollReadDue dt e)
      (fun u =>
        let m := nf (u.rd (R.HRB_PECFG e.val)) 2 1
        Ready u ∧ nb (u.rd (R.HRB_PECFG e.val)) 0 = true ∧ u.peTimer e.val ≠ (u.hrbPe e.val).1 ∧ u.hwOn m = true ∧
          u.hwOwner m = u.owner 0x0C4 ∧
          u.fld (R.HRB_PEOFS e.val) 23 0 + (if nb (u.rd (R.HRB_PECFG e.val)) 3 then 4 else 2) ≤ u.fld (R.HRB_WSIZE m) 23 0 ∧
          ∀ t, t = u.setHrbPe e.val (u.peTimer e.val, false) → t.hrbShut = false ∧ (t.hrbWin m).halted = false)
      (fun u =>
        let t := u.setHrbPe e.val (u.peTimer e.val, false)
        let m := nf (u.rd (R.HRB_PECFG e.val)) 2 1
        t.hrbPut m
          { cycles := hrbCycles (t.fld (R.HRB_WFAR m) 23 0 + t.fld (R.HRB_PEOFS e.val) 23 0)
              (if nb (u.rd (R.HRB_PECFG e.val)) 3 then 4 else 2) none
            kind := .poll e.val, part := (t.owner 0x0C4).getD 0 }) ∧
    Does (fun dt => .atnAccept dt i false) (fun u => Ready u)
      (fun u => u.putBit R.HRB_ATNLEV i.val false) ∧
    Does (fun dt => .atnAccept dt i true) (fun u => Ready u ∧ u.bit R.HRB_ATNLEV i.val = false)
      (fun u =>
        let a := u.putBit R.HRB_ATNLEV i.val true
        forN 32 (fun e (t : State) =>
          if nb (t.rd (R.HRB_PECFG e)) 0 && nb (t.rd (R.HRB_PECFG e)) 7 && nf (t.rd (R.HRB_PECFG e)) 6 4 == i.val then
            t.setHrbPe e ((t.hrbPe e).1, true) else t) (a.raiseIf (u.bit R.HRB_ATNEN i.val) 0x0C4 (8 + i.val))) ∧
    Does (fun dt => .hrbCntclr dt who 1) (fun u => Writes who 0x0C4 0xC00 u)
      (fun u => (((((u.ack.wr R.HRB_BERRCNT 0).wr R.HRB_TOCNT 0).wr R.HRB_PFDISC 0).wr R.HRB_PFERR 0).wr R.HRB_CDROP 0).wr R.HRB_FLUSHCNT 0)

/-- Completion, result and frame of the commands of RDN. -/
def Obligations.RedundancyCommandsComplete : Prop :=
  ∀ (who : Init) (v w size : Word) (sig : Fin 4) (c : Ckpt) (pass : Bool),
    Does (fun dt => .primInChange dt 0) (fun u => Ready u ∧ u.primIn ≠ 0 ∧ (u.putFld R.RDN_STAT 4 3 (0 : Nat)).paired = false)
      (fun u => { u.putFld R.RDN_STAT 4 3 (0 : Nat) with rdn := { u.rdn with idleTick := u.ticks } }) ∧
    Does (fun dt => .primInChange dt 3)
      (fun u => Ready u ∧ u.primIn < 2 ∧ (u.putFld R.RDN_STAT 4 3 (3 : Nat)).paired = true ∧
        (((u.putFld R.RDN_STAT 4 3 (3 : Nat)).incSat R.RDN_INTLKCNT).raise 0x0D0 1).prim ≠ prClaim)
      (fun u => (({ u.putFld R.RDN_STAT 4 3 (3 : Nat) with rdn := { u.rdn with heldTick := u.ticks } }.incSat
        R.RDN_INTLKCNT).raise 0x0D0 1).rdnEval) ∧
    Does (fun dt => .primInChange dt sig) (fun u => Ready u ∧ u.primIn = sig.val) (fun u => u) ∧
    Does (fun dt => .primacyClaim dt)
      (fun u => Ready u ∧ u.rdnEval.paired = true ∧ u.rdnEval.prim = prIdle ∧ u.rdnEval.rd R.RDN_REFUSE = 0 ∧
        u.rdnEval.mayClaim = true)
      (fun u => ({ u.rdnEval with rdn := { u.rdnEval.rdn with
          claimTick := u.rdnEval.ticks, take := u.rdnEval.rdn.hbSeen
          ti := if u.rdnEval.rdn.hbSeen then some u.rdnEval.rdn.idleTick else none } } : State).setPrim prClaim) ∧
    Does (fun dt => .primacyConflict dt)
      (fun u => Ready u ∧ u.prim = prHeld ∧ 2 ≤ u.primIn ∧ u.rdn.heldTick + 500 ≤ u.ticks)
      (fun u => (((u.dropPrimacy false).incSat R.RDN_INTLKCNT).raise 0x0D0 1).rdnEval) ∧
    Does (fun dt => .primcmdRelease dt who v) (fun u => KeyWrites who 0x0D0 0xC00 0x9C1D v u ∧ nb v.toNat 0 = true)
      (fun u => u.ack.askRelease (u.partNo who)) ∧
    Does (fun dt => .primcmdRelease dt who v) (fun u => KeyWrites who 0x0D0 0xC00 0x9C1D v u ∧ nb v.toNat 0 = false)
      (fun u => u.ack.err 0x0D0 (u.partNo who) eBadValue R.RDN_PRIMCMD) ∧
    Does (fun dt => .primcmdRelease dt who v) (fun u => Writes who 0x0D0 0xC00 u ∧ nf v.toNat 31 16 ≠ 0x9C1D)
      (fun u => u.ack.err 0x0D0 (u.partNo who) eBadKey (reg 0x0D0 0xC00)) ∧
    (∀ l, Does (fun dt => .primacyRelease dt)
      (fun u => Ready u ∧ u.rdn.relWait = some l ∧ u.prim = prHeld ∧ ∀ p ∈ l, u.commits p = false)
      (fun u => (u.dropPrimacy true).rdnEval)) ∧
    Does (fun dt => .heartbeatSend dt)
      (fun u => Ready u ∧ u.rdn.lockTick ≠ 0 ∧ u.rdn.sendTick + 100000 ≤ u.ticks)
      (fun u => (({ u with rdn := { u.rdn with sendTick := u.ticks } } : State).rdnEval).wr R.RDN_HLTHOWN
        (({ u with rdn := { u.rdn with sendTick := u.ticks } } : State).rdnEval).hlthOwn) ∧
    Does (fun dt => .heartbeatReceived dt w true) (fun u => Ready u)
      (fun u => (({ u with rdn := { u.rdn with hbSeen := true, hbTick := u.ticks } } : State).wr R.RDN_HLTHPART
        (w.toNat &&& 0xFFFF01FF)).rdnEval) ∧
    Does (fun dt => .heartbeatReceived dt w false) (fun u => Ready u) (fun u => u.incSat R.RDN_PLINKERR) ∧
    Does (fun dt => .heartbeatTimeout dt) (fun u => Ready u ∧ u.bit R.RDN_STAT 5 = true ∧ u.hbArriving = false)
      (fun u => u.rdnEval) ∧
    (∀ x, Does (fun dt => .checkpointSendDone dt size) (fun u => Ready u ∧ u.rdn.flight = some x)
      (fun u => ({ u with rdn := { u.rdn with flight := none } } : State).ckDone x size.toNat false)) ∧
    Does (fun dt => .checkpointReceived dt c size) (fun u => Ready u ∧ u.cicada = true)
      (fun u => (u.ckDone c size.toNat true).rdnEval) ∧
    Does (fun dt => .standbyLaneTest dt pass)
      (fun u => Ready u ∧ u.cicada = true ∧ u.rdn.lockTick ≠ 0 ∧ u.takeLanes ≠ [] ∧
        u.rdn.testTick + 100000000 * u.fld R.RDN_STBYTEST 11 0 ≤ u.ticks)
      (fun u => ({ u with rdn := { u.rdn with
        testTick := u.ticks, testLane := (u.rdn.testLane + 1) % u.takeLanes.length
        testFail := u.rdn.testFail || !pass } } : State).rdnEval)

/-- Completion, result and frame of the session commands of UPD. -/
def Obligations.UpdateSessionsComplete : Prop :=
  ∀ (who : Init) (v : Word) (peer mac : BitVec 48) (blk : BitVec 16) (block : BitVec 16) (data token : List Byte) (ip sender : BitVec 32),
    Does (fun dt => .updcmdOpen dt who v) (fun u => KeyWrites who 0x0CC 0xC00 0x0D7A v u ∧ nf v.toNat 2 0 = 1 ∧ u.openBusy = false)
      (fun u => u.ack.sessOpen 1) ∧
    Does (fun dt => .updcmdOpen dt who v) (fun u => KeyWrites who 0x0CC 0xC00 0x0D7A v u ∧ nf v.toNat 2 0 = 1 ∧ u.openBusy = true)
      (fun u => ((u.ack.err 0x0CC (u.partNo who) 0x0101 R.UPD_UPDCMD).incSat R.UPD_BUSYCNT).raise 0x0CC 2) ∧
    Does (fun dt => .updcmdChunk dt who v)
      (fun u => KeyWrites who 0x0CC 0xC00 0x0D7A v u ∧ nf v.toNat 2 0 = 2 ∧ u.session = 1 ∧ u.upd.chunk = none ∧
        1 ≤ u.fld R.UPD_CHLEN 20 0 ∧ u.fld R.UPD_CHLEN 20 0 ≤ 1048576 ∧
        u.ack.updWindow (u.partNo who) u.chSrc (u.fld R.UPD_CHLEN 20 0) = true ∧
        u.rd R.UPD_RXBYTES + u.fld R.UPD_CHLEN 20 0 ≤ u.upd.openLen)
      (fun u => (({ u.ack with upd := { u.upd with chunk := some (u.chSrc, u.fld R.UPD_CHLEN 20 0) } } : State).putBit R.UPD_STAT 6
        true).sessTouch) ∧
    Does (fun dt => .updcmdChunk dt who v) (fun u => KeyWrites who 0x0CC 0xC00 0x0D7A v u ∧ nf v.toNat 2 0 = 2 ∧ u.session ≠ 1)
      (fun u => u.ack.err 0x0CC (u.partNo who) 0x0105 R.UPD_UPDCMD) ∧
    (∀ a len t b, Does (fun dt => .chunkDone dt)
      (fun u => Ready u ∧ u.upd.chunk = some (a, len) ∧ u.dmaRead 0x0CC 0x17 a len = (t, .ok, b))
      (fun _ => ((({ t with upd := { t.upd with chunk := none } } : State).putBit R.UPD_STAT 6 false).stageBytes b).raise 0x0CC 1)) ∧
    Does (fun dt => .updcmdClose dt who v)
      (fun u => KeyWrites who 0x0CC 0xC00 0x0D7A v u ∧ nf v.toNat 2 0 = 3 ∧ u.session = 1 ∧ u.upd.chunk = none ∧
        u.rd R.UPD_RXBYTES = u.upd.openLen)
      (fun u => ((({ u.ack with upd := { u.upd with ended := (1, u.ticks) } } : State).sessClose.setStage
        stUnverified).setStage stVerifying)) ∧
    Does (fun dt => .updcmdClose dt who v)
      (fun u => KeyWrites who 0x0CC 0xC00 0x0D7A v u ∧ nf v.toNat 2 0 = 3 ∧ u.session = 1 ∧ u.upd.chunk = none ∧
        u.rd R.UPD_RXBYTES ≠ u.upd.openLen)
      (fun u => { u.ack with upd := { u.upd with ended := (1, u.ticks) } }.sessClose.reject 7) ∧
    Does (fun dt => .updcmdAbort dt who v) (fun u => KeyWrites who 0x0CC 0xC00 0x0D7A v u ∧ nf v.toNat 2 0 = 4 ∧ u.session = 1)
      (fun u => u.ack.sessDrop 4) ∧
    Does (fun dt => .updcmdAbort dt who v) (fun u => KeyWrites who 0x0CC 0xC00 0x0D7A v u ∧ nf v.toNat 2 0 = 4 ∧ u.session ≠ 1)
      (fun u => u.ack.err 0x0CC (u.partNo who) 0x0105 R.UPD_UPDCMD) ∧
    (∀ t b, Does (fun dt => .updcmdAbortother dt who v)
      (fun u => KeyWrites who 0x0CC 0xC00 0x0D7A v u ∧ nf v.toNat 2 0 = 5 ∧ u.ack.updWindow (u.partNo who) u.chSrc 112 = true ∧
        u.ack.dmaRead 0x0CC 0x17 u.chSrc 112 = (t, .ok, b) ∧ t.abortable 2 = true ∧ t.tokenGood b = true)
      (fun u => (u.ack.dmaRead 0x0CC 0x17 u.chSrc 112).1.sessDrop 4)) ∧
    (∀ x ∈ [fun dt => Instr.updcmdOpen dt who v, fun dt => .updcmdChunk dt who v, fun dt => .updcmdClose dt who v,
        fun dt => .updcmdAbort dt who v, fun dt => .updcmdAbortother dt who v],
      Does x (fun u => Writes who 0x0CC 0xC00 u ∧ nf v.toNat 31 16 ≠ 0x0D7A)
        (fun u => u.ack.err 0x0CC (u.partNo who) eBadKey R.UPD_UPDCMD)) ∧
    Does (fun dt => .sessionTimeout dt) (fun u => Ready u ∧ u.session ≠ 0 ∧ u.upd.sessTick + 6000000000 ≤ u.ticks)
      (fun u => (u.sessDrop 3).incSat R.UPD_IDLECNT) ∧
    Does (fun dt => .verifyDone dt 0)
      (fun u => Ready u ∧ u.stageUpd = stVerifying ∧ u.imageReason (u.slot3 u.slotStaging) true = 0 ∧
        (u.setStage stVerified).stage ≠ 6)
      (fun u => u.setStage stVerified) ∧
    Does (fun dt => .verifyDone dt 1)
      (fun u => Ready u ∧ u.stageUpd = stVerifying ∧ u.imageReason (u.slot3 u.slotStaging) false ≠ 0)
      (fun u => u.reject (u.imageReason (u.slot3 u.slotStaging) false)) ∧
    Does (fun dt => .verifyDone dt 2) (fun u => Ready u ∧ u.stageUpd = stVerifying) (fun u => u.reject 8) ∧
    Does (fun dt => .tftpWriteStage dt peer none) (fun u => Ready u ∧ u.svcOn = true ∧ u.openBusy = false)
      (fun u => ({ u.sessOpen 2 with upd := { (u.sessOpen 2).upd with tftp := some { peer := peer.toNat } } } : State).say (tftpAck 0)) ∧
    Does (fun dt => .tftpWriteStage dt peer (some blk)) (fun u => Ready u ∧ u.svcOn = true ∧ u.openBusy = false)
      (fun u => ({ u.sessOpen 2 with upd := { (u.sessOpen 2).upd with
        tftp := some { peer := peer.toNat, blk := min 1468 (max 8 blk.toNat) } } } : State).say (tftpOack (min 1468 (max 8 blk.toNat)))) ∧
    Does (fun dt => .tftpWriteStage dt peer (some blk)) (fun u => Ready u ∧ u.svcOn = true ∧ u.openBusy = true)
      (fun u => ((u.incSat R.UPD_BUSYCNT).raise 0x0CC 2).say (tftpError 0 txtBusy)) ∧
    (∀ t, Does (fun dt => .tftpData dt peer block data)
      (fun u => Ready u ∧ u.upd.tftp = some t ∧ t.peer = peer.toNat ∧ block.toNat ≠ t.last % 65536 ∧
        block.toNat = (t.last + 1) % 65536 ∧ data.length = t.blk ∧
        u.rd R.UPD_RXBYTES + data.length ≤ 512 + kindLimit (if 9 ≤ u.rd R.UPD_RXBYTES ∧
          within 1 4 (hdr (u.slot3 u.slotStaging) 8 1) = true then hdr (u.slot3 u.slotStaging) 8 1 else 1))
      (fun u => ((({ u with upd := { u.upd with tftp := some { t with last := t.last + 1 } } } : State).stageBytes
        (data.map BitVec.toNat)).sessTouch).say (tftpAck block.toNat))) ∧
    (∀ t, Does (fun dt => .tftpData dt peer block data)
      (fun u => Ready u ∧ u.upd.tftp = some t ∧ t.peer = peer.toNat ∧ block.toNat = t.last % 65536)
      (fun u => u.say (tftpAck block.toNat))) ∧
    Does (fun dt => .tftpWriteAbort dt token)
      (fun u => Ready u ∧ u.svcOn = true ∧ u.abortable 1 = true ∧ u.tokenGood (token.map BitVec.toNat) = true)
      (fun u => (u.sessDrop 4).say (tftpAck 1)) ∧
    Does (fun dt => .tftpWriteAbort dt token)
      (fun u => Ready u ∧ u.svcOn = true ∧ (u.abortable 1 = false ∨ u.tokenGood (token.map BitVec.toNat) = false))
      (fun u => u.say (tftpError 2 [])) ∧
    Does (fun dt => .tftpReadStatus dt) (fun u => Ready u ∧ u.svcOn = true)
      (fun u => u.say ([0, 3, 0, 1] ++ padTo 64 ([u.rd R.UPD_STAT, u.rd R.UPD_REJECT, u.rd R.UPD_ACTSTAT, u.rd R.UPD_PROBSTAT,
        u.rd R.UPD_SLOTROLE, u.rd R.UPD_RXBYTES].flatMap (bytesOf 4)))) ∧
    (∀ t, Does (fun dt => .tftpError dt peer)
      (fun u => Ready u ∧ u.upd.tftp = some t ∧ t.peer = peer.toNat ∧ u.session = 2) (fun u => u.sessDrop 4)) ∧
    Does (fun dt => .arpRequest dt ip sender mac) (fun u => Ready u ∧ u.svcOn = true ∧ ip.toNat = u.svcIp)
      (fun u => (u.draw 48).2.say ([0, 1, 8, 0, 6, 4, 0, 2] ++ (bytesOf 6 (u.draw 48).1).reverse ++ (bytesOf 4 ip.toNat).reverse ++
        (bytesOf 6 mac.toNat).reverse ++ (bytesOf 4 sender.toNat).reverse))

/-- Completion, result and frame of the activation commands of UPD. -/
def Obligations.ActivationCommandsComplete : Prop :=
  ∀ (who : Init) (v : Word),
    Does (fun dt => .actcmdSchedule dt who v)
      (fun u => KeyWrites who 0x0CD 0xC00 0x0D7B v u ∧ nf v.toNat 2 0 = 1 ∧ u.stageUpd = stVerified ∧ u.probation = false ∧
        u.actStat ≠ acProgress ∧ 1 ≤ u.fld R.UPD_ACTWIN 19 0 ∧ u.fld R.UPD_ACTWIN 19 0 ≤ 604800 ∧
        u.moduleTime ≤ u.rd64 R.UPD_ACTTIME + 4000000000 * u.fld R.UPD_ACTWIN 19 0)
      (fun u => ({ u.ack with upd := { u.upd with sched := some (u.rd64 R.UPD_ACTTIME, u.fld R.UPD_ACTWIN 19 0) } } : State).setAct
        acScheduled) ∧
    Does (fun dt => .actcmdSchedule dt who v)
      (fun u => KeyWrites who 0x0CD 0xC00 0x0D7B v u ∧ nf v.toNat 2 0 = 1 ∧ u.stageUpd = stVerified ∧ u.probation = false ∧
        u.actStat ≠ acProgress ∧ u.rd64 R.UPD_ACTTIME + 4000000000 * u.fld R.UPD_ACTWIN 19 0 < u.moduleTime)
      (fun u => u.ack.err 0x0CD (u.partNo who) eBadValue R.UPD_ACTCMD) ∧
    Does (fun dt => .actcmdNow dt who v)
      (fun u => KeyWrites who 0x0CD 0xC00 0x0D7B v u ∧ nf v.toNat 2 0 = 2 ∧ u.stageUpd = stVerified ∧ u.probation = false ∧
        u.actStat ≠ acProgress)
      (fun u => u.ack.activate) ∧
    (∀ x, x = (fun dt => Instr.actcmdSchedule dt who v) ∧ nf v.toNat 2 0 = 1 ∨ x = (fun dt => Instr.actcmdNow dt who v) ∧ nf v.toNat 2 0 = 2 →
      Does x (fun u => KeyWrites who 0x0CD 0xC00 0x0D7B v u ∧ u.stageUpd ≠ stVerified)
        (fun u => u.ack.err 0x0CD (u.partNo who) 0x0103 R.UPD_ACTCMD)) ∧
    Does (fun dt => .actcmdCancel dt who v)
      (fun u => KeyWrites who 0x0CD 0xC00 0x0D7B v u ∧ nf v.toNat 2 0 = 3 ∧ u.actDue = false ∧
        (u.actStat = acScheduled ∨ u.actStat = acPostponed))
      (fun u => ({ u.ack with upd := { u.upd with sched := none } } : State).setAct acNone) ∧
    Does (fun dt => .actcmdCancel dt who v)
      (fun u => KeyWrites who 0x0CD 0xC00 0x0D7B v u ∧ nf v.toNat 2 0 = 3 ∧ u.actStat ≠ acScheduled ∧ u.actStat ≠ acPostponed)
      (fun u => u.ack.err 0x0CD (u.partNo who) eBadValue R.UPD_ACTCMD) ∧
    Does (fun dt => .actcmdCancel dt who v) (fun u => KeyWrites who 0x0CD 0xC00 0x0D7B v u ∧ nf v.toNat 2 0 = 3 ∧ u.actDue = true)
      (fun u => u.ack.activate) ∧
    Does (fun dt => .actcmdConfirm dt who v)
      (fun u => KeyWrites who 0x0CD 0xC00 0x0D7B v u ∧ nf v.toNat 2 0 = 4 ∧ u.probation = true)
      (fun u =>
        let b := u.ack.slot3 u.ack.slotActive
        let a := ((u.ack.putBit R.UPD_PROBSTAT 0 false).putFld R.UPD_PROBSTAT 3 2 0).raise 0x0CD 2
        if nb (hdr b 0x00A 1) 0 then a.wr R.SYS_MINSVN (max (a.rd R.SYS_MINSVN) (hdr b 0x018 4)) else a) ∧
    Does (fun dt => .actcmdConfirm dt who v)
      (fun u => KeyWrites who 0x0CD 0xC00 0x0D7B v u ∧ nf v.toNat 2 0 = 4 ∧ u.probation = false)
      (fun u => u.ack.err 0x0CD (u.partNo who) 0x0106 R.UPD_ACTCMD) ∧
    Does (fun dt => .actcmdConfirm dt who v) (fun u => Writes who 0x0CD 0xC00 u ∧ nf v.toNat 31 16 ≠ 0x0D7B)
      (fun u => u.ack.err 0x0CD (u.partNo who) eBadKey R.UPD_ACTCMD) ∧
    (∀ t w, Does (fun dt => .activationDue dt)
      (fun u => Ready u ∧ u.upd.sched = some (t, w) ∧ (u.actStat = acScheduled ∨ u.actStat = acPostponed) ∧ t ≤ u.moduleTime ∧
        u.moduleTime ≤ t + 4000000000 * w ∧ u.timeLocked = true)
      (fun u => u.activate)) ∧
    (∀ t w, Does (fun dt => .activationPostponed dt)
      (fun u => Ready u ∧ u.upd.sched = some (t, w) ∧ u.actStat = acScheduled ∧ t ≤ u.moduleTime ∧ u.timeLocked = false)
      (fun u => (u.setAct acPostponed).err 0x0CD (((u.setAct acPostponed).owner 0x0CD).getD 0) 0x0102 R.UPD_ACTTIME)) ∧
    (∀ t w, Does (fun dt => .activationExpired dt)
      (fun u => Ready u ∧ u.upd.sched = some (t, w) ∧ (u.actStat = acScheduled ∨ u.actStat = acPostponed) ∧
        t + 4000000000 * w < u.moduleTime)
      (fun u => ({ u with upd := { u.upd with sched := none } } : State).setAct acExpired)) ∧
    (∀ ta, Does (fun dt => .updateReset dt)
      (fun u => Ready u ∧ u.upd.actTick = some ta ∧ ((∀ n < 6, u.cyRuns n = false) ∨ ta + 100000000 ≤ u.ticks))
      (fun u => u.shutdown rkUpdate false))

/-- Completion, result and frame of the commands of PMC. -/
def Obligations.CounterCommandsComplete : Prop :=
  ∀ (who : Init) (v : Word) (t : Fin 4) (k : Fin 8) (m : Byte) (priv : Fin 4) (pc addr blk : BitVec 64) (lat w4 w5 : Word)
    (flags : BitVec 10) (dist : BitVec 16),
    Does (fun dt => .counterOverflow dt t m)
      (fun u => Ready u ∧ (List.range 8).filter (fun k => nb m.toNat k && u.pmcRuns t.val k) ≠ [] ∧
        ∀ a, a = (forL ((List.range 8).filter (fun k => nb m.toNat k && u.pmcRuns t.val k)) (fun k (x : State) =>
          (x.wr64 (R.PMC_CNT t.val k) (x.rd64 (R.PMC_RLD t.val k))).putBit (R.PMC_OVF t.val) k true) (u.pmcAdvance t.val)).raise
            (pmcPage t.val) 0 → a.bit (R.PMC_CTRL t.val) 1 = false ∧
          ((List.range 8).filter (fun k => nb m.toNat k && u.pmcRuns t.val k)).find? (fun k => a.bit (R.PMC_CFG t.val k) 7) = none)
      (fun u => (forL ((List.range 8).filter (fun k => nb m.toNat k && u.pmcRuns t.val k)) (fun k (x : State) =>
          (x.wr64 (R.PMC_CNT t.val k) (x.rd64 (R.PMC_RLD t.val k))).putBit (R.PMC_OVF t.val) k true) (u.pmcAdvance t.val)).raise
            (pmcPage t.val) 0) ∧
    Does (fun dt => .ovfClear dt who t v) (fun u => Writes who (pmcPage t.val) 0x0E0 u)
      (fun u =>
        let a := u.ack.wr (R.PMC_OVF t.val) (u.rd (R.PMC_OVF t.val) - (u.rd (R.PMC_OVF t.val) &&& v.toNat))
        if a.rd (R.PMC_OVF t.val) = 0 then a.putBit (R.PMC_STAT t.val) 2 false else a) ∧
    Does (fun dt => .pmcSnap dt who t 1) (fun u => Writes who (pmcPage t.val) 0xC00 u ∧ u.hasTriad t.val = true)
      (fun u =>
        let a := forN 8 (fun k (x : State) => x.wr64 (R.PMC_SNAPV t.val k) (x.rd64 (R.PMC_CNT t.val k))) (u.ack.pmcAdvance t.val)
        a.wr64 (R.PMC_SNAPT t.val) a.moduleTime) ∧
    Does (fun dt => .preciseCapture dt t k priv pc addr lat)
      (fun u => Ready u ∧ u.precise = true ∧ u.pmcRuns t.val k.val = true ∧ u.bit (R.PMC_CFG t.val k.val) 7 = true ∧
        u.pmcMode t.val k.val priv.val = true ∧ u.fld (R.PMC_CAPCFG t.val) 15 0 ≤ lat.toNat ∧ (u.pmcT t.val).buf.length < 4096)
      (fun u =>
        let e := words8 pc addr (u.fld (R.PMC_CFG t.val k.val) 5 0 + k.val * 2 ^ 8 + u.pmcLane t.val k.val * 2 ^ 12 + priv.val * 2 ^ 16)
          lat.toNat (u.moduleTime % 2 ^ 32) (u.moduleTime / 2 ^ 32)
        ((u.setPmcT t.val { u.pmcT t.val with buf := (u.pmcT t.val).buf ++ [e] }).wr (R.PMC_SBCNT t.val)
          ((u.pmcT t.val).buf.length + 1)).raiseIf ((u.pmcT t.val).buf.length + 1 == u.fld (R.PMC_SBTHR t.val) 12 0) (pmcPage t.val) 1) ∧
    Does (fun dt => .preciseCapture dt t k priv pc addr lat)
      (fun u => Ready u ∧ u.precise = true ∧ u.pmcRuns t.val k.val = true ∧ u.bit (R.PMC_CFG t.val k.val) 7 = true ∧
        u.pmcMode t.val k.val priv.val = true ∧ u.fld (R.PMC_CAPCFG t.val) 15 0 ≤ lat.toNat ∧ 4096 ≤ (u.pmcT t.val).buf.length)
      (fun u => (u.incSat (R.PMC_SBDROP t.val)).raise (pmcPage t.val) 2) ∧
    (∀ j n, Does (fun dt => .weevilRecord dt t pc blk w4 w5 flags priv dist) (fun u => Ready u ∧ (u.pmcT t.val).tag = some (j, n))
      (fun u => ((u.setPmcT t.val { u.pmcT t.val with
          ring := (u.pmcT t.val).ring ++ [words8 pc blk w4.toNat w5.toNat
            ((flags.toNat &&& 0x3BF) + priv.val * 2 ^ 10 + j * 2 ^ 12 + u.pmcLane t.val j * 2 ^ 16) dist.toNat], tag := none }).wr
        (R.PMC_WVSTAT t.val) (((u.pmcT t.val).ring.length + 1) * 2)).raise (pmcPage t.val) 3)) ∧
    (∀ e l, Does (fun dt => .sbpop dt who t) (fun u => Reads who (pmcPage t.val) 0xC04 u ∧ (u.pmcT t.val).buf = e :: l)
      (fun u => { forN 8 (fun i (x : State) => x.wr (R.PMC_SBENT t.val i) (e.getD i 0))
        ((u.setPmcT t.val { u.pmcT t.val with buf := l }).wr (R.PMC_SBCNT t.val) l.length) with
        resp := .data (0x80000000 + l.length) })) ∧
    Does (fun dt => .sbpop dt who t) (fun u => Reads who (pmcPage t.val) 0xC04 u ∧ (u.pmcT t.val).buf = [])
      (fun u => { u with resp := .data 0 }) ∧
    (∀ e l, Does (fun dt => .wvpop dt who t) (fun u => Reads who (pmcPage t.val) 0xC08 u ∧ (u.pmcT t.val).ring = e :: l)
      (fun u => { forN 8 (fun i (x : State) => x.wr (R.PMC_WVREC t.val i) (e.getD i 0))
        ((u.setPmcT t.val { u.pmcT t.val with ring := l }).putFld (R.PMC_WVSTAT t.val) 5 1 l.length) with
        resp := .data (0x80000000 + l.length) })) ∧
    Does (fun dt => .wvpop dt who t) (fun u => Reads who (pmcPage t.val) 0xC08 u ∧ (u.pmcT t.val).ring = [])
      (fun u => { u with resp := .data 0 }) ∧
    Does (fun dt => .pmcCntclr dt who t 1) (fun u => Writes who (pmcPage t.val) 0xC0C u)
      (fun u => ((u.ack.wr (R.PMC_SRCSW t.val) 0).wr (R.PMC_SBDROP t.val) 0).wr (R.PMC_WVSKIP t.val) 0)

/-- Completion, result and frame of the events of PWR and of the clocks. -/
def Obligations.PowerEventsComplete : Prop :=
  ∀ (c : Fin 6) (k : Fin 8) (n : Fin 2) (t : BitVec 16) (bank : Bool),
    Does (fun dt => .poweron dt) (fun u => u.sys.standby = false)
      (fun u => { u with sys := { standby := true, thrTick := u.ticks, supTick := u.ticks, tempTick := u.ticks } }) ∧
    Does (fun dt => .supplyUv dt) (fun u => u.sys.standby = true ∧ u.uv = false)
      (fun u =>
        let a := ((u.putBit R.PWR_STAT pwUv true).putBit R.PWR_STAT 0 false).raise 0x004 1
        { a with sys := { u.sys with uvTick := u.ticks } }) ∧
    Does (fun dt => .supplyReturn dt)
      (fun u => u.sys.standby = true ∧ u.uv = true ∧ u.sys.on = true ∧ u.sys.down = none ∧ u.ticks - u.sys.uvTick < 1000000)
      (fun u =>
        let a := ((u.putBit R.PWR_STAT pwUv false).putBit R.PWR_STAT 0 true).raise 0x004 1
        let b := ((a.incSat R.PWR_INTCNT).wr R.PWR_LASTINT ((u.ticks - u.sys.uvTick) / 100)).raise 0x004 0
        { b with sys := { u.sys with thrTick := u.ticks } }) ∧
    Does (fun dt => .supplyReturn dt)
      (fun u => u.sys.standby = true ∧ u.uv = true ∧ (u.sys.on = false ∨ 1000000 ≤ u.ticks - u.sys.uvTick))
      (fun u =>
        let a := ((u.putBit R.PWR_STAT pwUv false).putBit R.PWR_STAT 0 true).raise 0x004 1
        { a with sys := { u.sys with thrTick := u.ticks } }) ∧
    Does (fun dt => .supplyOv dt bank) (fun u => u.sys.standby = true ∧ u.bit R.PWR_STAT 2 ≠ bank)
      (fun u => (u.putBit R.PWR_STAT 2 bank).raise 0x004 1) ∧
    Does (fun dt => .powerFailWarning dt bank)
      (fun u => Ready u ∧ u.uv = true ∧ (bank = true ∨ u.sys.uvTick + 1000000 ≤ u.ticks))
      (fun u => (u.incSat R.PWR_PFWCNT).shutdown rkPowerfail false) ∧
    (∀ d, Does (fun dt => .shutdownComplete dt k)
      (fun u => u.sys.down = some d ∧ (k.val = 7 ∧ u.flushEnded = true ∨ d.tw + 4000000 ≤ u.ticks))
      (fun u => ((u.shutSaves k.val).wr R.PWR_PFDUR (((u.shutSaves k.val).ticks - d.tw) / 100)).mainDown d.kind d.sleep)) ∧
    (∀ x, Does (fun dt => .tripSupplyChange dt n)
      (fun u => u.sys.standby = true ∧ u.sys.on = false ∧ tabFind u.sys.tsSince n.val = some x ∧ x + 100000 ≤ u.ticks)
      (fun u =>
        let a : State := { u with sys := { u.sys with tsSince := tabDel u.sys.tsSince n.val } }
        (a.putBit R.PWR_TSSTAT n.val (!a.bit R.PWR_TSSTAT n.val)).raise 0x005 (4 + n.val))) ∧
    Does (fun dt => .tempMeasure dt t)
      (fun u => u.sys.standby = true ∧ u.sys.tempTick + 1000000 ≤ u.ticks ∧ 900 < sx 16 t.toNat ∧ sx 16 t.toNat ≤ 1000 ∧
        u.bit R.PWR_STAT 6 = false)
      (fun u => (((({ u with sys := { u.sys with tempTick := u.ticks, hotTick := none } } : State).wr R.PWR_TEMP
        t.toNat).putBit R.PWR_STAT 6 true).raise 0x004 3)) ∧
    Does (fun dt => .tempMeasure dt t)
      (fun u => u.sys.standby = true ∧ u.sys.tempTick + 1000000 ≤ u.ticks ∧ sx 16 t.toNat < 850)
      (fun u => (({ u with sys := { u.sys with tempTick := u.ticks, hotTick := none, hot := false } } : State).wr R.PWR_TEMP
        t.toNat).putBit R.PWR_STAT 6 false) ∧
    (∀ x, Does (fun dt => .thermal dt) (fun u => Ready u ∧ u.sys.hotTick = some x ∧ x + 100000000 ≤ u.ticks)
      (fun u => ({ u with sys := { u.sys with hot := true } } : State).shutdown rkThermal false)) ∧
    Does (fun dt => .rstinAssert dt true) (fun u => u.sys.standby = true ∧ u.sys.rstin = false)
      (fun u => ({ u with sys := { u.sys with
          rstin := true, rstinTick := u.ticks - 1000
          wake := u.sys.wake || (u.sys.sleep || (u.sys.down.map (·.sleep)).getD false) } } : State).shutdown rkRstin false) ∧
    Does (fun dt => .rstinAssert dt false) (fun u => u.sys.standby = true ∧ u.sys.rstin = false ∧ u.sys.on = true)
      (fun u => u.incSat R.SYS_RSTGLITCH) ∧
    Does (fun dt => .rstinRelease dt) (fun u => u.sys.rstin = true ∧ u.rstinSecs < 10)
      (fun u => ({ u with sys := { u.sys with rstin := false } } : State).clockFree) ∧
    Does (fun dt => .clockFault dt c) (fun u => u.sys.on = true)
      (fun u =>
        let l := u.ticks :: u.sys.clocks.filter (fun x => !decide (x + 100000000 * 3600 ≤ u.ticks))
        { u.mainDown rkClock false with sys := { (u.mainDown rkClock false).sys with
          clocks := l, clockHeld := true, clockStop := decide (3 ≤ l.length), clockBad := c.val + 1 } }) ∧
    (∀ x l, Does (fun dt => .clockRestart dt)
      (fun u => u.sys.clocks = x :: l ∧ u.sys.clockHeld = true ∧ x + 10000000 ≤ u.ticks)
      (fun u => { u with sys := { u.sys with clockHeld := false } })) ∧
    Does (fun dt => .standbyDomainLoss dt) (fun u => u.sys.standby = true ∧ u.uv = true ∧ u.sys.on = true)
      (fun u => (u.mainDown rkPoweron false).standbyClear) ∧
    (∀ fs ts vin bk shown, Does (fun dt => .supplyMeasure dt fs ts vin bk shown)
      (fun u => u.sys.standby = true ∧ u.sys.supTick + 10000 ≤ u.ticks ∧ u.sys.bankDone = false)
      (fun u =>
        let r (x : Nat) := x - x % 10
        let a := (({ u with sys := { u.sys with supTick := u.ticks } } : State).wr R.PWR_VINMEAS (r vin.toNat)).wr R.PWR_BANKMEAS
          (r bk.toNat)
        let old := a.rd R.PWR_FSCMP
        let new := fsWord fs shown
        let b := forN 4 (fun j (x : State) => (x.wr (R.PWR_FSMEAS j) (r (fs.getD j 0).toNat)).raiseIf
          (decide (nf old (4 * j + 2) (4 * j) ≠ nf new (4 * j + 2) (4 * j))) 0x005 j) (a.wr R.PWR_FSCMP new)
        forN 2 (fun j (x : State) =>
          let y := x.wr (R.PWR_TSMEAS j) (r (ts.getD j 0).toNat)
          if y.tsInside j (r (ts.getD j 0).toNat) == y.bit R.PWR_TSSTAT j then
            { y with sys := { y.sys with tsSince := tabDel y.sys.tsSince j } }
          else if (tabFind y.sys.tsSince j).isSome then y
          else { y with sys := { y.sys with tsSince := tabIns y.sys.tsSince j y.ticks } }) b))

/-- Completion, result and frame of the start and of the commands of SYS. -/
def Obligations.StartCommandsComplete : Prop :=
  ∀ (who : Init) (v : Word) (b : Boot) (cap : BitVec 16) (h : BitVec 8),
    Does (fun dt => .mainDomainStart dt b) (fun u => u.canStart = true ∧ (u.bootRom b).stage ≠ 0) (fun u => u.bootRom b) ∧
    Does (fun dt => .mainDomainStart dt b) (fun u => u.canStart = true ∧ (u.bootRom b).stage = 0)
      (fun u => ((u.bootRom b).elapse (100000 * b.ms)).bootRun b) ∧
    Does (fun dt => .mainDomainStart dt b) (fun u => u.canStart = false ∧ u.sys.on = true ∧ u.stage < 5)
      (fun u => (u.elapse (100000 * b.ms)).bootRun b) ∧
    Does (fun dt => .bankok dt cap h) (fun u => u.sys.standby = true ∧ u.sys.bankDone = false ∧ 2000 ≤ cap.toNat)
      (fun u =>
        let a := (u.putBit R.PWR_STAT pwBank true).wr R.PWR_BANKCAP cap.toNat
        ({ a with sys := { u.sys with bankDone := true } } : State).bankStart h) ∧
    Does (fun dt => .bankok dt cap h) (fun u => u.sys.standby = true ∧ u.sys.bankDone = false ∧ cap.toNat < 2000)
      (fun u =>
        let a := (((u.putBit R.PWR_STAT pwBank true).wr R.PWR_BANKCAP cap.toNat).putBit R.PWR_STAT 4 true).raise 0x004 2
        ({ a with sys := { u.sys with bankDone := true } } : State).bankStart h) ∧
    Does (fun dt => .hufault dt h)
      (fun u => u.sys.on = true ∧ u.sys.bankDone = false ∧ u.bit R.PWR_STAT pwBank = false ∧ u.sys.thrTick + 210000000 ≤ u.ticks)
      (fun u =>
        let a := (u.putBit R.PWR_STAT 5 true).raise 0x004 2
        ({ a with sys := { u.sys with bankDone := true } } : State).bankStart h) ∧
    Does (fun dt => .syscmdMreset dt who v)
      (fun u => KeyWrites who 0x001 0xC00 0x5A5E v u ∧ nf v.toNat 1 0 = 1 ∧ u.voted (u.partNo who) = true)
      (fun u => u.ack.shutdown rkSoft false) ∧
    Does (fun dt => .syscmdSleep dt who v)
      (fun u => KeyWrites who 0x001 0xC00 0x5A5E v u ∧ nf v.toNat 1 0 = 2 ∧ u.voted (u.partNo who) = true)
      (fun u => ({ u.ack with sys := { u.sys with wake := false } } : State).shutdown rkWake true) ∧
    (∀ x, x = (fun dt => Instr.syscmdMreset dt who v) ∧ nf v.toNat 1 0 = 1 ∨ x = (fun dt => Instr.syscmdSleep dt who v) ∧ nf v.toNat 1 0 = 2 →
      Does x (fun u => KeyWrites who 0x001 0xC00 0x5A5E v u ∧ u.voted (u.partNo who) = false)
        (fun u => u.ack.err 0x001 (u.partNo who) eBadValue R.SYS_SYSCMD)) ∧
    Does (fun dt => .fusecmdRevoke dt who v)
      (fun u => KeyWrites who 0x002 0xC00 0xF05E v u ∧ nb v.toNat 4 = true ∧ u.voted (u.partNo who) = true ∧
        (∃ j < 4, j ≠ nf v.toNat 1 0 ∧ u.bit R.SYS_FUSESTAT (4 + j) = false) ∧
        u.ack.slotNum (u.fld R.UPD_SLOTROLE 1 0) 0x00B 1 ≠ nf v.toNat 1 0)
      (fun u => u.ack.putBit R.SYS_FUSESTAT (4 + nf v.toNat 1 0) true) ∧
    Does (fun dt => .fusecmdRevoke dt who v)
      (fun u => KeyWrites who 0x002 0xC00 0xF05E v u ∧ nb v.toNat 4 = true ∧
        (u.voted (u.partNo who) = false ∨ (∀ j < 4, j ≠ nf v.toNat 1 0 → u.bit R.SYS_FUSESTAT (4 + j) = true) ∨
          u.ack.slotNum (u.fld R.UPD_SLOTROLE 1 0) 0x00B 1 = nf v.toNat 1 0))
      (fun u => u.ack.err 0x002 (u.partNo who) eBadValue R.SYS_FUSECMD)

/-- R49: the fields of ERRCODE, the full address in ERRADDR, and that a new error overwrites the one before. -/
def Obligations.ErrcodeHoldsTheMostRecentError : Prop :=
  ∀ (s : State) (p part code x part' code' x' : Nat), part < 8 → code < 2 ^ 16 → x < 2 ^ 21 →
    (nf ((s.err p part code x).rd (hErrcode p)) 31 31 = 1 ∧ nf ((s.err p part code x).rd (hErrcode p)) 30 27 = 0 ∧
      nf ((s.err p part code x).rd (hErrcode p)) 26 24 = part ∧ nf ((s.err p part code x).rd (hErrcode p)) 23 16 = 0 ∧
      nf ((s.err p part code x).rd (hErrcode p)) 15 0 = code) ∧
    (s.err p part code x).rd (hErraddr p) = 0x40000000 + x ∧
    (∀ y, (((s.err p part code x).err p part' code' x').rd y) = (s.err p part' code' x').rd y) ∧
    (∀ y, y ≠ hErrcode p → y ≠ hErraddr p → (s.err p part code x).rd y = s.rd y) ∧
    (s.err p part code x).shadow = s.shadow ∧ (s.err p part code x).mem = s.mem ∧ (s.err p part code x).pending = s.pending

/-- R60 for the holding registers of reads and of writes. A key is an initiator and a page. -/
def Obligations.WidePairsAreWhole : Prop :=
  ∀ (s u : State) (who : Init) (p : Fin 512) (w : Fin 1024),
    (isLo (reg p.val (4 * w.val)) = true → isHiHalf (reg p.val (4 * w.val)) = false → s.allocated p.val = true →
      (s.readReg who p.val (4 * w.val)).1 = (s.liveRead p.val (4 * w.val)).1 ∧
      tabGet (0, 0) (s.readReg who p.val (4 * w.val)).2.ten.wideRd (wideKey who p.val) =
        (reg p.val (4 * w.val) + 1, ((s.liveRead p.val (4 * w.val)).2.liveRead p.val (4 * w.val + 4)).1) ∧
      (∀ k, k ≠ wideKey who p.val →
        tabGet (0, 0) (s.readReg who p.val (4 * w.val)).2.ten.wideRd k = tabGet (0, 0) s.ten.wideRd k) ∧
      (isHiHalf (reg p.val (4 * w.val + 4)) = true →
        tabGet (0, 0) u.ten.wideRd (wideKey who p.val) =
          tabGet (0, 0) (s.readReg who p.val (4 * w.val)).2.ten.wideRd (wideKey who p.val) →
        u.readReg who p.val (4 * w.val + 4) =
          (((s.liveRead p.val (4 * w.val)).2.liveRead p.val (4 * w.val + 4)).1, u))) ∧
    (isHiHalf (reg p.val (4 * w.val)) = true → isLo (reg p.val (4 * w.val)) = false →
      (tabGet (0, 0) s.ten.wideRd (wideKey who p.val)).1 ≠ reg p.val (4 * w.val) - 4 + 1 →
      s.readReg who p.val (4 * w.val) = s.liveRead p.val (4 * w.val)) ∧
    (∀ dt v r, rowOf (reg p.val (4 * w.val)) = some r → r.acc = .rw → isLo (reg p.val (4 * w.val)) = true →
      s.allocated p.val = true → Writes who p.val (4 * w.val) (s.elapse dt) →
      ∃ t, exec (.wideLoWrite dt who p w v) s = .next t ∧ t.regs = s.regs ∧
        tabGet (0, 0) t.ten.wideWr (wideKey who p.val) = (reg p.val (4 * w.val) + 1, v.toNat)) ∧
    (∀ dt v lo r, rowOf (reg p.val (4 * w.val)) = some r → rowOf (reg p.val (4 * w.val - 4)) = some r → r.acc = .rw →
      r.isHi (4 * w.val) = true → 1 ≤ w.val → ownRow p.val (4 * w.val) = false → ownRow p.val (4 * w.val - 4) = false →
      4 * w.val - 4 ≠ 0x030 → 4 * w.val ≠ 0x030 → 4 * w.val - 4 ≠ 0x00C → 4 * w.val ≠ 0x00C →
      p.val ≠ 0x008 → p.val ≠ 0x075 → (p.val < 0x0D4 ∨ 0x0D7 < p.val) → s.allocated p.val = true →
      Writes who p.val (4 * w.val) (s.elapse dt) →
      tabGet (0, 0) s.ten.wideWr (wideKey who p.val) = (reg p.val (4 * w.val) - 4 + 1, lo) →
      ∃ t, exec (.wideHiWrite dt who p w v) s = .next t ∧
        t.rd (reg p.val (4 * w.val)) = (v.toNat &&& r.maskAt (4 * w.val)) % 2 ^ 32 ∧
        t.rd (reg p.val (4 * w.val - 4)) = (lo &&& r.maskAt (4 * w.val - 4)) % 2 ^ 32 ∧
        ∀ y, y ≠ reg p.val (4 * w.val) → y ≠ reg p.val (4 * w.val - 4) → t.rd y = s.rd y)

/-- R52. SHADOW_BUSY is code 1 of R49, and 0x0101 is the MAPPED code of the blocks whose output maps feed a register. -/
def Obligations.ShadowWritesAndAborts : Prop :=
  ∀ (dt : Nat) (who : Init) (p : Fin 512) (w : Fin 1024) (v : Word) (s : State), s.allocated p.val = true →
    (∀ r, rowOf (reg p.val (4 * w.val)) = some r → r.acc = .rws → isWide (reg p.val (4 * w.val)) = false →
      ownRow p.val (4 * w.val) = false → s.absentReg p.val (4 * w.val) = false →
      4 * w.val ≠ 0x030 → 4 * w.val ≠ 0x00C → Writes who p.val (4 * w.val) (s.elapse dt) →
      ∃ t, exec (.registerWrite dt who p w v) s = .next t ∧
      if s.isPending p.val then
        t.shadow = s.shadow ∧ t.ten = s.ten ∧ (∀ y, y ≠ hErrcode p.val → y ≠ hErraddr p.val → t.rd y = s.rd y) ∧
        nf (t.rd (hErrcode p.val)) 15 0 = 1
      else if s.mappedAt p.val (4 * w.val) then
        t.shadow = s.shadow ∧ (∀ y, y ≠ hErrcode p.val → y ≠ hErraddr p.val → t.rd y = s.rd y) ∧
        nf (t.rd (hErrcode p.val)) 15 0 = 0x0101
      else t.regs = s.regs ∧ t.sh (reg p.val (4 * w.val)) = (v.toNat &&& r.maskAt (4 * w.val)) % 2 ^ 32 ∧
        ∀ y, y ≠ reg p.val (4 * w.val) → t.sh y = s.sh y) ∧
    (∀ r, rowOf (reg p.val (4 * w.val)) = some r → r.acc = .rws → s.isPending p.val = true →
      Writes who p.val (4 * w.val) (s.elapse dt) →
      (isLo (reg p.val (4 * w.val)) = true ∨ r.isHi (4 * w.val) = true) →
      ∃ t, exec (if isLo (reg p.val (4 * w.val)) then .wideLoWrite dt who p w v else .wideHiWrite dt who p w v) s = .next t ∧
        t.shadow = s.shadow ∧ t.ten = s.ten ∧ (∀ y, y ≠ hErrcode p.val → y ≠ hErraddr p.val → t.rd y = s.rd y) ∧
        nf (t.rd (hErrcode p.val)) 15 0 = 1) ∧
    (∀ r lo, rowOf (reg p.val (4 * w.val)) = some r → rowOf (reg p.val (4 * w.val - 4)) = some r → r.acc = .rws →
      r.isHi (4 * w.val) = true → 1 ≤ w.val → ownRow p.val (4 * w.val) = false → ownRow p.val (4 * w.val - 4) = false →
      s.absentReg p.val (4 * w.val) = false → s.absentReg p.val (4 * w.val - 4) = false →
      s.mappedAt p.val (4 * w.val) = false → s.mappedAt p.val (4 * w.val - 4) = false →
      4 * w.val - 4 ≠ 0x030 → 4 * w.val ≠ 0x030 → 4 * w.val - 4 ≠ 0x00C → 4 * w.val ≠ 0x00C →
      s.isPending p.val = false → Writes who p.val (4 * w.val) (s.elapse dt) →
      tabGet (0, 0) s.ten.wideWr (wideKey who p.val) = (reg p.val (4 * w.val) - 4 + 1, lo) →
      ∃ t, exec (.wideHiWrite dt who p w v) s = .next t ∧ t.regs = s.regs ∧
        t.sh (reg p.val (4 * w.val)) = (v.toNat &&& r.maskAt (4 * w.val)) % 2 ^ 32 ∧
        t.sh (reg p.val (4 * w.val - 4)) = (lo &&& r.maskAt (4 * w.val - 4)) % 2 ^ 32 ∧
        ∀ y, y ≠ reg p.val (4 * w.val) → y ≠ reg p.val (4 * w.val - 4) → t.sh y = s.sh y) ∧
    (Writes who p.val 0x030 (s.elapse dt) → s.isPending p.val = true → v ≠ 0 → v ≠ 0x200 →
      ∃ t, exec (if nb v.toNat 9 then .cmtAbort dt who p v else if nb v.toNat 8 then .cmtGo dt who p v
          else .registerWrite dt who p 12 v) s = .next t ∧
        t.shadow = s.shadow ∧ t.ten = s.ten ∧ (∀ y, y ≠ hErrcode p.val → y ≠ hErraddr p.val → t.rd y = s.rd y) ∧
        nf (t.rd (hErrcode p.val)) 15 0 = 1) ∧
    (Writes who p.val 0x030 (s.elapse dt) → nb v.toNat 9 = true → (s.isPending p.val = true → v.toNat = 0x200) →
      ∃ t, exec (.cmtAbort dt who p v) s = .next t ∧
        (∀ y, y / 4096 = p.val → t.sh y = t.rd y) ∧ (∀ y, y ≠ hCmt p.val → y ≠ hCmtstat p.val → t.rd y = s.rd y) ∧
        nf (t.rd (hCmtstat p.val)) 7 0 = (if s.chgPends p.val then 0x51 else 0x50) ∧ t.pend p.val = {} ∧
        t.rd (hCmt p.val) = if s.isPending p.val then s.rd (hCmt p.val)
          else nf v.toNat 31 16 * 65536 + nf v.toNat 10 10 * 1024 + nf v.toNat 6 4 * 16 + nf v.toNat 1 0)

/-- R633: EVF shows what the pages hold and latches nothing. -/
def Obligations.VectorsShowRaisedSources : Prop :=
  ∀ (s u : State) (n v k : Nat), n < 8 → v < 64 →
    (nb (s.vpend n) v = true ↔
      ∃ j, j < 276 ∧ s.routed n j = true ∧ s.raised j = true ∧ s.fld (R.EVF_ROUTE n j) 5 0 = v) ∧
    (s.raised k = true ↔ ∃ p m, esSource k = some (p, m) ∧ s.allocated p = true ∧ s.evpend p &&& m ≠ 0) ∧
    ((∀ p, s.allocated p = u.allocated p ∧ s.rd (hEvraw p) = u.rd (hEvraw p) ∧ s.rd (hEven p) = u.rd (hEven p)) →
      s.raised k = u.raised k) ∧
    (s.irq n = true ↔ ∃ j, j < 64 ∧ nb (s.vpend n) j = true ∧ nb (s.rd64 (R.EVF_VEN n)) j = true) ∧
    (s.vnext n = 0x80000000 + v ↔ nb (s.vpend n) v = true ∧ nb (s.rd64 (R.EVF_VEN n)) v = true ∧
      ∀ j, j < v → nb (s.vpend n) j = true → nb (s.rd64 (R.EVF_VEN n)) j = false) ∧
    (s.vnext n = 0 ↔ s.irq n = false)

/-- R62, for the result of every byte and the frame of the write. -/
def Obligations.GrantTableJudgedByteByByte : Prop :=
  ∀ (dt : Nat) (who : Init) (k : Fin 128) (v : Word) (s : State),
    Ready (s.elapse dt) → (s.elapse dt).live who = true → s.partNo who < 8 →
    (s.mayTable who k.val = false →
      exec (.grantkWrite dt who k v) s = .next ((s.elapse dt).deny who 0x00A (0x040 + 4 * k.val) true false).msixSend) ∧
    (s.mayTable who k.val = true →
      ∃ t, exec (.grantkWrite dt who k v) s = .next t ∧
      (∀ j, j < 4 →
        if s.allocated (4 * k.val + j) = true ∧ (who = .boot ∨ s.owns (s.partNo who) (4 * k.val + j) = true) then
          if s.bit (hLock (4 * k.val + j)) 0 then
            t.fld (R.TEN_GRANT k.val) (8 * j + 7) (8 * j) = s.fld (R.TEN_GRANT k.val) (8 * j + 7) (8 * j) ∧
            (s.fld (R.TEN_GRANT k.val) (8 * j + 7) (8 * j) ≠ 0x80 + nf v.toNat (8 * j + 6) (8 * j) →
              t.rd (hErrcode (4 * k.val + j)) = 0x80000000 + s.partNo who * 2 ^ 24 + eLocked ∧
              t.rd (hErraddr (4 * k.val + j)) = 0x40000000 + R.TEN_GRANT k.val)
          else t.fld (R.TEN_GRANT k.val) (8 * j + 7) (8 * j) = 0x80 + nf v.toNat (8 * j + 6) (8 * j)
        else t.fld (R.TEN_GRANT k.val) (8 * j + 7) (8 * j) = s.fld (R.TEN_GRANT k.val) (8 * j + 7) (8 * j)) ∧
      (∀ x, x ≠ R.TEN_GRANT k.val → x / 4096 ≠ 0x0C0 → x / 4096 ≠ 0x0C3 → (∀ j, j < 4 → x ≠ hErrcode (4 * k.val + j) ∧ x ≠ hErraddr (4 * k.val + j)) →
        t.rd x = s.rd x) ∧ t.mem = s.mem ∧ t.shadow = s.shadow)

/-- R54, R55 and R57 for refusals, over every group and every reason. -/
def Obligations.RefusedCommitChangesNoRegister : Prop :=
  ∀ (dt : Nat) (p : Fin 512) (s : State),
    Ready (s.elapse dt) → s.isPending p.val = true → (s.pend p.val).armed = true → (s.pend p.val).t0.isSome = true →
    (s.elapse dt).ownerHalted p.val = false → (s.elapse dt).descWaits p.val = false →
    (∃ q, q ∈ (s.elapse dt).commitGroup p.val ∧
      (s.elapse dt).pageCheck ((s.elapse dt).commitGroup p.val) q ≠ .ok) →
    ∃ t, exec (.pageCommitApply dt p) s = .next t ∧ t.shadow = s.shadow ∧ t.mem = s.mem ∧
      (∀ q, q ∈ (s.elapse dt).commitGroup p.val → s.chgPends q = false → nf (t.rd (hCmtstat q)) 1 0 = 3) ∧
      (∀ x, (∀ q, q ∈ (s.elapse dt).commitGroup p.val → x ≠ hCmtstat q ∧ x ≠ hErrcode q ∧ x ≠ hErraddr q) → t.rd x = s.rd x) ∧
      (∀ q, q ∈ (s.elapse dt).commitGroup p.val → t.rd (hGen q) = s.rd (hGen q))

/-- R599 to R601, over every command of the table. What the block does with an event that its switched-off parts cannot have is the model's choice (assumption 2). -/
def Obligations.MainDomainOffNothingHappens : Prop :=
  ∀ (c : Instr) (s : State), c.wf = true → c.standby = false →
    (s.sys.on = false → ∃ k, exec c s = .next (s.elapse k)) ∧
    (s.sys.down.isSome = true → c.shed = false → ∃ k, exec c s = .next (s.elapse k))

/-- R45 and R20 over every register-write command: partitions cannot act on each other through registers they do not own. -/
def Obligations.DeniedWriteHasNoEffect : Prop :=
  let Denied (s : State) (r : Host.Outcome State Fault Refusal) : Prop :=
    ∃ t f, r = .next t ∧ t.resp = .fault f ∧
      t.rd R.TEN_DENYCNT = min 0xFFFFFFFF (s.rd R.TEN_DENYCNT + 1) ∧
      (∀ x, x ∉ [R.TEN_DENYCNT, R.TEN_DENYLAST, R.TEN_DENYOFS, R.TEN_DENYOVF, hErrcode 0x028, hErraddr 0x028,
        hEvraw 0x028, R.MEM_ELOVF] → t.rd x = s.rd x) ∧
      t.shadow = s.shadow ∧ t.mem.dram = s.mem.dram ∧ t.mem.sram = s.mem.sram ∧
      (∀ q, t.owner q = s.owner q) ∧ t.pending = s.pending
  (∀ (c : Instr) (who : Init) (p o : Nat) (s : State), c.wf = true → c.writes = some (who, p, o) → s.sys.on = true →
    s.sys.down = none →
    ∃ k, ((s.elapse k).live who = false → exec c s = .next (s.elapse k).msixSend) ∧
      ((s.elapse k).live who = true → s.mayWrite who p o = false → Denied s (exec c s))) ∧
  (∀ (dt : Nat) (who : Init) (v : Word) (s : State), s.sys.standby = true →
    ((s.elapse dt).live who = false → exec (.mgtCntclr dt who v) s = .next (s.elapse dt).msixSend) ∧
    ((s.elapse dt).live who = true → s.mayWrite who 0x0CF 0xC00 = false → Denied s (exec (.mgtCntclr dt who v) s)))

/-- R172 and the memory part of R20, over every kind of access; `amoApply` is the operation of the AMO. -/
def Obligations.DramAccessTouchesOnlyItsBytes : Prop :=
  ∀ (s : State) (who : Init) (a o n : Nat) (op : BusOp), n ∈ [1, 2, 4, 8] → s.firstPoison o n = none →
    s.mem.syn.filter (fun e => decide (o < 8 * e.1 + 8) && decide (8 * e.1 < o + n)) = [] →
    let t := s.dramAccess who a o n op 0
    (s.dramWindow who o n (wants op) = none →
      t.mem.dram = s.mem.dram ∧ (op ≠ .ahead → ∃ r, t.resp = .fault r) ∧
      ∀ x, x ∉ [hErrcode 0x028, hErraddr 0x028, hEvraw 0x028, R.MEM_ELOVF] → t.rd x = s.rd x) ∧
    (s.dramWindow who o n (wants op) ≠ none →
      (∀ x, x < o ∨ o + n ≤ x → memGet t.mem.dram x = memGet s.mem.dram x) ∧
      match op with
      | .load | .fetch | .lr => t.mem.dram = s.mem.dram ∧ t.resp = .data (s.dramNum o n)
      | .ahead => t.mem.dram = s.mem.dram ∧ t.resp = s.resp
      | .store v => t.dramNum o n = v.toNat % 2 ^ (8 * n) ∧ t.resp = .done
      | .amo f v => t.dramNum o n = amoApply f (8 * n) (s.dramNum o n) (v.toNat % 2 ^ (8 * n)) % 2 ^ (8 * n) ∧
          t.resp = .data (s.dramNum o n)
      | .sc v => if (s.scWins who a n).1 then t.dramNum o n = v.toNat % 2 ^ (8 * n) ∧ t.resp = .data 0
          else t.mem.dram = s.mem.dram ∧ t.resp = .data 1)

/-- R447: rate correction is exact and needs no rounding; nothing else happens while time passes. -/
def Obligations.TimeOnlyMovesTheClock : Prop :=
  ∀ (s : State) (a b : Nat), 0 ≤ 2 ^ 48 + s.rate →
    (s.elapse a).elapse b = s.elapse (a + b) ∧ (s.elapse a).ticks = s.ticks + a ∧
    ((s.elapse a).mtime : Int) = (s.mtime + 40 * a * (2 ^ 48 + s.rate)) % 2 ^ 112 ∧
    { s.elapse a with ticks := s.ticks, mtime := s.mtime } = s
end

