-- ==== Sys2Proof/Laws/Ack.lean ====
section
/-! SUPPORT. No operation that reads the block looks at the answer of the command before: each reads the same of
`s.ack` as of `s`. -/

set_option linter.all false
namespace Sys2Proof.Machine
variable (s : State)

@[simp] theorem ack_abortable (x0 : Nat) : s.ack.abortable x0 = s.abortable x0 := rfl
@[simp] theorem ack_absentReg (x0 : Nat) (x1 : Nat) : s.ack.absentReg x0 x1 = s.absentReg x0 x1 := rfl
@[simp] theorem ack_ackTo : s.ack.ackTo = s.ackTo := rfl
@[simp] theorem ack_acquired (x0 : Nat) : s.ack.acquired x0 = s.acquired x0 := rfl
@[simp] theorem ack_actDue : s.ack.actDue = s.actDue := rfl
@[simp] theorem ack_actStat : s.ack.actStat = s.actStat := rfl
@[simp] theorem ack_activeLanes (x0 : Nat) : s.ack.activeLanes x0 = s.activeLanes x0 := rfl
@[simp] theorem ack_allocated (x0 : Nat) : s.ack.allocated x0 = s.allocated x0 := rfl
@[simp] theorem ack_arcFits (x0 : Nat) : s.ack.arcFits x0 = s.arcFits x0 := rfl
@[simp] theorem ack_archived (x0 : DrcSlot) : s.ack.archived x0 = s.archived x0 := rfl
@[simp] theorem ack_armedPages : s.ack.armedPages = s.armedPages := rfl
@[simp] theorem ack_axDescs (x0 : Nat) : s.ack.axDescs x0 = s.axDescs x0 := rfl
@[simp] theorem ack_axEst (x0 : Nat) (x1 : Nat) : s.ack.axEst x0 x1 = s.axEst x0 x1 := rfl
@[simp] theorem ack_axHyst (x0 : Nat) : s.ack.axHyst x0 = s.axHyst x0 := rfl
@[simp] theorem ack_axInst (x0 : Nat) : s.ack.axInst x0 = s.axInst x0 := rfl
@[simp] theorem ack_axInstant (x0 : Nat) (x1 : Nat) : s.ack.axInstant x0 x1 = s.axInstant x0 x1 := rfl
@[simp] theorem ack_axKind (x0 : Nat) : s.ack.axKind x0 = s.axKind x0 := rfl
@[simp] theorem ack_axLast (x0 : Nat) : s.ack.axLast x0 = s.axLast x0 := rfl
@[simp] theorem ack_axLive (x0 : Nat) : s.ack.axLive x0 = s.axLive x0 := rfl
@[simp] theorem ack_axPeriodic (x0 : Nat) : s.ack.axPeriodic x0 = s.axPeriodic x0 := rfl
@[simp] theorem ack_axPos (x0 : Nat) : s.ack.axPos x0 = s.axPos x0 := rfl
@[simp] theorem ack_axPosBack (x0 : Nat) (x1 : Nat) : s.ack.axPosBack x0 x1 = s.axPosBack x0 x1 := rfl
@[simp] theorem ack_axSign (x0 : Nat) : s.ack.axSign x0 = s.axSign x0 := rfl
@[simp] theorem ack_axSource (x0 : Nat) : s.ack.axSource x0 = s.axSource x0 := rfl
@[simp] theorem ack_axState (x0 : Nat) : s.ack.axState x0 = s.axState x0 := rfl
@[simp] theorem ack_axTicks (x0 : Nat) : s.ack.axTicks x0 = s.axTicks x0 := rfl
@[simp] theorem ack_axVel (x0 : Nat) : s.ack.axVel x0 = s.axVel x0 := rfl
@[simp] theorem ack_axesOn (x0 : List Nat) (x1 : Nat) : s.ack.axesOn x0 x1 = s.axesOn x0 x1 := rfl
@[simp] theorem ack_axis (x0 : Nat) : s.ack.axis x0 = s.axis x0 := rfl
@[simp] theorem ack_axisOk (x0 : List Nat) (x1 : Nat) : s.ack.axisOk x0 x1 = s.axisOk x0 x1 := rfl
@[simp] theorem ack_axs : s.ack.axs = s.axs := rfl
@[simp] theorem ack_axsCheck (x0 : List Nat) (x1 : Nat) : s.ack.axsCheck x0 x1 = s.axsCheck x0 x1 := rfl
@[simp] theorem ack_below (x0 : Nat) (x1 : Nat) : s.ack.below x0 x1 = s.below x0 x1 := rfl
@[simp] theorem ack_bit (x0 : Nat) (x1 : Nat) : s.ack.bit x0 x1 = s.bit x0 x1 := rfl
@[simp] theorem ack_blockView (x0 : Nat) (x1 : Nat) : s.ack.blockView x0 x1 = s.blockView x0 x1 := rfl
@[simp] theorem ack_brk (x0 : Nat) : s.ack.brk x0 = s.brk x0 := rfl
@[simp] theorem ack_brkChans (x0 : Nat) : s.ack.brkChans x0 = s.brkChans x0 := rfl
@[simp] theorem ack_brkLow (x0 : Nat) : s.ack.brkLow x0 = s.brkLow x0 := rfl
@[simp] theorem ack_brkOn (x0 : Nat) : s.ack.brkOn x0 = s.brkOn x0 := rfl
@[simp] theorem ack_brkTrip (x0 : Nat) : s.ack.brkTrip x0 = s.brkTrip x0 := rfl
@[simp] theorem ack_calNow : s.ack.calNow = s.calNow := rfl
@[simp] theorem ack_calOk : s.ack.calOk = s.calOk := rfl
@[simp] theorem ack_calTrim : s.ack.calTrim = s.calTrim := rfl
@[simp] theorem ack_can : s.ack.can = s.can := rfl
@[simp] theorem ack_canAsleep : s.ack.canAsleep = s.canAsleep := rfl
@[simp] theorem ack_canC (x0 : Nat) : s.ack.canC x0 = s.canC x0 := rfl
@[simp] theorem ack_canHears (x0 : Nat) : s.ack.canHears x0 = s.canHears x0 := rfl
@[simp] theorem ack_canItem (x0 : Nat) (x1 : Nat) (x2 : Nat) : s.ack.canItem x0 x1 x2 = s.canItem x0 x1 x2 := rfl
@[simp] theorem ack_canObj (x0 : Nat) (x1 : Nat) : s.ack.canObj x0 x1 = s.canObj x0 x1 := rfl
@[simp] theorem ack_canOpen (x0 : Nat) : s.ack.canOpen x0 = s.canOpen x0 := rfl
@[simp] theorem ack_canOwn (x0 : Nat) (x1 : Nat) : s.ack.canOwn x0 x1 = s.canOwn x0 x1 := rfl
@[simp] theorem ack_canQueueItem (x0 : Nat) : s.ack.canQueueItem x0 = s.canQueueItem x0 := rfl
@[simp] theorem ack_canRam (x0 : Nat) (x1 : Nat) : s.ack.canRam x0 x1 = s.canRam x0 x1 := rfl
@[simp] theorem ack_canRec (x0 : Nat) : s.ack.canRec x0 = s.canRec x0 := rfl
@[simp] theorem ack_canSrc (x0 : MapEnt) : s.ack.canSrc x0 = s.canSrc x0 := rfl
@[simp] theorem ack_canStart : s.ack.canStart = s.canStart := rfl
@[simp] theorem ack_canState (x0 : Nat) : s.ack.canState x0 = s.canState x0 := rfl
@[simp] theorem ack_canTec (x0 : Nat) : s.ack.canTec x0 = s.canTec x0 := rfl
@[simp] theorem ack_canTtMode (x0 : Nat) : s.ack.canTtMode x0 = s.canTtMode x0 := rfl
@[simp] theorem ack_canTx (x0 : Nat) (x1 : Nat) : s.ack.canTx x0 x1 = s.canTx x0 x1 := rfl
@[simp] theorem ack_capsOf (x0 : Nat) : s.ack.capsOf x0 = s.capsOf x0 := rfl
@[simp] theorem ack_cfgFile (x0 : DrcArc) : s.ack.cfgFile x0 = s.cfgFile x0 := rfl
@[simp] theorem ack_chOk (x0 : Nat) : s.ack.chOk x0 = s.chOk x0 := rfl
@[simp] theorem ack_chOn (x0 : Nat) : s.ack.chOn x0 = s.chOn x0 := rfl
@[simp] theorem ack_chSrc : s.ack.chSrc = s.chSrc := rfl
@[simp] theorem ack_chainK (x0 : PadEra) (x1 : Nat) (x2 : Bool) : s.ack.chainK x0 x1 x2 = s.chainK x0 x1 x2 := rfl
@[simp] theorem ack_chgPends (x0 : Nat) : s.ack.chgPends x0 = s.chgPends x0 := rfl
@[simp] theorem ack_cicada : s.ack.cicada = s.cicada := rfl
@[simp] theorem ack_ckAge : s.ack.ckAge = s.ckAge := rfl
@[simp] theorem ack_ckAxes : s.ack.ckAxes = s.ckAxes := rfl
@[simp] theorem ack_ckDigestOk (x0 : CkPart) : s.ack.ckDigestOk x0 = s.ckDigestOk x0 := rfl
@[simp] theorem ack_ckEnts : s.ack.ckEnts = s.ckEnts := rfl
@[simp] theorem ack_ckOn : s.ack.ckOn = s.ckOn := rfl
@[simp] theorem ack_closeBrks (x0 : Nat) : s.ack.closeBrks x0 = s.closeBrks x0 := rfl
@[simp] theorem ack_closed : s.ack.closed = s.closed := rfl
@[simp] theorem ack_clrArmed : s.ack.clrArmed = s.clrArmed := rfl
@[simp] theorem ack_cmtstatView (x0 : Nat) : s.ack.cmtstatView x0 = s.cmtstatView x0 := rfl
@[simp] theorem ack_commitGroup (x0 : Nat) : s.ack.commitGroup x0 = s.commitGroup x0 := rfl
@[simp] theorem ack_commitRuns (x0 : Nat) : s.ack.commitRuns x0 = s.commitRuns x0 := rfl
@[simp] theorem ack_commits (x0 : Nat) : s.ack.commits x0 = s.commits x0 := rfl
@[simp] theorem ack_compBad (x0 : Nat) : s.ack.compBad x0 = s.compBad x0 := rfl
@[simp] theorem ack_copyStart : s.ack.copyStart = s.copyStart := rfl
@[simp] theorem ack_crossInst (x0 : Int) (x1 : Int) (x2 : Int) : s.ack.crossInst x0 x1 x2 = s.crossInst x0 x1 x2 := rfl
@[simp] theorem ack_curve (x0 : Nat) (x1 : Nat) : s.ack.curve x0 x1 = s.curve x0 x1 := rfl
@[simp] theorem ack_cy (x0 : Nat) : s.ack.cy x0 = s.cy x0 := rfl
@[simp] theorem ack_cyRuns (x0 : Nat) : s.ack.cyRuns x0 = s.cyRuns x0 := rfl
@[simp] theorem ack_cyc : s.ack.cyc = s.cyc := rfl
@[simp] theorem ack_cycCfgBad (x0 : Nat) : s.ack.cycCfgBad x0 = s.cycCfgBad x0 := rfl
@[simp] theorem ack_cycCheck (x0 : Nat) : s.ack.cycCheck x0 = s.cycCheck x0 := rfl
@[simp] theorem ack_cycOn (x0 : Nat) : s.ack.cycOn x0 = s.cycOn x0 := rfl
@[simp] theorem ack_cycRunning (x0 : Nat) : s.ack.cycRunning x0 = s.cycRunning x0 := rfl
@[simp] theorem ack_cycSource (x0 : Nat) : s.ack.cycSource x0 = s.cycSource x0 := rfl
@[simp] theorem ack_cycState (x0 : Nat) : s.ack.cycState x0 = s.cycState x0 := rfl
@[simp] theorem ack_dAxis (x0 : Nat) : s.ack.dAxis x0 = s.dAxis x0 := rfl
@[simp] theorem ack_dDir (x0 : Nat) : s.ack.dDir x0 = s.dDir x0 := rfl
@[simp] theorem ack_dOn (x0 : Nat) : s.ack.dOn x0 = s.dOn x0 := rfl
@[simp] theorem ack_datFile (x0 : DrcArc) : s.ack.datFile x0 = s.datFile x0 := rfl
@[simp] theorem ack_dataBlock (x0 : DrcSlot) (x1 : Nat) : s.ack.dataBlock x0 x1 = s.dataBlock x0 x1 := rfl
@[simp] theorem ack_descBad (x0 : List Nat) (x1 : Nat) : s.ack.descBad x0 x1 = s.descBad x0 x1 := rfl
@[simp] theorem ack_descCount (x0 : List Nat) : s.ack.descCount x0 = s.descCount x0 := rfl
@[simp] theorem ack_descWaits (x0 : Nat) : s.ack.descWaits x0 = s.descWaits x0 := rfl
@[simp] theorem ack_descWords (x0 : Nat) : s.ack.descWords x0 = s.descWords x0 := rfl
@[simp] theorem ack_dfix : s.ack.dfix = s.dfix := rfl
@[simp] theorem ack_di (x0 : Nat) : s.ack.di x0 = s.di x0 := rfl
@[simp] theorem ack_diAt (x0 : Nat) : s.ack.diAt x0 = s.diAt x0 := rfl
@[simp] theorem ack_diDue (x0 : Nat) : s.ack.diDue x0 = s.diDue x0 := rfl
@[simp] theorem ack_diHeld (x0 : Nat) (x1 : Nat) : s.ack.diHeld x0 x1 = s.diHeld x0 x1 := rfl
@[simp] theorem ack_diInv (x0 : Nat) : s.ack.diInv x0 = s.diInv x0 := rfl
@[simp] theorem ack_diKeep (x0 : List (Nat × Nat × Bool)) : s.ack.diKeep x0 = s.diKeep x0 := rfl
@[simp] theorem ack_diLevel (x0 : Nat) : s.ack.diLevel x0 = s.diLevel x0 := rfl
@[simp] theorem ack_diLevelAt (x0 : Nat) (x1 : Nat) : s.ack.diLevelAt x0 x1 = s.diLevelAt x0 x1 := rfl
@[simp] theorem ack_diOn (x0 : Nat) : s.ack.diOn x0 = s.diOn x0 := rfl
@[simp] theorem ack_diRaw (x0 : Nat) : s.ack.diRaw x0 = s.diRaw x0 := rfl
@[simp] theorem ack_diSinceAt (x0 : Nat) (x1 : Nat) : s.ack.diSinceAt x0 x1 = s.diSinceAt x0 x1 := rfl
@[simp] theorem ack_diSrc (x0 : MapEnt) : s.ack.diSrc x0 = s.diSrc x0 := rfl
@[simp] theorem ack_dio : s.ack.dio = s.dio := rfl
@[simp] theorem ack_dioCheck (x0 : Nat) : s.ack.dioCheck x0 = s.dioCheck x0 := rfl
@[simp] theorem ack_dmaAllows (x0 : Nat) (x1 : Nat) (x2 : Bool) : s.ack.dmaAllows x0 x1 x2 = s.dmaAllows x0 x1 x2 := rfl
@[simp] theorem ack_dmode (x0 : Nat) : s.ack.dmode x0 = s.dmode x0 := rfl
@[simp] theorem ack_doCh (x0 : Nat) : s.ack.doCh x0 = s.doCh x0 := rfl
@[simp] theorem ack_doCheck (x0 : Nat) : s.ack.doCheck x0 = s.doCheck x0 := rfl
@[simp] theorem ack_doDrive (x0 : Nat) : s.ack.doDrive x0 = s.doDrive x0 := rfl
@[simp] theorem ack_doEn (x0 : Nat) : s.ack.doEn x0 = s.doEn x0 := rfl
@[simp] theorem ack_doFree (x0 : Nat) : s.ack.doFree x0 = s.doFree x0 := rfl
@[simp] theorem ack_doGrp (x0 : Nat) : s.ack.doGrp x0 = s.doGrp x0 := rfl
@[simp] theorem ack_doHeld (x0 : Nat) : s.ack.doHeld x0 = s.doHeld x0 := rfl
@[simp] theorem ack_doLatched (x0 : Nat) : s.ack.doLatched x0 = s.doLatched x0 := rfl
@[simp] theorem ack_doLead (x0 : Nat) : s.ack.doLead x0 = s.doLead x0 := rfl
@[simp] theorem ack_doLevel (x0 : Nat) : s.ack.doLevel x0 = s.doLevel x0 := rfl
@[simp] theorem ack_doMode (x0 : Nat) : s.ack.doMode x0 = s.doMode x0 := rfl
@[simp] theorem ack_doOn (x0 : Nat) : s.ack.doOn x0 = s.doOn x0 := rfl
@[simp] theorem ack_doReleased (x0 : Nat) (x1 : Nat) : s.ack.doReleased x0 x1 = s.doReleased x0 x1 := rfl
@[simp] theorem ack_doSafety (x0 : Nat) : s.ack.doSafety x0 = s.doSafety x0 := rfl
@[simp] theorem ack_dramBytes (x0 : Nat) (x1 : Nat) : s.ack.dramBytes x0 x1 = s.dramBytes x0 x1 := rfl
@[simp] theorem ack_dramNum (x0 : Nat) (x1 : Nat) : s.ack.dramNum x0 x1 = s.dramNum x0 x1 := rfl
@[simp] theorem ack_dramWindow (x0 : Init) (x1 : Nat) (x2 : Nat) (x3 : Want) : s.ack.dramWindow x0 x1 x2 x3 = s.dramWindow x0 x1 x2 x3 := rfl
@[simp] theorem ack_drc : s.ack.drc = s.drc := rfl
@[simp] theorem ack_drcCfg : s.ack.drcCfg = s.drcCfg := rfl
@[simp] theorem ack_drcCheck (x0 : Nat) : s.ack.drcCheck x0 = s.drcCheck x0 := rfl
@[simp] theorem ack_drcHeld : s.ack.drcHeld = s.drcHeld := rfl
@[simp] theorem ack_drcOwner : s.ack.drcOwner = s.drcOwner := rfl
@[simp] theorem ack_drcState : s.ack.drcState = s.drcState := rfl
@[simp] theorem ack_drcView (x0 : Nat) : s.ack.drcView x0 = s.drcView x0 := rfl
@[simp] theorem ack_drcWhole (x0 : Nat) : s.ack.drcWhole x0 = s.drcWhole x0 := rfl
@[simp] theorem ack_edgeUpTo (x0 : Nat) (x1 : Nat) : s.ack.edgeUpTo x0 x1 = s.edgeUpTo x0 x1 := rfl
@[simp] theorem ack_edges (x0 : Nat) : s.ack.edges x0 = s.edges x0 := rfl
@[simp] theorem ack_edmEn (x0 : Nat) : s.ack.edmEn x0 = s.edmEn x0 := rfl
@[simp] theorem ack_edmIn (x0 : Nat) (x1 : Nat) : s.ack.edmIn x0 x1 = s.edmIn x0 x1 := rfl
@[simp] theorem ack_eff (x0 : List Nat) (x1 : Nat) : s.ack.eff x0 x1 = s.eff x0 x1 := rfl
@[simp] theorem ack_eff64 (x0 : List Nat) (x1 : Nat) : s.ack.eff64 x0 x1 = s.eff64 x0 x1 := rfl
@[simp] theorem ack_egress (x0 : Nat) (x1 : Nat) (x2 : Nat) : s.ack.egress x0 x1 x2 = s.egress x0 x1 x2 := rfl
@[simp] theorem ack_egressForm (x0 : Nat) (x1 : Nat) (x2 : Nat) (x3 : List Nat) : s.ack.egressForm x0 x1 x2 x3 = s.egressForm x0 x1 x2 x3 := rfl
@[simp] theorem ack_elBad (x0 : Nat) (x1 : PIns) : s.ack.elBad x0 x1 = s.elBad x0 x1 := rfl
@[simp] theorem ack_elView (x0 : Nat) : s.ack.elView x0 = s.elView x0 := rfl
@[simp] theorem ack_enc (x0 : Nat) : s.ack.enc x0 = s.enc x0 := rfl
@[simp] theorem ack_encPos (x0 : Nat) (x1 : Nat) : s.ack.encPos x0 x1 = s.encPos x0 x1 := rfl
@[simp] theorem ack_engFlags (x0 : SampleSet) (x1 : Bool) : s.ack.engFlags x0 x1 = s.engFlags x0 x1 := rfl
@[simp] theorem ack_engine : s.ack.engine = s.engine := rfl
@[simp] theorem ack_entOwned (x0 : Nat) (x1 : MapEnt) : s.ack.entOwned x0 x1 = s.entOwned x0 x1 := rfl
@[simp] theorem ack_entry (x0 : Nat) : s.ack.entry x0 = s.entry x0 := rfl
@[simp] theorem ack_entryCross (x0 : Nat) : s.ack.entryCross x0 = s.entryCross x0 := rfl
@[simp] theorem ack_eraFor (x0 : SampleSet) (x1 : Nat) : s.ack.eraFor x0 x1 = s.eraFor x0 x1 := rfl
@[simp] theorem ack_estPos (x0 : Est) (x1 : Nat) : s.ack.estPos x0 x1 = s.estPos x0 x1 := rfl
@[simp] theorem ack_estPush (x0 : List Est) (x1 : Est) : s.ack.estPush x0 x1 = s.estPush x0 x1 := rfl
@[simp] theorem ack_estVel (x0 : Est) : s.ack.estVel x0 = s.estVel x0 := rfl
@[simp] theorem ack_eth : s.ack.eth = s.eth := rfl
@[simp] theorem ack_ethCheck (x0 : Nat) : s.ack.ethCheck x0 = s.ethCheck x0 := rfl
@[simp] theorem ack_ethItem (x0 : Nat) (x1 : Nat) : s.ack.ethItem x0 x1 = s.ethItem x0 x1 := rfl
@[simp] theorem ack_ethLink (x0 : Nat) : s.ack.ethLink x0 = s.ethLink x0 := rfl
@[simp] theorem ack_ethP (x0 : Nat) : s.ack.ethP x0 = s.ethP x0 := rfl
@[simp] theorem ack_ethPd (x0 : Nat) : s.ack.ethPd x0 = s.ethPd x0 := rfl
@[simp] theorem ack_ethRing (x0 : Nat) : s.ack.ethRing x0 = s.ethRing x0 := rfl
@[simp] theorem ack_ethSrc (x0 : MapEnt) : s.ack.ethSrc x0 = s.ethSrc x0 := rfl
@[simp] theorem ack_evStands (x0 : Nat) : s.ack.evStands x0 = s.evStands x0 := rfl
@[simp] theorem ack_evfCheck (x0 : Nat) : s.ack.evfCheck x0 = s.evfCheck x0 := rfl
@[simp] theorem ack_evpend (x0 : Nat) : s.ack.evpend x0 = s.evpend x0 := rfl
@[simp] theorem ack_evr : s.ack.evr = s.evr := rfl
@[simp] theorem ack_evrOld : s.ack.evrOld = s.evrOld := rfl
@[simp] theorem ack_expCh : s.ack.expCh = s.expCh := rfl
@[simp] theorem ack_expTarget (x0 : Nat) (x1 : Nat) (x2 : Nat) : s.ack.expTarget x0 x1 x2 = s.expTarget x0 x1 x2 := rfl
@[simp] theorem ack_expTr : s.ack.expTr = s.expTr := rfl
@[simp] theorem ack_fbDue : s.ack.fbDue = s.fbDue := rfl
@[simp] theorem ack_ffMode (x0 : Nat) : s.ack.ffMode x0 = s.ffMode x0 := rfl
@[simp] theorem ack_ffOn (x0 : Nat) : s.ack.ffOn x0 = s.ffOn x0 := rfl
@[simp] theorem ack_ffPin (x0 : Nat) (x1 : Nat) : s.ack.ffPin x0 x1 = s.ffPin x0 x1 := rfl
@[simp] theorem ack_ffPulse (x0 : Nat) (x1 : Firefly) (x2 : Nat) : s.ack.ffPulse x0 x1 x2 = s.ffPulse x0 x1 x2 := rfl
@[simp] theorem ack_findRec (x0 : Nat) : s.ack.findRec x0 = s.findRec x0 := rfl
@[simp] theorem ack_firefly (x0 : Nat) : s.ack.firefly x0 = s.firefly x0 := rfl
@[simp] theorem ack_firstPoison (x0 : Nat) (x1 : Nat) : s.ack.firstPoison x0 x1 = s.firstPoison x0 x1 := rfl
@[simp] theorem ack_fixHz : s.ack.fixHz = s.fixHz := rfl
@[simp] theorem ack_fld (x0 : Nat) (x1 : Nat) (x2 : Nat) : s.ack.fld x0 x1 x2 = s.fld x0 x1 x2 := rfl
@[simp] theorem ack_fltOk (x0 : Nat) (x1 : Nat) : s.ack.fltOk x0 x1 = s.fltOk x0 x1 := rfl
@[simp] theorem ack_fltclrOk (x0 : Nat) : s.ack.fltclrOk x0 = s.fltclrOk x0 := rfl
@[simp] theorem ack_flushDue : s.ack.flushDue = s.flushDue := rfl
@[simp] theorem ack_flushEnded : s.ack.flushEnded = s.flushEnded := rfl
@[simp] theorem ack_forceImage (x0 : Nat) (x1 : Bool) (x2 : List Nat) : s.ack.forceImage x0 x1 x2 = s.forceImage x0 x1 x2 := rfl
@[simp] theorem ack_forcedIn (x0 : Nat) (x1 : Nat) (x2 : Nat) : s.ack.forcedIn x0 x1 x2 = s.forcedIn x0 x1 x2 := rfl
@[simp] theorem ack_forces (x0 : List Nat) (x1 : Nat) : s.ack.forces x0 x1 = s.forces x0 x1 := rfl
@[simp] theorem ack_forcesOk (x0 : List Nat) (x1 : Nat) : s.ack.forcesOk x0 x1 = s.forcesOk x0 x1 := rfl
@[simp] theorem ack_frameTime (x0 : Nat) (x1 : EthItem) : s.ack.frameTime x0 x1 = s.frameTime x0 x1 := rfl
@[simp] theorem ack_free : s.ack.free = s.free := rfl
@[simp] theorem ack_fresh (x0 : Nat) (x1 : Nat) : s.ack.fresh x0 x1 = s.fresh x0 x1 := rfl
@[simp] theorem ack_frozenBy (x0 : Nat) : s.ack.frozenBy x0 = s.frozenBy x0 := rfl
@[simp] theorem ack_frozenOf (x0 : Nat) : s.ack.frozenOf x0 = s.frozenOf x0 := rfl
@[simp] theorem ack_fuseKeys : s.ack.fuseKeys = s.fuseKeys := rfl
@[simp] theorem ack_gateFor (x0 : Nat) (x1 : Nat) (x2 : Nat) : s.ack.gateFor x0 x1 x2 = s.gateFor x0 x1 x2 := rfl
@[simp] theorem ack_gclOf (x0 : Nat) : s.ack.gclOf x0 = s.gclOf x0 := rfl
@[simp] theorem ack_goRange (x0 : Nat) (x1 : Nat) : s.ack.goRange x0 x1 = s.goRange x0 x1 := rfl
@[simp] theorem ack_goodFor (x0 : Nat) (x1 : Nat) : s.ack.goodFor x0 x1 = s.goodFor x0 x1 := rfl
@[simp] theorem ack_grant7 (x0 : Nat) (x1 : Nat) : s.ack.grant7 x0 x1 = s.grant7 x0 x1 := rfl
@[simp] theorem ack_granted (x0 : Nat) (x1 : Nat) : s.ack.granted x0 x1 = s.granted x0 x1 := rfl
@[simp] theorem ack_gridAgrees (x0 : List Nat) (x1 : Nat) (x2 : Nat) : s.ack.gridAgrees x0 x1 x2 = s.gridAgrees x0 x1 x2 := rfl
@[simp] theorem ack_gridAx : s.ack.gridAx = s.gridAx := rfl
@[simp] theorem ack_gridMode : s.ack.gridMode = s.gridMode := rfl
@[simp] theorem ack_gridSel : s.ack.gridSel = s.gridSel := rfl
@[simp] theorem ack_gridStat : s.ack.gridStat = s.gridStat := rfl
@[simp] theorem ack_gridTicks (x0 : Rat) : s.ack.gridTicks x0 = s.gridTicks x0 := rfl
@[simp] theorem ack_groupBad (x0 : Nat) : s.ack.groupBad x0 = s.groupBad x0 := rfl
@[simp] theorem ack_groupXconn (x0 : Nat) : s.ack.groupXconn x0 = s.groupXconn x0 := rfl
@[simp] theorem ack_grpCrcOk (x0 : Nat) : s.ack.grpCrcOk x0 = s.grpCrcOk x0 := rfl
@[simp] theorem ack_grpNext : s.ack.grpNext = s.grpNext := rfl
@[simp] theorem ack_gwy : s.ack.gwy = s.gwy := rfl
@[simp] theorem ack_gwyBlocked (x0 : Nat) : s.ack.gwyBlocked x0 = s.gwyBlocked x0 := rfl
@[simp] theorem ack_gwyCheck (x0 : List Nat) (x1 : Nat → Bool) (x2 : Nat) : s.ack.gwyCheck x0 x1 x2 = s.gwyCheck x0 x1 x2 := rfl
@[simp] theorem ack_gwyDstPage (x0 : Nat) : s.ack.gwyDstPage x0 = s.gwyDstPage x0 := rfl
@[simp] theorem ack_gwyFed (x0 : Nat) (x1 : Nat) (x2 : Nat) : s.ack.gwyFed x0 x1 x2 = s.gwyFed x0 x1 x2 := rfl
@[simp] theorem ack_gwyFeeds (x0 : Nat) (x1 : Nat) (x2 : Nat) : s.ack.gwyFeeds x0 x1 x2 = s.gwyFeeds x0 x1 x2 := rfl
@[simp] theorem ack_gwyItem (x0 : Nat) (x1 : Nat) : s.ack.gwyItem x0 x1 = s.gwyItem x0 x1 := rfl
@[simp] theorem ack_gwyMay (x0 : Option Nat) : s.ack.gwyMay x0 = s.gwyMay x0 := rfl
@[simp] theorem ack_gwyOn (x0 : Nat) : s.ack.gwyOn x0 = s.gwyOn x0 := rfl
@[simp] theorem ack_gwyRead (x0 : Nat) : s.ack.gwyRead x0 = s.gwyRead x0 := rfl
@[simp] theorem ack_gwyReads : s.ack.gwyReads = s.gwyReads := rfl
@[simp] theorem ack_gwySig (x0 : Nat) : s.ack.gwySig x0 = s.gwySig x0 := rfl
@[simp] theorem ack_gwySigOk (x0 : Nat → Bool) (x1 : Nat) : s.ack.gwySigOk x0 x1 = s.gwySigOk x0 x1 := rfl
@[simp] theorem ack_gwySource (x0 : Nat) : s.ack.gwySource x0 = s.gwySource x0 := rfl
@[simp] theorem ack_gwySrc (x0 : MapEnt) : s.ack.gwySrc x0 = s.gwySrc x0 := rfl
@[simp] theorem ack_gwySrcPage (x0 : Nat) : s.ack.gwySrcPage x0 = s.gwySrcPage x0 := rfl
@[simp] theorem ack_gwyStarts (x0 : Nat) : s.ack.gwyStarts x0 = s.gwyStarts x0 := rfl
@[simp] theorem ack_handAct (x0 : Nat) (x1 : Nat) (x2 : Nat) : s.ack.handAct x0 x1 x2 = s.handAct x0 x1 x2 := rfl
@[simp] theorem ack_handRel (x0 : Nat) (x1 : Nat) (x2 : Nat) : s.ack.handRel x0 x1 x2 = s.handRel x0 x1 x2 := rfl
@[simp] theorem ack_handSince (x0 : Nat) (x1 : Nat) (x2 : Nat) : s.ack.handSince x0 x1 x2 = s.handSince x0 x1 x2 := rfl
@[simp] theorem ack_handTimeout (x0 : Nat) (x1 : Nat) : s.ack.handTimeout x0 x1 = s.handTimeout x0 x1 := rfl
@[simp] theorem ack_hasTriad (x0 : Nat) : s.ack.hasTriad x0 = s.hasTriad x0 := rfl
@[simp] theorem ack_hbArriving : s.ack.hbArriving = s.hbArriving := rfl
@[simp] theorem ack_hbto : s.ack.hbto = s.hbto := rfl
@[simp] theorem ack_hdrFile (x0 : DrcArc) : s.ack.hdrFile x0 = s.hdrFile x0 := rfl
@[simp] theorem ack_headView (x0 : Nat) (x1 : Nat) : s.ack.headView x0 x1 = s.headView x0 x1 := rfl
@[simp] theorem ack_heldSlots : s.ack.heldSlots = s.heldSlots := rfl
@[simp] theorem ack_histKeep (x0 : Nat) (x1 : List (List Nat × Nat × Nat)) : s.ack.histKeep x0 x1 = s.histKeep x0 x1 := rfl
@[simp] theorem ack_hlthOwn : s.ack.hlthOwn = s.hlthOwn := rfl
@[simp] theorem ack_holdOver (x0 : Nat) : s.ack.holdOver x0 = s.holdOver x0 := rfl
@[simp] theorem ack_host : s.ack.host = s.host := rfl
@[simp] theorem ack_hostWins : s.ack.hostWins = s.hostWins := rfl
@[simp] theorem ack_hpmCounter (x0 : Nat) (x1 : Nat) : s.ack.hpmCounter x0 x1 = s.hpmCounter x0 x1 := rfl
@[simp] theorem ack_hrb : s.ack.hrb = s.hrb := rfl
@[simp] theorem ack_hrbCheck (x0 : List Nat) (x1 : Nat) : s.ack.hrbCheck x0 x1 = s.hrbCheck x0 x1 := rfl
@[simp] theorem ack_hrbCtl (x0 : Nat) (x1 : Nat) : s.ack.hrbCtl x0 x1 = s.hrbCtl x0 x1 := rfl
@[simp] theorem ack_hrbEntry (x0 : Nat) (x1 : Nat) (x2 : List Nat) : s.ack.hrbEntry x0 x1 x2 = s.hrbEntry x0 x1 x2 := rfl
@[simp] theorem ack_hrbEntryOk (x0 : Nat) (x1 : List Nat) : s.ack.hrbEntryOk x0 x1 = s.hrbEntryOk x0 x1 := rfl
@[simp] theorem ack_hrbIn (x0 : Nat) (x1 : List Nat) : s.ack.hrbIn x0 x1 = s.hrbIn x0 x1 := rfl
@[simp] theorem ack_hrbItem (x0 : Nat) (x1 : Nat) : s.ack.hrbItem x0 x1 = s.hrbItem x0 x1 := rfl
@[simp] theorem ack_hrbMine (x0 : Init) (x1 : Nat) : s.ack.hrbMine x0 x1 = s.hrbMine x0 x1 := rfl
@[simp] theorem ack_hrbOut (x0 : Nat) (x1 : Nat) (x2 : Nat) : s.ack.hrbOut x0 x1 x2 = s.hrbOut x0 x1 x2 := rfl
@[simp] theorem ack_hrbOwnBad (x0 : Nat) (x1 : List (Nat × Nat)) : s.ack.hrbOwnBad x0 x1 = s.hrbOwnBad x0 x1 := rfl
@[simp] theorem ack_hrbPe (x0 : Nat) : s.ack.hrbPe x0 = s.hrbPe x0 := rfl
@[simp] theorem ack_hrbShut : s.ack.hrbShut = s.hrbShut := rfl
@[simp] theorem ack_hrbSrc (x0 : MapEnt) : s.ack.hrbSrc x0 = s.hrbSrc x0 := rfl
@[simp] theorem ack_hrbWin (x0 : Nat) : s.ack.hrbWin x0 = s.hrbWin x0 := rfl
@[simp] theorem ack_hwLock (x0 : Nat) : s.ack.hwLock x0 = s.hwLock x0 := rfl
@[simp] theorem ack_hwOn (x0 : Nat) : s.ack.hwOn x0 = s.hwOn x0 := rfl
@[simp] theorem ack_hwOrigin (x0 : Nat) : s.ack.hwOrigin x0 = s.hwOrigin x0 := rfl
@[simp] theorem ack_hwOwner (x0 : Nat) : s.ack.hwOwner x0 = s.hwOwner x0 := rfl
@[simp] theorem ack_hwPosted (x0 : Nat) : s.ack.hwPosted x0 = s.hwPosted x0 := rfl
@[simp] theorem ack_hwSwap (x0 : Nat) : s.ack.hwSwap x0 = s.hwSwap x0 := rfl
@[simp] theorem ack_imageReason (x0 : List Nat) (x1 : Bool) : s.ack.imageReason x0 x1 = s.imageReason x0 x1 := rfl
@[simp] theorem ack_imgCheck (x0 : Nat) (x1 : CycImg) (x2 : Bool) : s.ack.imgCheck x0 x1 x2 = s.imgCheck x0 x1 x2 := rfl
@[simp] theorem ack_inDsec (x0 : Nat) : s.ack.inDsec x0 = s.inDsec x0 := rfl
@[simp] theorem ack_inNormal (x0 : Nat) (x1 : Nat) (x2 : Nat) (x3 : Bool) : s.ack.inNormal x0 x1 x2 x3 = s.inNormal x0 x1 x2 x3 := rfl
@[simp] theorem ack_instOf (x0 : Nat) : s.ack.instOf x0 = s.instOf x0 := rfl
@[simp] theorem ack_irq (x0 : Nat) : s.ack.irq x0 = s.irq x0 := rfl
@[simp] theorem ack_irqWaits (x0 : Nat) : s.ack.irqWaits x0 = s.irqWaits x0 := rfl
@[simp] theorem ack_isPending (x0 : Nat) : s.ack.isPending x0 = s.isPending x0 := rfl
@[simp] theorem ack_itemLen (x0 : EthItem) : s.ack.itemLen x0 = s.itemLen x0 := rfl
@[simp] theorem ack_konst (x0 : Nat) (x1 : Nat) : s.ack.konst x0 x1 = s.konst x0 x1 := rfl
@[simp] theorem ack_laneRuns (x0 : Nat) (x1 : Nat) : s.ack.laneRuns x0 x1 = s.laneRuns x0 x1 := rfl
@[simp] theorem ack_laneState (x0 : Nat) (x1 : Nat) : s.ack.laneState x0 x1 = s.laneState x0 x1 := rfl
@[simp] theorem ack_lataa : s.ack.lataa = s.lataa := rfl
@[simp] theorem ack_lateTol (x0 : Nat) : s.ack.lateTol x0 = s.lateTol x0 := rfl
@[simp] theorem ack_launchCase (x0 : Nat) (x1 : EthItem) : s.ack.launchCase x0 x1 = s.launchCase x0 x1 := rfl
@[simp] theorem ack_launchClear (x0 : Nat) (x1 : Nat) : s.ack.launchClear x0 x1 = s.launchClear x0 x1 := rfl
@[simp] theorem ack_leadLane (x0 : Nat) : s.ack.leadLane x0 = s.leadLane x0 := rfl
@[simp] theorem ack_leadOf (x0 : Nat) (x1 : Int) (x2 : Int) : s.ack.leadOf x0 x1 x2 = s.leadOf x0 x1 x2 := rfl
@[simp] theorem ack_leads (x0 : Nat) : s.ack.leads x0 = s.leads x0 := rfl
@[simp] theorem ack_ledFault : s.ack.ledFault = s.ledFault := rfl
@[simp] theorem ack_ledForce : s.ack.ledForce = s.ledForce := rfl
@[simp] theorem ack_ledPrim : s.ack.ledPrim = s.ledPrim := rfl
@[simp] theorem ack_ledRun : s.ack.ledRun = s.ledRun := rfl
@[simp] theorem ack_li (x0 : Nat) : s.ack.li x0 = s.li x0 := rfl
@[simp] theorem ack_liOn (x0 : Nat) : s.ack.liOn x0 = s.liOn x0 := rfl
@[simp] theorem ack_life : s.ack.life = s.life := rfl
@[simp] theorem ack_lifeHolds (x0 : Nat) : s.ack.lifeHolds x0 = s.lifeHolds x0 := rfl
@[simp] theorem ack_lifeKind (x0 : Nat) : s.ack.lifeKind x0 = s.lifeKind x0 := rfl
@[simp] theorem ack_lifeSrc (x0 : Nat) : s.ack.lifeSrc x0 = s.lifeSrc x0 := rfl
@[simp] theorem ack_lifeTable (x0 : Nat) : s.ack.lifeTable x0 = s.lifeTable x0 := rfl
@[simp] theorem ack_live (x0 : Init) : s.ack.live x0 = s.live x0 := rfl
@[simp] theorem ack_lo (x0 : Nat) : s.ack.lo x0 = s.lo x0 := rfl
@[simp] theorem ack_loDrive (x0 : Nat) : s.ack.loDrive x0 = s.loDrive x0 := rfl
@[simp] theorem ack_loOn (x0 : Nat) : s.ack.loOn x0 = s.loOn x0 := rfl
@[simp] theorem ack_loSet (x0 : Nat) : s.ack.loSet x0 = s.loSet x0 := rfl
@[simp] theorem ack_lockBytes (x0 : Nat) : s.ack.lockBytes x0 = s.lockBytes x0 := rfl
@[simp] theorem ack_lookup (x0 : Nat) (x1 : Nat) : s.ack.lookup x0 x1 = s.lookup x0 x1 := rfl
@[simp] theorem ack_loop : s.ack.loop = s.loop := rfl
@[simp] theorem ack_loopCheck (x0 : Nat) : s.ack.loopCheck x0 = s.loopCheck x0 := rfl
@[simp] theorem ack_loopGated : s.ack.loopGated = s.loopGated := rfl
@[simp] theorem ack_loopItem (x0 : Nat) (x1 : Nat) : s.ack.loopItem x0 x1 = s.loopItem x0 x1 := rfl
@[simp] theorem ack_loopOn : s.ack.loopOn = s.loopOn := rfl
@[simp] theorem ack_loopRun : s.ack.loopRun = s.loopRun := rfl
@[simp] theorem ack_loopSrc (x0 : MapEnt) : s.ack.loopSrc x0 = s.loopSrc x0 := rfl
@[simp] theorem ack_lost (x0 : Nat) : s.ack.lost x0 = s.lost x0 := rfl
@[simp] theorem ack_mactive : s.ack.mactive = s.mactive := rfl
@[simp] theorem ack_mainOn : s.ack.mainOn = s.mainOn := rfl
@[simp] theorem ack_mapCheck (x0 : CycImg) : s.ack.mapCheck x0 = s.mapCheck x0 := rfl
@[simp] theorem ack_mapOwned (x0 : Nat) (x1 : CycImg) : s.ack.mapOwned x0 x1 = s.mapOwned x0 x1 := rfl
@[simp] theorem ack_mappedAt (x0 : Nat) (x1 : Nat) : s.ack.mappedAt x0 x1 = s.mappedAt x0 x1 := rfl
@[simp] theorem ack_markedLanes (x0 : Nat) : s.ack.markedLanes x0 = s.markedLanes x0 := rfl
@[simp] theorem ack_maxCyc (x0 : Nat) : s.ack.maxCyc x0 = s.maxCyc x0 := rfl
@[simp] theorem ack_mayClaim : s.ack.mayClaim = s.mayClaim := rfl
@[simp] theorem ack_mayRead (x0 : Init) (x1 : Nat) (x2 : Nat) : s.ack.mayRead x0 x1 x2 = s.mayRead x0 x1 x2 := rfl
@[simp] theorem ack_mayReadP (x0 : Nat) (x1 : Nat) (x2 : Nat) : s.ack.mayReadP x0 x1 x2 = s.mayReadP x0 x1 x2 := rfl
@[simp] theorem ack_mayRoom : s.ack.mayRoom = s.mayRoom := rfl
@[simp] theorem ack_mayStart (x0 : Nat) : s.ack.mayStart x0 = s.mayStart x0 := rfl
@[simp] theorem ack_mayTable (x0 : Init) (x1 : Nat) : s.ack.mayTable x0 x1 = s.mayTable x0 x1 := rfl
@[simp] theorem ack_mayWrite (x0 : Init) (x1 : Nat) (x2 : Nat) : s.ack.mayWrite x0 x1 x2 = s.mayWrite x0 x1 x2 := rfl
@[simp] theorem ack_mayWriteP (x0 : Nat) (x1 : Nat) (x2 : Nat) : s.ack.mayWriteP x0 x1 x2 = s.mayWriteP x0 x1 x2 := rfl
@[simp] theorem ack_md (x0 : Nat) : s.ack.md x0 = s.md x0 := rfl
@[simp] theorem ack_mdChans (x0 : Nat) : s.ack.mdChans x0 = s.mdChans x0 := rfl
@[simp] theorem ack_mem : s.ack.mem = s.mem := rfl
@[simp] theorem ack_memCheck (x0 : Nat) : s.ack.memCheck x0 = s.memCheck x0 := rfl
@[simp] theorem ack_memOrP7 (x0 : Nat) : s.ack.memOrP7 x0 = s.memOrP7 x0 := rfl
@[simp] theorem ack_mfree : s.ack.mfree = s.mfree := rfl
@[simp] theorem ack_mgt : s.ack.mgt = s.mgt := rfl
@[simp] theorem ack_mgtCheck (x0 : Nat) : s.ack.mgtCheck x0 = s.mgtCheck x0 := rfl
@[simp] theorem ack_mgtKey (x0 : Nat) : s.ack.mgtKey x0 = s.mgtKey x0 := rfl
@[simp] theorem ack_mgtMask (x0 : Nat) : s.ack.mgtMask x0 = s.mgtMask x0 := rfl
@[simp] theorem ack_mgtTag (x0 : List Nat) (x1 : List Nat) (x2 : Nat) (x3 : MgtFrame) : s.ack.mgtTag x0 x1 x2 x3 = s.mgtTag x0 x1 x2 x3 := rfl
@[simp] theorem ack_mgtTagOk (x0 : Nat) (x1 : Nat) (x2 : MgtFrame) : s.ack.mgtTagOk x0 x1 x2 = s.mgtTagOk x0 x1 x2 := rfl
@[simp] theorem ack_mheld : s.ack.mheld = s.mheld := rfl
@[simp] theorem ack_migPoison (x0 : Nat) (x1 : CycImg) : s.ack.migPoison x0 x1 = s.migPoison x0 x1 := rfl
@[simp] theorem ack_mlane (x0 : Nat) : s.ack.mlane x0 = s.mlane x0 := rfl
@[simp] theorem ack_moduleTime : s.ack.moduleTime = s.moduleTime := rfl
@[simp] theorem ack_mrecent (x0 : Nat) : s.ack.mrecent x0 = s.mrecent x0 := rfl
@[simp] theorem ack_msSince (x0 : Nat) (x1 : Nat) : s.ack.msSince x0 x1 = s.msSince x0 x1 := rfl
@[simp] theorem ack_mtime : s.ack.mtime = s.mtime := rfl
@[simp] theorem ack_nameTxt (x0 : Nat) (x1 : Nat) : s.ack.nameTxt x0 x1 = s.nameTxt x0 x1 := rfl
@[simp] theorem ack_newReq (x0 : Nat) (x1 : Nat) (x2 : Nat) : s.ack.newReq x0 x1 x2 = s.newReq x0 x1 x2 := rfl
@[simp] theorem ack_newRun (x0 : Nat) (x1 : Nat) (x2 : Bool) : s.ack.newRun x0 x1 x2 = s.newRun x0 x1 x2 := rfl
@[simp] theorem ack_newestRec (x0 : Nat) : s.ack.newestRec x0 = s.newestRec x0 := rfl
@[simp] theorem ack_newestSlot (x0 : Nat) : s.ack.newestSlot x0 = s.newestSlot x0 := rfl
@[simp] theorem ack_nextTs (x0 : Nat) : s.ack.nextTs x0 = s.nextTs x0 := rfl
@[simp] theorem ack_nmax : s.ack.nmax = s.nmax := rfl
@[simp] theorem ack_now4 : s.ack.now4 = s.now4 := rfl
@[simp] theorem ack_objImage (x0 : Nat) (x1 : Nat) : s.ack.objImage x0 x1 = s.objImage x0 x1 := rfl
@[simp] theorem ack_objLost (x0 : Nat) (x1 : Nat) : s.ack.objLost x0 x1 = s.objLost x0 x1 := rfl
@[simp] theorem ack_objNew (x0 : Nat) (x1 : Nat) : s.ack.objNew x0 x1 = s.objNew x0 x1 := rfl
@[simp] theorem ack_objSize (x0 : Nat) (x1 : Nat) : s.ack.objSize x0 x1 = s.objSize x0 x1 := rfl
@[simp] theorem ack_objStale (x0 : Nat) (x1 : Nat) : s.ack.objStale x0 x1 = s.objStale x0 x1 := rfl
@[simp] theorem ack_oldestComplete : s.ack.oldestComplete = s.oldestComplete := rfl
@[simp] theorem ack_openBusy : s.ack.openBusy = s.openBusy := rfl
@[simp] theorem ack_openLanes (x0 : Nat) : s.ack.openLanes x0 = s.openLanes x0 := rfl
@[simp] theorem ack_openSlot : s.ack.openSlot = s.openSlot := rfl
@[simp] theorem ack_outNow (x0 : Nat) (x1 : CycImg) : s.ack.outNow x0 x1 = s.outNow x0 x1 := rfl
@[simp] theorem ack_outOn (x0 : Nat) : s.ack.outOn x0 = s.outOn x0 := rfl
@[simp] theorem ack_outReg (x0 : Nat) : s.ack.outReg x0 = s.outReg x0 := rfl
@[simp] theorem ack_ownEntry (x0 : Nat) : s.ack.ownEntry x0 = s.ownEntry x0 := rfl
@[simp] theorem ack_ownFrame (x0 : Nat) (x1 : List Nat) : s.ack.ownFrame x0 x1 = s.ownFrame x0 x1 := rfl
@[simp] theorem ack_ownMask (x0 : Nat) : s.ack.ownMask x0 = s.ownMask x0 := rfl
@[simp] theorem ack_ownedPages (x0 : Nat) : s.ack.ownedPages x0 = s.ownedPages x0 := rfl
@[simp] theorem ack_owner (x0 : Nat) : s.ack.owner x0 = s.owner x0 := rfl
@[simp] theorem ack_ownerHalted (x0 : Nat) : s.ack.ownerHalted x0 = s.ownerHalted x0 := rfl
@[simp] theorem ack_owns (x0 : Nat) (x1 : Nat) : s.ack.owns x0 x1 = s.owns x0 x1 := rfl
@[simp] theorem ack_ownsMem (x0 : Init) (x1 : Nat) : s.ack.ownsMem x0 x1 = s.ownsMem x0 x1 := rfl
@[simp] theorem ack_pIns (x0 : Nat) : s.ack.pIns x0 = s.pIns x0 := rfl
@[simp] theorem ack_pWord (x0 : Nat) : s.ack.pWord x0 = s.pWord x0 := rfl
@[simp] theorem ack_pad : s.ack.pad = s.pad := rfl
@[simp] theorem ack_padCheck (x0 : List Nat) (x1 : Nat) : s.ack.padCheck x0 x1 = s.padCheck x0 x1 := rfl
@[simp] theorem ack_padOn : s.ack.padOn = s.padOn := rfl
@[simp] theorem ack_pageKeeps (x0 : Nat) : s.ack.pageKeeps x0 = s.pageKeeps x0 := rfl
@[simp] theorem ack_pairBad (x0 : Nat) (x1 : Nat) (x2 : Nat) : s.ack.pairBad x0 x1 x2 = s.pairBad x0 x1 x2 := rfl
@[simp] theorem ack_pairSince (x0 : Nat) (x1 : Nat) (x2 : Nat) : s.ack.pairSince x0 x1 x2 = s.pairSince x0 x1 x2 := rfl
@[simp] theorem ack_paired : s.ack.paired = s.paired := rfl
@[simp] theorem ack_par (x0 : Nat) (x1 : Nat) (x2 : Nat) : s.ack.par x0 x1 x2 = s.par x0 x1 x2 := rfl
@[simp] theorem ack_parN (x0 : Nat) (x1 : Nat) (x2 : Nat) : s.ack.parN x0 x1 x2 = s.parN x0 x1 x2 := rfl
@[simp] theorem ack_parQ (x0 : Nat) (x1 : Nat) (x2 : Nat) : s.ack.parQ x0 x1 x2 = s.parQ x0 x1 x2 := rfl
@[simp] theorem ack_partInits (x0 : Nat) : s.ack.partInits x0 = s.partInits x0 := rfl
@[simp] theorem ack_partNo (x0 : Init) : s.ack.partNo x0 = s.partNo x0 := rfl
@[simp] theorem ack_partOf (x0 : Init) : s.ack.partOf x0 = s.partOf x0 := rfl
@[simp] theorem ack_partOfAny (x0 : Nat) (x1 : Nat) : s.ack.partOfAny x0 x1 = s.partOfAny x0 x1 := rfl
@[simp] theorem ack_partOfLane (x0 : Nat) (x1 : Nat) : s.ack.partOfLane x0 x1 = s.partOfLane x0 x1 := rfl
@[simp] theorem ack_partOfTriad (x0 : Nat) : s.ack.partOfTriad x0 = s.partOfTriad x0 := rfl
@[simp] theorem ack_partnerReleased : s.ack.partnerReleased = s.partnerReleased := rfl
@[simp] theorem ack_pdDue (x0 : Nat) : s.ack.pdDue x0 = s.pdDue x0 := rfl
@[simp] theorem ack_pdGated : s.ack.pdGated = s.pdGated := rfl
@[simp] theorem ack_pdMapped (x0 : Nat) : s.ack.pdMapped x0 = s.pdMapped x0 := rfl
@[simp] theorem ack_pdMatch (x0 : Nat) (x1 : Nat) (x2 : List Nat) : s.ack.pdMatch x0 x1 x2 = s.pdMatch x0 x1 x2 := rfl
@[simp] theorem ack_pdTimer (x0 : Nat) : s.ack.pdTimer x0 = s.pdTimer x0 := rfl
@[simp] theorem ack_peTimer (x0 : Nat) : s.ack.peTimer x0 = s.peTimer x0 := rfl
@[simp] theorem ack_pend (x0 : Nat) : s.ack.pend x0 = s.pend x0 := rfl
@[simp] theorem ack_pending : s.ack.pending = s.pending := rfl
@[simp] theorem ack_phase (x0 : Nat) : s.ack.phase x0 = s.phase x0 := rfl
@[simp] theorem ack_pickQueue (x0 : Nat) : s.ack.pickQueue x0 = s.pickQueue x0 := rfl
@[simp] theorem ack_pinned (x0 : Nat) : s.ack.pinned x0 = s.pinned x0 := rfl
@[simp] theorem ack_plainRead (x0 : Nat) (x1 : Nat) : s.ack.plainRead x0 x1 = s.plainRead x0 x1 := rfl
@[simp] theorem ack_pmc : s.ack.pmc = s.pmc := rfl
@[simp] theorem ack_pmcCheck (x0 : Nat) : s.ack.pmcCheck x0 = s.pmcCheck x0 := rfl
@[simp] theorem ack_pmcLane (x0 : Nat) (x1 : Nat) : s.ack.pmcLane x0 x1 = s.pmcLane x0 x1 := rfl
@[simp] theorem ack_pmcMode (x0 : Nat) (x1 : Nat) (x2 : Nat) : s.ack.pmcMode x0 x1 x2 = s.pmcMode x0 x1 x2 := rfl
@[simp] theorem ack_pmcRuns (x0 : Nat) (x1 : Nat) : s.ack.pmcRuns x0 x1 = s.pmcRuns x0 x1 := rfl
@[simp] theorem ack_pmcT (x0 : Nat) : s.ack.pmcT x0 = s.pmcT x0 := rfl
@[simp] theorem ack_poisoned (x0 : Nat) (x1 : Nat) : s.ack.poisoned x0 x1 = s.poisoned x0 x1 := rfl
@[simp] theorem ack_portCheck (x0 : Nat) : s.ack.portCheck x0 = s.portCheck x0 := rfl
@[simp] theorem ack_pre : s.ack.pre = s.pre := rfl
@[simp] theorem ack_preFlags : s.ack.preFlags = s.preFlags := rfl
@[simp] theorem ack_preGroup : s.ack.preGroup = s.preGroup := rfl
@[simp] theorem ack_preMemOpen (x0 : Nat) : s.ack.preMemOpen x0 = s.preMemOpen x0 := rfl
@[simp] theorem ack_preOut (x0 : Nat) : s.ack.preOut x0 = s.preOut x0 := rfl
@[simp] theorem ack_preSrc (x0 : MapEnt) : s.ack.preSrc x0 = s.preSrc x0 := rfl
@[simp] theorem ack_precise : s.ack.precise = s.precise := rfl
@[simp] theorem ack_prepared (x0 : Nat) : s.ack.prepared x0 = s.prepared x0 := rfl
@[simp] theorem ack_present (x0 : Nat) : s.ack.present x0 = s.present x0 := rfl
@[simp] theorem ack_pressValid (x0 : Nat) (x1 : Nat) (x2 : Nat × Nat × Nat) : s.ack.pressValid x0 x1 x2 = s.pressValid x0 x1 x2 := rfl
@[simp] theorem ack_prim : s.ack.prim = s.prim := rfl
@[simp] theorem ack_primIn : s.ack.primIn = s.primIn := rfl
@[simp] theorem ack_primOut : s.ack.primOut = s.primOut := rfl
@[simp] theorem ack_probation : s.ack.probation = s.probation := rfl
@[simp] theorem ack_prpMode : s.ack.prpMode = s.prpMode := rfl
@[simp] theorem ack_pstate (x0 : Nat) : s.ack.pstate x0 = s.pstate x0 := rfl
@[simp] theorem ack_ptpEvent (x0 : List Nat) : s.ack.ptpEvent x0 = s.ptpEvent x0 := rfl
@[simp] theorem ack_ptpMode : s.ack.ptpMode = s.ptpMode := rfl
@[simp] theorem ack_ptpType (x0 : List Nat) : s.ack.ptpType x0 = s.ptpType x0 := rfl
@[simp] theorem ack_pulseTicks (x0 : Nat) : s.ack.pulseTicks x0 = s.pulseTicks x0 := rfl
@[simp] theorem ack_pwmBad (x0 : Nat) (x1 : Bool) : s.ack.pwmBad x0 x1 = s.pwmBad x0 x1 := rfl
@[simp] theorem ack_pwmBegin (x0 : Nat) : s.ack.pwmBegin x0 = s.pwmBegin x0 := rfl
@[simp] theorem ack_pwmIn (x0 : Nat) : s.ack.pwmIn x0 = s.pwmIn x0 := rfl
@[simp] theorem ack_pwmPer (x0 : Nat) : s.ack.pwmPer x0 = s.pwmPer x0 := rfl
@[simp] theorem ack_pwmPoint (x0 : Nat) (x1 : Nat) : s.ack.pwmPoint x0 x1 = s.pwmPoint x0 x1 := rfl
@[simp] theorem ack_pwrCheck (x0 : Nat) : s.ack.pwrCheck x0 = s.pwrCheck x0 := rfl
@[simp] theorem ack_quarterOf (x0 : Nat) : s.ack.quarterOf x0 = s.quarterOf x0 := rfl
@[simp] theorem ack_queueBytes (x0 : List EthItem) : s.ack.queueBytes x0 = s.queueBytes x0 := rfl
@[simp] theorem ack_raised (x0 : Nat) : s.ack.raised x0 = s.raised x0 := rfl
@[simp] theorem ack_rate : s.ack.rate = s.rate := rfl
@[simp] theorem ack_rateOp (x0 : Nat) (x1 : Rat) : s.ack.rateOp x0 x1 = s.rateOp x0 x1 := rfl
@[simp] theorem ack_rateRs (x0 : Nat) (x1 : Rat) : s.ack.rateRs x0 x1 = s.rateRs x0 x1 := rfl
@[simp] theorem ack_rbAt (x0 : Nat) (x1 : Nat) : s.ack.rbAt x0 x1 = s.rbAt x0 x1 := rfl
@[simp] theorem ack_rbDly (x0 : Nat) : s.ack.rbDly x0 = s.rbDly x0 := rfl
@[simp] theorem ack_rbLev (x0 : Nat) : s.ack.rbLev x0 = s.rbLev x0 := rfl
@[simp] theorem ack_rbLong (x0 : Nat) : s.ack.rbLong x0 = s.rbLong x0 := rfl
@[simp] theorem ack_rbOpen (x0 : Nat) : s.ack.rbOpen x0 = s.rbOpen x0 := rfl
@[simp] theorem ack_rblev (x0 : Nat) : s.ack.rblev x0 = s.rblev x0 := rfl
@[simp] theorem ack_rd (x0 : Nat) : s.ack.rd x0 = s.rd x0 := rfl
@[simp] theorem ack_rd64 (x0 : Nat) : s.ack.rd64 x0 = s.rd64 x0 := rfl
@[simp] theorem ack_rdn : s.ack.rdn = s.rdn := rfl
@[simp] theorem ack_rdnCheck (x0 : Nat) : s.ack.rdnCheck x0 = s.rdnCheck x0 := rfl
@[simp] theorem ack_recCheck (x0 : Nat) : s.ack.recCheck x0 = s.recCheck x0 := rfl
@[simp] theorem ack_refuseNow : s.ack.refuseNow = s.refuseNow := rfl
@[simp] theorem ack_regGet (x0 : Nat) : s.ack.regGet x0 = s.regGet x0 := rfl
@[simp] theorem ack_regs : s.ack.regs = s.regs := rfl
@[simp] theorem ack_reintBoundary (x0 : Nat) : s.ack.reintBoundary x0 = s.reintBoundary x0 := rfl
@[simp] theorem ack_reintCnt (x0 : Nat) : s.ack.reintCnt x0 = s.reintCnt x0 := rfl
@[simp] theorem ack_reintCount (x0 : Nat) (x1 : Nat) : s.ack.reintCount x0 x1 = s.reintCount x0 x1 := rfl
@[simp] theorem ack_reintRuns (x0 : Nat) : s.ack.reintRuns x0 = s.reintRuns x0 := rfl
@[simp] theorem ack_replicaWords : s.ack.replicaWords = s.replicaWords := rfl
@[simp] theorem ack_reqStart (x0 : Nat) : s.ack.reqStart x0 = s.reqStart x0 := rfl
@[simp] theorem ack_resetKeeps (x0 : Nat) : s.ack.resetKeeps x0 = s.resetKeeps x0 := rfl
@[simp] theorem ack_retNow (x0 : Nat) (x1 : CycImg) : s.ack.retNow x0 x1 = s.retNow x0 x1 := rfl
@[simp] theorem ack_retPoison (x0 : Nat) (x1 : Nat) : s.ack.retPoison x0 x1 = s.retPoison x0 x1 := rfl
@[simp] theorem ack_retainSum (x0 : Nat) (x1 : CycImg) : s.ack.retainSum x0 x1 = s.retainSum x0 x1 := rfl
@[simp] theorem ack_retainTotal : s.ack.retainTotal = s.retainTotal := rfl
@[simp] theorem ack_rhalf (x0 : Nat) : s.ack.rhalf x0 = s.rhalf x0 := rfl
@[simp] theorem ack_ringOk (x0 : Nat) (x1 : Nat) : s.ack.ringOk x0 x1 = s.ringOk x0 x1 := rfl
@[simp] theorem ack_ringOut (x0 : Nat) (x1 : Nat) (x2 : Option Nat) (x3 : List Nat) : s.ack.ringOut x0 x1 x2 x3 = s.ringOut x0 x1 x2 x3 := rfl
@[simp] theorem ack_ringPart (x0 : Nat) : s.ack.ringPart x0 = s.ringPart x0 := rfl
@[simp] theorem ack_ringSize (x0 : Nat) : s.ack.ringSize x0 = s.ringSize x0 := rfl
@[simp] theorem ack_routed (x0 : Nat) (x1 : Nat) : s.ack.routed x0 x1 = s.routed x0 x1 := rfl
@[simp] theorem ack_rstinSecs : s.ack.rstinSecs = s.rstinSecs := rfl
@[simp] theorem ack_runStage (x0 : Nat) (x1 : Nat) (x2 : Bool) (x3 : List Nat) (x4 : Nat) : s.ack.runStage x0 x1 x2 x3 x4 = s.runStage x0 x1 x2 x3 x4 := rfl
@[simp] theorem ack_rwOpen (x0 : Nat) (x1 : Nat) : s.ack.rwOpen x0 x1 = s.rwOpen x0 x1 := rfl
@[simp] theorem ack_rwlOk (x0 : Nat) (x1 : Nat) : s.ack.rwlOk x0 x1 = s.rwlOk x0 x1 := rfl
@[simp] theorem ack_rxEntries (x0 : List Nat) (x1 : Nat) : s.ack.rxEntries x0 x1 = s.rxEntries x0 x1 := rfl
@[simp] theorem ack_rxd (x0 : List Nat) (x1 : Nat) (x2 : Nat) : s.ack.rxd x0 x1 x2 = s.rxd x0 x1 x2 := rfl
@[simp] theorem ack_rxmap (x0 : Nat) (x1 : Nat) : s.ack.rxmap x0 x1 = s.rxmap x0 x1 := rfl
@[simp] theorem ack_rxqCount (x0 : Nat) : s.ack.rxqCount x0 = s.rxqCount x0 := rfl
@[simp] theorem ack_rxqHead (x0 : Nat) : s.ack.rxqHead x0 = s.rxqHead x0 := rfl
@[simp] theorem ack_rxqUpTo (x0 : Nat) (x1 : Nat) : s.ack.rxqUpTo x0 x1 = s.rxqUpTo x0 x1 := rfl
@[simp] theorem ack_sampleB32 (x0 : Nat) (x1 : Nat) : s.ack.sampleB32 x0 x1 = s.sampleB32 x0 x1 := rfl
@[simp] theorem ack_sar : s.ack.sar = s.sar := rfl
@[simp] theorem ack_sarC (x0 : Nat) : s.ack.sarC x0 = s.sarC x0 := rfl
@[simp] theorem ack_sarCheck (x0 : Nat) : s.ack.sarCheck x0 = s.sarCheck x0 := rfl
@[simp] theorem ack_sarDelay (x0 : Nat) (x1 : Nat) : s.ack.sarDelay x0 x1 = s.sarDelay x0 x1 := rfl
@[simp] theorem ack_sarDue (x0 : Nat) : s.ack.sarDue x0 = s.sarDue x0 := rfl
@[simp] theorem ack_sarFbto (x0 : Nat) : s.ack.sarFbto x0 = s.sarFbto x0 := rfl
@[simp] theorem ack_sarItem (x0 : Nat) (x1 : Nat) (x2 : Nat) : s.ack.sarItem x0 x1 x2 = s.sarItem x0 x1 x2 := rfl
@[simp] theorem ack_sarLine (x0 : Nat) : s.ack.sarLine x0 = s.sarLine x0 := rfl
@[simp] theorem ack_sarMark (x0 : Nat) : s.ack.sarMark x0 = s.sarMark x0 := rfl
@[simp] theorem ack_sarMode (x0 : Nat) : s.ack.sarMode x0 = s.sarMode x0 := rfl
@[simp] theorem ack_sarNext (x0 : Nat) (x1 : Nat) : s.ack.sarNext x0 x1 = s.sarNext x0 x1 := rfl
@[simp] theorem ack_sarReady (x0 : Nat) : s.ack.sarReady x0 = s.sarReady x0 := rfl
@[simp] theorem ack_sarSeen (x0 : Nat) : s.ack.sarSeen x0 = s.sarSeen x0 := rfl
@[simp] theorem ack_sarSrc (x0 : MapEnt) : s.ack.sarSrc x0 = s.sarSrc x0 := rfl
@[simp] theorem ack_sarTimer (x0 : Nat) : s.ack.sarTimer x0 = s.sarTimer x0 := rfl
@[simp] theorem ack_sarTrigSel (x0 : Nat) : s.ack.sarTrigSel x0 = s.sarTrigSel x0 := rfl
@[simp] theorem ack_sarTrim (x0 : Nat) : s.ack.sarTrim x0 = s.sarTrim x0 := rfl
@[simp] theorem ack_saveVersion (x0 : Nat) (x1 : CycImg) : s.ack.saveVersion x0 x1 = s.saveVersion x0 x1 := rfl
@[simp] theorem ack_scaled (x0 : Nat) (x1 : Int) : s.ack.scaled x0 x1 = s.scaled x0 x1 := rfl
@[simp] theorem ack_scanList : s.ack.scanList = s.scanList := rfl
@[simp] theorem ack_scanPer : s.ack.scanPer = s.scanPer := rfl
@[simp] theorem ack_scrubPart (x0 : Nat) : s.ack.scrubPart x0 = s.scrubPart x0 := rfl
@[simp] theorem ack_seList : s.ack.seList = s.seList := rfl
@[simp] theorem ack_seOf (x0 : Nat) : s.ack.seOf x0 = s.seOf x0 := rfl
@[simp] theorem ack_secSince (x0 : Nat) (x1 : Nat) : s.ack.secSince x0 x1 = s.secSince x0 x1 := rfl
@[simp] theorem ack_semap (x0 : Nat) : s.ack.semap x0 = s.semap x0 := rfl
@[simp] theorem ack_sentForm (x0 : Nat) (x1 : EthItem) (x2 : Nat) : s.ack.sentForm x0 x1 x2 = s.sentForm x0 x1 x2 := rfl
@[simp] theorem ack_seqStart (x0 : Nat) (x1 : SarPass) : s.ack.seqStart x0 x1 = s.seqStart x0 x1 := rfl
@[simp] theorem ack_servoOn : s.ack.servoOn = s.servoOn := rfl
@[simp] theorem ack_session : s.ack.session = s.session := rfl
@[simp] theorem ack_sestat (x0 : Nat) : s.ack.sestat x0 = s.sestat x0 := rfl
@[simp] theorem ack_sfn : s.ack.sfn = s.sfn := rfl
@[simp] theorem ack_sfnAnyFault : s.ack.sfnAnyFault = s.sfnAnyFault := rfl
@[simp] theorem ack_sfnBoth (x0 : Nat) (x1 : Nat) : s.ack.sfnBoth x0 x1 = s.sfnBoth x0 x1 := rfl
@[simp] theorem ack_sfnCause (x0 : Nat) (x1 : Nat) : s.ack.sfnCause x0 x1 = s.sfnCause x0 x1 := rfl
@[simp] theorem ack_sfnCheck (x0 : List Nat) (x1 : Nat) : s.ack.sfnCheck x0 x1 = s.sfnCheck x0 x1 := rfl
@[simp] theorem ack_sfnCount : s.ack.sfnCount = s.sfnCount := rfl
@[simp] theorem ack_sfnDemand (x0 : Nat) (x1 : Nat) : s.ack.sfnDemand x0 x1 = s.sfnDemand x0 x1 := rfl
@[simp] theorem ack_sfnDiscrep (x0 : Nat) (x1 : Nat) : s.ack.sfnDiscrep x0 x1 = s.sfnDiscrep x0 x1 := rfl
@[simp] theorem ack_sfnDown (x0 : Nat) (x1 : Nat) : s.ack.sfnDown x0 x1 = s.sfnDown x0 x1 := rfl
@[simp] theorem ack_sfnDue : s.ack.sfnDue = s.sfnDue := rfl
@[simp] theorem ack_sfnEdm (x0 : Nat) (x1 : Nat) : s.ack.sfnEdm x0 x1 = s.sfnEdm x0 x1 := rfl
@[simp] theorem ack_sfnFn (x0 : Nat) : s.ack.sfnFn x0 = s.sfnFn x0 := rfl
@[simp] theorem ack_sfnHealthy (x0 : Nat) (x1 : Nat) (x2 : Nat) : s.ack.sfnHealthy x0 x1 x2 = s.sfnHealthy x0 x1 x2 := rfl
@[simp] theorem ack_sfnIn (x0 : Nat) (x1 : Nat) : s.ack.sfnIn x0 x1 = s.sfnIn x0 x1 := rfl
@[simp] theorem ack_sfnInput (x0 : Nat) : s.ack.sfnInput x0 = s.sfnInput x0 := rfl
@[simp] theorem ack_sfnInputs (x0 : Nat) : s.ack.sfnInputs x0 = s.sfnInputs x0 := rfl
@[simp] theorem ack_sfnItem : s.ack.sfnItem = s.sfnItem := rfl
@[simp] theorem ack_sfnLevel (x0 : Nat) (x1 : Nat) : s.ack.sfnLevel x0 x1 = s.sfnLevel x0 x1 := rfl
@[simp] theorem ack_sfnOffSince (x0 : Nat) : s.ack.sfnOffSince x0 = s.sfnOffSince x0 := rfl
@[simp] theorem ack_sfnOn : s.ack.sfnOn = s.sfnOn := rfl
@[simp] theorem ack_sfnOuts (x0 : List Nat) (x1 : Nat) : s.ack.sfnOuts x0 x1 = s.sfnOuts x0 x1 := rfl
@[simp] theorem ack_sfnPairs (x0 : Nat) : s.ack.sfnPairs x0 = s.sfnPairs x0 := rfl
@[simp] theorem ack_sfnRange (x0 : List Nat) (x1 : Nat) : s.ack.sfnRange x0 x1 = s.sfnRange x0 x1 := rfl
@[simp] theorem ack_sfnRelease (x0 : Nat) : s.ack.sfnRelease x0 = s.sfnRelease x0 := rfl
@[simp] theorem ack_sfnSrc (x0 : MapEnt) : s.ack.sfnSrc x0 = s.sfnSrc x0 := rfl
@[simp] theorem ack_sfnState (x0 : Nat) : s.ack.sfnState x0 = s.sfnState x0 := rfl
@[simp] theorem ack_sfnStuck (x0 : Nat) (x1 : Nat) : s.ack.sfnStuck x0 x1 = s.sfnStuck x0 x1 := rfl
@[simp] theorem ack_sfnSync (x0 : Nat) (x1 : Nat) : s.ack.sfnSync x0 x1 = s.sfnSync x0 x1 := rfl
@[simp] theorem ack_sfnTouched (x0 : List Nat) (x1 : Nat) : s.ack.sfnTouched x0 x1 = s.sfnTouched x0 x1 := rfl
@[simp] theorem ack_sfnTrace : s.ack.sfnTrace = s.sfnTrace := rfl
@[simp] theorem ack_sfnType (x0 : Nat) : s.ack.sfnType x0 = s.sfnType x0 := rfl
@[simp] theorem ack_sfnXconn (x0 : Nat) : s.ack.sfnXconn x0 = s.sfnXconn x0 := rfl
@[simp] theorem ack_sh (x0 : Nat) : s.ack.sh x0 = s.sh x0 := rfl
@[simp] theorem ack_sh64 (x0 : Nat) : s.ack.sh64 x0 = s.sh64 x0 := rfl
@[simp] theorem ack_shBit (x0 : Nat) (x1 : Nat) : s.ack.shBit x0 x1 = s.shBit x0 x1 := rfl
@[simp] theorem ack_shFld (x0 : Nat) (x1 : Nat) (x2 : Nat) : s.ack.shFld x0 x1 x2 = s.shFld x0 x1 x2 := rfl
@[simp] theorem ack_shadow : s.ack.shadow = s.shadow := rfl
@[simp] theorem ack_sinkOk (x0 : MapEnt) (x1 : List Nat) : s.ack.sinkOk x0 x1 = s.sinkOk x0 x1 := rfl
@[simp] theorem ack_siteB : s.ack.siteB = s.siteB := rfl
@[simp] theorem ack_slot (x0 : Nat) : s.ack.slot x0 = s.slot x0 := rfl
@[simp] theorem ack_slot3 (x0 : Nat) : s.ack.slot3 x0 = s.slot3 x0 := rfl
@[simp] theorem ack_slotActive : s.ack.slotActive = s.slotActive := rfl
@[simp] theorem ack_slotFallback : s.ack.slotFallback = s.slotFallback := rfl
@[simp] theorem ack_slotNum (x0 : Nat) (x1 : Nat) (x2 : Nat) : s.ack.slotNum x0 x1 x2 = s.slotNum x0 x1 x2 := rfl
@[simp] theorem ack_slotRec (x0 : Nat) (x1 : Nat) : s.ack.slotRec x0 x1 = s.slotRec x0 x1 := rfl
@[simp] theorem ack_slotStaging : s.ack.slotStaging = s.slotStaging := rfl
@[simp] theorem ack_snkOk (x0 : MapEnt) : s.ack.snkOk x0 = s.snkOk x0 := rfl
@[simp] theorem ack_spc : s.ack.spc = s.spc := rfl
@[simp] theorem ack_spellOver (x0 : Nat) (x1 : Nat) (x2 : Nat) (x3 : Bool) : s.ack.spellOver x0 x1 x2 x3 = s.spellOver x0 x1 x2 x3 := rfl
@[simp] theorem ack_split (x0 : Nat) : s.ack.split x0 = s.split x0 := rfl
@[simp] theorem ack_sramLanes (x0 : Init) : s.ack.sramLanes x0 = s.sramLanes x0 := rfl
@[simp] theorem ack_sramRead (x0 : Bool) (x1 : Nat) (x2 : Nat) (x3 : Nat) : s.ack.sramRead x0 x1 x2 x3 = s.sramRead x0 x1 x2 x3 := rfl
@[simp] theorem ack_srcHigh (x0 : MapEnt) : s.ack.srcHigh x0 = s.srcHigh x0 := rfl
@[simp] theorem ack_srcLate (x0 : CycP) (x1 : Nat) (x2 : List Nat × Nat × Nat) (x3 : Nat) : s.ack.srcLate x0 x1 x2 x3 = s.srcLate x0 x1 x2 x3 := rfl
@[simp] theorem ack_srcLow (x0 : MapEnt) (x1 : Nat) : s.ack.srcLow x0 x1 = s.srcLow x0 x1 := rfl
@[simp] theorem ack_srcNow (x0 : MapEnt) (x1 : Nat) : s.ack.srcNow x0 x1 = s.srcNow x0 x1 := rfl
@[simp] theorem ack_srcOk (x0 : MapEnt) : s.ack.srcOk x0 = s.srcOk x0 := rfl
@[simp] theorem ack_srcQual (x0 : Nat) (x1 : MapEnt) (x2 : Nat) (x3 : Nat) (x4 : Nat) : s.ack.srcQual x0 x1 x2 x3 x4 = s.srcQual x0 x1 x2 x3 x4 := rfl
@[simp] theorem ack_srcValid (x0 : Nat) (x1 : Nat) : s.ack.srcValid x0 x1 = s.srcValid x0 x1 := rfl
@[simp] theorem ack_ssi (x0 : Nat) : s.ack.ssi x0 = s.ssi x0 := rfl
@[simp] theorem ack_ssiBits (x0 : Nat) : s.ack.ssiBits x0 = s.ssiBits x0 := rfl
@[simp] theorem ack_ssiOk (x0 : Nat) : s.ack.ssiOk x0 = s.ssiOk x0 := rfl
@[simp] theorem ack_ssiPos (x0 : Nat) (x1 : Nat) : s.ack.ssiPos x0 x1 = s.ssiPos x0 x1 := rfl
@[simp] theorem ack_ssiWord (x0 : Nat) (x1 : Nat) : s.ack.ssiWord x0 x1 = s.ssiWord x0 x1 := rfl
@[simp] theorem ack_stage : s.ack.stage = s.stage := rfl
@[simp] theorem ack_stageUpd : s.ack.stageUpd = s.stageUpd := rfl
@[simp] theorem ack_stamp (x0 : Nat) : s.ack.stamp x0 = s.stamp x0 := rfl
@[simp] theorem ack_stampAt (x0 : Nat) (x1 : Nat) : s.ack.stampAt x0 x1 = s.stampAt x0 x1 := rfl
@[simp] theorem ack_strobe (x0 : Nat) : s.ack.strobe x0 = s.strobe x0 := rfl
@[simp] theorem ack_strobeAt (x0 : Strobe) : s.ack.strobeAt x0 = s.strobeAt x0 := rfl
@[simp] theorem ack_strobeNext (x0 : Nat) (x1 : Nat) : s.ack.strobeNext x0 x1 = s.strobeNext x0 x1 := rfl
@[simp] theorem ack_strobed (x0 : Nat) (x1 : Nat) : s.ack.strobed x0 x1 = s.strobed x0 x1 := rfl
@[simp] theorem ack_strobes (x0 : Nat) : s.ack.strobes x0 = s.strobes x0 := rfl
@[simp] theorem ack_svcIp : s.ack.svcIp = s.svcIp := rfl
@[simp] theorem ack_svcOn : s.ack.svcOn = s.svcOn := rfl
@[simp] theorem ack_sys : s.ack.sys = s.sys := rfl
@[simp] theorem ack_takeLanes : s.ack.takeLanes = s.takeLanes := rfl
@[simp] theorem ack_takeSet : s.ack.takeSet = s.takeSet := rfl
@[simp] theorem ack_targets (x0 : Nat) : s.ack.targets x0 = s.targets x0 := rfl
@[simp] theorem ack_tauAA : s.ack.tauAA = s.tauAA := rfl
@[simp] theorem ack_ten : s.ack.ten = s.ten := rfl
@[simp] theorem ack_textOk (x0 : Nat) (x1 : Nat) (x2 : Nat) : s.ack.textOk x0 x1 x2 = s.textOk x0 x1 x2 := rfl
@[simp] theorem ack_threeStarts : s.ack.threeStarts = s.threeStarts := rfl
@[simp] theorem ack_tickCross (x0 : Nat) : s.ack.tickCross x0 = s.tickCross x0 := rfl
@[simp] theorem ack_tickSpan (x0 : Nat) : s.ack.tickSpan x0 = s.tickSpan x0 := rfl
@[simp] theorem ack_ticks : s.ack.ticks = s.ticks := rfl
@[simp] theorem ack_ticksBack (x0 : Nat) : s.ack.ticksBack x0 = s.ticksBack x0 := rfl
@[simp] theorem ack_timeAt (x0 : Nat) : s.ack.timeAt x0 = s.timeAt x0 := rfl
@[simp] theorem ack_timeLocked : s.ack.timeLocked = s.timeLocked := rfl
@[simp] theorem ack_timeOk (x0 : Nat) : s.ack.timeOk x0 = s.timeOk x0 := rfl
@[simp] theorem ack_tmb : s.ack.tmb = s.tmb := rfl
@[simp] theorem ack_tmbCheck (x0 : Nat) : s.ack.tmbCheck x0 = s.tmbCheck x0 := rfl
@[simp] theorem ack_tokenGood (x0 : List Nat) : s.ack.tokenGood x0 = s.tokenGood x0 := rfl
@[simp] theorem ack_tpAt (x0 : Nat) : s.ack.tpAt x0 = s.tpAt x0 := rfl
@[simp] theorem ack_tpDue (x0 : Nat) : s.ack.tpDue x0 = s.tpDue x0 := rfl
@[simp] theorem ack_tpIn (x0 : Nat) : s.ack.tpIn x0 = s.tpIn x0 := rfl
@[simp] theorem ack_tpPer (x0 : Nat) : s.ack.tpPer x0 = s.tpPer x0 := rfl
@[simp] theorem ack_trEdges (x0 : DrcTick) (x1 : Nat) (x2 : Bool) : s.ack.trEdges x0 x1 x2 = s.trEdges x0 x1 x2 := rfl
@[simp] theorem ack_trSel : s.ack.trSel = s.trSel := rfl
@[simp] theorem ack_trace (x0 : SampleSet) (x1 : List Nat) (x2 : Nat) : s.ack.trace x0 x1 x2 = s.trace x0 x1 x2 := rfl
@[simp] theorem ack_tri : s.ack.tri = s.tri := rfl
@[simp] theorem ack_triCheck (x0 : Nat) : s.ack.triCheck x0 = s.triCheck x0 := rfl
@[simp] theorem ack_triMode (x0 : Nat) : s.ack.triMode x0 = s.triMode x0 := rfl
@[simp] theorem ack_triT (x0 : Nat) : s.ack.triT x0 = s.triT x0 := rfl
@[simp] theorem ack_triadOf (x0 : Nat) : s.ack.triadOf x0 = s.triadOf x0 := rfl
@[simp] theorem ack_tripBrks (x0 : Nat) : s.ack.tripBrks x0 = s.tripBrks x0 := rfl
@[simp] theorem ack_tsInside (x0 : Nat) (x1 : Nat) : s.ack.tsInside x0 x1 = s.tsInside x0 x1 := rfl
@[simp] theorem ack_tsrc : s.ack.tsrc = s.tsrc := rfl
@[simp] theorem ack_tstart : s.ack.tstart = s.tstart := rfl
@[simp] theorem ack_tstate : s.ack.tstate = s.tstate := rfl
@[simp] theorem ack_ttCorr (x0 : Nat) (x1 : Nat) (x2 : TtRef) : s.ack.ttCorr x0 x1 x2 = s.ttCorr x0 x1 x2 := rfl
@[simp] theorem ack_ttErr (x0 : Nat) : s.ack.ttErr x0 = s.ttErr x0 := rfl
@[simp] theorem ack_ttLen (x0 : Nat) : s.ack.ttLen x0 = s.ttLen x0 := rfl
@[simp] theorem ack_ttListOk (x0 : List Nat) (x1 : Nat) : s.ack.ttListOk x0 x1 = s.ttListOk x0 x1 := rfl
@[simp] theorem ack_ttNext (x0 : Nat) : s.ack.ttNext x0 = s.ttNext x0 := rfl
@[simp] theorem ack_ttOn (x0 : Nat) : s.ack.ttOn x0 = s.ttOn x0 := rfl
@[simp] theorem ack_ttOwnData (x0 : Nat) (x1 : Nat) (x2 : Nat) (x3 : Nat) : s.ack.ttOwnData x0 x1 x2 x3 = s.ttOwnData x0 x1 x2 x3 := rfl
@[simp] theorem ack_ttOwnId (x0 : Nat) : s.ack.ttOwnId x0 = s.ttOwnId x0 := rfl
@[simp] theorem ack_ttSync (x0 : Nat) : s.ack.ttSync x0 = s.ttSync x0 := rfl
@[simp] theorem ack_ttTime (x0 : Nat) : s.ack.ttTime x0 = s.ttTime x0 := rfl
@[simp] theorem ack_ttTimeAt (x0 : Nat) (x1 : Nat) : s.ack.ttTimeAt x0 x1 = s.ttTimeAt x0 x1 := rfl
@[simp] theorem ack_ttWatch (x0 : Nat) : s.ack.ttWatch x0 = s.ttWatch x0 := rfl
@[simp] theorem ack_txBest (x0 : Nat) : s.ack.txBest x0 = s.txBest x0 := rfl
@[simp] theorem ack_txBusy (x0 : Nat) : s.ack.txBusy x0 = s.txBusy x0 := rfl
@[simp] theorem ack_txData (x0 : Nat) (x1 : Nat) : s.ack.txData x0 x1 = s.txData x0 x1 := rfl
@[simp] theorem ack_txDlc (x0 : Nat) (x1 : Nat) : s.ack.txDlc x0 x1 = s.txDlc x0 x1 := rfl
@[simp] theorem ack_txFd (x0 : Nat) (x1 : Nat) : s.ack.txFd x0 x1 = s.txFd x0 x1 := rfl
@[simp] theorem ack_txLive (x0 : Nat) : s.ack.txLive x0 = s.txLive x0 := rfl
@[simp] theorem ack_txMapped (x0 : Nat) (x1 : Nat) : s.ack.txMapped x0 x1 = s.txMapped x0 x1 := rfl
@[simp] theorem ack_txOk (x0 : List Nat) (x1 : Nat) (x2 : Nat) : s.ack.txOk x0 x1 x2 = s.txOk x0 x1 x2 := rfl
@[simp] theorem ack_txOn (x0 : Nat) (x1 : Nat) : s.ack.txOn x0 x1 = s.txOn x0 x1 := rfl
@[simp] theorem ack_txReady (x0 : Nat) : s.ack.txReady x0 = s.txReady x0 := rfl
@[simp] theorem ack_txSeen (x0 : Nat) (x1 : Nat) : s.ack.txSeen x0 x1 = s.txSeen x0 x1 := rfl
@[simp] theorem ack_txTail (x0 : Nat) : s.ack.txTail x0 = s.txTail x0 := rfl
@[simp] theorem ack_txTimer (x0 : Nat) (x1 : Nat) : s.ack.txTimer x0 x1 = s.txTimer x0 x1 := rfl
@[simp] theorem ack_txTrig (x0 : Nat) (x1 : Nat) : s.ack.txTrig x0 x1 = s.txTrig x0 x1 := rfl
@[simp] theorem ack_unfenced (x0 : Nat) : s.ack.unfenced x0 = s.unfenced x0 := rfl
@[simp] theorem ack_upd : s.ack.upd = s.upd := rfl
@[simp] theorem ack_updKept : s.ack.updKept = s.updKept := rfl
@[simp] theorem ack_updReset : s.ack.updReset = s.updReset := rfl
@[simp] theorem ack_updWindow (x0 : Nat) (x1 : Nat) (x2 : Nat) : s.ack.updWindow x0 x1 x2 = s.updWindow x0 x1 x2 := rfl
@[simp] theorem ack_usAt (x0 : Nat) : s.ack.usAt x0 = s.usAt x0 := rfl
@[simp] theorem ack_usSince (x0 : Nat) (x1 : Nat) : s.ack.usSince x0 x1 = s.usSince x0 x1 := rfl
@[simp] theorem ack_utcDay : s.ack.utcDay = s.utcDay := rfl
@[simp] theorem ack_utcNow : s.ack.utcNow = s.utcNow := rfl
@[simp] theorem ack_utcTxt (x0 : Nat) : s.ack.utcTxt x0 = s.utcTxt x0 := rfl
@[simp] theorem ack_uv : s.ack.uv = s.uv := rfl
@[simp] theorem ack_vact (x0 : Nat) : s.ack.vact x0 = s.vact x0 := rfl
@[simp] theorem ack_vlanEntry (x0 : Nat) : s.ack.vlanEntry x0 = s.vlanEntry x0 := rfl
@[simp] theorem ack_vlanOf (x0 : Nat) (x1 : List Nat) : s.ack.vlanOf x0 x1 = s.vlanOf x0 x1 := rfl
@[simp] theorem ack_vnext (x0 : Nat) : s.ack.vnext x0 = s.vnext x0 := rfl
@[simp] theorem ack_voted (x0 : Nat) : s.ack.voted x0 = s.voted x0 := rfl
@[simp] theorem ack_votes (x0 : Nat) : s.ack.votes x0 = s.votes x0 := rfl
@[simp] theorem ack_vpend (x0 : Nat) : s.ack.vpend x0 = s.vpend x0 := rfl
@[simp] theorem ack_wBase (x0 : Nat) : s.ack.wBase x0 = s.wBase x0 := rfl
@[simp] theorem ack_wEn (x0 : Nat) : s.ack.wEn x0 = s.wEn x0 := rfl
@[simp] theorem ack_wKind (x0 : Nat) : s.ack.wKind x0 = s.wKind x0 := rfl
@[simp] theorem ack_wOwner (x0 : Nat) : s.ack.wOwner x0 = s.wOwner x0 := rfl
@[simp] theorem ack_wSize (x0 : Nat) : s.ack.wSize x0 = s.wSize x0 := rfl
@[simp] theorem ack_wW (x0 : Nat) : s.ack.wW x0 = s.wW x0 := rfl
@[simp] theorem ack_wX (x0 : Nat) : s.ack.wX x0 = s.wX x0 := rfl
@[simp] theorem ack_wakeCfg (x0 : Nat) : s.ack.wakeCfg x0 = s.wakeCfg x0 := rfl
@[simp] theorem ack_winAllows (x0 : Nat) (x1 : Nat) (x2 : Want) : s.ack.winAllows x0 x1 x2 = s.winAllows x0 x1 x2 := rfl
@[simp] theorem ack_winBad (x0 : Nat) : s.ack.winBad x0 = s.winBad x0 := rfl
@[simp] theorem ack_winGet (x0 : Nat) (x1 : Nat) (x2 : Nat) (x3 : Nat) : s.ack.winGet x0 x1 x2 x3 = s.winGet x0 x1 x2 x3 := rfl
@[simp] theorem ack_winOfs (x0 : Nat) (x1 : Nat) : s.ack.winOfs x0 x1 = s.winOfs x0 x1 := rfl
@[simp] theorem ack_winSize (x0 : Nat) (x1 : Nat) : s.ack.winSize x0 x1 = s.winSize x0 x1 := rfl
@[simp] theorem ack_windowAt (x0 : Nat) : s.ack.windowAt x0 = s.windowAt x0 := rfl
@[simp] theorem ack_windowOf (x0 : Nat) (x1 : Nat) : s.ack.windowOf x0 x1 = s.windowOf x0 x1 := rfl
@[simp] theorem ack_windows : s.ack.windows = s.windows := rfl
@[simp] theorem ack_xconn (x0 : Nat) : s.ack.xconn x0 = s.xconn x0 := rfl
@[simp] theorem ack_xwinOf (x0 : Nat) : s.ack.xwinOf x0 = s.xwinOf x0 := rfl
@[simp] theorem ack_zDiff (x0 : Nat) (x1 : Nat) (x2 : Nat) : s.ack.zDiff x0 x1 x2 = s.zDiff x0 x1 x2 := rfl

end Sys2Proof.Machine
end

