-- ==== Sys2Proof/Laws/State.lean ====
section
/-! SUPPORT. What each update of a register or of a shadow leaves alone, field by field. -/
namespace Sys2Proof.Machine

variable (s : State)

@[simp] theorem State.regSet_ticks (x : Nat) (w : Word) : (s.regSet x w).ticks = s.ticks := rfl
@[simp] theorem State.regSet_mtime (x : Nat) (w : Word) : (s.regSet x w).mtime = s.mtime := rfl
@[simp] theorem State.regSet_shadow (x : Nat) (w : Word) : (s.regSet x w).shadow = s.shadow := rfl
@[simp] theorem State.regSet_resp (x : Nat) (w : Word) : (s.regSet x w).resp = s.resp := rfl
@[simp] theorem State.regSet_free (x : Nat) (w : Word) : (s.regSet x w).free = s.free := rfl
@[simp] theorem State.regSet_ten (x : Nat) (w : Word) : (s.regSet x w).ten = s.ten := rfl
@[simp] theorem State.regSet_sys (x : Nat) (w : Word) : (s.regSet x w).sys = s.sys := rfl
@[simp] theorem State.regSet_host (x : Nat) (w : Word) : (s.regSet x w).host = s.host := rfl
@[simp] theorem State.regSet_cyc (x : Nat) (w : Word) : (s.regSet x w).cyc = s.cyc := rfl
@[simp] theorem State.regSet_axs (x : Nat) (w : Word) : (s.regSet x w).axs = s.axs := rfl
@[simp] theorem State.regSet_rdn (x : Nat) (w : Word) : (s.regSet x w).rdn = s.rdn := rfl
@[simp] theorem State.regSet_tri (x : Nat) (w : Word) : (s.regSet x w).tri = s.tri := rfl
@[simp] theorem State.regSet_dio (x : Nat) (w : Word) : (s.regSet x w).dio = s.dio := rfl
@[simp] theorem State.regSet_sfn (x : Nat) (w : Word) : (s.regSet x w).sfn = s.sfn := rfl
@[simp] theorem State.regSet_pad (x : Nat) (w : Word) : (s.regSet x w).pad = s.pad := rfl
@[simp] theorem State.regSet_pre (x : Nat) (w : Word) : (s.regSet x w).pre = s.pre := rfl
@[simp] theorem State.regSet_drc (x : Nat) (w : Word) : (s.regSet x w).drc = s.drc := rfl
@[simp] theorem State.regSet_sar (x : Nat) (w : Word) : (s.regSet x w).sar = s.sar := rfl
@[simp] theorem State.regSet_loop (x : Nat) (w : Word) : (s.regSet x w).loop = s.loop := rfl
@[simp] theorem State.regSet_can (x : Nat) (w : Word) : (s.regSet x w).can = s.can := rfl
@[simp] theorem State.regSet_tmb (x : Nat) (w : Word) : (s.regSet x w).tmb = s.tmb := rfl
@[simp] theorem State.regSet_eth (x : Nat) (w : Word) : (s.regSet x w).eth = s.eth := rfl
@[simp] theorem State.regSet_gwy (x : Nat) (w : Word) : (s.regSet x w).gwy = s.gwy := rfl
@[simp] theorem State.regSet_hrb (x : Nat) (w : Word) : (s.regSet x w).hrb = s.hrb := rfl
@[simp] theorem State.regSet_mem (x : Nat) (w : Word) : (s.regSet x w).mem = s.mem := rfl
@[simp] theorem State.regSet_upd (x : Nat) (w : Word) : (s.regSet x w).upd = s.upd := rfl
@[simp] theorem State.regSet_mgt (x : Nat) (w : Word) : (s.regSet x w).mgt = s.mgt := rfl
@[simp] theorem State.regSet_pmc (x : Nat) (w : Word) : (s.regSet x w).pmc = s.pmc := rfl
@[simp] theorem State.regSet_evr (x : Nat) (w : Word) : (s.regSet x w).evr = s.evr := rfl
@[simp] theorem State.regSet_life (x : Nat) (w : Word) : (s.regSet x w).life = s.life := rfl
@[simp] theorem State.regSet_pending (x : Nat) (w : Word) : (s.regSet x w).pending = s.pending := rfl

@[simp] theorem State.wr_ticks (x n : Nat) : (s.wr x n).ticks = s.ticks := State.regSet_ticks s x _
@[simp] theorem State.wr_mtime (x n : Nat) : (s.wr x n).mtime = s.mtime := State.regSet_mtime s x _
@[simp] theorem State.wr_shadow (x n : Nat) : (s.wr x n).shadow = s.shadow := State.regSet_shadow s x _
@[simp] theorem State.wr_resp (x n : Nat) : (s.wr x n).resp = s.resp := State.regSet_resp s x _
@[simp] theorem State.wr_free (x n : Nat) : (s.wr x n).free = s.free := State.regSet_free s x _
@[simp] theorem State.wr_ten (x n : Nat) : (s.wr x n).ten = s.ten := State.regSet_ten s x _
@[simp] theorem State.wr_sys (x n : Nat) : (s.wr x n).sys = s.sys := State.regSet_sys s x _
@[simp] theorem State.wr_host (x n : Nat) : (s.wr x n).host = s.host := State.regSet_host s x _
@[simp] theorem State.wr_cyc (x n : Nat) : (s.wr x n).cyc = s.cyc := State.regSet_cyc s x _
@[simp] theorem State.wr_axs (x n : Nat) : (s.wr x n).axs = s.axs := State.regSet_axs s x _
@[simp] theorem State.wr_rdn (x n : Nat) : (s.wr x n).rdn = s.rdn := State.regSet_rdn s x _
@[simp] theorem State.wr_tri (x n : Nat) : (s.wr x n).tri = s.tri := State.regSet_tri s x _
@[simp] theorem State.wr_dio (x n : Nat) : (s.wr x n).dio = s.dio := State.regSet_dio s x _
@[simp] theorem State.wr_sfn (x n : Nat) : (s.wr x n).sfn = s.sfn := State.regSet_sfn s x _
@[simp] theorem State.wr_pad (x n : Nat) : (s.wr x n).pad = s.pad := State.regSet_pad s x _
@[simp] theorem State.wr_pre (x n : Nat) : (s.wr x n).pre = s.pre := State.regSet_pre s x _
@[simp] theorem State.wr_drc (x n : Nat) : (s.wr x n).drc = s.drc := State.regSet_drc s x _
@[simp] theorem State.wr_sar (x n : Nat) : (s.wr x n).sar = s.sar := State.regSet_sar s x _
@[simp] theorem State.wr_loop (x n : Nat) : (s.wr x n).loop = s.loop := State.regSet_loop s x _
@[simp] theorem State.wr_can (x n : Nat) : (s.wr x n).can = s.can := State.regSet_can s x _
@[simp] theorem State.wr_tmb (x n : Nat) : (s.wr x n).tmb = s.tmb := State.regSet_tmb s x _
@[simp] theorem State.wr_eth (x n : Nat) : (s.wr x n).eth = s.eth := State.regSet_eth s x _
@[simp] theorem State.wr_gwy (x n : Nat) : (s.wr x n).gwy = s.gwy := State.regSet_gwy s x _
@[simp] theorem State.wr_hrb (x n : Nat) : (s.wr x n).hrb = s.hrb := State.regSet_hrb s x _
@[simp] theorem State.wr_mem (x n : Nat) : (s.wr x n).mem = s.mem := State.regSet_mem s x _
@[simp] theorem State.wr_upd (x n : Nat) : (s.wr x n).upd = s.upd := State.regSet_upd s x _
@[simp] theorem State.wr_mgt (x n : Nat) : (s.wr x n).mgt = s.mgt := State.regSet_mgt s x _
@[simp] theorem State.wr_pmc (x n : Nat) : (s.wr x n).pmc = s.pmc := State.regSet_pmc s x _
@[simp] theorem State.wr_evr (x n : Nat) : (s.wr x n).evr = s.evr := State.regSet_evr s x _
@[simp] theorem State.wr_life (x n : Nat) : (s.wr x n).life = s.life := State.regSet_life s x _
@[simp] theorem State.wr_pending (x n : Nat) : (s.wr x n).pending = s.pending := State.regSet_pending s x _

@[simp] theorem State.wr64_ticks (x n : Nat) : (s.wr64 x n).ticks = s.ticks := (State.wr_ticks _ _ _).trans (State.wr_ticks _ _ _)
@[simp] theorem State.wr64_mtime (x n : Nat) : (s.wr64 x n).mtime = s.mtime := (State.wr_mtime _ _ _).trans (State.wr_mtime _ _ _)
@[simp] theorem State.wr64_shadow (x n : Nat) : (s.wr64 x n).shadow = s.shadow := (State.wr_shadow _ _ _).trans (State.wr_shadow _ _ _)
@[simp] theorem State.wr64_resp (x n : Nat) : (s.wr64 x n).resp = s.resp := (State.wr_resp _ _ _).trans (State.wr_resp _ _ _)
@[simp] theorem State.wr64_free (x n : Nat) : (s.wr64 x n).free = s.free := (State.wr_free _ _ _).trans (State.wr_free _ _ _)
@[simp] theorem State.wr64_ten (x n : Nat) : (s.wr64 x n).ten = s.ten := (State.wr_ten _ _ _).trans (State.wr_ten _ _ _)
@[simp] theorem State.wr64_sys (x n : Nat) : (s.wr64 x n).sys = s.sys := (State.wr_sys _ _ _).trans (State.wr_sys _ _ _)
@[simp] theorem State.wr64_host (x n : Nat) : (s.wr64 x n).host = s.host := (State.wr_host _ _ _).trans (State.wr_host _ _ _)
@[simp] theorem State.wr64_cyc (x n : Nat) : (s.wr64 x n).cyc = s.cyc := (State.wr_cyc _ _ _).trans (State.wr_cyc _ _ _)
@[simp] theorem State.wr64_axs (x n : Nat) : (s.wr64 x n).axs = s.axs := (State.wr_axs _ _ _).trans (State.wr_axs _ _ _)
@[simp] theorem State.wr64_rdn (x n : Nat) : (s.wr64 x n).rdn = s.rdn := (State.wr_rdn _ _ _).trans (State.wr_rdn _ _ _)
@[simp] theorem State.wr64_tri (x n : Nat) : (s.wr64 x n).tri = s.tri := (State.wr_tri _ _ _).trans (State.wr_tri _ _ _)
@[simp] theorem State.wr64_dio (x n : Nat) : (s.wr64 x n).dio = s.dio := (State.wr_dio _ _ _).trans (State.wr_dio _ _ _)
@[simp] theorem State.wr64_sfn (x n : Nat) : (s.wr64 x n).sfn = s.sfn := (State.wr_sfn _ _ _).trans (State.wr_sfn _ _ _)
@[simp] theorem State.wr64_pad (x n : Nat) : (s.wr64 x n).pad = s.pad := (State.wr_pad _ _ _).trans (State.wr_pad _ _ _)
@[simp] theorem State.wr64_pre (x n : Nat) : (s.wr64 x n).pre = s.pre := (State.wr_pre _ _ _).trans (State.wr_pre _ _ _)
@[simp] theorem State.wr64_drc (x n : Nat) : (s.wr64 x n).drc = s.drc := (State.wr_drc _ _ _).trans (State.wr_drc _ _ _)
@[simp] theorem State.wr64_sar (x n : Nat) : (s.wr64 x n).sar = s.sar := (State.wr_sar _ _ _).trans (State.wr_sar _ _ _)
@[simp] theorem State.wr64_loop (x n : Nat) : (s.wr64 x n).loop = s.loop := (State.wr_loop _ _ _).trans (State.wr_loop _ _ _)
@[simp] theorem State.wr64_can (x n : Nat) : (s.wr64 x n).can = s.can := (State.wr_can _ _ _).trans (State.wr_can _ _ _)
@[simp] theorem State.wr64_tmb (x n : Nat) : (s.wr64 x n).tmb = s.tmb := (State.wr_tmb _ _ _).trans (State.wr_tmb _ _ _)
@[simp] theorem State.wr64_eth (x n : Nat) : (s.wr64 x n).eth = s.eth := (State.wr_eth _ _ _).trans (State.wr_eth _ _ _)
@[simp] theorem State.wr64_gwy (x n : Nat) : (s.wr64 x n).gwy = s.gwy := (State.wr_gwy _ _ _).trans (State.wr_gwy _ _ _)
@[simp] theorem State.wr64_hrb (x n : Nat) : (s.wr64 x n).hrb = s.hrb := (State.wr_hrb _ _ _).trans (State.wr_hrb _ _ _)
@[simp] theorem State.wr64_mem (x n : Nat) : (s.wr64 x n).mem = s.mem := (State.wr_mem _ _ _).trans (State.wr_mem _ _ _)
@[simp] theorem State.wr64_upd (x n : Nat) : (s.wr64 x n).upd = s.upd := (State.wr_upd _ _ _).trans (State.wr_upd _ _ _)
@[simp] theorem State.wr64_mgt (x n : Nat) : (s.wr64 x n).mgt = s.mgt := (State.wr_mgt _ _ _).trans (State.wr_mgt _ _ _)
@[simp] theorem State.wr64_pmc (x n : Nat) : (s.wr64 x n).pmc = s.pmc := (State.wr_pmc _ _ _).trans (State.wr_pmc _ _ _)
@[simp] theorem State.wr64_evr (x n : Nat) : (s.wr64 x n).evr = s.evr := (State.wr_evr _ _ _).trans (State.wr_evr _ _ _)
@[simp] theorem State.wr64_life (x n : Nat) : (s.wr64 x n).life = s.life := (State.wr_life _ _ _).trans (State.wr_life _ _ _)
@[simp] theorem State.wr64_pending (x n : Nat) : (s.wr64 x n).pending = s.pending := (State.wr_pending _ _ _).trans (State.wr_pending _ _ _)

@[simp] theorem State.putFld_ticks (x hi lo v : Nat) : (s.putFld x hi lo v).ticks = s.ticks := State.wr_ticks s x _
@[simp] theorem State.putFld_mtime (x hi lo v : Nat) : (s.putFld x hi lo v).mtime = s.mtime := State.wr_mtime s x _
@[simp] theorem State.putFld_shadow (x hi lo v : Nat) : (s.putFld x hi lo v).shadow = s.shadow := State.wr_shadow s x _
@[simp] theorem State.putFld_resp (x hi lo v : Nat) : (s.putFld x hi lo v).resp = s.resp := State.wr_resp s x _
@[simp] theorem State.putFld_free (x hi lo v : Nat) : (s.putFld x hi lo v).free = s.free := State.wr_free s x _
@[simp] theorem State.putFld_ten (x hi lo v : Nat) : (s.putFld x hi lo v).ten = s.ten := State.wr_ten s x _
@[simp] theorem State.putFld_sys (x hi lo v : Nat) : (s.putFld x hi lo v).sys = s.sys := State.wr_sys s x _
@[simp] theorem State.putFld_host (x hi lo v : Nat) : (s.putFld x hi lo v).host = s.host := State.wr_host s x _
@[simp] theorem State.putFld_cyc (x hi lo v : Nat) : (s.putFld x hi lo v).cyc = s.cyc := State.wr_cyc s x _
@[simp] theorem State.putFld_axs (x hi lo v : Nat) : (s.putFld x hi lo v).axs = s.axs := State.wr_axs s x _
@[simp] theorem State.putFld_rdn (x hi lo v : Nat) : (s.putFld x hi lo v).rdn = s.rdn := State.wr_rdn s x _
@[simp] theorem State.putFld_tri (x hi lo v : Nat) : (s.putFld x hi lo v).tri = s.tri := State.wr_tri s x _
@[simp] theorem State.putFld_dio (x hi lo v : Nat) : (s.putFld x hi lo v).dio = s.dio := State.wr_dio s x _
@[simp] theorem State.putFld_sfn (x hi lo v : Nat) : (s.putFld x hi lo v).sfn = s.sfn := State.wr_sfn s x _
@[simp] theorem State.putFld_pad (x hi lo v : Nat) : (s.putFld x hi lo v).pad = s.pad := State.wr_pad s x _
@[simp] theorem State.putFld_pre (x hi lo v : Nat) : (s.putFld x hi lo v).pre = s.pre := State.wr_pre s x _
@[simp] theorem State.putFld_drc (x hi lo v : Nat) : (s.putFld x hi lo v).drc = s.drc := State.wr_drc s x _
@[simp] theorem State.putFld_sar (x hi lo v : Nat) : (s.putFld x hi lo v).sar = s.sar := State.wr_sar s x _
@[simp] theorem State.putFld_loop (x hi lo v : Nat) : (s.putFld x hi lo v).loop = s.loop := State.wr_loop s x _
@[simp] theorem State.putFld_can (x hi lo v : Nat) : (s.putFld x hi lo v).can = s.can := State.wr_can s x _
@[simp] theorem State.putFld_tmb (x hi lo v : Nat) : (s.putFld x hi lo v).tmb = s.tmb := State.wr_tmb s x _
@[simp] theorem State.putFld_eth (x hi lo v : Nat) : (s.putFld x hi lo v).eth = s.eth := State.wr_eth s x _
@[simp] theorem State.putFld_gwy (x hi lo v : Nat) : (s.putFld x hi lo v).gwy = s.gwy := State.wr_gwy s x _
@[simp] theorem State.putFld_hrb (x hi lo v : Nat) : (s.putFld x hi lo v).hrb = s.hrb := State.wr_hrb s x _
@[simp] theorem State.putFld_mem (x hi lo v : Nat) : (s.putFld x hi lo v).mem = s.mem := State.wr_mem s x _
@[simp] theorem State.putFld_upd (x hi lo v : Nat) : (s.putFld x hi lo v).upd = s.upd := State.wr_upd s x _
@[simp] theorem State.putFld_mgt (x hi lo v : Nat) : (s.putFld x hi lo v).mgt = s.mgt := State.wr_mgt s x _
@[simp] theorem State.putFld_pmc (x hi lo v : Nat) : (s.putFld x hi lo v).pmc = s.pmc := State.wr_pmc s x _
@[simp] theorem State.putFld_evr (x hi lo v : Nat) : (s.putFld x hi lo v).evr = s.evr := State.wr_evr s x _
@[simp] theorem State.putFld_life (x hi lo v : Nat) : (s.putFld x hi lo v).life = s.life := State.wr_life s x _
@[simp] theorem State.putFld_pending (x hi lo v : Nat) : (s.putFld x hi lo v).pending = s.pending := State.wr_pending s x _

@[simp] theorem State.putBit_ticks (x i : Nat) (b : Bool) : (s.putBit x i b).ticks = s.ticks := State.wr_ticks s x _
@[simp] theorem State.putBit_mtime (x i : Nat) (b : Bool) : (s.putBit x i b).mtime = s.mtime := State.wr_mtime s x _
@[simp] theorem State.putBit_shadow (x i : Nat) (b : Bool) : (s.putBit x i b).shadow = s.shadow := State.wr_shadow s x _
@[simp] theorem State.putBit_resp (x i : Nat) (b : Bool) : (s.putBit x i b).resp = s.resp := State.wr_resp s x _
@[simp] theorem State.putBit_free (x i : Nat) (b : Bool) : (s.putBit x i b).free = s.free := State.wr_free s x _
@[simp] theorem State.putBit_ten (x i : Nat) (b : Bool) : (s.putBit x i b).ten = s.ten := State.wr_ten s x _
@[simp] theorem State.putBit_sys (x i : Nat) (b : Bool) : (s.putBit x i b).sys = s.sys := State.wr_sys s x _
@[simp] theorem State.putBit_host (x i : Nat) (b : Bool) : (s.putBit x i b).host = s.host := State.wr_host s x _
@[simp] theorem State.putBit_cyc (x i : Nat) (b : Bool) : (s.putBit x i b).cyc = s.cyc := State.wr_cyc s x _
@[simp] theorem State.putBit_axs (x i : Nat) (b : Bool) : (s.putBit x i b).axs = s.axs := State.wr_axs s x _
@[simp] theorem State.putBit_rdn (x i : Nat) (b : Bool) : (s.putBit x i b).rdn = s.rdn := State.wr_rdn s x _
@[simp] theorem State.putBit_tri (x i : Nat) (b : Bool) : (s.putBit x i b).tri = s.tri := State.wr_tri s x _
@[simp] theorem State.putBit_dio (x i : Nat) (b : Bool) : (s.putBit x i b).dio = s.dio := State.wr_dio s x _
@[simp] theorem State.putBit_sfn (x i : Nat) (b : Bool) : (s.putBit x i b).sfn = s.sfn := State.wr_sfn s x _
@[simp] theorem State.putBit_pad (x i : Nat) (b : Bool) : (s.putBit x i b).pad = s.pad := State.wr_pad s x _
@[simp] theorem State.putBit_pre (x i : Nat) (b : Bool) : (s.putBit x i b).pre = s.pre := State.wr_pre s x _
@[simp] theorem State.putBit_drc (x i : Nat) (b : Bool) : (s.putBit x i b).drc = s.drc := State.wr_drc s x _
@[simp] theorem State.putBit_sar (x i : Nat) (b : Bool) : (s.putBit x i b).sar = s.sar := State.wr_sar s x _
@[simp] theorem State.putBit_loop (x i : Nat) (b : Bool) : (s.putBit x i b).loop = s.loop := State.wr_loop s x _
@[simp] theorem State.putBit_can (x i : Nat) (b : Bool) : (s.putBit x i b).can = s.can := State.wr_can s x _
@[simp] theorem State.putBit_tmb (x i : Nat) (b : Bool) : (s.putBit x i b).tmb = s.tmb := State.wr_tmb s x _
@[simp] theorem State.putBit_eth (x i : Nat) (b : Bool) : (s.putBit x i b).eth = s.eth := State.wr_eth s x _
@[simp] theorem State.putBit_gwy (x i : Nat) (b : Bool) : (s.putBit x i b).gwy = s.gwy := State.wr_gwy s x _
@[simp] theorem State.putBit_hrb (x i : Nat) (b : Bool) : (s.putBit x i b).hrb = s.hrb := State.wr_hrb s x _
@[simp] theorem State.putBit_mem (x i : Nat) (b : Bool) : (s.putBit x i b).mem = s.mem := State.wr_mem s x _
@[simp] theorem State.putBit_upd (x i : Nat) (b : Bool) : (s.putBit x i b).upd = s.upd := State.wr_upd s x _
@[simp] theorem State.putBit_mgt (x i : Nat) (b : Bool) : (s.putBit x i b).mgt = s.mgt := State.wr_mgt s x _
@[simp] theorem State.putBit_pmc (x i : Nat) (b : Bool) : (s.putBit x i b).pmc = s.pmc := State.wr_pmc s x _
@[simp] theorem State.putBit_evr (x i : Nat) (b : Bool) : (s.putBit x i b).evr = s.evr := State.wr_evr s x _
@[simp] theorem State.putBit_life (x i : Nat) (b : Bool) : (s.putBit x i b).life = s.life := State.wr_life s x _
@[simp] theorem State.putBit_pending (x i : Nat) (b : Bool) : (s.putBit x i b).pending = s.pending := State.wr_pending s x _

@[simp] theorem State.incWrap_ticks (x : Nat) : (s.incWrap x).ticks = s.ticks := State.wr_ticks s x _
@[simp] theorem State.incWrap_mtime (x : Nat) : (s.incWrap x).mtime = s.mtime := State.wr_mtime s x _
@[simp] theorem State.incWrap_shadow (x : Nat) : (s.incWrap x).shadow = s.shadow := State.wr_shadow s x _
@[simp] theorem State.incWrap_resp (x : Nat) : (s.incWrap x).resp = s.resp := State.wr_resp s x _
@[simp] theorem State.incWrap_free (x : Nat) : (s.incWrap x).free = s.free := State.wr_free s x _
@[simp] theorem State.incWrap_ten (x : Nat) : (s.incWrap x).ten = s.ten := State.wr_ten s x _
@[simp] theorem State.incWrap_sys (x : Nat) : (s.incWrap x).sys = s.sys := State.wr_sys s x _
@[simp] theorem State.incWrap_host (x : Nat) : (s.incWrap x).host = s.host := State.wr_host s x _
@[simp] theorem State.incWrap_cyc (x : Nat) : (s.incWrap x).cyc = s.cyc := State.wr_cyc s x _
@[simp] theorem State.incWrap_axs (x : Nat) : (s.incWrap x).axs = s.axs := State.wr_axs s x _
@[simp] theorem State.incWrap_rdn (x : Nat) : (s.incWrap x).rdn = s.rdn := State.wr_rdn s x _
@[simp] theorem State.incWrap_tri (x : Nat) : (s.incWrap x).tri = s.tri := State.wr_tri s x _
@[simp] theorem State.incWrap_dio (x : Nat) : (s.incWrap x).dio = s.dio := State.wr_dio s x _
@[simp] theorem State.incWrap_sfn (x : Nat) : (s.incWrap x).sfn = s.sfn := State.wr_sfn s x _
@[simp] theorem State.incWrap_pad (x : Nat) : (s.incWrap x).pad = s.pad := State.wr_pad s x _
@[simp] theorem State.incWrap_pre (x : Nat) : (s.incWrap x).pre = s.pre := State.wr_pre s x _
@[simp] theorem State.incWrap_drc (x : Nat) : (s.incWrap x).drc = s.drc := State.wr_drc s x _
@[simp] theorem State.incWrap_sar (x : Nat) : (s.incWrap x).sar = s.sar := State.wr_sar s x _
@[simp] theorem State.incWrap_loop (x : Nat) : (s.incWrap x).loop = s.loop := State.wr_loop s x _
@[simp] theorem State.incWrap_can (x : Nat) : (s.incWrap x).can = s.can := State.wr_can s x _
@[simp] theorem State.incWrap_tmb (x : Nat) : (s.incWrap x).tmb = s.tmb := State.wr_tmb s x _
@[simp] theorem State.incWrap_eth (x : Nat) : (s.incWrap x).eth = s.eth := State.wr_eth s x _
@[simp] theorem State.incWrap_gwy (x : Nat) : (s.incWrap x).gwy = s.gwy := State.wr_gwy s x _
@[simp] theorem State.incWrap_hrb (x : Nat) : (s.incWrap x).hrb = s.hrb := State.wr_hrb s x _
@[simp] theorem State.incWrap_mem (x : Nat) : (s.incWrap x).mem = s.mem := State.wr_mem s x _
@[simp] theorem State.incWrap_upd (x : Nat) : (s.incWrap x).upd = s.upd := State.wr_upd s x _
@[simp] theorem State.incWrap_mgt (x : Nat) : (s.incWrap x).mgt = s.mgt := State.wr_mgt s x _
@[simp] theorem State.incWrap_pmc (x : Nat) : (s.incWrap x).pmc = s.pmc := State.wr_pmc s x _
@[simp] theorem State.incWrap_evr (x : Nat) : (s.incWrap x).evr = s.evr := State.wr_evr s x _
@[simp] theorem State.incWrap_life (x : Nat) : (s.incWrap x).life = s.life := State.wr_life s x _
@[simp] theorem State.incWrap_pending (x : Nat) : (s.incWrap x).pending = s.pending := State.wr_pending s x _

@[simp] theorem State.incSat_ticks (x : Nat) : (s.incSat x).ticks = s.ticks := State.wr_ticks s x _
@[simp] theorem State.incSat_mtime (x : Nat) : (s.incSat x).mtime = s.mtime := State.wr_mtime s x _
@[simp] theorem State.incSat_shadow (x : Nat) : (s.incSat x).shadow = s.shadow := State.wr_shadow s x _
@[simp] theorem State.incSat_resp (x : Nat) : (s.incSat x).resp = s.resp := State.wr_resp s x _
@[simp] theorem State.incSat_free (x : Nat) : (s.incSat x).free = s.free := State.wr_free s x _
@[simp] theorem State.incSat_ten (x : Nat) : (s.incSat x).ten = s.ten := State.wr_ten s x _
@[simp] theorem State.incSat_sys (x : Nat) : (s.incSat x).sys = s.sys := State.wr_sys s x _
@[simp] theorem State.incSat_host (x : Nat) : (s.incSat x).host = s.host := State.wr_host s x _
@[simp] theorem State.incSat_cyc (x : Nat) : (s.incSat x).cyc = s.cyc := State.wr_cyc s x _
@[simp] theorem State.incSat_axs (x : Nat) : (s.incSat x).axs = s.axs := State.wr_axs s x _
@[simp] theorem State.incSat_rdn (x : Nat) : (s.incSat x).rdn = s.rdn := State.wr_rdn s x _
@[simp] theorem State.incSat_tri (x : Nat) : (s.incSat x).tri = s.tri := State.wr_tri s x _
@[simp] theorem State.incSat_dio (x : Nat) : (s.incSat x).dio = s.dio := State.wr_dio s x _
@[simp] theorem State.incSat_sfn (x : Nat) : (s.incSat x).sfn = s.sfn := State.wr_sfn s x _
@[simp] theorem State.incSat_pad (x : Nat) : (s.incSat x).pad = s.pad := State.wr_pad s x _
@[simp] theorem State.incSat_pre (x : Nat) : (s.incSat x).pre = s.pre := State.wr_pre s x _
@[simp] theorem State.incSat_drc (x : Nat) : (s.incSat x).drc = s.drc := State.wr_drc s x _
@[simp] theorem State.incSat_sar (x : Nat) : (s.incSat x).sar = s.sar := State.wr_sar s x _
@[simp] theorem State.incSat_loop (x : Nat) : (s.incSat x).loop = s.loop := State.wr_loop s x _
@[simp] theorem State.incSat_can (x : Nat) : (s.incSat x).can = s.can := State.wr_can s x _
@[simp] theorem State.incSat_tmb (x : Nat) : (s.incSat x).tmb = s.tmb := State.wr_tmb s x _
@[simp] theorem State.incSat_eth (x : Nat) : (s.incSat x).eth = s.eth := State.wr_eth s x _
@[simp] theorem State.incSat_gwy (x : Nat) : (s.incSat x).gwy = s.gwy := State.wr_gwy s x _
@[simp] theorem State.incSat_hrb (x : Nat) : (s.incSat x).hrb = s.hrb := State.wr_hrb s x _
@[simp] theorem State.incSat_mem (x : Nat) : (s.incSat x).mem = s.mem := State.wr_mem s x _
@[simp] theorem State.incSat_upd (x : Nat) : (s.incSat x).upd = s.upd := State.wr_upd s x _
@[simp] theorem State.incSat_mgt (x : Nat) : (s.incSat x).mgt = s.mgt := State.wr_mgt s x _
@[simp] theorem State.incSat_pmc (x : Nat) : (s.incSat x).pmc = s.pmc := State.wr_pmc s x _
@[simp] theorem State.incSat_evr (x : Nat) : (s.incSat x).evr = s.evr := State.wr_evr s x _
@[simp] theorem State.incSat_life (x : Nat) : (s.incSat x).life = s.life := State.wr_life s x _
@[simp] theorem State.incSat_pending (x : Nat) : (s.incSat x).pending = s.pending := State.wr_pending s x _

@[simp] theorem State.addSat_ticks (x n : Nat) : (s.addSat x n).ticks = s.ticks := State.wr_ticks s x _
@[simp] theorem State.addSat_mtime (x n : Nat) : (s.addSat x n).mtime = s.mtime := State.wr_mtime s x _
@[simp] theorem State.addSat_shadow (x n : Nat) : (s.addSat x n).shadow = s.shadow := State.wr_shadow s x _
@[simp] theorem State.addSat_resp (x n : Nat) : (s.addSat x n).resp = s.resp := State.wr_resp s x _
@[simp] theorem State.addSat_free (x n : Nat) : (s.addSat x n).free = s.free := State.wr_free s x _
@[simp] theorem State.addSat_ten (x n : Nat) : (s.addSat x n).ten = s.ten := State.wr_ten s x _
@[simp] theorem State.addSat_sys (x n : Nat) : (s.addSat x n).sys = s.sys := State.wr_sys s x _
@[simp] theorem State.addSat_host (x n : Nat) : (s.addSat x n).host = s.host := State.wr_host s x _
@[simp] theorem State.addSat_cyc (x n : Nat) : (s.addSat x n).cyc = s.cyc := State.wr_cyc s x _
@[simp] theorem State.addSat_axs (x n : Nat) : (s.addSat x n).axs = s.axs := State.wr_axs s x _
@[simp] theorem State.addSat_rdn (x n : Nat) : (s.addSat x n).rdn = s.rdn := State.wr_rdn s x _
@[simp] theorem State.addSat_tri (x n : Nat) : (s.addSat x n).tri = s.tri := State.wr_tri s x _
@[simp] theorem State.addSat_dio (x n : Nat) : (s.addSat x n).dio = s.dio := State.wr_dio s x _
@[simp] theorem State.addSat_sfn (x n : Nat) : (s.addSat x n).sfn = s.sfn := State.wr_sfn s x _
@[simp] theorem State.addSat_pad (x n : Nat) : (s.addSat x n).pad = s.pad := State.wr_pad s x _
@[simp] theorem State.addSat_pre (x n : Nat) : (s.addSat x n).pre = s.pre := State.wr_pre s x _
@[simp] theorem State.addSat_drc (x n : Nat) : (s.addSat x n).drc = s.drc := State.wr_drc s x _
@[simp] theorem State.addSat_sar (x n : Nat) : (s.addSat x n).sar = s.sar := State.wr_sar s x _
@[simp] theorem State.addSat_loop (x n : Nat) : (s.addSat x n).loop = s.loop := State.wr_loop s x _
@[simp] theorem State.addSat_can (x n : Nat) : (s.addSat x n).can = s.can := State.wr_can s x _
@[simp] theorem State.addSat_tmb (x n : Nat) : (s.addSat x n).tmb = s.tmb := State.wr_tmb s x _
@[simp] theorem State.addSat_eth (x n : Nat) : (s.addSat x n).eth = s.eth := State.wr_eth s x _
@[simp] theorem State.addSat_gwy (x n : Nat) : (s.addSat x n).gwy = s.gwy := State.wr_gwy s x _
@[simp] theorem State.addSat_hrb (x n : Nat) : (s.addSat x n).hrb = s.hrb := State.wr_hrb s x _
@[simp] theorem State.addSat_mem (x n : Nat) : (s.addSat x n).mem = s.mem := State.wr_mem s x _
@[simp] theorem State.addSat_upd (x n : Nat) : (s.addSat x n).upd = s.upd := State.wr_upd s x _
@[simp] theorem State.addSat_mgt (x n : Nat) : (s.addSat x n).mgt = s.mgt := State.wr_mgt s x _
@[simp] theorem State.addSat_pmc (x n : Nat) : (s.addSat x n).pmc = s.pmc := State.wr_pmc s x _
@[simp] theorem State.addSat_evr (x n : Nat) : (s.addSat x n).evr = s.evr := State.wr_evr s x _
@[simp] theorem State.addSat_life (x n : Nat) : (s.addSat x n).life = s.life := State.wr_life s x _
@[simp] theorem State.addSat_pending (x n : Nat) : (s.addSat x n).pending = s.pending := State.wr_pending s x _

@[simp] theorem State.incSatF_ticks (x hi lo : Nat) : (s.incSatF x hi lo).ticks = s.ticks := State.putFld_ticks s x _ _ _
@[simp] theorem State.incSatF_mtime (x hi lo : Nat) : (s.incSatF x hi lo).mtime = s.mtime := State.putFld_mtime s x _ _ _
@[simp] theorem State.incSatF_shadow (x hi lo : Nat) : (s.incSatF x hi lo).shadow = s.shadow := State.putFld_shadow s x _ _ _
@[simp] theorem State.incSatF_resp (x hi lo : Nat) : (s.incSatF x hi lo).resp = s.resp := State.putFld_resp s x _ _ _
@[simp] theorem State.incSatF_free (x hi lo : Nat) : (s.incSatF x hi lo).free = s.free := State.putFld_free s x _ _ _
@[simp] theorem State.incSatF_ten (x hi lo : Nat) : (s.incSatF x hi lo).ten = s.ten := State.putFld_ten s x _ _ _
@[simp] theorem State.incSatF_sys (x hi lo : Nat) : (s.incSatF x hi lo).sys = s.sys := State.putFld_sys s x _ _ _
@[simp] theorem State.incSatF_host (x hi lo : Nat) : (s.incSatF x hi lo).host = s.host := State.putFld_host s x _ _ _
@[simp] theorem State.incSatF_cyc (x hi lo : Nat) : (s.incSatF x hi lo).cyc = s.cyc := State.putFld_cyc s x _ _ _
@[simp] theorem State.incSatF_axs (x hi lo : Nat) : (s.incSatF x hi lo).axs = s.axs := State.putFld_axs s x _ _ _
@[simp] theorem State.incSatF_rdn (x hi lo : Nat) : (s.incSatF x hi lo).rdn = s.rdn := State.putFld_rdn s x _ _ _
@[simp] theorem State.incSatF_tri (x hi lo : Nat) : (s.incSatF x hi lo).tri = s.tri := State.putFld_tri s x _ _ _
@[simp] theorem State.incSatF_dio (x hi lo : Nat) : (s.incSatF x hi lo).dio = s.dio := State.putFld_dio s x _ _ _
@[simp] theorem State.incSatF_sfn (x hi lo : Nat) : (s.incSatF x hi lo).sfn = s.sfn := State.putFld_sfn s x _ _ _
@[simp] theorem State.incSatF_pad (x hi lo : Nat) : (s.incSatF x hi lo).pad = s.pad := State.putFld_pad s x _ _ _
@[simp] theorem State.incSatF_pre (x hi lo : Nat) : (s.incSatF x hi lo).pre = s.pre := State.putFld_pre s x _ _ _
@[simp] theorem State.incSatF_drc (x hi lo : Nat) : (s.incSatF x hi lo).drc = s.drc := State.putFld_drc s x _ _ _
@[simp] theorem State.incSatF_sar (x hi lo : Nat) : (s.incSatF x hi lo).sar = s.sar := State.putFld_sar s x _ _ _
@[simp] theorem State.incSatF_loop (x hi lo : Nat) : (s.incSatF x hi lo).loop = s.loop := State.putFld_loop s x _ _ _
@[simp] theorem State.incSatF_can (x hi lo : Nat) : (s.incSatF x hi lo).can = s.can := State.putFld_can s x _ _ _
@[simp] theorem State.incSatF_tmb (x hi lo : Nat) : (s.incSatF x hi lo).tmb = s.tmb := State.putFld_tmb s x _ _ _
@[simp] theorem State.incSatF_eth (x hi lo : Nat) : (s.incSatF x hi lo).eth = s.eth := State.putFld_eth s x _ _ _
@[simp] theorem State.incSatF_gwy (x hi lo : Nat) : (s.incSatF x hi lo).gwy = s.gwy := State.putFld_gwy s x _ _ _
@[simp] theorem State.incSatF_hrb (x hi lo : Nat) : (s.incSatF x hi lo).hrb = s.hrb := State.putFld_hrb s x _ _ _
@[simp] theorem State.incSatF_mem (x hi lo : Nat) : (s.incSatF x hi lo).mem = s.mem := State.putFld_mem s x _ _ _
@[simp] theorem State.incSatF_upd (x hi lo : Nat) : (s.incSatF x hi lo).upd = s.upd := State.putFld_upd s x _ _ _
@[simp] theorem State.incSatF_mgt (x hi lo : Nat) : (s.incSatF x hi lo).mgt = s.mgt := State.putFld_mgt s x _ _ _
@[simp] theorem State.incSatF_pmc (x hi lo : Nat) : (s.incSatF x hi lo).pmc = s.pmc := State.putFld_pmc s x _ _ _
@[simp] theorem State.incSatF_evr (x hi lo : Nat) : (s.incSatF x hi lo).evr = s.evr := State.putFld_evr s x _ _ _
@[simp] theorem State.incSatF_life (x hi lo : Nat) : (s.incSatF x hi lo).life = s.life := State.putFld_life s x _ _ _
@[simp] theorem State.incSatF_pending (x hi lo : Nat) : (s.incSatF x hi lo).pending = s.pending := State.putFld_pending s x _ _ _

@[simp] theorem State.incWrapF_ticks (x hi lo : Nat) : (s.incWrapF x hi lo).ticks = s.ticks := State.putFld_ticks s x _ _ _
@[simp] theorem State.incWrapF_mtime (x hi lo : Nat) : (s.incWrapF x hi lo).mtime = s.mtime := State.putFld_mtime s x _ _ _
@[simp] theorem State.incWrapF_shadow (x hi lo : Nat) : (s.incWrapF x hi lo).shadow = s.shadow := State.putFld_shadow s x _ _ _
@[simp] theorem State.incWrapF_resp (x hi lo : Nat) : (s.incWrapF x hi lo).resp = s.resp := State.putFld_resp s x _ _ _
@[simp] theorem State.incWrapF_free (x hi lo : Nat) : (s.incWrapF x hi lo).free = s.free := State.putFld_free s x _ _ _
@[simp] theorem State.incWrapF_ten (x hi lo : Nat) : (s.incWrapF x hi lo).ten = s.ten := State.putFld_ten s x _ _ _
@[simp] theorem State.incWrapF_sys (x hi lo : Nat) : (s.incWrapF x hi lo).sys = s.sys := State.putFld_sys s x _ _ _
@[simp] theorem State.incWrapF_host (x hi lo : Nat) : (s.incWrapF x hi lo).host = s.host := State.putFld_host s x _ _ _
@[simp] theorem State.incWrapF_cyc (x hi lo : Nat) : (s.incWrapF x hi lo).cyc = s.cyc := State.putFld_cyc s x _ _ _
@[simp] theorem State.incWrapF_axs (x hi lo : Nat) : (s.incWrapF x hi lo).axs = s.axs := State.putFld_axs s x _ _ _
@[simp] theorem State.incWrapF_rdn (x hi lo : Nat) : (s.incWrapF x hi lo).rdn = s.rdn := State.putFld_rdn s x _ _ _
@[simp] theorem State.incWrapF_tri (x hi lo : Nat) : (s.incWrapF x hi lo).tri = s.tri := State.putFld_tri s x _ _ _
@[simp] theorem State.incWrapF_dio (x hi lo : Nat) : (s.incWrapF x hi lo).dio = s.dio := State.putFld_dio s x _ _ _
@[simp] theorem State.incWrapF_sfn (x hi lo : Nat) : (s.incWrapF x hi lo).sfn = s.sfn := State.putFld_sfn s x _ _ _
@[simp] theorem State.incWrapF_pad (x hi lo : Nat) : (s.incWrapF x hi lo).pad = s.pad := State.putFld_pad s x _ _ _
@[simp] theorem State.incWrapF_pre (x hi lo : Nat) : (s.incWrapF x hi lo).pre = s.pre := State.putFld_pre s x _ _ _
@[simp] theorem State.incWrapF_drc (x hi lo : Nat) : (s.incWrapF x hi lo).drc = s.drc := State.putFld_drc s x _ _ _
@[simp] theorem State.incWrapF_sar (x hi lo : Nat) : (s.incWrapF x hi lo).sar = s.sar := State.putFld_sar s x _ _ _
@[simp] theorem State.incWrapF_loop (x hi lo : Nat) : (s.incWrapF x hi lo).loop = s.loop := State.putFld_loop s x _ _ _
@[simp] theorem State.incWrapF_can (x hi lo : Nat) : (s.incWrapF x hi lo).can = s.can := State.putFld_can s x _ _ _
@[simp] theorem State.incWrapF_tmb (x hi lo : Nat) : (s.incWrapF x hi lo).tmb = s.tmb := State.putFld_tmb s x _ _ _
@[simp] theorem State.incWrapF_eth (x hi lo : Nat) : (s.incWrapF x hi lo).eth = s.eth := State.putFld_eth s x _ _ _
@[simp] theorem State.incWrapF_gwy (x hi lo : Nat) : (s.incWrapF x hi lo).gwy = s.gwy := State.putFld_gwy s x _ _ _
@[simp] theorem State.incWrapF_hrb (x hi lo : Nat) : (s.incWrapF x hi lo).hrb = s.hrb := State.putFld_hrb s x _ _ _
@[simp] theorem State.incWrapF_mem (x hi lo : Nat) : (s.incWrapF x hi lo).mem = s.mem := State.putFld_mem s x _ _ _
@[simp] theorem State.incWrapF_upd (x hi lo : Nat) : (s.incWrapF x hi lo).upd = s.upd := State.putFld_upd s x _ _ _
@[simp] theorem State.incWrapF_mgt (x hi lo : Nat) : (s.incWrapF x hi lo).mgt = s.mgt := State.putFld_mgt s x _ _ _
@[simp] theorem State.incWrapF_pmc (x hi lo : Nat) : (s.incWrapF x hi lo).pmc = s.pmc := State.putFld_pmc s x _ _ _
@[simp] theorem State.incWrapF_evr (x hi lo : Nat) : (s.incWrapF x hi lo).evr = s.evr := State.putFld_evr s x _ _ _
@[simp] theorem State.incWrapF_life (x hi lo : Nat) : (s.incWrapF x hi lo).life = s.life := State.putFld_life s x _ _ _
@[simp] theorem State.incWrapF_pending (x hi lo : Nat) : (s.incWrapF x hi lo).pending = s.pending := State.putFld_pending s x _ _ _

@[simp] theorem State.incWrap64_ticks (x : Nat) : (s.incWrap64 x).ticks = s.ticks := State.wr64_ticks s x _
@[simp] theorem State.incWrap64_mtime (x : Nat) : (s.incWrap64 x).mtime = s.mtime := State.wr64_mtime s x _
@[simp] theorem State.incWrap64_shadow (x : Nat) : (s.incWrap64 x).shadow = s.shadow := State.wr64_shadow s x _
@[simp] theorem State.incWrap64_resp (x : Nat) : (s.incWrap64 x).resp = s.resp := State.wr64_resp s x _
@[simp] theorem State.incWrap64_free (x : Nat) : (s.incWrap64 x).free = s.free := State.wr64_free s x _
@[simp] theorem State.incWrap64_ten (x : Nat) : (s.incWrap64 x).ten = s.ten := State.wr64_ten s x _
@[simp] theorem State.incWrap64_sys (x : Nat) : (s.incWrap64 x).sys = s.sys := State.wr64_sys s x _
@[simp] theorem State.incWrap64_host (x : Nat) : (s.incWrap64 x).host = s.host := State.wr64_host s x _
@[simp] theorem State.incWrap64_cyc (x : Nat) : (s.incWrap64 x).cyc = s.cyc := State.wr64_cyc s x _
@[simp] theorem State.incWrap64_axs (x : Nat) : (s.incWrap64 x).axs = s.axs := State.wr64_axs s x _
@[simp] theorem State.incWrap64_rdn (x : Nat) : (s.incWrap64 x).rdn = s.rdn := State.wr64_rdn s x _
@[simp] theorem State.incWrap64_tri (x : Nat) : (s.incWrap64 x).tri = s.tri := State.wr64_tri s x _
@[simp] theorem State.incWrap64_dio (x : Nat) : (s.incWrap64 x).dio = s.dio := State.wr64_dio s x _
@[simp] theorem State.incWrap64_sfn (x : Nat) : (s.incWrap64 x).sfn = s.sfn := State.wr64_sfn s x _
@[simp] theorem State.incWrap64_pad (x : Nat) : (s.incWrap64 x).pad = s.pad := State.wr64_pad s x _
@[simp] theorem State.incWrap64_pre (x : Nat) : (s.incWrap64 x).pre = s.pre := State.wr64_pre s x _
@[simp] theorem State.incWrap64_drc (x : Nat) : (s.incWrap64 x).drc = s.drc := State.wr64_drc s x _
@[simp] theorem State.incWrap64_sar (x : Nat) : (s.incWrap64 x).sar = s.sar := State.wr64_sar s x _
@[simp] theorem State.incWrap64_loop (x : Nat) : (s.incWrap64 x).loop = s.loop := State.wr64_loop s x _
@[simp] theorem State.incWrap64_can (x : Nat) : (s.incWrap64 x).can = s.can := State.wr64_can s x _
@[simp] theorem State.incWrap64_tmb (x : Nat) : (s.incWrap64 x).tmb = s.tmb := State.wr64_tmb s x _
@[simp] theorem State.incWrap64_eth (x : Nat) : (s.incWrap64 x).eth = s.eth := State.wr64_eth s x _
@[simp] theorem State.incWrap64_gwy (x : Nat) : (s.incWrap64 x).gwy = s.gwy := State.wr64_gwy s x _
@[simp] theorem State.incWrap64_hrb (x : Nat) : (s.incWrap64 x).hrb = s.hrb := State.wr64_hrb s x _
@[simp] theorem State.incWrap64_mem (x : Nat) : (s.incWrap64 x).mem = s.mem := State.wr64_mem s x _
@[simp] theorem State.incWrap64_upd (x : Nat) : (s.incWrap64 x).upd = s.upd := State.wr64_upd s x _
@[simp] theorem State.incWrap64_mgt (x : Nat) : (s.incWrap64 x).mgt = s.mgt := State.wr64_mgt s x _
@[simp] theorem State.incWrap64_pmc (x : Nat) : (s.incWrap64 x).pmc = s.pmc := State.wr64_pmc s x _
@[simp] theorem State.incWrap64_evr (x : Nat) : (s.incWrap64 x).evr = s.evr := State.wr64_evr s x _
@[simp] theorem State.incWrap64_life (x : Nat) : (s.incWrap64 x).life = s.life := State.wr64_life s x _
@[simp] theorem State.incWrap64_pending (x : Nat) : (s.incWrap64 x).pending = s.pending := State.wr64_pending s x _

@[simp] theorem State.raise_ticks (p b : Nat) : (s.raise p b).ticks = s.ticks := State.putBit_ticks s _ _ _
@[simp] theorem State.raise_mtime (p b : Nat) : (s.raise p b).mtime = s.mtime := State.putBit_mtime s _ _ _
@[simp] theorem State.raise_shadow (p b : Nat) : (s.raise p b).shadow = s.shadow := State.putBit_shadow s _ _ _
@[simp] theorem State.raise_resp (p b : Nat) : (s.raise p b).resp = s.resp := State.putBit_resp s _ _ _
@[simp] theorem State.raise_free (p b : Nat) : (s.raise p b).free = s.free := State.putBit_free s _ _ _
@[simp] theorem State.raise_ten (p b : Nat) : (s.raise p b).ten = s.ten := State.putBit_ten s _ _ _
@[simp] theorem State.raise_sys (p b : Nat) : (s.raise p b).sys = s.sys := State.putBit_sys s _ _ _
@[simp] theorem State.raise_host (p b : Nat) : (s.raise p b).host = s.host := State.putBit_host s _ _ _
@[simp] theorem State.raise_cyc (p b : Nat) : (s.raise p b).cyc = s.cyc := State.putBit_cyc s _ _ _
@[simp] theorem State.raise_axs (p b : Nat) : (s.raise p b).axs = s.axs := State.putBit_axs s _ _ _
@[simp] theorem State.raise_rdn (p b : Nat) : (s.raise p b).rdn = s.rdn := State.putBit_rdn s _ _ _
@[simp] theorem State.raise_tri (p b : Nat) : (s.raise p b).tri = s.tri := State.putBit_tri s _ _ _
@[simp] theorem State.raise_dio (p b : Nat) : (s.raise p b).dio = s.dio := State.putBit_dio s _ _ _
@[simp] theorem State.raise_sfn (p b : Nat) : (s.raise p b).sfn = s.sfn := State.putBit_sfn s _ _ _
@[simp] theorem State.raise_pad (p b : Nat) : (s.raise p b).pad = s.pad := State.putBit_pad s _ _ _
@[simp] theorem State.raise_pre (p b : Nat) : (s.raise p b).pre = s.pre := State.putBit_pre s _ _ _
@[simp] theorem State.raise_drc (p b : Nat) : (s.raise p b).drc = s.drc := State.putBit_drc s _ _ _
@[simp] theorem State.raise_sar (p b : Nat) : (s.raise p b).sar = s.sar := State.putBit_sar s _ _ _
@[simp] theorem State.raise_loop (p b : Nat) : (s.raise p b).loop = s.loop := State.putBit_loop s _ _ _
@[simp] theorem State.raise_can (p b : Nat) : (s.raise p b).can = s.can := State.putBit_can s _ _ _
@[simp] theorem State.raise_tmb (p b : Nat) : (s.raise p b).tmb = s.tmb := State.putBit_tmb s _ _ _
@[simp] theorem State.raise_eth (p b : Nat) : (s.raise p b).eth = s.eth := State.putBit_eth s _ _ _
@[simp] theorem State.raise_gwy (p b : Nat) : (s.raise p b).gwy = s.gwy := State.putBit_gwy s _ _ _
@[simp] theorem State.raise_hrb (p b : Nat) : (s.raise p b).hrb = s.hrb := State.putBit_hrb s _ _ _
@[simp] theorem State.raise_mem (p b : Nat) : (s.raise p b).mem = s.mem := State.putBit_mem s _ _ _
@[simp] theorem State.raise_upd (p b : Nat) : (s.raise p b).upd = s.upd := State.putBit_upd s _ _ _
@[simp] theorem State.raise_mgt (p b : Nat) : (s.raise p b).mgt = s.mgt := State.putBit_mgt s _ _ _
@[simp] theorem State.raise_pmc (p b : Nat) : (s.raise p b).pmc = s.pmc := State.putBit_pmc s _ _ _
@[simp] theorem State.raise_evr (p b : Nat) : (s.raise p b).evr = s.evr := State.putBit_evr s _ _ _
@[simp] theorem State.raise_life (p b : Nat) : (s.raise p b).life = s.life := State.putBit_life s _ _ _
@[simp] theorem State.raise_pending (p b : Nat) : (s.raise p b).pending = s.pending := State.putBit_pending s _ _ _

@[simp] theorem State.err_ticks (p part code x : Nat) : (s.err p part code x).ticks = s.ticks := (State.wr_ticks _ _ _).trans (State.wr_ticks _ _ _)
@[simp] theorem State.err_mtime (p part code x : Nat) : (s.err p part code x).mtime = s.mtime := (State.wr_mtime _ _ _).trans (State.wr_mtime _ _ _)
@[simp] theorem State.err_shadow (p part code x : Nat) : (s.err p part code x).shadow = s.shadow := (State.wr_shadow _ _ _).trans (State.wr_shadow _ _ _)
@[simp] theorem State.err_resp (p part code x : Nat) : (s.err p part code x).resp = s.resp := (State.wr_resp _ _ _).trans (State.wr_resp _ _ _)
@[simp] theorem State.err_free (p part code x : Nat) : (s.err p part code x).free = s.free := (State.wr_free _ _ _).trans (State.wr_free _ _ _)
@[simp] theorem State.err_ten (p part code x : Nat) : (s.err p part code x).ten = s.ten := (State.wr_ten _ _ _).trans (State.wr_ten _ _ _)
@[simp] theorem State.err_sys (p part code x : Nat) : (s.err p part code x).sys = s.sys := (State.wr_sys _ _ _).trans (State.wr_sys _ _ _)
@[simp] theorem State.err_host (p part code x : Nat) : (s.err p part code x).host = s.host := (State.wr_host _ _ _).trans (State.wr_host _ _ _)
@[simp] theorem State.err_cyc (p part code x : Nat) : (s.err p part code x).cyc = s.cyc := (State.wr_cyc _ _ _).trans (State.wr_cyc _ _ _)
@[simp] theorem State.err_axs (p part code x : Nat) : (s.err p part code x).axs = s.axs := (State.wr_axs _ _ _).trans (State.wr_axs _ _ _)
@[simp] theorem State.err_rdn (p part code x : Nat) : (s.err p part code x).rdn = s.rdn := (State.wr_rdn _ _ _).trans (State.wr_rdn _ _ _)
@[simp] theorem State.err_tri (p part code x : Nat) : (s.err p part code x).tri = s.tri := (State.wr_tri _ _ _).trans (State.wr_tri _ _ _)
@[simp] theorem State.err_dio (p part code x : Nat) : (s.err p part code x).dio = s.dio := (State.wr_dio _ _ _).trans (State.wr_dio _ _ _)
@[simp] theorem State.err_sfn (p part code x : Nat) : (s.err p part code x).sfn = s.sfn := (State.wr_sfn _ _ _).trans (State.wr_sfn _ _ _)
@[simp] theorem State.err_pad (p part code x : Nat) : (s.err p part code x).pad = s.pad := (State.wr_pad _ _ _).trans (State.wr_pad _ _ _)
@[simp] theorem State.err_pre (p part code x : Nat) : (s.err p part code x).pre = s.pre := (State.wr_pre _ _ _).trans (State.wr_pre _ _ _)
@[simp] theorem State.err_drc (p part code x : Nat) : (s.err p part code x).drc = s.drc := (State.wr_drc _ _ _).trans (State.wr_drc _ _ _)
@[simp] theorem State.err_sar (p part code x : Nat) : (s.err p part code x).sar = s.sar := (State.wr_sar _ _ _).trans (State.wr_sar _ _ _)
@[simp] theorem State.err_loop (p part code x : Nat) : (s.err p part code x).loop = s.loop := (State.wr_loop _ _ _).trans (State.wr_loop _ _ _)
@[simp] theorem State.err_can (p part code x : Nat) : (s.err p part code x).can = s.can := (State.wr_can _ _ _).trans (State.wr_can _ _ _)
@[simp] theorem State.err_tmb (p part code x : Nat) : (s.err p part code x).tmb = s.tmb := (State.wr_tmb _ _ _).trans (State.wr_tmb _ _ _)
@[simp] theorem State.err_eth (p part code x : Nat) : (s.err p part code x).eth = s.eth := (State.wr_eth _ _ _).trans (State.wr_eth _ _ _)
@[simp] theorem State.err_gwy (p part code x : Nat) : (s.err p part code x).gwy = s.gwy := (State.wr_gwy _ _ _).trans (State.wr_gwy _ _ _)
@[simp] theorem State.err_hrb (p part code x : Nat) : (s.err p part code x).hrb = s.hrb := (State.wr_hrb _ _ _).trans (State.wr_hrb _ _ _)
@[simp] theorem State.err_mem (p part code x : Nat) : (s.err p part code x).mem = s.mem := (State.wr_mem _ _ _).trans (State.wr_mem _ _ _)
@[simp] theorem State.err_upd (p part code x : Nat) : (s.err p part code x).upd = s.upd := (State.wr_upd _ _ _).trans (State.wr_upd _ _ _)
@[simp] theorem State.err_mgt (p part code x : Nat) : (s.err p part code x).mgt = s.mgt := (State.wr_mgt _ _ _).trans (State.wr_mgt _ _ _)
@[simp] theorem State.err_pmc (p part code x : Nat) : (s.err p part code x).pmc = s.pmc := (State.wr_pmc _ _ _).trans (State.wr_pmc _ _ _)
@[simp] theorem State.err_evr (p part code x : Nat) : (s.err p part code x).evr = s.evr := (State.wr_evr _ _ _).trans (State.wr_evr _ _ _)
@[simp] theorem State.err_life (p part code x : Nat) : (s.err p part code x).life = s.life := (State.wr_life _ _ _).trans (State.wr_life _ _ _)
@[simp] theorem State.err_pending (p part code x : Nat) : (s.err p part code x).pending = s.pending := (State.wr_pending _ _ _).trans (State.wr_pending _ _ _)

@[simp] theorem State.errAt_ticks (p part code a : Nat) : (s.errAt p part code a).ticks = s.ticks := (State.wr_ticks _ _ _).trans (State.wr_ticks _ _ _)
@[simp] theorem State.errAt_mtime (p part code a : Nat) : (s.errAt p part code a).mtime = s.mtime := (State.wr_mtime _ _ _).trans (State.wr_mtime _ _ _)
@[simp] theorem State.errAt_shadow (p part code a : Nat) : (s.errAt p part code a).shadow = s.shadow := (State.wr_shadow _ _ _).trans (State.wr_shadow _ _ _)
@[simp] theorem State.errAt_resp (p part code a : Nat) : (s.errAt p part code a).resp = s.resp := (State.wr_resp _ _ _).trans (State.wr_resp _ _ _)
@[simp] theorem State.errAt_free (p part code a : Nat) : (s.errAt p part code a).free = s.free := (State.wr_free _ _ _).trans (State.wr_free _ _ _)
@[simp] theorem State.errAt_ten (p part code a : Nat) : (s.errAt p part code a).ten = s.ten := (State.wr_ten _ _ _).trans (State.wr_ten _ _ _)
@[simp] theorem State.errAt_sys (p part code a : Nat) : (s.errAt p part code a).sys = s.sys := (State.wr_sys _ _ _).trans (State.wr_sys _ _ _)
@[simp] theorem State.errAt_host (p part code a : Nat) : (s.errAt p part code a).host = s.host := (State.wr_host _ _ _).trans (State.wr_host _ _ _)
@[simp] theorem State.errAt_cyc (p part code a : Nat) : (s.errAt p part code a).cyc = s.cyc := (State.wr_cyc _ _ _).trans (State.wr_cyc _ _ _)
@[simp] theorem State.errAt_axs (p part code a : Nat) : (s.errAt p part code a).axs = s.axs := (State.wr_axs _ _ _).trans (State.wr_axs _ _ _)
@[simp] theorem State.errAt_rdn (p part code a : Nat) : (s.errAt p part code a).rdn = s.rdn := (State.wr_rdn _ _ _).trans (State.wr_rdn _ _ _)
@[simp] theorem State.errAt_tri (p part code a : Nat) : (s.errAt p part code a).tri = s.tri := (State.wr_tri _ _ _).trans (State.wr_tri _ _ _)
@[simp] theorem State.errAt_dio (p part code a : Nat) : (s.errAt p part code a).dio = s.dio := (State.wr_dio _ _ _).trans (State.wr_dio _ _ _)
@[simp] theorem State.errAt_sfn (p part code a : Nat) : (s.errAt p part code a).sfn = s.sfn := (State.wr_sfn _ _ _).trans (State.wr_sfn _ _ _)
@[simp] theorem State.errAt_pad (p part code a : Nat) : (s.errAt p part code a).pad = s.pad := (State.wr_pad _ _ _).trans (State.wr_pad _ _ _)
@[simp] theorem State.errAt_pre (p part code a : Nat) : (s.errAt p part code a).pre = s.pre := (State.wr_pre _ _ _).trans (State.wr_pre _ _ _)
@[simp] theorem State.errAt_drc (p part code a : Nat) : (s.errAt p part code a).drc = s.drc := (State.wr_drc _ _ _).trans (State.wr_drc _ _ _)
@[simp] theorem State.errAt_sar (p part code a : Nat) : (s.errAt p part code a).sar = s.sar := (State.wr_sar _ _ _).trans (State.wr_sar _ _ _)
@[simp] theorem State.errAt_loop (p part code a : Nat) : (s.errAt p part code a).loop = s.loop := (State.wr_loop _ _ _).trans (State.wr_loop _ _ _)
@[simp] theorem State.errAt_can (p part code a : Nat) : (s.errAt p part code a).can = s.can := (State.wr_can _ _ _).trans (State.wr_can _ _ _)
@[simp] theorem State.errAt_tmb (p part code a : Nat) : (s.errAt p part code a).tmb = s.tmb := (State.wr_tmb _ _ _).trans (State.wr_tmb _ _ _)
@[simp] theorem State.errAt_eth (p part code a : Nat) : (s.errAt p part code a).eth = s.eth := (State.wr_eth _ _ _).trans (State.wr_eth _ _ _)
@[simp] theorem State.errAt_gwy (p part code a : Nat) : (s.errAt p part code a).gwy = s.gwy := (State.wr_gwy _ _ _).trans (State.wr_gwy _ _ _)
@[simp] theorem State.errAt_hrb (p part code a : Nat) : (s.errAt p part code a).hrb = s.hrb := (State.wr_hrb _ _ _).trans (State.wr_hrb _ _ _)
@[simp] theorem State.errAt_mem (p part code a : Nat) : (s.errAt p part code a).mem = s.mem := (State.wr_mem _ _ _).trans (State.wr_mem _ _ _)
@[simp] theorem State.errAt_upd (p part code a : Nat) : (s.errAt p part code a).upd = s.upd := (State.wr_upd _ _ _).trans (State.wr_upd _ _ _)
@[simp] theorem State.errAt_mgt (p part code a : Nat) : (s.errAt p part code a).mgt = s.mgt := (State.wr_mgt _ _ _).trans (State.wr_mgt _ _ _)
@[simp] theorem State.errAt_pmc (p part code a : Nat) : (s.errAt p part code a).pmc = s.pmc := (State.wr_pmc _ _ _).trans (State.wr_pmc _ _ _)
@[simp] theorem State.errAt_evr (p part code a : Nat) : (s.errAt p part code a).evr = s.evr := (State.wr_evr _ _ _).trans (State.wr_evr _ _ _)
@[simp] theorem State.errAt_life (p part code a : Nat) : (s.errAt p part code a).life = s.life := (State.wr_life _ _ _).trans (State.wr_life _ _ _)
@[simp] theorem State.errAt_pending (p part code a : Nat) : (s.errAt p part code a).pending = s.pending := (State.wr_pending _ _ _).trans (State.wr_pending _ _ _)

@[simp] theorem State.setShadow_ticks (x n : Nat) : (s.setShadow x n).ticks = s.ticks := rfl
@[simp] theorem State.setShadow_mtime (x n : Nat) : (s.setShadow x n).mtime = s.mtime := rfl
@[simp] theorem State.setShadow_regs (x n : Nat) : (s.setShadow x n).regs = s.regs := rfl
@[simp] theorem State.setShadow_resp (x n : Nat) : (s.setShadow x n).resp = s.resp := rfl
@[simp] theorem State.setShadow_free (x n : Nat) : (s.setShadow x n).free = s.free := rfl
@[simp] theorem State.setShadow_ten (x n : Nat) : (s.setShadow x n).ten = s.ten := rfl
@[simp] theorem State.setShadow_sys (x n : Nat) : (s.setShadow x n).sys = s.sys := rfl
@[simp] theorem State.setShadow_host (x n : Nat) : (s.setShadow x n).host = s.host := rfl
@[simp] theorem State.setShadow_cyc (x n : Nat) : (s.setShadow x n).cyc = s.cyc := rfl
@[simp] theorem State.setShadow_axs (x n : Nat) : (s.setShadow x n).axs = s.axs := rfl
@[simp] theorem State.setShadow_rdn (x n : Nat) : (s.setShadow x n).rdn = s.rdn := rfl
@[simp] theorem State.setShadow_tri (x n : Nat) : (s.setShadow x n).tri = s.tri := rfl
@[simp] theorem State.setShadow_dio (x n : Nat) : (s.setShadow x n).dio = s.dio := rfl
@[simp] theorem State.setShadow_sfn (x n : Nat) : (s.setShadow x n).sfn = s.sfn := rfl
@[simp] theorem State.setShadow_pad (x n : Nat) : (s.setShadow x n).pad = s.pad := rfl
@[simp] theorem State.setShadow_pre (x n : Nat) : (s.setShadow x n).pre = s.pre := rfl
@[simp] theorem State.setShadow_drc (x n : Nat) : (s.setShadow x n).drc = s.drc := rfl
@[simp] theorem State.setShadow_sar (x n : Nat) : (s.setShadow x n).sar = s.sar := rfl
@[simp] theorem State.setShadow_loop (x n : Nat) : (s.setShadow x n).loop = s.loop := rfl
@[simp] theorem State.setShadow_can (x n : Nat) : (s.setShadow x n).can = s.can := rfl
@[simp] theorem State.setShadow_tmb (x n : Nat) : (s.setShadow x n).tmb = s.tmb := rfl
@[simp] theorem State.setShadow_eth (x n : Nat) : (s.setShadow x n).eth = s.eth := rfl
@[simp] theorem State.setShadow_gwy (x n : Nat) : (s.setShadow x n).gwy = s.gwy := rfl
@[simp] theorem State.setShadow_hrb (x n : Nat) : (s.setShadow x n).hrb = s.hrb := rfl
@[simp] theorem State.setShadow_mem (x n : Nat) : (s.setShadow x n).mem = s.mem := rfl
@[simp] theorem State.setShadow_upd (x n : Nat) : (s.setShadow x n).upd = s.upd := rfl
@[simp] theorem State.setShadow_mgt (x n : Nat) : (s.setShadow x n).mgt = s.mgt := rfl
@[simp] theorem State.setShadow_pmc (x n : Nat) : (s.setShadow x n).pmc = s.pmc := rfl
@[simp] theorem State.setShadow_evr (x n : Nat) : (s.setShadow x n).evr = s.evr := rfl
@[simp] theorem State.setShadow_life (x n : Nat) : (s.setShadow x n).life = s.life := rfl
@[simp] theorem State.setShadow_pending (x n : Nat) : (s.setShadow x n).pending = s.pending := rfl

@[simp] theorem State.dropShadows_ticks (p : Nat) : (s.dropShadows p).ticks = s.ticks := rfl
@[simp] theorem State.dropShadows_mtime (p : Nat) : (s.dropShadows p).mtime = s.mtime := rfl
@[simp] theorem State.dropShadows_regs (p : Nat) : (s.dropShadows p).regs = s.regs := rfl
@[simp] theorem State.dropShadows_resp (p : Nat) : (s.dropShadows p).resp = s.resp := rfl
@[simp] theorem State.dropShadows_free (p : Nat) : (s.dropShadows p).free = s.free := rfl
@[simp] theorem State.dropShadows_ten (p : Nat) : (s.dropShadows p).ten = s.ten := rfl
@[simp] theorem State.dropShadows_sys (p : Nat) : (s.dropShadows p).sys = s.sys := rfl
@[simp] theorem State.dropShadows_host (p : Nat) : (s.dropShadows p).host = s.host := rfl
@[simp] theorem State.dropShadows_cyc (p : Nat) : (s.dropShadows p).cyc = s.cyc := rfl
@[simp] theorem State.dropShadows_axs (p : Nat) : (s.dropShadows p).axs = s.axs := rfl
@[simp] theorem State.dropShadows_rdn (p : Nat) : (s.dropShadows p).rdn = s.rdn := rfl
@[simp] theorem State.dropShadows_tri (p : Nat) : (s.dropShadows p).tri = s.tri := rfl
@[simp] theorem State.dropShadows_dio (p : Nat) : (s.dropShadows p).dio = s.dio := rfl
@[simp] theorem State.dropShadows_sfn (p : Nat) : (s.dropShadows p).sfn = s.sfn := rfl
@[simp] theorem State.dropShadows_pad (p : Nat) : (s.dropShadows p).pad = s.pad := rfl
@[simp] theorem State.dropShadows_pre (p : Nat) : (s.dropShadows p).pre = s.pre := rfl
@[simp] theorem State.dropShadows_drc (p : Nat) : (s.dropShadows p).drc = s.drc := rfl
@[simp] theorem State.dropShadows_sar (p : Nat) : (s.dropShadows p).sar = s.sar := rfl
@[simp] theorem State.dropShadows_loop (p : Nat) : (s.dropShadows p).loop = s.loop := rfl
@[simp] theorem State.dropShadows_can (p : Nat) : (s.dropShadows p).can = s.can := rfl
@[simp] theorem State.dropShadows_tmb (p : Nat) : (s.dropShadows p).tmb = s.tmb := rfl
@[simp] theorem State.dropShadows_eth (p : Nat) : (s.dropShadows p).eth = s.eth := rfl
@[simp] theorem State.dropShadows_gwy (p : Nat) : (s.dropShadows p).gwy = s.gwy := rfl
@[simp] theorem State.dropShadows_hrb (p : Nat) : (s.dropShadows p).hrb = s.hrb := rfl
@[simp] theorem State.dropShadows_mem (p : Nat) : (s.dropShadows p).mem = s.mem := rfl
@[simp] theorem State.dropShadows_upd (p : Nat) : (s.dropShadows p).upd = s.upd := rfl
@[simp] theorem State.dropShadows_mgt (p : Nat) : (s.dropShadows p).mgt = s.mgt := rfl
@[simp] theorem State.dropShadows_pmc (p : Nat) : (s.dropShadows p).pmc = s.pmc := rfl
@[simp] theorem State.dropShadows_evr (p : Nat) : (s.dropShadows p).evr = s.evr := rfl
@[simp] theorem State.dropShadows_life (p : Nat) : (s.dropShadows p).life = s.life := rfl
@[simp] theorem State.dropShadows_pending (p : Nat) : (s.dropShadows p).pending = s.pending := rfl

@[simp] theorem State.elapse_regs (n : Nat) : (s.elapse n).regs = s.regs := rfl
@[simp] theorem State.elapse_shadow (n : Nat) : (s.elapse n).shadow = s.shadow := rfl
@[simp] theorem State.elapse_resp (n : Nat) : (s.elapse n).resp = s.resp := rfl
@[simp] theorem State.elapse_free (n : Nat) : (s.elapse n).free = s.free := rfl
@[simp] theorem State.elapse_ten (n : Nat) : (s.elapse n).ten = s.ten := rfl
@[simp] theorem State.elapse_sys (n : Nat) : (s.elapse n).sys = s.sys := rfl
@[simp] theorem State.elapse_host (n : Nat) : (s.elapse n).host = s.host := rfl
@[simp] theorem State.elapse_cyc (n : Nat) : (s.elapse n).cyc = s.cyc := rfl
@[simp] theorem State.elapse_axs (n : Nat) : (s.elapse n).axs = s.axs := rfl
@[simp] theorem State.elapse_rdn (n : Nat) : (s.elapse n).rdn = s.rdn := rfl
@[simp] theorem State.elapse_tri (n : Nat) : (s.elapse n).tri = s.tri := rfl
@[simp] theorem State.elapse_dio (n : Nat) : (s.elapse n).dio = s.dio := rfl
@[simp] theorem State.elapse_sfn (n : Nat) : (s.elapse n).sfn = s.sfn := rfl
@[simp] theorem State.elapse_pad (n : Nat) : (s.elapse n).pad = s.pad := rfl
@[simp] theorem State.elapse_pre (n : Nat) : (s.elapse n).pre = s.pre := rfl
@[simp] theorem State.elapse_drc (n : Nat) : (s.elapse n).drc = s.drc := rfl
@[simp] theorem State.elapse_sar (n : Nat) : (s.elapse n).sar = s.sar := rfl
@[simp] theorem State.elapse_loop (n : Nat) : (s.elapse n).loop = s.loop := rfl
@[simp] theorem State.elapse_can (n : Nat) : (s.elapse n).can = s.can := rfl
@[simp] theorem State.elapse_tmb (n : Nat) : (s.elapse n).tmb = s.tmb := rfl
@[simp] theorem State.elapse_eth (n : Nat) : (s.elapse n).eth = s.eth := rfl
@[simp] theorem State.elapse_gwy (n : Nat) : (s.elapse n).gwy = s.gwy := rfl
@[simp] theorem State.elapse_hrb (n : Nat) : (s.elapse n).hrb = s.hrb := rfl
@[simp] theorem State.elapse_mem (n : Nat) : (s.elapse n).mem = s.mem := rfl
@[simp] theorem State.elapse_upd (n : Nat) : (s.elapse n).upd = s.upd := rfl
@[simp] theorem State.elapse_mgt (n : Nat) : (s.elapse n).mgt = s.mgt := rfl
@[simp] theorem State.elapse_pmc (n : Nat) : (s.elapse n).pmc = s.pmc := rfl
@[simp] theorem State.elapse_evr (n : Nat) : (s.elapse n).evr = s.evr := rfl
@[simp] theorem State.elapse_life (n : Nat) : (s.elapse n).life = s.life := rfl
@[simp] theorem State.elapse_pending (n : Nat) : (s.elapse n).pending = s.pending := rfl
@[simp] theorem State.elapse_ticks (n : Nat) : (s.elapse n).ticks = s.ticks + n := rfl

@[simp] theorem State.raiseIf_ticks (c : Bool) (p b : Nat) : (s.raiseIf c p b).ticks = s.ticks := by
  cases c
  · rfl
  · exact State.raise_ticks s p b
@[simp] theorem State.raiseIf_mtime (c : Bool) (p b : Nat) : (s.raiseIf c p b).mtime = s.mtime := by
  cases c
  · rfl
  · exact State.raise_mtime s p b
@[simp] theorem State.raiseIf_shadow (c : Bool) (p b : Nat) : (s.raiseIf c p b).shadow = s.shadow := by
  cases c
  · rfl
  · exact State.raise_shadow s p b
@[simp] theorem State.raiseIf_resp (c : Bool) (p b : Nat) : (s.raiseIf c p b).resp = s.resp := by
  cases c
  · rfl
  · exact State.raise_resp s p b
@[simp] theorem State.raiseIf_free (c : Bool) (p b : Nat) : (s.raiseIf c p b).free = s.free := by
  cases c
  · rfl
  · exact State.raise_free s p b
@[simp] theorem State.raiseIf_ten (c : Bool) (p b : Nat) : (s.raiseIf c p b).ten = s.ten := by
  cases c
  · rfl
  · exact State.raise_ten s p b
@[simp] theorem State.raiseIf_sys (c : Bool) (p b : Nat) : (s.raiseIf c p b).sys = s.sys := by
  cases c
  · rfl
  · exact State.raise_sys s p b
@[simp] theorem State.raiseIf_host (c : Bool) (p b : Nat) : (s.raiseIf c p b).host = s.host := by
  cases c
  · rfl
  · exact State.raise_host s p b
@[simp] theorem State.raiseIf_cyc (c : Bool) (p b : Nat) : (s.raiseIf c p b).cyc = s.cyc := by
  cases c
  · rfl
  · exact State.raise_cyc s p b
@[simp] theorem State.raiseIf_axs (c : Bool) (p b : Nat) : (s.raiseIf c p b).axs = s.axs := by
  cases c
  · rfl
  · exact State.raise_axs s p b
@[simp] theorem State.raiseIf_rdn (c : Bool) (p b : Nat) : (s.raiseIf c p b).rdn = s.rdn := by
  cases c
  · rfl
  · exact State.raise_rdn s p b
@[simp] theorem State.raiseIf_tri (c : Bool) (p b : Nat) : (s.raiseIf c p b).tri = s.tri := by
  cases c
  · rfl
  · exact State.raise_tri s p b
@[simp] theorem State.raiseIf_dio (c : Bool) (p b : Nat) : (s.raiseIf c p b).dio = s.dio := by
  cases c
  · rfl
  · exact State.raise_dio s p b
@[simp] theorem State.raiseIf_sfn (c : Bool) (p b : Nat) : (s.raiseIf c p b).sfn = s.sfn := by
  cases c
  · rfl
  · exact State.raise_sfn s p b
@[simp] theorem State.raiseIf_pad (c : Bool) (p b : Nat) : (s.raiseIf c p b).pad = s.pad := by
  cases c
  · rfl
  · exact State.raise_pad s p b
@[simp] theorem State.raiseIf_pre (c : Bool) (p b : Nat) : (s.raiseIf c p b).pre = s.pre := by
  cases c
  · rfl
  · exact State.raise_pre s p b
@[simp] theorem State.raiseIf_drc (c : Bool) (p b : Nat) : (s.raiseIf c p b).drc = s.drc := by
  cases c
  · rfl
  · exact State.raise_drc s p b
@[simp] theorem State.raiseIf_sar (c : Bool) (p b : Nat) : (s.raiseIf c p b).sar = s.sar := by
  cases c
  · rfl
  · exact State.raise_sar s p b
@[simp] theorem State.raiseIf_loop (c : Bool) (p b : Nat) : (s.raiseIf c p b).loop = s.loop := by
  cases c
  · rfl
  · exact State.raise_loop s p b
@[simp] theorem State.raiseIf_can (c : Bool) (p b : Nat) : (s.raiseIf c p b).can = s.can := by
  cases c
  · rfl
  · exact State.raise_can s p b
@[simp] theorem State.raiseIf_tmb (c : Bool) (p b : Nat) : (s.raiseIf c p b).tmb = s.tmb := by
  cases c
  · rfl
  · exact State.raise_tmb s p b
@[simp] theorem State.raiseIf_eth (c : Bool) (p b : Nat) : (s.raiseIf c p b).eth = s.eth := by
  cases c
  · rfl
  · exact State.raise_eth s p b
@[simp] theorem State.raiseIf_gwy (c : Bool) (p b : Nat) : (s.raiseIf c p b).gwy = s.gwy := by
  cases c
  · rfl
  · exact State.raise_gwy s p b
@[simp] theorem State.raiseIf_hrb (c : Bool) (p b : Nat) : (s.raiseIf c p b).hrb = s.hrb := by
  cases c
  · rfl
  · exact State.raise_hrb s p b
@[simp] theorem State.raiseIf_mem (c : Bool) (p b : Nat) : (s.raiseIf c p b).mem = s.mem := by
  cases c
  · rfl
  · exact State.raise_mem s p b
@[simp] theorem State.raiseIf_upd (c : Bool) (p b : Nat) : (s.raiseIf c p b).upd = s.upd := by
  cases c
  · rfl
  · exact State.raise_upd s p b
@[simp] theorem State.raiseIf_mgt (c : Bool) (p b : Nat) : (s.raiseIf c p b).mgt = s.mgt := by
  cases c
  · rfl
  · exact State.raise_mgt s p b
@[simp] theorem State.raiseIf_pmc (c : Bool) (p b : Nat) : (s.raiseIf c p b).pmc = s.pmc := by
  cases c
  · rfl
  · exact State.raise_pmc s p b
@[simp] theorem State.raiseIf_evr (c : Bool) (p b : Nat) : (s.raiseIf c p b).evr = s.evr := by
  cases c
  · rfl
  · exact State.raise_evr s p b
@[simp] theorem State.raiseIf_life (c : Bool) (p b : Nat) : (s.raiseIf c p b).life = s.life := by
  cases c
  · rfl
  · exact State.raise_life s p b
@[simp] theorem State.raiseIf_pending (c : Bool) (p b : Nat) : (s.raiseIf c p b).pending = s.pending := by
  cases c
  · rfl
  · exact State.raise_pending s p b

end Sys2Proof.Machine
end

