-- ==== Sys2Proof/Laws/Frames.lean ====
section
/-! SUPPORT. What the frames of the commands (time, the main domain, register access, keys, the management port) do once
their conditions are met. -/
namespace Sys2Proof.Machine

/-! ### The frames of a command -/

variable {s : State} {dt : Nat} {f : State → State}

theorem onMain_ready (h1 : (s.elapse dt).sys.on = true) (h2 : (s.elapse dt).sys.down = none) :
    onMain dt s f = .next (f (s.elapse dt)).msixSend := by
  unfold onMain
  rw [h1, h2]
  rfl

theorem onShed_on (h1 : (s.elapse dt).sys.on = true) : onShed dt s f = .next (f (s.elapse dt)).msixSend := by
  unfold onShed
  rw [h1]
  rfl

theorem always_next : always dt s f = .next (f (s.elapse dt)).msixSend := rfl

theorem guarded_ok {ok : Bool} {r : Host.Outcome State Fault Refusal} (h : ok = true) : guarded ok dt s r = r := by
  unfold guarded
  rw [h]
  rfl

theorem cmdW_ok {who : Init} {p o : Nat} {g : Nat → State → State} (h1 : s.live who = true)
    (h2 : s.mayWrite who p o = true) : s.cmdW who p o g = g (s.partNo who) s.ack := by
  unfold State.cmdW
  rw [h1, h2]
  rfl

theorem cmdW_denied {who : Init} {p o : Nat} {g : Nat → State → State} (h1 : s.live who = true)
    (h2 : s.mayWrite who p o = false) : s.cmdW who p o g = s.deny who p o true false := by
  unfold State.cmdW
  rw [h1, h2]
  rfl

theorem cmdR_ok {who : Init} {p o : Nat} {g : Nat → State → State} (h1 : s.live who = true)
    (h2 : s.mayRead who p o = true) : s.cmdR who p o g = g (s.partNo who) s := by
  unfold State.cmdR
  rw [h1, h2]
  rfl

theorem cmdR_denied {who : Init} {p o : Nat} {g : Nat → State → State} (h1 : s.live who = true)
    (h2 : s.mayRead who p o = false) : s.cmdR who p o g = s.deny who p o false false := by
  unfold State.cmdR
  rw [h1, h2]
  rfl

theorem keyed_ok {p o part key : Nat} {v : Word} (h : nf v.toNat 31 16 = key) : s.keyed p o part key v f = f s := by
  unfold State.keyed
  rw [if_pos h]

theorem keyed_bad {p o part key : Nat} {v : Word} (h : nf v.toNat 31 16 ≠ key) :
    s.keyed p o part key v f = s.err p part eBadKey (reg p o) := by
  unfold State.keyed
  rw [if_neg h]

theorem onOne_one : onOne 1 f s = f s := rfl

theorem onOne_other {v : Word} (h : v ≠ 1) : onOne v f s = s := by
  unfold onOne
  rw [if_neg h]

theorem cycCmd_ok {who : Init} {n k : Nat} {v : Word} {g : Nat → State → State} (h : CycWrites who n k v s) :
    s.cycCmd who n k v g = g (s.partNo who) s.ack := by
  obtain ⟨⟨-, h2, h3⟩, h4, h5⟩ := h
  unfold State.cycCmd
  rw [cmdW_ok h2 h3, keyed_ok h4, if_pos h5]

theorem cycCmd_badKey {who : Init} {n k : Nat} {v : Word} {g : Nat → State → State} (h : Writes who (cycPage n) 0xC00 s)
    (hk : nf v.toNat 31 16 ≠ 0x6C3A) : s.cycCmd who n k v g = s.ack.err (cycPage n) (s.partNo who) eBadKey (reg (cycPage n) 0xC00) := by
  unfold State.cycCmd
  rw [cmdW_ok h.2.1 h.2.2, keyed_bad hk]

/-! ### The management port -/

theorem mgtFrame_heard (h : Heard s) : s.mgtFrame f = f s.heard := by
  unfold State.mgtFrame
  rw [h.1, h.2]
  rfl

theorem mgtAuth_ok {cmd slot : Nat} {m : MgtFrame} (h : Authentic cmd m s) (hs : slot = mgtNum m 0 1) :
    s.heard.mgtAuth cmd slot m f = f s.authed := by
  subst hs
  obtain ⟨-, h2, h3, h4, h5⟩ := h
  have e1 : s.heard.mgt = s.mgt := State.incSat_mgt s R.MGT_RXFRM
  have e2 : { s.heard with mgt := { s.heard.mgt with nonce := none } } = s.authed := by
    unfold State.authed
    rw [e1]
  have e3 : s.authed.mgtMask (mgtNum m 0 1) = s.heard.mgtMask (mgtNum m 0 1) := rfl
  have e4 : s.authed.closed = s.heard.closed := rfl
  unfold State.mgtAuth
  rw [e1, show s.heard.secSince = s.secSince from rfl, h2, h3, ← e1, e2]
  simp only [Bool.false_eq_true, if_false, Bool.not_true]
  rw [e3, e4, h4]
  by_cases hc : cmd = 0x16 ∨ cmd = 0x17
  · obtain ⟨ha, hb⟩ := h5 hc
    simp [ha, hb]
  · have hx : (cmd == 0x16 || cmd == 0x17) = false := by simpa using hc
    simp [hx]

theorem mgtCmd_ok {cmd len : Nat} {m : MgtFrame} {g : Nat → State → State} (h : Authentic cmd m s)
    (hl : m.pay.length = len) (ho : s.sys.on = true) : s.mgtCmd cmd len m g = g (mgtNum m 0 1) s.authed := by
  have e : s.authed.mainOn = true := (congrArg SysS.on (State.incSat_sys s R.MGT_RXFRM)).trans ho
  unfold State.mgtCmd
  rw [mgtFrame_heard h.1]
  simp only [hl, ne_eq, not_true_eq_false, if_false]
  rw [mgtAuth_ok h rfl, e]
  rfl

theorem mgtOpen_ok {cmd : Nat} {m : MgtFrame} (h : Heard s) (hl : m.pay.length = 0) : s.mgtOpen cmd m f = f s.heard := by
  unfold State.mgtOpen
  rw [mgtFrame_heard h]
  simp only [hl, ne_eq, not_true_eq_false, if_false]

theorem mgtRead_open {cmd len : Nat} {m : MgtFrame} {g : Nat → (Nat → Nat → Nat) → State → State} (h : Heard s)
    (ha : m.auth = false) (hc : s.heard.closed = false) (hl : m.pay.length = len) :
    s.mgtRead cmd len m g = g 0 (fun o n => mgtNum m o n) s.heard := by
  unfold State.mgtRead
  rw [mgtFrame_heard h]
  simp only [ha, hc, hl, ne_eq, not_true_eq_false, if_false, Bool.not_false, if_true, Bool.false_eq_true]

theorem mgtRead_auth {cmd len : Nat} {m : MgtFrame} {g : Nat → (Nat → Nat → Nat) → State → State} (h : Authentic cmd m s)
    (ha : m.auth = true) (hl : m.pay.length = len + 1) :
    s.mgtRead cmd len m g = g (mgtNum m 0 1) (fun o n => mgtNum m (o + 1) n) s.authed := by
  unfold State.mgtRead
  rw [mgtFrame_heard h.1]
  simp only [ha, hl, ne_eq, not_true_eq_false, if_false, Bool.not_true, Bool.false_eq_true]
  exact mgtAuth_ok h rfl

/-! ### An answered register command: everything but the answer is as before -/

theorem ack_def : { s with resp := Resp.done } = s.ack := rfl

/-! ### A frame that is counted, and one that is authenticated -/

@[simp] theorem heard_ticks : s.heard.ticks = s.ticks := State.incSat_ticks s R.MGT_RXFRM
@[simp] theorem heard_mtime : s.heard.mtime = s.mtime := State.incSat_mtime s R.MGT_RXFRM
@[simp] theorem heard_shadow : s.heard.shadow = s.shadow := State.incSat_shadow s R.MGT_RXFRM
@[simp] theorem heard_resp : s.heard.resp = s.resp := State.incSat_resp s R.MGT_RXFRM
@[simp] theorem heard_free : s.heard.free = s.free := State.incSat_free s R.MGT_RXFRM
@[simp] theorem heard_ten : s.heard.ten = s.ten := State.incSat_ten s R.MGT_RXFRM
@[simp] theorem heard_sys : s.heard.sys = s.sys := State.incSat_sys s R.MGT_RXFRM
@[simp] theorem heard_host : s.heard.host = s.host := State.incSat_host s R.MGT_RXFRM
@[simp] theorem heard_cyc : s.heard.cyc = s.cyc := State.incSat_cyc s R.MGT_RXFRM
@[simp] theorem heard_axs : s.heard.axs = s.axs := State.incSat_axs s R.MGT_RXFRM
@[simp] theorem heard_rdn : s.heard.rdn = s.rdn := State.incSat_rdn s R.MGT_RXFRM
@[simp] theorem heard_tri : s.heard.tri = s.tri := State.incSat_tri s R.MGT_RXFRM
@[simp] theorem heard_dio : s.heard.dio = s.dio := State.incSat_dio s R.MGT_RXFRM
@[simp] theorem heard_sfn : s.heard.sfn = s.sfn := State.incSat_sfn s R.MGT_RXFRM
@[simp] theorem heard_pad : s.heard.pad = s.pad := State.incSat_pad s R.MGT_RXFRM
@[simp] theorem heard_pre : s.heard.pre = s.pre := State.incSat_pre s R.MGT_RXFRM
@[simp] theorem heard_drc : s.heard.drc = s.drc := State.incSat_drc s R.MGT_RXFRM
@[simp] theorem heard_sar : s.heard.sar = s.sar := State.incSat_sar s R.MGT_RXFRM
@[simp] theorem heard_loop : s.heard.loop = s.loop := State.incSat_loop s R.MGT_RXFRM
@[simp] theorem heard_can : s.heard.can = s.can := State.incSat_can s R.MGT_RXFRM
@[simp] theorem heard_tmb : s.heard.tmb = s.tmb := State.incSat_tmb s R.MGT_RXFRM
@[simp] theorem heard_eth : s.heard.eth = s.eth := State.incSat_eth s R.MGT_RXFRM
@[simp] theorem heard_gwy : s.heard.gwy = s.gwy := State.incSat_gwy s R.MGT_RXFRM
@[simp] theorem heard_hrb : s.heard.hrb = s.hrb := State.incSat_hrb s R.MGT_RXFRM
@[simp] theorem heard_mem : s.heard.mem = s.mem := State.incSat_mem s R.MGT_RXFRM
@[simp] theorem heard_upd : s.heard.upd = s.upd := State.incSat_upd s R.MGT_RXFRM
@[simp] theorem heard_mgt : s.heard.mgt = s.mgt := State.incSat_mgt s R.MGT_RXFRM
@[simp] theorem heard_pmc : s.heard.pmc = s.pmc := State.incSat_pmc s R.MGT_RXFRM
@[simp] theorem heard_evr : s.heard.evr = s.evr := State.incSat_evr s R.MGT_RXFRM
@[simp] theorem heard_life : s.heard.life = s.life := State.incSat_life s R.MGT_RXFRM
@[simp] theorem heard_pending : s.heard.pending = s.pending := State.incSat_pending s R.MGT_RXFRM
@[simp] theorem authed_ticks : s.authed.ticks = s.ticks := heard_ticks
@[simp] theorem authed_mtime : s.authed.mtime = s.mtime := heard_mtime
@[simp] theorem authed_shadow : s.authed.shadow = s.shadow := heard_shadow
@[simp] theorem authed_resp : s.authed.resp = s.resp := heard_resp
@[simp] theorem authed_free : s.authed.free = s.free := heard_free
@[simp] theorem authed_ten : s.authed.ten = s.ten := heard_ten
@[simp] theorem authed_sys : s.authed.sys = s.sys := heard_sys
@[simp] theorem authed_host : s.authed.host = s.host := heard_host
@[simp] theorem authed_cyc : s.authed.cyc = s.cyc := heard_cyc
@[simp] theorem authed_axs : s.authed.axs = s.axs := heard_axs
@[simp] theorem authed_rdn : s.authed.rdn = s.rdn := heard_rdn
@[simp] theorem authed_tri : s.authed.tri = s.tri := heard_tri
@[simp] theorem authed_dio : s.authed.dio = s.dio := heard_dio
@[simp] theorem authed_sfn : s.authed.sfn = s.sfn := heard_sfn
@[simp] theorem authed_pad : s.authed.pad = s.pad := heard_pad
@[simp] theorem authed_pre : s.authed.pre = s.pre := heard_pre
@[simp] theorem authed_drc : s.authed.drc = s.drc := heard_drc
@[simp] theorem authed_sar : s.authed.sar = s.sar := heard_sar
@[simp] theorem authed_loop : s.authed.loop = s.loop := heard_loop
@[simp] theorem authed_can : s.authed.can = s.can := heard_can
@[simp] theorem authed_tmb : s.authed.tmb = s.tmb := heard_tmb
@[simp] theorem authed_eth : s.authed.eth = s.eth := heard_eth
@[simp] theorem authed_gwy : s.authed.gwy = s.gwy := heard_gwy
@[simp] theorem authed_hrb : s.authed.hrb = s.hrb := heard_hrb
@[simp] theorem authed_mem : s.authed.mem = s.mem := heard_mem
@[simp] theorem authed_upd : s.authed.upd = s.upd := heard_upd
@[simp] theorem authed_pmc : s.authed.pmc = s.pmc := heard_pmc
@[simp] theorem authed_evr : s.authed.evr = s.evr := heard_evr
@[simp] theorem authed_life : s.authed.life = s.life := heard_life
@[simp] theorem authed_pending : s.authed.pending = s.pending := heard_pending

end Sys2Proof.Machine
end

