-- ==== Sys2Proof/Laws/Kept.lean ====
section
/-! SUPPORT. What every operation keeps: the canonical form of the register table and of the memories, the queue, and
the direction of time; with the lemmas about tables and loops that the per-file lemmas rest on. -/

set_option linter.all false
namespace Sys2Proof.Machine

/-- The tables are canonical, the queue is `b`, and at least `n` ticks have passed. -/
def Kept (b : List Instr) (n : Nat) (s : State) : Prop :=
  RegsOk s.regs ∧ MemOk s.mem.dram ∧ MemOk s.mem.sram ∧ s.pending = b ∧ n ≤ s.ticks

/-! ### Tables -/

theorem tabDel_sub {α : Type} (t : Tab α) (k : Nat) : ∀ e ∈ tabDel t k, e ∈ t ∧ e.1 ≠ k := by
  induction t with
  | nil => simp [tabDel]
  | cons a t ih =>
    obtain ⟨a, v⟩ := a
    intro e h
    unfold tabDel at h
    split at h
    · have := ih e h; simp [this]
    · rcases List.mem_cons.1 h with rfl | h
      · simp_all
      · have := ih e h; simp [this]

/-- A rising table as a chain of bounds. -/
theorem rising_cons {α : Type} (a : Nat × α) (t : Tab α) :
    rising (a :: t) = true ↔ (∀ e ∈ t, a.1 < e.1) ∧ rising t = true := by
  induction t generalizing a with
  | nil => simp [rising]
  | cons c t ih =>
    obtain ⟨a, v⟩ := a
    obtain ⟨c, w⟩ := c
    have := ih (c, w)
    simp only [rising, Bool.and_eq_true, decide_eq_true_eq, List.mem_cons, forall_eq_or_imp]
    constructor
    · rintro ⟨h1, h2⟩
      exact ⟨⟨h1, fun e he => Nat.lt_trans h1 ((this.1 h2).1 e he)⟩, h2⟩
    · rintro ⟨⟨h1, -⟩, h2⟩
      exact ⟨h1, h2⟩

theorem rising_del {α : Type} (t : Tab α) (k : Nat) (h : rising t = true) : rising (tabDel t k) = true := by
  induction t with
  | nil => simp [tabDel, rising]
  | cons a t ih =>
    obtain ⟨a, v⟩ := a
    rw [rising_cons] at h
    unfold tabDel
    split
    · exact ih h.2
    · rw [rising_cons]
      exact ⟨fun e he => h.1 e (tabDel_sub t k e he).1, ih h.2⟩

theorem tabIns_mem {α : Type} (t : Tab α) (k : Nat) (v : α) : ∀ e ∈ tabIns t k v, e = (k, v) ∨ e ∈ t := by
  induction t with
  | nil => simp [tabIns]
  | cons a t ih =>
    obtain ⟨a, w⟩ := a
    intro e h
    unfold tabIns at h
    split at h
    · simpa using h
    · rcases List.mem_cons.1 h with rfl | h
      · simp
      · rcases ih e h with h | h <;> simp [h]

theorem rising_ins {α : Type} (t : Tab α) (k : Nat) (v : α) (h : rising t = true) (hk : ∀ e ∈ t, e.1 ≠ k) :
    rising (tabIns t k v) = true := by
  induction t with
  | nil => simp [tabIns, rising]
  | cons a t ih =>
    obtain ⟨a, w⟩ := a
    rw [rising_cons] at h
    unfold tabIns
    split
    · rename_i hlt
      rw [rising_cons, rising_cons]
      refine ⟨?_, h⟩
      intro e he
      rcases List.mem_cons.1 he with rfl | he
      · exact hlt
      · exact Nat.lt_trans hlt (h.1 e he)
    · rename_i hlt
      rw [rising_cons]
      refine ⟨?_, ih h.2 (fun e he => hk e (List.mem_cons_of_mem _ he))⟩
      intro e he
      rcases tabIns_mem t k v e he with rfl | he
      · have := hk (a, w) (by simp)
        simp only [ne_eq] at this ⊢
        omega
      · exact h.1 e he

theorem rising_set {α : Type} [DecidableEq α] (d : α) (t : Tab α) (k : Nat) (v : α) (h : rising t = true) :
    rising (tabSet d t k v) = true := by
  unfold tabSet
  split
  · exact rising_del t k h
  · exact rising_ins _ _ _ (rising_del t k h) (fun e he => (tabDel_sub t k e he).2)

/-- An entry of a written table is the new one, and not the default, or an old one. -/
theorem tabSet_mem {α : Type} [DecidableEq α] (d : α) (t : Tab α) (k : Nat) (v : α) :
    ∀ e ∈ tabSet d t k v, (e = (k, v) ∧ v ≠ d) ∨ e ∈ t := by
  intro e he
  unfold tabSet at he
  split at he
  · exact .inr (tabDel_sub t k e he).1
  · rename_i hv
    rcases tabIns_mem _ _ _ e he with rfl | he
    · exact .inl ⟨rfl, hv⟩
    · exact .inr (tabDel_sub t k e he).1

theorem rising_filter {α : Type} (t : Tab α) (p : Nat × α → Bool) (h : rising t = true) : rising (t.filter p) = true := by
  induction t with
  | nil => simp [rising]
  | cons a t ih =>
    rw [rising_cons] at h
    by_cases hp : p a = true
    · rw [List.filter_cons_of_pos hp, rising_cons]
      exact ⟨fun e he => h.1 e (List.mem_filter.1 he).1, ih h.2⟩
    · rw [List.filter_cons_of_neg hp]
      exact ih h.2

/-! ### The register table and the memories -/

theorem regsOk_set (t : Tab Word) (x : Nat) (w : Word) (h : RegsOk t) : RegsOk (tabSet (resetWord x) t x w) := by
  refine ⟨rising_set _ _ _ _ h.1, fun e he => ?_⟩
  rcases tabSet_mem _ _ _ _ e he with ⟨rfl, hv⟩ | he
  · exact hv
  · exact h.2 e he

theorem regsOk_filter (t : Tab Word) (p : Nat × Word → Bool) (h : RegsOk t) : RegsOk (t.filter p) :=
  ⟨rising_filter _ _ h.1, fun e he => h.2 e (List.mem_filter.1 he).1⟩

theorem regsOk_foldl {α : Type} (l : List α) (f : Tab Word → α → Tab Word) (hf : ∀ t a, RegsOk t → RegsOk (f t a))
    (t : Tab Word) (h : RegsOk t) : RegsOk (l.foldl f t) := by
  induction l generalizing t with
  | nil => exact h
  | cons a l ih => exact ih _ (hf _ _ h)

theorem memOk_nil : MemOk [] := by unfold MemOk; decide

/-- The memories of the reset state are in their canonical form. -/
theorem reset_memory_wf : Memory.wf State.reset.mem.dram = true ∧ Memory.wf State.reset.mem.sram = true := by decide

theorem memOk_iff (m : Tab Byte) : MemOk m ↔ rising m = true ∧ ∀ e ∈ m, e.2 ≠ 0 := by
  simp [MemOk, Memory.wf, tabWf]

theorem memOk_set (m : Tab Byte) (a : Nat) (v : Byte) (h : MemOk m) : MemOk (memSet m a v) := by
  rw [memOk_iff] at *
  refine ⟨rising_set _ _ _ _ h.1, fun e he => ?_⟩
  rcases tabSet_mem _ _ _ _ e he with ⟨rfl, hv⟩ | he
  · exact hv
  · exact h.2 e he

theorem memOk_filter (m : Tab Byte) (p : Nat × Byte → Bool) (h : MemOk m) : MemOk (m.filter p) := by
  rw [memOk_iff] at *
  exact ⟨rising_filter _ _ h.1, fun e he => h.2 e (List.mem_filter.1 he).1⟩

theorem memOk_put (m : Tab Byte) (a : Nat) (l : List Nat) (h : MemOk m) : MemOk (memPut m a l) := by
  induction l generalizing m a with
  | nil => exact h
  | cons b l ih => exact ih _ _ (memOk_set _ _ _ h)

theorem memOk_forL {α : Type} (l : List α) (f : α → Tab Byte → Tab Byte) (hf : ∀ a m, MemOk m → MemOk (f a m))
    (m : Tab Byte) (h : MemOk m) : MemOk (forL l f m) := by
  unfold forL
  induction l generalizing m with
  | nil => exact h
  | cons a l ih => exact ih _ (hf _ _ h)

/-! ### Loops -/

theorem kept_forL {b : List Instr} {n : Nat} {α : Type} (l : List α) (f : α → State → State)
    (hf : ∀ a t, Kept b n t → Kept b n (f a t)) (s : State) (h : Kept b n s) : Kept b n (forL l f s) := by
  unfold forL
  induction l generalizing s with
  | nil => exact h
  | cons a l ih => exact ih _ (hf _ _ h)

theorem kept_forN {b : List Instr} {n : Nat} (k : Nat) (f : Nat → State → State)
    (hf : ∀ a t, Kept b n t → Kept b n (f a t)) (s : State) (h : Kept b n s) : Kept b n (forN k f s) := by
  have := kept_forL (List.range k) f hf s h
  exact this

/-- Register entries that are taken back to their reset value. -/
theorem kept_filter {b : List Instr} {n : Nat} {s : State} (p : Nat × Word → Bool) (h : Kept b n s) :
    Kept b n { s with regs := s.regs.filter p } :=
  ⟨regsOk_filter _ _ h.1, h.2⟩

/-- A fold keeps what its start has and each of its steps keeps. -/
theorem foldl_keeps {α β : Type} (p : β → Prop) (l : List α) (f : β → α → β) (hf : ∀ a x, p a → p (f a x)) (a : β)
    (h : p a) : p (l.foldl f a) := by
  induction l generalizing a with
  | nil => exact h
  | cons x l ih => exact ih _ (hf _ _ h)

/-- A fold over states. -/
theorem kept_foldl {b : List Instr} {n : Nat} {α : Type} (l : List α) (f : State → α → State)
    (hf : ∀ t a, Kept b n t → Kept b n (f t a)) (s : State) (h : Kept b n s) : Kept b n (l.foldl f s) :=
  foldl_keeps (Kept b n) l f hf s h

/-- A fold that carries a state and an answer. -/
theorem kept_foldl_fst {b : List Instr} {n : Nat} {α β : Type} (l : List α) (f : State × β → α → State × β)
    (hf : ∀ t a, Kept b n t.1 → Kept b n (f t a).1) (s : State × β) (h : Kept b n s.1) : Kept b n (l.foldl f s).1 :=
  foldl_keeps (fun r : State × β => Kept b n r.1) l f hf s h

/-- A counted loop that carries a state and an answer. -/
theorem kept_forN_fst {b : List Instr} {n : Nat} {β : Type} (k : Nat) (f : Nat → State × β → State × β)
    (hf : ∀ i t, Kept b n t.1 → Kept b n (f i t).1) (s : State × β) (h : Kept b n s.1) : Kept b n (forN k f s).1 :=
  kept_foldl_fst _ _ (fun t i => hf i t) s h

/-- A loop over a list that carries a state and an answer. -/
theorem kept_forL_fst {b : List Instr} {n : Nat} {α β : Type} (l : List α) (f : α → State × β → State × β)
    (hf : ∀ a t, Kept b n t.1 → Kept b n (f a t).1) (s : State × β) (h : Kept b n s.1) : Kept b n (forL l f s).1 :=
  kept_foldl_fst _ _ (fun t a => hf a t) s h

/-- A fold that carries an answer and a state. -/
theorem kept_foldl_snd {b : List Instr} {n : Nat} {α β : Type} (l : List α) (f : β × State → α → β × State)
    (hf : ∀ t a, Kept b n t.2 → Kept b n (f t a).2) (s : β × State) (h : Kept b n s.2) : Kept b n (l.foldl f s).2 :=
  foldl_keeps (fun r : β × State => Kept b n r.2) l f hf s h

/-- A record update that leaves the tables, the queue and the ticks alone. -/
theorem kept_of_same {b : List Instr} {n : Nat} {s t : State} (h : Kept b n s) (h1 : t.regs = s.regs)
    (h2 : t.mem.dram = s.mem.dram) (h3 : t.mem.sram = s.mem.sram) (h4 : t.pending = s.pending) (h5 : t.ticks = s.ticks) :
    Kept b n t := by
  unfold Kept at *
  rw [h1, h2, h3, h4, h5]
  exact h

/-! ### Shapes of a body -/

/-- Every next state of an outcome is kept. -/
structure KeptOut (b : List Instr) (n : Nat) (o : Host.Outcome State Fault Refusal) : Prop where
  get : ∀ t, o = .next t → Kept b n t

/-- A state that may be absent is kept. -/
structure KeptOpt (b : List Instr) (n : Nat) (o : Option State) : Prop where
  get : ∀ t, o = some t → Kept b n t

/-- An outcome that may be absent is kept. -/
structure KeptOptOut (b : List Instr) (n : Nat) (o : Option (Host.Outcome State Fault Refusal)) : Prop where
  get : ∀ p, o = some p → KeptOut b n p

section
variable {b : List Instr} {n : Nat}

theorem keptOut_next {t : State} (h : Kept b n t) : KeptOut b n (.next t) := by
  refine ⟨fun u hu => ?_⟩; cases hu; exact h

theorem keptOut_refused (r : Refusal) : KeptOut b n (.refused r) := by
  refine ⟨fun u hu => ?_⟩; cases hu

theorem keptOut_fault (r : Fault) : KeptOut b n (.fault r) := by
  refine ⟨fun u hu => ?_⟩; cases hu

theorem keptOpt_some {t : State} (h : Kept b n t) : KeptOpt b n (some t) := by
  refine ⟨fun u hu => ?_⟩; cases hu; exact h

theorem keptOpt_none : KeptOpt b n none := by
  refine ⟨fun u hu => ?_⟩; cases hu

theorem keptOpt_get {o : Option State} {t : State} (e : o = some t) (h : KeptOpt b n o) : Kept b n t := h.get t e

theorem keptOptOut_some {o : Host.Outcome State Fault Refusal} (h : KeptOut b n o) : KeptOptOut b n (some o) := by
  refine ⟨fun u hu => ?_⟩; cases hu; exact h

theorem keptOptOut_none : KeptOptOut b n none := by
  refine ⟨fun u hu => ?_⟩; cases hu

theorem keptOptOut_get {o : Option (Host.Outcome State Fault Refusal)} {p : Host.Outcome State Fault Refusal}
    (e : o = some p) (h : KeptOptOut b n o) : KeptOut b n p := h.get p e

theorem keptOut_get {o : Host.Outcome State Fault Refusal} {t : State} (e : o = .next t) (h : KeptOut b n o) :
    Kept b n t := h.get t e

theorem kept_fst {α : Type} {p : State × α} {t : State} {x : α} (e : p = (t, x)) (h : Kept b n p.1) : Kept b n t := by
  rw [e] at h; exact h

theorem kept_snd {α : Type} {p : α × State} {t : State} {x : α} (e : p = (x, t)) (h : Kept b n p.2) : Kept b n t := by
  rw [e] at h; exact h

theorem kept_ite {c : Prop} [Decidable c] {x y : State} (hx : Kept b n x) (hy : Kept b n y) :
    Kept b n (if c then x else y) := by
  split <;> assumption

theorem kept_ite_fst {α : Type} {c : Prop} [Decidable c] {x y : State × α} (hx : Kept b n x.1) (hy : Kept b n y.1) :
    Kept b n (if c then x else y).1 := by
  split <;> assumption

theorem kept_ite_snd {α : Type} {c : Prop} [Decidable c] {x y : α × State} (hx : Kept b n x.2) (hy : Kept b n y.2) :
    Kept b n (if c then x else y).2 := by
  split <;> assumption

theorem keptOut_ite {c : Prop} [Decidable c] {x y : Host.Outcome State Fault Refusal} (hx : KeptOut b n x)
    (hy : KeptOut b n y) : KeptOut b n (if c then x else y) := by
  split <;> assumption

theorem keptOpt_ite {c : Prop} [Decidable c] {x y : Option State} (hx : KeptOpt b n x) (hy : KeptOpt b n y) :
    KeptOpt b n (if c then x else y) := by
  split <;> assumption

theorem keptOptOut_ite {c : Prop} [Decidable c] {x y : Option (Host.Outcome State Fault Refusal)}
    (hx : KeptOptOut b n x) (hy : KeptOptOut b n y) : KeptOptOut b n (if c then x else y) := by
  split <;> assumption

/-- The parts of `Kept`, put together again. -/
theorem kept_upd {s : State} (h : Kept b n s) :
    RegsOk s.regs ∧ MemOk s.mem.dram ∧ MemOk s.mem.sram ∧ s.pending = b ∧ n ≤ s.ticks := h

end

end Sys2Proof.Machine
end

