-- ==== Sys2Proof/Laws/Keep/Ops.lean ====
section
/-! SUPPORT. What the operations of Ops.lean keep: canonical tables, the queue and the direction of time. -/

set_option linter.all false
namespace Sys2Proof.Machine

variable {b : List Instr} {n : Nat}

theorem State.regSet_kept (s : State) (x : Nat) (w : Word) (hs : Kept b n s) : Kept b n (State.regSet s x w) := by
  unfold State.regSet
  repeat' first
    | with_reducible assumption | with_reducible apply keptOut_next | with_reducible apply keptOut_refused
    | with_reducible apply keptOpt_some | with_reducible apply keptOpt_none | with_reducible apply keptOptOut_some
    | with_reducible apply keptOptOut_none | with_reducible apply kept_ite | with_reducible apply keptOut_ite
    | with_reducible apply keptOpt_ite | with_reducible apply keptOptOut_ite | with_reducible apply kept_ite_fst
    | with_reducible apply kept_ite_snd | with_reducible apply kept_forL | with_reducible apply kept_forN
    | with_reducible apply kept_foldl | with_reducible apply kept_forN_fst | with_reducible apply kept_forL_fst
    | with_reducible apply kept_foldl_fst | with_reducible apply kept_foldl_snd
    | (intro a x; intro (hk : Kept b n x.1))
    | grind [Kept, regsOk_set, memOk_put, memOk_filter, regsOk_filter, memOk_nil]

theorem State.wr_kept (s : State) (x : Nat) (x3 : Nat) (hs : Kept b n s) : Kept b n (State.wr s x x3) := by
  unfold State.wr
  repeat' first
    | with_reducible assumption | with_reducible apply keptOut_next | with_reducible apply keptOut_refused
    | with_reducible apply keptOpt_some | with_reducible apply keptOpt_none | with_reducible apply keptOptOut_some
    | with_reducible apply keptOptOut_none | with_reducible apply kept_ite | with_reducible apply keptOut_ite
    | with_reducible apply keptOpt_ite | with_reducible apply keptOptOut_ite | with_reducible apply kept_ite_fst
    | with_reducible apply kept_ite_snd | with_reducible apply State.regSet_kept | with_reducible apply kept_forL
    | with_reducible apply kept_forN | with_reducible apply kept_foldl | with_reducible apply kept_forN_fst
    | with_reducible apply kept_forL_fst | with_reducible apply kept_foldl_fst | with_reducible apply kept_foldl_snd
    | (intro a x; intro (hk : Kept b n x.1))

theorem State.errAt_kept (s : State) (p : Nat) (part : Nat) (code : Nat) (a : Nat) (hs : Kept b n s) : Kept b n (State.errAt s p part code a) := by
  unfold State.errAt
  repeat' first
    | with_reducible assumption | with_reducible apply keptOut_next | with_reducible apply keptOut_refused
    | with_reducible apply keptOpt_some | with_reducible apply keptOpt_none | with_reducible apply keptOptOut_some
    | with_reducible apply keptOptOut_none | with_reducible apply kept_ite | with_reducible apply keptOut_ite
    | with_reducible apply keptOpt_ite | with_reducible apply keptOptOut_ite | with_reducible apply kept_ite_fst
    | with_reducible apply kept_ite_snd | with_reducible apply State.wr_kept | with_reducible apply kept_forL
    | with_reducible apply kept_forN | with_reducible apply kept_foldl | with_reducible apply kept_forN_fst
    | with_reducible apply kept_forL_fst | with_reducible apply kept_foldl_fst | with_reducible apply kept_foldl_snd
    | (intro a x; intro (hk : Kept b n x.1))

theorem State.putBit_kept (s : State) (x : Nat) (i : Nat) (x4 : Bool) (hs : Kept b n s) : Kept b n (State.putBit s x i x4) := by
  unfold State.putBit
  repeat' first
    | with_reducible assumption | with_reducible apply keptOut_next | with_reducible apply keptOut_refused
    | with_reducible apply keptOpt_some | with_reducible apply keptOpt_none | with_reducible apply keptOptOut_some
    | with_reducible apply keptOptOut_none | with_reducible apply kept_ite | with_reducible apply keptOut_ite
    | with_reducible apply keptOpt_ite | with_reducible apply keptOptOut_ite | with_reducible apply kept_ite_fst
    | with_reducible apply kept_ite_snd | with_reducible apply State.wr_kept | with_reducible apply kept_forL
    | with_reducible apply kept_forN | with_reducible apply kept_foldl | with_reducible apply kept_forN_fst
    | with_reducible apply kept_forL_fst | with_reducible apply kept_foldl_fst | with_reducible apply kept_foldl_snd
    | (intro a x; intro (hk : Kept b n x.1))

theorem State.raise_kept (s : State) (p : Nat) (x3 : Nat) (hs : Kept b n s) : Kept b n (State.raise s p x3) := by
  unfold State.raise
  repeat' first
    | with_reducible assumption | with_reducible apply keptOut_next | with_reducible apply keptOut_refused
    | with_reducible apply keptOpt_some | with_reducible apply keptOpt_none | with_reducible apply keptOptOut_some
    | with_reducible apply keptOptOut_none | with_reducible apply kept_ite | with_reducible apply keptOut_ite
    | with_reducible apply keptOpt_ite | with_reducible apply keptOptOut_ite | with_reducible apply kept_ite_fst
    | with_reducible apply kept_ite_snd | with_reducible apply State.putBit_kept | with_reducible apply kept_forL
    | with_reducible apply kept_forN | with_reducible apply kept_foldl | with_reducible apply kept_forN_fst
    | with_reducible apply kept_forL_fst | with_reducible apply kept_foldl_fst | with_reducible apply kept_foldl_snd
    | (intro a x; intro (hk : Kept b n x.1))

theorem State.incSat_kept (s : State) (x : Nat) (hs : Kept b n s) : Kept b n (State.incSat s x) := by
  unfold State.incSat
  repeat' first
    | with_reducible assumption | with_reducible apply keptOut_next | with_reducible apply keptOut_refused
    | with_reducible apply keptOpt_some | with_reducible apply keptOpt_none | with_reducible apply keptOptOut_some
    | with_reducible apply keptOptOut_none | with_reducible apply kept_ite | with_reducible apply keptOut_ite
    | with_reducible apply keptOpt_ite | with_reducible apply keptOptOut_ite | with_reducible apply kept_ite_fst
    | with_reducible apply kept_ite_snd | with_reducible apply State.wr_kept | with_reducible apply kept_forL
    | with_reducible apply kept_forN | with_reducible apply kept_foldl | with_reducible apply kept_forN_fst
    | with_reducible apply kept_forL_fst | with_reducible apply kept_foldl_fst | with_reducible apply kept_foldl_snd
    | (intro a x; intro (hk : Kept b n x.1))

theorem State.err_kept (s : State) (p : Nat) (part : Nat) (code : Nat) (x : Nat) (hs : Kept b n s) : Kept b n (State.err s p part code x) := by
  unfold State.err
  repeat' first
    | with_reducible assumption | with_reducible apply keptOut_next | with_reducible apply keptOut_refused
    | with_reducible apply keptOpt_some | with_reducible apply keptOpt_none | with_reducible apply keptOptOut_some
    | with_reducible apply keptOptOut_none | with_reducible apply kept_ite | with_reducible apply keptOut_ite
    | with_reducible apply keptOpt_ite | with_reducible apply keptOptOut_ite | with_reducible apply kept_ite_fst
    | with_reducible apply kept_ite_snd | with_reducible apply State.wr_kept | with_reducible apply kept_forL
    | with_reducible apply kept_forN | with_reducible apply kept_foldl | with_reducible apply kept_forN_fst
    | with_reducible apply kept_forL_fst | with_reducible apply kept_foldl_fst | with_reducible apply kept_foldl_snd
    | (intro a x; intro (hk : Kept b n x.1))

theorem State.draw_kept (s : State) (w : Nat) (hs : Kept b n s) : Kept b n (State.draw s w).2 := by
  unfold State.draw
  repeat' first
    | with_reducible assumption | with_reducible apply keptOut_next | with_reducible apply keptOut_refused
    | with_reducible apply keptOpt_some | with_reducible apply keptOpt_none | with_reducible apply keptOptOut_some
    | with_reducible apply keptOptOut_none | with_reducible apply kept_ite | with_reducible apply keptOut_ite
    | with_reducible apply keptOpt_ite | with_reducible apply keptOptOut_ite | with_reducible apply kept_ite_fst
    | with_reducible apply kept_ite_snd | with_reducible apply kept_forL | with_reducible apply kept_forN
    | with_reducible apply kept_foldl | with_reducible apply kept_forN_fst | with_reducible apply kept_forL_fst
    | with_reducible apply kept_foldl_fst | with_reducible apply kept_foldl_snd
    | (intro a x; intro (hk : Kept b n x.1)) | (unfold Kept; dsimp only; with_reducible apply kept_upd)

theorem State.errOpen_kept (s : State) (p : Nat) (part : Nat) (code : Nat) (hs : Kept b n s) : Kept b n (State.errOpen s p part code) := by
  unfold State.errOpen
  repeat' first
    | with_reducible assumption | with_reducible apply keptOut_next | with_reducible apply keptOut_refused
    | with_reducible apply keptOpt_some | with_reducible apply keptOpt_none | with_reducible apply keptOptOut_some
    | with_reducible apply keptOptOut_none | with_reducible apply kept_ite | with_reducible apply keptOut_ite
    | with_reducible apply keptOpt_ite | with_reducible apply keptOptOut_ite | with_reducible apply kept_ite_fst
    | with_reducible apply kept_ite_snd | with_reducible apply State.errAt_kept | with_reducible apply State.draw_kept
    | with_reducible apply kept_forL | with_reducible apply kept_forN | with_reducible apply kept_foldl
    | with_reducible apply kept_forN_fst | with_reducible apply kept_forL_fst | with_reducible apply kept_foldl_fst
    | with_reducible apply kept_foldl_snd | (intro a x; intro (hk : Kept b n x.1))

theorem State.raiseIf_kept (s : State) (c : Bool) (p : Nat) (x4 : Nat) (hs : Kept b n s) : Kept b n (State.raiseIf s c p x4) := by
  unfold State.raiseIf
  repeat' first
    | with_reducible assumption | with_reducible apply keptOut_next | with_reducible apply keptOut_refused
    | with_reducible apply keptOpt_some | with_reducible apply keptOpt_none | with_reducible apply keptOptOut_some
    | with_reducible apply keptOptOut_none | with_reducible apply kept_ite | with_reducible apply keptOut_ite
    | with_reducible apply keptOpt_ite | with_reducible apply keptOptOut_ite | with_reducible apply kept_ite_fst
    | with_reducible apply kept_ite_snd | with_reducible apply State.raise_kept | with_reducible apply kept_forL
    | with_reducible apply kept_forN | with_reducible apply kept_foldl | with_reducible apply kept_forN_fst
    | with_reducible apply kept_forL_fst | with_reducible apply kept_foldl_fst | with_reducible apply kept_foldl_snd
    | (intro a x; intro (hk : Kept b n x.1))

theorem State.addSat_kept (s : State) (x : Nat) (x3 : Nat) (hs : Kept b n s) : Kept b n (State.addSat s x x3) := by
  unfold State.addSat
  repeat' first
    | with_reducible assumption | with_reducible apply keptOut_next | with_reducible apply keptOut_refused
    | with_reducible apply keptOpt_some | with_reducible apply keptOpt_none | with_reducible apply keptOptOut_some
    | with_reducible apply keptOptOut_none | with_reducible apply kept_ite | with_reducible apply keptOut_ite
    | with_reducible apply keptOpt_ite | with_reducible apply keptOptOut_ite | with_reducible apply kept_ite_fst
    | with_reducible apply kept_ite_snd | with_reducible apply State.wr_kept | with_reducible apply kept_forL
    | with_reducible apply kept_forN | with_reducible apply kept_foldl | with_reducible apply kept_forN_fst
    | with_reducible apply kept_forL_fst | with_reducible apply kept_foldl_fst | with_reducible apply kept_foldl_snd
    | (intro a x; intro (hk : Kept b n x.1))

theorem State.putFld_kept (s : State) (x : Nat) (hi : Nat) (lo : Nat) (v : Nat) (hs : Kept b n s) : Kept b n (State.putFld s x hi lo v) := by
  unfold State.putFld
  repeat' first
    | with_reducible assumption | with_reducible apply keptOut_next | with_reducible apply keptOut_refused
    | with_reducible apply keptOpt_some | with_reducible apply keptOpt_none | with_reducible apply keptOptOut_some
    | with_reducible apply keptOptOut_none | with_reducible apply kept_ite | with_reducible apply keptOut_ite
    | with_reducible apply keptOpt_ite | with_reducible apply keptOptOut_ite | with_reducible apply kept_ite_fst
    | with_reducible apply kept_ite_snd | with_reducible apply State.wr_kept | with_reducible apply kept_forL
    | with_reducible apply kept_forN | with_reducible apply kept_foldl | with_reducible apply kept_forN_fst
    | with_reducible apply kept_forL_fst | with_reducible apply kept_foldl_fst | with_reducible apply kept_foldl_snd
    | (intro a x; intro (hk : Kept b n x.1))

theorem State.elapse_kept (s : State) (x2 : Nat) (hs : Kept b n s) : Kept b n (State.elapse s x2) := by
  unfold State.elapse
  repeat' first
    | with_reducible assumption | with_reducible apply keptOut_next | with_reducible apply keptOut_refused
    | with_reducible apply keptOpt_some | with_reducible apply keptOpt_none | with_reducible apply keptOptOut_some
    | with_reducible apply keptOptOut_none | with_reducible apply kept_ite | with_reducible apply keptOut_ite
    | with_reducible apply keptOpt_ite | with_reducible apply keptOptOut_ite | with_reducible apply kept_ite_fst
    | with_reducible apply kept_ite_snd | with_reducible apply kept_forL | with_reducible apply kept_forN
    | with_reducible apply kept_foldl | with_reducible apply kept_forN_fst | with_reducible apply kept_forL_fst
    | with_reducible apply kept_foldl_fst | with_reducible apply kept_foldl_snd
    | (intro a x; intro (hk : Kept b n x.1))
    | grind [Kept, regsOk_set, memOk_put, memOk_filter, regsOk_filter, memOk_nil]

theorem State.wr64_kept (s : State) (x : Nat) (x3 : Nat) (hs : Kept b n s) : Kept b n (State.wr64 s x x3) := by
  unfold State.wr64
  repeat' first
    | with_reducible assumption | with_reducible apply keptOut_next | with_reducible apply keptOut_refused
    | with_reducible apply keptOpt_some | with_reducible apply keptOpt_none | with_reducible apply keptOptOut_some
    | with_reducible apply keptOptOut_none | with_reducible apply kept_ite | with_reducible apply keptOut_ite
    | with_reducible apply keptOpt_ite | with_reducible apply keptOptOut_ite | with_reducible apply kept_ite_fst
    | with_reducible apply kept_ite_snd | with_reducible apply State.wr_kept | with_reducible apply kept_forL
    | with_reducible apply kept_forN | with_reducible apply kept_foldl | with_reducible apply kept_forN_fst
    | with_reducible apply kept_forL_fst | with_reducible apply kept_foldl_fst | with_reducible apply kept_foldl_snd
    | (intro a x; intro (hk : Kept b n x.1))

theorem State.incSatF_kept (s : State) (x : Nat) (hi : Nat) (lo : Nat) (hs : Kept b n s) : Kept b n (State.incSatF s x hi lo) := by
  unfold State.incSatF
  repeat' first
    | with_reducible assumption | with_reducible apply keptOut_next | with_reducible apply keptOut_refused
    | with_reducible apply keptOpt_some | with_reducible apply keptOpt_none | with_reducible apply keptOptOut_some
    | with_reducible apply keptOptOut_none | with_reducible apply kept_ite | with_reducible apply keptOut_ite
    | with_reducible apply keptOpt_ite | with_reducible apply keptOptOut_ite | with_reducible apply kept_ite_fst
    | with_reducible apply kept_ite_snd | with_reducible apply State.putFld_kept | with_reducible apply kept_forL
    | with_reducible apply kept_forN | with_reducible apply kept_foldl | with_reducible apply kept_forN_fst
    | with_reducible apply kept_forL_fst | with_reducible apply kept_foldl_fst | with_reducible apply kept_foldl_snd
    | (intro a x; intro (hk : Kept b n x.1))

theorem State.srcReport_kept (s : State) (sel : MapEnt → Bool) (take : State → MapEnt → List Nat × Nat × Nat) (hs : Kept b n s) : Kept b n (State.srcReport s sel take) := by
  unfold State.srcReport
  repeat' first
    | with_reducible assumption | with_reducible apply kept_forN | with_reducible apply kept_forN_fst
    | with_reducible apply kept_forL_fst | (intro a x; intro (hk : Kept b n x.1))
    | grind [Kept, regsOk_set, memOk_put, memOk_filter, regsOk_filter, memOk_nil]

theorem State.dropShadows_kept (s : State) (p : Nat) (hs : Kept b n s) : Kept b n (State.dropShadows s p) := by
  unfold State.dropShadows
  repeat' first
    | with_reducible assumption | with_reducible apply keptOut_next | with_reducible apply keptOut_refused
    | with_reducible apply keptOpt_some | with_reducible apply keptOpt_none | with_reducible apply keptOptOut_some
    | with_reducible apply keptOptOut_none | with_reducible apply kept_ite | with_reducible apply keptOut_ite
    | with_reducible apply keptOpt_ite | with_reducible apply keptOptOut_ite | with_reducible apply kept_ite_fst
    | with_reducible apply kept_ite_snd | with_reducible apply kept_forL | with_reducible apply kept_forN
    | with_reducible apply kept_foldl | with_reducible apply kept_forN_fst | with_reducible apply kept_forL_fst
    | with_reducible apply kept_foldl_fst | with_reducible apply kept_foldl_snd
    | (intro a x; intro (hk : Kept b n x.1)) | (unfold Kept; dsimp only; with_reducible apply kept_upd)

theorem State.zero_kept (s : State) (xs : List Nat) (hs : Kept b n s) : Kept b n (State.zero s xs) := by
  unfold State.zero
  repeat' first
    | with_reducible assumption | with_reducible apply keptOut_next | with_reducible apply keptOut_refused
    | with_reducible apply keptOpt_some | with_reducible apply keptOpt_none | with_reducible apply keptOptOut_some
    | with_reducible apply keptOptOut_none | with_reducible apply kept_ite | with_reducible apply keptOut_ite
    | with_reducible apply keptOpt_ite | with_reducible apply keptOptOut_ite | with_reducible apply kept_ite_fst
    | with_reducible apply kept_ite_snd | with_reducible apply State.wr_kept | with_reducible apply kept_forL
    | with_reducible apply kept_forN | with_reducible apply kept_foldl | with_reducible apply kept_forN_fst
    | with_reducible apply kept_forL_fst | with_reducible apply kept_foldl_fst | with_reducible apply kept_foldl_snd
    | (intro a x; intro (hk : Kept b n x)) | (intro a x; intro (hk : Kept b n x.1))

theorem State.setPstate_kept (s : State) (x2 : Nat) (code : Nat) (hs : Kept b n s) : Kept b n (State.setPstate s x2 code) := by
  unfold State.setPstate
  repeat' first
    | with_reducible assumption | with_reducible apply keptOut_next | with_reducible apply keptOut_refused
    | with_reducible apply keptOpt_some | with_reducible apply keptOpt_none | with_reducible apply keptOptOut_some
    | with_reducible apply keptOptOut_none | with_reducible apply kept_ite | with_reducible apply keptOut_ite
    | with_reducible apply keptOpt_ite | with_reducible apply keptOptOut_ite | with_reducible apply kept_ite_fst
    | with_reducible apply kept_ite_snd | with_reducible apply State.raise_kept
    | with_reducible apply State.putFld_kept | with_reducible apply kept_forL | with_reducible apply kept_forN
    | with_reducible apply kept_foldl | with_reducible apply kept_forN_fst | with_reducible apply kept_forL_fst
    | with_reducible apply kept_foldl_fst | with_reducible apply kept_foldl_snd
    | (intro a x; intro (hk : Kept b n x.1))

theorem State.dramPut_kept (s : State) (o : Nat) (bs : List Nat) (hs : Kept b n s) : Kept b n (State.dramPut s o bs) := by
  unfold State.dramPut
  repeat' first
    | with_reducible assumption | with_reducible apply keptOut_next | with_reducible apply keptOut_refused
    | with_reducible apply keptOpt_some | with_reducible apply keptOpt_none | with_reducible apply keptOptOut_some
    | with_reducible apply keptOptOut_none | with_reducible apply kept_ite | with_reducible apply keptOut_ite
    | with_reducible apply keptOpt_ite | with_reducible apply keptOptOut_ite | with_reducible apply kept_ite_fst
    | with_reducible apply kept_ite_snd | with_reducible apply kept_forL | with_reducible apply kept_forN
    | with_reducible apply kept_foldl | with_reducible apply kept_forN_fst | with_reducible apply kept_forL_fst
    | with_reducible apply kept_foldl_fst | with_reducible apply kept_foldl_snd
    | (intro a x; intro (hk : Kept b n x.1))
    | grind [Kept, regsOk_set, memOk_put, memOk_filter, regsOk_filter, memOk_nil]

theorem State.incWrap_kept (s : State) (x : Nat) (hs : Kept b n s) : Kept b n (State.incWrap s x) := by
  unfold State.incWrap
  repeat' first
    | with_reducible assumption | with_reducible apply keptOut_next | with_reducible apply keptOut_refused
    | with_reducible apply keptOpt_some | with_reducible apply keptOpt_none | with_reducible apply keptOptOut_some
    | with_reducible apply keptOptOut_none | with_reducible apply kept_ite | with_reducible apply keptOut_ite
    | with_reducible apply keptOpt_ite | with_reducible apply keptOptOut_ite | with_reducible apply kept_ite_fst
    | with_reducible apply kept_ite_snd | with_reducible apply State.wr_kept | with_reducible apply kept_forL
    | with_reducible apply kept_forN | with_reducible apply kept_foldl | with_reducible apply kept_forN_fst
    | with_reducible apply kept_forL_fst | with_reducible apply kept_foldl_fst | with_reducible apply kept_foldl_snd
    | (intro a x; intro (hk : Kept b n x.1))

theorem State.setShadow_kept (s : State) (x : Nat) (x3 : Nat) (hs : Kept b n s) : Kept b n (State.setShadow s x x3) := by
  unfold State.setShadow
  repeat' first
    | with_reducible assumption | with_reducible apply keptOut_next | with_reducible apply keptOut_refused
    | with_reducible apply keptOpt_some | with_reducible apply keptOpt_none | with_reducible apply keptOptOut_some
    | with_reducible apply keptOptOut_none | with_reducible apply kept_ite | with_reducible apply keptOut_ite
    | with_reducible apply keptOpt_ite | with_reducible apply keptOptOut_ite | with_reducible apply kept_ite_fst
    | with_reducible apply kept_ite_snd | with_reducible apply kept_forL | with_reducible apply kept_forN
    | with_reducible apply kept_foldl | with_reducible apply kept_forN_fst | with_reducible apply kept_forL_fst
    | with_reducible apply kept_foldl_fst | with_reducible apply kept_foldl_snd
    | (intro a x; intro (hk : Kept b n x.1)) | (unfold Kept; dsimp only; with_reducible apply kept_upd)

theorem State.incWrapF_kept (s : State) (x : Nat) (hi : Nat) (lo : Nat) (hs : Kept b n s) : Kept b n (State.incWrapF s x hi lo) := by
  unfold State.incWrapF
  repeat' first
    | with_reducible assumption | with_reducible apply keptOut_next | with_reducible apply keptOut_refused
    | with_reducible apply keptOpt_some | with_reducible apply keptOpt_none | with_reducible apply keptOptOut_some
    | with_reducible apply keptOptOut_none | with_reducible apply kept_ite | with_reducible apply keptOut_ite
    | with_reducible apply keptOpt_ite | with_reducible apply keptOptOut_ite | with_reducible apply kept_ite_fst
    | with_reducible apply kept_ite_snd | with_reducible apply State.putFld_kept | with_reducible apply kept_forL
    | with_reducible apply kept_forN | with_reducible apply kept_foldl | with_reducible apply kept_forN_fst
    | with_reducible apply kept_forL_fst | with_reducible apply kept_foldl_fst | with_reducible apply kept_foldl_snd
    | (intro a x; intro (hk : Kept b n x.1))

theorem State.incWrap64_kept (s : State) (x : Nat) (hs : Kept b n s) : Kept b n (State.incWrap64 s x) := by
  unfold State.incWrap64
  repeat' first
    | with_reducible assumption | with_reducible apply keptOut_next | with_reducible apply keptOut_refused
    | with_reducible apply keptOpt_some | with_reducible apply keptOpt_none | with_reducible apply keptOptOut_some
    | with_reducible apply keptOptOut_none | with_reducible apply kept_ite | with_reducible apply keptOut_ite
    | with_reducible apply keptOpt_ite | with_reducible apply keptOptOut_ite | with_reducible apply kept_ite_fst
    | with_reducible apply kept_ite_snd | with_reducible apply State.wr64_kept | with_reducible apply kept_forL
    | with_reducible apply kept_forN | with_reducible apply kept_foldl | with_reducible apply kept_forN_fst
    | with_reducible apply kept_forL_fst | with_reducible apply kept_foldl_fst | with_reducible apply kept_foldl_snd
    | (intro a x; intro (hk : Kept b n x.1))

end Sys2Proof.Machine
end

