-- ==== Sys2Proof/Laws/Keep/Access.lean ====
section
/-! SUPPORT. What the operations of Access.lean keep: canonical tables, the queue and the direction of time. -/

set_option linter.all false
namespace Sys2Proof.Machine

variable {b : List Instr} {n : Nat}

theorem State.logErr_kept (s : State) (addr : Nat) (part : Nat) (source : Nat) (num : Nat) (code : Nat) (syn : Nat) (blk : Nat) (hs : Kept b n s) : Kept b n (State.logErr s addr part source num code syn blk) := by
  unfold State.logErr
  repeat' first
    | with_reducible assumption | with_reducible apply keptOut_next | with_reducible apply keptOut_refused
    | with_reducible apply keptOpt_some | with_reducible apply keptOpt_none | with_reducible apply keptOptOut_some
    | with_reducible apply keptOptOut_none | with_reducible apply kept_ite | with_reducible apply keptOut_ite
    | with_reducible apply keptOpt_ite | with_reducible apply keptOptOut_ite | with_reducible apply kept_ite_fst
    | with_reducible apply kept_ite_snd | with_reducible apply State.raise_kept
    | with_reducible apply State.putBit_kept | with_reducible apply kept_forL | with_reducible apply kept_forN
    | with_reducible apply kept_foldl | with_reducible apply kept_forN_fst | with_reducible apply kept_forL_fst
    | with_reducible apply kept_foldl_fst | with_reducible apply kept_foldl_snd
    | (intro a x; intro (hk : Kept b n x.1)) | (unfold Kept; dsimp only; with_reducible apply kept_upd)

theorem State.except_kept (s : State) (x2 : Nat) (r : Option Nat → Resp) (hs : Kept b n s) : Kept b n (State.except s x2 r) := by
  unfold State.except
  repeat' first
    | with_reducible assumption | with_reducible apply kept_forN_fst | with_reducible apply kept_forL_fst
    | (intro a x; intro (hk : Kept b n x.1))
    | grind [Kept, regsOk_set, memOk_put, memOk_filter, regsOk_filter, memOk_nil]

theorem State.busFault_kept (s : State) (who : Init) (addr : Nat) (hs : Kept b n s) : Kept b n (State.busFault s who addr) := by
  unfold State.busFault
  repeat' first
    | with_reducible assumption | with_reducible apply keptOut_next | with_reducible apply keptOut_refused
    | with_reducible apply keptOpt_some | with_reducible apply keptOpt_none | with_reducible apply keptOptOut_some
    | with_reducible apply keptOptOut_none | with_reducible apply kept_ite | with_reducible apply keptOut_ite
    | with_reducible apply keptOpt_ite | with_reducible apply keptOptOut_ite | with_reducible apply kept_ite_fst
    | with_reducible apply kept_ite_snd | with_reducible apply State.errAt_kept
    | with_reducible apply State.logErr_kept | with_reducible apply State.except_kept
    | with_reducible apply State.raise_kept | with_reducible apply kept_forL | with_reducible apply kept_forN
    | with_reducible apply kept_foldl | with_reducible apply kept_forN_fst | with_reducible apply kept_forL_fst
    | with_reducible apply kept_foldl_fst | with_reducible apply kept_foldl_snd
    | (intro a x; intro (hk : Kept b n x.1)) | (unfold Kept; dsimp only; with_reducible apply kept_upd)

theorem State.deny_kept (s : State) (who : Init) (p : Nat) (o : Nat) (write : Bool) (width : Bool) (hs : Kept b n s) : Kept b n (State.deny s who p o write width) := by
  unfold State.deny
  repeat' first
    | with_reducible assumption | with_reducible apply keptOut_next | with_reducible apply keptOut_refused
    | with_reducible apply keptOpt_some | with_reducible apply keptOpt_none | with_reducible apply keptOptOut_some
    | with_reducible apply keptOptOut_none | with_reducible apply kept_ite | with_reducible apply keptOut_ite
    | with_reducible apply keptOpt_ite | with_reducible apply keptOptOut_ite | with_reducible apply kept_ite_fst
    | with_reducible apply kept_ite_snd | with_reducible apply State.incSat_kept | with_reducible apply State.wr_kept
    | with_reducible apply State.putBit_kept | with_reducible apply State.busFault_kept
    | with_reducible apply kept_forL | with_reducible apply kept_forN | with_reducible apply kept_foldl
    | with_reducible apply kept_forN_fst | with_reducible apply kept_forL_fst | with_reducible apply kept_foldl_fst
    | with_reducible apply kept_foldl_snd | (intro a x; intro (hk : Kept b n x.1))
    | (unfold Kept; dsimp only; with_reducible apply kept_upd)

theorem State.cmdR_kept (s : State) (who : Init) (p : Nat) (o : Nat) (f : Nat → State → State) (hs : Kept b n s) (hf : ∀ (y0 : Nat) (y1 : State), Kept b n y1 → Kept b n (f y0 y1)) : Kept b n (State.cmdR s who p o f) := by
  unfold State.cmdR
  repeat' first
    | with_reducible assumption | with_reducible apply keptOut_next | with_reducible apply keptOut_refused
    | with_reducible apply keptOpt_some | with_reducible apply keptOpt_none | with_reducible apply keptOptOut_some
    | with_reducible apply keptOptOut_none | with_reducible apply kept_ite | with_reducible apply keptOut_ite
    | with_reducible apply keptOpt_ite | with_reducible apply keptOptOut_ite | with_reducible apply kept_ite_fst
    | with_reducible apply kept_ite_snd | with_reducible apply State.deny_kept | with_reducible apply kept_forL
    | with_reducible apply kept_forN | with_reducible apply kept_foldl | with_reducible apply kept_forN_fst
    | with_reducible apply kept_forL_fst | with_reducible apply kept_foldl_fst | with_reducible apply kept_foldl_snd
    | with_reducible apply hf | (intro a x; intro (hk : Kept b n x.1))

theorem State.cmdW_kept (s : State) (who : Init) (p : Nat) (o : Nat) (f : Nat → State → State) (hs : Kept b n s) (hf : ∀ (y0 : Nat) (y1 : State), Kept b n y1 → Kept b n (f y0 y1)) : Kept b n (State.cmdW s who p o f) := by
  unfold State.cmdW
  repeat' first
    | with_reducible assumption | with_reducible apply keptOut_next | with_reducible apply keptOut_refused
    | with_reducible apply keptOpt_some | with_reducible apply keptOpt_none | with_reducible apply keptOptOut_some
    | with_reducible apply keptOptOut_none | with_reducible apply kept_ite | with_reducible apply keptOut_ite
    | with_reducible apply keptOpt_ite | with_reducible apply keptOptOut_ite | with_reducible apply kept_ite_fst
    | with_reducible apply kept_ite_snd | with_reducible apply State.deny_kept | with_reducible apply kept_forL
    | with_reducible apply kept_forN | with_reducible apply kept_foldl | with_reducible apply kept_forN_fst
    | with_reducible apply kept_forL_fst | with_reducible apply kept_foldl_fst | with_reducible apply kept_foldl_snd
    | with_reducible apply hf | (intro a x; intro (hk : Kept b n x.1))
    | (unfold Kept; dsimp only; with_reducible apply kept_upd)

theorem State.keyed_kept (s : State) (p : Nat) (o : Nat) (part : Nat) (key : Nat) (v : Word) (f : State → State) (hs : Kept b n s) (hf : ∀ (y0 : State), Kept b n y0 → Kept b n (f y0)) : Kept b n (State.keyed s p o part key v f) := by
  unfold State.keyed
  repeat' first
    | with_reducible assumption | with_reducible apply keptOut_next | with_reducible apply keptOut_refused
    | with_reducible apply keptOpt_some | with_reducible apply keptOpt_none | with_reducible apply keptOptOut_some
    | with_reducible apply keptOptOut_none | with_reducible apply kept_ite | with_reducible apply keptOut_ite
    | with_reducible apply keptOpt_ite | with_reducible apply keptOptOut_ite | with_reducible apply kept_ite_fst
    | with_reducible apply kept_ite_snd | with_reducible apply State.err_kept | with_reducible apply kept_forL
    | with_reducible apply kept_forN | with_reducible apply kept_foldl | with_reducible apply kept_forN_fst
    | with_reducible apply kept_forL_fst | with_reducible apply kept_foldl_fst | with_reducible apply kept_foldl_snd
    | with_reducible apply hf | (intro a x; intro (hk : Kept b n x.1))

theorem State.replicaErr_kept (s : State) (p : Nat) (hs : Kept b n s) : Kept b n (State.replicaErr s p) := by
  unfold State.replicaErr
  repeat' first
    | with_reducible assumption | with_reducible apply State.errOpen_kept | with_reducible apply State.draw_kept
    | with_reducible apply kept_forN_fst | with_reducible apply kept_forL_fst | (intro a x; intro (hk : Kept b n x.1))

theorem onOne_kept (v : Word) (f : State → State) (s : State) (hf : ∀ (y0 : State), Kept b n y0 → Kept b n (f y0)) (hs : Kept b n s) : Kept b n (onOne v f s) := by
  unfold onOne
  repeat' first
    | with_reducible assumption | with_reducible apply keptOut_next | with_reducible apply keptOut_refused
    | with_reducible apply keptOpt_some | with_reducible apply keptOpt_none | with_reducible apply keptOptOut_some
    | with_reducible apply keptOptOut_none | with_reducible apply kept_ite | with_reducible apply keptOut_ite
    | with_reducible apply keptOpt_ite | with_reducible apply keptOptOut_ite | with_reducible apply kept_ite_fst
    | with_reducible apply kept_ite_snd | with_reducible apply kept_forL | with_reducible apply kept_forN
    | with_reducible apply kept_foldl | with_reducible apply kept_forN_fst | with_reducible apply kept_forL_fst
    | with_reducible apply kept_foldl_fst | with_reducible apply kept_foldl_snd | with_reducible apply hf
    | (intro a x; intro (hk : Kept b n x.1))

end Sys2Proof.Machine
end

