-- ==== Sys2Proof/Laws/Keep/Chain.lean ====
section
/-! SUPPORT. What the operations of Chain.lean keep: canonical tables, the queue and the direction of time. -/

set_option linter.all false
namespace Sys2Proof.Machine

variable {b : List Instr} {n : Nat}

theorem State.streamTo_kept (s : State) (x2 : Nat) (top : Nat) (w : ChIn) (hs : Kept b n s) : Kept b n (State.streamTo s x2 top w).1 := by
  unfold State.streamTo
  repeat' first
    | with_reducible assumption | with_reducible apply keptOut_next | with_reducible apply keptOut_refused
    | with_reducible apply keptOpt_some | with_reducible apply keptOpt_none | with_reducible apply keptOptOut_some
    | with_reducible apply keptOptOut_none | with_reducible apply kept_ite | with_reducible apply keptOut_ite
    | with_reducible apply keptOpt_ite | with_reducible apply keptOptOut_ite | with_reducible apply kept_ite_fst
    | with_reducible apply kept_ite_snd | with_reducible apply kept_forL | with_reducible apply kept_forN
    | with_reducible apply kept_foldl | with_reducible apply kept_forN_fst | with_reducible apply kept_forL_fst
    | with_reducible apply kept_foldl_fst | with_reducible apply kept_foldl_snd | (intro x; intro (hk : Kept b n x))
    | (intro a x; intro (hk : Kept b n x)) | (intro a x; intro (hk : Kept b n x.1))
    | (intro x a; intro (hk : Kept b n x)) | (intro x a; intro (hk : Kept b n x.1))
    | (intro x a; intro (hk : Kept b n x.2)) | lift_lets | (intro x; refine have hx : Kept b n x := ?_; ?_; unfold x)
    | (intro x; refine have hfun : ∀ y, Kept b n (x y) := ?_; ?_; intro y; unfold x) | with_reducible apply hfun
    | (intro x; refine have hx : KeptOpt b n x := ?_; ?_; unfold x)
    | (intro x; refine have hx : Kept b n x.1 := ?_; ?_; unfold x)
    | (intro x; refine have hx : Kept b n x.2 := ?_; ?_; unfold x) | intro x
    | (unfold Kept; dsimp only; with_reducible apply kept_upd) | (with_reducible apply kept_fst (by assumption))
    | (with_reducible apply kept_snd (by assumption)) | (with_reducible apply keptOpt_get (by assumption))
    | (with_reducible apply keptOut_get (by assumption)) | (with_reducible apply keptOptOut_get (by assumption))
    | split | grind [Kept, regsOk_set, memOk_put, memOk_filter, regsOk_filter, memOk_nil]

end Sys2Proof.Machine
end

