-- ==== Sys2Proof/Laws/Keep/Evf.lean ====
section
/-! SUPPORT. What the operations of Evf.lean keep: canonical tables, the queue and the direction of time. -/

set_option linter.all false
namespace Sys2Proof.Machine

variable {b : List Instr} {n : Nat}

theorem State.msixSend_kept (s : State) (hs : Kept b n s) : Kept b n (State.msixSend s) := by
  unfold State.msixSend
  repeat' first
    | with_reducible assumption | with_reducible apply keptOut_next | with_reducible apply keptOut_refused
    | with_reducible apply keptOpt_some | with_reducible apply keptOpt_none | with_reducible apply keptOptOut_some
    | with_reducible apply keptOptOut_none | with_reducible apply kept_ite | with_reducible apply keptOut_ite
    | with_reducible apply keptOpt_ite | with_reducible apply keptOptOut_ite | with_reducible apply kept_ite_fst
    | with_reducible apply kept_ite_snd | with_reducible apply kept_forL | with_reducible apply kept_forN
    | with_reducible apply kept_foldl | with_reducible apply kept_forN_fst | with_reducible apply kept_forL_fst
    | with_reducible apply kept_foldl_fst | with_reducible apply kept_foldl_snd
    | (intro a x; intro (hk : Kept b n x.1)) | (unfold Kept; dsimp only; with_reducible apply kept_upd)

theorem onMain_kept (dt : Nat) (s : State) (f : State → State) (hs : Kept b n s) (hf : ∀ (y0 : State), Kept b n y0 → Kept b n (f y0)) : KeptOut b n (onMain dt s f) := by
  unfold onMain
  repeat' first
    | with_reducible assumption | with_reducible apply keptOut_next | with_reducible apply keptOut_refused
    | with_reducible apply keptOpt_some | with_reducible apply keptOpt_none | with_reducible apply keptOptOut_some
    | with_reducible apply keptOptOut_none | with_reducible apply kept_ite | with_reducible apply keptOut_ite
    | with_reducible apply keptOpt_ite | with_reducible apply keptOptOut_ite | with_reducible apply kept_ite_fst
    | with_reducible apply kept_ite_snd | with_reducible apply State.elapse_kept
    | with_reducible apply State.msixSend_kept | with_reducible apply kept_forL | with_reducible apply kept_forN
    | with_reducible apply kept_foldl | with_reducible apply kept_forN_fst | with_reducible apply kept_forL_fst
    | with_reducible apply kept_foldl_fst | with_reducible apply kept_foldl_snd | with_reducible apply hf
    | (intro a x; intro (hk : Kept b n x.1))

theorem guarded_kept (ok : Bool) (dt : Nat) (s : State) (r : Host.Outcome State Fault Refusal) (hs : Kept b n s) (hr : KeptOut b n r) : KeptOut b n (guarded ok dt s r) := by
  unfold guarded
  repeat' first
    | with_reducible assumption | with_reducible apply keptOut_next | with_reducible apply keptOut_refused
    | with_reducible apply keptOpt_some | with_reducible apply keptOpt_none | with_reducible apply keptOptOut_some
    | with_reducible apply keptOptOut_none | with_reducible apply kept_ite | with_reducible apply keptOut_ite
    | with_reducible apply keptOpt_ite | with_reducible apply keptOptOut_ite | with_reducible apply kept_ite_fst
    | with_reducible apply kept_ite_snd | with_reducible apply State.elapse_kept | with_reducible apply kept_forL
    | with_reducible apply kept_forN | with_reducible apply kept_foldl | with_reducible apply kept_forN_fst
    | with_reducible apply kept_forL_fst | with_reducible apply kept_foldl_fst | with_reducible apply kept_foldl_snd
    | (intro x; intro (hk : Kept b n x)) | (intro a x; intro (hk : Kept b n x))
    | (intro a x; intro (hk : Kept b n x.1)) | (intro x a; intro (hk : Kept b n x))
    | (intro x a; intro (hk : Kept b n x.1)) | (intro x a; intro (hk : Kept b n x.2)) | lift_lets
    | (intro x; refine have hx : Kept b n x := ?_; ?_; unfold x)
    | (intro x; refine have hfun : ∀ y, Kept b n (x y) := ?_; ?_; intro y; unfold x) | with_reducible apply hfun
    | (intro x; refine have hx : KeptOpt b n x := ?_; ?_; unfold x)
    | (intro x; refine have hx : Kept b n x.1 := ?_; ?_; unfold x)
    | (intro x; refine have hx : Kept b n x.2 := ?_; ?_; unfold x) | intro x
    | (unfold Kept; dsimp only; with_reducible apply kept_upd) | (with_reducible apply kept_fst (by assumption))
    | (with_reducible apply kept_snd (by assumption)) | (with_reducible apply keptOpt_get (by assumption))
    | (with_reducible apply keptOut_get (by assumption)) | (with_reducible apply keptOptOut_get (by assumption))
    | split | grind [Kept, regsOk_set, memOk_put, memOk_filter, regsOk_filter, memOk_nil]

theorem always_kept (dt : Nat) (s : State) (f : State → State) (hs : Kept b n s) (hf : ∀ (y0 : State), Kept b n y0 → Kept b n (f y0)) : KeptOut b n (always dt s f) := by
  unfold always
  repeat' first
    | with_reducible assumption | with_reducible apply keptOut_next | with_reducible apply keptOut_refused
    | with_reducible apply keptOpt_some | with_reducible apply keptOpt_none | with_reducible apply keptOptOut_some
    | with_reducible apply keptOptOut_none | with_reducible apply kept_ite | with_reducible apply keptOut_ite
    | with_reducible apply keptOpt_ite | with_reducible apply keptOptOut_ite | with_reducible apply kept_ite_fst
    | with_reducible apply kept_ite_snd | with_reducible apply State.msixSend_kept
    | with_reducible apply State.elapse_kept | with_reducible apply kept_forL | with_reducible apply kept_forN
    | with_reducible apply kept_foldl | with_reducible apply kept_forN_fst | with_reducible apply kept_forL_fst
    | with_reducible apply kept_foldl_fst | with_reducible apply kept_foldl_snd | with_reducible apply hf
    | (intro a x; intro (hk : Kept b n x.1))

theorem onShed_kept (dt : Nat) (s : State) (f : State → State) (hs : Kept b n s) (hf : ∀ (y0 : State), Kept b n y0 → Kept b n (f y0)) : KeptOut b n (onShed dt s f) := by
  unfold onShed
  repeat' first
    | with_reducible assumption | with_reducible apply keptOut_next | with_reducible apply keptOut_refused
    | with_reducible apply keptOpt_some | with_reducible apply keptOpt_none | with_reducible apply keptOptOut_some
    | with_reducible apply keptOptOut_none | with_reducible apply kept_ite | with_reducible apply keptOut_ite
    | with_reducible apply keptOpt_ite | with_reducible apply keptOptOut_ite | with_reducible apply kept_ite_fst
    | with_reducible apply kept_ite_snd | with_reducible apply State.elapse_kept
    | with_reducible apply State.msixSend_kept | with_reducible apply kept_forL | with_reducible apply kept_forN
    | with_reducible apply kept_foldl | with_reducible apply kept_forN_fst | with_reducible apply kept_forL_fst
    | with_reducible apply kept_foldl_fst | with_reducible apply kept_foldl_snd | with_reducible apply hf
    | (intro a x; intro (hk : Kept b n x.1))

end Sys2Proof.Machine
end

