-- ==== Sys2Proof/Laws/Keep/Ten.lean ====
section
/-! SUPPORT. What the operations of Ten.lean keep: canonical tables, the queue and the direction of time. -/

set_option linter.all false
namespace Sys2Proof.Machine

variable {b : List Instr} {n : Nat}

theorem State.setPend_kept (s : State) (p : Nat) (c : Pend) (hs : Kept b n s) : Kept b n (State.setPend s p c) := by
  unfold State.setPend
  repeat' first
    | with_reducible assumption | with_reducible apply keptOut_next | with_reducible apply keptOut_refused
    | with_reducible apply keptOpt_some | with_reducible apply keptOpt_none | with_reducible apply keptOptOut_some
    | with_reducible apply keptOptOut_none | with_reducible apply kept_ite | with_reducible apply keptOut_ite
    | with_reducible apply keptOpt_ite | with_reducible apply keptOptOut_ite | with_reducible apply kept_ite_fst
    | with_reducible apply kept_ite_snd | with_reducible apply kept_forL | with_reducible apply kept_forN
    | with_reducible apply kept_foldl | with_reducible apply kept_forN_fst | with_reducible apply kept_forL_fst
    | with_reducible apply kept_foldl_fst | with_reducible apply kept_foldl_snd
    | (intro a x; intro (hk : Kept b n x.1)) | (unfold Kept; dsimp only; with_reducible apply kept_upd)

theorem State.markBoundary_kept (s : State) (p : Nat) (hs : Kept b n s) : Kept b n (State.markBoundary s p) := by
  unfold State.markBoundary
  repeat' first
    | with_reducible assumption | with_reducible apply keptOut_next | with_reducible apply keptOut_refused
    | with_reducible apply keptOpt_some | with_reducible apply keptOpt_none | with_reducible apply keptOptOut_some
    | with_reducible apply keptOptOut_none | with_reducible apply kept_ite | with_reducible apply keptOut_ite
    | with_reducible apply keptOpt_ite | with_reducible apply keptOptOut_ite | with_reducible apply kept_ite_fst
    | with_reducible apply kept_ite_snd | with_reducible apply State.setPend_kept | with_reducible apply kept_forL
    | with_reducible apply kept_forN | with_reducible apply kept_foldl | with_reducible apply kept_forN_fst
    | with_reducible apply kept_forL_fst | with_reducible apply kept_foldl_fst | with_reducible apply kept_foldl_snd
    | (intro a x; intro (hk : Kept b n x.1))

theorem State.markPages_kept (s : State) (sel : Nat → Pend → Bool) (hs : Kept b n s) : Kept b n (State.markPages s sel) := by
  unfold State.markPages
  repeat' first
    | with_reducible assumption | with_reducible apply keptOut_next | with_reducible apply keptOut_refused
    | with_reducible apply keptOpt_some | with_reducible apply keptOpt_none | with_reducible apply keptOptOut_some
    | with_reducible apply keptOptOut_none | with_reducible apply kept_ite | with_reducible apply keptOut_ite
    | with_reducible apply keptOpt_ite | with_reducible apply keptOptOut_ite | with_reducible apply kept_ite_fst
    | with_reducible apply kept_ite_snd | with_reducible apply State.markBoundary_kept
    | with_reducible apply kept_forL | with_reducible apply kept_forN | with_reducible apply kept_foldl
    | with_reducible apply kept_forN_fst | with_reducible apply kept_forL_fst | with_reducible apply kept_foldl_fst
    | with_reducible apply kept_foldl_snd | (intro a x; intro (hk : Kept b n x))
    | (intro a x; intro (hk : Kept b n x.1))

theorem execDenypop_kept (dt : Nat) (who : Init) (s : State) (hs : Kept b n s) : KeptOut b n (execDenypop dt who s) := by
  unfold execDenypop
  repeat' first
    | with_reducible assumption | with_reducible apply keptOut_next | with_reducible apply keptOut_refused
    | with_reducible apply keptOpt_some | with_reducible apply keptOpt_none | with_reducible apply keptOptOut_some
    | with_reducible apply keptOptOut_none | with_reducible apply kept_ite | with_reducible apply keptOut_ite
    | with_reducible apply keptOpt_ite | with_reducible apply keptOptOut_ite | with_reducible apply kept_ite_fst
    | with_reducible apply kept_ite_snd | with_reducible apply onMain_kept | with_reducible apply State.cmdR_kept
    | with_reducible apply kept_forL | with_reducible apply kept_forN | with_reducible apply kept_foldl
    | with_reducible apply kept_forN_fst | with_reducible apply kept_forL_fst | with_reducible apply kept_foldl_fst
    | with_reducible apply kept_foldl_snd | (intro x; intro (hk : Kept b n x)) | (intro a x; intro (hk : Kept b n x))
    | (intro a x; intro (hk : Kept b n x.1)) | (unfold Kept; dsimp only; with_reducible apply kept_upd) | split

theorem State.setCmtstat_kept (s : State) (p : Nat) (st : Nat) (reason : Nat) (table : Nat) (hs : Kept b n s) : Kept b n (State.setCmtstat s p st reason table) := by
  unfold State.setCmtstat
  repeat' first
    | with_reducible assumption | with_reducible apply keptOut_next | with_reducible apply keptOut_refused
    | with_reducible apply keptOpt_some | with_reducible apply keptOpt_none | with_reducible apply keptOptOut_some
    | with_reducible apply keptOptOut_none | with_reducible apply kept_ite | with_reducible apply keptOut_ite
    | with_reducible apply keptOpt_ite | with_reducible apply keptOptOut_ite | with_reducible apply kept_ite_fst
    | with_reducible apply kept_ite_snd | with_reducible apply State.putFld_kept | with_reducible apply kept_forL
    | with_reducible apply kept_forN | with_reducible apply kept_foldl | with_reducible apply kept_forN_fst
    | with_reducible apply kept_forL_fst | with_reducible apply kept_foldl_fst | with_reducible apply kept_foldl_snd
    | (intro a x; intro (hk : Kept b n x.1))

theorem State.endCmtstat_kept (s : State) (p : Nat) (st : Nat) (reason : Nat) (table : Nat) (hs : Kept b n s) : Kept b n (State.endCmtstat s p st reason table) := by
  unfold State.endCmtstat
  repeat' first
    | with_reducible assumption | with_reducible apply State.setCmtstat_kept | with_reducible apply kept_forN_fst
    | with_reducible apply kept_forL_fst | (intro a x; intro (hk : Kept b n x.1))

theorem State.discard_kept (s : State) (p : Nat) (reason : Nat) (hs : Kept b n s) : Kept b n (State.discard s p reason) := by
  unfold State.discard
  repeat' first
    | with_reducible assumption | with_reducible apply keptOut_next | with_reducible apply keptOut_refused
    | with_reducible apply keptOpt_some | with_reducible apply keptOpt_none | with_reducible apply keptOptOut_some
    | with_reducible apply keptOptOut_none | with_reducible apply kept_ite | with_reducible apply keptOut_ite
    | with_reducible apply keptOpt_ite | with_reducible apply keptOptOut_ite | with_reducible apply kept_ite_fst
    | with_reducible apply kept_ite_snd | with_reducible apply State.endCmtstat_kept
    | with_reducible apply State.setPend_kept | with_reducible apply State.dropShadows_kept
    | with_reducible apply kept_forL | with_reducible apply kept_forN | with_reducible apply kept_foldl
    | with_reducible apply kept_forN_fst | with_reducible apply kept_forL_fst | with_reducible apply kept_foldl_fst
    | with_reducible apply kept_foldl_snd | (intro a x; intro (hk : Kept b n x.1))

theorem State.discardPending_kept (s : State) (p : Nat) (reason : Nat) (hs : Kept b n s) : Kept b n (State.discardPending s p reason) := by
  unfold State.discardPending
  repeat' first
    | with_reducible assumption | with_reducible apply keptOut_next | with_reducible apply keptOut_refused
    | with_reducible apply keptOpt_some | with_reducible apply keptOpt_none | with_reducible apply keptOptOut_some
    | with_reducible apply keptOptOut_none | with_reducible apply kept_ite | with_reducible apply keptOut_ite
    | with_reducible apply keptOpt_ite | with_reducible apply keptOptOut_ite | with_reducible apply kept_ite_fst
    | with_reducible apply kept_ite_snd | with_reducible apply State.discard_kept | with_reducible apply kept_forL
    | with_reducible apply kept_forN | with_reducible apply kept_foldl | with_reducible apply kept_forN_fst
    | with_reducible apply kept_forL_fst | with_reducible apply kept_foldl_fst | with_reducible apply kept_foldl_snd
    | (intro a x; intro (hk : Kept b n x.1))

theorem State.setOwner_kept (s : State) (p : Nat) (m : Nat) (hs : Kept b n s) : Kept b n (State.setOwner s p m) := by
  unfold State.setOwner
  repeat' first
    | with_reducible assumption | with_reducible apply keptOut_next | with_reducible apply keptOut_refused
    | with_reducible apply keptOpt_some | with_reducible apply keptOpt_none | with_reducible apply keptOptOut_some
    | with_reducible apply keptOptOut_none | with_reducible apply kept_ite | with_reducible apply keptOut_ite
    | with_reducible apply keptOpt_ite | with_reducible apply keptOptOut_ite | with_reducible apply kept_ite_fst
    | with_reducible apply kept_ite_snd | with_reducible apply State.wr_kept
    | with_reducible apply State.dropShadows_kept | with_reducible apply State.discardPending_kept
    | with_reducible apply State.putFld_kept | with_reducible apply kept_forL | with_reducible apply kept_forN
    | with_reducible apply kept_foldl | with_reducible apply kept_forN_fst | with_reducible apply kept_forL_fst
    | with_reducible apply kept_foldl_fst | with_reducible apply kept_foldl_snd | (intro a x; intro (hk : Kept b n x))
    | (intro a x; intro (hk : Kept b n x.1))

theorem State.tryOwner_kept (s : State) (x2 : Nat) (p : Nat) (m : Nat) (x : Nat) (hs : Kept b n s) : Kept b n (State.tryOwner s x2 p m x) := by
  unfold State.tryOwner
  repeat' first
    | with_reducible assumption | with_reducible apply keptOut_next | with_reducible apply keptOut_refused
    | with_reducible apply keptOpt_some | with_reducible apply keptOpt_none | with_reducible apply keptOptOut_some
    | with_reducible apply keptOptOut_none | with_reducible apply kept_ite | with_reducible apply keptOut_ite
    | with_reducible apply keptOpt_ite | with_reducible apply keptOptOut_ite | with_reducible apply kept_ite_fst
    | with_reducible apply kept_ite_snd | with_reducible apply State.err_kept
    | with_reducible apply State.setOwner_kept | with_reducible apply kept_forL | with_reducible apply kept_forN
    | with_reducible apply kept_foldl | with_reducible apply kept_forN_fst | with_reducible apply kept_forL_fst
    | with_reducible apply kept_foldl_fst | with_reducible apply kept_foldl_snd
    | (intro a x; intro (hk : Kept b n x.1)) | split

theorem execLockWrite_kept (dt : Nat) (who : Init) (p : Fin 512) (v : Word) (s : State) (hs : Kept b n s) : KeptOut b n (execLockWrite dt who p v s) := by
  unfold execLockWrite
  repeat' first
    | with_reducible assumption | with_reducible apply keptOut_next | with_reducible apply keptOut_refused
    | with_reducible apply keptOpt_some | with_reducible apply keptOpt_none | with_reducible apply keptOptOut_some
    | with_reducible apply keptOptOut_none | with_reducible apply kept_ite | with_reducible apply keptOut_ite
    | with_reducible apply keptOpt_ite | with_reducible apply keptOptOut_ite | with_reducible apply kept_ite_fst
    | with_reducible apply kept_ite_snd | with_reducible apply onMain_kept | with_reducible apply State.cmdW_kept
    | with_reducible apply State.wr_kept | with_reducible apply State.err_kept | with_reducible apply kept_forL
    | with_reducible apply kept_forN | with_reducible apply kept_foldl | with_reducible apply kept_forN_fst
    | with_reducible apply kept_forL_fst | with_reducible apply kept_foldl_fst | with_reducible apply kept_foldl_snd
    | (intro x; intro (hk : Kept b n x)) | (intro a x; intro (hk : Kept b n x))
    | (intro a x; intro (hk : Kept b n x.1))

theorem execEvackWrite_kept (dt : Nat) (who : Init) (p : Fin 512) (v : Word) (again : Word) (s : State) (hs : Kept b n s) : KeptOut b n (execEvackWrite dt who p v again s) := by
  unfold execEvackWrite
  repeat' first
    | with_reducible assumption | with_reducible apply keptOut_next | with_reducible apply keptOut_refused
    | with_reducible apply keptOpt_some | with_reducible apply keptOpt_none | with_reducible apply keptOptOut_some
    | with_reducible apply keptOptOut_none | with_reducible apply kept_ite | with_reducible apply keptOut_ite
    | with_reducible apply keptOpt_ite | with_reducible apply keptOptOut_ite | with_reducible apply kept_ite_fst
    | with_reducible apply kept_ite_snd | with_reducible apply onMain_kept | with_reducible apply State.cmdW_kept
    | with_reducible apply State.regSet_kept | with_reducible apply kept_forL | with_reducible apply kept_forN
    | with_reducible apply kept_foldl | with_reducible apply kept_forN_fst | with_reducible apply kept_forL_fst
    | with_reducible apply kept_foldl_fst | with_reducible apply kept_foldl_snd | (intro x; intro (hk : Kept b n x))
    | (intro a x; intro (hk : Kept b n x)) | (intro a x; intro (hk : Kept b n x.1))

theorem State.cmtFields_kept (s : State) (v : Nat) (p : Nat) (hs : Kept b n s) : Kept b n (State.cmtFields s v p) := by
  unfold State.cmtFields
  repeat' first
    | with_reducible assumption | with_reducible apply keptOut_next | with_reducible apply keptOut_refused
    | with_reducible apply keptOpt_some | with_reducible apply keptOpt_none | with_reducible apply keptOptOut_some
    | with_reducible apply keptOptOut_none | with_reducible apply kept_ite | with_reducible apply keptOut_ite
    | with_reducible apply keptOpt_ite | with_reducible apply keptOptOut_ite | with_reducible apply kept_ite_fst
    | with_reducible apply kept_ite_snd | with_reducible apply State.wr_kept | with_reducible apply kept_forL
    | with_reducible apply kept_forN | with_reducible apply kept_foldl | with_reducible apply kept_forN_fst
    | with_reducible apply kept_forL_fst | with_reducible apply kept_foldl_fst | with_reducible apply kept_foldl_snd
    | (intro a x; intro (hk : Kept b n x.1))

theorem execCmtAbort_kept (dt : Nat) (who : Init) (p : Fin 512) (v : Word) (s : State) (hs : Kept b n s) : KeptOut b n (execCmtAbort dt who p v s) := by
  unfold execCmtAbort
  repeat' first
    | with_reducible assumption | with_reducible apply keptOut_next | with_reducible apply keptOut_refused
    | with_reducible apply keptOpt_some | with_reducible apply keptOpt_none | with_reducible apply keptOptOut_some
    | with_reducible apply keptOptOut_none | with_reducible apply kept_ite | with_reducible apply keptOut_ite
    | with_reducible apply keptOpt_ite | with_reducible apply keptOptOut_ite | with_reducible apply kept_ite_fst
    | with_reducible apply kept_ite_snd | with_reducible apply onMain_kept | with_reducible apply State.cmdW_kept
    | with_reducible apply State.discard_kept | with_reducible apply State.err_kept
    | with_reducible apply State.cmtFields_kept | with_reducible apply kept_forL | with_reducible apply kept_forN
    | with_reducible apply kept_foldl | with_reducible apply kept_forN_fst | with_reducible apply kept_forL_fst
    | with_reducible apply kept_foldl_fst | with_reducible apply kept_foldl_snd | (intro x; intro (hk : Kept b n x))
    | (intro a x; intro (hk : Kept b n x)) | (intro a x; intro (hk : Kept b n x.1))

theorem execCmtGo_kept (dt : Nat) (who : Init) (p : Fin 512) (v : Word) (s : State) (hs : Kept b n s) : KeptOut b n (execCmtGo dt who p v s) := by
  unfold execCmtGo
  repeat' first
    | with_reducible assumption | with_reducible apply keptOut_next | with_reducible apply keptOut_refused
    | with_reducible apply keptOpt_some | with_reducible apply keptOpt_none | with_reducible apply keptOptOut_some
    | with_reducible apply keptOptOut_none | with_reducible apply kept_ite | with_reducible apply keptOut_ite
    | with_reducible apply keptOpt_ite | with_reducible apply keptOptOut_ite | with_reducible apply kept_ite_fst
    | with_reducible apply kept_ite_snd | with_reducible apply onMain_kept | with_reducible apply State.cmdW_kept
    | with_reducible apply State.err_kept | with_reducible apply State.setCmtstat_kept
    | with_reducible apply State.cmtFields_kept | with_reducible apply State.setPend_kept
    | with_reducible apply State.putFld_kept | with_reducible apply kept_forL | with_reducible apply kept_forN
    | with_reducible apply kept_foldl | with_reducible apply kept_forN_fst | with_reducible apply kept_forL_fst
    | with_reducible apply kept_foldl_fst | with_reducible apply kept_foldl_snd | (intro x; intro (hk : Kept b n x))
    | (intro a x; intro (hk : Kept b n x)) | (intro a x; intro (hk : Kept b n x.1))

theorem execErrclrWrite_kept (dt : Nat) (who : Init) (p : Fin 512) (v : Word) (s : State) (hs : Kept b n s) : KeptOut b n (execErrclrWrite dt who p v s) := by
  unfold execErrclrWrite
  repeat' first
    | with_reducible assumption | with_reducible apply keptOut_next | with_reducible apply keptOut_refused
    | with_reducible apply keptOpt_some | with_reducible apply keptOpt_none | with_reducible apply keptOptOut_some
    | with_reducible apply keptOptOut_none | with_reducible apply kept_ite | with_reducible apply keptOut_ite
    | with_reducible apply keptOpt_ite | with_reducible apply keptOptOut_ite | with_reducible apply kept_ite_fst
    | with_reducible apply kept_ite_snd | with_reducible apply onMain_kept | with_reducible apply State.cmdW_kept
    | with_reducible apply onOne_kept | with_reducible apply State.zero_kept | with_reducible apply kept_forL
    | with_reducible apply kept_forN | with_reducible apply kept_foldl | with_reducible apply kept_forN_fst
    | with_reducible apply kept_forL_fst | with_reducible apply kept_foldl_fst | with_reducible apply kept_foldl_snd
    | (intro x; intro (hk : Kept b n x)) | (intro a x; intro (hk : Kept b n x))
    | (intro a x; intro (hk : Kept b n x.1))

theorem State.askReset_kept (s : State) (x2 : Nat) (hs : Kept b n s) : Kept b n (State.askReset s x2) := by
  unfold State.askReset
  repeat' first
    | with_reducible assumption | with_reducible apply keptOut_next | with_reducible apply keptOut_refused
    | with_reducible apply keptOpt_some | with_reducible apply keptOpt_none | with_reducible apply keptOptOut_some
    | with_reducible apply keptOptOut_none | with_reducible apply kept_ite | with_reducible apply keptOut_ite
    | with_reducible apply keptOpt_ite | with_reducible apply keptOptOut_ite | with_reducible apply kept_ite_fst
    | with_reducible apply kept_ite_snd | with_reducible apply kept_forL | with_reducible apply kept_forN
    | with_reducible apply kept_foldl | with_reducible apply kept_forN_fst | with_reducible apply kept_forL_fst
    | with_reducible apply kept_foldl_fst | with_reducible apply kept_foldl_snd
    | (intro a x; intro (hk : Kept b n x.1)) | (unfold Kept; dsimp only; with_reducible apply kept_upd)

theorem execPresetWrite_kept (dt : Nat) (who : Init) (v : Word) (s : State) (hs : Kept b n s) : KeptOut b n (execPresetWrite dt who v s) := by
  unfold execPresetWrite
  repeat' first
    | with_reducible assumption | with_reducible apply keptOut_next | with_reducible apply keptOut_refused
    | with_reducible apply keptOpt_some | with_reducible apply keptOpt_none | with_reducible apply keptOptOut_some
    | with_reducible apply keptOptOut_none | with_reducible apply kept_ite | with_reducible apply keptOut_ite
    | with_reducible apply keptOpt_ite | with_reducible apply keptOptOut_ite | with_reducible apply kept_ite_fst
    | with_reducible apply kept_ite_snd | with_reducible apply onMain_kept | with_reducible apply State.cmdW_kept
    | with_reducible apply State.err_kept | with_reducible apply State.askReset_kept | with_reducible apply kept_forL
    | with_reducible apply kept_forN | with_reducible apply kept_foldl | with_reducible apply kept_forN_fst
    | with_reducible apply kept_forL_fst | with_reducible apply kept_foldl_fst | with_reducible apply kept_foldl_snd
    | (intro x; intro (hk : Kept b n x)) | (intro a x; intro (hk : Kept b n x))
    | (intro a x; intro (hk : Kept b n x.1))

theorem State.abortMode_kept (s : State) (x2 : Nat) (mode : Nat) (hs : Kept b n s) : Kept b n (State.abortMode s x2 mode) := by
  unfold State.abortMode
  repeat' first
    | with_reducible assumption | with_reducible apply keptOut_next | with_reducible apply keptOut_refused
    | with_reducible apply keptOpt_some | with_reducible apply keptOpt_none | with_reducible apply keptOptOut_some
    | with_reducible apply keptOptOut_none | with_reducible apply kept_ite | with_reducible apply keptOut_ite
    | with_reducible apply keptOpt_ite | with_reducible apply keptOptOut_ite | with_reducible apply kept_ite_fst
    | with_reducible apply kept_ite_snd | with_reducible apply State.discardPending_kept
    | with_reducible apply kept_forL | with_reducible apply kept_forN | with_reducible apply kept_foldl
    | with_reducible apply kept_forN_fst | with_reducible apply kept_forL_fst | with_reducible apply kept_foldl_fst
    | with_reducible apply kept_foldl_snd | (intro a x; intro (hk : Kept b n x))
    | (intro a x; intro (hk : Kept b n x.1))

theorem execWideLoWrite_kept (dt : Nat) (who : Init) (p : Fin 512) (w : Fin 1024) (v : Word) (s : State) (hs : Kept b n s) : KeptOut b n (execWideLoWrite dt who p w v s) := by
  unfold execWideLoWrite
  repeat' first
    | with_reducible assumption | with_reducible apply keptOut_next | with_reducible apply keptOut_refused
    | with_reducible apply keptOpt_some | with_reducible apply keptOpt_none | with_reducible apply keptOptOut_some
    | with_reducible apply keptOptOut_none | with_reducible apply kept_ite | with_reducible apply keptOut_ite
    | with_reducible apply keptOpt_ite | with_reducible apply keptOptOut_ite | with_reducible apply kept_ite_fst
    | with_reducible apply kept_ite_snd | with_reducible apply onMain_kept | with_reducible apply State.cmdW_kept
    | with_reducible apply State.err_kept | with_reducible apply kept_forL | with_reducible apply kept_forN
    | with_reducible apply kept_foldl | with_reducible apply kept_forN_fst | with_reducible apply kept_forL_fst
    | with_reducible apply kept_foldl_fst | with_reducible apply kept_foldl_snd | (intro x; intro (hk : Kept b n x))
    | (intro a x; intro (hk : Kept b n x)) | (intro a x; intro (hk : Kept b n x.1))
    | (unfold Kept; dsimp only; with_reducible apply kept_upd) | split

theorem State.plainWrite_kept (s : State) (x2 : Nat) (p : Nat) (o : Nat) (v : Nat) (hs : Kept b n s) : Kept b n (State.plainWrite s x2 p o v) := by
  unfold State.plainWrite
  repeat' first
    | with_reducible assumption | with_reducible apply keptOut_next | with_reducible apply keptOut_refused
    | with_reducible apply keptOpt_some | with_reducible apply keptOpt_none | with_reducible apply keptOptOut_some
    | with_reducible apply keptOptOut_none | with_reducible apply kept_ite | with_reducible apply keptOut_ite
    | with_reducible apply keptOpt_ite | with_reducible apply keptOptOut_ite | with_reducible apply kept_ite_fst
    | with_reducible apply kept_ite_snd | with_reducible apply State.err_kept
    | with_reducible apply State.cmtFields_kept | with_reducible apply State.putFld_kept
    | with_reducible apply State.wr_kept | with_reducible apply State.setShadow_kept | with_reducible apply kept_forL
    | with_reducible apply kept_forN | with_reducible apply kept_foldl | with_reducible apply kept_forN_fst
    | with_reducible apply kept_forL_fst | with_reducible apply kept_foldl_fst | with_reducible apply kept_foldl_snd
    | (intro a x; intro (hk : Kept b n x.1)) | split

theorem execWideHiWrite_kept (dt : Nat) (who : Init) (p : Fin 512) (w : Fin 1024) (v : Word) (s : State) (hs : Kept b n s) : KeptOut b n (execWideHiWrite dt who p w v s) := by
  unfold execWideHiWrite
  repeat' first
    | with_reducible assumption | with_reducible apply keptOut_next | with_reducible apply keptOut_refused
    | with_reducible apply keptOpt_some | with_reducible apply keptOpt_none | with_reducible apply keptOptOut_some
    | with_reducible apply keptOptOut_none | with_reducible apply kept_ite | with_reducible apply keptOut_ite
    | with_reducible apply keptOpt_ite | with_reducible apply keptOptOut_ite | with_reducible apply kept_ite_fst
    | with_reducible apply kept_ite_snd | with_reducible apply onMain_kept | with_reducible apply State.cmdW_kept
    | with_reducible apply State.err_kept | with_reducible apply State.plainWrite_kept
    | with_reducible apply kept_forL | with_reducible apply kept_forN | with_reducible apply kept_foldl
    | with_reducible apply kept_forN_fst | with_reducible apply kept_forL_fst | with_reducible apply kept_foldl_fst
    | with_reducible apply kept_foldl_snd | (intro x; intro (hk : Kept b n x)) | (intro a x; intro (hk : Kept b n x))
    | (intro a x; intro (hk : Kept b n x.1)) | (unfold Kept; dsimp only; with_reducible apply kept_upd) | split

theorem execHostlinkDown_kept (dt : Nat) (s : State) (hs : Kept b n s) : KeptOut b n (execHostlinkDown dt s) := by
  unfold execHostlinkDown
  repeat' first
    | with_reducible assumption | with_reducible apply keptOut_next | with_reducible apply keptOut_refused
    | with_reducible apply keptOpt_some | with_reducible apply keptOpt_none | with_reducible apply keptOptOut_some
    | with_reducible apply keptOptOut_none | with_reducible apply kept_ite | with_reducible apply keptOut_ite
    | with_reducible apply keptOpt_ite | with_reducible apply keptOptOut_ite | with_reducible apply kept_ite_fst
    | with_reducible apply kept_ite_snd | with_reducible apply onMain_kept | with_reducible apply State.setPstate_kept
    | with_reducible apply kept_forL | with_reducible apply kept_forN | with_reducible apply kept_foldl
    | with_reducible apply kept_forN_fst | with_reducible apply kept_forL_fst | with_reducible apply kept_foldl_fst
    | with_reducible apply kept_foldl_snd | (intro x; intro (hk : Kept b n x))
    | (intro a x; intro (hk : Kept b n x.1)) | (unfold Kept; dsimp only; with_reducible apply kept_upd)

theorem execHostlinkUp_kept (dt : Nat) (c : HostCfg) (s : State) (hs : Kept b n s) : KeptOut b n (execHostlinkUp dt c s) := by
  unfold execHostlinkUp
  repeat' first
    | with_reducible assumption | with_reducible apply keptOut_next | with_reducible apply keptOut_refused
    | with_reducible apply keptOpt_some | with_reducible apply keptOpt_none | with_reducible apply keptOptOut_some
    | with_reducible apply keptOptOut_none | with_reducible apply kept_ite | with_reducible apply keptOut_ite
    | with_reducible apply keptOpt_ite | with_reducible apply keptOptOut_ite | with_reducible apply kept_ite_fst
    | with_reducible apply kept_ite_snd | with_reducible apply onMain_kept | with_reducible apply State.setPstate_kept
    | with_reducible apply kept_forL | with_reducible apply kept_forN | with_reducible apply kept_foldl
    | with_reducible apply kept_forN_fst | with_reducible apply kept_forL_fst | with_reducible apply kept_foldl_fst
    | with_reducible apply kept_foldl_snd | (intro x; intro (hk : Kept b n x))
    | (intro a x; intro (hk : Kept b n x.1)) | (unfold Kept; dsimp only; with_reducible apply kept_upd)

theorem execPerstAssert_kept (dt : Nat) (s : State) (hs : Kept b n s) : KeptOut b n (execPerstAssert dt s) := by
  unfold execPerstAssert
  repeat' first
    | with_reducible assumption | with_reducible apply keptOut_next | with_reducible apply keptOut_refused
    | with_reducible apply keptOpt_some | with_reducible apply keptOpt_none | with_reducible apply keptOptOut_some
    | with_reducible apply keptOptOut_none | with_reducible apply kept_ite | with_reducible apply keptOut_ite
    | with_reducible apply keptOpt_ite | with_reducible apply keptOptOut_ite | with_reducible apply kept_ite_fst
    | with_reducible apply kept_ite_snd | with_reducible apply onMain_kept | with_reducible apply State.setPstate_kept
    | with_reducible apply kept_forL | with_reducible apply kept_forN | with_reducible apply kept_foldl
    | with_reducible apply kept_forN_fst | with_reducible apply kept_forL_fst | with_reducible apply kept_foldl_fst
    | with_reducible apply kept_foldl_snd | (intro x; intro (hk : Kept b n x))
    | (intro a x; intro (hk : Kept b n x.1)) | (unfold Kept; dsimp only; with_reducible apply kept_upd)

theorem execPerstRelease_kept (dt : Nat) (s : State) (hs : Kept b n s) : KeptOut b n (execPerstRelease dt s) := by
  unfold execPerstRelease
  repeat' first
    | with_reducible assumption | with_reducible apply keptOut_next | with_reducible apply keptOut_refused
    | with_reducible apply keptOpt_some | with_reducible apply keptOpt_none | with_reducible apply keptOptOut_some
    | with_reducible apply keptOptOut_none | with_reducible apply kept_ite | with_reducible apply keptOut_ite
    | with_reducible apply keptOpt_ite | with_reducible apply keptOptOut_ite | with_reducible apply kept_ite_fst
    | with_reducible apply kept_ite_snd | with_reducible apply onMain_kept | with_reducible apply kept_forL
    | with_reducible apply kept_forN | with_reducible apply kept_foldl | with_reducible apply kept_forN_fst
    | with_reducible apply kept_forL_fst | with_reducible apply kept_foldl_fst | with_reducible apply kept_foldl_snd
    | (intro x; intro (hk : Kept b n x)) | (intro a x; intro (hk : Kept b n x.1))
    | (unfold Kept; dsimp only; with_reducible apply kept_upd)

end Sys2Proof.Machine
end

