-- ==== Sys2Proof/Laws/Keep/Axs.lean ====
section
/-! SUPPORT. What the operations of Axs.lean keep: canonical tables, the queue and the direction of time. -/

set_option linter.all false
namespace Sys2Proof.Machine

variable {b : List Instr} {n : Nat}

theorem State.setAxis_kept (s : State) (k : Nat) (a : Axis) (hs : Kept b n s) : Kept b n (State.setAxis s k a) := by
  unfold State.setAxis
  repeat' first
    | with_reducible assumption | with_reducible apply keptOut_next | with_reducible apply keptOut_refused
    | with_reducible apply keptOpt_some | with_reducible apply keptOpt_none | with_reducible apply keptOptOut_some
    | with_reducible apply keptOptOut_none | with_reducible apply kept_ite | with_reducible apply keptOut_ite
    | with_reducible apply keptOpt_ite | with_reducible apply keptOptOut_ite | with_reducible apply kept_ite_fst
    | with_reducible apply kept_ite_snd | with_reducible apply kept_forL | with_reducible apply kept_forN
    | with_reducible apply kept_foldl | with_reducible apply kept_forN_fst | with_reducible apply kept_forL_fst
    | with_reducible apply kept_foldl_fst | with_reducible apply kept_foldl_snd
    | (intro a x; intro (hk : Kept b n x.1)) | (unfold Kept; dsimp only; with_reducible apply kept_upd)

theorem State.setEntry_kept (s : State) (d : Nat) (e : Entry) (hs : Kept b n s) : Kept b n (State.setEntry s d e) := by
  unfold State.setEntry
  repeat' first
    | with_reducible assumption | with_reducible apply keptOut_next | with_reducible apply keptOut_refused
    | with_reducible apply keptOpt_some | with_reducible apply keptOpt_none | with_reducible apply keptOptOut_some
    | with_reducible apply keptOptOut_none | with_reducible apply kept_ite | with_reducible apply keptOut_ite
    | with_reducible apply keptOpt_ite | with_reducible apply keptOptOut_ite | with_reducible apply kept_ite_fst
    | with_reducible apply kept_ite_snd | with_reducible apply kept_forL | with_reducible apply kept_forN
    | with_reducible apply kept_foldl | with_reducible apply kept_forN_fst | with_reducible apply kept_forL_fst
    | with_reducible apply kept_foldl_fst | with_reducible apply kept_foldl_snd
    | (intro a x; intro (hk : Kept b n x.1)) | (unfold Kept; dsimp only; with_reducible apply kept_upd)

theorem State.rearmAt_kept (s : State) (k : Nat) (p : Int) (v : Int) (past : Bool) (hs : Kept b n s) : Kept b n (State.rearmAt s k p v past) := by
  unfold State.rearmAt
  repeat' first
    | with_reducible assumption | with_reducible apply State.setAxis_kept | with_reducible apply State.setEntry_kept
    | with_reducible apply kept_forL | with_reducible apply kept_forN_fst | with_reducible apply kept_forL_fst
    | (intro a x; intro (hk : Kept b n x.1)) | lift_lets | intro x | split

theorem State.axRearm_kept (s : State) (k : Nat) (hs : Kept b n s) : Kept b n (State.axRearm s k) := by
  unfold State.axRearm
  repeat' first
    | with_reducible assumption | with_reducible apply keptOut_next | with_reducible apply keptOut_refused
    | with_reducible apply keptOpt_some | with_reducible apply keptOpt_none | with_reducible apply keptOptOut_some
    | with_reducible apply keptOptOut_none | with_reducible apply kept_ite | with_reducible apply keptOut_ite
    | with_reducible apply keptOpt_ite | with_reducible apply keptOptOut_ite | with_reducible apply kept_ite_fst
    | with_reducible apply kept_ite_snd | with_reducible apply State.rearmAt_kept | with_reducible apply kept_forL
    | with_reducible apply kept_forN | with_reducible apply kept_foldl | with_reducible apply kept_forN_fst
    | with_reducible apply kept_forL_fst | with_reducible apply kept_foldl_fst | with_reducible apply kept_foldl_snd
    | (intro a x; intro (hk : Kept b n x)) | (intro a x; intro (hk : Kept b n x.1))
    | (intro x a; intro (hk : Kept b n x))

theorem State.miss_kept (s : State) (d : Nat) (x3 : Nat) (hs : Kept b n s) : Kept b n (State.miss s d x3) := by
  unfold State.miss
  repeat' first
    | with_reducible assumption | with_reducible apply keptOut_next | with_reducible apply keptOut_refused
    | with_reducible apply keptOpt_some | with_reducible apply keptOpt_none | with_reducible apply keptOptOut_some
    | with_reducible apply keptOptOut_none | with_reducible apply kept_ite | with_reducible apply keptOut_ite
    | with_reducible apply keptOpt_ite | with_reducible apply keptOptOut_ite | with_reducible apply kept_ite_fst
    | with_reducible apply kept_ite_snd | with_reducible apply State.raiseIf_kept
    | with_reducible apply State.addSat_kept | with_reducible apply State.setEntry_kept
    | with_reducible apply kept_forL | with_reducible apply kept_forN | with_reducible apply kept_foldl
    | with_reducible apply kept_forN_fst | with_reducible apply kept_forL_fst | with_reducible apply kept_foldl_fst
    | with_reducible apply kept_foldl_snd | (intro a x; intro (hk : Kept b n x.1))

theorem State.stepMiss_kept (s : State) (k : Nat) (p0 : Int) (p1 : Int) (v : Int) (hs : Kept b n s) : Kept b n (State.stepMiss s k p0 p1 v) := by
  unfold State.stepMiss
  repeat' first
    | with_reducible assumption | with_reducible apply keptOut_next | with_reducible apply keptOut_refused
    | with_reducible apply keptOpt_some | with_reducible apply keptOpt_none | with_reducible apply keptOptOut_some
    | with_reducible apply keptOptOut_none | with_reducible apply kept_ite | with_reducible apply keptOut_ite
    | with_reducible apply keptOpt_ite | with_reducible apply keptOptOut_ite | with_reducible apply kept_ite_fst
    | with_reducible apply kept_ite_snd | with_reducible apply State.miss_kept | with_reducible apply kept_forL
    | with_reducible apply kept_forN | with_reducible apply kept_foldl | with_reducible apply kept_forN_fst
    | with_reducible apply kept_forL_fst | with_reducible apply kept_foldl_fst | with_reducible apply kept_foldl_snd
    | (intro x; intro (hk : Kept b n x)) | (intro a x; intro (hk : Kept b n x))
    | (intro a x; intro (hk : Kept b n x.1)) | (intro x a; intro (hk : Kept b n x))
    | (intro x a; intro (hk : Kept b n x.1)) | (intro x a; intro (hk : Kept b n x.2)) | lift_lets
    | (intro x; refine have hx : Kept b n x := ?_; ?_; unfold x)
    | (intro x; refine have hfun : ∀ y, Kept b n (x y) := ?_; ?_; intro y; unfold x) | with_reducible apply hfun
    | (intro x; refine have hx : KeptOpt b n x := ?_; ?_; unfold x)
    | (intro x; refine have hx : Kept b n x.1 := ?_; ?_; unfold x)
    | (intro x; refine have hx : Kept b n x.2 := ?_; ?_; unfold x) | intro x
    | (unfold Kept; dsimp only; with_reducible apply kept_upd) | (with_reducible apply kept_fst (by assumption))
    | (with_reducible apply kept_snd (by assumption)) | (with_reducible apply keptOpt_get (by assumption))
    | (with_reducible apply keptOut_get (by assumption)) | (with_reducible apply keptOptOut_get (by assumption))
    | split | grind [Kept, regsOk_set, memOk_put, memOk_filter, regsOk_filter, memOk_nil]

theorem State.axPut_kept (s : State) (k : Nat) (e : Est) (hs : Kept b n s) : Kept b n (State.axPut s k e) := by
  unfold State.axPut
  repeat' first
    | with_reducible assumption | with_reducible apply State.rearmAt_kept | with_reducible apply State.putBit_kept
    | with_reducible apply State.setAxis_kept | with_reducible apply kept_forN_fst
    | with_reducible apply kept_forL_fst | (intro a x; intro (hk : Kept b n x.1))

theorem State.axStep_kept (s : State) (k : Nat) (e : Int) (hs : Kept b n s) : Kept b n (State.axStep s k e) := by
  unfold State.axStep
  repeat' first
    | with_reducible assumption | with_reducible apply keptOut_next | with_reducible apply keptOut_refused
    | with_reducible apply keptOpt_some | with_reducible apply keptOpt_none | with_reducible apply keptOptOut_some
    | with_reducible apply keptOptOut_none | with_reducible apply kept_ite | with_reducible apply keptOut_ite
    | with_reducible apply keptOpt_ite | with_reducible apply keptOptOut_ite | with_reducible apply kept_ite_fst
    | with_reducible apply kept_ite_snd | with_reducible apply State.axRearm_kept
    | with_reducible apply State.stepMiss_kept | with_reducible apply State.raise_kept
    | with_reducible apply State.incSat_kept | with_reducible apply State.axPut_kept | with_reducible apply kept_forL
    | with_reducible apply kept_forN | with_reducible apply kept_foldl | with_reducible apply kept_forN_fst
    | with_reducible apply kept_forL_fst | with_reducible apply kept_foldl_fst | with_reducible apply kept_foldl_snd
    | (intro a x; intro (hk : Kept b n x)) | (intro a x; intro (hk : Kept b n x.1))
    | (intro x a; intro (hk : Kept b n x))

theorem State.axNote_kept (s : State) (k : Nat) (hs : Kept b n s) : Kept b n (State.axNote s k) := by
  unfold State.axNote
  repeat' first
    | with_reducible assumption | with_reducible apply keptOut_next | with_reducible apply keptOut_refused
    | with_reducible apply keptOpt_some | with_reducible apply keptOpt_none | with_reducible apply keptOptOut_some
    | with_reducible apply keptOptOut_none | with_reducible apply kept_ite | with_reducible apply keptOut_ite
    | with_reducible apply keptOpt_ite | with_reducible apply keptOptOut_ite | with_reducible apply kept_ite_fst
    | with_reducible apply kept_ite_snd | with_reducible apply State.setAxis_kept | with_reducible apply kept_forL
    | with_reducible apply kept_forN | with_reducible apply kept_foldl | with_reducible apply kept_forN_fst
    | with_reducible apply kept_forL_fst | with_reducible apply kept_foldl_fst | with_reducible apply kept_foldl_snd
    | (intro x; intro (hk : Kept b n x)) | (intro a x; intro (hk : Kept b n x))
    | (intro a x; intro (hk : Kept b n x.1)) | (intro x a; intro (hk : Kept b n x))
    | (intro x a; intro (hk : Kept b n x.1)) | (intro x a; intro (hk : Kept b n x.2)) | lift_lets
    | (intro x; refine have hx : Kept b n x := ?_; ?_; unfold x)
    | (intro x; refine have hfun : ∀ y, Kept b n (x y) := ?_; ?_; intro y; unfold x) | with_reducible apply hfun
    | (intro x; refine have hx : KeptOpt b n x := ?_; ?_; unfold x)
    | (intro x; refine have hx : Kept b n x.1 := ?_; ?_; unfold x)
    | (intro x; refine have hx : Kept b n x.2 := ?_; ?_; unfold x) | intro x
    | (unfold Kept; dsimp only; with_reducible apply kept_upd) | (with_reducible apply kept_fst (by assumption))
    | (with_reducible apply kept_snd (by assumption)) | (with_reducible apply keptOpt_get (by assumption))
    | (with_reducible apply keptOut_get (by assumption)) | (with_reducible apply keptOptOut_get (by assumption))
    | split | grind [Kept, regsOk_set, memOk_put, memOk_filter, regsOk_filter, memOk_nil]

theorem State.axBit_kept (s : State) (k : Nat) (i : Nat) (x4 : Bool) (hs : Kept b n s) : Kept b n (State.axBit s k i x4) := by
  unfold State.axBit
  repeat' first
    | with_reducible assumption | with_reducible apply State.axNote_kept | with_reducible apply State.putBit_kept
    | with_reducible apply kept_forN_fst | with_reducible apply kept_forL_fst | (intro a x; intro (hk : Kept b n x.1))

theorem State.applyFix_kept (s : State) (k : Nat) (pos : Nat) (time : Nat) (hs : Kept b n s) : Kept b n (State.applyFix s k pos time) := by
  unfold State.applyFix
  repeat' first
    | with_reducible assumption | with_reducible apply keptOut_next | with_reducible apply keptOut_refused
    | with_reducible apply keptOpt_some | with_reducible apply keptOpt_none | with_reducible apply keptOptOut_some
    | with_reducible apply keptOptOut_none | with_reducible apply kept_ite | with_reducible apply keptOut_ite
    | with_reducible apply keptOpt_ite | with_reducible apply keptOptOut_ite | with_reducible apply kept_ite_fst
    | with_reducible apply kept_ite_snd | with_reducible apply State.axStep_kept
    | with_reducible apply State.setAxis_kept | with_reducible apply State.axPut_kept
    | with_reducible apply State.axBit_kept | with_reducible apply kept_forL | with_reducible apply kept_forN
    | with_reducible apply kept_foldl | with_reducible apply kept_forN_fst | with_reducible apply kept_forL_fst
    | with_reducible apply kept_foldl_fst | with_reducible apply kept_foldl_snd
    | (intro a x; intro (hk : Kept b n x.1))

theorem State.armEntry_kept (s : State) (d : Nat) (p : Int) (v : Int) (hs : Kept b n s) : Kept b n (State.armEntry s d p v) := by
  unfold State.armEntry
  repeat' first
    | with_reducible assumption | with_reducible apply keptOut_next | with_reducible apply keptOut_refused
    | with_reducible apply keptOpt_some | with_reducible apply keptOpt_none | with_reducible apply keptOptOut_some
    | with_reducible apply keptOptOut_none | with_reducible apply kept_ite | with_reducible apply keptOut_ite
    | with_reducible apply keptOpt_ite | with_reducible apply keptOptOut_ite | with_reducible apply kept_ite_fst
    | with_reducible apply kept_ite_snd | with_reducible apply State.setEntry_kept | with_reducible apply kept_forL
    | with_reducible apply kept_forN | with_reducible apply kept_foldl | with_reducible apply kept_forN_fst
    | with_reducible apply kept_forL_fst | with_reducible apply kept_foldl_fst | with_reducible apply kept_foldl_snd
    | (intro a x; intro (hk : Kept b n x.1))

theorem State.axSetState_kept (s : State) (k : Nat) (st : Nat) (hs : Kept b n s) : Kept b n (State.axSetState s k st) := by
  unfold State.axSetState
  repeat' first
    | with_reducible assumption | with_reducible apply keptOut_next | with_reducible apply keptOut_refused
    | with_reducible apply keptOpt_some | with_reducible apply keptOpt_none | with_reducible apply keptOptOut_some
    | with_reducible apply keptOptOut_none | with_reducible apply kept_ite | with_reducible apply keptOut_ite
    | with_reducible apply keptOpt_ite | with_reducible apply keptOptOut_ite | with_reducible apply kept_ite_fst
    | with_reducible apply kept_ite_snd | with_reducible apply State.raise_kept
    | with_reducible apply State.axNote_kept | with_reducible apply State.putFld_kept | with_reducible apply kept_forL
    | with_reducible apply kept_forN | with_reducible apply kept_foldl | with_reducible apply kept_forN_fst
    | with_reducible apply kept_forL_fst | with_reducible apply kept_foldl_fst | with_reducible apply kept_foldl_snd
    | (intro a x; intro (hk : Kept b n x.1))

theorem State.axDiscard_kept (s : State) (k : Nat) (st : Nat) (hs : Kept b n s) : Kept b n (State.axDiscard s k st) := by
  unfold State.axDiscard
  repeat' first
    | with_reducible assumption | with_reducible apply keptOut_next | with_reducible apply keptOut_refused
    | with_reducible apply keptOpt_some | with_reducible apply keptOpt_none | with_reducible apply keptOptOut_some
    | with_reducible apply keptOptOut_none | with_reducible apply kept_ite | with_reducible apply keptOut_ite
    | with_reducible apply keptOpt_ite | with_reducible apply keptOptOut_ite | with_reducible apply kept_ite_fst
    | with_reducible apply kept_ite_snd | with_reducible apply State.setAxis_kept
    | with_reducible apply State.axPut_kept | with_reducible apply State.putFld_kept
    | with_reducible apply State.axSetState_kept | with_reducible apply kept_forL | with_reducible apply kept_forN
    | with_reducible apply kept_foldl | with_reducible apply kept_forN_fst | with_reducible apply kept_forL_fst
    | with_reducible apply kept_foldl_fst | with_reducible apply kept_foldl_snd
    | (intro a x; intro (hk : Kept b n x.1))

theorem State.axOrigin_kept (s : State) (k : Nat) (v : Int) (hs : Kept b n s) : Kept b n (State.axOrigin s k v) := by
  unfold State.axOrigin
  repeat' first
    | with_reducible assumption | with_reducible apply keptOut_next | with_reducible apply keptOut_refused
    | with_reducible apply keptOpt_some | with_reducible apply keptOpt_none | with_reducible apply keptOptOut_some
    | with_reducible apply keptOptOut_none | with_reducible apply kept_ite | with_reducible apply keptOut_ite
    | with_reducible apply keptOpt_ite | with_reducible apply keptOptOut_ite | with_reducible apply kept_ite_fst
    | with_reducible apply kept_ite_snd | with_reducible apply State.setAxis_kept
    | with_reducible apply State.axPut_kept | with_reducible apply kept_forL | with_reducible apply kept_forN
    | with_reducible apply kept_foldl | with_reducible apply kept_forN_fst | with_reducible apply kept_forL_fst
    | with_reducible apply kept_foldl_fst | with_reducible apply kept_foldl_snd | (intro x; intro (hk : Kept b n x))
    | (intro a x; intro (hk : Kept b n x)) | (intro a x; intro (hk : Kept b n x.1))
    | (intro x a; intro (hk : Kept b n x)) | (intro x a; intro (hk : Kept b n x.1))
    | (intro x a; intro (hk : Kept b n x.2)) | lift_lets | (intro x; refine have hx : Kept b n x := ?_; ?_; unfold x)
    | (intro x; refine have hfun : ∀ y, Kept b n (x y) := ?_; ?_; intro y; unfold x) | with_reducible apply hfun
    | (intro x; refine have hx : KeptOpt b n x := ?_; ?_; unfold x)
    | (intro x; refine have hx : Kept b n x.1 := ?_; ?_; unfold x)
    | (intro x; refine have hx : Kept b n x.2 := ?_; ?_; unfold x) | intro x
    | (unfold Kept; dsimp only; with_reducible apply kept_upd) | (with_reducible apply kept_fst (by assumption))
    | (with_reducible apply kept_snd (by assumption)) | (with_reducible apply keptOpt_get (by assumption))
    | (with_reducible apply keptOut_get (by assumption)) | (with_reducible apply keptOptOut_get (by assumption))
    | split | grind [Kept, regsOk_set, memOk_put, memOk_filter, regsOk_filter, memOk_nil]

theorem State.axSat_kept (s : State) (k : Nat) (v : Int) (hs : Kept b n s) : Kept b n (State.axSat s k v) := by
  unfold State.axSat
  repeat' first
    | with_reducible assumption | with_reducible apply State.raiseIf_kept | with_reducible apply State.axBit_kept
    | with_reducible apply kept_forN_fst | with_reducible apply kept_forL_fst | (intro a x; intro (hk : Kept b n x.1))

theorem State.observe_kept (s : State) (k : Nat) (x : Nat) (m : Int) (dt : Nat) (hs : Kept b n s) : Kept b n (State.observe s k x m dt) := by
  unfold State.observe
  repeat' first
    | with_reducible assumption | with_reducible apply keptOut_next | with_reducible apply keptOut_refused
    | with_reducible apply keptOpt_some | with_reducible apply keptOpt_none | with_reducible apply keptOptOut_some
    | with_reducible apply keptOptOut_none | with_reducible apply kept_ite | with_reducible apply keptOut_ite
    | with_reducible apply keptOpt_ite | with_reducible apply keptOptOut_ite | with_reducible apply kept_ite_fst
    | with_reducible apply kept_ite_snd | with_reducible apply State.raise_kept
    | with_reducible apply State.incSat_kept | with_reducible apply State.setAxis_kept
    | with_reducible apply State.axPut_kept | with_reducible apply State.axSat_kept | with_reducible apply kept_forL
    | with_reducible apply kept_forN | with_reducible apply kept_foldl | with_reducible apply kept_forN_fst
    | with_reducible apply kept_forL_fst | with_reducible apply kept_foldl_fst | with_reducible apply kept_foldl_snd
    | (intro a x; intro (hk : Kept b n x.1))

theorem State.axResume_kept (s : State) (k : Nat) (hs : Kept b n s) : Kept b n (State.axResume s k) := by
  unfold State.axResume
  repeat' first
    | with_reducible assumption | with_reducible apply keptOut_next | with_reducible apply keptOut_refused
    | with_reducible apply keptOpt_some | with_reducible apply keptOpt_none | with_reducible apply keptOptOut_some
    | with_reducible apply keptOptOut_none | with_reducible apply kept_ite | with_reducible apply keptOut_ite
    | with_reducible apply keptOpt_ite | with_reducible apply keptOptOut_ite | with_reducible apply kept_ite_fst
    | with_reducible apply kept_ite_snd | with_reducible apply State.setAxis_kept
    | with_reducible apply State.axStep_kept | with_reducible apply State.observe_kept
    | with_reducible apply State.axRearm_kept | with_reducible apply kept_forL | with_reducible apply kept_forN
    | with_reducible apply kept_foldl | with_reducible apply kept_forN_fst | with_reducible apply kept_forL_fst
    | with_reducible apply kept_foldl_fst | with_reducible apply kept_foldl_snd | (intro x; intro (hk : Kept b n x))
    | (intro a x; intro (hk : Kept b n x)) | (intro a x; intro (hk : Kept b n x.1))
    | (intro x a; intro (hk : Kept b n x)) | (intro x a; intro (hk : Kept b n x.1))
    | (intro x a; intro (hk : Kept b n x.2)) | lift_lets | (intro x; refine have hx : Kept b n x := ?_; ?_; unfold x)
    | (intro x; refine have hfun : ∀ y, Kept b n (x y) := ?_; ?_; intro y; unfold x) | with_reducible apply hfun
    | (intro x; refine have hx : KeptOpt b n x := ?_; ?_; unfold x)
    | (intro x; refine have hx : Kept b n x.1 := ?_; ?_; unfold x)
    | (intro x; refine have hx : Kept b n x.2 := ?_; ?_; unfold x) | intro x
    | (unfold Kept; dsimp only; with_reducible apply kept_upd) | (with_reducible apply kept_fst (by assumption))
    | (with_reducible apply kept_snd (by assumption)) | (with_reducible apply keptOpt_get (by assumption))
    | (with_reducible apply keptOut_get (by assumption)) | (with_reducible apply keptOptOut_get (by assumption))
    | split | grind [Kept, regsOk_set, memOk_put, memOk_filter, regsOk_filter, memOk_nil]

theorem State.axisApplied_kept (s : State) (old : State) (k : Nat) (hs : Kept b n s) : Kept b n (State.axisApplied s old k) := by
  unfold State.axisApplied
  repeat' first
    | with_reducible assumption | with_reducible apply keptOut_next | with_reducible apply keptOut_refused
    | with_reducible apply keptOpt_some | with_reducible apply keptOpt_none | with_reducible apply keptOptOut_some
    | with_reducible apply keptOptOut_none | with_reducible apply kept_ite | with_reducible apply keptOut_ite
    | with_reducible apply keptOpt_ite | with_reducible apply keptOptOut_ite | with_reducible apply kept_ite_fst
    | with_reducible apply kept_ite_snd | with_reducible apply State.axBit_kept
    | with_reducible apply State.setAxis_kept | with_reducible apply State.axDiscard_kept
    | with_reducible apply State.axSetState_kept | with_reducible apply kept_forL | with_reducible apply kept_forN
    | with_reducible apply kept_foldl | with_reducible apply kept_forN_fst | with_reducible apply kept_forL_fst
    | with_reducible apply kept_foldl_fst | with_reducible apply kept_foldl_snd
    | (intro a x; intro (hk : Kept b n x.1))

theorem State.setEnc_kept (s : State) (x2 : Nat) (x : Source) (hs : Kept b n s) : Kept b n (State.setEnc s x2 x) := by
  unfold State.setEnc
  repeat' first
    | with_reducible assumption | with_reducible apply keptOut_next | with_reducible apply keptOut_refused
    | with_reducible apply keptOpt_some | with_reducible apply keptOpt_none | with_reducible apply keptOptOut_some
    | with_reducible apply keptOptOut_none | with_reducible apply kept_ite | with_reducible apply keptOut_ite
    | with_reducible apply keptOpt_ite | with_reducible apply keptOptOut_ite | with_reducible apply kept_ite_fst
    | with_reducible apply kept_ite_snd | with_reducible apply kept_forL | with_reducible apply kept_forN
    | with_reducible apply kept_foldl | with_reducible apply kept_forN_fst | with_reducible apply kept_forL_fst
    | with_reducible apply kept_foldl_fst | with_reducible apply kept_foldl_snd | (intro x; intro (hk : Kept b n x))
    | (intro a x; intro (hk : Kept b n x)) | (intro a x; intro (hk : Kept b n x.1))
    | (intro x a; intro (hk : Kept b n x)) | (intro x a; intro (hk : Kept b n x.1))
    | (intro x a; intro (hk : Kept b n x.2)) | lift_lets | (intro x; refine have hx : Kept b n x := ?_; ?_; unfold x)
    | (intro x; refine have hfun : ∀ y, Kept b n (x y) := ?_; ?_; intro y; unfold x) | with_reducible apply hfun
    | (intro x; refine have hx : KeptOpt b n x := ?_; ?_; unfold x)
    | (intro x; refine have hx : Kept b n x.1 := ?_; ?_; unfold x)
    | (intro x; refine have hx : Kept b n x.2 := ?_; ?_; unfold x) | intro x
    | (unfold Kept; dsimp only; with_reducible apply kept_upd) | (with_reducible apply kept_fst (by assumption))
    | (with_reducible apply kept_snd (by assumption)) | (with_reducible apply keptOpt_get (by assumption))
    | (with_reducible apply keptOut_get (by assumption)) | (with_reducible apply keptOptOut_get (by assumption))
    | split | grind [Kept, regsOk_set, memOk_put, memOk_filter, regsOk_filter, memOk_nil]

theorem State.setSsi_kept (s : State) (x2 : Nat) (x : Source) (hs : Kept b n s) : Kept b n (State.setSsi s x2 x) := by
  unfold State.setSsi
  repeat' first
    | with_reducible assumption | with_reducible apply keptOut_next | with_reducible apply keptOut_refused
    | with_reducible apply keptOpt_some | with_reducible apply keptOpt_none | with_reducible apply keptOptOut_some
    | with_reducible apply keptOptOut_none | with_reducible apply kept_ite | with_reducible apply keptOut_ite
    | with_reducible apply keptOpt_ite | with_reducible apply keptOptOut_ite | with_reducible apply kept_ite_fst
    | with_reducible apply kept_ite_snd | with_reducible apply kept_forL | with_reducible apply kept_forN
    | with_reducible apply kept_foldl | with_reducible apply kept_forN_fst | with_reducible apply kept_forL_fst
    | with_reducible apply kept_foldl_fst | with_reducible apply kept_foldl_snd | (intro x; intro (hk : Kept b n x))
    | (intro a x; intro (hk : Kept b n x)) | (intro a x; intro (hk : Kept b n x.1))
    | (intro x a; intro (hk : Kept b n x)) | (intro x a; intro (hk : Kept b n x.1))
    | (intro x a; intro (hk : Kept b n x.2)) | lift_lets | (intro x; refine have hx : Kept b n x := ?_; ?_; unfold x)
    | (intro x; refine have hfun : ∀ y, Kept b n (x y) := ?_; ?_; intro y; unfold x) | with_reducible apply hfun
    | (intro x; refine have hx : KeptOpt b n x := ?_; ?_; unfold x)
    | (intro x; refine have hx : Kept b n x.1 := ?_; ?_; unfold x)
    | (intro x; refine have hx : Kept b n x.2 := ?_; ?_; unfold x) | intro x
    | (unfold Kept; dsimp only; with_reducible apply kept_upd) | (with_reducible apply kept_fst (by assumption))
    | (with_reducible apply kept_snd (by assumption)) | (with_reducible apply keptOpt_get (by assumption))
    | (with_reducible apply keptOut_get (by assumption)) | (with_reducible apply keptOptOut_get (by assumption))
    | split | grind [Kept, regsOk_set, memOk_put, memOk_filter, regsOk_filter, memOk_nil]

theorem State.inputApplied_kept (s : State) (old : State) (hs : Kept b n s) : Kept b n (State.inputApplied s old) := by
  unfold State.inputApplied
  repeat' first
    | with_reducible assumption | with_reducible apply keptOut_next | with_reducible apply keptOut_refused
    | with_reducible apply keptOpt_some | with_reducible apply keptOpt_none | with_reducible apply keptOptOut_some
    | with_reducible apply keptOptOut_none | with_reducible apply kept_ite | with_reducible apply keptOut_ite
    | with_reducible apply keptOpt_ite | with_reducible apply keptOptOut_ite | with_reducible apply kept_ite_fst
    | with_reducible apply kept_ite_snd | with_reducible apply State.setEnc_kept
    | with_reducible apply State.setSsi_kept | with_reducible apply kept_forL | with_reducible apply kept_forN
    | with_reducible apply kept_foldl | with_reducible apply kept_forN_fst | with_reducible apply kept_forL_fst
    | with_reducible apply kept_foldl_fst | with_reducible apply kept_foldl_snd | (intro x; intro (hk : Kept b n x))
    | (intro a x; intro (hk : Kept b n x)) | (intro a x; intro (hk : Kept b n x.1))
    | (intro x a; intro (hk : Kept b n x)) | (intro x a; intro (hk : Kept b n x.1))
    | (intro x a; intro (hk : Kept b n x.2)) | lift_lets | (intro x; refine have hx : Kept b n x := ?_; ?_; unfold x)
    | (intro x; refine have hfun : ∀ y, Kept b n (x y) := ?_; ?_; intro y; unfold x) | with_reducible apply hfun
    | (intro x; refine have hx : KeptOpt b n x := ?_; ?_; unfold x)
    | (intro x; refine have hx : Kept b n x.1 := ?_; ?_; unfold x)
    | (intro x; refine have hx : Kept b n x.2 := ?_; ?_; unfold x) | intro x
    | (unfold Kept; dsimp only; with_reducible apply kept_upd) | (with_reducible apply kept_fst (by assumption))
    | (with_reducible apply kept_snd (by assumption)) | (with_reducible apply keptOpt_get (by assumption))
    | (with_reducible apply keptOut_get (by assumption)) | (with_reducible apply keptOptOut_get (by assumption))
    | split | grind [Kept, regsOk_set, memOk_put, memOk_filter, regsOk_filter, memOk_nil]

theorem State.setMd_kept (s : State) (x2 : Nat) (x : Source) (hs : Kept b n s) : Kept b n (State.setMd s x2 x) := by
  unfold State.setMd
  repeat' first
    | with_reducible assumption | with_reducible apply keptOut_next | with_reducible apply keptOut_refused
    | with_reducible apply keptOpt_some | with_reducible apply keptOpt_none | with_reducible apply keptOptOut_some
    | with_reducible apply keptOptOut_none | with_reducible apply kept_ite | with_reducible apply keptOut_ite
    | with_reducible apply keptOpt_ite | with_reducible apply keptOptOut_ite | with_reducible apply kept_ite_fst
    | with_reducible apply kept_ite_snd | with_reducible apply kept_forL | with_reducible apply kept_forN
    | with_reducible apply kept_foldl | with_reducible apply kept_forN_fst | with_reducible apply kept_forL_fst
    | with_reducible apply kept_foldl_fst | with_reducible apply kept_foldl_snd | (intro x; intro (hk : Kept b n x))
    | (intro a x; intro (hk : Kept b n x)) | (intro a x; intro (hk : Kept b n x.1))
    | (intro x a; intro (hk : Kept b n x)) | (intro x a; intro (hk : Kept b n x.1))
    | (intro x a; intro (hk : Kept b n x.2)) | lift_lets | (intro x; refine have hx : Kept b n x := ?_; ?_; unfold x)
    | (intro x; refine have hfun : ∀ y, Kept b n (x y) := ?_; ?_; intro y; unfold x) | with_reducible apply hfun
    | (intro x; refine have hx : KeptOpt b n x := ?_; ?_; unfold x)
    | (intro x; refine have hx : Kept b n x.1 := ?_; ?_; unfold x)
    | (intro x; refine have hx : Kept b n x.2 := ?_; ?_; unfold x) | intro x
    | (unfold Kept; dsimp only; with_reducible apply kept_upd) | (with_reducible apply kept_fst (by assumption))
    | (with_reducible apply kept_snd (by assumption)) | (with_reducible apply keptOpt_get (by assumption))
    | (with_reducible apply keptOut_get (by assumption)) | (with_reducible apply keptOptOut_get (by assumption))
    | split | grind [Kept, regsOk_set, memOk_put, memOk_filter, regsOk_filter, memOk_nil]

theorem State.mdApplied_kept (s : State) (old : State) (hs : Kept b n s) : Kept b n (State.mdApplied s old) := by
  unfold State.mdApplied
  repeat' first
    | with_reducible assumption | with_reducible apply keptOut_next | with_reducible apply keptOut_refused
    | with_reducible apply keptOpt_some | with_reducible apply keptOpt_none | with_reducible apply keptOptOut_some
    | with_reducible apply keptOptOut_none | with_reducible apply kept_ite | with_reducible apply keptOut_ite
    | with_reducible apply keptOpt_ite | with_reducible apply keptOptOut_ite | with_reducible apply kept_ite_fst
    | with_reducible apply kept_ite_snd | with_reducible apply State.setMd_kept | with_reducible apply kept_forL
    | with_reducible apply kept_forN | with_reducible apply kept_foldl | with_reducible apply kept_forN_fst
    | with_reducible apply kept_forL_fst | with_reducible apply kept_foldl_fst | with_reducible apply kept_foldl_snd
    | (intro x; intro (hk : Kept b n x)) | (intro a x; intro (hk : Kept b n x))
    | (intro a x; intro (hk : Kept b n x.1)) | (intro x a; intro (hk : Kept b n x))
    | (intro x a; intro (hk : Kept b n x.1)) | (intro x a; intro (hk : Kept b n x.2)) | lift_lets
    | (intro x; refine have hx : Kept b n x := ?_; ?_; unfold x)
    | (intro x; refine have hfun : ∀ y, Kept b n (x y) := ?_; ?_; intro y; unfold x) | with_reducible apply hfun
    | (intro x; refine have hx : KeptOpt b n x := ?_; ?_; unfold x)
    | (intro x; refine have hx : Kept b n x.1 := ?_; ?_; unfold x)
    | (intro x; refine have hx : Kept b n x.2 := ?_; ?_; unfold x) | intro x
    | (unfold Kept; dsimp only; with_reducible apply kept_upd) | (with_reducible apply kept_fst (by assumption))
    | (with_reducible apply kept_snd (by assumption)) | (with_reducible apply keptOpt_get (by assumption))
    | (with_reducible apply keptOut_get (by assumption)) | (with_reducible apply keptOptOut_get (by assumption))
    | split | grind [Kept, regsOk_set, memOk_put, memOk_filter, regsOk_filter, memOk_nil]

theorem State.setFirefly_kept (s : State) (x2 : Nat) (f : Firefly) (hs : Kept b n s) : Kept b n (State.setFirefly s x2 f) := by
  unfold State.setFirefly
  repeat' first
    | with_reducible assumption | with_reducible apply keptOut_next | with_reducible apply keptOut_refused
    | with_reducible apply keptOpt_some | with_reducible apply keptOpt_none | with_reducible apply keptOptOut_some
    | with_reducible apply keptOptOut_none | with_reducible apply kept_ite | with_reducible apply keptOut_ite
    | with_reducible apply keptOpt_ite | with_reducible apply keptOptOut_ite | with_reducible apply kept_ite_fst
    | with_reducible apply kept_ite_snd | with_reducible apply kept_forL | with_reducible apply kept_forN
    | with_reducible apply kept_foldl | with_reducible apply kept_forN_fst | with_reducible apply kept_forL_fst
    | with_reducible apply kept_foldl_fst | with_reducible apply kept_foldl_snd
    | (intro a x; intro (hk : Kept b n x.1)) | (unfold Kept; dsimp only; with_reducible apply kept_upd)

theorem State.ffCommit_kept (s : State) (old : State) (x3 : Nat) (hs : Kept b n s) : Kept b n (State.ffCommit s old x3) := by
  unfold State.ffCommit
  repeat' first
    | with_reducible assumption | with_reducible apply keptOut_next | with_reducible apply keptOut_refused
    | with_reducible apply keptOpt_some | with_reducible apply keptOpt_none | with_reducible apply keptOptOut_some
    | with_reducible apply keptOptOut_none | with_reducible apply kept_ite | with_reducible apply keptOut_ite
    | with_reducible apply keptOpt_ite | with_reducible apply keptOptOut_ite | with_reducible apply kept_ite_fst
    | with_reducible apply kept_ite_snd | with_reducible apply State.setFirefly_kept | with_reducible apply kept_forL
    | with_reducible apply kept_forN | with_reducible apply kept_foldl | with_reducible apply kept_forN_fst
    | with_reducible apply kept_forL_fst | with_reducible apply kept_foldl_fst | with_reducible apply kept_foldl_snd
    | (intro x; intro (hk : Kept b n x)) | (intro a x; intro (hk : Kept b n x))
    | (intro a x; intro (hk : Kept b n x.1)) | (intro x a; intro (hk : Kept b n x))
    | (intro x a; intro (hk : Kept b n x.1)) | (intro x a; intro (hk : Kept b n x.2)) | lift_lets
    | (intro x; refine have hx : Kept b n x := ?_; ?_; unfold x)
    | (intro x; refine have hfun : ∀ y, Kept b n (x y) := ?_; ?_; intro y; unfold x) | with_reducible apply hfun
    | (intro x; refine have hx : KeptOpt b n x := ?_; ?_; unfold x)
    | (intro x; refine have hx : Kept b n x.1 := ?_; ?_; unfold x)
    | (intro x; refine have hx : Kept b n x.2 := ?_; ?_; unfold x) | intro x
    | (unfold Kept; dsimp only; with_reducible apply kept_upd) | (with_reducible apply kept_fst (by assumption))
    | (with_reducible apply kept_snd (by assumption)) | (with_reducible apply keptOpt_get (by assumption))
    | (with_reducible apply keptOut_get (by assumption)) | (with_reducible apply keptOptOut_get (by assumption))
    | split | grind [Kept, regsOk_set, memOk_put, memOk_filter, regsOk_filter, memOk_nil]

theorem State.axsApplied_kept (s : State) (old : State) (p : Nat) (hs : Kept b n s) : Kept b n (State.axsApplied s old p) := by
  unfold State.axsApplied
  repeat' first
    | with_reducible assumption | with_reducible apply keptOut_next | with_reducible apply keptOut_refused
    | with_reducible apply keptOpt_some | with_reducible apply keptOpt_none | with_reducible apply keptOptOut_some
    | with_reducible apply keptOptOut_none | with_reducible apply kept_ite | with_reducible apply keptOut_ite
    | with_reducible apply keptOpt_ite | with_reducible apply keptOptOut_ite | with_reducible apply kept_ite_fst
    | with_reducible apply kept_ite_snd | with_reducible apply State.axisApplied_kept
    | with_reducible apply State.inputApplied_kept | with_reducible apply State.mdApplied_kept
    | with_reducible apply State.setEntry_kept | with_reducible apply State.armEntry_kept
    | with_reducible apply State.ffCommit_kept | with_reducible apply kept_forL | with_reducible apply kept_forN
    | with_reducible apply kept_foldl | with_reducible apply kept_forN_fst | with_reducible apply kept_forL_fst
    | with_reducible apply kept_foldl_fst | with_reducible apply kept_foldl_snd | (intro a x; intro (hk : Kept b n x))
    | (intro a x; intro (hk : Kept b n x.1)) | (intro x a; intro (hk : Kept b n x))

theorem State.encLost_kept (s : State) (x2 : Nat) (hs : Kept b n s) : Kept b n (State.encLost s x2) := by
  unfold State.encLost
  repeat' first
    | with_reducible assumption | with_reducible apply keptOut_next | with_reducible apply keptOut_refused
    | with_reducible apply keptOpt_some | with_reducible apply keptOpt_none | with_reducible apply keptOptOut_some
    | with_reducible apply keptOptOut_none | with_reducible apply kept_ite | with_reducible apply keptOut_ite
    | with_reducible apply keptOpt_ite | with_reducible apply keptOptOut_ite | with_reducible apply kept_ite_fst
    | with_reducible apply kept_ite_snd | with_reducible apply State.setAxis_kept | with_reducible apply kept_forL
    | with_reducible apply kept_forN | with_reducible apply kept_foldl | with_reducible apply kept_forN_fst
    | with_reducible apply kept_forL_fst | with_reducible apply kept_foldl_fst | with_reducible apply kept_foldl_snd
    | (intro x; intro (hk : Kept b n x)) | (intro a x; intro (hk : Kept b n x))
    | (intro a x; intro (hk : Kept b n x.1)) | (intro x a; intro (hk : Kept b n x))
    | (intro x a; intro (hk : Kept b n x.1)) | (intro x a; intro (hk : Kept b n x.2)) | lift_lets
    | (intro x; refine have hx : Kept b n x := ?_; ?_; unfold x)
    | (intro x; refine have hfun : ∀ y, Kept b n (x y) := ?_; ?_; intro y; unfold x) | with_reducible apply hfun
    | (intro x; refine have hx : KeptOpt b n x := ?_; ?_; unfold x)
    | (intro x; refine have hx : Kept b n x.1 := ?_; ?_; unfold x)
    | (intro x; refine have hx : Kept b n x.2 := ?_; ?_; unfold x) | intro x
    | (unfold Kept; dsimp only; with_reducible apply kept_upd) | (with_reducible apply kept_fst (by assumption))
    | (with_reducible apply kept_snd (by assumption)) | (with_reducible apply keptOpt_get (by assumption))
    | (with_reducible apply keptOut_get (by assumption)) | (with_reducible apply keptOptOut_get (by assumption))
    | split | grind [Kept, regsOk_set, memOk_put, memOk_filter, regsOk_filter, memOk_nil]

theorem State.encRestart_kept (s : State) (k : Nat) (hs : Kept b n s) : Kept b n (State.encRestart s k) := by
  unfold State.encRestart
  repeat' first
    | with_reducible assumption | with_reducible apply keptOut_next | with_reducible apply keptOut_refused
    | with_reducible apply keptOpt_some | with_reducible apply keptOpt_none | with_reducible apply keptOptOut_some
    | with_reducible apply keptOptOut_none | with_reducible apply kept_ite | with_reducible apply keptOut_ite
    | with_reducible apply keptOpt_ite | with_reducible apply keptOptOut_ite | with_reducible apply kept_ite_fst
    | with_reducible apply kept_ite_snd | with_reducible apply State.setAxis_kept | with_reducible apply kept_forL
    | with_reducible apply kept_forN | with_reducible apply kept_foldl | with_reducible apply kept_forN_fst
    | with_reducible apply kept_forL_fst | with_reducible apply kept_foldl_fst | with_reducible apply kept_foldl_snd
    | (intro x; intro (hk : Kept b n x)) | (intro a x; intro (hk : Kept b n x))
    | (intro a x; intro (hk : Kept b n x.1)) | (intro x a; intro (hk : Kept b n x))
    | (intro x a; intro (hk : Kept b n x.1)) | (intro x a; intro (hk : Kept b n x.2)) | lift_lets
    | (intro x; refine have hx : Kept b n x := ?_; ?_; unfold x)
    | (intro x; refine have hfun : ∀ y, Kept b n (x y) := ?_; ?_; intro y; unfold x) | with_reducible apply hfun
    | (intro x; refine have hx : KeptOpt b n x := ?_; ?_; unfold x)
    | (intro x; refine have hx : Kept b n x.1 := ?_; ?_; unfold x)
    | (intro x; refine have hx : Kept b n x.2 := ?_; ?_; unfold x) | intro x
    | (unfold Kept; dsimp only; with_reducible apply kept_upd) | (with_reducible apply kept_fst (by assumption))
    | (with_reducible apply kept_snd (by assumption)) | (with_reducible apply keptOpt_get (by assumption))
    | (with_reducible apply keptOut_get (by assumption)) | (with_reducible apply keptOptOut_get (by assumption))
    | split | grind [Kept, regsOk_set, memOk_put, memOk_filter, regsOk_filter, memOk_nil]

theorem State.encTake_kept (s : State) (x2 : Nat) (d : Int) (x : Nat) (hs : Kept b n s) : Kept b n (State.encTake s x2 d x) := by
  unfold State.encTake
  repeat' first
    | with_reducible assumption | with_reducible apply keptOut_next | with_reducible apply keptOut_refused
    | with_reducible apply keptOpt_some | with_reducible apply keptOpt_none | with_reducible apply keptOptOut_some
    | with_reducible apply keptOptOut_none | with_reducible apply kept_ite | with_reducible apply keptOut_ite
    | with_reducible apply keptOpt_ite | with_reducible apply keptOptOut_ite | with_reducible apply kept_ite_fst
    | with_reducible apply kept_ite_snd | with_reducible apply State.wr_kept | with_reducible apply State.setEnc_kept
    | with_reducible apply State.setAxis_kept | with_reducible apply kept_forL | with_reducible apply kept_forN
    | with_reducible apply kept_foldl | with_reducible apply kept_forN_fst | with_reducible apply kept_forL_fst
    | with_reducible apply kept_foldl_fst | with_reducible apply kept_foldl_snd | (intro x; intro (hk : Kept b n x))
    | (intro a x; intro (hk : Kept b n x)) | (intro a x; intro (hk : Kept b n x.1))
    | (intro x a; intro (hk : Kept b n x)) | (intro x a; intro (hk : Kept b n x.1))
    | (intro x a; intro (hk : Kept b n x.2)) | lift_lets | (intro x; refine have hx : Kept b n x := ?_; ?_; unfold x)
    | (intro x; refine have hfun : ∀ y, Kept b n (x y) := ?_; ?_; intro y; unfold x) | with_reducible apply hfun
    | (intro x; refine have hx : KeptOpt b n x := ?_; ?_; unfold x)
    | (intro x; refine have hx : Kept b n x.1 := ?_; ?_; unfold x)
    | (intro x; refine have hx : Kept b n x.2 := ?_; ?_; unfold x) | intro x
    | (unfold Kept; dsimp only; with_reducible apply kept_upd) | (with_reducible apply kept_fst (by assumption))
    | (with_reducible apply kept_snd (by assumption)) | (with_reducible apply keptOpt_get (by assumption))
    | (with_reducible apply keptOut_get (by assumption)) | (with_reducible apply keptOptOut_get (by assumption))
    | split | grind [Kept, regsOk_set, memOk_put, memOk_filter, regsOk_filter, memOk_nil]

theorem State.ffGate_kept (s : State) (hs : Kept b n s) : Kept b n (State.ffGate s) := by
  unfold State.ffGate
  repeat' first
    | with_reducible assumption | with_reducible apply keptOut_next | with_reducible apply keptOut_refused
    | with_reducible apply keptOpt_some | with_reducible apply keptOpt_none | with_reducible apply keptOptOut_some
    | with_reducible apply keptOptOut_none | with_reducible apply kept_ite | with_reducible apply keptOut_ite
    | with_reducible apply keptOpt_ite | with_reducible apply keptOptOut_ite | with_reducible apply kept_ite_fst
    | with_reducible apply kept_ite_snd | with_reducible apply State.setFirefly_kept | with_reducible apply kept_forL
    | with_reducible apply kept_forN | with_reducible apply kept_foldl | with_reducible apply kept_forN_fst
    | with_reducible apply kept_forL_fst | with_reducible apply kept_foldl_fst | with_reducible apply kept_foldl_snd
    | (intro x; intro (hk : Kept b n x)) | (intro a x; intro (hk : Kept b n x))
    | (intro a x; intro (hk : Kept b n x.1)) | (intro x a; intro (hk : Kept b n x))
    | (intro x a; intro (hk : Kept b n x.1)) | (intro x a; intro (hk : Kept b n x.2)) | lift_lets
    | (intro x; refine have hx : Kept b n x := ?_; ?_; unfold x)
    | (intro x; refine have hfun : ∀ y, Kept b n (x y) := ?_; ?_; intro y; unfold x) | with_reducible apply hfun
    | (intro x; refine have hx : KeptOpt b n x := ?_; ?_; unfold x)
    | (intro x; refine have hx : Kept b n x.1 := ?_; ?_; unfold x)
    | (intro x; refine have hx : Kept b n x.2 := ?_; ?_; unfold x) | intro x
    | (unfold Kept; dsimp only; with_reducible apply kept_upd) | (with_reducible apply kept_fst (by assumption))
    | (with_reducible apply kept_snd (by assumption)) | (with_reducible apply keptOpt_get (by assumption))
    | (with_reducible apply keptOut_get (by assumption)) | (with_reducible apply keptOptOut_get (by assumption))
    | split | grind [Kept, regsOk_set, memOk_put, memOk_filter, regsOk_filter, memOk_nil]

theorem State.setStrobe_kept (s : State) (line : Nat) (x3 : Nat) (ph : Nat) (se : Nat) (hs : Kept b n s) : Kept b n (State.setStrobe s line x3 ph se) := by
  unfold State.setStrobe
  repeat' first
    | with_reducible assumption | with_reducible apply keptOut_next | with_reducible apply keptOut_refused
    | with_reducible apply keptOpt_some | with_reducible apply keptOpt_none | with_reducible apply keptOptOut_some
    | with_reducible apply keptOptOut_none | with_reducible apply kept_ite | with_reducible apply keptOut_ite
    | with_reducible apply keptOpt_ite | with_reducible apply keptOptOut_ite | with_reducible apply kept_ite_fst
    | with_reducible apply kept_ite_snd | with_reducible apply kept_forL | with_reducible apply kept_forN
    | with_reducible apply kept_foldl | with_reducible apply kept_forN_fst | with_reducible apply kept_forL_fst
    | with_reducible apply kept_foldl_fst | with_reducible apply kept_foldl_snd
    | (intro a x; intro (hk : Kept b n x.1)) | (unfold Kept; dsimp only; with_reducible apply kept_upd)

theorem State.fire_kept (s : State) (d : Nat) (x3 : Int) (hs : Kept b n s) : Kept b n (State.fire s d x3) := by
  unfold State.fire
  repeat' first
    | with_reducible assumption | with_reducible apply keptOut_next | with_reducible apply keptOut_refused
    | with_reducible apply keptOpt_some | with_reducible apply keptOpt_none | with_reducible apply keptOptOut_some
    | with_reducible apply keptOptOut_none | with_reducible apply kept_ite | with_reducible apply keptOut_ite
    | with_reducible apply keptOpt_ite | with_reducible apply keptOptOut_ite | with_reducible apply kept_ite_fst
    | with_reducible apply kept_ite_snd | with_reducible apply State.setEntry_kept
    | with_reducible apply State.setStrobe_kept | with_reducible apply State.raise_kept
    | with_reducible apply kept_forL | with_reducible apply kept_forN | with_reducible apply kept_foldl
    | with_reducible apply kept_forN_fst | with_reducible apply kept_forL_fst | with_reducible apply kept_foldl_fst
    | with_reducible apply kept_foldl_snd | (intro a x; intro (hk : Kept b n x.1))

theorem State.mdStream_kept (s : State) (x2 : Nat) (x : Nat) (w : List ChIn) (hs : Kept b n s) : Kept b n (State.mdStream s x2 x w).1 := by
  unfold State.mdStream
  repeat' first
    | with_reducible assumption | with_reducible apply keptOut_next | with_reducible apply keptOut_refused
    | with_reducible apply keptOpt_some | with_reducible apply keptOpt_none | with_reducible apply keptOptOut_some
    | with_reducible apply keptOptOut_none | with_reducible apply kept_ite | with_reducible apply keptOut_ite
    | with_reducible apply keptOpt_ite | with_reducible apply keptOptOut_ite | with_reducible apply kept_ite_fst
    | with_reducible apply kept_ite_snd | with_reducible apply State.streamTo_kept | with_reducible apply kept_forL
    | with_reducible apply kept_forN | with_reducible apply kept_foldl | with_reducible apply kept_forN_fst
    | with_reducible apply kept_forL_fst | with_reducible apply kept_foldl_fst | with_reducible apply kept_foldl_snd
    | (intro x; intro (hk : Kept b n x)) | (intro a x; intro (hk : Kept b n x))
    | (intro a x; intro (hk : Kept b n x.1)) | (intro x a; intro (hk : Kept b n x))
    | (intro x a; intro (hk : Kept b n x.1)) | (intro x a; intro (hk : Kept b n x.2)) | lift_lets
    | (intro x; refine have hx : Kept b n x := ?_; ?_; unfold x)
    | (intro x; refine have hfun : ∀ y, Kept b n (x y) := ?_; ?_; intro y; unfold x) | with_reducible apply hfun
    | (intro x; refine have hx : KeptOpt b n x := ?_; ?_; unfold x)
    | (intro x; refine have hx : Kept b n x.1 := ?_; ?_; unfold x)
    | (intro x; refine have hx : Kept b n x.2 := ?_; ?_; unfold x) | intro x
    | (unfold Kept; dsimp only; with_reducible apply kept_upd) | (with_reducible apply kept_fst (by assumption))
    | (with_reducible apply kept_snd (by assumption)) | (with_reducible apply keptOpt_get (by assumption))
    | (with_reducible apply keptOut_get (by assumption)) | (with_reducible apply keptOptOut_get (by assumption))
    | split | grind [Kept, regsOk_set, memOk_put, memOk_filter, regsOk_filter, memOk_nil]

theorem State.mdTake_kept (s : State) (x2 : Nat) (x : Nat) (w : List ChIn) (hs : Kept b n s) : Kept b n (State.mdTake s x2 x w) := by
  unfold State.mdTake
  repeat' first
    | with_reducible assumption | with_reducible apply State.mdStream_kept | with_reducible apply State.setMd_kept
    | with_reducible apply State.wr_kept | with_reducible apply kept_forN_fst | with_reducible apply kept_forL_fst
    | (intro a x; intro (hk : Kept b n x.1))

theorem State.ssiFeed_kept (s : State) (k : Nat) (raw : Nat) (old : Nat) (hs : Kept b n s) : Kept b n (State.ssiFeed s k raw old) := by
  unfold State.ssiFeed
  repeat' first
    | with_reducible assumption | with_reducible apply keptOut_next | with_reducible apply keptOut_refused
    | with_reducible apply keptOpt_some | with_reducible apply keptOpt_none | with_reducible apply keptOptOut_some
    | with_reducible apply keptOptOut_none | with_reducible apply kept_ite | with_reducible apply keptOut_ite
    | with_reducible apply keptOpt_ite | with_reducible apply keptOptOut_ite | with_reducible apply kept_ite_fst
    | with_reducible apply kept_ite_snd | with_reducible apply State.observe_kept
    | with_reducible apply State.axRearm_kept | with_reducible apply State.setAxis_kept
    | with_reducible apply kept_forL | with_reducible apply kept_forN | with_reducible apply kept_foldl
    | with_reducible apply kept_forN_fst | with_reducible apply kept_forL_fst | with_reducible apply kept_foldl_fst
    | with_reducible apply kept_foldl_snd | (intro x; intro (hk : Kept b n x)) | (intro a x; intro (hk : Kept b n x))
    | (intro a x; intro (hk : Kept b n x.1)) | (intro x a; intro (hk : Kept b n x))
    | (intro x a; intro (hk : Kept b n x.1)) | (intro x a; intro (hk : Kept b n x.2)) | lift_lets
    | (intro x; refine have hx : Kept b n x := ?_; ?_; unfold x)
    | (intro x; refine have hfun : ∀ y, Kept b n (x y) := ?_; ?_; intro y; unfold x) | with_reducible apply hfun
    | (intro x; refine have hx : KeptOpt b n x := ?_; ?_; unfold x)
    | (intro x; refine have hx : Kept b n x.1 := ?_; ?_; unfold x)
    | (intro x; refine have hx : Kept b n x.2 := ?_; ?_; unfold x) | intro x
    | (unfold Kept; dsimp only; with_reducible apply kept_upd) | (with_reducible apply kept_fst (by assumption))
    | (with_reducible apply kept_snd (by assumption)) | (with_reducible apply keptOpt_get (by assumption))
    | (with_reducible apply keptOut_get (by assumption)) | (with_reducible apply keptOptOut_get (by assumption))
    | split | grind [Kept, regsOk_set, memOk_put, memOk_filter, regsOk_filter, memOk_nil]

theorem State.ssiInvalid_kept (s : State) (m : Nat) (hs : Kept b n s) : Kept b n (State.ssiInvalid s m) := by
  unfold State.ssiInvalid
  repeat' first
    | with_reducible assumption | with_reducible apply keptOut_next | with_reducible apply keptOut_refused
    | with_reducible apply keptOpt_some | with_reducible apply keptOpt_none | with_reducible apply keptOptOut_some
    | with_reducible apply keptOptOut_none | with_reducible apply kept_ite | with_reducible apply keptOut_ite
    | with_reducible apply keptOpt_ite | with_reducible apply keptOptOut_ite | with_reducible apply kept_ite_fst
    | with_reducible apply kept_ite_snd | with_reducible apply State.raiseIf_kept
    | with_reducible apply State.setSsi_kept | with_reducible apply kept_forL | with_reducible apply kept_forN
    | with_reducible apply kept_foldl | with_reducible apply kept_forN_fst | with_reducible apply kept_forL_fst
    | with_reducible apply kept_foldl_fst | with_reducible apply kept_foldl_snd
    | (intro a x; intro (hk : Kept b n x.1)) | (unfold Kept; dsimp only; with_reducible apply kept_upd)

theorem State.ssiMissed_kept (s : State) (m : Nat) (hs : Kept b n s) : Kept b n (State.ssiMissed s m) := by
  unfold State.ssiMissed
  repeat' first
    | with_reducible assumption | with_reducible apply keptOut_next | with_reducible apply keptOut_refused
    | with_reducible apply keptOpt_some | with_reducible apply keptOpt_none | with_reducible apply keptOptOut_some
    | with_reducible apply keptOptOut_none | with_reducible apply kept_ite | with_reducible apply keptOut_ite
    | with_reducible apply keptOpt_ite | with_reducible apply keptOptOut_ite | with_reducible apply kept_ite_fst
    | with_reducible apply kept_ite_snd | with_reducible apply State.setAxis_kept
    | with_reducible apply State.ssiInvalid_kept | with_reducible apply kept_forL | with_reducible apply kept_forN
    | with_reducible apply kept_foldl | with_reducible apply kept_forN_fst | with_reducible apply kept_forL_fst
    | with_reducible apply kept_foldl_fst | with_reducible apply kept_foldl_snd | (intro x; intro (hk : Kept b n x))
    | (intro a x; intro (hk : Kept b n x)) | (intro a x; intro (hk : Kept b n x.1))
    | (intro x a; intro (hk : Kept b n x)) | (intro x a; intro (hk : Kept b n x.1))
    | (intro x a; intro (hk : Kept b n x.2)) | lift_lets | (intro x; refine have hx : Kept b n x := ?_; ?_; unfold x)
    | (intro x; refine have hfun : ∀ y, Kept b n (x y) := ?_; ?_; intro y; unfold x) | with_reducible apply hfun
    | (intro x; refine have hx : KeptOpt b n x := ?_; ?_; unfold x)
    | (intro x; refine have hx : Kept b n x.1 := ?_; ?_; unfold x)
    | (intro x; refine have hx : Kept b n x.2 := ?_; ?_; unfold x) | intro x
    | (unfold Kept; dsimp only; with_reducible apply kept_upd) | (with_reducible apply kept_fst (by assumption))
    | (with_reducible apply kept_snd (by assumption)) | (with_reducible apply keptOpt_get (by assumption))
    | (with_reducible apply keptOut_get (by assumption)) | (with_reducible apply keptOptOut_get (by assumption))
    | split | grind [Kept, regsOk_set, memOk_put, memOk_filter, regsOk_filter, memOk_nil]

theorem State.zRef_kept (s : State) (k : Nat) (x3 : Nat) (x : Nat) (hs : Kept b n s) : Kept b n (State.zRef s k x3 x) := by
  unfold State.zRef
  repeat' first
    | with_reducible assumption | with_reducible apply keptOut_next | with_reducible apply keptOut_refused
    | with_reducible apply keptOpt_some | with_reducible apply keptOpt_none | with_reducible apply keptOptOut_some
    | with_reducible apply keptOptOut_none | with_reducible apply kept_ite | with_reducible apply keptOut_ite
    | with_reducible apply keptOpt_ite | with_reducible apply keptOptOut_ite | with_reducible apply kept_ite_fst
    | with_reducible apply kept_ite_snd | with_reducible apply State.setAxis_kept
    | with_reducible apply State.axBit_kept | with_reducible apply State.axStep_kept | with_reducible apply kept_forL
    | with_reducible apply kept_forN | with_reducible apply kept_foldl | with_reducible apply kept_forN_fst
    | with_reducible apply kept_forL_fst | with_reducible apply kept_foldl_fst | with_reducible apply kept_foldl_snd
    | (intro x; intro (hk : Kept b n x)) | (intro a x; intro (hk : Kept b n x))
    | (intro a x; intro (hk : Kept b n x.1)) | (intro x a; intro (hk : Kept b n x))
    | (intro x a; intro (hk : Kept b n x.1)) | (intro x a; intro (hk : Kept b n x.2)) | lift_lets
    | (intro x; refine have hx : Kept b n x := ?_; ?_; unfold x)
    | (intro x; refine have hfun : ∀ y, Kept b n (x y) := ?_; ?_; intro y; unfold x) | with_reducible apply hfun
    | (intro x; refine have hx : KeptOpt b n x := ?_; ?_; unfold x)
    | (intro x; refine have hx : Kept b n x.1 := ?_; ?_; unfold x)
    | (intro x; refine have hx : Kept b n x.2 := ?_; ?_; unfold x) | intro x
    | (unfold Kept; dsimp only; with_reducible apply kept_upd) | (with_reducible apply kept_fst (by assumption))
    | (with_reducible apply kept_snd (by assumption)) | (with_reducible apply keptOpt_get (by assumption))
    | (with_reducible apply keptOut_get (by assumption)) | (with_reducible apply keptOptOut_get (by assumption))
    | split | grind [Kept, regsOk_set, memOk_put, memOk_filter, regsOk_filter, memOk_nil]

theorem execAxisAcquired_kept (dt : Nat) (k : Fin 8) (v : Int) (s : State) (hs : Kept b n s) : KeptOut b n (execAxisAcquired dt k v s) := by
  unfold execAxisAcquired
  repeat' first
    | with_reducible assumption | with_reducible apply keptOut_next | with_reducible apply keptOut_refused
    | with_reducible apply keptOpt_some | with_reducible apply keptOpt_none | with_reducible apply keptOptOut_some
    | with_reducible apply keptOptOut_none | with_reducible apply kept_ite | with_reducible apply keptOut_ite
    | with_reducible apply keptOpt_ite | with_reducible apply keptOptOut_ite | with_reducible apply kept_ite_fst
    | with_reducible apply kept_ite_snd | with_reducible apply onMain_kept | with_reducible apply State.axOrigin_kept
    | with_reducible apply State.axSat_kept | with_reducible apply State.axBit_kept
    | with_reducible apply State.axSetState_kept | with_reducible apply State.armEntry_kept
    | with_reducible apply kept_forL | with_reducible apply kept_forN | with_reducible apply kept_foldl
    | with_reducible apply kept_forN_fst | with_reducible apply kept_forL_fst | with_reducible apply kept_foldl_fst
    | with_reducible apply kept_foldl_snd | (intro x; intro (hk : Kept b n x)) | (intro a x; intro (hk : Kept b n x))
    | (intro a x; intro (hk : Kept b n x.1)) | (intro x a; intro (hk : Kept b n x))

theorem execAxisCapture_kept (dt : Nat) (who : Init) (k : Fin 8) (v : Word) (s : State) (hs : Kept b n s) : KeptOut b n (execAxisCapture dt who k v s) := by
  unfold execAxisCapture
  repeat' first
    | with_reducible assumption | with_reducible apply keptOut_next | with_reducible apply keptOut_refused
    | with_reducible apply keptOpt_some | with_reducible apply keptOpt_none | with_reducible apply keptOptOut_some
    | with_reducible apply keptOptOut_none | with_reducible apply kept_ite | with_reducible apply keptOut_ite
    | with_reducible apply keptOpt_ite | with_reducible apply keptOptOut_ite | with_reducible apply kept_ite_fst
    | with_reducible apply kept_ite_snd | with_reducible apply onMain_kept | with_reducible apply State.cmdW_kept
    | with_reducible apply onOne_kept | with_reducible apply State.wr64_kept | with_reducible apply kept_forL
    | with_reducible apply kept_forN | with_reducible apply kept_foldl | with_reducible apply kept_forN_fst
    | with_reducible apply kept_forL_fst | with_reducible apply kept_foldl_fst | with_reducible apply kept_foldl_snd
    | (intro x; intro (hk : Kept b n x)) | (intro a x; intro (hk : Kept b n x))
    | (intro a x; intro (hk : Kept b n x.1)) | (intro x a; intro (hk : Kept b n x))

theorem execAxisFrozenRecover_kept (dt : Nat) (k : Fin 8) (s : State) (hs : Kept b n s) : KeptOut b n (execAxisFrozenRecover dt k s) := by
  unfold execAxisFrozenRecover
  repeat' first
    | with_reducible assumption | with_reducible apply keptOut_next | with_reducible apply keptOut_refused
    | with_reducible apply keptOpt_some | with_reducible apply keptOpt_none | with_reducible apply keptOptOut_some
    | with_reducible apply keptOptOut_none | with_reducible apply kept_ite | with_reducible apply keptOut_ite
    | with_reducible apply keptOpt_ite | with_reducible apply keptOptOut_ite | with_reducible apply kept_ite_fst
    | with_reducible apply kept_ite_snd | with_reducible apply onMain_kept
    | with_reducible apply State.axSetState_kept | with_reducible apply State.encRestart_kept
    | with_reducible apply State.setAxis_kept | with_reducible apply kept_forL | with_reducible apply kept_forN
    | with_reducible apply kept_foldl | with_reducible apply kept_forN_fst | with_reducible apply kept_forL_fst
    | with_reducible apply kept_foldl_fst | with_reducible apply kept_foldl_snd | (intro x; intro (hk : Kept b n x))
    | (intro a x; intro (hk : Kept b n x)) | (intro a x; intro (hk : Kept b n x.1))

theorem execAxisHoldExpired_kept (dt : Nat) (k : Fin 8) (s : State) (hs : Kept b n s) : KeptOut b n (execAxisHoldExpired dt k s) := by
  unfold execAxisHoldExpired
  repeat' first
    | with_reducible assumption | with_reducible apply keptOut_next | with_reducible apply keptOut_refused
    | with_reducible apply keptOpt_some | with_reducible apply keptOpt_none | with_reducible apply keptOptOut_some
    | with_reducible apply keptOptOut_none | with_reducible apply kept_ite | with_reducible apply keptOut_ite
    | with_reducible apply keptOpt_ite | with_reducible apply keptOptOut_ite | with_reducible apply kept_ite_fst
    | with_reducible apply kept_ite_snd | with_reducible apply onMain_kept | with_reducible apply State.axPut_kept
    | with_reducible apply State.setAxis_kept | with_reducible apply State.axBit_kept
    | with_reducible apply State.setEntry_kept | with_reducible apply State.axSetState_kept
    | with_reducible apply kept_forL | with_reducible apply kept_forN | with_reducible apply kept_foldl
    | with_reducible apply kept_forN_fst | with_reducible apply kept_forL_fst | with_reducible apply kept_foldl_fst
    | with_reducible apply kept_foldl_snd | (intro x; intro (hk : Kept b n x)) | (intro a x; intro (hk : Kept b n x))
    | (intro a x; intro (hk : Kept b n x.1)) | (intro x a; intro (hk : Kept b n x))

theorem execAxisHoldRecover_kept (dt : Nat) (k : Fin 8) (s : State) (hs : Kept b n s) : KeptOut b n (execAxisHoldRecover dt k s) := by
  unfold execAxisHoldRecover
  repeat' first
    | with_reducible assumption | with_reducible apply keptOut_next | with_reducible apply keptOut_refused
    | with_reducible apply keptOpt_some | with_reducible apply keptOpt_none | with_reducible apply keptOptOut_some
    | with_reducible apply keptOptOut_none | with_reducible apply kept_ite | with_reducible apply keptOut_ite
    | with_reducible apply keptOpt_ite | with_reducible apply keptOptOut_ite | with_reducible apply kept_ite_fst
    | with_reducible apply kept_ite_snd | with_reducible apply onMain_kept
    | with_reducible apply State.axSetState_kept | with_reducible apply State.axResume_kept
    | with_reducible apply kept_forL | with_reducible apply kept_forN | with_reducible apply kept_foldl
    | with_reducible apply kept_forN_fst | with_reducible apply kept_forL_fst | with_reducible apply kept_foldl_fst
    | with_reducible apply kept_foldl_snd | (intro x; intro (hk : Kept b n x)) | (intro a x; intro (hk : Kept b n x))
    | (intro a x; intro (hk : Kept b n x.1))

theorem execAxisLoss_kept (dt : Nat) (k : Fin 8) (s : State) (hs : Kept b n s) : KeptOut b n (execAxisLoss dt k s) := by
  unfold execAxisLoss
  repeat' first
    | with_reducible assumption | with_reducible apply keptOut_next | with_reducible apply keptOut_refused
    | with_reducible apply keptOpt_some | with_reducible apply keptOpt_none | with_reducible apply keptOptOut_some
    | with_reducible apply keptOptOut_none | with_reducible apply kept_ite | with_reducible apply keptOut_ite
    | with_reducible apply keptOpt_ite | with_reducible apply keptOptOut_ite | with_reducible apply kept_ite_fst
    | with_reducible apply kept_ite_snd | with_reducible apply onMain_kept
    | with_reducible apply State.axSetState_kept | with_reducible apply State.incSat_kept
    | with_reducible apply State.setAxis_kept | with_reducible apply kept_forL | with_reducible apply kept_forN
    | with_reducible apply kept_foldl | with_reducible apply kept_forN_fst | with_reducible apply kept_forL_fst
    | with_reducible apply kept_foldl_fst | with_reducible apply kept_foldl_snd | (intro x; intro (hk : Kept b n x))
    | (intro a x; intro (hk : Kept b n x)) | (intro a x; intro (hk : Kept b n x.1))

theorem execAxisMeasurement_kept (dt : Nat) (x : Meas) (ph : Fin 8) (s : State) (hs : Kept b n s) : KeptOut b n (execAxisMeasurement dt x ph s) := by
  unfold execAxisMeasurement
  repeat' first
    | with_reducible assumption | with_reducible apply keptOut_next | with_reducible apply keptOut_refused
    | with_reducible apply keptOpt_some | with_reducible apply keptOpt_none | with_reducible apply keptOptOut_some
    | with_reducible apply keptOptOut_none | with_reducible apply kept_ite | with_reducible apply keptOut_ite
    | with_reducible apply keptOpt_ite | with_reducible apply keptOptOut_ite | with_reducible apply kept_ite_fst
    | with_reducible apply kept_ite_snd | with_reducible apply guarded_kept | with_reducible apply onMain_kept
    | with_reducible apply State.mdTake_kept | with_reducible apply State.observe_kept
    | with_reducible apply State.axRearm_kept | with_reducible apply State.encTake_kept
    | with_reducible apply kept_forL | with_reducible apply kept_forN | with_reducible apply kept_foldl
    | with_reducible apply kept_forN_fst | with_reducible apply kept_forL_fst | with_reducible apply kept_foldl_fst
    | with_reducible apply kept_foldl_snd | (intro x; intro (hk : Kept b n x)) | (intro a x; intro (hk : Kept b n x))
    | (intro a x; intro (hk : Kept b n x.1)) | (intro x a; intro (hk : Kept b n x))
    | (intro x a; intro (hk : Kept b n x.1)) | (intro x a; intro (hk : Kept b n x.2)) | lift_lets
    | (intro x; refine have hx : Kept b n x := ?_; ?_; unfold x)
    | (intro x; refine have hfun : ∀ y, Kept b n (x y) := ?_; ?_; intro y; unfold x) | with_reducible apply hfun
    | (intro x; refine have hx : KeptOpt b n x := ?_; ?_; unfold x)
    | (intro x; refine have hx : Kept b n x.1 := ?_; ?_; unfold x)
    | (intro x; refine have hx : Kept b n x.2 := ?_; ?_; unfold x) | intro x
    | (unfold Kept; dsimp only; with_reducible apply kept_upd) | (with_reducible apply kept_fst (by assumption))
    | (with_reducible apply kept_snd (by assumption)) | (with_reducible apply keptOpt_get (by assumption))
    | (with_reducible apply keptOut_get (by assumption)) | (with_reducible apply keptOptOut_get (by assumption))
    | split | grind [Kept, regsOk_set, memOk_put, memOk_filter, regsOk_filter, memOk_nil]

theorem execAxisTick_kept (dt : Nat) (k : Fin 8) (s : State) (hs : Kept b n s) : KeptOut b n (execAxisTick dt k s) := by
  unfold execAxisTick
  repeat' first
    | with_reducible assumption | with_reducible apply keptOut_next | with_reducible apply keptOut_refused
    | with_reducible apply keptOpt_some | with_reducible apply keptOpt_none | with_reducible apply keptOptOut_some
    | with_reducible apply keptOptOut_none | with_reducible apply kept_ite | with_reducible apply keptOut_ite
    | with_reducible apply keptOpt_ite | with_reducible apply keptOptOut_ite | with_reducible apply kept_ite_fst
    | with_reducible apply kept_ite_snd | with_reducible apply onMain_kept | with_reducible apply State.axRearm_kept
    | with_reducible apply State.markPages_kept | with_reducible apply State.setAxis_kept
    | with_reducible apply kept_forL | with_reducible apply kept_forN | with_reducible apply kept_foldl
    | with_reducible apply kept_forN_fst | with_reducible apply kept_forL_fst | with_reducible apply kept_foldl_fst
    | with_reducible apply kept_foldl_snd | (intro x; intro (hk : Kept b n x)) | (intro a x; intro (hk : Kept b n x))
    | (intro a x; intro (hk : Kept b n x.1)) | (unfold Kept; dsimp only; with_reducible apply kept_upd) | split

theorem execEncoderLineFault_kept (dt : Nat) (x2 : Fin 4) (f : EncFault) (s : State) (hs : Kept b n s) : KeptOut b n (execEncoderLineFault dt x2 f s) := by
  unfold execEncoderLineFault
  repeat' first
    | with_reducible assumption | with_reducible apply keptOut_next | with_reducible apply keptOut_refused
    | with_reducible apply keptOpt_some | with_reducible apply keptOpt_none | with_reducible apply keptOptOut_some
    | with_reducible apply keptOptOut_none | with_reducible apply kept_ite | with_reducible apply keptOut_ite
    | with_reducible apply keptOpt_ite | with_reducible apply keptOptOut_ite | with_reducible apply kept_ite_fst
    | with_reducible apply kept_ite_snd | with_reducible apply onMain_kept | with_reducible apply State.raise_kept
    | with_reducible apply State.incSatF_kept | with_reducible apply State.encLost_kept
    | with_reducible apply State.setEnc_kept | with_reducible apply State.encRestart_kept
    | with_reducible apply kept_forL | with_reducible apply kept_forN | with_reducible apply kept_foldl
    | with_reducible apply kept_forN_fst | with_reducible apply kept_forL_fst | with_reducible apply kept_foldl_fst
    | with_reducible apply kept_foldl_snd | (intro x; intro (hk : Kept b n x)) | (intro a x; intro (hk : Kept b n x))
    | (intro a x; intro (hk : Kept b n x.1)) | (intro x a; intro (hk : Kept b n x))
    | (intro x a; intro (hk : Kept b n x.1)) | (intro x a; intro (hk : Kept b n x.2)) | lift_lets
    | (intro x; refine have hx : Kept b n x := ?_; ?_; unfold x)
    | (intro x; refine have hfun : ∀ y, Kept b n (x y) := ?_; ?_; intro y; unfold x) | with_reducible apply hfun
    | (intro x; refine have hx : KeptOpt b n x := ?_; ?_; unfold x)
    | (intro x; refine have hx : Kept b n x.1 := ?_; ?_; unfold x)
    | (intro x; refine have hx : Kept b n x.2 := ?_; ?_; unfold x) | intro x
    | (unfold Kept; dsimp only; with_reducible apply kept_upd) | (with_reducible apply kept_fst (by assumption))
    | (with_reducible apply kept_snd (by assumption)) | (with_reducible apply keptOpt_get (by assumption))
    | (with_reducible apply keptOut_get (by assumption)) | (with_reducible apply keptOptOut_get (by assumption))
    | split | grind [Kept, regsOk_set, memOk_put, memOk_filter, regsOk_filter, memOk_nil]

theorem execEncoderZPulse_kept (dt : Nat) (x2 : Fin 4) (ph : Fin 8) (count : Nat) (s : State) (hs : Kept b n s) : KeptOut b n (execEncoderZPulse dt x2 ph count s) := by
  unfold execEncoderZPulse
  repeat' first
    | with_reducible assumption | with_reducible apply keptOut_next | with_reducible apply keptOut_refused
    | with_reducible apply keptOpt_some | with_reducible apply keptOpt_none | with_reducible apply keptOptOut_some
    | with_reducible apply keptOptOut_none | with_reducible apply kept_ite | with_reducible apply keptOut_ite
    | with_reducible apply keptOpt_ite | with_reducible apply keptOptOut_ite | with_reducible apply kept_ite_fst
    | with_reducible apply kept_ite_snd | with_reducible apply onMain_kept | with_reducible apply State.zRef_kept
    | with_reducible apply State.raise_kept | with_reducible apply State.incSatF_kept | with_reducible apply kept_forL
    | with_reducible apply kept_forN | with_reducible apply kept_foldl | with_reducible apply kept_forN_fst
    | with_reducible apply kept_forL_fst | with_reducible apply kept_foldl_fst | with_reducible apply kept_foldl_snd
    | (intro x; intro (hk : Kept b n x)) | (intro a x; intro (hk : Kept b n x))
    | (intro a x; intro (hk : Kept b n x.1)) | (intro x a; intro (hk : Kept b n x))

theorem execFireflyPps_kept (dt : Nat) (x2 : Fin 4) (s : State) (hs : Kept b n s) : KeptOut b n (execFireflyPps dt x2 s) := by
  unfold execFireflyPps
  repeat' first
    | with_reducible assumption | with_reducible apply keptOut_next | with_reducible apply keptOut_refused
    | with_reducible apply keptOpt_some | with_reducible apply keptOpt_none | with_reducible apply keptOptOut_some
    | with_reducible apply keptOptOut_none | with_reducible apply kept_ite | with_reducible apply keptOut_ite
    | with_reducible apply keptOpt_ite | with_reducible apply keptOptOut_ite | with_reducible apply kept_ite_fst
    | with_reducible apply kept_ite_snd | with_reducible apply onMain_kept
    | with_reducible apply State.setFirefly_kept | with_reducible apply kept_forL | with_reducible apply kept_forN
    | with_reducible apply kept_foldl | with_reducible apply kept_forN_fst | with_reducible apply kept_forL_fst
    | with_reducible apply kept_foldl_fst | with_reducible apply kept_foldl_snd | (intro x; intro (hk : Kept b n x))
    | (intro a x; intro (hk : Kept b n x)) | (intro a x; intro (hk : Kept b n x.1))

theorem execFireflyPulseEnd_kept (dt : Nat) (x2 : Fin 4) (s : State) (hs : Kept b n s) : KeptOut b n (execFireflyPulseEnd dt x2 s) := by
  unfold execFireflyPulseEnd
  repeat' first
    | with_reducible assumption | with_reducible apply keptOut_next | with_reducible apply keptOut_refused
    | with_reducible apply keptOpt_some | with_reducible apply keptOpt_none | with_reducible apply keptOptOut_some
    | with_reducible apply keptOptOut_none | with_reducible apply kept_ite | with_reducible apply keptOut_ite
    | with_reducible apply keptOpt_ite | with_reducible apply keptOptOut_ite | with_reducible apply kept_ite_fst
    | with_reducible apply kept_ite_snd | with_reducible apply onMain_kept
    | with_reducible apply State.setFirefly_kept | with_reducible apply kept_forL | with_reducible apply kept_forN
    | with_reducible apply kept_foldl | with_reducible apply kept_forN_fst | with_reducible apply kept_forL_fst
    | with_reducible apply kept_foldl_fst | with_reducible apply kept_foldl_snd | (intro x; intro (hk : Kept b n x))
    | (intro a x; intro (hk : Kept b n x)) | (intro a x; intro (hk : Kept b n x.1))

theorem execFireflyReadback_kept (dt : Nat) (x2 : Fin 4) (level : Bool) (s : State) (hs : Kept b n s) : KeptOut b n (execFireflyReadback dt x2 level s) := by
  unfold execFireflyReadback
  repeat' first
    | with_reducible assumption | with_reducible apply keptOut_next | with_reducible apply keptOut_refused
    | with_reducible apply keptOpt_some | with_reducible apply keptOpt_none | with_reducible apply keptOptOut_some
    | with_reducible apply keptOptOut_none | with_reducible apply kept_ite | with_reducible apply keptOut_ite
    | with_reducible apply keptOpt_ite | with_reducible apply keptOptOut_ite | with_reducible apply kept_ite_fst
    | with_reducible apply kept_ite_snd | with_reducible apply onMain_kept
    | with_reducible apply State.setFirefly_kept | with_reducible apply State.raise_kept
    | with_reducible apply State.incSat_kept | with_reducible apply kept_forL | with_reducible apply kept_forN
    | with_reducible apply kept_foldl | with_reducible apply kept_forN_fst | with_reducible apply kept_forL_fst
    | with_reducible apply kept_foldl_fst | with_reducible apply kept_foldl_snd | (intro x; intro (hk : Kept b n x))
    | (intro a x; intro (hk : Kept b n x)) | (intro a x; intro (hk : Kept b n x.1))
    | (intro x a; intro (hk : Kept b n x)) | (intro x a; intro (hk : Kept b n x.1))
    | (intro x a; intro (hk : Kept b n x.2)) | lift_lets | (intro x; refine have hx : Kept b n x := ?_; ?_; unfold x)
    | (intro x; refine have hfun : ∀ y, Kept b n (x y) := ?_; ?_; intro y; unfold x) | with_reducible apply hfun
    | (intro x; refine have hx : KeptOpt b n x := ?_; ?_; unfold x)
    | (intro x; refine have hx : Kept b n x.1 := ?_; ?_; unfold x)
    | (intro x; refine have hx : Kept b n x.2 := ?_; ?_; unfold x) | intro x
    | (unfold Kept; dsimp only; with_reducible apply kept_upd) | (with_reducible apply kept_fst (by assumption))
    | (with_reducible apply kept_snd (by assumption)) | (with_reducible apply keptOpt_get (by assumption))
    | (with_reducible apply keptOut_get (by assumption)) | (with_reducible apply keptOptOut_get (by assumption))
    | split | grind [Kept, regsOk_set, memOk_put, memOk_filter, regsOk_filter, memOk_nil]

theorem execFireflyStrobe_kept (dt : Nat) (x2 : Fin 4) (s : State) (hs : Kept b n s) : KeptOut b n (execFireflyStrobe dt x2 s) := by
  unfold execFireflyStrobe
  repeat' first
    | with_reducible assumption | with_reducible apply keptOut_next | with_reducible apply keptOut_refused
    | with_reducible apply keptOpt_some | with_reducible apply keptOpt_none | with_reducible apply keptOptOut_some
    | with_reducible apply keptOptOut_none | with_reducible apply kept_ite | with_reducible apply keptOut_ite
    | with_reducible apply keptOpt_ite | with_reducible apply keptOptOut_ite | with_reducible apply kept_ite_fst
    | with_reducible apply kept_ite_snd | with_reducible apply onMain_kept | with_reducible apply State.incSat_kept
    | with_reducible apply State.setFirefly_kept | with_reducible apply kept_forL | with_reducible apply kept_forN
    | with_reducible apply kept_foldl | with_reducible apply kept_forN_fst | with_reducible apply kept_forL_fst
    | with_reducible apply kept_foldl_fst | with_reducible apply kept_foldl_snd | (intro x; intro (hk : Kept b n x))
    | (intro a x; intro (hk : Kept b n x)) | (intro a x; intro (hk : Kept b n x.1))
    | (intro x a; intro (hk : Kept b n x)) | (intro x a; intro (hk : Kept b n x.1))
    | (intro x a; intro (hk : Kept b n x.2)) | lift_lets | (intro x; refine have hx : Kept b n x := ?_; ?_; unfold x)
    | (intro x; refine have hfun : ∀ y, Kept b n (x y) := ?_; ?_; intro y; unfold x) | with_reducible apply hfun
    | (intro x; refine have hx : KeptOpt b n x := ?_; ?_; unfold x)
    | (intro x; refine have hx : Kept b n x.1 := ?_; ?_; unfold x)
    | (intro x; refine have hx : Kept b n x.2 := ?_; ?_; unfold x) | intro x
    | (unfold Kept; dsimp only; with_reducible apply kept_upd) | (with_reducible apply kept_fst (by assumption))
    | (with_reducible apply kept_snd (by assumption)) | (with_reducible apply keptOpt_get (by assumption))
    | (with_reducible apply keptOut_get (by assumption)) | (with_reducible apply keptOptOut_get (by assumption))
    | split | grind [Kept, regsOk_set, memOk_put, memOk_filter, regsOk_filter, memOk_nil]

theorem execFixgo_kept (dt : Nat) (who : Init) (k : Fin 8) (v : Word) (s : State) (hs : Kept b n s) : KeptOut b n (execFixgo dt who k v s) := by
  unfold execFixgo
  repeat' first
    | with_reducible assumption | with_reducible apply keptOut_next | with_reducible apply keptOut_refused
    | with_reducible apply keptOpt_some | with_reducible apply keptOpt_none | with_reducible apply keptOptOut_some
    | with_reducible apply keptOptOut_none | with_reducible apply kept_ite | with_reducible apply keptOut_ite
    | with_reducible apply keptOpt_ite | with_reducible apply keptOptOut_ite | with_reducible apply kept_ite_fst
    | with_reducible apply kept_ite_snd | with_reducible apply onMain_kept | with_reducible apply State.cmdW_kept
    | with_reducible apply onOne_kept | with_reducible apply State.err_kept | with_reducible apply State.applyFix_kept
    | with_reducible apply kept_forL | with_reducible apply kept_forN | with_reducible apply kept_foldl
    | with_reducible apply kept_forN_fst | with_reducible apply kept_forL_fst | with_reducible apply kept_foldl_fst
    | with_reducible apply kept_foldl_snd | (intro x; intro (hk : Kept b n x)) | (intro a x; intro (hk : Kept b n x))
    | (intro a x; intro (hk : Kept b n x.1)) | (intro x a; intro (hk : Kept b n x))

theorem execHiddenTargetMissed_kept (dt : Nat) (d : Fin 384) (s : State) (hs : Kept b n s) : KeptOut b n (execHiddenTargetMissed dt d s) := by
  unfold execHiddenTargetMissed
  repeat' first
    | with_reducible assumption | with_reducible apply keptOut_next | with_reducible apply keptOut_refused
    | with_reducible apply keptOpt_some | with_reducible apply keptOpt_none | with_reducible apply keptOptOut_some
    | with_reducible apply keptOptOut_none | with_reducible apply kept_ite | with_reducible apply keptOut_ite
    | with_reducible apply keptOpt_ite | with_reducible apply keptOptOut_ite | with_reducible apply kept_ite_fst
    | with_reducible apply kept_ite_snd | with_reducible apply onMain_kept | with_reducible apply State.miss_kept
    | with_reducible apply State.setEntry_kept | with_reducible apply kept_forL | with_reducible apply kept_forN
    | with_reducible apply kept_foldl | with_reducible apply kept_forN_fst | with_reducible apply kept_forL_fst
    | with_reducible apply kept_foldl_fst | with_reducible apply kept_foldl_snd | (intro x; intro (hk : Kept b n x))
    | (intro a x; intro (hk : Kept b n x)) | (intro a x; intro (hk : Kept b n x.1))

theorem execSeclr_kept (dt : Nat) (who : Init) (v : Word) (s : State) (hs : Kept b n s) : KeptOut b n (execSeclr dt who v s) := by
  unfold execSeclr
  repeat' first
    | with_reducible assumption | with_reducible apply keptOut_next | with_reducible apply keptOut_refused
    | with_reducible apply keptOpt_some | with_reducible apply keptOpt_none | with_reducible apply keptOptOut_some
    | with_reducible apply keptOptOut_none | with_reducible apply kept_ite | with_reducible apply keptOut_ite
    | with_reducible apply keptOpt_ite | with_reducible apply keptOptOut_ite | with_reducible apply kept_ite_fst
    | with_reducible apply kept_ite_snd | with_reducible apply onMain_kept | with_reducible apply State.cmdW_kept
    | with_reducible apply onOne_kept | with_reducible apply State.wr_kept | with_reducible apply kept_forL
    | with_reducible apply kept_forN | with_reducible apply kept_foldl | with_reducible apply kept_forN_fst
    | with_reducible apply kept_forL_fst | with_reducible apply kept_foldl_fst | with_reducible apply kept_foldl_snd
    | (intro x; intro (hk : Kept b n x)) | (intro a x; intro (hk : Kept b n x))
    | (intro a x; intro (hk : Kept b n x.1)) | (intro x a; intro (hk : Kept b n x))
    | (unfold Kept; dsimp only; with_reducible apply kept_upd)

theorem execSsiFrame_kept (dt : Nat) (m : Fin 2) (ph : Fin 8) (f : SsiFrame) (s : State) (hs : Kept b n s) : KeptOut b n (execSsiFrame dt m ph f s) := by
  unfold execSsiFrame
  repeat' first
    | with_reducible assumption | with_reducible apply keptOut_next | with_reducible apply keptOut_refused
    | with_reducible apply keptOpt_some | with_reducible apply keptOpt_none | with_reducible apply keptOptOut_some
    | with_reducible apply keptOptOut_none | with_reducible apply kept_ite | with_reducible apply keptOut_ite
    | with_reducible apply keptOpt_ite | with_reducible apply keptOptOut_ite | with_reducible apply kept_ite_fst
    | with_reducible apply kept_ite_snd | with_reducible apply onMain_kept | with_reducible apply State.setSsi_kept
    | with_reducible apply State.ssiMissed_kept | with_reducible apply State.incSatF_kept
    | with_reducible apply State.ssiFeed_kept | with_reducible apply State.ssiInvalid_kept
    | with_reducible apply State.wr_kept | with_reducible apply kept_forL | with_reducible apply kept_forN
    | with_reducible apply kept_foldl | with_reducible apply kept_forN_fst | with_reducible apply kept_forL_fst
    | with_reducible apply kept_foldl_fst | with_reducible apply kept_foldl_snd | (intro x; intro (hk : Kept b n x))
    | (intro a x; intro (hk : Kept b n x)) | (intro a x; intro (hk : Kept b n x.1))
    | (intro x a; intro (hk : Kept b n x)) | (unfold Kept; dsimp only; with_reducible apply kept_upd) | split

end Sys2Proof.Machine
end

