-- ==== Sys2Proof/Laws/Keep/Mem.lean ====
section
/-! SUPPORT. What the operations of Mem.lean keep: canonical tables, the queue and the direction of time. -/

set_option linter.all false
namespace Sys2Proof.Machine

variable {b : List Instr} {n : Nat}

theorem execMemCntclr_kept (dt : Nat) (who : Init) (v : Word) (s : State) (hs : Kept b n s) : KeptOut b n (execMemCntclr dt who v s) := by
  unfold execMemCntclr
  repeat' first
    | with_reducible assumption | with_reducible apply keptOut_next | with_reducible apply keptOut_refused
    | with_reducible apply keptOpt_some | with_reducible apply keptOpt_none | with_reducible apply keptOptOut_some
    | with_reducible apply keptOptOut_none | with_reducible apply kept_ite | with_reducible apply keptOut_ite
    | with_reducible apply keptOpt_ite | with_reducible apply keptOptOut_ite | with_reducible apply kept_ite_fst
    | with_reducible apply kept_ite_snd | with_reducible apply onMain_kept | with_reducible apply State.cmdW_kept
    | with_reducible apply onOne_kept | with_reducible apply State.zero_kept | with_reducible apply kept_forL
    | with_reducible apply kept_forN | with_reducible apply kept_foldl | with_reducible apply kept_forN_fst
    | with_reducible apply kept_forL_fst | with_reducible apply kept_foldl_fst | with_reducible apply kept_foldl_snd
    | (intro x; intro (hk : Kept b n x)) | (intro a x; intro (hk : Kept b n x))
    | (intro a x; intro (hk : Kept b n x.1)) | (intro x a; intro (hk : Kept b n x))

theorem execElnext_kept (dt : Nat) (who : Init) (v : Word) (s : State) (hs : Kept b n s) : KeptOut b n (execElnext dt who v s) := by
  unfold execElnext
  repeat' first
    | with_reducible assumption | with_reducible apply keptOut_next | with_reducible apply keptOut_refused
    | with_reducible apply keptOpt_some | with_reducible apply keptOpt_none | with_reducible apply keptOptOut_some
    | with_reducible apply keptOptOut_none | with_reducible apply kept_ite | with_reducible apply keptOut_ite
    | with_reducible apply keptOpt_ite | with_reducible apply keptOptOut_ite | with_reducible apply kept_ite_fst
    | with_reducible apply kept_ite_snd | with_reducible apply onMain_kept | with_reducible apply State.cmdW_kept
    | with_reducible apply onOne_kept | with_reducible apply kept_forL | with_reducible apply kept_forN
    | with_reducible apply kept_foldl | with_reducible apply kept_forN_fst | with_reducible apply kept_forL_fst
    | with_reducible apply kept_foldl_fst | with_reducible apply kept_foldl_snd | (intro x; intro (hk : Kept b n x))
    | (intro a x; intro (hk : Kept b n x)) | (intro a x; intro (hk : Kept b n x.1))
    | (intro x a; intro (hk : Kept b n x)) | (unfold Kept; dsimp only; with_reducible apply kept_upd)

theorem State.framBad_kept (s : State) (part : Nat) (o : Nat) (verify : Bool) (hs : Kept b n s) : Kept b n (State.framBad s part o verify) := by
  unfold State.framBad
  repeat' first
    | with_reducible assumption | with_reducible apply keptOut_next | with_reducible apply keptOut_refused
    | with_reducible apply keptOpt_some | with_reducible apply keptOpt_none | with_reducible apply keptOptOut_some
    | with_reducible apply keptOptOut_none | with_reducible apply kept_ite | with_reducible apply keptOut_ite
    | with_reducible apply keptOpt_ite | with_reducible apply keptOptOut_ite | with_reducible apply kept_ite_fst
    | with_reducible apply kept_ite_snd | with_reducible apply State.incSatF_kept
    | with_reducible apply State.errAt_kept | with_reducible apply State.raise_kept
    | with_reducible apply State.logErr_kept | with_reducible apply kept_forL | with_reducible apply kept_forN
    | with_reducible apply kept_foldl | with_reducible apply kept_forN_fst | with_reducible apply kept_forL_fst
    | with_reducible apply kept_foldl_fst | with_reducible apply kept_foldl_snd
    | (intro a x; intro (hk : Kept b n x.1))

theorem State.ceCount_kept (s : State) (hs : Kept b n s) : Kept b n (State.ceCount s) := by
  unfold State.ceCount
  repeat' first
    | with_reducible assumption | with_reducible apply keptOut_next | with_reducible apply keptOut_refused
    | with_reducible apply keptOpt_some | with_reducible apply keptOpt_none | with_reducible apply keptOptOut_some
    | with_reducible apply keptOptOut_none | with_reducible apply kept_ite | with_reducible apply keptOut_ite
    | with_reducible apply keptOpt_ite | with_reducible apply keptOptOut_ite | with_reducible apply kept_ite_fst
    | with_reducible apply kept_ite_snd | with_reducible apply State.incSatF_kept
    | with_reducible apply State.raise_kept | with_reducible apply kept_forL | with_reducible apply kept_forN
    | with_reducible apply kept_foldl | with_reducible apply kept_forN_fst | with_reducible apply kept_forL_fst
    | with_reducible apply kept_foldl_fst | with_reducible apply kept_foldl_snd
    | (intro a x; intro (hk : Kept b n x.1)) | (unfold Kept; dsimp only; with_reducible apply kept_upd)

theorem State.dramBad_kept (s : State) (w : Nat) (part : Nat) (source : Nat) (num : Nat) (code : Nat) (syn : Nat) (blk : Nat) (hs : Kept b n s) : Kept b n (State.dramBad s w part source num code syn blk) := by
  unfold State.dramBad
  repeat' first
    | with_reducible assumption | with_reducible apply keptOut_next | with_reducible apply keptOut_refused
    | with_reducible apply keptOpt_some | with_reducible apply keptOpt_none | with_reducible apply keptOptOut_some
    | with_reducible apply keptOptOut_none | with_reducible apply kept_ite | with_reducible apply keptOut_ite
    | with_reducible apply keptOpt_ite | with_reducible apply keptOptOut_ite | with_reducible apply kept_ite_fst
    | with_reducible apply kept_ite_snd | with_reducible apply State.errAt_kept
    | with_reducible apply State.logErr_kept | with_reducible apply State.incSat_kept
    | with_reducible apply State.raise_kept | with_reducible apply kept_forL | with_reducible apply kept_forN
    | with_reducible apply kept_foldl | with_reducible apply kept_forN_fst | with_reducible apply kept_forL_fst
    | with_reducible apply kept_foldl_fst | with_reducible apply kept_foldl_snd
    | (intro a x; intro (hk : Kept b n x.1)) | (unfold Kept; dsimp only; with_reducible apply kept_upd)

theorem State.dramMeet_kept (s : State) (w : Nat) (part : Nat) (source : Nat) (num : Nat) (ueCode : Nat) (blk : Nat) (hs : Kept b n s) : Kept b n (State.dramMeet s w part source num ueCode blk) := by
  unfold State.dramMeet
  repeat' first
    | with_reducible assumption | with_reducible apply State.ceCount_kept | with_reducible apply State.incSat_kept
    | with_reducible apply State.dramBad_kept | with_reducible apply kept_forN_fst
    | with_reducible apply kept_forL_fst | (intro a x; intro (hk : Kept b n x.1))
    | (unfold Kept; dsimp only; with_reducible apply kept_upd) | split

theorem State.dramRead_kept (s : State) (o : Nat) (x3 : Nat) (part : Nat) (source : Nat) (num : Nat) (ueCode : Nat) (blk : Nat) (hs : Kept b n s) : Kept b n (State.dramRead s o x3 part source num ueCode blk) := by
  unfold State.dramRead
  repeat' first
    | with_reducible assumption | with_reducible apply State.dramMeet_kept | with_reducible apply kept_forL
    | with_reducible apply kept_forN_fst | with_reducible apply kept_forL_fst | (intro a x; intro (hk : Kept b n x.1))
    | lift_lets | intro x

theorem State.dmaLog_kept (s : State) (page : Nat) (blk : Nat) (a : Nat) (hs : Kept b n s) : Kept b n (State.dmaLog s page blk a) := by
  unfold State.dmaLog
  repeat' first
    | with_reducible assumption | with_reducible apply keptOut_next | with_reducible apply keptOut_refused
    | with_reducible apply keptOpt_some | with_reducible apply keptOpt_none | with_reducible apply keptOptOut_some
    | with_reducible apply keptOptOut_none | with_reducible apply kept_ite | with_reducible apply keptOut_ite
    | with_reducible apply keptOpt_ite | with_reducible apply keptOptOut_ite | with_reducible apply kept_ite_fst
    | with_reducible apply kept_ite_snd | with_reducible apply State.logErr_kept | with_reducible apply kept_forL
    | with_reducible apply kept_forN | with_reducible apply kept_foldl | with_reducible apply kept_forN_fst
    | with_reducible apply kept_forL_fst | with_reducible apply kept_foldl_fst | with_reducible apply kept_foldl_snd
    | (intro a x; intro (hk : Kept b n x.1))

theorem State.dmaRead_kept (s : State) (page : Nat) (blk : Nat) (a : Nat) (x5 : Nat) (hs : Kept b n s) : Kept b n (State.dmaRead s page blk a x5).1 := by
  unfold State.dmaRead
  repeat' first
    | with_reducible assumption | with_reducible apply keptOut_next | with_reducible apply keptOut_refused
    | with_reducible apply keptOpt_some | with_reducible apply keptOpt_none | with_reducible apply keptOptOut_some
    | with_reducible apply keptOptOut_none | with_reducible apply kept_ite | with_reducible apply keptOut_ite
    | with_reducible apply keptOpt_ite | with_reducible apply keptOptOut_ite | with_reducible apply kept_ite_fst
    | with_reducible apply kept_ite_snd | with_reducible apply State.dmaLog_kept
    | with_reducible apply State.dramRead_kept | with_reducible apply kept_forL | with_reducible apply kept_forN
    | with_reducible apply kept_foldl | with_reducible apply kept_forN_fst | with_reducible apply kept_forL_fst
    | with_reducible apply kept_foldl_fst | with_reducible apply kept_foldl_snd
    | (intro a x; intro (hk : Kept b n x.1)) | lift_lets | intro x | split

theorem State.upset_kept (s : State) (w : Nat) (syn : Nat) (hs : Kept b n s) : Kept b n (State.upset s w syn) := by
  unfold State.upset
  repeat' first
    | with_reducible assumption | with_reducible apply kept_forN_fst | with_reducible apply kept_forL_fst
    | (intro a x; intro (hk : Kept b n x.1))
    | grind [Kept, regsOk_set, memOk_put, memOk_filter, regsOk_filter, memOk_nil]

theorem State.poisonUse_kept (s : State) (o : Nat) (part : Nat) (source : Nat) (num : Nat) (hs : Kept b n s) : Kept b n (State.poisonUse s o part source num) := by
  unfold State.poisonUse
  repeat' first
    | with_reducible assumption | with_reducible apply keptOut_next | with_reducible apply keptOut_refused
    | with_reducible apply keptOpt_some | with_reducible apply keptOpt_none | with_reducible apply keptOptOut_some
    | with_reducible apply keptOptOut_none | with_reducible apply kept_ite | with_reducible apply keptOut_ite
    | with_reducible apply keptOpt_ite | with_reducible apply keptOptOut_ite | with_reducible apply kept_ite_fst
    | with_reducible apply kept_ite_snd | with_reducible apply State.errAt_kept
    | with_reducible apply State.logErr_kept | with_reducible apply State.raise_kept
    | with_reducible apply State.incSat_kept | with_reducible apply kept_forL | with_reducible apply kept_forN
    | with_reducible apply kept_foldl | with_reducible apply kept_forN_fst | with_reducible apply kept_forL_fst
    | with_reducible apply kept_foldl_fst | with_reducible apply kept_foldl_snd
    | (intro a x; intro (hk : Kept b n x.1))

theorem State.scrubShow_kept (s : State) (hs : Kept b n s) : Kept b n (State.scrubShow s) := by
  unfold State.scrubShow
  repeat' first
    | with_reducible assumption | with_reducible apply State.putBit_kept | with_reducible apply kept_forN_fst
    | with_reducible apply kept_forL_fst | (intro a x; intro (hk : Kept b n x.1))

theorem State.memApplied_kept (s : State) (p : Nat) (hs : Kept b n s) : Kept b n (State.memApplied s p) := by
  unfold State.memApplied
  repeat' first
    | with_reducible assumption | with_reducible apply keptOut_next | with_reducible apply keptOut_refused
    | with_reducible apply keptOpt_some | with_reducible apply keptOpt_none | with_reducible apply keptOptOut_some
    | with_reducible apply keptOptOut_none | with_reducible apply kept_ite | with_reducible apply keptOut_ite
    | with_reducible apply keptOpt_ite | with_reducible apply keptOptOut_ite | with_reducible apply kept_ite_fst
    | with_reducible apply kept_ite_snd | with_reducible apply State.scrubShow_kept | with_reducible apply kept_forL
    | with_reducible apply kept_forN | with_reducible apply kept_foldl | with_reducible apply kept_forN_fst
    | with_reducible apply kept_forL_fst | with_reducible apply kept_foldl_fst | with_reducible apply kept_foldl_snd
    | (intro a x; intro (hk : Kept b n x.1))

theorem execLaneUncorrectableError_kept (dt : Nat) (x2 : Fin 4) (l : Fin 3) (a : BitVec 40) (syn : Byte) (s : State) (hs : Kept b n s) : KeptOut b n (execLaneUncorrectableError dt x2 l a syn s) := by
  unfold execLaneUncorrectableError
  repeat' first
    | with_reducible assumption | with_reducible apply keptOut_next | with_reducible apply keptOut_refused
    | with_reducible apply keptOpt_some | with_reducible apply keptOpt_none | with_reducible apply keptOptOut_some
    | with_reducible apply keptOptOut_none | with_reducible apply kept_ite | with_reducible apply keptOut_ite
    | with_reducible apply keptOpt_ite | with_reducible apply keptOptOut_ite | with_reducible apply kept_ite_fst
    | with_reducible apply kept_ite_snd | with_reducible apply onMain_kept | with_reducible apply State.errAt_kept
    | with_reducible apply State.logErr_kept | with_reducible apply State.raise_kept
    | with_reducible apply State.incSatF_kept | with_reducible apply State.except_kept
    | with_reducible apply kept_forL | with_reducible apply kept_forN | with_reducible apply kept_foldl
    | with_reducible apply kept_forN_fst | with_reducible apply kept_forL_fst | with_reducible apply kept_foldl_fst
    | with_reducible apply kept_foldl_snd | (intro x; intro (hk : Kept b n x)) | (intro a x; intro (hk : Kept b n x))
    | (intro a x; intro (hk : Kept b n x.1)) | (unfold Kept; dsimp only; with_reducible apply kept_upd)

theorem execLaneCorrectableError_kept (dt : Nat) (x2 : Fin 4) (l : Fin 3) (s : State) (hs : Kept b n s) : KeptOut b n (execLaneCorrectableError dt x2 l s) := by
  unfold execLaneCorrectableError
  repeat' first
    | with_reducible assumption | with_reducible apply keptOut_next | with_reducible apply keptOut_refused
    | with_reducible apply keptOpt_some | with_reducible apply keptOpt_none | with_reducible apply keptOptOut_some
    | with_reducible apply keptOptOut_none | with_reducible apply kept_ite | with_reducible apply keptOut_ite
    | with_reducible apply keptOpt_ite | with_reducible apply keptOptOut_ite | with_reducible apply kept_ite_fst
    | with_reducible apply kept_ite_snd | with_reducible apply onMain_kept | with_reducible apply State.ceCount_kept
    | with_reducible apply State.incSatF_kept | with_reducible apply kept_forL | with_reducible apply kept_forN
    | with_reducible apply kept_foldl | with_reducible apply kept_forN_fst | with_reducible apply kept_forL_fst
    | with_reducible apply kept_foldl_fst | with_reducible apply kept_foldl_snd | (intro x; intro (hk : Kept b n x))
    | (intro a x; intro (hk : Kept b n x)) | (intro a x; intro (hk : Kept b n x.1))

theorem execLaneScrub_kept (dt : Nat) (x2 : Fin 4) (l : Fin 3) (s : State) (hs : Kept b n s) : KeptOut b n (execLaneScrub dt x2 l s) := by
  unfold execLaneScrub
  repeat' first
    | with_reducible assumption | with_reducible apply keptOut_next | with_reducible apply keptOut_refused
    | with_reducible apply keptOpt_some | with_reducible apply keptOpt_none | with_reducible apply keptOptOut_some
    | with_reducible apply keptOptOut_none | with_reducible apply kept_ite | with_reducible apply keptOut_ite
    | with_reducible apply keptOpt_ite | with_reducible apply keptOptOut_ite | with_reducible apply kept_ite_fst
    | with_reducible apply kept_ite_snd | with_reducible apply onMain_kept | with_reducible apply kept_forL
    | with_reducible apply kept_forN | with_reducible apply kept_foldl | with_reducible apply kept_forN_fst
    | with_reducible apply kept_forL_fst | with_reducible apply kept_foldl_fst | with_reducible apply kept_foldl_snd
    | (intro x; intro (hk : Kept b n x)) | (intro a x; intro (hk : Kept b n x))
    | (intro a x; intro (hk : Kept b n x.1)) | (unfold Kept; dsimp only; with_reducible apply kept_upd)

theorem execDramScrub_kept (dt : Nat) (ecc : Byte) (s : State) (hs : Kept b n s) : KeptOut b n (execDramScrub dt ecc s) := by
  unfold execDramScrub
  repeat' first
    | with_reducible assumption | with_reducible apply keptOut_next | with_reducible apply keptOut_refused
    | with_reducible apply keptOpt_some | with_reducible apply keptOpt_none | with_reducible apply keptOptOut_some
    | with_reducible apply keptOptOut_none | with_reducible apply kept_ite | with_reducible apply keptOut_ite
    | with_reducible apply keptOpt_ite | with_reducible apply keptOptOut_ite | with_reducible apply kept_ite_fst
    | with_reducible apply kept_ite_snd | with_reducible apply onShed_kept | with_reducible apply State.dramRead_kept
    | with_reducible apply State.upset_kept | with_reducible apply State.wr64_kept
    | with_reducible apply State.incWrap_kept | with_reducible apply kept_forL | with_reducible apply kept_forN
    | with_reducible apply kept_foldl | with_reducible apply kept_forN_fst | with_reducible apply kept_forL_fst
    | with_reducible apply kept_foldl_fst | with_reducible apply kept_foldl_snd | (intro x; intro (hk : Kept b n x))
    | (intro a x; intro (hk : Kept b n x)) | (intro a x; intro (hk : Kept b n x.1))
    | (unfold Kept; dsimp only; with_reducible apply kept_upd)

theorem execDramTempPoll_kept (dt : Nat) (code : Fin 8) (hi : Bool) (s : State) (hs : Kept b n s) : KeptOut b n (execDramTempPoll dt code hi s) := by
  unfold execDramTempPoll
  repeat' first
    | with_reducible assumption | with_reducible apply keptOut_next | with_reducible apply keptOut_refused
    | with_reducible apply keptOpt_some | with_reducible apply keptOpt_none | with_reducible apply keptOptOut_some
    | with_reducible apply keptOptOut_none | with_reducible apply kept_ite | with_reducible apply keptOut_ite
    | with_reducible apply keptOpt_ite | with_reducible apply keptOptOut_ite | with_reducible apply kept_ite_fst
    | with_reducible apply kept_ite_snd | with_reducible apply onShed_kept | with_reducible apply State.raiseIf_kept
    | with_reducible apply State.putBit_kept | with_reducible apply State.wr_kept | with_reducible apply kept_forL
    | with_reducible apply kept_forN | with_reducible apply kept_foldl | with_reducible apply kept_forN_fst
    | with_reducible apply kept_forL_fst | with_reducible apply kept_foldl_fst | with_reducible apply kept_foldl_snd
    | (intro x; intro (hk : Kept b n x)) | (intro a x; intro (hk : Kept b n x))
    | (intro a x; intro (hk : Kept b n x.1)) | (unfold Kept; dsimp only; with_reducible apply kept_upd)

theorem execCeWindowEnd_kept (dt : Nat) (s : State) (hs : Kept b n s) : KeptOut b n (execCeWindowEnd dt s) := by
  unfold execCeWindowEnd
  repeat' first
    | with_reducible assumption | with_reducible apply keptOut_next | with_reducible apply keptOut_refused
    | with_reducible apply keptOpt_some | with_reducible apply keptOpt_none | with_reducible apply keptOptOut_some
    | with_reducible apply keptOptOut_none | with_reducible apply kept_ite | with_reducible apply keptOut_ite
    | with_reducible apply keptOpt_ite | with_reducible apply keptOptOut_ite | with_reducible apply kept_ite_fst
    | with_reducible apply kept_ite_snd | with_reducible apply onShed_kept | with_reducible apply State.wr_kept
    | with_reducible apply kept_forL | with_reducible apply kept_forN | with_reducible apply kept_foldl
    | with_reducible apply kept_forN_fst | with_reducible apply kept_forL_fst | with_reducible apply kept_foldl_fst
    | with_reducible apply kept_foldl_snd | (intro x; intro (hk : Kept b n x)) | (intro a x; intro (hk : Kept b n x))
    | (intro a x; intro (hk : Kept b n x.1)) | (unfold Kept; dsimp only; with_reducible apply kept_upd)

theorem State.dmaPut_kept (s : State) (o : Nat) (bs : List Nat) (hs : Kept b n s) : Kept b n (State.dmaPut s o bs) := by
  unfold State.dmaPut
  split
  · exact State.dramPut_kept _ _ _ hs
  · exact ⟨hs.1, memOk_forL _ _ (fun _ _ h => memOk_set _ _ _ h) _ hs.2.1, hs.2.2⟩

theorem State.dmaWrite_kept (s : State) (page : Nat) (blk : Nat) (a : Nat) (bs : List Nat) (hs : Kept b n s) : Kept b n (State.dmaWrite s page blk a bs).1 := by
  unfold State.dmaWrite
  repeat' first
    | with_reducible assumption | with_reducible apply keptOut_next | with_reducible apply keptOut_refused
    | with_reducible apply keptOpt_some | with_reducible apply keptOpt_none | with_reducible apply keptOptOut_some
    | with_reducible apply keptOptOut_none | with_reducible apply kept_ite | with_reducible apply keptOut_ite
    | with_reducible apply keptOpt_ite | with_reducible apply keptOptOut_ite | with_reducible apply kept_ite_fst
    | with_reducible apply kept_ite_snd | with_reducible apply State.dmaLog_kept
    | with_reducible apply State.dmaPut_kept | with_reducible apply kept_forL | with_reducible apply kept_forN
    | with_reducible apply kept_foldl | with_reducible apply kept_forN_fst | with_reducible apply kept_forL_fst
    | with_reducible apply kept_foldl_fst | with_reducible apply kept_foldl_snd
    | (intro a x; intro (hk : Kept b n x.1))

end Sys2Proof.Machine
end

