-- ==== Sys2Proof/Laws/Keep/Evr.lean ====
section
/-! SUPPORT. What the operations of Evr.lean keep: canonical tables, the queue and the direction of time. -/

set_option linter.all false
namespace Sys2Proof.Machine

variable {b : List Instr} {n : Nat}

theorem State.flushCut_kept (s : State) (hs : Kept b n s) : Kept b n (State.flushCut s) := by
  unfold State.flushCut
  repeat' first
    | with_reducible assumption | with_reducible apply keptOut_next | with_reducible apply keptOut_refused
    | with_reducible apply keptOpt_some | with_reducible apply keptOpt_none | with_reducible apply keptOptOut_some
    | with_reducible apply keptOptOut_none | with_reducible apply kept_ite | with_reducible apply keptOut_ite
    | with_reducible apply keptOpt_ite | with_reducible apply keptOptOut_ite | with_reducible apply kept_ite_fst
    | with_reducible apply kept_ite_snd | with_reducible apply State.draw_kept | with_reducible apply kept_forL
    | with_reducible apply kept_forN | with_reducible apply kept_foldl | with_reducible apply kept_forN_fst
    | with_reducible apply kept_forL_fst | with_reducible apply kept_foldl_fst | with_reducible apply kept_foldl_snd
    | (intro x; intro (hk : Kept b n x)) | (intro a x; intro (hk : Kept b n x))
    | (intro a x; intro (hk : Kept b n x.1)) | (intro x a; intro (hk : Kept b n x))
    | (intro x a; intro (hk : Kept b n x.1)) | (intro x a; intro (hk : Kept b n x.2)) | lift_lets
    | (intro x; refine have hx : Kept b n x := ?_; ?_; unfold x)
    | (intro x; refine have hfun : ∀ y, Kept b n (x y) := ?_; ?_; intro y; unfold x) | with_reducible apply hfun
    | (intro x; refine have hx : KeptOpt b n x := ?_; ?_; unfold x)
    | (intro x; refine have hx : Kept b n x.1 := ?_; ?_; unfold x)
    | (intro x; refine have hx : Kept b n x.2 := ?_; ?_; unfold x) | intro x
    | (unfold Kept; dsimp only; with_reducible apply kept_upd) | (with_reducible apply kept_fst (by assumption))
    | (with_reducible apply kept_snd (by assumption)) | (with_reducible apply keptOpt_get (by assumption))
    | (with_reducible apply keptOut_get (by assumption)) | (with_reducible apply keptOptOut_get (by assumption))
    | split | grind [Kept, regsOk_set, memOk_put, memOk_filter, regsOk_filter, memOk_nil]

theorem State.mayPut_kept (s : State) (src : Nat) (x3 : Nat) (code : Nat) (cls : Nat) (origin : Nat) (stamp : Nat) (pay : List Nat) (hs : Kept b n s) : Kept b n (State.mayPut s src x3 code cls origin stamp pay) := by
  unfold State.mayPut
  repeat' first
    | with_reducible assumption | with_reducible apply keptOut_next | with_reducible apply keptOut_refused
    | with_reducible apply keptOpt_some | with_reducible apply keptOpt_none | with_reducible apply keptOptOut_some
    | with_reducible apply keptOptOut_none | with_reducible apply kept_ite | with_reducible apply keptOut_ite
    | with_reducible apply keptOpt_ite | with_reducible apply keptOptOut_ite | with_reducible apply kept_ite_fst
    | with_reducible apply kept_ite_snd | with_reducible apply State.raiseIf_kept
    | with_reducible apply State.wr64_kept | with_reducible apply kept_forL | with_reducible apply kept_forN
    | with_reducible apply kept_foldl | with_reducible apply kept_forN_fst | with_reducible apply kept_forL_fst
    | with_reducible apply kept_foldl_fst | with_reducible apply kept_foldl_snd
    | (intro a x; intro (hk : Kept b n x.1)) | (unfold Kept; dsimp only; with_reducible apply kept_upd)

theorem State.enter_kept (s : State) (src : Nat) (x3 : Nat) (code : Nat) (cls : Nat) (origin : Nat) (stamp : Nat) (pay : List Nat) (hs : Kept b n s) : Kept b n (State.enter s src x3 code cls origin stamp pay) := by
  unfold State.enter
  repeat' first
    | with_reducible assumption | with_reducible apply keptOut_next | with_reducible apply keptOut_refused
    | with_reducible apply keptOpt_some | with_reducible apply keptOpt_none | with_reducible apply keptOptOut_some
    | with_reducible apply keptOptOut_none | with_reducible apply kept_ite | with_reducible apply keptOut_ite
    | with_reducible apply keptOpt_ite | with_reducible apply keptOptOut_ite | with_reducible apply kept_ite_fst
    | with_reducible apply kept_ite_snd | with_reducible apply State.raise_kept
    | with_reducible apply State.incSat_kept | with_reducible apply State.mayPut_kept | with_reducible apply kept_forL
    | with_reducible apply kept_forN | with_reducible apply kept_foldl | with_reducible apply kept_forN_fst
    | with_reducible apply kept_forL_fst | with_reducible apply kept_foldl_fst | with_reducible apply kept_foldl_snd
    | (intro a x; intro (hk : Kept b n x.1)) | (unfold Kept; dsimp only; with_reducible apply kept_upd)

theorem State.record_kept (s : State) (src : Nat) (code : Nat) (cls : Nat) (page : Nat) (stamp : Nat) (pay : List Nat) (hs : Kept b n s) : Kept b n (State.record s src code cls page stamp pay) := by
  unfold State.record
  repeat' first
    | with_reducible assumption | with_reducible apply keptOut_next | with_reducible apply keptOut_refused
    | with_reducible apply keptOpt_some | with_reducible apply keptOpt_none | with_reducible apply keptOptOut_some
    | with_reducible apply keptOptOut_none | with_reducible apply kept_ite | with_reducible apply keptOut_ite
    | with_reducible apply keptOpt_ite | with_reducible apply keptOptOut_ite | with_reducible apply kept_ite_fst
    | with_reducible apply kept_ite_snd | with_reducible apply State.enter_kept | with_reducible apply kept_forL
    | with_reducible apply kept_forN | with_reducible apply kept_foldl | with_reducible apply kept_forN_fst
    | with_reducible apply kept_forL_fst | with_reducible apply kept_foldl_fst | with_reducible apply kept_foldl_snd
    | (intro a x; intro (hk : Kept b n x.1))

theorem execEvrFlushCmd_kept (dt : Nat) (who : Init) (v : Word) (s : State) (hs : Kept b n s) : KeptOut b n (execEvrFlushCmd dt who v s) := by
  unfold execEvrFlushCmd
  repeat' first
    | with_reducible assumption | with_reducible apply keptOut_next | with_reducible apply keptOut_refused
    | with_reducible apply keptOpt_some | with_reducible apply keptOpt_none | with_reducible apply keptOptOut_some
    | with_reducible apply keptOptOut_none | with_reducible apply kept_ite | with_reducible apply keptOut_ite
    | with_reducible apply keptOpt_ite | with_reducible apply keptOptOut_ite | with_reducible apply kept_ite_fst
    | with_reducible apply kept_ite_snd | with_reducible apply onMain_kept | with_reducible apply State.cmdW_kept
    | with_reducible apply onOne_kept | with_reducible apply kept_forL | with_reducible apply kept_forN
    | with_reducible apply kept_foldl | with_reducible apply kept_forN_fst | with_reducible apply kept_forL_fst
    | with_reducible apply kept_foldl_fst | with_reducible apply kept_foldl_snd | (intro x; intro (hk : Kept b n x))
    | (intro a x; intro (hk : Kept b n x)) | (intro a x; intro (hk : Kept b n x.1))
    | (unfold Kept; dsimp only; with_reducible apply kept_upd)

theorem State.clrArm_kept (s : State) (hs : Kept b n s) : Kept b n (State.clrArm s) := by
  unfold State.clrArm
  repeat' first
    | with_reducible assumption | with_reducible apply keptOut_next | with_reducible apply keptOut_refused
    | with_reducible apply keptOpt_some | with_reducible apply keptOpt_none | with_reducible apply keptOptOut_some
    | with_reducible apply keptOptOut_none | with_reducible apply kept_ite | with_reducible apply keptOut_ite
    | with_reducible apply keptOpt_ite | with_reducible apply keptOptOut_ite | with_reducible apply kept_ite_fst
    | with_reducible apply kept_ite_snd | with_reducible apply State.putBit_kept | with_reducible apply kept_forL
    | with_reducible apply kept_forN | with_reducible apply kept_foldl | with_reducible apply kept_forN_fst
    | with_reducible apply kept_forL_fst | with_reducible apply kept_foldl_fst | with_reducible apply kept_foldl_snd
    | (intro a x; intro (hk : Kept b n x.1)) | (unfold Kept; dsimp only; with_reducible apply kept_upd)

theorem execClrcmdArm_kept (dt : Nat) (who : Init) (v : Word) (s : State) (hs : Kept b n s) : KeptOut b n (execClrcmdArm dt who v s) := by
  unfold execClrcmdArm
  repeat' first
    | with_reducible assumption | with_reducible apply keptOut_next | with_reducible apply keptOut_refused
    | with_reducible apply keptOpt_some | with_reducible apply keptOpt_none | with_reducible apply keptOptOut_some
    | with_reducible apply keptOptOut_none | with_reducible apply kept_ite | with_reducible apply keptOut_ite
    | with_reducible apply keptOpt_ite | with_reducible apply keptOptOut_ite | with_reducible apply kept_ite_fst
    | with_reducible apply kept_ite_snd | with_reducible apply onMain_kept | with_reducible apply State.cmdW_kept
    | with_reducible apply State.keyed_kept | with_reducible apply State.clrArm_kept | with_reducible apply kept_forL
    | with_reducible apply kept_forN | with_reducible apply kept_foldl | with_reducible apply kept_forN_fst
    | with_reducible apply kept_forL_fst | with_reducible apply kept_foldl_fst | with_reducible apply kept_foldl_snd
    | (intro x; intro (hk : Kept b n x)) | (intro a x; intro (hk : Kept b n x))
    | (intro a x; intro (hk : Kept b n x.1))

theorem State.clrEnter_kept (s : State) (x2 : Nat) (hs : Kept b n s) : Kept b n (State.clrEnter s x2) := by
  unfold State.clrEnter
  repeat' first
    | with_reducible assumption | with_reducible apply keptOut_next | with_reducible apply keptOut_refused
    | with_reducible apply keptOpt_some | with_reducible apply keptOpt_none | with_reducible apply keptOptOut_some
    | with_reducible apply keptOptOut_none | with_reducible apply kept_ite | with_reducible apply keptOut_ite
    | with_reducible apply keptOpt_ite | with_reducible apply keptOptOut_ite | with_reducible apply kept_ite_fst
    | with_reducible apply kept_ite_snd | with_reducible apply State.record_kept | with_reducible apply kept_forL
    | with_reducible apply kept_forN | with_reducible apply kept_foldl | with_reducible apply kept_forN_fst
    | with_reducible apply kept_forL_fst | with_reducible apply kept_foldl_fst | with_reducible apply kept_foldl_snd
    | (intro x; intro (hk : Kept b n x)) | (intro a x; intro (hk : Kept b n x))
    | (intro a x; intro (hk : Kept b n x.1)) | (intro x a; intro (hk : Kept b n x))
    | (intro x a; intro (hk : Kept b n x.1)) | (intro x a; intro (hk : Kept b n x.2)) | lift_lets
    | (intro x; refine have hx : Kept b n x := ?_; ?_; unfold x)
    | (intro x; refine have hfun : ∀ y, Kept b n (x y) := ?_; ?_; intro y; unfold x) | with_reducible apply hfun
    | (intro x; refine have hx : KeptOpt b n x := ?_; ?_; unfold x)
    | (intro x; refine have hx : Kept b n x.1 := ?_; ?_; unfold x)
    | (intro x; refine have hx : Kept b n x.2 := ?_; ?_; unfold x) | intro x
    | (unfold Kept; dsimp only; with_reducible apply kept_upd) | (with_reducible apply kept_fst (by assumption))
    | (with_reducible apply kept_snd (by assumption)) | (with_reducible apply keptOpt_get (by assumption))
    | (with_reducible apply keptOut_get (by assumption)) | (with_reducible apply keptOptOut_get (by assumption))
    | split | grind [Kept, regsOk_set, memOk_put, memOk_filter, regsOk_filter, memOk_nil]

theorem State.clrStart_kept (s : State) (x2 : Nat) (hs : Kept b n s) : Kept b n (State.clrStart s x2) := by
  unfold State.clrStart
  repeat' first
    | with_reducible assumption | with_reducible apply keptOut_next | with_reducible apply keptOut_refused
    | with_reducible apply keptOpt_some | with_reducible apply keptOpt_none | with_reducible apply keptOptOut_some
    | with_reducible apply keptOptOut_none | with_reducible apply kept_ite | with_reducible apply keptOut_ite
    | with_reducible apply keptOpt_ite | with_reducible apply keptOptOut_ite | with_reducible apply kept_ite_fst
    | with_reducible apply kept_ite_snd | with_reducible apply State.putBit_kept
    | with_reducible apply State.clrEnter_kept | with_reducible apply kept_forL | with_reducible apply kept_forN
    | with_reducible apply kept_foldl | with_reducible apply kept_forN_fst | with_reducible apply kept_forL_fst
    | with_reducible apply kept_foldl_fst | with_reducible apply kept_foldl_snd
    | (intro a x; intro (hk : Kept b n x.1)) | (unfold Kept; dsimp only; with_reducible apply kept_upd)

theorem execClrcmdClear_kept (dt : Nat) (who : Init) (v : Word) (s : State) (hs : Kept b n s) : KeptOut b n (execClrcmdClear dt who v s) := by
  unfold execClrcmdClear
  repeat' first
    | with_reducible assumption | with_reducible apply keptOut_next | with_reducible apply keptOut_refused
    | with_reducible apply keptOpt_some | with_reducible apply keptOpt_none | with_reducible apply keptOptOut_some
    | with_reducible apply keptOptOut_none | with_reducible apply kept_ite | with_reducible apply keptOut_ite
    | with_reducible apply keptOpt_ite | with_reducible apply keptOptOut_ite | with_reducible apply kept_ite_fst
    | with_reducible apply kept_ite_snd | with_reducible apply onMain_kept | with_reducible apply State.cmdW_kept
    | with_reducible apply State.keyed_kept | with_reducible apply State.clrStart_kept
    | with_reducible apply State.err_kept | with_reducible apply kept_forL | with_reducible apply kept_forN
    | with_reducible apply kept_foldl | with_reducible apply kept_forN_fst | with_reducible apply kept_forL_fst
    | with_reducible apply kept_foldl_fst | with_reducible apply kept_foldl_snd | (intro x; intro (hk : Kept b n x))
    | (intro a x; intro (hk : Kept b n x)) | (intro a x; intro (hk : Kept b n x.1))

theorem execEvrCntclr_kept (dt : Nat) (who : Init) (v : Word) (s : State) (hs : Kept b n s) : KeptOut b n (execEvrCntclr dt who v s) := by
  unfold execEvrCntclr
  repeat' first
    | with_reducible assumption | with_reducible apply keptOut_next | with_reducible apply keptOut_refused
    | with_reducible apply keptOpt_some | with_reducible apply keptOpt_none | with_reducible apply keptOptOut_some
    | with_reducible apply keptOptOut_none | with_reducible apply kept_ite | with_reducible apply keptOut_ite
    | with_reducible apply keptOpt_ite | with_reducible apply keptOptOut_ite | with_reducible apply kept_ite_fst
    | with_reducible apply kept_ite_snd | with_reducible apply onMain_kept | with_reducible apply State.cmdW_kept
    | with_reducible apply onOne_kept | with_reducible apply State.zero_kept | with_reducible apply kept_forL
    | with_reducible apply kept_forN | with_reducible apply kept_foldl | with_reducible apply kept_forN_fst
    | with_reducible apply kept_forL_fst | with_reducible apply kept_foldl_fst | with_reducible apply kept_foldl_snd
    | (intro x; intro (hk : Kept b n x)) | (intro a x; intro (hk : Kept b n x))
    | (intro a x; intro (hk : Kept b n x.1))

theorem execRdgo_kept (dt : Nat) (who : Init) (v : Word) (s : State) (hs : Kept b n s) : KeptOut b n (execRdgo dt who v s) := by
  unfold execRdgo
  repeat' first
    | with_reducible assumption | with_reducible apply keptOut_next | with_reducible apply keptOut_refused
    | with_reducible apply keptOpt_some | with_reducible apply keptOpt_none | with_reducible apply keptOptOut_some
    | with_reducible apply keptOptOut_none | with_reducible apply kept_ite | with_reducible apply keptOut_ite
    | with_reducible apply keptOpt_ite | with_reducible apply keptOptOut_ite | with_reducible apply kept_ite_fst
    | with_reducible apply kept_ite_snd | with_reducible apply onMain_kept | with_reducible apply State.cmdW_kept
    | with_reducible apply onOne_kept | with_reducible apply State.err_kept | with_reducible apply State.wr_kept
    | with_reducible apply kept_forL | with_reducible apply kept_forN | with_reducible apply kept_foldl
    | with_reducible apply kept_forN_fst | with_reducible apply kept_forL_fst | with_reducible apply kept_foldl_fst
    | with_reducible apply kept_foldl_snd | (intro x; intro (hk : Kept b n x)) | (intro a x; intro (hk : Kept b n x))
    | (intro a x; intro (hk : Kept b n x.1)) | (unfold Kept; dsimp only; with_reducible apply kept_upd)

theorem execSwgo_kept (dt : Nat) (who : Init) (v : Word) (s : State) (hs : Kept b n s) : KeptOut b n (execSwgo dt who v s) := by
  unfold execSwgo
  repeat' first
    | with_reducible assumption | with_reducible apply keptOut_next | with_reducible apply keptOut_refused
    | with_reducible apply keptOpt_some | with_reducible apply keptOpt_none | with_reducible apply keptOptOut_some
    | with_reducible apply keptOptOut_none | with_reducible apply kept_ite | with_reducible apply keptOut_ite
    | with_reducible apply keptOpt_ite | with_reducible apply keptOptOut_ite | with_reducible apply kept_ite_fst
    | with_reducible apply kept_ite_snd | with_reducible apply onMain_kept | with_reducible apply State.cmdW_kept
    | with_reducible apply onOne_kept | with_reducible apply State.err_kept | with_reducible apply State.enter_kept
    | with_reducible apply State.incSat_kept | with_reducible apply kept_forL | with_reducible apply kept_forN
    | with_reducible apply kept_foldl | with_reducible apply kept_forN_fst | with_reducible apply kept_forL_fst
    | with_reducible apply kept_foldl_fst | with_reducible apply kept_foldl_snd | (intro x; intro (hk : Kept b n x))
    | (intro a x; intro (hk : Kept b n x)) | (intro a x; intro (hk : Kept b n x.1))
    | (unfold Kept; dsimp only; with_reducible apply kept_upd)

theorem State.flushStart_kept (s : State) (hs : Kept b n s) : Kept b n (State.flushStart s) := by
  unfold State.flushStart
  repeat' first
    | with_reducible assumption | with_reducible apply keptOut_next | with_reducible apply keptOut_refused
    | with_reducible apply keptOpt_some | with_reducible apply keptOpt_none | with_reducible apply keptOptOut_some
    | with_reducible apply keptOptOut_none | with_reducible apply kept_ite | with_reducible apply keptOut_ite
    | with_reducible apply keptOpt_ite | with_reducible apply keptOptOut_ite | with_reducible apply kept_ite_fst
    | with_reducible apply kept_ite_snd | with_reducible apply State.putBit_kept | with_reducible apply kept_forL
    | with_reducible apply kept_forN | with_reducible apply kept_foldl | with_reducible apply kept_forN_fst
    | with_reducible apply kept_forL_fst | with_reducible apply kept_foldl_fst | with_reducible apply kept_foldl_snd
    | (intro a x; intro (hk : Kept b n x.1)) | (unfold Kept; dsimp only; with_reducible apply kept_upd)

theorem execEvrFlush_kept (dt : Nat) (s : State) (hs : Kept b n s) : KeptOut b n (execEvrFlush dt s) := by
  unfold execEvrFlush
  repeat' first
    | with_reducible assumption | with_reducible apply keptOut_next | with_reducible apply keptOut_refused
    | with_reducible apply keptOpt_some | with_reducible apply keptOpt_none | with_reducible apply keptOptOut_some
    | with_reducible apply keptOptOut_none | with_reducible apply kept_ite | with_reducible apply keptOut_ite
    | with_reducible apply keptOpt_ite | with_reducible apply keptOptOut_ite | with_reducible apply kept_ite_fst
    | with_reducible apply kept_ite_snd | with_reducible apply onShed_kept
    | with_reducible apply State.flushStart_kept | with_reducible apply kept_forL | with_reducible apply kept_forN
    | with_reducible apply kept_foldl | with_reducible apply kept_forN_fst | with_reducible apply kept_forL_fst
    | with_reducible apply kept_foldl_fst | with_reducible apply kept_foldl_snd | (intro x; intro (hk : Kept b n x))
    | (intro a x; intro (hk : Kept b n x)) | (intro a x; intro (hk : Kept b n x.1))

theorem State.clrNext_kept (s : State) (hs : Kept b n s) : Kept b n (State.clrNext s) := by
  unfold State.clrNext
  repeat' first
    | with_reducible assumption | with_reducible apply keptOut_next | with_reducible apply keptOut_refused
    | with_reducible apply keptOpt_some | with_reducible apply keptOpt_none | with_reducible apply keptOptOut_some
    | with_reducible apply keptOptOut_none | with_reducible apply kept_ite | with_reducible apply keptOut_ite
    | with_reducible apply keptOpt_ite | with_reducible apply keptOptOut_ite | with_reducible apply kept_ite_fst
    | with_reducible apply kept_ite_snd | with_reducible apply State.clrEnter_kept | with_reducible apply kept_forL
    | with_reducible apply kept_forN | with_reducible apply kept_foldl | with_reducible apply kept_forN_fst
    | with_reducible apply kept_forL_fst | with_reducible apply kept_foldl_fst | with_reducible apply kept_foldl_snd
    | (intro x; intro (hk : Kept b n x)) | (intro a x; intro (hk : Kept b n x))
    | (intro a x; intro (hk : Kept b n x.1)) | (intro x a; intro (hk : Kept b n x))
    | (intro x a; intro (hk : Kept b n x.1)) | (intro x a; intro (hk : Kept b n x.2)) | lift_lets
    | (intro x; refine have hx : Kept b n x := ?_; ?_; unfold x)
    | (intro x; refine have hfun : ∀ y, Kept b n (x y) := ?_; ?_; intro y; unfold x) | with_reducible apply hfun
    | (intro x; refine have hx : KeptOpt b n x := ?_; ?_; unfold x)
    | (intro x; refine have hx : Kept b n x.1 := ?_; ?_; unfold x)
    | (intro x; refine have hx : Kept b n x.2 := ?_; ?_; unfold x) | intro x
    | (unfold Kept; dsimp only; with_reducible apply kept_upd) | (with_reducible apply kept_fst (by assumption))
    | (with_reducible apply kept_snd (by assumption)) | (with_reducible apply keptOpt_get (by assumption))
    | (with_reducible apply keptOut_get (by assumption)) | (with_reducible apply keptOptOut_get (by assumption))
    | split | grind [Kept, regsOk_set, memOk_put, memOk_filter, regsOk_filter, memOk_nil]

theorem State.evrShow_kept (s : State) (hs : Kept b n s) : Kept b n (State.evrShow s) := by
  unfold State.evrShow
  repeat' first
    | with_reducible assumption | with_reducible apply keptOut_next | with_reducible apply keptOut_refused
    | with_reducible apply keptOpt_some | with_reducible apply keptOpt_none | with_reducible apply keptOptOut_some
    | with_reducible apply keptOptOut_none | with_reducible apply kept_ite | with_reducible apply keptOut_ite
    | with_reducible apply keptOpt_ite | with_reducible apply keptOptOut_ite | with_reducible apply kept_ite_fst
    | with_reducible apply kept_ite_snd | with_reducible apply State.wr64_kept | with_reducible apply State.wr_kept
    | with_reducible apply kept_forL | with_reducible apply kept_forN | with_reducible apply kept_foldl
    | with_reducible apply kept_forN_fst | with_reducible apply kept_forL_fst | with_reducible apply kept_foldl_fst
    | with_reducible apply kept_foldl_snd | (intro x; intro (hk : Kept b n x)) | (intro a x; intro (hk : Kept b n x))
    | (intro a x; intro (hk : Kept b n x.1)) | (intro x a; intro (hk : Kept b n x))
    | (intro x a; intro (hk : Kept b n x.1)) | (intro x a; intro (hk : Kept b n x.2)) | lift_lets
    | (intro x; refine have hx : Kept b n x := ?_; ?_; unfold x)
    | (intro x; refine have hfun : ∀ y, Kept b n (x y) := ?_; ?_; intro y; unfold x) | with_reducible apply hfun
    | (intro x; refine have hx : KeptOpt b n x := ?_; ?_; unfold x)
    | (intro x; refine have hx : Kept b n x.1 := ?_; ?_; unfold x)
    | (intro x; refine have hx : Kept b n x.2 := ?_; ?_; unfold x) | intro x
    | (unfold Kept; dsimp only; with_reducible apply kept_upd) | (with_reducible apply kept_fst (by assumption))
    | (with_reducible apply kept_snd (by assumption)) | (with_reducible apply keptOpt_get (by assumption))
    | (with_reducible apply keptOut_get (by assumption)) | (with_reducible apply keptOptOut_get (by assumption))
    | split | grind [Kept, regsOk_set, memOk_put, memOk_filter, regsOk_filter, memOk_nil]

theorem State.storeFlushed_kept (s : State) (hs : Kept b n s) : Kept b n (State.storeFlushed s) := by
  unfold State.storeFlushed
  repeat' first
    | with_reducible assumption | with_reducible apply keptOut_next | with_reducible apply keptOut_refused
    | with_reducible apply keptOpt_some | with_reducible apply keptOpt_none | with_reducible apply keptOptOut_some
    | with_reducible apply keptOptOut_none | with_reducible apply kept_ite | with_reducible apply keptOut_ite
    | with_reducible apply keptOpt_ite | with_reducible apply keptOptOut_ite | with_reducible apply kept_ite_fst
    | with_reducible apply kept_ite_snd | with_reducible apply State.evrShow_kept
    | with_reducible apply State.putBit_kept | with_reducible apply kept_forL | with_reducible apply kept_forN
    | with_reducible apply kept_foldl | with_reducible apply kept_forN_fst | with_reducible apply kept_forL_fst
    | with_reducible apply kept_foldl_fst | with_reducible apply kept_foldl_snd
    | (intro a x; intro (hk : Kept b n x.1)) | (unfold Kept; dsimp only; with_reducible apply kept_upd)

theorem execEvrFlushDone_kept (dt : Nat) (ok : Bool) (s : State) (hs : Kept b n s) : KeptOut b n (execEvrFlushDone dt ok s) := by
  unfold execEvrFlushDone
  repeat' first
    | with_reducible assumption | with_reducible apply keptOut_next | with_reducible apply keptOut_refused
    | with_reducible apply keptOpt_some | with_reducible apply keptOpt_none | with_reducible apply keptOptOut_some
    | with_reducible apply keptOptOut_none | with_reducible apply kept_ite | with_reducible apply keptOut_ite
    | with_reducible apply keptOpt_ite | with_reducible apply keptOptOut_ite | with_reducible apply kept_ite_fst
    | with_reducible apply kept_ite_snd | with_reducible apply onShed_kept | with_reducible apply State.clrNext_kept
    | with_reducible apply State.storeFlushed_kept | with_reducible apply State.raise_kept
    | with_reducible apply State.incSatF_kept | with_reducible apply State.putBit_kept
    | with_reducible apply kept_forL | with_reducible apply kept_forN | with_reducible apply kept_foldl
    | with_reducible apply kept_forN_fst | with_reducible apply kept_forL_fst | with_reducible apply kept_foldl_fst
    | with_reducible apply kept_foldl_snd | (intro x; intro (hk : Kept b n x)) | (intro a x; intro (hk : Kept b n x))
    | (intro a x; intro (hk : Kept b n x.1)) | (unfold Kept; dsimp only; with_reducible apply kept_upd)

theorem execEvrReadDone_kept (dt : Nat) (s : State) (hs : Kept b n s) : KeptOut b n (execEvrReadDone dt s) := by
  unfold execEvrReadDone
  repeat' first
    | with_reducible assumption | with_reducible apply keptOut_next | with_reducible apply keptOut_refused
    | with_reducible apply keptOpt_some | with_reducible apply keptOpt_none | with_reducible apply keptOptOut_some
    | with_reducible apply keptOptOut_none | with_reducible apply kept_ite | with_reducible apply keptOut_ite
    | with_reducible apply keptOpt_ite | with_reducible apply keptOptOut_ite | with_reducible apply kept_ite_fst
    | with_reducible apply kept_ite_snd | with_reducible apply onShed_kept | with_reducible apply State.wr_kept
    | with_reducible apply kept_forL | with_reducible apply kept_forN | with_reducible apply kept_foldl
    | with_reducible apply kept_forN_fst | with_reducible apply kept_forL_fst | with_reducible apply kept_foldl_fst
    | with_reducible apply kept_foldl_snd | (intro x; intro (hk : Kept b n x)) | (intro a x; intro (hk : Kept b n x))
    | (intro a x; intro (hk : Kept b n x.1)) | (unfold Kept; dsimp only; with_reducible apply kept_upd) | split

theorem execEvrClearDone_kept (dt : Nat) (s : State) (hs : Kept b n s) : KeptOut b n (execEvrClearDone dt s) := by
  unfold execEvrClearDone
  repeat' first
    | with_reducible assumption | with_reducible apply keptOut_next | with_reducible apply keptOut_refused
    | with_reducible apply keptOpt_some | with_reducible apply keptOpt_none | with_reducible apply keptOptOut_some
    | with_reducible apply keptOptOut_none | with_reducible apply kept_ite | with_reducible apply keptOut_ite
    | with_reducible apply keptOpt_ite | with_reducible apply keptOptOut_ite | with_reducible apply kept_ite_fst
    | with_reducible apply kept_ite_snd | with_reducible apply onShed_kept | with_reducible apply State.raise_kept
    | with_reducible apply State.incWrap_kept | with_reducible apply State.evrShow_kept
    | with_reducible apply kept_forL | with_reducible apply kept_forN | with_reducible apply kept_foldl
    | with_reducible apply kept_forN_fst | with_reducible apply kept_forL_fst | with_reducible apply kept_foldl_fst
    | with_reducible apply kept_foldl_snd | (intro x; intro (hk : Kept b n x)) | (intro a x; intro (hk : Kept b n x))
    | (intro a x; intro (hk : Kept b n x.1)) | (unfold Kept; dsimp only; with_reducible apply kept_upd) | split

theorem execClearArmExpiry_kept (dt : Nat) (s : State) (hs : Kept b n s) : KeptOut b n (execClearArmExpiry dt s) := by
  unfold execClearArmExpiry
  repeat' first
    | with_reducible assumption | with_reducible apply keptOut_next | with_reducible apply keptOut_refused
    | with_reducible apply keptOpt_some | with_reducible apply keptOpt_none | with_reducible apply keptOptOut_some
    | with_reducible apply keptOptOut_none | with_reducible apply kept_ite | with_reducible apply keptOut_ite
    | with_reducible apply keptOpt_ite | with_reducible apply keptOptOut_ite | with_reducible apply kept_ite_fst
    | with_reducible apply kept_ite_snd | with_reducible apply onMain_kept | with_reducible apply State.putBit_kept
    | with_reducible apply kept_forL | with_reducible apply kept_forN | with_reducible apply kept_foldl
    | with_reducible apply kept_forN_fst | with_reducible apply kept_forL_fst | with_reducible apply kept_foldl_fst
    | with_reducible apply kept_foldl_snd | (intro x; intro (hk : Kept b n x)) | (intro a x; intro (hk : Kept b n x))
    | (intro a x; intro (hk : Kept b n x.1))

end Sys2Proof.Machine
end

