-- ==== Sys2Proof/Laws/Keep/Commit.lean ====
section
/-! SUPPORT. What the operations of Commit.lean keep: canonical tables, the queue and the direction of time. -/

set_option linter.all false
namespace Sys2Proof.Machine

variable {b : List Instr} {n : Nat}

theorem State.pageBefore_kept (s : State) (p : Nat) (hs : Kept b n s) : Kept b n (State.pageBefore s p) := by
  unfold State.pageBefore
  repeat' first
    | with_reducible assumption | with_reducible apply keptOut_next | with_reducible apply keptOut_refused
    | with_reducible apply keptOpt_some | with_reducible apply keptOpt_none | with_reducible apply keptOptOut_some
    | with_reducible apply keptOptOut_none | with_reducible apply kept_ite | with_reducible apply keptOut_ite
    | with_reducible apply keptOpt_ite | with_reducible apply keptOptOut_ite | with_reducible apply kept_ite_fst
    | with_reducible apply kept_ite_snd | with_reducible apply State.pmcAdvance_kept | with_reducible apply kept_forL
    | with_reducible apply kept_forN | with_reducible apply kept_foldl | with_reducible apply kept_forN_fst
    | with_reducible apply kept_forL_fst | with_reducible apply kept_foldl_fst | with_reducible apply kept_foldl_snd
    | (intro a x; intro (hk : Kept b n x.1))

theorem State.pageApplied_kept (s : State) (old : State) (p : Nat) (hs : Kept b n s) : Kept b n (State.pageApplied s old p) := by
  unfold State.pageApplied
  repeat' first
    | with_reducible assumption | with_reducible apply keptOut_next | with_reducible apply keptOut_refused
    | with_reducible apply keptOpt_some | with_reducible apply keptOpt_none | with_reducible apply keptOptOut_some
    | with_reducible apply keptOptOut_none | with_reducible apply kept_ite | with_reducible apply keptOut_ite
    | with_reducible apply keptOpt_ite | with_reducible apply keptOptOut_ite | with_reducible apply kept_ite_fst
    | with_reducible apply kept_ite_snd | with_reducible apply State.memApplied_kept
    | with_reducible apply State.cycApplied_kept | with_reducible apply State.axsApplied_kept
    | with_reducible apply State.padAxis_kept | with_reducible apply State.tmbApplied_kept
    | with_reducible apply State.padApplied_kept | with_reducible apply State.preApplied_kept
    | with_reducible apply State.drcApplied_kept | with_reducible apply State.sarApplied_kept
    | with_reducible apply State.dioApplied_kept | with_reducible apply State.sfnApplied_kept
    | with_reducible apply State.loopApplied_kept | with_reducible apply State.gwyCan_kept
    | with_reducible apply State.canApplied_kept | with_reducible apply State.ethApplied_kept
    | with_reducible apply State.gwyApplied_kept | with_reducible apply State.hrbApplied_kept
    | with_reducible apply State.rdnEval_kept | with_reducible apply kept_forL | with_reducible apply kept_forN
    | with_reducible apply kept_foldl | with_reducible apply kept_forN_fst | with_reducible apply kept_forL_fst
    | with_reducible apply kept_foldl_fst | with_reducible apply kept_foldl_snd
    | (intro a x; intro (hk : Kept b n x.1)) | split

theorem State.applyGroup_kept (s : State) (g : List Nat) (hs : Kept b n s) : Kept b n (State.applyGroup s g) := by
  unfold State.applyGroup
  repeat' first
    | with_reducible assumption | with_reducible apply keptOut_next | with_reducible apply keptOut_refused
    | with_reducible apply keptOpt_some | with_reducible apply keptOpt_none | with_reducible apply keptOptOut_some
    | with_reducible apply keptOptOut_none | with_reducible apply kept_ite | with_reducible apply keptOut_ite
    | with_reducible apply keptOpt_ite | with_reducible apply keptOptOut_ite | with_reducible apply kept_ite_fst
    | with_reducible apply kept_ite_snd | with_reducible apply State.pageBefore_kept
    | with_reducible apply State.incWrap_kept | with_reducible apply State.endCmtstat_kept
    | with_reducible apply State.setPend_kept | with_reducible apply State.dropShadows_kept
    | with_reducible apply State.taken_kept | with_reducible apply State.pageApplied_kept
    | with_reducible apply kept_forL | with_reducible apply kept_forN | with_reducible apply kept_foldl
    | with_reducible apply kept_forN_fst | with_reducible apply kept_forL_fst | with_reducible apply kept_foldl_fst
    | with_reducible apply kept_foldl_snd | (intro a x; intro (hk : Kept b n x))
    | (intro a x; intro (hk : Kept b n x.1)) | (intro x a; intro (hk : Kept b n x))

theorem State.refuseCommit_kept (s : State) (p : Nat) (v : Verdict) (hs : Kept b n s) : Kept b n (State.refuseCommit s p v) := by
  unfold State.refuseCommit
  repeat' first
    | with_reducible assumption | with_reducible apply keptOut_next | with_reducible apply keptOut_refused
    | with_reducible apply keptOpt_some | with_reducible apply keptOpt_none | with_reducible apply keptOptOut_some
    | with_reducible apply keptOptOut_none | with_reducible apply kept_ite | with_reducible apply keptOut_ite
    | with_reducible apply keptOpt_ite | with_reducible apply keptOptOut_ite | with_reducible apply kept_ite_fst
    | with_reducible apply kept_ite_snd | with_reducible apply State.endCmtstat_kept
    | with_reducible apply State.setPend_kept | with_reducible apply State.err_kept
    | with_reducible apply State.errAt_kept | with_reducible apply State.errOpen_kept | with_reducible apply kept_forL
    | with_reducible apply kept_forN | with_reducible apply kept_foldl | with_reducible apply kept_forN_fst
    | with_reducible apply kept_forL_fst | with_reducible apply kept_foldl_fst | with_reducible apply kept_foldl_snd
    | (intro a x; intro (hk : Kept b n x.1)) | split

theorem execPageCommitApply_kept (dt : Nat) (p : Fin 512) (s : State) (hs : Kept b n s) : KeptOut b n (execPageCommitApply dt p s) := by
  unfold execPageCommitApply
  repeat' first
    | with_reducible assumption | with_reducible apply keptOut_next | with_reducible apply keptOut_refused
    | with_reducible apply keptOpt_some | with_reducible apply keptOpt_none | with_reducible apply keptOptOut_some
    | with_reducible apply keptOptOut_none | with_reducible apply kept_ite | with_reducible apply keptOut_ite
    | with_reducible apply keptOpt_ite | with_reducible apply keptOptOut_ite | with_reducible apply kept_ite_fst
    | with_reducible apply kept_ite_snd | with_reducible apply onMain_kept
    | with_reducible apply State.applyGroup_kept | with_reducible apply State.refuseCommit_kept
    | with_reducible apply kept_forL | with_reducible apply kept_forN | with_reducible apply kept_foldl
    | with_reducible apply kept_forN_fst | with_reducible apply kept_forL_fst | with_reducible apply kept_foldl_fst
    | with_reducible apply kept_foldl_snd | (intro x; intro (hk : Kept b n x)) | (intro a x; intro (hk : Kept b n x))
    | (intro a x; intro (hk : Kept b n x.1)) | (intro x a; intro (hk : Kept b n x))

end Sys2Proof.Machine
end

