-- ==== Sys2Proof/Laws/Keep/Bus.lean ====
section
/-! SUPPORT. What the operations of Bus.lean keep: canonical tables, the queue and the direction of time. -/

set_option linter.all false
namespace Sys2Proof.Machine

variable {b : List Instr} {n : Nat}

theorem State.after_kept (s : State) (r : Host.Outcome State Fault Refusal) (hs : Kept b n s) (hr : KeptOut b n r) : Kept b n (State.after s r) := by
  unfold State.after
  split
  · exact hr.get _ rfl
  · exact hs

theorem State.romAccess_kept (s : State) (who : Init) (a : Nat) (x4 : Nat) (op : BusOp) (hs : Kept b n s) : Kept b n (State.romAccess s who a x4 op) := by
  unfold State.romAccess
  repeat' first
    | with_reducible assumption | with_reducible apply keptOut_next | with_reducible apply keptOut_refused
    | with_reducible apply keptOpt_some | with_reducible apply keptOpt_none | with_reducible apply keptOptOut_some
    | with_reducible apply keptOptOut_none | with_reducible apply kept_ite | with_reducible apply keptOut_ite
    | with_reducible apply keptOpt_ite | with_reducible apply keptOptOut_ite | with_reducible apply kept_ite_fst
    | with_reducible apply kept_ite_snd | with_reducible apply State.draw_kept
    | with_reducible apply State.busFault_kept | with_reducible apply kept_forL | with_reducible apply kept_forN
    | with_reducible apply kept_foldl | with_reducible apply kept_forN_fst | with_reducible apply kept_forL_fst
    | with_reducible apply kept_foldl_fst | with_reducible apply kept_foldl_snd
    | (intro a x; intro (hk : Kept b n x.1)) | (unfold Kept; dsimp only; with_reducible apply kept_upd) | split

theorem State.readCmd_kept (s : State) (who : Init) (p : Nat) (o : Nat) (hs : Kept b n s) : KeptOptOut b n (State.readCmd s who p o) := by
  unfold State.readCmd
  repeat' first
    | with_reducible assumption | with_reducible apply keptOut_next | with_reducible apply keptOut_refused
    | with_reducible apply keptOpt_some | with_reducible apply keptOpt_none | with_reducible apply keptOptOut_some
    | with_reducible apply keptOptOut_none | with_reducible apply kept_ite | with_reducible apply keptOut_ite
    | with_reducible apply keptOpt_ite | with_reducible apply keptOptOut_ite | with_reducible apply kept_ite_fst
    | with_reducible apply kept_ite_snd | with_reducible apply execDenypop_kept | with_reducible apply execEqpop_kept
    | with_reducible apply execTxtspop_kept | with_reducible apply execTspop_kept
    | with_reducible apply execSbpop_kept | with_reducible apply execWvpop_kept | with_reducible apply kept_forL
    | with_reducible apply kept_forN | with_reducible apply kept_foldl | with_reducible apply kept_forN_fst
    | with_reducible apply kept_forL_fst | with_reducible apply kept_foldl_fst | with_reducible apply kept_foldl_snd
    | (intro a x; intro (hk : Kept b n x.1))

theorem State.regLoad_kept (s : State) (who : Init) (p : Nat) (o : Nat) (hs : Kept b n s) : Kept b n (State.regLoad s who p o) := by
  unfold State.regLoad
  repeat' first
    | with_reducible assumption | with_reducible apply keptOut_next | with_reducible apply keptOut_refused
    | with_reducible apply keptOpt_some | with_reducible apply keptOpt_none | with_reducible apply keptOptOut_some
    | with_reducible apply keptOptOut_none | with_reducible apply kept_ite | with_reducible apply keptOut_ite
    | with_reducible apply keptOpt_ite | with_reducible apply keptOptOut_ite | with_reducible apply kept_ite_fst
    | with_reducible apply kept_ite_snd | with_reducible apply State.readCmd_kept
    | with_reducible apply State.after_kept | with_reducible apply State.cmdR_kept
    | with_reducible apply State.readReg_kept | with_reducible apply kept_forL | with_reducible apply kept_forN
    | with_reducible apply kept_foldl | with_reducible apply kept_forN_fst | with_reducible apply kept_forL_fst
    | with_reducible apply kept_foldl_fst | with_reducible apply kept_foldl_snd | (intro a x; intro (hk : Kept b n x))
    | (intro a x; intro (hk : Kept b n x.1)) | (intro x a; intro (hk : Kept b n x))
    | (unfold Kept; dsimp only; with_reducible apply kept_upd) | (with_reducible apply keptOptOut_get (by assumption))
    | split

theorem State.headCmd_kept (s : State) (who : Init) (p : Nat) (o : Nat) (v : Word) (ext : BitVec 48) (hs : Kept b n s) : KeptOptOut b n (State.headCmd s who p o v ext) := by
  unfold State.headCmd
  repeat' first
    | with_reducible assumption | with_reducible apply keptOut_next | with_reducible apply keptOut_refused
    | with_reducible apply keptOpt_some | with_reducible apply keptOpt_none | with_reducible apply keptOptOut_some
    | with_reducible apply keptOptOut_none | with_reducible apply kept_ite | with_reducible apply keptOut_ite
    | with_reducible apply keptOpt_ite | with_reducible apply keptOptOut_ite | with_reducible apply kept_ite_fst
    | with_reducible apply kept_ite_snd | with_reducible apply execOwnerWrite_kept
    | with_reducible apply execLockWrite_kept | with_reducible apply execEvackWrite_kept
    | with_reducible apply execCmtAbort_kept | with_reducible apply execCmtGo_kept
    | with_reducible apply execErrclrWrite_kept | with_reducible apply execPresetWrite_kept
    | with_reducible apply execOwnkWrite_kept | with_reducible apply execGrantkWrite_kept
    | with_reducible apply kept_forL | with_reducible apply kept_forN | with_reducible apply kept_foldl
    | with_reducible apply kept_forN_fst | with_reducible apply kept_forL_fst | with_reducible apply kept_foldl_fst
    | with_reducible apply kept_foldl_snd | (intro a x; intro (hk : Kept b n x.1))

theorem State.coreCmd_kept (s : State) (who : Init) (p : Nat) (o : Nat) (v : Word) (hs : Kept b n s) : KeptOptOut b n (State.coreCmd s who p o v) := by
  unfold State.coreCmd
  repeat' first
    | with_reducible assumption | with_reducible apply keptOut_next | with_reducible apply keptOut_refused
    | with_reducible apply keptOpt_some | with_reducible apply keptOpt_none | with_reducible apply keptOptOut_some
    | with_reducible apply keptOptOut_none | with_reducible apply kept_ite | with_reducible apply keptOut_ite
    | with_reducible apply keptOpt_ite | with_reducible apply keptOptOut_ite | with_reducible apply kept_ite_fst
    | with_reducible apply kept_ite_snd | with_reducible apply execSyscmdSleep_kept
    | with_reducible apply execSyscmdMreset_kept | with_reducible apply execFusecmdRevoke_kept
    | with_reducible apply execMemCntclr_kept | with_reducible apply execElnext_kept
    | with_reducible apply execLanecmdFence_kept | with_reducible apply execStnow_kept
    | with_reducible apply execStartWarm_kept | with_reducible apply execStop_kept
    | with_reducible apply execChgload_kept | with_reducible apply execChgarm_kept
    | with_reducible apply execChgabort_kept | with_reducible apply execGroupcmt_kept
    | with_reducible apply execStartCold_kept | with_reducible apply execCycCntclr_kept
    | with_reducible apply execAxisCapture_kept | with_reducible apply execFixgo_kept
    | with_reducible apply execSeclr_kept | with_reducible apply execOfsgo_kept
    | with_reducible apply execTmbCapgo_kept | with_reducible apply execRestep_kept | with_reducible apply kept_forL
    | with_reducible apply kept_forN | with_reducible apply kept_foldl | with_reducible apply kept_forN_fst
    | with_reducible apply kept_forL_fst | with_reducible apply kept_foldl_fst | with_reducible apply kept_foldl_snd
    | (intro a x; intro (hk : Kept b n x.1)) | split

theorem State.ioCmd_kept (s : State) (who : Init) (p : Nat) (o : Nat) (v : Word) (ext : BitVec 48) (hs : Kept b n s) : KeptOptOut b n (State.ioCmd s who p o v ext) := by
  unfold State.ioCmd
  repeat' first
    | with_reducible assumption | with_reducible apply keptOut_next | with_reducible apply keptOut_refused
    | with_reducible apply keptOpt_some | with_reducible apply keptOpt_none | with_reducible apply keptOptOut_some
    | with_reducible apply keptOptOut_none | with_reducible apply kept_ite | with_reducible apply keptOut_ite
    | with_reducible apply keptOpt_ite | with_reducible apply keptOptOut_ite | with_reducible apply kept_ite_fst
    | with_reducible apply kept_ite_snd | with_reducible apply execLivegrab_kept | with_reducible apply execXclr_kept
    | with_reducible apply execPadCapgo_kept | with_reducible apply execPreCntclr_kept
    | with_reducible apply execOuttest_kept | with_reducible apply execPreOutCntclr_kept
    | with_reducible apply execWearclr_kept | with_reducible apply execMlcmd_kept
    | with_reducible apply execGrpcmdUnseal_kept | with_reducible apply execGrpcmdSeal_kept
    | with_reducible apply execTrgnow_kept | with_reducible apply execDrcCntclr_kept
    | with_reducible apply execExpcmdHdr_kept | with_reducible apply execExpcmdDat_kept
    | with_reducible apply execExpcmdCfg_kept | with_reducible apply execArcmdUnprotect_kept
    | with_reducible apply execArcmdDelete_kept | with_reducible apply execArcmdRelease_kept
    | with_reducible apply execArcmdRetry_kept | with_reducible apply execArcmdProtect_kept
    | with_reducible apply execConvreq_kept | with_reducible apply execSeqcmdStop_kept
    | with_reducible apply execSeqcmdGo_kept | with_reducible apply execSarCntclr_kept
    | with_reducible apply execChkclr_kept | with_reducible apply execDioFltclr_kept
    | with_reducible apply execLogclr_kept | with_reducible apply execSfnFltclr_kept
    | with_reducible apply execLoopFltclr_kept | with_reducible apply execLoopCntclr_kept
    | with_reducible apply kept_forL | with_reducible apply kept_forN | with_reducible apply kept_foldl
    | with_reducible apply kept_forN_fst | with_reducible apply kept_forL_fst | with_reducible apply kept_foldl_fst
    | with_reducible apply kept_foldl_snd | (intro a x; intro (hk : Kept b n x.1)) | split

theorem State.netCmd_kept (s : State) (who : Init) (p : Nat) (o : Nat) (v : Word) (hs : Kept b n s) : KeptOptOut b n (State.netCmd s who p o v) := by
  unfold State.netCmd
  repeat' first
    | with_reducible assumption | with_reducible apply keptOut_next | with_reducible apply keptOut_refused
    | with_reducible apply keptOpt_some | with_reducible apply keptOpt_none | with_reducible apply keptOptOut_some
    | with_reducible apply keptOptOut_none | with_reducible apply kept_ite | with_reducible apply keptOut_ite
    | with_reducible apply keptOpt_ite | with_reducible apply keptOptOut_ite | with_reducible apply kept_ite_fst
    | with_reducible apply kept_ite_snd | with_reducible apply execCancmdRecover_kept
    | with_reducible apply execTxcmdCancel_kept | with_reducible apply execTxcmdLoad_kept
    | with_reducible apply execTxcmdSend_kept | with_reducible apply execRxqrel_kept
    | with_reducible apply execCanCntclr_kept | with_reducible apply execTxtailWrite_kept
    | with_reducible apply execRxtailWrite_kept | with_reducible apply execRingerrClear_kept
    | with_reducible apply execGwyCntclr_kept | with_reducible apply execHrbCntclr_kept
    | with_reducible apply execEvrFlushCmd_kept | with_reducible apply execClrcmdArm_kept
    | with_reducible apply execClrcmdClear_kept | with_reducible apply execEvrCntclr_kept
    | with_reducible apply execRdgo_kept | with_reducible apply execSwgo_kept
    | with_reducible apply execCntcmdReset_kept | with_reducible apply execCntcmdAdd_kept
    | with_reducible apply execCalgo_kept | with_reducible apply execUpdcmdChunk_kept
    | with_reducible apply execUpdcmdClose_kept | with_reducible apply execUpdcmdAbort_kept
    | with_reducible apply execUpdcmdAbortother_kept | with_reducible apply execUpdcmdOpen_kept
    | with_reducible apply execActcmdNow_kept | with_reducible apply execActcmdCancel_kept
    | with_reducible apply execActcmdConfirm_kept | with_reducible apply execActcmdSchedule_kept
    | with_reducible apply execMgtCntclr_kept | with_reducible apply execPrimcmdRelease_kept
    | with_reducible apply execOvfClear_kept | with_reducible apply execPmcSnap_kept
    | with_reducible apply execPmcCntclr_kept | with_reducible apply kept_forL | with_reducible apply kept_forN
    | with_reducible apply kept_foldl | with_reducible apply kept_forN_fst | with_reducible apply kept_forL_fst
    | with_reducible apply kept_foldl_fst | with_reducible apply kept_foldl_snd
    | (intro a x; intro (hk : Kept b n x.1)) | split

theorem State.regStore_kept (s : State) (who : Init) (p : Nat) (o : Nat) (v : Word) (ext : BitVec 48) (hs : Kept b n s) : Kept b n (State.regStore s who p o v ext) := by
  unfold State.regStore
  repeat' first
    | with_reducible assumption | with_reducible apply keptOut_next | with_reducible apply keptOut_refused
    | with_reducible apply keptOpt_some | with_reducible apply keptOpt_none | with_reducible apply keptOptOut_some
    | with_reducible apply keptOptOut_none | with_reducible apply kept_ite | with_reducible apply keptOut_ite
    | with_reducible apply keptOpt_ite | with_reducible apply keptOptOut_ite | with_reducible apply kept_ite_fst
    | with_reducible apply kept_ite_snd | with_reducible apply State.headCmd_kept
    | with_reducible apply State.after_kept | with_reducible apply State.coreCmd_kept
    | with_reducible apply State.ioCmd_kept | with_reducible apply State.netCmd_kept
    | with_reducible apply execWideLoWrite_kept | with_reducible apply execWideHiWrite_kept
    | with_reducible apply execRegisterWrite_kept | with_reducible apply kept_forL | with_reducible apply kept_forN
    | with_reducible apply kept_foldl | with_reducible apply kept_forN_fst | with_reducible apply kept_forL_fst
    | with_reducible apply kept_foldl_fst | with_reducible apply kept_foldl_snd
    | (intro a x; intro (hk : Kept b n x.1)) | (with_reducible apply keptOptOut_get (by assumption)) | split

theorem State.regAccess_kept (s : State) (who : Init) (x : Nat) (x4 : Nat) (op : BusOp) (ext : BitVec 48) (hs : Kept b n s) : Kept b n (State.regAccess s who x x4 op ext) := by
  unfold State.regAccess
  cases op <;> dsimp only
  repeat' first
    | with_reducible assumption | with_reducible apply keptOut_next | with_reducible apply keptOut_refused
    | with_reducible apply keptOpt_some | with_reducible apply keptOpt_none | with_reducible apply keptOptOut_some
    | with_reducible apply keptOptOut_none | with_reducible apply kept_ite | with_reducible apply keptOut_ite
    | with_reducible apply keptOpt_ite | with_reducible apply keptOptOut_ite | with_reducible apply kept_ite_fst
    | with_reducible apply kept_ite_snd | with_reducible apply State.deny_kept
    | with_reducible apply State.regLoad_kept | with_reducible apply State.regStore_kept
    | with_reducible apply kept_forL | with_reducible apply kept_forN | with_reducible apply kept_foldl
    | with_reducible apply kept_forN_fst | with_reducible apply kept_forL_fst | with_reducible apply kept_foldl_fst
    | with_reducible apply kept_foldl_snd | (intro a x; intro (hk : Kept b n x.1))

theorem State.canMem_kept (s : State) (who : Init) (a : Nat) (c : Nat) (o : Nat) (x6 : Nat) (op : BusOp) (hs : Kept b n s) : Kept b n (State.canMem s who a c o x6 op) := by
  unfold State.canMem
  repeat' first
    | with_reducible assumption | with_reducible apply keptOut_next | with_reducible apply keptOut_refused
    | with_reducible apply keptOpt_some | with_reducible apply keptOpt_none | with_reducible apply keptOptOut_some
    | with_reducible apply keptOptOut_none | with_reducible apply kept_ite | with_reducible apply keptOut_ite
    | with_reducible apply keptOpt_ite | with_reducible apply keptOptOut_ite | with_reducible apply kept_ite_fst
    | with_reducible apply kept_ite_snd | with_reducible apply State.busFault_kept
    | with_reducible apply State.canRamPut_kept | with_reducible apply kept_forL | with_reducible apply kept_forN
    | with_reducible apply kept_foldl | with_reducible apply kept_forN_fst | with_reducible apply kept_forL_fst
    | with_reducible apply kept_foldl_fst | with_reducible apply kept_foldl_snd
    | (intro a x; intro (hk : Kept b n x.1)) | (unfold Kept; dsimp only; with_reducible apply kept_upd) | split

theorem State.preMemRead_kept (s : State) (o : Nat) (x3 : Nat) (hs : Kept b n s) : Kept b n (State.preMemRead s o x3).2 := by
  unfold State.preMemRead
  repeat' first
    | with_reducible assumption | with_reducible apply keptOut_next | with_reducible apply keptOut_refused
    | with_reducible apply keptOpt_some | with_reducible apply keptOpt_none | with_reducible apply keptOptOut_some
    | with_reducible apply keptOptOut_none | with_reducible apply kept_ite | with_reducible apply keptOut_ite
    | with_reducible apply keptOpt_ite | with_reducible apply keptOptOut_ite | with_reducible apply kept_ite_fst
    | with_reducible apply kept_ite_snd | with_reducible apply State.draw_kept | with_reducible apply kept_forL
    | with_reducible apply kept_forN | with_reducible apply kept_foldl | with_reducible apply kept_forN_fst
    | with_reducible apply kept_forL_fst | with_reducible apply kept_foldl_fst | with_reducible apply kept_foldl_snd
    | (intro a x; intro (hk : Kept b n x.1))

theorem State.preMemAccess_kept (s : State) (who : Init) (a : Nat) (o : Nat) (x5 : Nat) (op : BusOp) (hs : Kept b n s) : Kept b n (State.preMemAccess s who a o x5 op) := by
  unfold State.preMemAccess
  repeat' first
    | with_reducible assumption | with_reducible apply keptOut_next | with_reducible apply keptOut_refused
    | with_reducible apply keptOpt_some | with_reducible apply keptOpt_none | with_reducible apply keptOptOut_some
    | with_reducible apply keptOptOut_none | with_reducible apply kept_ite | with_reducible apply keptOut_ite
    | with_reducible apply keptOpt_ite | with_reducible apply keptOptOut_ite | with_reducible apply kept_ite_fst
    | with_reducible apply kept_ite_snd | with_reducible apply State.busFault_kept
    | with_reducible apply State.preMemRead_kept | with_reducible apply State.after_kept
    | with_reducible apply execPreMemoryWrite_kept | with_reducible apply kept_forL | with_reducible apply kept_forN
    | with_reducible apply kept_foldl | with_reducible apply kept_forN_fst | with_reducible apply kept_forL_fst
    | with_reducible apply kept_foldl_fst | with_reducible apply kept_foldl_snd
    | (intro a x; intro (hk : Kept b n x.1)) | (unfold Kept; dsimp only; with_reducible apply kept_upd) | split

theorem State.upset2_kept (s : State) (o : Nat) (ecc : BitVec 16) (hs : Kept b n s) : Kept b n (State.upset2 s o ecc) := by
  unfold State.upset2
  repeat' first
    | with_reducible assumption | with_reducible apply State.upset_kept | with_reducible apply kept_forN_fst
    | with_reducible apply kept_forL_fst | (intro a x; intro (hk : Kept b n x.1))

theorem State.ringAccess_kept (s : State) (who : Init) (a : Nat) (o : Nat) (x5 : Nat) (op : BusOp) (ecc : BitVec 16) (hs : Kept b n s) : Kept b n (State.ringAccess s who a o x5 op ecc) := by
  unfold State.ringAccess
  repeat' first
    | with_reducible assumption | with_reducible apply keptOut_next | with_reducible apply keptOut_refused
    | with_reducible apply keptOpt_some | with_reducible apply keptOpt_none | with_reducible apply keptOptOut_some
    | with_reducible apply keptOptOut_none | with_reducible apply kept_ite | with_reducible apply keptOut_ite
    | with_reducible apply keptOpt_ite | with_reducible apply keptOptOut_ite | with_reducible apply kept_ite_fst
    | with_reducible apply kept_ite_snd | with_reducible apply State.busFault_kept
    | with_reducible apply State.dramRead_kept | with_reducible apply State.upset2_kept
    | with_reducible apply State.poisonUse_kept | with_reducible apply State.except_kept
    | with_reducible apply kept_forL | with_reducible apply kept_forN | with_reducible apply kept_foldl
    | with_reducible apply kept_forN_fst | with_reducible apply kept_forL_fst | with_reducible apply kept_foldl_fst
    | with_reducible apply kept_foldl_snd | (intro a x; intro (hk : Kept b n x.1))
    | (unfold Kept; dsimp only; with_reducible apply kept_upd) | split

theorem State.reserve_kept (s : State) (who : Init) (a : Nat) (x4 : Nat) (hs : Kept b n s) : Kept b n (State.reserve s who a x4) := by
  unfold State.reserve
  repeat' first
    | with_reducible assumption | with_reducible apply keptOut_next | with_reducible apply keptOut_refused
    | with_reducible apply keptOpt_some | with_reducible apply keptOpt_none | with_reducible apply keptOptOut_some
    | with_reducible apply keptOptOut_none | with_reducible apply kept_ite | with_reducible apply keptOut_ite
    | with_reducible apply keptOpt_ite | with_reducible apply keptOptOut_ite | with_reducible apply kept_ite_fst
    | with_reducible apply kept_ite_snd | with_reducible apply kept_forL | with_reducible apply kept_forN
    | with_reducible apply kept_foldl | with_reducible apply kept_forN_fst | with_reducible apply kept_forL_fst
    | with_reducible apply kept_foldl_fst | with_reducible apply kept_foldl_snd
    | (intro a x; intro (hk : Kept b n x.1)) | (unfold Kept; dsimp only; with_reducible apply kept_upd)

theorem State.scWins_kept (s : State) (who : Init) (a : Nat) (x4 : Nat) (hs : Kept b n s) : Kept b n (State.scWins s who a x4).2 := by
  unfold State.scWins
  repeat' first
    | with_reducible assumption | with_reducible apply keptOut_next | with_reducible apply keptOut_refused
    | with_reducible apply keptOpt_some | with_reducible apply keptOpt_none | with_reducible apply keptOptOut_some
    | with_reducible apply keptOptOut_none | with_reducible apply kept_ite | with_reducible apply keptOut_ite
    | with_reducible apply keptOpt_ite | with_reducible apply keptOptOut_ite | with_reducible apply kept_ite_fst
    | with_reducible apply kept_ite_snd | with_reducible apply State.draw_kept | with_reducible apply kept_forL
    | with_reducible apply kept_forN | with_reducible apply kept_foldl | with_reducible apply kept_forN_fst
    | with_reducible apply kept_forL_fst | with_reducible apply kept_foldl_fst | with_reducible apply kept_foldl_snd
    | (intro a x; intro (hk : Kept b n x.1)) | (unfold Kept; dsimp only; with_reducible apply kept_upd)

theorem State.memOp_kept (s : State) (who : Init) (a : Nat) (x4 : Nat) (op : BusOp) (old : Nat) (put : State → Nat → State) (hs : Kept b n s) (hput : ∀ (y0 : State) (y1 : Nat), Kept b n y0 → Kept b n (put y0 y1)) : Kept b n (State.memOp s who a x4 op old put) := by
  have hk : ∀ t, Kept b n t → Kept b n (match tabFind s.mem.resv (initCode who) with
      | some r => { t with mem := { t.mem with resv := tabIns t.mem.resv (initCode who) r } }
      | none => t) := by
    intro t h
    split
    · exact kept_of_same h rfl rfl rfl rfl rfl
    · exact h
  unfold State.memOp
  cases op
  case load => exact kept_of_same hs rfl rfl rfl rfl rfl
  case fetch => exact kept_of_same hs rfl rfl rfl rfl rfl
  case ahead => exact hs
  case store v => exact kept_of_same (hk _ (hput _ _ hs)) rfl rfl rfl rfl rfl
  case amo o v => exact kept_of_same (hk _ (hput _ _ hs)) rfl rfl rfl rfl rfl
  case lr => exact kept_of_same (State.reserve_kept s who a x4 hs) rfl rfl rfl rfl rfl
  case sc v =>
    have h := State.scWins_kept s who a x4 hs
    dsimp only
    split
    · exact kept_of_same (hput _ _ h) rfl rfl rfl rfl rfl
    · exact kept_of_same h rfl rfl rfl rfl rfl

theorem State.sramWrite_kept (s : State) (dsec : Bool) (lane : Nat) (o : Nat) (bs : List Nat) (hs : Kept b n s) : Kept b n (State.sramWrite s dsec lane o bs) := by
  unfold State.sramWrite
  repeat' first
    | with_reducible assumption | with_reducible apply keptOut_next | with_reducible apply keptOut_refused
    | with_reducible apply keptOpt_some | with_reducible apply keptOpt_none | with_reducible apply keptOptOut_some
    | with_reducible apply keptOptOut_none | with_reducible apply kept_ite | with_reducible apply keptOut_ite
    | with_reducible apply keptOpt_ite | with_reducible apply keptOptOut_ite | with_reducible apply kept_ite_fst
    | with_reducible apply kept_ite_snd | with_reducible apply kept_forL | with_reducible apply kept_forN
    | with_reducible apply kept_foldl | with_reducible apply kept_forN_fst | with_reducible apply kept_forL_fst
    | with_reducible apply kept_foldl_fst | with_reducible apply kept_foldl_snd | (intro x; intro (hk : Kept b n x))
    | (intro a x; intro (hk : Kept b n x)) | (intro a x; intro (hk : Kept b n x.1))
    | (intro x a; intro (hk : Kept b n x)) | lift_lets | (intro x; refine have hx : Kept b n x := ?_; ?_; unfold x)
    | intro x | grind [Kept, regsOk_set, memOk_put, memOk_filter, regsOk_filter, memOk_nil]

theorem State.sramAccess_kept (s : State) (who : Init) (a : Nat) (o : Nat) (x5 : Nat) (op : BusOp) (hs : Kept b n s) : Kept b n (State.sramAccess s who a o x5 op) := by
  unfold State.sramAccess
  repeat' first
    | with_reducible assumption | with_reducible apply State.busFault_kept | with_reducible apply State.memOp_kept
    | with_reducible apply State.sramWrite_kept | with_reducible apply kept_forL | with_reducible apply kept_forN_fst
    | with_reducible apply kept_forL_fst | (intro a x; intro (hk : Kept b n x.1)) | lift_lets | intro x | split

theorem State.poisonHit_kept (s : State) (who : Init) (x3 : Nat) (w : Nat) (x : Nat) (store : Bool) (hs : Kept b n s) : Kept b n (State.poisonHit s who x3 w x store) := by
  unfold State.poisonHit
  repeat' first
    | with_reducible assumption | with_reducible apply keptOut_next | with_reducible apply keptOut_refused
    | with_reducible apply keptOpt_some | with_reducible apply keptOpt_none | with_reducible apply keptOptOut_some
    | with_reducible apply keptOptOut_none | with_reducible apply kept_ite | with_reducible apply keptOut_ite
    | with_reducible apply keptOpt_ite | with_reducible apply keptOptOut_ite | with_reducible apply kept_ite_fst
    | with_reducible apply kept_ite_snd | with_reducible apply State.poisonUse_kept
    | with_reducible apply State.revert_kept | with_reducible apply State.cycEnd_kept
    | with_reducible apply State.gapBack_kept | with_reducible apply State.cycHalt_kept
    | with_reducible apply State.except_kept | with_reducible apply kept_forL | with_reducible apply kept_forN
    | with_reducible apply kept_foldl | with_reducible apply kept_forN_fst | with_reducible apply kept_forL_fst
    | with_reducible apply kept_foldl_fst | with_reducible apply kept_foldl_snd
    | (intro a x; intro (hk : Kept b n x.1)) | (unfold Kept; dsimp only; with_reducible apply kept_upd)

theorem State.dramAccess_kept (s : State) (who : Init) (a : Nat) (o : Nat) (x5 : Nat) (op : BusOp) (ecc : BitVec 16) (hs : Kept b n s) : Kept b n (State.dramAccess s who a o x5 op ecc) := by
  unfold State.dramAccess
  extract_lets part meet whole x z
  have hm : ∀ u, Kept b n u → Kept b n (meet u) := fun u h => State.dramRead_kept _ _ _ _ _ _ _ _ h
  clear_value meet
  split
  · exact kept_ite (kept_ite (hm _ (State.upset2_kept _ _ _ hs)) hs) (State.busFault_kept _ _ _ hs)
  · have hx : Kept b n x := kept_ite hs (hm _ (kept_ite hs (State.upset2_kept _ _ _ hs)))
    have hz : Kept b n z := State.memOp_kept _ _ _ _ _ _ _ hx (fun _ _ h => State.dramPut_kept _ _ _ h)
    clear_value x z
    split
    · exact kept_ite (kept_of_same hx rfl rfl rfl rfl rfl) (State.poisonHit_kept _ _ _ _ _ _ hx)
    · exact kept_ite (State.upset2_kept _ _ _ hz) hz

theorem State.busIssue_kept (s : State) (who : Init) (a : Nat) (x4 : Nat) (op : BusOp) (ecc : BitVec 16) (ext : BitVec 48) (hs : Kept b n s) : Kept b n (State.busIssue s who a x4 op ecc ext) := by
  unfold State.busIssue
  repeat' first
    | with_reducible assumption | with_reducible apply keptOut_next | with_reducible apply keptOut_refused
    | with_reducible apply keptOpt_some | with_reducible apply keptOpt_none | with_reducible apply keptOptOut_some
    | with_reducible apply keptOptOut_none | with_reducible apply kept_ite | with_reducible apply keptOut_ite
    | with_reducible apply keptOpt_ite | with_reducible apply keptOptOut_ite | with_reducible apply kept_ite_fst
    | with_reducible apply kept_ite_snd | with_reducible apply State.romAccess_kept
    | with_reducible apply State.regAccess_kept | with_reducible apply State.canMem_kept
    | with_reducible apply State.preMemAccess_kept | with_reducible apply State.ringAccess_kept
    | with_reducible apply State.hrbAccess_kept | with_reducible apply State.sramAccess_kept
    | with_reducible apply State.dramAccess_kept | with_reducible apply State.busFault_kept
    | with_reducible apply kept_forL | with_reducible apply kept_forN | with_reducible apply kept_foldl
    | with_reducible apply kept_forN_fst | with_reducible apply kept_forL_fst | with_reducible apply kept_foldl_fst
    | with_reducible apply kept_foldl_snd | (intro a x; intro (hk : Kept b n x.1)) | split

theorem State.busAccess_kept (s : State) (who : Init) (a : Nat) (x4 : Nat) (op : BusOp) (ecc : BitVec 16) (v : TriVote) (ext : BitVec 48) (hs : Kept b n s) : Kept b n (State.busAccess s who a x4 op ecc v ext) := by
  unfold State.busAccess
  repeat' first
    | with_reducible assumption | with_reducible apply State.busIssue_kept | with_reducible apply State.except_kept
    | with_reducible apply State.voteBy_kept | with_reducible apply kept_forN_fst | with_reducible apply kept_forL_fst
    | (intro a x; intro (hk : Kept b n x.1)) | lift_lets | intro x
    | (unfold Kept; dsimp only; with_reducible apply kept_upd) | split

theorem execLaneMemoryAccess_kept (dt : Nat) (who : Init) (a : BitVec 40) (w : Fin 4) (op : BusOp) (ecc : BitVec 16) (v : TriVote) (ext : BitVec 48) (s : State) (hs : Kept b n s) : KeptOut b n (execLaneMemoryAccess dt who a w op ecc v ext s) := by
  unfold execLaneMemoryAccess
  repeat' first
    | with_reducible assumption | with_reducible apply keptOut_next | with_reducible apply keptOut_refused
    | with_reducible apply keptOpt_some | with_reducible apply keptOpt_none | with_reducible apply keptOptOut_some
    | with_reducible apply keptOptOut_none | with_reducible apply kept_ite | with_reducible apply keptOut_ite
    | with_reducible apply keptOpt_ite | with_reducible apply keptOptOut_ite | with_reducible apply kept_ite_fst
    | with_reducible apply kept_ite_snd | with_reducible apply onMain_kept | with_reducible apply State.busAccess_kept
    | with_reducible apply kept_forL | with_reducible apply kept_forN | with_reducible apply kept_foldl
    | with_reducible apply kept_forN_fst | with_reducible apply kept_forL_fst | with_reducible apply kept_foldl_fst
    | with_reducible apply kept_foldl_snd | (intro x; intro (hk : Kept b n x)) | (intro a x; intro (hk : Kept b n x))
    | (intro a x; intro (hk : Kept b n x.1))

end Sys2Proof.Machine
end

