-- ==== Sys2Proof/Laws/Tables.lean ====
section
/-! SUPPORT. Reading a table or a byte memory after a write, whatever the table. -/
namespace Sys2Proof.Machine
variable {α : Type}

theorem tabFind_del (t : Tab α) (k j : Nat) : tabFind (tabDel t k) j = if j = k then none else tabFind t j := by
  induction t with
  | nil => simp [tabDel, tabFind]
  | cons a t ih =>
    obtain ⟨a, v⟩ := a
    by_cases h : a = k <;> by_cases h2 : a = j <;> simp_all [tabDel, tabFind]

theorem tabFind_ins (t : Tab α) (k j : Nat) (v : α) (h : tabFind t k = none) :
    tabFind (tabIns t k v) j = if j = k then some v else tabFind t j := by
  induction t with
  | nil => simp [tabIns, tabFind, eq_comm]
  | cons a t ih =>
    obtain ⟨a, w⟩ := a
    simp only [tabFind] at h
    by_cases h1 : a = k
    · simp [h1] at h
    · simp only [h1, if_false] at h
      by_cases h2 : k < a
      · simp [tabIns, h2, tabFind, eq_comm]
      · by_cases h3 : a = j
        · subst h3
          simp [tabIns, h2, tabFind, h1]
        · simp [tabIns, h2, tabFind, h3, ih h]

/-- A table reads what was written at the key, and as before at every other key. -/
theorem tabGet_set [DecidableEq α] (d d' : α) (t : Tab α) (k j : Nat) (v : α) (hd : j = k → d' = d) :
    tabGet d' (tabSet d t k v) j = if j = k then v else tabGet d' t j := by
  unfold tabGet tabSet
  split
  · rw [tabFind_del]
    split <;> simp_all
  · rw [tabFind_ins _ _ _ _ (by simp [tabFind_del]), tabFind_del]
    split <;> simp_all

theorem memGet_set (m : Tab Byte) (a x : Nat) (b : Byte) : memGet (memSet m a b) x = if x = a then b else memGet m x :=
  tabGet_set 0 0 m a x b fun _ => rfl

theorem tabFind_filter (t : Tab α) (q : Nat → Bool) (j : Nat) :
    tabFind (t.filter fun e => q e.1) j = if q j then tabFind t j else none := by
  induction t with
  | nil => simp [tabFind]
  | cons a t ih =>
    obtain ⟨a, v⟩ := a
    by_cases h : q a <;> by_cases h2 : a = j <;> simp_all [tabFind, List.filter]

end Sys2Proof.Machine
end

