-- ==== Sys2Proof/Tests/Slice0.lean ====
section
/-! SUPPORT. Tests: for each statement's hypotheses a concrete state that meets them, ill-formed commands that the checks of
`Instr.wf` refuse, and small runs.  The witnesses of seven clauses rest on premises about `Config` functions, which have no
value to evaluate: each such theorem names its premise. -/
set_option Elab.async false

namespace Sys2Proof.Tests
open Sys2Proof Sys2Proof.Machine

/-- The block at work, 10 s after power: partition 0 runs on triad 0, partition 1 on the split lanes of triad 1, and HOSTLINK is up. -/
def base : State :=
  let s : State := { State.reset with
    ticks := 1000000000000, mtime := 40000000000000 * 2 ^ 48, sys := { on := true }, rdn := { gates := true }, host := { up := true, cfg := { bars := true, msix := true } } }
  let s := s.wr (R.TEN_PCOMP 0) 0x80000001
  let s := s.wr (R.TEN_PCOMP 1) 0x80000C00
  let s := s.wr R.TEN_HOSTCFG 1
  let s := s.wr (R.TRI_STAT 0) 2
  let s := s.wr (R.TRI_LANESTAT 0) 0x111
  let s := s.wr (R.TRI_LANESTAT 1) 0x66
  let s := (((s.wr (R.MEM_WSIZE 0) 256).wr (R.MEM_WATTR 0) 0x2002).putBit (R.MEM_WATTR 0) 31 true).wr (R.MEM_WGRANT 0) 0x80
  s.wr R.TEN_PSTATE (psRunning + psRunning * 16)

/-- Command `c` meets the hypothesis `h` of a clause at a concrete state. -/
abbrev Met (c : Nat → Instr) (w : State) (h : State → Prop) : Prop := (c 0).wf = true ∧ h (w.elapse 0)
/-- The frame with the tag that the key `[1]` gives it under the nonce `[7]`. -/
def tagged (cmd : Nat) (f : MgtFrame) : MgtFrame :=
  { f with tag := (base.mgtTag [1] [7] cmd f).map (BitVec.ofNat 8) }

theorem bytesOf_lt (k n : Nat) : ∀ x ∈ bytesOf k n, x < 256 := by
  induction k generalizing n with
  | zero => simp [bytesOf]
  | succ k ih =>
    intro x hx
    simp only [bytesOf, List.mem_cons] at hx
    rcases hx with rfl | hx
    · exact Nat.mod_lt _ (by decide)
    · exact ih _ _ hx

theorem mgtTag_bytes (s : State) (key nonce : List Nat) (cmd : Nat) (f : MgtFrame) :
    ((s.mgtTag key nonce cmd f).map (BitVec.ofNat 8)).map BitVec.toNat = s.mgtTag key nonce cmd f := by
  rw [List.map_map]
  refine (List.map_congr_left fun x hx => ?_).trans (List.map_id _)
  have : x < 256 := bytesOf_lt _ _ x (by simpa using List.mem_of_mem_take hx)
  simp [Nat.mod_eq_of_lt this]

/-- A frame that carries its right tag is authentic where the key, the nonce and the address are those of `tagged`. -/
theorem authentic_tagged (cmd : Nat) (f : MgtFrame) (u : State)
    (h : Heard u ∧ u.mgt.lockTick.any (fun t => !u.secSince t 60) = false ∧ nb (u.heard.mgtMask (mgtNum f 0 1)) cmd = true ∧
      (cmd = 0x16 ∨ cmd = 0x17 → u.heard.closed = false ∧ mgtNum f 0 1 = 0) ∧ u.heard.mgt.nonce = some ([7], u.ticks) ∧
      u.heard.secSince u.ticks 10 = false ∧ mgtNum f 0 1 < 4 ∧ u.heard.mgtKey (mgtNum f 0 1) = [1] ∧
      u.heard.fld R.MGT_MGTADDR 7 0 = base.fld R.MGT_MGTADDR 7 0 ∧ f.auth = true) :
    Authentic cmd (tagged cmd f) u := by
  obtain ⟨h1, h2, h3, h4, h5, h6, h7, h8, h9, h10⟩ := h
  have e : u.heard.mgtTag [1] [7] cmd (tagged cmd f) = base.mgtTag [1] [7] cmd f := by
    simp only [State.mgtTag, h9, tagged, mgtBytes]
  refine ⟨h1, h2, ?_, h3, h4⟩
  show u.heard.mgtTagOk cmd (mgtNum f 0 1) (tagged cmd f) = true
  unfold State.mgtTagOk
  rw [h5]
  simp only [h6, h8, e]
  have t := mgtTag_bytes base [1] [7] cmd f
  rw [List.map_map] at t
  simp [tagged, h10, h7, t]

theorem pmcAdvance_of_zero (h : ∀ n, Config.freeWord n = 0) (s : State) (t : Nat) :
    s.pmcAdvance t = forN 8 (fun k s =>
      if s.pmcRuns t k then { s with free := s.free + 1 }.wr64 (R.PMC_CNT t k) (s.rd64 (R.PMC_CNT t k)) else s) s := by
  unfold State.pmcAdvance State.draw
  simp [h, State.rd64]

theorem grpCrcOk_of (h : crc32c (memBytes [] 0x10000 0x4000) = 2489584517) {s : State} (hm : s.pre.mem = [])
    (hr : s.rd (R.PRE_GRPCRC 0) = 2489584517) : s.grpCrcOk 0 = true := by
  simp only [State.grpCrcOk, hm, hr, Nat.mul_zero, Nat.add_zero, h]
  rfl

set_option exponentiation.threshold 400 in
/-- An image passes the checks of R562 where its digests are 0, as `h` lets them be, and its signature passes. -/
theorem imageReason_of (h : ∀ b, Config.sha384 b = 0) (g : ∀ a b c, Config.ecdsaOk a b c = true) {s : State} {b : List Nat}
    (hc : ¬(b.length < 512 ∨ hdr b 0 4 ≠ 0x4D49515A ∨ hdr b 4 4 ≠ 1 ∨ !within 1 4 (hdr b 8 1) ∨ !reservedZero b ∨ !headerOk b) ∧
      ¬(3 < hdr b 0x00B 1 ∨ s.bit R.SYS_FUSESTAT (4 + hdr b 0x00B 1) ∨
        bytesOf 48 0 ≠ (List.range 12).flatMap (fun j => bytesOf 4 (s.rd (R.SYS_KEYHASH (hdr b 0x00B 1) j)))) ∧
      ¬(!nb (hdr b 0x00C 4) (if s.hasTriad 2 then 0 else 1) ∨ s.fld R.SYS_STEPPING 7 0 < nf (hdr b 0x00C 4) 15 8) ∧
      ¬(hdr b 0x018 4 < s.rd R.SYS_MINSVN) ∧
      ¬(hdr b 0x01C 4 ≠ (b.drop 512).length ∨ kindLimit (hdr b 8 1) < (b.drop 512).length) ∧
      bytesOf 48 0 = (b.drop 0x030).take 48) : s.imageReason b true = 0 := by
  obtain ⟨h1, h2, h4, h5, h7, h6⟩ := hc
  unfold State.imageReason
  simp only [h, g]
  rw [if_neg h1, if_neg (by simpa using h2), if_neg (by decide), if_neg h4, if_neg h5, if_neg h7, if_neg (by simp [h6])]

theorem rd_wr_of_ne (s : State) {x y : Nat} (v : Nat) (h : y ≠ x) : (s.wr x v).rd y = s.rd y := by
  simp only [State.rd, State.wr, State.regGet, State.regSet]
  rw [tabGet_set _ _ _ _ _ _ (fun e => absurd e h), if_neg h]

theorem fuseCheck_rd (s : State) {y : Nat}
    (h : y ≠ R.SYS_FUSESTAT ∧ y ≠ hEvraw 0x002 ∧ y ≠ R.PAD_STAT ∧ y ≠ hErrcode 0x066 ∧ y ≠ hErraddr 0x066 ∧ y ≠ hEvraw 0x066) :
    (s.fuseCheck false []).rd y = s.rd y ∧ (s.fuseCheck false []).sys = s.sys := by
  obtain ⟨h1, h2, h3, h4, h5, h6⟩ := h
  simp only [State.fuseCheck, Bool.false_eq_true, if_false]
  generalize hf : forL ([].zip (List.range 386)) _ s = t
  replace hf : s = t := hf
  subst hf
  by_cases hc : s.calOk = true
  · rw [if_pos hc]
    exact ⟨by simp only [State.putBit, rd_wr_of_ne _ _ h1, rd_wr_of_ne _ _ h3], rfl⟩
  · rw [if_neg hc]
    exact ⟨by simp only [State.putBit, State.raise, State.err, rd_wr_of_ne _ _ h1, rd_wr_of_ne _ _ h2, rd_wr_of_ne _ _ h3,
      rd_wr_of_ne _ _ h4, rd_wr_of_ne _ _ h5, rd_wr_of_ne _ _ h6], rfl⟩

/-- The start passes its first steps where self-test, fuses and straps are good, whether the calibration data verify or not. -/
theorem fuse_passes (t : State) (b : Boot) (hb : b.rom = true ∧ nf b.straps.toNat 3 1 = 0 ∧ b.fuse = false ∧ b.cal = [])
    (h : t.stage = 0 ∧ t.sys.kind ≠ rkRecovery) :
    (let s := t.fuseCheck b.fuse b.cal
     if s.stage = 6 then s
     else if !b.rom then s.recovery rsTriad 0
     else if s.sys.kind = rkRecovery then s.recovery rsMgtcmd 0
     else if nf b.straps.toNat 3 1 ≠ 0 then s.recovery rsStrap 0
     else s).stage = 0 := by
  obtain ⟨b1, b2, b3, b4⟩ := hb
  have h1 := fuseCheck_rd t (y := R.SYS_BOOTSTAT) (by decide)
  have h2 : (t.fuseCheck false []).stage = t.stage := by
    unfold State.stage State.fld
    rw [h1.1]
  simp only [b1, b2, b3, b4, h1.2, h2, h.1, if_neg h.2, show ((0 : Nat) = 6) = False by decide, if_false, Bool.not_true,
    Bool.false_eq_true, ne_eq, not_true]

/-- A failed half of a self-test leaves a module that is not paired so. -/
theorem selftest_cicada (u : State) (h1 : u.paired = false) : (u.selftest 0 false true).cicada = false := by
  have : (u.selftest 0 false true).rd R.RDN_RDNCFG = u.rd R.RDN_RDNCFG := by
    have e1 : ∀ (s : State) (t : Nat) (x : TriT) (y : Nat), (s.setTriT t x).rd y = s.rd y := fun _ _ _ _ => rfl
    have e2 : ∀ (s : State) (w y : Nat), (s.draw w).2.rd y = s.rd y := fun _ _ _ => rfl
    simp (disch := decide) only [State.selftest, State.verdict, State.replicaErr, State.errOpen, State.errAt, State.raise,
      State.putBit, State.wr64, rd_wr_of_ne, e1, e2, Bool.false_and, Bool.false_eq_true, if_false, if_true,
      show ¬(3 < 3) by decide, vkSelftest, vkAudit]
  unfold State.cicada State.paired State.bit at *
  rw [this, h1]
  rfl

/-- The state before the fuses are read at a start. -/
def preFuse (s : State) (b : Boot) : State :=
  let t := s.ticks
  let s : State := { s with
    sys := { s.sys with on := true, sleep := false, wake := false, canWake := [], t0 := t }
    mem := { s.mem with ceStart := t, tempTick := t, passStart := t }
    life := { s.life with saveTick := t, secTick := t, discTick := t } }
  let s : State := ((s.wr R.SYS_RSTKIND s.sys.kind).putBit R.PWR_STAT 0 true).putBit R.MGT_STAT 0 true
  let start := ((s.lifeTable b.life.val).map (·.startCnt)).getD 0 + 1
  let s : State := ((s.timeStart.wr R.LIFE_STARTCNT (min start 0xFFFFFFFF)).setPstate 7 psRunning).evrStart b.evrBad
  ((s.heldRecord.drcBoot).wr R.SYS_STRAPS b.straps.toNat).putBit R.RDN_STAT 7 (nb b.straps.toNat 0)

/-- A start that finds nothing special. -/
def plainBoot : Boot :=
  ⟨0, 0, true, 0, false, [], true, true, true, .done 0 false, true, true, [], 0, 0, ⟨[], [], [], [], List.replicate 6 []⟩⟩

theorem bootRom_stage (u : State) (b : Boot) (hb : b.rom = true ∧ nf b.straps.toNat 3 1 = 0 ∧ b.fuse = false ∧ b.cal = [])
    (h : (preFuse u b).stage = 0 ∧ (preFuse u b).sys.kind ≠ rkRecovery) : (u.bootRom b).stage = 0 :=
  fuse_passes (preFuse u b) b hb h
theorem test_hyp_PageHeaderCommandsComplete :
    (Met (fun dt => .registerWrite dt (.boot : Init) (0 : Fin 512) (0 : Fin 1024) (0 : Word)) base
      (fun u => Writes (.boot : Init) 0 (4 * 0) u ∧ isWide (reg 0 (4 * 0)) = false) ∧
    Met (fun dt => .errclrWrite dt (.boot : Init) (0 : Fin 512) (0 : Word)) base
      (fun u => Writes (.boot : Init) 0 0xFFC u ∧ u.allocated 0 = true) ∧
    Met (fun dt => .evackWrite dt (.boot : Init) (0 : Fin 512) (0 : Word) (0 : Word)) base
      (fun u => Writes (.boot : Init) 0 0x024 u ∧ u.allocated 0 = true) ∧
    Met (fun dt => .lockWrite dt (.boot : Init) (0x050 : Fin 512) (BitVec.ofNat 32 (1 + crc16 (base.lockBytes 0x050) * 65536) : Word)) (let s := base; let s := s.putBit (hLock 0x050) 0 false; s)
      (fun u => Writes (.boot : Init) 0x050 0x00C u ∧ u.allocated 0x050 = true ∧ nb (BitVec.ofNat 32 (1 + crc16 (base.lockBytes 0x050) * 65536) : Word).toNat 0 = true ∧ u.bit (hLock 0x050) 0 = false ∧ crc16 (u.lockBytes 0x050) = nf (BitVec.ofNat 32 (1 + crc16 (base.lockBytes 0x050) * 65536) : Word).toNat 31 16)) ∧
    (Met (fun dt => .lockWrite dt (.boot : Init) (0 : Fin 512) (0x1 : Word)) (let s := base; let s := s.putBit (hLock 0) 0 false; s)
      (fun u => Writes (.boot : Init) 0 0x00C u ∧ u.allocated 0 = true ∧ nb (0x1 : Word).toNat 0 = true ∧ u.bit (hLock 0) 0 = false ∧ crc16 (u.lockBytes 0) ≠ nf (0x1 : Word).toNat 31 16) ∧
    Met (fun dt => .cmtGo dt (.boot : Init) (0 : Fin 512) (0x100 : Word)) base
      (fun u => Writes (.boot : Init) 0 0x030 u ∧ u.allocated 0 = true ∧ nb (0x100 : Word).toNat 8 = true ∧ nb (0x100 : Word).toNat 9 = false ∧ u.isPending 0 = false ∧ u.goRange 0 (nf (0x100 : Word).toNat 1 0) = false) ∧
    Met (fun dt => .cmtGo dt (.boot : Init) (0 : Fin 512) (0x100 : Word)) (let s := base; let s := s.putFld (hCmtstat 0) 1 0 (1); s)
      (fun u => Writes (.boot : Init) 0 0x030 u ∧ u.allocated 0 = true ∧ nb (0x100 : Word).toNat 8 = true ∧ nb (0x100 : Word).toNat 9 = false ∧ u.isPending 0 = true) ∧
    Met (fun dt => .cmtAbort dt (.boot : Init) (0 : Fin 512) (0x200 : Word)) (let s := base; let s := s.putFld (hCmtstat 0) 1 0 (1); s)
      (fun u => Writes (.boot : Init) 0 0x030 u ∧ u.allocated 0 = true ∧ u.isPending 0 = true ∧ (0x200 : Word).toNat = 0x200)) ∧
    (Met (fun dt => .cmtAbort dt (.boot : Init) (0 : Fin 512) (0x200 : Word)) base
      (fun u => Writes (.boot : Init) 0 0x030 u ∧ u.allocated 0 = true ∧ u.isPending 0 = false ∧ nb (0x200 : Word).toNat 9 = true) ∧
    Met (fun dt => .wideLoWrite dt (.boot : Init) (0x041 : Fin 512) (0x23 : Fin 1024) (0 : Word)) base
      (fun u => Writes (.boot : Init) 0x041 (4 * 0x23) u ∧ u.allocated 0x041 = true ∧ isLo (reg 0x041 (4 * 0x23)) = true ∧ (rowOf (reg 0x041 (4 * 0x23))).isSome = true) ∧
    Met (fun dt => .wideHiWrite dt (.boot : Init) (0x041 : Fin 512) (0x24 : Fin 1024) (0 : Word)) base
      (fun u => Writes (.boot : Init) 0x041 (4 * 0x24) u ∧ u.allocated 0x041 = true ∧ ((rowOf (reg 0x041 0x090)).get (by decide)).isHi (4 * 0x24) = true ∧ (tabGet (0, 0) u.ten.wideWr (wideKey (.boot : Init) 0x041)).1 ≠ reg 0x041 (4 * 0x24) - 4 + 1 ∧ (rowOf (reg 0x041 (4 * 0x24))).isSome = true ∧ ((rowOf (reg 0x041 0x090)).get (by decide)).acc = .rw) ∧
    Met (fun dt => .wideHiWrite dt (.boot : Init) (0x041 : Fin 512) (0x24 : Fin 1024) (0 : Word)) (let s := base; let s := { s with ten := { s.ten with wideWr := [(wideKey .boot 0x041, (reg 0x041 0x08C + 1, 7))] } }; s)
      (fun u => Writes (.boot : Init) 0x041 (4 * 0x24) u ∧ u.allocated 0x041 = true ∧ ((rowOf (reg 0x041 0x090)).get (by decide)).isHi (4 * 0x24) = true ∧ (tabGet (0, 0) u.ten.wideWr (wideKey (.boot : Init) 0x041)).1 = reg 0x041 (4 * 0x24) - 4 + 1 ∧ (rowOf (reg 0x041 (4 * 0x24))).isSome = true ∧ ((rowOf (reg 0x041 0x090)).get (by decide)).acc = .rw)) ∧
    Met (fun dt => .wideLoRead dt (.boot : Init) (0x041 : Fin 512) (0x23 : Fin 1024)) base
      (fun u => Reads (.boot : Init) 0x041 (4 * 0x23) u ∧ isLo (reg 0x041 (4 * 0x23)) = true ∧ u.allocated 0x041 = true ∧ isHiHalf (reg 0x041 (4 * 0x23)) = false) :=
  ⟨by decide +kernel,
    by decide +kernel,
    by decide +kernel,
    by decide +kernel⟩

theorem test_hyp_OwnershipCommandsComplete :
    (Met (fun dt => .ownerWrite dt (.boot : Init) (0 : Fin 512) (0 : Word)) base
      (fun u => Writes (.boot : Init) 0 0x008 u ∧ ownerFree 0 = true ∧ u.allocated 0 = true) ∧
    Met (fun dt => .ownkWrite dt (.boot : Init) (0 : Fin 128) (0 : Word)) base
      (fun u => Ready u ∧ u.live (.boot : Init) = true ∧ u.mayTable (.boot : Init) 0 = true) ∧
    Met (fun dt => .grantkWrite dt (.boot : Init) (0 : Fin 128) (0 : Word)) base
      (fun u => Ready u ∧ u.live (.boot : Init) = true ∧ u.mayTable (.boot : Init) 0 = true) ∧
    Met (fun dt => .denypop dt (.boot : Init)) base
      (fun u => Reads (.boot : Init) 0x00B 0xC00 u)) ∧
    (Met (fun dt => .presetWrite dt (.host : Init) (0xA5C30006 : Word)) base
      (fun u => Writes (.host : Init) 0x008 0xC00 u ∧ (0xA5C30006 : Word).toNat = 0xA5C30000 + u.partNo (.host : Init) ∧ u.partNo (.host : Init) < 8 ∧ u.present (u.partNo (.host : Init)) = true) ∧
    Met (fun dt => .hostlinkDown dt) (let s := base; let s := { s with host := { s.host with up := true } }; s)
      (fun u => Ready u ∧ u.host.up = true) ∧
    Met (fun dt => .hostlinkUp dt ({} : HostCfg)) (let s := base; let s := { s with host := { s.host with perst := false } }; let s := { s with host := { s.host with up := false } }; s)
      (fun u => Ready u ∧ u.present 6 = true ∧ u.host.perst = false ∧ u.host.up = false) ∧
    Met (fun dt => .perstAssert dt) base
      (fun u => Ready u ∧ u.present 6 = true)) ∧
    (Met (fun dt => .perstRelease dt) base
      (fun u => Ready u ∧ u.present 6 = true) ∧
    Met (fun dt => .partitionReset dt (0 : Fin 8) (false : Bool) (false : Bool)) (let s := base; let s := { s with ten := { s.ten with resetReq := [(0, 5)] } }; s)
      (fun u => Ready u ∧ tabGet 0 u.ten.resetReq 0 ≠ 0 ∧ u.commitRuns 0 = false) ∧
    Met (fun dt => .partitionReset dt (0 : Fin 8) (false : Bool) (false : Bool)) (let s := base; let s := s.putFld R.TEN_PSTATE (4 * (0) + 3) (4 * (0)) (psResetting); s)
      (fun u => Ready u ∧ tabGet 0 u.ten.resetReq 0 = 0 ∧ u.pstate 0 = psResetting)) :=
  ⟨by decide +kernel,
    by decide +kernel,
    by decide +kernel⟩

theorem test_hyp_PresetOnlyByThePartitionItself :
    Met (fun dt => .mgtPreset dt (tagged 0x10 (⟨5, true, [], [0, 0]⟩ : MgtFrame))) (let s := base; let s := { s with sys := { s.sys with on := true } }; let s := s.putBit R.MGT_CTRL 0 true; let s := { s.wr R.MGT_KEYACL0 0xFFFFFFFF with mgt := { s.mgt with keys := [(0, [1])], nonce := some ([7], s.ticks) } }; s)
      (fun u => Authentic 0x10 (tagged 0x10 (⟨5, true, [], [0, 0]⟩ : MgtFrame)) u ∧ (tagged 0x10 (⟨5, true, [], [0, 0]⟩ : MgtFrame)).pay.length = 2 ∧ u.sys.on = true ∧ mgtNum (tagged 0x10 (⟨5, true, [], [0, 0]⟩ : MgtFrame)) 1 1 < 7 ∧ u.present (mgtNum (tagged 0x10 (⟨5, true, [], [0, 0]⟩ : MgtFrame)) 1 1) = true) :=
  ⟨by decide +kernel, authentic_tagged _ _ _ (by decide +kernel), by decide +kernel, by decide +kernel, by decide +kernel, by decide +kernel⟩

theorem test_hyp_OpenManagementCommandsComplete :
    (Met (fun dt => .mgtIdent dt (⟨0, false, [], []⟩ : MgtFrame)) base
      (fun u => Heard u ∧ (⟨0, false, [], []⟩ : MgtFrame).pay.length = 0) ∧
    Met (fun dt => .mgtHealth dt (⟨0, false, [], []⟩ : MgtFrame)) (let s := base; let s := { s with sys := { s.sys with on := false } }; s)
      (fun u => Heard u ∧ (⟨0, false, [], []⟩ : MgtFrame).pay.length = 0 ∧ u.sys.on = false) ∧
    Met (fun dt => .mgtHealth dt (⟨0, false, [], []⟩ : MgtFrame)) (let s := base; let s := { s with sys := { s.sys with on := true } }; s)
      (fun u => Heard u ∧ (⟨0, false, [], []⟩ : MgtFrame).pay.length = 0 ∧ u.sys.on = true) ∧
    Met (fun dt => .mgtNonce dt (⟨0, false, [], []⟩ : MgtFrame)) base
      (fun u => Heard u ∧ (⟨0, false, [], []⟩ : MgtFrame).pay.length = 0)) ∧
    (Met (fun dt => .mgtUnknownCmd dt (0 : Byte) (⟨0, false, [], []⟩ : MgtFrame)) base
      (fun u => Heard u ∧ (⟨0, false, [], []⟩ : MgtFrame).pay.length ≤ 1024 ∧ ¬ (1 ≤ (0 : Byte).toNat ∧ (0 : Byte).toNat ≤ 7) ∧ ¬ (0x10 ≤ (0 : Byte).toNat ∧ (0 : Byte).toNat ≤ 0x17)) ∧
    Met (fun dt => .mgtBadFrame dt (.crc : MgtBad)) base
      (fun u => Heard u) ∧
    Met (fun dt => .mgtReadpage dt (⟨5, false, [], [0x51, 0, 0, 0, 64]⟩ : MgtFrame)) (let s := base; let s := s.putBit R.MGT_STAT (2) false; let s := { s with sys := { s.sys with on := true } }; s)
      (fun u => Heard u ∧ (⟨5, false, [], [0x51, 0, 0, 0, 64]⟩ : MgtFrame).auth = false ∧ u.heard.closed = false ∧ (⟨5, false, [], [0x51, 0, 0, 0, 64]⟩ : MgtFrame).pay.length = 5 ∧ u.sys.on = true ∧ mgtNum (⟨5, false, [], [0x51, 0, 0, 0, 64]⟩ : MgtFrame) 0 2 < 512 ∧ mgtNum (⟨5, false, [], [0x51, 0, 0, 0, 64]⟩ : MgtFrame) 2 2 % 4 = 0 ∧ 1 ≤ mgtNum (⟨5, false, [], [0x51, 0, 0, 0, 64]⟩ : MgtFrame) 4 1 ∧ mgtNum (⟨5, false, [], [0x51, 0, 0, 0, 64]⟩ : MgtFrame) 4 1 ≤ 64 ∧ mgtNum (⟨5, false, [], [0x51, 0, 0, 0, 64]⟩ : MgtFrame) 2 2 + 4 * mgtNum (⟨5, false, [], [0x51, 0, 0, 0, 64]⟩ : MgtFrame) 4 1 ≤ 0xC00)) ∧
    Met (fun dt => .mgtReadpage dt ((tagged 0x03 (⟨5, true, [], [0, 0x51, 0, 0, 0, 64]⟩ : MgtFrame)) : MgtFrame)) (let s := base; let s := { s with sys := { s.sys with on := true } }; let s := s.putBit R.MGT_CTRL 0 true; let s := { s.wr R.MGT_KEYACL0 0xFFFFFFFF with mgt := { s.mgt with keys := [(0, [1])], nonce := some ([7], s.ticks) } }; s)
      (fun u => Authentic 0x03 ((tagged 0x03 (⟨5, true, [], [0, 0x51, 0, 0, 0, 64]⟩ : MgtFrame)) : MgtFrame) u ∧ ((tagged 0x03 (⟨5, true, [], [0, 0x51, 0, 0, 0, 64]⟩ : MgtFrame)) : MgtFrame).auth = true ∧ ((tagged 0x03 (⟨5, true, [], [0, 0x51, 0, 0, 0, 64]⟩ : MgtFrame)) : MgtFrame).pay.length = 6 ∧ u.sys.on = true ∧ mgtNum ((tagged 0x03 (⟨5, true, [], [0, 0x51, 0, 0, 0, 64]⟩ : MgtFrame)) : MgtFrame) 1 2 < 512 ∧ mgtNum ((tagged 0x03 (⟨5, true, [], [0, 0x51, 0, 0, 0, 64]⟩ : MgtFrame)) : MgtFrame) 3 2 % 4 = 0 ∧ 1 ≤ mgtNum ((tagged 0x03 (⟨5, true, [], [0, 0x51, 0, 0, 0, 64]⟩ : MgtFrame)) : MgtFrame) 5 1 ∧ mgtNum ((tagged 0x03 (⟨5, true, [], [0, 0x51, 0, 0, 0, 64]⟩ : MgtFrame)) : MgtFrame) 5 1 ≤ 64 ∧ mgtNum ((tagged 0x03 (⟨5, true, [], [0, 0x51, 0, 0, 0, 64]⟩ : MgtFrame)) : MgtFrame) 3 2 + 4 * mgtNum ((tagged 0x03 (⟨5, true, [], [0, 0x51, 0, 0, 0, 64]⟩ : MgtFrame)) : MgtFrame) 5 1 ≤ 0xC00) ∧
    Met (fun dt => .mgtReadevr dt (⟨5, false, [], [3, 0, 0, 0, 0, 0, 0, 0]⟩ : MgtFrame)) (let s := base; let s := s.putBit R.MGT_STAT (2) false; let s := { s with sys := { s.sys with on := true } }; let s := { s with evr := { s.evr with may := [{ seq := 3 }] } }; s)
      (fun u => Heard u ∧ (⟨5, false, [], [3, 0, 0, 0, 0, 0, 0, 0]⟩ : MgtFrame).auth = false ∧ u.heard.closed = false ∧ (⟨5, false, [], [3, 0, 0, 0, 0, 0, 0, 0]⟩ : MgtFrame).pay.length = 8 ∧ u.sys.on = true ∧ u.heard.findRec (mgtNum (⟨5, false, [], [3, 0, 0, 0, 0, 0, 0, 0]⟩ : MgtFrame) 0 8) = some ({ seq := 3 } : EvRec)) ∧
    Met (fun dt => .mgtReadevr dt ((tagged 0x04 (⟨5, true, [], [0, 3, 0, 0, 0, 0, 0, 0, 0]⟩ : MgtFrame)) : MgtFrame)) (let s := base; let s := { s with sys := { s.sys with on := true } }; let s := s.putBit R.MGT_CTRL 0 true; let s := { s.wr R.MGT_KEYACL0 0xFFFFFFFF with mgt := { s.mgt with keys := [(0, [1])], nonce := some ([7], s.ticks) } }; let s := { s with evr := { s.evr with may := [{ seq := 3 }] } }; s)
      (fun u => Authentic 0x04 ((tagged 0x04 (⟨5, true, [], [0, 3, 0, 0, 0, 0, 0, 0, 0]⟩ : MgtFrame)) : MgtFrame) u ∧ ((tagged 0x04 (⟨5, true, [], [0, 3, 0, 0, 0, 0, 0, 0, 0]⟩ : MgtFrame)) : MgtFrame).auth = true ∧ ((tagged 0x04 (⟨5, true, [], [0, 3, 0, 0, 0, 0, 0, 0, 0]⟩ : MgtFrame)) : MgtFrame).pay.length = 9 ∧ u.sys.on = true ∧ u.authed.findRec (mgtNum ((tagged 0x04 (⟨5, true, [], [0, 3, 0, 0, 0, 0, 0, 0, 0]⟩ : MgtFrame)) : MgtFrame) 1 8) = some ({ seq := 3 } : EvRec)) ∧
    Met (fun dt => .mgtReadlife dt (⟨5, false, [], [96, 32]⟩ : MgtFrame)) (let s := base; let s := s.putBit R.MGT_STAT (2) false; let s := { s with sys := { s.sys with on := true } }; s)
      (fun u => Heard u ∧ (⟨5, false, [], [96, 32]⟩ : MgtFrame).auth = false ∧ u.heard.closed = false ∧ (⟨5, false, [], [96, 32]⟩ : MgtFrame).pay.length = 2 ∧ u.sys.on = true ∧ 1 ≤ mgtNum (⟨5, false, [], [96, 32]⟩ : MgtFrame) 1 1 ∧ mgtNum (⟨5, false, [], [96, 32]⟩ : MgtFrame) 1 1 ≤ 32 ∧ mgtNum (⟨5, false, [], [96, 32]⟩ : MgtFrame) 0 1 + mgtNum (⟨5, false, [], [96, 32]⟩ : MgtFrame) 1 1 ≤ 128) ∧
    Met (fun dt => .mgtReadlife dt ((tagged 0x05 (⟨5, true, [], [0, 96, 32]⟩ : MgtFrame)) : MgtFrame)) (let s := base; let s := { s with sys := { s.sys with on := true } }; let s := s.putBit R.MGT_CTRL 0 true; let s := { s.wr R.MGT_KEYACL0 0xFFFFFFFF with mgt := { s.mgt with keys := [(0, [1])], nonce := some ([7], s.ticks) } }; s)
      (fun u => Authentic 0x05 ((tagged 0x05 (⟨5, true, [], [0, 96, 32]⟩ : MgtFrame)) : MgtFrame) u ∧ ((tagged 0x05 (⟨5, true, [], [0, 96, 32]⟩ : MgtFrame)) : MgtFrame).auth = true ∧ ((tagged 0x05 (⟨5, true, [], [0, 96, 32]⟩ : MgtFrame)) : MgtFrame).pay.length = 3 ∧ u.sys.on = true ∧ 1 ≤ mgtNum ((tagged 0x05 (⟨5, true, [], [0, 96, 32]⟩ : MgtFrame)) : MgtFrame) 2 1 ∧ mgtNum ((tagged 0x05 (⟨5, true, [], [0, 96, 32]⟩ : MgtFrame)) : MgtFrame) 2 1 ≤ 32 ∧ mgtNum ((tagged 0x05 (⟨5, true, [], [0, 96, 32]⟩ : MgtFrame)) : MgtFrame) 1 1 + mgtNum ((tagged 0x05 (⟨5, true, [], [0, 96, 32]⟩ : MgtFrame)) : MgtFrame) 2 1 ≤ 128) ∧
    (Met (fun dt => .authlockEnd dt) (let s := base; let s := { s with mgt := { s.mgt with lockTick := some 7 } }; s)
      (fun u => u.mgt.lockTick = some 7 ∧ u.secSince 7 60 = true) ∧
    Met (fun dt => .resetHeld dt) (let s := base; let s := { s with sys := { s.sys with standby := true } }; let s := { s with sys := { s.sys with rstin := true } }; s)
      (fun u => u.sys.standby = true ∧ u.sys.rstin = true ∧ 10 ≤ u.rstinSecs) ∧
    Met (fun dt => .mgtCntclr dt (.boot : Init) 1) (let s := base; let s := { s with sys := { s.sys with standby := true } }; s)
      (fun u => u.sys.standby = true ∧ u.live (.boot : Init) = true ∧ u.mayWrite (.boot : Init) 0x0CF 0xC00 = true)) :=
  ⟨by decide +kernel,
    by decide +kernel,
    ⟨by decide +kernel, authentic_tagged _ _ _ (by decide +kernel), by decide +kernel, by decide +kernel, by decide +kernel, by decide +kernel, by decide +kernel, by decide +kernel, by decide +kernel, by decide +kernel⟩,
    by decide +kernel,
    ⟨by decide +kernel, authentic_tagged _ _ _ (by decide +kernel), by decide +kernel, by decide +kernel, by decide +kernel, by decide +kernel⟩,
    by decide +kernel,
    ⟨by decide +kernel, authentic_tagged _ _ _ (by decide +kernel), by decide +kernel, by decide +kernel, by decide +kernel, by decide +kernel, by decide +kernel, by decide +kernel⟩,
    by decide +kernel⟩

theorem test_hyp_AuthenticatedCommandsComplete :
    Met (fun dt => .mgtReadmem dt ((tagged 0x07 (⟨5, true, [], [0, 0, 0, 0, 0, 8, 0, 0, 0, 0, 1]⟩ : MgtFrame)) : MgtFrame) (0 : Byte)) (let s := base; let s := { s with sys := { s.sys with on := true } }; let s := s.putBit R.MGT_CTRL 0 true; let s := { s.wr R.MGT_KEYACL0 0xFFFFFFFF with mgt := { s.mgt with keys := [(0, [1])], nonce := some ([7], s.ticks) } }; s)
      (fun u => Authentic 0x07 ((tagged 0x07 (⟨5, true, [], [0, 0, 0, 0, 0, 8, 0, 0, 0, 0, 1]⟩ : MgtFrame)) : MgtFrame) u ∧ ((tagged 0x07 (⟨5, true, [], [0, 0, 0, 0, 0, 8, 0, 0, 0, 0, 1]⟩ : MgtFrame)) : MgtFrame).pay.length = 11 ∧ u.sys.on = true ∧ 1 ≤ mgtNum ((tagged 0x07 (⟨5, true, [], [0, 0, 0, 0, 0, 8, 0, 0, 0, 0, 1]⟩ : MgtFrame)) : MgtFrame) 9 2 ∧ mgtNum ((tagged 0x07 (⟨5, true, [], [0, 0, 0, 0, 0, 8, 0, 0, 0, 0, 1]⟩ : MgtFrame)) : MgtFrame) 9 2 ≤ 256 ∧ dramBase ≤ mgtNum ((tagged 0x07 (⟨5, true, [], [0, 0, 0, 0, 0, 8, 0, 0, 0, 0, 1]⟩ : MgtFrame)) : MgtFrame) 1 8 ∧ u.authed.grant7 (mgtNum ((tagged 0x07 (⟨5, true, [], [0, 0, 0, 0, 0, 8, 0, 0, 0, 0, 1]⟩ : MgtFrame)) : MgtFrame) 1 8 - dramBase) (mgtNum ((tagged 0x07 (⟨5, true, [], [0, 0, 0, 0, 0, 8, 0, 0, 0, 0, 1]⟩ : MgtFrame)) : MgtFrame) 9 2) = true ∧ ((u.authed.upset ((mgtNum ((tagged 0x07 (⟨5, true, [], [0, 0, 0, 0, 0, 8, 0, 0, 0, 0, 1]⟩ : MgtFrame)) : MgtFrame) 1 8 - dramBase) / 8) (0 : Byte).toNat).dramRead (mgtNum ((tagged 0x07 (⟨5, true, [], [0, 0, 0, 0, 0, 8, 0, 0, 0, 0, 1]⟩ : MgtFrame)) : MgtFrame) 1 8 - dramBase) (mgtNum ((tagged 0x07 (⟨5, true, [], [0, 0, 0, 0, 0, 8, 0, 0, 0, 0, 1]⟩ : MgtFrame)) : MgtFrame) 9 2) 7 5 0 0x0102 0).poisoned (mgtNum ((tagged 0x07 (⟨5, true, [], [0, 0, 0, 0, 0, 8, 0, 0, 0, 0, 1]⟩ : MgtFrame)) : MgtFrame) 1 8 - dramBase) (mgtNum ((tagged 0x07 (⟨5, true, [], [0, 0, 0, 0, 0, 8, 0, 0, 0, 0, 1]⟩ : MgtFrame)) : MgtFrame) 9 2) = false) ∧
    Met (fun dt => .mgtPreset dt ((tagged 0x10 (⟨5, true, [], [0, 0]⟩ : MgtFrame)) : MgtFrame)) (let s := base; let s := { s with sys := { s.sys with on := true } }; let s := s.putBit R.MGT_CTRL 0 true; let s := { s.wr R.MGT_KEYACL0 0xFFFFFFFF with mgt := { s.mgt with keys := [(0, [1])], nonce := some ([7], s.ticks) } }; s)
      (fun u => Authentic 0x10 ((tagged 0x10 (⟨5, true, [], [0, 0]⟩ : MgtFrame)) : MgtFrame) u ∧ ((tagged 0x10 (⟨5, true, [], [0, 0]⟩ : MgtFrame)) : MgtFrame).pay.length = 2 ∧ u.sys.on = true ∧ mgtNum ((tagged 0x10 (⟨5, true, [], [0, 0]⟩ : MgtFrame)) : MgtFrame) 1 1 < 7 ∧ u.authed.present (mgtNum ((tagged 0x10 (⟨5, true, [], [0, 0]⟩ : MgtFrame)) : MgtFrame) 1 1) = true) ∧
    Met (fun dt => .mgtMreset dt ((tagged 0x11 (⟨5, true, [], [0]⟩ : MgtFrame)) : MgtFrame)) (let s := base; let s := { s with sys := { s.sys with on := true } }; let s := s.putBit R.MGT_CTRL 0 true; let s := { s.wr R.MGT_KEYACL0 0xFFFFFFFF with mgt := { s.mgt with keys := [(0, [1])], nonce := some ([7], s.ticks) } }; s)
      (fun u => Authentic 0x11 ((tagged 0x11 (⟨5, true, [], [0]⟩ : MgtFrame)) : MgtFrame) u ∧ ((tagged 0x11 (⟨5, true, [], [0]⟩ : MgtFrame)) : MgtFrame).pay.length = 1 ∧ u.sys.on = true) ∧
    Met (fun dt => .mgtRecovery dt ((tagged 0x12 (⟨5, true, [], [0]⟩ : MgtFrame)) : MgtFrame)) (let s := base; let s := { s with sys := { s.sys with on := true } }; let s := s.putBit R.MGT_CTRL 0 true; let s := { s.wr R.MGT_KEYACL0 0xFFFFFFFF with mgt := { s.mgt with keys := [(0, [1])], nonce := some ([7], s.ticks) } }; s)
      (fun u => Authentic 0x12 ((tagged 0x12 (⟨5, true, [], [0]⟩ : MgtFrame)) : MgtFrame) u ∧ ((tagged 0x12 (⟨5, true, [], [0]⟩ : MgtFrame)) : MgtFrame).pay.length = 1 ∧ u.sys.on = true) ∧
    Met (fun dt => .mgtEvrclear dt ((tagged 0x13 (⟨5, true, [], [0, 1]⟩ : MgtFrame)) : MgtFrame)) (let s := base; let s := { s with sys := { s.sys with on := true } }; let s := s.putBit R.MGT_CTRL 0 true; let s := { s.wr R.MGT_KEYACL0 0xFFFFFFFF with mgt := { s.mgt with keys := [(0, [1])], nonce := some ([7], s.ticks) } }; s)
      (fun u => Authentic 0x13 ((tagged 0x13 (⟨5, true, [], [0, 1]⟩ : MgtFrame)) : MgtFrame) u ∧ ((tagged 0x13 (⟨5, true, [], [0, 1]⟩ : MgtFrame)) : MgtFrame).pay.length = 2 ∧ u.sys.on = true ∧ mgtNum ((tagged 0x13 (⟨5, true, [], [0, 1]⟩ : MgtFrame)) : MgtFrame) 1 1 = 1) ∧
    Met (fun dt => .mgtEvrclear dt ((tagged 0x13 (⟨5, true, [], [0, 2]⟩ : MgtFrame)) : MgtFrame)) (let s := base; let s := { s with sys := { s.sys with on := true } }; let s := s.putBit R.MGT_CTRL 0 true; let s := { s.wr R.MGT_KEYACL0 0xFFFFFFFF with mgt := { s.mgt with keys := [(0, [1])], nonce := some ([7], s.ticks) } }; let s := s.putBit (hStat 0x0C8) 2 true; let s := { s with evr := { s.evr with armTick := s.ticks } }; s)
      (fun u => Authentic 0x13 ((tagged 0x13 (⟨5, true, [], [0, 2]⟩ : MgtFrame)) : MgtFrame) u ∧ ((tagged 0x13 (⟨5, true, [], [0, 2]⟩ : MgtFrame)) : MgtFrame).pay.length = 2 ∧ u.sys.on = true ∧ mgtNum ((tagged 0x13 (⟨5, true, [], [0, 2]⟩ : MgtFrame)) : MgtFrame) 1 1 = 2 ∧ u.authed.clrArmed = true) ∧
    Met (fun dt => .mgtPrimrel dt ((tagged 0x14 (⟨5, true, [], [0]⟩ : MgtFrame)) : MgtFrame)) (let s := base; let s := { s with sys := { s.sys with on := true } }; let s := s.putFld R.RDN_STAT 2 0 (prHeld); let s := { s with rdn := { s.rdn with hbSeen := true } }; let s := s.putBit R.MGT_CTRL 0 true; let s := { s.wr R.MGT_KEYACL0 0xFFFFFFFF with mgt := { s.mgt with keys := [(0, [1])], nonce := some ([7], s.ticks) } }; let s := { s with rdn := { s.rdn with word := 1 } }; s)
      (fun u => Authentic 0x14 ((tagged 0x14 (⟨5, true, [], [0]⟩ : MgtFrame)) : MgtFrame) u ∧ ((tagged 0x14 (⟨5, true, [], [0]⟩ : MgtFrame)) : MgtFrame).pay.length = 1 ∧ u.sys.on = true ∧ u.authed.prim = prHeld ∧ u.rdn.hbSeen = true ∧ nb u.rdn.word 0 = true) ∧
    Met (fun dt => .mgtWake dt ((tagged 0x15 (⟨5, true, [], [0]⟩ : MgtFrame)) : MgtFrame)) (let s := base; let s := { s with sys := { s.sys with on := false } }; let s := s.putBit R.MGT_CTRL 0 true; let s := { s.wr R.MGT_KEYACL0 0xFFFFFFFF with mgt := { s.mgt with keys := [(0, [1])], nonce := some ([7], s.ticks) } }; s)
      (fun u => Authentic 0x15 ((tagged 0x15 (⟨5, true, [], [0]⟩ : MgtFrame)) : MgtFrame) u ∧ ((tagged 0x15 (⟨5, true, [], [0]⟩ : MgtFrame)) : MgtFrame).pay.length = 1 ∧ u.sys.on = false) ∧
    Met (fun dt => .mgtSetkey dt ((tagged 0x16 (⟨5, true, [], [0, 1, 1, 0, 0, 0, 0, 0, 0, 0, 0, 0, 0, 0, 0, 0, 0, 0, 0, 0, 0, 0, 0, 0, 0, 0, 0, 0, 0, 0, 0, 0, 0, 0, 0, 0, 0, 0]⟩ : MgtFrame)) : MgtFrame)) (let s := base; let s := { s with sys := { s.sys with on := true } }; let s := s.putBit R.MGT_CTRL 0 true; let s := { s.wr R.MGT_KEYACL0 0xFFFFFFFF with mgt := { s.mgt with keys := [(0, [1])], nonce := some ([7], s.ticks) } }; s)
      (fun u => Authentic 0x16 ((tagged 0x16 (⟨5, true, [], [0, 1, 1, 0, 0, 0, 0, 0, 0, 0, 0, 0, 0, 0, 0, 0, 0, 0, 0, 0, 0, 0, 0, 0, 0, 0, 0, 0, 0, 0, 0, 0, 0, 0, 0, 0, 0, 0]⟩ : MgtFrame)) : MgtFrame) u ∧ ((tagged 0x16 (⟨5, true, [], [0, 1, 1, 0, 0, 0, 0, 0, 0, 0, 0, 0, 0, 0, 0, 0, 0, 0, 0, 0, 0, 0, 0, 0, 0, 0, 0, 0, 0, 0, 0, 0, 0, 0, 0, 0, 0, 0]⟩ : MgtFrame)) : MgtFrame).pay.length = 38 ∧ u.sys.on = true ∧ 1 ≤ mgtNum ((tagged 0x16 (⟨5, true, [], [0, 1, 1, 0, 0, 0, 0, 0, 0, 0, 0, 0, 0, 0, 0, 0, 0, 0, 0, 0, 0, 0, 0, 0, 0, 0, 0, 0, 0, 0, 0, 0, 0, 0, 0, 0, 0, 0]⟩ : MgtFrame)) : MgtFrame) 1 1 ∧ mgtNum ((tagged 0x16 (⟨5, true, [], [0, 1, 1, 0, 0, 0, 0, 0, 0, 0, 0, 0, 0, 0, 0, 0, 0, 0, 0, 0, 0, 0, 0, 0, 0, 0, 0, 0, 0, 0, 0, 0, 0, 0, 0, 0, 0, 0]⟩ : MgtFrame)) : MgtFrame) 1 1 ≤ 3 ∧ mgtNum ((tagged 0x16 (⟨5, true, [], [0, 1, 1, 0, 0, 0, 0, 0, 0, 0, 0, 0, 0, 0, 0, 0, 0, 0, 0, 0, 0, 0, 0, 0, 0, 0, 0, 0, 0, 0, 0, 0, 0, 0, 0, 0, 0, 0]⟩ : MgtFrame)) : MgtFrame) 34 4 &&& 0xFF00FF01 = 0 ∧ (((mgtBytes ((tagged 0x16 (⟨5, true, [], [0, 1, 1, 0, 0, 0, 0, 0, 0, 0, 0, 0, 0, 0, 0, 0, 0, 0, 0, 0, 0, 0, 0, 0, 0, 0, 0, 0, 0, 0, 0, 0, 0, 0, 0, 0, 0, 0]⟩ : MgtFrame)) : MgtFrame)).drop 2).take 32).all (fun b => b == 0) = false) ∧
    Met (fun dt => .mgtClose dt ((tagged 0x17 (⟨5, true, [], [0, 0x53, 0x4F, 0x4C, 0x43]⟩ : MgtFrame)) : MgtFrame)) (let s := base; let s := { s with sys := { s.sys with on := true } }; let s := s.putBit R.MGT_CTRL 0 true; let s := { s.wr R.MGT_KEYACL0 0xFFFFFFFF with mgt := { s.mgt with keys := [(0, [1])], nonce := some ([7], s.ticks) } }; s)
      (fun u => Authentic 0x17 ((tagged 0x17 (⟨5, true, [], [0, 0x53, 0x4F, 0x4C, 0x43]⟩ : MgtFrame)) : MgtFrame) u ∧ ((tagged 0x17 (⟨5, true, [], [0, 0x53, 0x4F, 0x4C, 0x43]⟩ : MgtFrame)) : MgtFrame).pay.length = 5 ∧ u.sys.on = true ∧ mgtNum ((tagged 0x17 (⟨5, true, [], [0, 0x53, 0x4F, 0x4C, 0x43]⟩ : MgtFrame)) : MgtFrame) 1 4 = 0x434C4F53) :=
  ⟨⟨by decide +kernel, authentic_tagged _ _ _ (by decide +kernel), by decide +kernel, by decide +kernel, by decide +kernel, by decide +kernel, by decide +kernel, by decide +kernel, by decide +kernel⟩,
    ⟨by decide +kernel, authentic_tagged _ _ _ (by decide +kernel), by decide +kernel, by decide +kernel, by decide +kernel, by decide +kernel⟩,
    ⟨by decide +kernel, authentic_tagged _ _ _ (by decide +kernel), by decide +kernel, by decide +kernel⟩,
    ⟨by decide +kernel, authentic_tagged _ _ _ (by decide +kernel), by decide +kernel, by decide +kernel⟩,
    ⟨by decide +kernel, authentic_tagged _ _ _ (by decide +kernel), by decide +kernel, by decide +kernel, by decide +kernel⟩,
    ⟨by decide +kernel, authentic_tagged _ _ _ (by decide +kernel), by decide +kernel, by decide +kernel, by decide +kernel, by decide +kernel⟩,
    ⟨by decide +kernel, authentic_tagged _ _ _ (by decide +kernel), by decide +kernel, by decide +kernel, by decide +kernel, by decide +kernel, by decide +kernel⟩,
    ⟨by decide +kernel, authentic_tagged _ _ _ (by decide +kernel), by decide +kernel, by decide +kernel⟩,
    ⟨by decide +kernel, authentic_tagged _ _ _ (by decide +kernel), by decide +kernel, by decide +kernel, by decide +kernel, by decide +kernel, by decide +kernel, by decide +kernel⟩,
    ⟨by decide +kernel, authentic_tagged _ _ _ (by decide +kernel), by decide +kernel, by decide +kernel, by decide +kernel⟩⟩

theorem test_hyp_EventRecorderCommandsComplete :
    (Met (fun dt => .evrFlush dt) (let s := base; let s := { s with sys := { s.sys with on := true } }; let s := s.putBit (hStat 0x0C8) 1 false; let s := { s with evr := { s.evr with want := true } }; s)
      (fun u => u.sys.on = true ∧ u.flushDue = true ∧ u.bit (hStat 0x0C8) 1 = false) ∧
    Met (fun dt => .evrFlushDone dt true) (let s := base; let s := { s with sys := { s.sys with on := true } }; let s := s.putBit (hStat 0x0C8) 1 true; s)
      (fun u => u.sys.on = true ∧ u.bit (hStat 0x0C8) 1 = true) ∧
    Met (fun dt => .evrFlushDone dt false) (let s := base; let s := { s with sys := { s.sys with on := true } }; let s := s.putBit (hStat 0x0C8) 1 true; s)
      (fun u => u.sys.on = true ∧ u.bit (hStat 0x0C8) 1 = true) ∧
    Met (fun dt => .evrFlushCmd dt (.boot : Init) 1) base
      (fun u => Writes (.boot : Init) 0x0C8 0xC00 u)) ∧
    (Met (fun dt => .rdgo dt (.boot : Init) 1) (let s := base; let s := s.putBit R.EVR_RDSTAT 0 false; s)
      (fun u => Writes (.boot : Init) 0x0C9 0xC00 u ∧ u.bit R.EVR_RDSTAT 0 = false) ∧
    Met (fun dt => .rdgo dt (.boot : Init) 1) (let s := base; let s := s.putBit R.EVR_RDSTAT 0 true; s)
      (fun u => Writes (.boot : Init) 0x0C9 0xC00 u ∧ u.bit R.EVR_RDSTAT 0 = true) ∧
    Met (fun dt => .evrReadDone dt) (let s := base; let s := { s with sys := { s.sys with on := true } }; let s := { s with evr := { s.evr with rd := some 3 } }; let s := { s with evr := { s.evr with may := [{ seq := 3 }] } }; s)
      (fun u => u.sys.on = true ∧ u.evr.rd = some 3 ∧ { u with evr := { u.evr with rd := none } }.findRec 3 = some ({ seq := 3 } : EvRec)) ∧
    Met (fun dt => .evrReadDone dt) (let s := base; let s := { s with sys := { s.sys with on := true } }; let s := { s with evr := { s.evr with rd := some 3 } }; s)
      (fun u => u.sys.on = true ∧ u.evr.rd = some 3 ∧ { u with evr := { u.evr with rd := none } }.findRec 3 = none)) ∧
    (Met (fun dt => .swgo dt (.boot : Init) 1) base
      (fun u => Writes (.boot : Init) 0x0C9 0xC04 u ∧ u.fld R.EVR_SWCODE 18 16 ≤ 4 ∧ (u.evr.sw.filter (fun t => decide (u.moduleTime < t + 4000000000) && decide (t ≤ u.moduleTime))).length < u.fld R.EVR_CFG 15 8) ∧
    Met (fun dt => .swgo dt (.boot : Init) 1) (let s := base; let s := s.putFld R.EVR_CFG 15 8 0; s)
      (fun u => Writes (.boot : Init) 0x0C9 0xC04 u ∧ u.fld R.EVR_SWCODE 18 16 ≤ 4 ∧ u.fld R.EVR_CFG 15 8 ≤ (u.evr.sw.filter (fun t => decide (u.moduleTime < t + 4000000000) && decide (t ≤ u.moduleTime))).length) ∧
    Met (fun dt => .swgo dt (.boot : Init) 1) (let s := base; let s := s.putFld R.EVR_SWCODE 18 16 5; s)
      (fun u => Writes (.boot : Init) 0x0C9 0xC04 u ∧ 4 < u.fld R.EVR_SWCODE 18 16) ∧
    Met (fun dt => .clrcmdArm dt (.boot : Init) (0xE5C10001 : Word)) (let s := base; let s := s.putBit R.EVR_CFG 0 true; s)
      (fun u => Writes (.boot : Init) 0x0C8 0xC04 u ∧ nf (0xE5C10001 : Word).toNat 31 16 = 0xE5C1 ∧ nf (0xE5C10001 : Word).toNat 1 0 = 1 ∧ u.bit R.EVR_CFG 0 = true)) ∧
    (Met (fun dt => .clrcmdClear dt (.boot : Init) (0xE5C10002 : Word)) (let s := base; let s := s.putBit (hStat 0x0C8) 2 true; let s := s.putBit R.EVR_CFG 0 true; let s := s.putBit (hStat 0x0C8) 2 true; let s := { s with evr := { s.evr with armTick := s.ticks } }; s)
      (fun u => Writes (.boot : Init) 0x0C8 0xC04 u ∧ nf (0xE5C10002 : Word).toNat 31 16 = 0xE5C1 ∧ nf (0xE5C10002 : Word).toNat 1 0 = 2 ∧ u.ack.clrArmed = true ∧ u.bit R.EVR_CFG 0 = true) ∧
    Met (fun dt => .clrcmdClear dt (.boot : Init) (0xE5C10002 : Word)) (let s := base; let s := s.putBit (hStat 0x0C8) 2 false; s)
      (fun u => Writes (.boot : Init) 0x0C8 0xC04 u ∧ nf (0xE5C10002 : Word).toNat 31 16 = 0xE5C1 ∧ nf (0xE5C10002 : Word).toNat 1 0 = 2 ∧ u.ack.clrArmed = false) ∧
    Met (fun dt => .evrClearDone dt) (let s := base; let s := { s with sys := { s.sys with on := true } }; let s := { s with evr := { s.evr with clr := some ({ flushed := true } : EvrClr) } }; s)
      (fun u => u.sys.on = true ∧ u.evr.clr = some ({ flushed := true } : EvrClr) ∧ ({ flushed := true } : EvrClr).flushed = true) ∧
    Met (fun dt => .clearArmExpiry dt) (let s := base; let s := s.putBit (hStat 0x0C8) 2 true; s)
      (fun u => Ready u ∧ u.bit (hStat 0x0C8) 2 = true ∧ u.secSince u.evr.armTick 10 = true)) ∧
    Met (fun dt => .evrCntclr dt (.boot : Init) 1) base
      (fun u => Writes (.boot : Init) 0x0C8 0xC08 u) :=
  ⟨by decide +kernel,
    by decide +kernel,
    by decide +kernel,
    by decide +kernel,
    by decide +kernel⟩

theorem test_hyp_LifeAndCalendarCommandsComplete :
    (Met (fun dt => .lifeSecond dt) (let s := base; let s := { s with sys := { s.sys with on := true } }; s)
      (fun u => u.sys.on = true ∧ u.secSince u.life.secTick 1 = true) ∧
    Met (fun dt => .lifeSave dt true) (let s := base; let s := s.putFld R.SYS_BOOTSTAT 3 0 (5); s)
      (fun u => Ready u ∧ u.stage = 5 ∧ u.secSince u.life.saveTick (u.fld R.LIFE_LIFESAVE 9 0) = true) ∧
    Met (fun dt => .lifeSave dt false) (let s := base; let s := s.putFld R.SYS_BOOTSTAT 3 0 (5); s)
      (fun u => Ready u ∧ u.stage = 5 ∧ u.secSince u.life.saveTick (u.fld R.LIFE_LIFESAVE 9 0) = true) ∧
    Met (fun dt => .cntcmdAdd dt (.boot : Init) (0x1F3D0001 : Word)) (let s := base; let s := s.putFld (R.LIFE_CFG ((nf (0x1F3D0001 : Word).toNat 14 8))) 2 0 (4); s)
      (fun u => Writes (.boot : Init) 0x0CA 0xC00 u ∧ nf (0x1F3D0001 : Word).toNat 31 16 = 0x1F3D ∧ nf (0x1F3D0001 : Word).toNat 1 0 = 1 ∧ u.ack.lifeKind (nf (0x1F3D0001 : Word).toNat 14 8) = 4)) ∧
    (Met (fun dt => .cntcmdAdd dt (.boot : Init) (0x1F3D0001 : Word)) base
      (fun u => Writes (.boot : Init) 0x0CA 0xC00 u ∧ nf (0x1F3D0001 : Word).toNat 31 16 = 0x1F3D ∧ nf (0x1F3D0001 : Word).toNat 1 0 = 1 ∧ u.ack.lifeKind (nf (0x1F3D0001 : Word).toNat 14 8) ≠ 4) ∧
    Met (fun dt => .cntcmdReset dt (.boot : Init) (0x1F3D0002 : Word)) (let s := base; let s := s.putBit (R.LIFE_CFG (nf (0x1F3D0002 : Word).toNat 14 8)) 3 false; s)
      (fun u => Writes (.boot : Init) 0x0CA 0xC00 u ∧ nf (0x1F3D0002 : Word).toNat 31 16 = 0x1F3D ∧ nf (0x1F3D0002 : Word).toNat 1 0 = 2 ∧ u.bit (R.LIFE_CFG (nf (0x1F3D0002 : Word).toNat 14 8)) 3 = false) ∧
    Met (fun dt => .cntcmdReset dt (.boot : Init) (0x1F3D0002 : Word)) (let s := base; let s := s.putBit (R.LIFE_CFG (nf (0x1F3D0002 : Word).toNat 14 8)) 3 true; s)
      (fun u => Writes (.boot : Init) 0x0CA 0xC00 u ∧ nf (0x1F3D0002 : Word).toNat 31 16 = 0x1F3D ∧ nf (0x1F3D0002 : Word).toNat 1 0 = 2 ∧ u.bit (R.LIFE_CFG (nf (0x1F3D0002 : Word).toNat 14 8)) 3 = true) ∧
    Met (fun dt => .calendarDiscipline dt) (let s := base; let s := { s with sys := { s.sys with on := true } }; let s := s.putFld (hStat 0x050) 2 0 (2); let s := { s with life := { s.life with cal := 326467584, calTick := s.ticks } }; s)
      (fun u => u.sys.on = true ∧ u.timeLocked = true ∧ u.secSince u.life.discTick 64 = true ∧ ((u.calNow : Int) * 4000000000 / 32768 - u.utcNow).natAbs ≤ 4000000)) ∧
    Met (fun dt => .calendarDiscipline dt) (let s := base; let s := { s with sys := { s.sys with on := true } }; let s := s.putFld (hStat 0x050) 2 0 (2); let s := { s with life := { s.life with cal := 326467584 + 328, calTick := s.ticks } }; s)
      (fun u => u.sys.on = true ∧ u.timeLocked = true ∧ u.secSince u.life.discTick 64 = true ∧ 4000000 < ((u.calNow : Int) * 4000000000 / 32768 - u.utcNow).natAbs ∧ ((u.calNow : Int) * 4000000000 / 32768 - u.utcNow).natAbs ≤ 4000000000) :=
  ⟨by decide +kernel,
    by decide +kernel,
    by decide +kernel⟩

theorem test_hyp_MemoryCommandsComplete :
    (Met (fun dt => .laneUncorrectableError dt (0 : Fin 4) (0 : Fin 3) (0 : BitVec 40) (0 : Byte)) (let s := base; let s := s.putFld (R.TRI_LANESTAT (0)) (4 * (0) + 3) (4 * (0)) (1); let s := s.putBit R.TEN_SPLIT ((0)) true; s)
      (fun u => Ready u ∧ u.laneRuns 0 0 = true ∧ u.split 0 = true) ∧
    Met (fun dt => .laneUncorrectableError dt (0 : Fin 4) (0 : Fin 3) (0 : BitVec 40) (0 : Byte)) (let s := base; let s := s.putFld (R.TRI_LANESTAT (0)) (4 * (0) + 3) (4 * (0)) (1); let s := s.putBit R.TEN_SPLIT ((0)) false; s)
      (fun u => Ready u ∧ u.laneRuns 0 0 = true ∧ u.split 0 = false) ∧
    Met (fun dt => .laneCorrectableError dt (0 : Fin 4) (0 : Fin 3)) (let s := base; let s := s.putFld (R.TRI_LANESTAT (0)) (4 * (0) + 3) (4 * (0)) (1); s)
      (fun u => Ready u ∧ u.laneRuns 0 0 = true) ∧
    Met (fun dt => .laneScrub dt (0 : Fin 4) (0 : Fin 3)) (let s := base; let s := s.putBit R.MEM_CTRL 1 true; let s := s.putFld (R.TRI_LANESTAT (0)) (4 * (0) + 3) (4 * (0)) (1); let s := s.putBit R.TEN_SPLIT ((0)) false; s)
      (fun u => Ready u ∧ u.bit R.MEM_CTRL 1 = true ∧ u.laneRuns 0 0 = true ∧ u.split 0 = false ∧ u.secSince (tabGet 0 u.mem.laneScrub (3 * 0 + 0)) 10 = true)) ∧
    (Met (fun dt => .laneScrub dt (0 : Fin 4) (0 : Fin 3)) (let s := base; let s := s.putBit R.MEM_CTRL 1 true; let s := s.putFld (R.TRI_LANESTAT (0)) (4 * (0) + 3) (4 * (0)) (1); let s := s.putBit R.TEN_SPLIT ((0)) true; s)
      (fun u => Ready u ∧ u.bit R.MEM_CTRL 1 = true ∧ u.laneRuns 0 0 = true ∧ u.split 0 = true ∧ u.secSince (tabGet 0 u.mem.laneScrub (3 * 0 + 0)) 10 = true) ∧
    Met (fun dt => .dramScrub dt (0 : Byte)) (let s := base; let s := { s with sys := { s.sys with on := true } }; let s := s.putBit R.MEM_CTRL 0 true; let s := s.putBit R.MEM_STAT 0 true; s)
      (fun u => u.sys.on = true ∧ u.bit R.MEM_CTRL 0 = true ∧ u.bit R.MEM_STAT 0 = true ∧ u.rd64 R.MEM_SCRUBPOS + 8 < dataEnd ∧ u.mem.passStart + u.rd64 R.MEM_SCRUBPOS / 8 * (u.mem.scrubPer * 100000000) / scrubWords ≤ u.ticks) ∧
    Met (fun dt => .dramScrub dt (0 : Byte)) (let s := base; let s := { s with sys := { s.sys with on := true } }; let s := s.putBit R.MEM_CTRL 0 true; let s := s.putBit R.MEM_STAT 0 true; let s := s.wr64 R.MEM_SCRUBPOS (dataEnd - 8); let s := { s with mem := { s.mem with scrubPer := 1 } }; s)
      (fun u => u.sys.on = true ∧ u.bit R.MEM_CTRL 0 = true ∧ u.bit R.MEM_STAT 0 = true ∧ dataEnd ≤ u.rd64 R.MEM_SCRUBPOS + 8 ∧ u.mem.passStart + u.rd64 R.MEM_SCRUBPOS / 8 * (u.mem.scrubPer * 100000000) / scrubWords ≤ u.ticks) ∧
    Met (fun dt => .dramTempPoll dt (0 : Fin 8) (false : Bool)) (let s := base; let s := { s with sys := { s.sys with on := true } }; s)
      (fun u => u.sys.on = true ∧ u.msSince u.mem.tempTick 16 = true)) ∧
    (Met (fun dt => .ceWindowEnd dt) (let s := base; let s := { s with sys := { s.sys with on := true } }; s)
      (fun u => u.sys.on = true ∧ u.secSince u.mem.ceStart 3600 = true) ∧
    Met (fun dt => .memCntclr dt (.boot : Init) 1) base
      (fun u => Writes (.boot : Init) 0x02A 0xC00 u) ∧
    Met (fun dt => .elnext dt (.boot : Init) 1) base
      (fun u => Writes (.boot : Init) 0x02B 0xC00 u)) :=
  ⟨by decide +kernel,
    by decide +kernel,
    by decide +kernel⟩

theorem test_hyp_AxisStateCommandsComplete :
    (Met (fun dt => .axisMeasurement dt (.mains (0 : Fin 4) ([] : List ChIn)) (0 : Fin 8)) (let s := base; let s := s.putBit (R.AXS_MDCFG 0) 0 true; s)
      (fun u => Ready u ∧ u.bit (R.AXS_MDCFG 0) 0 = true) ∧
    Met (fun dt => .axisMeasurement dt (.encoder (0 : Fin 4) (0 : Int)) (0 : Fin 8)) (let s := base; let s := s.putBit (R.AXS_ENCCFG 0) 0 true; s)
      (fun u => Ready u ∧ u.bit (R.AXS_ENCCFG 0) 0 = true) ∧
    Met (fun dt => .axisAcquired dt (0 : Fin 8) (0 : Int)) (let s := base; let s := s.putFld (R.AXS_STAT (0)) 2 0 (axAcquiring); let s := s.putBit (R.AXS_ENCCFG 0) 0 true; s)
      (fun u => Ready u ∧ u.axState 0 = axAcquiring ∧ u.acquired 0 = true) ∧
    Met (fun dt => .axisLoss dt (0 : Fin 8)) (let s := base; let s := s.putFld (R.AXS_STAT (0)) 2 0 (axLocked); let s := s.setAxis 0 { (s.axis 0) with fault := true }; s)
      (fun u => Ready u ∧ u.axState 0 = axLocked ∧ u.lost 0 = true)) ∧
    (Met (fun dt => .axisHoldRecover dt (0 : Fin 8)) (let s := base; let s := s.putFld (R.AXS_STAT (0)) 2 0 (axHold); let s := s.putBit (R.AXS_ENCCFG 0) 0 true; s)
      (fun u => Ready u ∧ u.axState 0 = axHold ∧ u.srcValid 0 (u.axis 0).holdTick = true ∧ u.axKind 0 ≠ 5) ∧
    Met (fun dt => .axisHoldRecover dt (0 : Fin 8)) (let s := base; let s := s.putFld (R.AXS_STAT (0)) 2 0 (axHold); let s := s.putFld (R.AXS_SRC (0)) 2 0 (5); let s := s.putBit (R.AXS_SRC 0) 9 false; s)
      (fun u => Ready u ∧ u.axState 0 = axHold ∧ u.axKind 0 = 5 ∧ u.timeOk 0 = true) ∧
    Met (fun dt => .axisHoldExpired dt (0 : Fin 8)) (let s := base; let s := s.putFld (R.AXS_STAT (0)) 2 0 (axHold); s)
      (fun u => Ready u ∧ u.axState 0 = axHold ∧ u.holdOver 0 = true) ∧
    Met (fun dt => .axisFrozenRecover dt (0 : Fin 8)) (let s := base; let s := s.putFld (R.AXS_STAT (0)) 2 0 (axFrozen); let s := s.putBit (R.AXS_ENCCFG 0) 0 true; s)
      (fun u => Ready u ∧ u.axState 0 = axFrozen ∧ u.srcValid 0 0 = true)) ∧
    (Met (fun dt => .axisTick dt (0 : Fin 8)) (let s := base; let s := s.putFld (R.AXS_STAT (0)) 2 0 (axLocked); let s := s.putFld (R.AXS_TICK 0) 16 0 1; let s := s.setAxis 0 { (s.axis 0) with est := [{ t := 8 * s.ticks - 8, p := -5, v := 1000000000 }] }; s)
      (fun u => Ready u ∧ u.axLive 0 = true ∧ (u.axis 0).crossed ≠ u.ticks + 1 ∧ ((u.axRearm 0).tickCross 0).getLast? = some ((0 : Int) : Int)) ∧
    Met (fun dt => .hiddenTargetMissed dt (0 : Fin 384)) (let s := base; let s := s.putBit (dCfg (0)) (0) true; let s := s.putFld (R.AXS_STAT ((s.dAxis 0))) 2 0 (axFrozen); let s := s.setEntry 0 { (s.entry 0) with hidden := true }; s)
      (fun u => Ready u ∧ u.dOn 0 = true ∧ u.axState (u.dAxis 0) = axFrozen ∧ (u.entry 0).hidden = true)) :=
  ⟨by decide +kernel,
    by decide +kernel,
    by decide +kernel⟩

theorem test_hyp_AxisInputsAndFireflyComplete :
    (Met (fun dt => .encoderLineFault dt (0 : Fin 4) .line) (let s := base; let s := s.putBit (R.AXS_ENCCFG 0) 0 true; s)
      (fun u => Ready u ∧ u.bit (R.AXS_ENCCFG 0) 0 = true) ∧
    Met (fun dt => .encoderLineFault dt (0 : Fin 4) .clear) (let s := base; let s := s.putBit (R.AXS_ENCCFG 0) 0 true; let s := s.setEnc 0 { (s.enc 0) with line := true }; s)
      (fun u => Ready u ∧ u.bit (R.AXS_ENCCFG 0) 0 = true ∧ (u.enc 0).line = true) ∧
    Met (fun dt => .encoderLineFault dt (0 : Fin 4) .transition) (let s := base; let s := s.putBit (R.AXS_ENCCFG 0) 0 true; s)
      (fun u => Ready u ∧ u.bit (R.AXS_ENCCFG 0) 0 = true) ∧
    Met (fun dt => .encoderZPulse dt (0 : Fin 4) (0 : Fin 8) (0 : Nat)) (let s := base; let s := s.putBit (R.AXS_ENCCFG 0) 0 true; s)
      (fun u => Ready u ∧ u.bit (R.AXS_ENCCFG 0) 0 = true)) ∧
    (Met (fun dt => .ssiFrame dt (0 : Fin 2) (0 : Fin 8) (.bits (0 : BitVec 33))) (let s := base; let s := s.putBit (R.AXS_SSICFG 0) 0 true; s)
      (fun u => Ready u ∧ u.bit (R.AXS_SSICFG 0) 0 = true ∧ ((u.ssi 0).clean = 0 ∨ (u.ssi 0).clean + 100 * u.fld (R.AXS_SSITIM 0) 31 16 ≤ u.ticks + 1) ∧ u.ssiWord 0 (0 : BitVec 33).toNat = some 0) ∧
    Met (fun dt => .ssiFrame dt (0 : Fin 2) (0 : Fin 8) (.bits (1 : BitVec 33))) (let s := base; let s := s.putBit (R.AXS_SSICFG 0) 0 true; let s := s.putBit (R.AXS_SSICFG 0) 2 true; s)
      (fun u => Ready u ∧ u.bit (R.AXS_SSICFG 0) 0 = true ∧ ((u.ssi 0).clean = 0 ∨ (u.ssi 0).clean + 100 * u.fld (R.AXS_SSITIM 0) 31 16 ≤ u.ticks + 1) ∧ u.ssiWord 0 (1 : BitVec 33).toNat = none) ∧
    Met (fun dt => .ssiFrame dt (0 : Fin 2) (0 : Fin 8) .timeout) (let s := base; let s := s.putBit (R.AXS_SSICFG 0) 0 true; s)
      (fun u => Ready u ∧ u.bit (R.AXS_SSICFG 0) 0 = true ∧ ((u.ssi 0).clean = 0 ∨ (u.ssi 0).clean + 100 * u.fld (R.AXS_SSITIM 0) 31 16 ≤ u.ticks + 1)) ∧
    Met (fun dt => .scheduleEntryFire dt (0 : Fin 384)) (let s := base; let s := s.putBit (dCfg 0) 0 true; let s := s.putFld (R.AXS_STAT 0) 2 0 axLocked; let s := s.setAxis 0 { (s.axis 0) with est := [{ t := 8 * s.ticks - 8, p := -5, v := 1000000000 }] }; s)
      (fun u => Ready u ∧ (u.entryFire 0).2 = some 0)) ∧
    (Met (fun dt => .scheduleEntryFire dt (0 : Fin 384)) base
      (fun u => Ready u ∧ (u.entryFire 0).2 = none) ∧
    Met (fun dt => .fixgo dt (.boot : Init) (0 : Fin 8) 1) (let s := base; let s := s.putFld (R.AXS_SRC (0)) 2 0 (4); let s := s.putFld (R.AXS_STAT (0)) 2 0 (axLocked); let s := s.wr64 (R.AXS_FIXTIME 0) 39999000000000; s)
      (fun u => Writes (.boot : Init) (0x041 + 0) 0xC04 u ∧ u.axKind 0 = 4 ∧ u.ack.axLive 0 = true ∧ u.rd64 (R.AXS_FIXTIME 0) ≤ u.moduleTime ∧ u.moduleTime ≤ u.rd64 (R.AXS_FIXTIME 0) + 4000000000) ∧
    Met (fun dt => .fixgo dt (.boot : Init) (0 : Fin 8) 1) base
      (fun u => Writes (.boot : Init) (0x041 + 0) 0xC04 u ∧ u.axKind 0 ≠ 4) ∧
    Met (fun dt => .fixgo dt (.boot : Init) (0 : Fin 8) 1) (let s := base; let s := s.putFld (R.AXS_SRC (0)) 2 0 (4); let s := s.putFld (R.AXS_STAT (0)) 2 0 (axLocked); s)
      (fun u => Writes (.boot : Init) (0x041 + 0) 0xC04 u ∧ u.axKind 0 = 4 ∧ u.axLive 0 = true ∧ (u.moduleTime < u.rd64 (R.AXS_FIXTIME 0) ∨ u.rd64 (R.AXS_FIXTIME 0) + 4000000000 < u.moduleTime))) ∧
    (Met (fun dt => .axisCapture dt (.boot : Init) (0 : Fin 8) 1) base
      (fun u => Writes (.boot : Init) (0x041 + 0) 0xC00 u) ∧
    Met (fun dt => .seclr dt (.boot : Init) 1) base
      (fun u => Writes (.boot : Init) 0x04F 0xC00 u) ∧
    Met (fun dt => .fireflyStrobe dt (0 : Fin 4)) (let s := base; let s := s.putBit (R.AXS_FFCFG 0) 0 true; let s := { s with rdn := { s.rdn with gates := true } }; let s := s.putFld (R.AXS_FFCFG (0)) 3 2 (0); let s := s.setFirefly 0 { (s.firefly 0) with fall := 0 }; let s := { s with axs := { s.axs with strobe := [(0, [{ tick := s.ticks - 2, count := 1 }])] } }; s)
      (fun u => Ready u ∧ u.ffOn 0 = true ∧ u.strobed (u.fld (R.AXS_FFCFG 0) 9 4) (u.firefly 0).seen = some ({ tick := 999999999998, count := 1 } : Strobe) ∧ u.ffMode 0 = 0 ∧ ((u.firefly 0).fall = 0 ∨ (u.firefly 0).fall ≤ 8 * ({ tick := 999999999998, count := 1 } : Strobe).tick + 16)) ∧
    Met (fun dt => .fireflyStrobe dt (0 : Fin 4)) (let s := base; let s := s.putBit (R.AXS_FFCFG 0) 0 true; let s := { s with rdn := { s.rdn with gates := true } }; let s := s.putFld (R.AXS_FFCFG (0)) 3 2 (0); let s := { s with axs := { s.axs with strobe := [(0, [{ tick := s.ticks - 2, count := 1 }])] } }; let s := s.setFirefly 0 { (s.firefly 0) with fall := 8 * s.ticks + 1 }; s)
      (fun u => Ready u ∧ u.ffOn 0 = true ∧ u.strobed (u.fld (R.AXS_FFCFG 0) 9 4) (u.firefly 0).seen = some ({ tick := 999999999998, count := 1 } : Strobe) ∧ u.ffMode 0 = 0 ∧ (u.firefly 0).fall ≠ 0 ∧ 8 * ({ tick := 999999999998, count := 1 } : Strobe).tick + 16 < (u.firefly 0).fall)) ∧
    (Met (fun dt => .fireflyStrobe dt (0 : Fin 4)) (let s := base; let s := s.putBit (R.AXS_FFCFG 0) 0 true; let s := { s with rdn := { s.rdn with gates := true } }; let s := s.putFld (R.AXS_FFCFG (0)) 3 2 (1); let s := { s with axs := { s.axs with strobe := [(0, [{ tick := s.ticks - 2, count := 1 }])] } }; s)
      (fun u => Ready u ∧ u.ffOn 0 = true ∧ u.strobed (u.fld (R.AXS_FFCFG 0) 9 4) (u.firefly 0).seen = some ({ tick := 999999999998, count := 1 } : Strobe) ∧ u.ffMode 0 = 1) ∧
    Met (fun dt => .fireflyPps dt (0 : Fin 4)) (let s := base; let s := s.putBit (R.AXS_FFCFG 0) 0 true; let s := { s with rdn := { s.rdn with gates := true } }; let s := s.putFld (R.AXS_FFCFG (0)) 3 2 (2); s)
      (fun u => Ready u ∧ u.ffOn 0 = true ∧ u.ffMode 0 = 2 ∧ u.moduleTime % 4000000000 < 80 ∧ (u.firefly 0).pps ≤ 8 * u.ticks - u.moduleTime % 4000000000 / 5) ∧
    Met (fun dt => .fireflyPulseEnd dt (0 : Fin 4)) (let s := base; let s := s.setFirefly 0 { (s.firefly 0) with fall := 8 * s.ticks }; s)
      (fun u => Ready u ∧ (u.firefly 0).fall ≠ 0 ∧ (u.firefly 0).fall ≤ 8 * u.ticks) ∧
    Met (fun dt => .fireflyReadback dt (0 : Fin 4) (false : Bool)) (let s := base; let s := s.setFirefly 0 { (s.firefly 0) with back := 0 :: ([] : List Nat) }; let s := s.putBit (R.AXS_FFCFG 0) 0 true; let s := { s with rdn := { s.rdn with gates := true } }; let s := s.setFirefly 0 { (s.firefly 0) with lvl := true }; s)
      (fun u => Ready u ∧ (u.firefly 0).back = 0 :: ([] : List Nat) ∧ u.ffOn 0 = true ∧ 0 + 80 ≤ 8 * u.ticks ∧ u.ffPin 0 (0 + 80) ≠ (false : Bool))) ∧
    Met (fun dt => .fireflyReadback dt (0 : Fin 4) (false : Bool)) (let s := base; let s := s.setFirefly 0 { (s.firefly 0) with back := 0 :: ([] : List Nat) }; let s := s.putBit (R.AXS_FFCFG 0) 0 true; let s := { s with rdn := { s.rdn with gates := true } }; s)
      (fun u => Ready u ∧ (u.firefly 0).back = 0 :: ([] : List Nat) ∧ u.ffOn 0 = true ∧ 0 + 80 ≤ 8 * u.ticks ∧ u.ffPin 0 (0 + 80) = (false : Bool)) :=
  ⟨by decide +kernel,
    by decide +kernel,
    by decide +kernel,
    by decide +kernel,
    by decide +kernel,
    by decide +kernel⟩

theorem test_hyp_TriadCommandsComplete :
    (Met (fun dt => .stateAudit dt (0 : Fin 4) (.agree : TriVote)) (let s := base; let s := s.putFld (R.TRI_STAT (0)) 2 0 (tm2oo3); let s := s.putBit (R.TRI_STAT 0) 4 false; s)
      (fun u => Ready u ∧ u.votes 0 = true) ∧
    Met (fun dt => .scarabSelftest dt (0 : Fin 4) true true) (let s := base; let s := s.putFld (R.TRI_STAT (0)) 2 0 (tm2oo3); let s := s.putBit (R.TRI_STAT 0) 4 false; s)
      (fun u => Ready u ∧ u.votes 0 = true ∧ ((u.triT 0).stNow.isSome || u.msSince (u.triT 0).stTick (u.fld (R.TRI_STPERIOD 0) 9 0)) = true)) ∧
    Met (fun dt => .scarabSelftest dt (0 : Fin 4) false true) (let s := base; let s := s.putFld (R.TRI_STAT (0)) 2 0 (tm2oo3); let s := s.putBit (R.TRI_STAT 0) 4 false; let s := s.setTriT 0 { (s.triT 0) with stNow := some 1 }; s)
      (fun u => Ready u ∧ u.votes 0 = true ∧ (u.selftest 0 false true).cicada = false ∧ ((u.triT 0).stNow.isSome || u.msSince (u.triT 0).stTick (u.fld (R.TRI_STPERIOD 0) 9 0)) = true) ∧
    (Met (fun dt => .stnow dt (.boot : Init) (0 : Fin 4) 1) (let s := base; let s := s.putFld (R.TRI_STAT (0)) 2 0 (tm2oo3); s)
      (fun u => Writes (.boot : Init) (triVoter 0) 0xC00 u ∧ u.allocated (triVoter 0) = true ∧ (u.ack.triMode 0 = tm2oo3 ∨ u.ack.triMode 0 = tm2oo2)) ∧
    Met (fun dt => .interruptArrival dt (0 : Fin 4) (.external : Irq) (0 : Nat) (false : Bool)) (let s := base; let s := s.putFld (R.TRI_STAT (0)) 2 0 (tm2oo3); let s := s.putBit (R.TRI_STAT 0) 4 false; let s := s.setTriT 0 { (s.triT 0) with irqs := [] }; s)
      (fun u => Ready u ∧ u.partOfTriad 0 = some (0 : Nat) ∧ (u.triMode 0 = tm2oo3 ∨ u.triMode 0 = tm2oo2) ∧ u.inDsec (0 : Nat) = false ∧ u.bit (R.TRI_STAT 0) 4 = false ∧ (u.triT 0).irqs = []) ∧
    Met (fun dt => .interruptArrival dt (0 : Fin 4) (.external : Irq) (0 : Nat) (false : Bool)) (let s := base; let s := s.putFld (R.TRI_STAT (0)) 2 0 (tm2oo3); let s := s.putBit (R.TRI_STAT 0) 4 true; s)
      (fun u => Ready u ∧ u.partOfTriad 0 = some (0 : Nat) ∧ (u.triMode 0 = tm2oo3 ∨ u.triMode 0 = tm2oo2) ∧ (u.inDsec (0 : Nat) = true ∨ u.bit (R.TRI_STAT 0) 4 = true ∨ (u.triT 0).irqs ≠ [])) ∧
    Met (fun dt => .interruptTaken dt (0 : Fin 4) (0 : Nat)) (let s := base; let s := s.setTriT 0 { (s.triT 0) with target := none }; let s := s.putFld (R.TRI_STAT (0)) 2 0 (tm2oo3); let s := s.putBit (R.TRI_STAT 0) 4 false; let s := s.setTriT 0 { (s.triT 0) with irqs := [.timer] }; s)
      (fun u => Ready u ∧ (u.triT 0).irqs ≠ [] ∧ ((u.triT 0).target = none ∨ (u.triT 0).target = some (0 : Nat)) ∧ u.votes 0 = true ∧ u.partOfTriad 0 = some (0 : Nat) ∧ u.inDsec (0 : Nat) = false)) ∧
    (Met (fun dt => .reintegration dt (0 : Fin 4) true) (let s := base; let s := s.setTriT 0 { (s.triT 0) with run := none }; let s := s.setTriT 0 { (s.triT 0) with wait := some ((0 : Nat), (0 : Nat)) }; let s := s.putFld (R.TRI_STAT (0)) 2 0 (tm2oo3); let s := s.putBit (R.TRI_STAT 0) 4 false; s)
      (fun u => Ready u ∧ (u.triT 0).run = none ∧ (u.triT 0).wait = some ((0 : Nat), (0 : Nat)) ∧ u.reintBoundary 0 = true ∧ u.votes 0 = true) ∧
    Met (fun dt => .reintegration dt (0 : Fin 4) true) (let s := base; let s := s.setTriT 0 { (s.triT 0) with run := some ((0 : Nat), (0 : Nat)) }; let s := s.setTriT 0 { (s.triT 0) with copied := false }; s)
      (fun u => Ready u ∧ (u.triT 0).run = some ((0 : Nat), (0 : Nat)) ∧ (u.triT 0).copied = false) ∧
    Met (fun dt => .reintegration dt (0 : Fin 4) false) (let s := base; let s := s.setTriT 0 { (s.triT 0) with run := some ((0 : Nat), (0 : Nat)) }; let s := s.setTriT 0 { (s.triT 0) with copied := false }; s)
      (fun u => Ready u ∧ (u.triT 0).run = some ((0 : Nat), (0 : Nat)) ∧ (u.triT 0).copied = false) ∧
    Met (fun dt => .reintegration dt (2 : Fin 4) true) (let s := base; let s := s.setTriT 2 { (s.triT 2) with run := some ((0 : Nat), (0 : Nat)) }; let s := s.setTriT 2 { (s.triT 2) with copied := true }; s)
      (fun u => Ready u ∧ (u.triT 2).run = some ((0 : Nat), (0 : Nat)) ∧ (u.triT 2).copied = true ∧ ((u.setLane 2 (0 : Nat) lnActive).setTriMode 2 tm2oo3).partOfTriad 2 = none)) ∧
    (Met (fun dt => .reintegration dt (0 : Fin 4) false) (let s := base; let s := s.setTriT 0 { (s.triT 0) with run := some ((0 : Nat), (0 : Nat)) }; let s := s.setTriT 0 { (s.triT 0) with copied := true }; s)
      (fun u => Ready u ∧ (u.triT 0).run = some ((0 : Nat), (0 : Nat)) ∧ (u.triT 0).copied = true) ∧
    Met (fun dt => .lanecmdFence dt (.boot : Init) (0 : Fin 4) (0xF3C50001 : Word)) (let s := base; let s := s.putBit R.TEN_SPLIT ((0)) false; s)
      (fun u => Writes (.boot : Init) (triPage 0) 0xC00 u ∧ u.allocated (triPage 0) = true ∧ nf (0xF3C50001 : Word).toNat 31 16 = 0xF3C5 ∧ nf (0xF3C50001 : Word).toNat 3 0 = 1 ∧ nf (0xF3C50001 : Word).toNat 5 4 ≠ 3 ∧ u.ack.laneState 0 (nf (0xF3C50001 : Word).toNat 5 4) ≠ lnOff ∧ u.ack.laneState 0 (nf (0xF3C50001 : Word).toNat 5 4) ≠ lnFenced ∧ u.ack.split 0 = false ∧ u.ack.triMode 0 ≠ tmHalted ∧ 2 ≤ ((u.ack.activeLanes 0).filter (fun m => m != nf (0xF3C50001 : Word).toNat 5 4)).length) ∧
    Met (fun dt => .lanecmdFence dt (.boot : Init) (0 : Fin 4) (0x0 : Word)) base
      (fun u => Writes (.boot : Init) (triPage 0) 0xC00 u ∧ u.allocated (triPage 0) = true ∧ nf (0x0 : Word).toNat 31 16 ≠ 0xF3C5)) :=
  ⟨by decide +kernel,
    ⟨by decide +kernel, by decide +kernel, by decide +kernel, selftest_cicada _ (by decide +kernel), by decide +kernel⟩,
    by decide +kernel,
    by decide +kernel,
    by decide +kernel⟩

theorem test_hyp_CycleCommandsComplete :
    (Met (fun dt => .startCold dt (.boot : Init) (0 : Fin 6) (0x6C3A0001 : Word)) (let s := base; let s := s.putFld (hStat (0x030 + (0))) 2 0 (cyStopped); let s := s.setCy 0 { (s.cy 0) with img := some {} }; s)
      (fun u => CycWrites (.boot : Init) 0 1 (0x6C3A0001 : Word) u ∧ u.cycState 0 = cyStopped ∧ (u.cy 0).img.isSome = true) ∧
    Met (fun dt => .startWarm dt (.boot : Init) (0 : Fin 6) (0x6C3A0002 : Word)) (let s := base; let s := s.putFld (hStat (0x030 + (0))) 2 0 (cyStopped); let s := s.setCy 0 { (s.cy 0) with img := some {} }; s)
      (fun u => CycWrites (.boot : Init) 0 2 (0x6C3A0002 : Word) u ∧ u.cycState 0 = cyStopped ∧ (u.cy 0).img.isSome = true) ∧
    Met (fun dt => .startCold dt (.boot : Init) (0 : Fin 6) (0x6C3A0001 : Word)) base
      (fun u => CycWrites (.boot : Init) 0 1 (0x6C3A0001 : Word) u ∧ (u.cycState 0 ≠ cyStopped ∨ (u.cy 0).img = none)) ∧
    Met (fun dt => .startWarm dt (.boot : Init) (0 : Fin 6) (0x6C3A0002 : Word)) base
      (fun u => CycWrites (.boot : Init) 0 2 (0x6C3A0002 : Word) u ∧ (u.cycState 0 ≠ cyStopped ∨ (u.cy 0).img = none))) ∧
    (Met (fun dt => .stop dt (.boot : Init) (0 : Fin 6) (0x6C3A0003 : Word)) (let s := base; let s := s.putFld (hStat (0x030 + (0))) 2 0 (3); s)
      (fun u => CycWrites (.boot : Init) 0 3 (0x6C3A0003 : Word) u ∧ u.cycRunning 0 = true) ∧
    Met (fun dt => .stop dt (.boot : Init) (0 : Fin 6) (0x6C3A0003 : Word)) base
      (fun u => CycWrites (.boot : Init) 0 3 (0x6C3A0003 : Word) u ∧ u.cycRunning 0 = false) ∧
    Met (fun dt => .chgload dt (.boot : Init) (0 : Fin 6) (0x6C3A0004 : Word)) (let s := base; let s := s.putBit (R.CYC_CTRL 0) 0 true; let s := s.setCy 0 { (s.cy 0) with img := some {} }; let s := { s with upd := { s.upd with prep := [(0, [1, 2])] } }; s)
      (fun u => CycWrites (.boot : Init) 0 4 (0x6C3A0004 : Word) u ∧ u.dmode 0 = true ∧ (u.cy 0).img.isSome = true ∧ u.cycState 0 ≠ cyChanging ∧ u.ack.prepared 0 = some [1, 2]) ∧
    Met (fun dt => .chgload dt (.boot : Init) (0 : Fin 6) (0x6C3A0004 : Word)) (let s := base; let s := s.putBit (R.CYC_CTRL 0) 0 true; let s := s.setCy 0 { (s.cy 0) with img := some {} }; s)
      (fun u => CycWrites (.boot : Init) 0 4 (0x6C3A0004 : Word) u ∧ u.dmode 0 = true ∧ (u.cy 0).img.isSome = true ∧ u.cycState 0 ≠ cyChanging ∧ u.ack.prepared 0 = none)) ∧
    (Met (fun dt => .chgarm dt (.boot : Init) (0 : Fin 6) (0x6C3A0005 : Word)) (let s := base; let s := s.putFld (hStat (0x030 + (0))) 2 0 (cyRunning); let s := s.putBit (R.CYC_STAT 0) 8 true; let s := s.setCy 0 { (s.cy 0) with stop := false }; s)
      (fun u => CycWrites (.boot : Init) 0 5 (0x6C3A0005 : Word) u ∧ u.cycState 0 = cyRunning ∧ u.bit (R.CYC_STAT 0) 8 = true ∧ (u.cy 0).stop = false) ∧
    Met (fun dt => .chgarm dt (.boot : Init) (0 : Fin 6) (0x6C3A0005 : Word)) base
      (fun u => CycWrites (.boot : Init) 0 5 (0x6C3A0005 : Word) u ∧ (u.cycState 0 ≠ cyRunning ∨ u.bit (R.CYC_STAT 0) 8 = false ∨ (u.cy 0).stop = true)) ∧
    Met (fun dt => .chgabort dt (.boot : Init) (0 : Fin 6) (0x6C3A0006 : Word)) (let s := base; let s := s.putFld (hStat (0x030 + (0))) 2 0 (cyChanging); let s := s.setCy 0 { (s.cy 0) with old := none }; s)
      (fun u => CycWrites (.boot : Init) 0 6 (0x6C3A0006 : Word) u ∧ u.cycState 0 = cyChanging ∧ (u.cy 0).old = none) ∧
    Met (fun dt => .chgabort dt (.boot : Init) (0 : Fin 6) (0x6C3A0006 : Word)) base
      (fun u => CycWrites (.boot : Init) 0 6 (0x6C3A0006 : Word) u ∧ (u.cycState 0 ≠ cyChanging ∨ (u.cy 0).old.isSome = true))) ∧
    (Met (fun dt => .groupcmt dt (.boot : Init) (0 : Fin 6) (0x6C3A0007 : Word)) (let s := base; let s := s.putFld (hStat 0x030) 2 0 cyStopped; s)
      (fun u => CycWrites (.boot : Init) 0 7 (0x6C3A0007 : Word) u ∧ u.cycState 0 ≠ cyIdle ∧ u.cycState 0 ≠ cyHalted) ∧
    Met (fun dt => .startCold dt (.boot : Init) 0 0) base
      (fun u => Writes (.boot : Init) (cycPage 0) 0xC00 u ∧ nf (0x0 : Word).toNat 31 16 ≠ 0x6C3A) ∧
    Met (fun dt => .cycCntclr dt (.boot : Init) (0 : Fin 6) 1) base
      (fun u => Writes (.boot : Init) (cycPage 0) 0xC04 u)) :=
  ⟨by decide +kernel,
    by decide +kernel,
    by decide +kernel,
    by decide +kernel⟩

theorem test_hyp_CycleEventsComplete :
    (Met (fun dt => .cycStartComplete dt (0 : Fin 6)) (let s := base; let s := s.putFld (hStat (0x030 + (0))) 2 0 (cyStarting); s)
      (fun u => Ready u ∧ u.cycState 0 = cyStarting) ∧
    Met (fun dt => .snapshotInstant dt (0 : Fin 6)) (let s := base; let s := s.putFld (hStat (0x030 + (0))) 2 0 (3); let s := s.setCy 0 { (s.cy 0) with opn := false }; let s := s.setCy 0 { (s.cy 0) with old := none }; let s := s.setCy 0 { (s.cy 0) with chgTick := none }; let s := s.setCy 0 { (s.cy 0) with img := some ({ dmode := true } : CycImg) }; let s := s.setCy 0 { (s.cy 0) with tready := some 0, first := true }; s)
      (fun u => Ready u ∧ u.cycRunning 0 = true ∧ (u.cy 0).opn = false ∧ (u.cy 0).old = none ∧ (u.cy 0).chgTick = none ∧ (u.cy 0).img = some ({ dmode := true } : CycImg) ∧ u.nextTs 0 = some (40000000000000, false)) ∧
    Met (fun dt => .snapshotDelivery dt (0 : Fin 6)) (let s := base; let s := s.putFld (hStat (0x030 + (0))) 2 0 (3); let s := s.setCy 0 { (s.cy 0) with opn := true }; let s := s.setCy 0 { (s.cy 0) with img := some ({ dmode := true } : CycImg) }; let s := s.setCy 0 { (s.cy 0) with sealed := some [] }; s)
      (fun u => Ready u ∧ u.cycRunning 0 = true ∧ (u.cy 0).opn = true ∧ (u.cy 0).img = some ({ dmode := true } : CycImg) ∧ (u.cy 0).sealed = some [] ∧ (u.cy 0).base + 40 * sealDelay ({ dmode := true } : CycImg).src ≤ u.moduleTime) ∧
    Met (fun dt => .commitComplete dt (0 : Fin 6) (false : Bool)) (let s := base; let s := { s with sys := { s.sys with on := true } }; let s := s.setCy 0 { (s.cy 0) with img := some ({ dmode := true } : CycImg) }; let s := s.setCy 0 { (s.cy 0) with staged := some ({ tc := some 7 } : Staged) }; s)
      (fun u => u.sys.on = true ∧ (u.cy 0).img = some ({ dmode := true } : CycImg) ∧ (u.cy 0).staged = some ({ tc := some 7 } : Staged) ∧ ({ tc := some 7 } : Staged).tc = some 7 ∧ u.usSince 7 1 = true)) ∧
    (Met (fun dt => .commitComplete dt (0 : Fin 6) false) (let s := base; let s := s.setCy 0 { (s.cy 0) with img := some ({ dmode := true } : CycImg) }; let s := s.setCy 0 { (s.cy 0) with staged := some ({} : Staged) }; s)
      (fun u => Ready u ∧ (u.cy 0).img = some ({ dmode := true } : CycImg) ∧ (u.cy 0).staged = some ({} : Staged) ∧ ({} : Staged).tc = none ∧ ({} : Staged).bad = none ∧ ({} : Staged).tick < u.ticks) ∧
    Met (fun dt => .commitComplete dt (0 : Fin 6) false) (let s := base; let s := s.setCy 0 { (s.cy 0) with img := some ({ dmode := true } : CycImg) }; let s := s.setCy 0 { (s.cy 0) with staged := some ({ bad := some (1, 2) } : Staged) }; s)
      (fun u => Ready u ∧ (u.cy 0).img = some ({ dmode := true } : CycImg) ∧ (u.cy 0).staged = some ({ bad := some (1, 2) } : Staged) ∧ ({ bad := some (1, 2) } : Staged).tc = none ∧ ({ bad := some (1, 2) } : Staged).bad = some (1, 2)) ∧
    Met (fun dt => .commitComplete dt (0 : Fin 6) true) (let s := base; let s := s.setCy 0 { (s.cy 0) with img := some ({ dmode := true } : CycImg) }; let s := s.setCy 0 { (s.cy 0) with staged := some ({} : Staged) }; s)
      (fun u => Ready u ∧ (u.cy 0).img = some ({ dmode := true } : CycImg) ∧ (u.cy 0).staged = some ({} : Staged) ∧ ({} : Staged).tc = none) ∧
    Met (fun dt => .watchdogExpiry dt (0 : Fin 6)) (let s := base; let s := s.putFld (hStat (0x030 + (0))) 2 0 (3); let s := s.setCy 0 { (s.cy 0) with opn := true }; let s := s.setCy 0 { (s.cy 0) with retired := false }; s)
      (fun u => Ready u ∧ u.cycRunning 0 = true ∧ (u.cy 0).opn = true ∧ (u.cy 0).retired = false ∧ (u.cy 0).base + u.maxCyc 0 < u.moduleTime)) ∧
    Met (fun dt => .retainedSave dt (0 : Fin 6) (false : Bool)) (let s := base; let s := s.putFld (hStat (0x030 + (0))) 2 0 (3); let s := s.putFld (R.CYC_RSAVE 0) 12 0 (1); s)
      (fun u => Ready u ∧ u.cycRunning 0 = true ∧ u.fld (R.CYC_RSAVE 0) 12 0 ≠ 0 ∧ u.msSince (u.cy 0).saveTick (10 * u.fld (R.CYC_RSAVE 0) 12 0) = true) :=
  ⟨by decide +kernel,
    by decide +kernel,
    by decide +kernel⟩

theorem test_hyp_ChangeAndCommitBoundariesComplete :
    (Met (fun dt => .loaddone dt (0 : Fin 6) false) (let s := base; let s := s.setCy 0 { (s.cy 0) with next := some ({ dmode := true } : CycImg) }; let s := s.setCy 0 { (s.cy 0) with loading := true }; let s := { s with upd := { s.upd with prep := [(0, [1, 2])] } }; s)
      (fun u => Ready u ∧ (u.cy 0).next = some ({ dmode := true } : CycImg) ∧ u.prepared 0 = some [1, 2] ∧ (u.cy 0).loading = true) ∧
    Met (fun dt => .loaddone dt (0 : Fin 6) true) (let s := base; let s := s.setCy 0 { (s.cy 0) with next := some ({ dmode := true } : CycImg) }; let s := s.setCy 0 { (s.cy 0) with loading := true }; let s := { s with upd := { s.upd with prep := [(0, [1, 2])] } }; s)
      (fun u => Ready u ∧ (u.cy 0).next = some ({ dmode := true } : CycImg) ∧ u.prepared 0 = some [1, 2] ∧ (u.cy 0).loading = true) ∧
    Met (fun dt => .changeApply dt (0 : Fin 6)) (let s := base; let s := s.putFld (hStat (0x030 + (0))) 2 0 (cyChanging); let s := s.setCy 0 { (s.cy 0) with old := none }; let s := s.setCy 0 { (s.cy 0) with chgTick := some 7 }; let s := s.setCy 0 { (s.cy 0) with next := some ({ dmode := true } : CycImg) }; let s := s.setCy 0 { (s.cy 0) with nextBad := 1 }; s)
      (fun u => Ready u ∧ u.cycState 0 = cyChanging ∧ (u.cy 0).old = none ∧ (u.cy 0).chgTick = some 7 ∧ (u.cy 0).next = some ({ dmode := true } : CycImg) ∧ (u.cy 0).nextBad ≠ 0) ∧
    Met (fun dt => .changeApply dt (0 : Fin 6)) (let s := base; let s := s.putFld (hStat (0x030 + (0))) 2 0 (cyChanging); let s := s.setCy 0 { (s.cy 0) with old := none }; let s := s.setCy 0 { (s.cy 0) with chgTick := some 7 }; let s := s.setCy 0 { (s.cy 0) with next := some ({ dmode := true } : CycImg) }; let s := s.setCy 0 { (s.cy 0) with nextBad := 0 }; s)
      (fun u => Ready u ∧ u.cycState 0 = cyChanging ∧ (u.cy 0).old = none ∧ (u.cy 0).chgTick = some 7 ∧ (u.cy 0).next = some ({ dmode := true } : CycImg) ∧ (u.cy 0).nextBad = 0 ∧ u.mapOwned 0 ({ dmode := true } : CycImg) = true)) ∧
    (Met (fun dt => .changeApply dt (0 : Fin 6)) (let s := base; let s := s.putFld (hStat (0x030 + (0))) 2 0 (cyChanging); let s := s.setCy 0 { (s.cy 0) with old := some ({ dmode := true } : CycImg) }; let s := s.setCy 0 { (s.cy 0) with img := some ({ scratch := 1, out := [] } : CycImg) }; s)
      (fun u => Ready u ∧ u.cycState 0 = cyChanging ∧ (u.cy 0).old = some ({ dmode := true } : CycImg) ∧ (u.cy 0).img = some ({ scratch := 1, out := [] } : CycImg) ∧ (u.winMeet 0 kRetained (u.rhalf 0) ({ dmode := true } : CycImg).area).migPoison 0 ({ dmode := true } : CycImg) = none) ∧
    Met (fun dt => .changeApply dt (0 : Fin 6)) (let s := base; let s := s.putFld (hStat (0x030 + (0))) 2 0 (cyChanging); let s := s.setCy 0 { (s.cy 0) with old := none }; let s := s.setCy 0 { (s.cy 0) with chgTick := some 7 }; let s := s.setCy 0 { (s.cy 0) with next := some ({ src := [{}] } : CycImg) }; let s := s.setCy 0 { (s.cy 0) with nextBad := 0 }; s)
      (fun u => Ready u ∧ u.cycState 0 = cyChanging ∧ (u.cy 0).old = none ∧ (u.cy 0).chgTick = some 7 ∧ (u.cy 0).next = some ({ src := [{}] } : CycImg) ∧ (u.cy 0).nextBad = 0 ∧ u.mapOwned 0 ({ src := [{}] } : CycImg) = false) ∧
    Met (fun dt => .pageCommitApply dt (0x002 : Fin 512)) (let s := base; let s := s.putFld (hCmtstat 0x002) 1 0 (1); let s := { s with ten := { s.ten with pend := [(0x002, { armed := true, t0 := some 7 })] } }; let s := s.putFld (hCmtstat 0x002) 1 0 1; s)
      (fun u => Ready u ∧ u.isPending 0x002 = true ∧ (u.pend 0x002).armed = true ∧ (u.pend 0x002).t0.isSome = true ∧ u.ownerHalted 0x002 = false ∧ u.descWaits 0x002 = false ∧ ∀ q ∈ u.commitGroup 0x002, u.pageCheck (u.commitGroup 0x002) q = .ok) ∧
    Met (fun dt => .pageCommitApply dt (0x050 : Fin 512)) (let s := base; let s := s.putFld (hCmtstat 0x050) 1 0 (1); let s := { s with ten := { s.ten with pend := [(0x050, { armed := true, t0 := some 7 })] } }; let s := { s with shadow := [(R.TMB_LOCKTH, 0)] }; s)
      (fun u => Ready u ∧ u.isPending 0x050 = true ∧ (u.pend 0x050).armed = true ∧ (u.pend 0x050).t0.isSome = true ∧ u.ownerHalted 0x050 = false ∧ u.descWaits 0x050 = false ∧ ∃ q ∈ u.commitGroup 0x050, u.pageCheck (u.commitGroup 0x050) q ≠ .ok)) :=
  ⟨by decide +kernel,
    by decide +kernel⟩

theorem test_hyp_XnyvasInstructionsComplete :
    Met (fun dt => .nvSnap dt ((.lane 1 false) : Init) (0 : BitVec 25) (⟨List.replicate 31 0, List.replicate 32 0, 0, 0, 0, 0⟩ : LaneCtx) (.agree : TriVote)) (let s := base; let s := s.putFld (hStat 0x031) 2 0 3; s)
      (fun u => Executes ((.lane 1 false) : Init) (1 : Fin 6) u ∧ nvFields (0 : BitVec 25) = some (0, (0 : Nat)) ∧ (⟨List.replicate 31 0, List.replicate 32 0, 0, 0, 0, 0⟩ : LaneCtx).priv.val ≤ 1 ∧ u.inDsec 1 = false ∧ u.cyRuns 1 = true ∧ Agreed ((.lane 1 false) : Init) (.agree : TriVote) u (u : State)) ∧
    Met (fun dt => .nvSnap dt ((.lane 1 false) : Init) (0 : BitVec 25) (⟨List.replicate 31 0, List.replicate 32 0, 0, 0, 0, 0⟩ : LaneCtx) (.agree : TriVote)) base
      (fun u => Executes ((.lane 1 false) : Init) (1 : Fin 6) u ∧ nvFields (0 : BitVec 25) = some (0, (0 : Nat)) ∧ (⟨List.replicate 31 0, List.replicate 32 0, 0, 0, 0, 0⟩ : LaneCtx).priv.val ≤ 1 ∧ (u.inDsec 1 = true ∨ u.cyRuns 1 = false)) ∧
    Met (fun dt => .nvCommit dt ((.lane 1 false) : Init) (32 : BitVec 25) (0 : Fin 4) (.agree : TriVote)) (let s := base; let s := s.putFld (hStat 0x031) 2 0 3; let s := { s with cyc := { s.cyc with dsec := 2 } }; let s := s.setCy 1 { (s.cy 1) with img := some {}, opn := true }; let s := s.putBit (R.CYC_CTRL 1) 0 true; s)
      (fun u => Executes ((.lane 1 false) : Init) (1 : Fin 6) u ∧ nvFields (32 : BitVec 25) = some (1, (0 : Nat)) ∧ 0 ≤ 1 ∧ (0 : Nat) = 0 ∧ u.dmode 1 = true ∧ u.inDsec 1 = true ∧ u.cyRuns 1 = true ∧ Agreed ((.lane 1 false) : Init) (.agree : TriVote) u (u : State) ∧ ((u : State).cy 1).img = some ({} : CycImg) ∧ ((u : State).cy 1).opn = true ∧ ((u : State).cy 1).retired = false ∧ (u : State).dmode 1 = true) ∧
    Met (fun dt => .nvCommit dt ((.lane 1 false) : Init) (32 : BitVec 25) (0 : Fin 4) (.agree : TriVote)) (let s := base; let s := s.putFld (hStat 0x031) 2 0 3; let s := s.setCy 1 { (s.cy 1) with img := some {}, opn := true }; s)
      (fun u => Executes ((.lane 1 false) : Init) (1 : Fin 6) u ∧ nvFields (32 : BitVec 25) = some (1, (0 : Nat)) ∧ 0 ≤ 1 ∧ u.dmode 1 = false ∧ u.inDsec 1 = false ∧ u.cyRuns 1 = true ∧ Agreed ((.lane 1 false) : Init) (.agree : TriVote) u (u : State) ∧ ((u : State).cy 1).img = some ({} : CycImg) ∧ ((u : State).cy 1).opn = true ∧ ((u : State).cy 1).retired = false ∧ (u : State).dmode 1 = false) ∧
    Met (fun dt => .nvCommit dt ((.lane 1 false) : Init) (32 : BitVec 25) (0 : Fin 4) (.agree : TriVote)) (let s := base; let s := s.putFld (hStat 0x031) 2 0 3; let s := s.setCy 1 { (s.cy 1) with img := some {} }; s)
      (fun u => Executes ((.lane 1 false) : Init) (1 : Fin 6) u ∧ nvFields (32 : BitVec 25) = some (1, (0 : Nat)) ∧ 0 ≤ 1 ∧ u.dmode 1 = false ∧ u.inDsec 1 = false ∧ u.cyRuns 1 = true ∧ Agreed ((.lane 1 false) : Init) (.agree : TriVote) u (u : State) ∧ ((u : State).cy 1).img = some ({} : CycImg) ∧ (((u : State).cy 1).opn = false ∨ ((u : State).cy 1).retired = true)) ∧
    Met (fun dt => .nvCommit dt ((.lane 1 false) : Init) (32 : BitVec 25) (0 : Fin 4) (.agree : TriVote)) base
      (fun u => Executes ((.lane 1 false) : Init) (1 : Fin 6) u ∧ nvFields (32 : BitVec 25) = some (1, (0 : Nat)) ∧ 0 ≤ 1 ∧ (u.dmode 1 = true ∧ u.inDsec 1 = false ∨ u.cyRuns 1 = false ∨ u.inDsec 1 = true ∧ (0 : Nat) ≠ 0)) ∧
    Met (fun dt => .nvAbort dt ((.lane 1 false) : Init) (64 : BitVec 25) (0 : Fin 4) (.agree : TriVote)) (let s := base; let s := s.putFld (hStat 0x031) 2 0 3; s)
      (fun u => Executes ((.lane 1 false) : Init) (1 : Fin 6) u ∧ nvFields (64 : BitVec 25) = some (2, (0 : Nat)) ∧ 0 ≤ 1 ∧ (u.dmode 1 = true → u.inDsec 1 = true) ∧ u.cyRuns 1 = true ∧ Agreed ((.lane 1 false) : Init) (.agree : TriVote) u (u : State)) ∧
    (Met (fun dt => .nvDstat dt ((.lane 1 false) : Init) (96 : BitVec 25) (0 : Fin 4)) base
      (fun u => Executes ((.lane 1 false) : Init) (1 : Fin 6) u ∧ nvFields (96 : BitVec 25) = some (3, (0 : Nat)) ∧ 0 ≤ 1) ∧
    Met (fun dt => .nvRbase dt ((.lane 1 false) : Init) (128 : BitVec 25) (0 : Fin 4)) (let s := base; let s := s.setCy 1 { (s.cy 1) with img := some {}, opn := true }; let s := s.wr (R.MEM_WATTR 0) 0x80000402; s)
      (fun u => Executes ((.lane 1 false) : Init) (1 : Fin 6) u ∧ nvFields (128 : BitVec 25) = some (4, (0 : Nat)) ∧ 0 ≤ 1 ∧ (u.cy 1).img = some ({} : CycImg) ∧ u.windowOf 1 kRetained = some 0) ∧
    Met (fun dt => .nvRbase dt ((.lane 1 false) : Init) (128 : BitVec 25) (0 : Fin 4)) base
      (fun u => Executes ((.lane 1 false) : Init) (1 : Fin 6) u ∧ nvFields (128 : BitVec 25) = some (4, (0 : Nat)) ∧ 0 ≤ 1 ∧ ((u.cy 1).img = none ∨ u.windowOf 1 kRetained = none))) ∧
    Met (fun dt => .nvRmark dt ((.lane 1 false) : Init) (160 : BitVec 25) (0 : Fin 4) (.agree : TriVote)) (let s := base; let s := s.putFld (hStat 0x031) 2 0 3; let s := s.setCy 1 { (s.cy 1) with img := some {}, opn := true }; s)
      (fun u => Executes ((.lane 1 false) : Init) (1 : Fin 6) u ∧ nvFields (160 : BitVec 25) = some (5, (0 : Nat)) ∧ 0 ≤ 1 ∧ u.dmode 1 = false ∧ u.cyRuns 1 = true ∧ Agreed ((.lane 1 false) : Init) (.agree : TriVote) u (u : State) ∧ ((u : State).cy 1).img = some ({} : CycImg) ∧ (u : State).ckOn = false) ∧
    (Met (fun dt => .nvRmark dt ((.lane 1 false) : Init) (160 : BitVec 25) (0 : Fin 4) (.agree : TriVote)) base
      (fun u => Executes ((.lane 1 false) : Init) (1 : Fin 6) u ∧ nvFields (160 : BitVec 25) = some (5, (0 : Nat)) ∧ 0 ≤ 1 ∧ (u.dmode 1 = true ∨ u.cyRuns 1 = false)) ∧
    Met (fun dt => .nvRstat dt ((.lane 1 false) : Init) (192 : BitVec 25) (0 : Fin 4)) base
      (fun u => Executes ((.lane 1 false) : Init) (1 : Fin 6) u ∧ nvFields (192 : BitVec 25) = some (6, (0 : Nat)) ∧ 0 ≤ 1) ∧
    Met (fun dt => .nvDstat dt (.lane 1 false) 0x1FFFFFF 0) base
      (fun u => Executes ((.lane 1 false) : Init) (1 : Fin 6) u ∧ (nvFields (0x1FFFFFF : BitVec 25) = none ∨ 1 < (⟨List.replicate 31 0, List.replicate 32 0, 0, 0, 0, 0⟩ : LaneCtx).priv.val)) ∧
    Met (fun dt => .primacyHeld dt) (let s := base; let s := s.putFld R.RDN_STAT 2 0 (prClaim); s)
      (fun u => Ready u ∧ u.prim = prClaim ∧ u.msSince u.rdn.claimTick 1 = true)) :=
  ⟨⟨by decide +kernel, by decide +kernel, by decide +kernel, by decide +kernel, by decide +kernel, by decide +kernel, rfl⟩,
    by decide +kernel,
    ⟨by decide +kernel, by decide +kernel, by decide +kernel, by decide +kernel, by decide +kernel, by decide +kernel, by decide +kernel, by decide +kernel, rfl, by decide +kernel, by decide +kernel, by decide +kernel, by decide +kernel⟩,
    ⟨by decide +kernel, by decide +kernel, by decide +kernel, by decide +kernel, by decide +kernel, by decide +kernel, by decide +kernel, rfl, by decide +kernel, by decide +kernel, by decide +kernel, by decide +kernel⟩,
    ⟨by decide +kernel, by decide +kernel, by decide +kernel, by decide +kernel, by decide +kernel, by decide +kernel, by decide +kernel, rfl, by decide +kernel, by decide +kernel⟩,
    by decide +kernel,
    ⟨by decide +kernel, by decide +kernel, by decide +kernel, by decide +kernel, by decide +kernel, by decide +kernel, rfl⟩,
    by decide +kernel,
    ⟨by decide +kernel, by decide +kernel, by decide +kernel, by decide +kernel, by decide +kernel, by decide +kernel, rfl, by decide +kernel, by decide +kernel⟩,
    by decide +kernel⟩

theorem test_hyp_LaneAccessesComplete :
    (Met (fun dt => .laneMemoryAccess dt (.lane (1 : Fin 4) (false : Bool)) (0x800000000 : BitVec 40) (0 : Fin 4) .load (0 : BitVec 16) (.agree : TriVote) (0 : BitVec 48)) base
      (fun u => Ready u ∧ u.live (.lane (1 : Fin 4) (false : Bool)) = true ∧ 0x800000000 ≤ (0x800000000 : BitVec 40).toNat ∧ (0x800000000 : BitVec 40).toNat + 2 ^ 0 ≤ 0x900000000 ∧ u.dramWindow (.lane (1 : Fin 4) (false : Bool)) ((0x800000000 : BitVec 40).toNat - 0x800000000) (2 ^ 0) .read = some 0) ∧
    Met (fun dt => .laneMemoryAccess dt (.lane (1 : Fin 4) (false : Bool)) (0x800000000 : BitVec 40) 3 (.store (0 : BitVec 64)) (0 : BitVec 16) (.agree : TriVote) (0 : BitVec 48)) base
      (fun u => Ready u ∧ u.live (.lane (1 : Fin 4) (false : Bool)) = true ∧ 0x800000000 ≤ (0x800000000 : BitVec 40).toNat ∧ (0x800000000 : BitVec 40).toNat + 8 ≤ 0x900000000 ∧ (0x800000000 : BitVec 40).toNat % 8 = 0 ∧ u.dramWindow (.lane (1 : Fin 4) (false : Bool)) ((0x800000000 : BitVec 40).toNat - 0x800000000) 8 .write = some 0) ∧
    Met (fun dt => .laneMemoryAccess dt (.lane (1 : Fin 4) (false : Bool)) (0x40051FFC : BitVec 40) 2 .load (0 : BitVec 16) (.agree : TriVote) (0 : BitVec 48)) base
      (fun u => Ready u ∧ u.live (.lane (1 : Fin 4) (false : Bool)) = true ∧ (0x40051FFC : BitVec 40).toNat = 0x40000000 + 4096 * 0x051 + 4 * 0x3FF) ∧
    Met (fun dt => .laneMemoryAccess dt (.lane (1 : Fin 4) (false : Bool)) (0x40051FFC : BitVec 40) 2 (.store (0 : BitVec 64)) (0 : BitVec 16) (.agree : TriVote) (0 : BitVec 48)) base
      (fun u => Ready u ∧ u.live (.lane (1 : Fin 4) (false : Bool)) = true ∧ (0x40051FFC : BitVec 40).toNat = 0x40000000 + 4096 * 0x051 + 4 * 0x3FF)) ∧
    (Met (fun dt => .laneMemoryAccess dt (.lane (1 : Fin 4) (false : Bool)) (0x7FFFFFF8 : BitVec 40) (0 : Fin 4) .load (0 : BitVec 16) (.agree : TriVote) (0 : BitVec 48)) base
      (fun u => Ready u ∧ u.live (.lane (1 : Fin 4) (false : Bool)) = true ∧ 0x70000000 ≤ (0x7FFFFFF8 : BitVec 40).toNat ∧ (0x7FFFFFF8 : BitVec 40).toNat + 8 ≤ 0x800000000) ∧
    Met (fun dt => .laneMemoryAccess dt (.lane (1 : Fin 4) (false : Bool)) (0x7FFFFFF8 : BitVec 40) (0 : Fin 4) (.store (0 : BitVec 64)) (0 : BitVec 16) (.agree : TriVote) (0 : BitVec 48)) base
      (fun u => Ready u ∧ u.live (.lane (1 : Fin 4) (false : Bool)) = true ∧ 0x70000000 ≤ (0x7FFFFFF8 : BitVec 40).toNat ∧ (0x7FFFFFF8 : BitVec 40).toNat + 8 ≤ 0x800000000)) :=
  ⟨by decide +kernel,
    by decide +kernel⟩

theorem test_hyp_SampleCommandsComplete :
    (Met (fun dt => .gridTick dt) (let s := base; let s := s.putBit R.PAD_CTRL 0 true; let s := s.putFld R.PAD_CTRL 3 2 1; let s := s.putFld (R.AXS_STAT 0) 2 0 axLocked; let s := s.setAxis 0 { (s.axis 0) with tickN := 1 }; s)
      (fun u => Ready u ∧ u.fbMove.gridSel.1 ≠ 0 ∧ u.fbMove.gridSel.1 ≠ 3 ∧ (u.fbMove.axis u.fbMove.gridAx).tickN ≠ u.fbMove.pad.seen) ∧
    Met (fun dt => .gridTick dt) (let s := base; let s := s.putBit R.PAD_CTRL 0 true; let s := s.putFld R.PAD_CTRL 3 2 1; let s := { s with pad := { s.pad with start := some 0 } }; s)
      (fun u => Ready u ∧ u.fbMove.gridSel.1 = 3 ∧ u.fbMove.pad.start = some 0) ∧
    Met (fun dt => .gridTick dt) (let s := base; let s := s.putBit R.PAD_CTRL 0 true; let s := s.putFld R.PAD_CTRL 3 2 1; s)
      (fun u => Ready u ∧ u.fbMove.gridSel.1 = 3 ∧ u.fbMove.pad.start = none ∧ u.fbMove.gridStat ≠ 3) ∧
    Met (fun dt => .gridTick dt) (let s := base; let s := s.putBit R.PAD_CTRL 0 true; let s := s.putFld R.PAD_CTRL 3 2 1; let s := s.putFld R.PAD_STAT 2 1 3; let s := { s with pad := { s.pad with fbFreq := s.fixHz, fbSpc := s.spc } }; s)
      (fun u => Ready u ∧ u.fbMove.gridSel.1 = 3 ∧ u.fbMove.pad.start = none ∧ u.fbMove.gridStat = 3)) ∧
    (Met (fun dt => .sampleSetDelivery dt ((List.replicate 24 { main := [], check := [] }) : List ChIn)) (let s := base; let s := { s with pad := { s.pad with flight := ({ num := 5 } : SampleSet) :: [] } }; s)
      (fun u => Ready u ∧ u.pad.flight = ({ num := 5 } : SampleSet) :: [] ∧ ({ num := 5 } : SampleSet).due ≤ u.ticks) ∧
    Met (fun dt => .modulatorFault dt (0 : Fin 24) true) (let s := base; let s := s.putBit R.PAD_CTRL (0) true; s)
      (fun u => Ready u ∧ u.padOn = true ∧ u.pad.onTick + 20000 ≤ u.ticks) ∧
    Met (fun dt => .modulatorFault dt (0 : Fin 24) false) (let s := base; let s := s.putBit R.PAD_CTRL (0) true; s)
      (fun u => Ready u ∧ u.padOn = true ∧ u.pad.onTick + 20000 ≤ u.ticks) ∧
    Met (fun dt => .settled dt (0 : Fin 24)) (let s := base; let s := s.putBit R.PAD_SETTLEMASK 0 true; let s := s.putBit R.PAD_SETTLEMASK 1 true; s)
      (fun u => Ready u ∧ u.bit R.PAD_SETTLEMASK 0 = true ∧ tabGet 0 u.pad.settle 0 ≤ u.pad.last.phase)) ∧
    (Met (fun dt => .livegrab dt (.boot : Init) 1) base
      (fun u => Writes (.boot : Init) 0x064 0xC00 u) ∧
    Met (fun dt => .xclr dt (.boot : Init) (0xA7000000 : Word) (0 : BitVec 48)) base
      (fun u => Writes (.boot : Init) 0x065 0xC00 u ∧ nf (0xA7000000 : Word).toNat 31 24 = 0xA7) ∧
    Met (fun dt => .xclr dt (.boot : Init) (0x0 : Word) (0 : BitVec 48)) base
      (fun u => Writes (.boot : Init) 0x065 0xC00 u ∧ nf (0x0 : Word).toNat 31 24 ≠ 0xA7) ∧
    Met (fun dt => .padCapgo dt (.boot : Init) 1) (let s := base; let s := s.putBit R.PAD_CAPSTAT 0 false; s)
      (fun u => Writes (.boot : Init) 0x067 0xC00 u ∧ u.bit R.PAD_CAPSTAT 0 = false ∧ u.fld R.PAD_CAPCFG 4 0 < 24)) ∧
    (Met (fun dt => .padCapgo dt (.boot : Init) 1) (let s := base; let s := s.putBit R.PAD_CAPSTAT 0 true; s)
      (fun u => Writes (.boot : Init) 0x067 0xC00 u ∧ u.bit R.PAD_CAPSTAT 0 = true) ∧
    Met (fun dt => .capdone dt ((List.replicate 256 ⟨0, false⟩) : List ModWord) ((List.replicate 256 ⟨0, false⟩) : List ModWord)) (let s := base; let s := { s with pad := { s.pad with cap := some ({} : PadCap) } }; s)
      (fun u => Ready u ∧ u.pad.cap = some ({} : PadCap) ∧ 3125 * (({} : PadCap).first + 255) ≤ 8 * u.ticks)) :=
  ⟨by decide +kernel,
    by decide +kernel,
    by decide +kernel,
    by decide +kernel⟩

theorem test_hyp_ConverterCommandsComplete :
    (Met (fun dt => .sarTrigger dt (0 : Fin 4)) (let s := base; let s := s.putFld (R.SAR_CTRL 0) 4 2 2; let s := { s with axs := { s.axs with strobe := [(0, [{ count := 1 }])] } }; s)
      (fun u => Ready u ∧ u.sarDue 0 = some (1, 0)) ∧
    Met (fun dt => .seqcmdGo dt (.boot : Init) (0 : Fin 4) (0x5AC00001 : Word)) base
      (fun u => KeyWrites (.boot : Init) (sarPage 0) 0xC04 0x5AC0 (0x5AC00001 : Word) u ∧ nf (0x5AC00001 : Word).toNat 1 0 = 1) ∧
    Met (fun dt => .seqcmdStop dt (.boot : Init) (0 : Fin 4) (0x5AC00002 : Word)) base
      (fun u => KeyWrites (.boot : Init) (sarPage 0) 0xC04 0x5AC0 (0x5AC00002 : Word) u ∧ nf (0x5AC00002 : Word).toNat 1 0 = 2) ∧
    Met (fun dt => .seqcmdGo dt (.boot : Init) (0 : Fin 4) (0x0 : Word)) base
      (fun u => Writes (.boot : Init) (sarPage 0) 0xC04 u ∧ nf (0x0 : Word).toNat 31 16 ≠ 0x5AC0)) ∧
    (Met (fun dt => .sarConversion dt (0 : Fin 4) (0 : BitVec 16)) (let s := base; let s := s.setSarC 0 { (s.sarC 0) with run := some {} }; s)
      (fun u => Ready u ∧ (u.sarTrim 0).old = none ∧ (u.sarTrim 0).run = some ({} : SarPass) ∧ (u.setSarC 0 (u.sarTrim 0)).reqStart 0 = none ∧ (u.setSarC 0 (u.sarTrim 0)).seqStart 0 ({} : SarPass) + 200 ≤ u.now4) ∧
    Met (fun dt => .sarConversion dt (0 : Fin 4) (0 : BitVec 16)) (let s := base; let s := s.setSarC 0 { (s.sarC 0) with req := some (0, 0, 0) }; let s := s.putBit (R.SAR_STAT 0) 2 true; s)
      (fun u => Ready u ∧ (u.sarTrim 0).old = none ∧ (u.sarTrim 0).run = none ∧ (u.setSarC 0 (u.sarTrim 0)).reqStart 0 = some 0 ∧ 0 + 200 ≤ u.now4) ∧
    Met (fun dt => .convreq dt (.boot : Init) (0 : Fin 4) (0 : Word)) (let s := base; let s := s.putFld (R.SAR_STAT (0)) 1 0 (1); let s := s.setSarC 0 { (s.sarC 0) with req := none }; let s := s.setSarC 0 { (s.sarC 0) with run := none }; let s := s.setSarC 0 { (s.sarC 0) with old := none }; s)
      (fun u => Writes (.boot : Init) (sarPage 0) 0xC00 u ∧ u.sarMode 0 ≠ 0 ∧ (u.sarC 0).req = none ∧ (u.sarC 0).run = none ∧ (u.sarC 0).old = none) ∧
    Met (fun dt => .convreq dt (.boot : Init) (0 : Fin 4) (0 : Word)) (let s := base; let s := s.putFld (R.SAR_STAT (0)) 1 0 (1); let s := s.setSarC 0 { (s.sarC 0) with req := some ((0, 0, 0) : Nat × Nat × Nat) }; s)
      (fun u => Writes (.boot : Init) (sarPage 0) 0xC00 u ∧ u.sarMode 0 ≠ 0 ∧ (u.sarC 0).req = some ((0, 0, 0) : Nat × Nat × Nat))) ∧
    (Met (fun dt => .convreq dt (.boot : Init) (0 : Fin 4) (0 : Word)) (let s := base; let s := s.putFld (R.SAR_STAT (0)) 1 0 (0); s)
      (fun u => Writes (.boot : Init) (sarPage 0) 0xC00 u ∧ u.sarMode 0 = 0) ∧
    Met (fun dt => .sarReady dt (0 : Fin 4)) (let s := base; let s := s.putFld (R.SAR_STAT (0)) 1 0 (1); let s := s.putBit (R.SAR_STAT (0)) (2) false; let s := s.setSarC 0 { (s.sarC 0) with req := none }; s)
      (fun u => Ready u ∧ u.sarMode 0 ≠ 0 ∧ u.sarReady 0 = false ∧ u.usSince (u.sarC 0).calTick 100 = true ∧ (u.sarC 0).req = none) ∧
    Met (fun dt => .sarReady dt (0 : Fin 4)) (let s := base; let s := s.putFld (R.SAR_STAT (0)) 1 0 (1); let s := s.putBit (R.SAR_STAT (0)) (2) false; let s := s.setSarC 0 { (s.sarC 0) with req := some ((0, 0, 0) : Nat × Nat × Nat) }; s)
      (fun u => Ready u ∧ u.sarMode 0 ≠ 0 ∧ u.sarReady 0 = false ∧ u.usSince (u.sarC 0).calTick 100 = true ∧ (u.sarC 0).req = some ((0, 0, 0) : Nat × Nat × Nat)) ∧
    Met (fun dt => .sarFallback dt (0 : Fin 4)) (let s := base; let s := s.putBit (R.SAR_STAT 0) 4 false; let s := s.setSarC 0 { (s.sarC 0) with run := none }; let s := s.setSarC 0 { (s.sarC 0) with old := none }; let s := s.putFld (R.SAR_FBTO 0) 23 0 1; let s := s.putFld (R.SAR_CTRL 0) 4 2 1; let s := s.putFld (R.SAR_STAT 0) 1 0 2; let s := s.putBit (R.SAR_STAT 0) 2 true; s)
      (fun u => Ready u ∧ u.sarFbto 0 = some 100 ∧ u.bit (R.SAR_STAT 0) 4 = false ∧ (u.sarC 0).run = none ∧ (u.sarC 0).old = none ∧ (u.sarC 0).trigTick + 4 * 100 ≤ u.now4)) ∧
    (Met (fun dt => .sarFallbackPass dt (0 : Fin 4)) (let s := base; let s := s.putBit (R.SAR_STAT 0) 4 true; let s := s.setSarC 0 { (s.sarC 0) with run := none }; let s := s.putFld (R.SAR_FBTO 0) 23 0 1; let s := s.putFld (R.SAR_CTRL 0) 4 2 1; let s := s.putFld (R.SAR_STAT 0) 1 0 2; let s := s.putBit (R.SAR_STAT 0) 2 true; s)
      (fun u => Ready u ∧ u.sarFbto 0 = some 100 ∧ u.bit (R.SAR_STAT 0) 4 = true ∧ (u.sarC 0).run = none ∧ (u.sarC 0).fbTick + 100 ≤ u.ticks) ∧
    Met (fun dt => .sarFallbackPass dt (0 : Fin 4)) (let s := base; let s := s.putBit (R.SAR_STAT 0) 4 true; let s := s.setSarC 0 { (s.sarC 0) with run := some ({} : SarPass) }; let s := s.putFld (R.SAR_FBTO 0) 23 0 1; let s := s.putFld (R.SAR_CTRL 0) 4 2 1; let s := s.putFld (R.SAR_STAT 0) 1 0 2; let s := s.putBit (R.SAR_STAT 0) 2 true; s)
      (fun u => Ready u ∧ u.sarFbto 0 = some 100 ∧ u.bit (R.SAR_STAT 0) 4 = true ∧ (u.sarC 0).run = some ({} : SarPass) ∧ (u.sarC 0).fbTick + 100 ≤ u.ticks) ∧
    Met (fun dt => .chkclr dt (.boot : Init) (0 : Fin 4) 1) (let s := base; let s := s.setSarC 0 { (s.sarC 0) with refDev := some 0 }; s)
      (fun u => Writes (.boot : Init) (sarPage 0) 0xC0C u ∧ (u.sarC 0).refDev = some 0 ∧ 0 ≤ u.fld (R.SAR_REFTOL 0) 7 0) ∧
    Met (fun dt => .sarCntclr dt (.boot : Init) (0 : Fin 4) 1) base
      (fun u => Writes (.boot : Init) (sarPage 0) 0xC08 u)) :=
  ⟨by decide +kernel,
    by decide +kernel,
    by decide +kernel,
    by decide +kernel⟩

theorem test_hyp_PulsesAndBreakersComplete :
    (Met (fun dt => .tripPulseStart dt (0 : Fin 8)) (let s := base; let s := s.putFld R.PRE_STAT 1 0 (engRun); let s := s.setPreOut 0 { (s.preOut 0) with edge := some ((0 : Nat), (0 : Nat), (0 : Nat)) }; let s := s.setPreOut 0 { (s.preOut 0) with act := false }; let s := s.setPreOut 0 { (s.preOut 0) with ended := 0 }; let s := s.putBit (R.PRE_TOCFG 0) 0 true; s)
      (fun u => Ready u ∧ u.engine = engRun ∧ u.outOn 0 = true ∧ (u.preOut 0).edge = some ((0 : Nat), (0 : Nat), (0 : Nat)) ∧ (u.preOut 0).act = false ∧ ((u.preOut 0).ended = 0 ∨ (u.preOut 0).ended + 2000000 ≤ u.ticks + 1)) ∧
    Met (fun dt => .tripPulseEnd dt (0 : Fin 8) (0 : BitVec 16)) (let s := base; let s := s.setPreOut 0 { (s.preOut 0) with act := true }; let s := s.setPreOut 0 { (s.preOut 0) with test := false }; s)
      (fun u => Ready u ∧ (u.preOut 0).act = true ∧ (u.preOut 0).test = false ∧ 20000000 ≤ u.ticks - (u.preOut 0).start) ∧
    Met (fun dt => .tripPulseEnd dt (0 : Fin 8) (0 : BitVec 16)) (let s := base; let s := s.setPreOut 0 { (s.preOut 0) with act := true }; let s := s.setPreOut 0 { (s.preOut 0) with test := false }; let s := s.setPreOut 0 { (s.preOut 0) with start := s.ticks - 19999999 }; s)
      (fun u => Ready u ∧ (u.preOut 0).act = true ∧ (u.preOut 0).test = false ∧ u.ticks - (u.preOut 0).start < 20000000 ∧ u.pulseTicks 0 ≤ u.ticks - (u.preOut 0).start ∧ nb u.pre.demand 0 = false) ∧
    Met (fun dt => .closePulseStart dt (0 : Fin 4)) (let s := base; let s := s.putFld R.PRE_STAT 1 0 (engRun); let s := s.setPreOut (8 + 0) { (s.preOut (8 + 0)) with edge := some ((0 : Nat), (0 : Nat), (0 : Nat)) }; let s := s.setPreOut (8 + 0) { (s.preOut (8 + 0)) with act := false }; let s := s.putBit (R.PRE_COCFG 0) 0 true; s)
      (fun u => Ready u ∧ u.engine = engRun ∧ u.outOn (8 + 0) = true ∧ (u.preOut (8 + 0)).edge = some ((0 : Nat), (0 : Nat), (0 : Nat)) ∧ (u.preOut (8 + 0)).act = false ∧ ∀ b ∈ u.closeBrks 0, nb u.pre.demand (u.brkTrip b) = false ∧ (u.preOut (u.brkTrip b)).act = false)) ∧
    (Met (fun dt => .closePulseStart dt (0 : Fin 4)) (let s := base; let s := s.putFld R.PRE_STAT 1 0 (engRun); let s := s.setPreOut (8 + 0) { (s.preOut (8 + 0)) with edge := some ((0 : Nat), (0 : Nat), (0 : Nat)) }; let s := s.setPreOut (8 + 0) { (s.preOut (8 + 0)) with act := false }; let s := s.putBit (R.PRE_COCFG 0) 0 true; let s := s.wr (R.PRE_BRKCFG 0) 0x41; let s := { s with pre := { s.pre with demand := 1 } }; s)
      (fun u => Ready u ∧ u.engine = engRun ∧ u.outOn (8 + 0) = true ∧ (u.preOut (8 + 0)).edge = some ((0 : Nat), (0 : Nat), (0 : Nat)) ∧ (u.preOut (8 + 0)).act = false ∧ ∃ b ∈ u.closeBrks 0, nb u.pre.demand (u.brkTrip b) = true ∨ (u.preOut (u.brkTrip b)).act = true) ∧
    Met (fun dt => .closePulseEnd dt (0 : Fin 4) (0 : BitVec 16)) (let s := base; let s := s.setPreOut (8 + 0) { (s.preOut (8 + 0)) with act := true }; s)
      (fun u => Ready u ∧ (u.preOut (8 + 0)).act = true ∧ (u.preOut (8 + 0)).start + u.pulseTicks (8 + 0) ≤ u.ticks) ∧
    Met (fun dt => .tcsflt dt (0 : Fin 12) true) (let s := base; let s := s.setPreOut 0 { (s.preOut 0) with act := false }; let s := s.putBit (R.PRE_TOCFG 0) 16 true; s)
      (fun u => Ready u ∧ (if 0 < 8 then nb (u.outReg (R.PRE_TOCFG 0)) 16 else nb (u.outReg (R.PRE_COCFG (0 - 8))) 16) = true ∧ (u.preOut 0).act = false) ∧
    Met (fun dt => .tcsflt dt (0 : Fin 12) false) base
      (fun u => Ready u)) ∧
    (Met (fun dt => .drvflt dt (0 : Fin 12) true) (let s := base; let s := s.setPreOut 0 { (s.preOut 0) with act := false }; s)
      (fun u => Ready u ∧ ((u.preOut 0).act = false ∨ u.rdn.gates = false)) ∧
    Met (fun dt => .drvflt dt (0 : Fin 12) false) base
      (fun u => Ready u) ∧
    Met (fun dt => .tfail dt (0 : Fin 12)) (let s := base; let s := s.setPreOut 0 { (s.preOut 0) with act := true }; s)
      (fun u => Ready u ∧ (u.preOut 0).act = true ∧ (u.preOut 0).start + 200000 ≤ u.ticks) ∧
    Met (fun dt => .breakerCurrentLow dt (0 : Fin 8)) (let s := base; let s := s.setBrk 0 { (s.brk 0) with run := true }; let s := s.setBrk 0 { (s.brk 0) with low := true }; let s := s.putBit (R.PRE_BRKCFG 0) 0 true; s)
      (fun u => Ready u ∧ u.brkOn 0 = true ∧ (u.brk 0).run = true ∧ (u.brk 0).low = true)) :=
  ⟨by decide +kernel,
    by decide +kernel,
    by decide +kernel⟩

theorem test_hyp_ProtectionCommandsComplete_3 (h : crc32c (memBytes [] 0x10000 0x4000) = 2489584517) :
    Met (fun dt => .groupSealDone dt) (let s := base; let s := { s with pre := { s.pre with sealing := (0 : Nat) :: ([] : List Nat) } }; let s := s.wr (R.PRE_GRPCRC 0) 2489584517; s)
      (fun u => Ready u ∧ u.pre.sealing = (0 : Nat) :: ([] : List Nat) ∧ ({ u with pre := { u.pre with sealing := ([] : List Nat) } } : State).grpBadPar (0 : Nat) = none ∧ ({ u with pre := { u.pre with sealing := ([] : List Nat) } } : State).grpCrcOk (0 : Nat) = true) :=
  ⟨by decide +kernel, by decide +kernel, by decide +kernel, by decide +kernel, grpCrcOk_of h (by decide +kernel) (by decide +kernel)⟩

theorem test_hyp_ProtectionCommandsComplete :
    (Met (fun dt => .grpcmdSeal dt (.boot : Init) (0x5E170001 : Word)) base
      (fun u => KeyWrites (.boot : Init) 0x075 0xC00 0x5E17 (0x5E170001 : Word) u ∧ nf (0x5E170001 : Word).toNat 1 0 = 1) ∧
    Met (fun dt => .grpcmdUnseal dt (.boot : Init) (0x5E170002 : Word)) base
      (fun u => KeyWrites (.boot : Init) 0x075 0xC00 0x5E17 (0x5E170002 : Word) u ∧ nf (0x5E170002 : Word).toNat 1 0 = 2 ∧ (u.engine ≠ engRun ∨ nf (0x5E170002 : Word).toNat 5 4 ≠ u.preGroup)) ∧
    Met (fun dt => .grpcmdUnseal dt (.boot : Init) (0x5E170002 : Word)) (let s := base; let s := s.putFld R.PRE_STAT 1 0 (engRun); s)
      (fun u => KeyWrites (.boot : Init) 0x075 0xC00 0x5E17 (0x5E170002 : Word) u ∧ nf (0x5E170002 : Word).toNat 1 0 = 2 ∧ u.engine = engRun ∧ nf (0x5E170002 : Word).toNat 5 4 = u.preGroup) ∧
    Met (fun dt => .groupSealDone dt) (let s := base; let s := { s with pre := { s.pre with sealing := (0 : Nat) :: ([] : List Nat) } }; let s := { s with pre := { s.pre with mem := [(7, 0x10), (15, 0x3F)] } }; s)
      (fun u => Ready u ∧ u.pre.sealing = (0 : Nat) :: ([] : List Nat) ∧ ({ u with pre := { u.pre with sealing := ([] : List Nat) } } : State).grpBadPar (0 : Nat) = some 0x1000C)) ∧
    (Met (fun dt => .outtest dt (.boot : Init) (0x7C1D0000 : Word)) (let s := base; let s := s.putFld R.PRE_STAT 1 0 (engOff); let s := s.setPreOut (nf (0x7C1D0000 : Word).toNat 3 0) { (s.preOut (nf (0x7C1D0000 : Word).toNat 3 0)) with act := false }; s)
      (fun u => KeyWrites (.boot : Init) 0x06A 0xC00 0x7C1D (0x7C1D0000 : Word) u ∧ u.engine = engOff ∧ nf (0x7C1D0000 : Word).toNat 3 0 < 8 ∧ (u.preOut (nf (0x7C1D0000 : Word).toNat 3 0)).act = false) ∧
    Met (fun dt => .outtest dt (.boot : Init) (0x7C1D0008 : Word)) base
      (fun u => KeyWrites (.boot : Init) 0x06A 0xC00 0x7C1D (0x7C1D0008 : Word) u ∧ u.engine = engOff ∧ 8 ≤ nf (0x7C1D0008 : Word).toNat 3 0 ∧ nf (0x7C1D0008 : Word).toNat 3 0 ≤ 11 ∧ (u.preOut (nf (0x7C1D0008 : Word).toNat 3 0)).act = false) ∧
    Met (fun dt => .outtest dt (.boot : Init) (0x7C1D0000 : Word)) (let s := base; let s := s.putFld R.PRE_STAT 1 0 engRun; s)
      (fun u => KeyWrites (.boot : Init) 0x06A 0xC00 0x7C1D (0x7C1D0000 : Word) u ∧ (u.engine ≠ engOff ∨ 11 < nf (0x7C1D0000 : Word).toNat 3 0)) ∧
    Met (fun dt => .outtest dt (.boot : Init) (0x0 : Word)) base
      (fun u => Writes (.boot : Init) 0x06A 0xC00 u ∧ nf (0x0 : Word).toNat 31 16 ≠ 0x7C1D)) ∧
    (Met (fun dt => .mlcmd dt (.boot : Init) (0xB4D10001 : Word)) base
      (fun u => KeyWrites (.boot : Init) 0x074 0xC00 0xB4D1 (0xB4D10001 : Word) u ∧ nf (0xB4D10001 : Word).toNat 3 0 = 1 ∧ nf (0xB4D10001 : Word).toNat 5 4 ≤ 2 ∧ 2 ≤ (u.mactive.filter (fun x => x != nf (0xB4D10001 : Word).toNat 5 4)).length ∧ u.mlane (nf (0xB4D10001 : Word).toNat 5 4) ≠ 4) ∧
    Met (fun dt => .mlcmd dt (.boot : Init) (0xB4D10000 : Word)) (let s := base; let s := s.wr R.PRE_MLSTAT 0x010; s)
      (fun u => KeyWrites (.boot : Init) 0x074 0xC00 0xB4D1 (0xB4D10000 : Word) u ∧ (u.mactive.filter (fun x => x != nf (0xB4D10000 : Word).toNat 5 4)).length < 2) ∧
    Met (fun dt => .wearclr dt (.boot : Init) (0x3E9A0000 : Word)) base
      (fun u => KeyWrites (.boot : Init) 0x06A 0xC08 0x3E9A (0x3E9A0000 : Word) u) ∧
    Met (fun dt => .preCntclr dt (.boot : Init) 1) base
      (fun u => Writes (.boot : Init) 0x068 0xC00 u)) ∧
    (Met (fun dt => .preOutCntclr dt ((.lane 1 false) : Init) 1) (let s := base; let s := s.putFld (R.TEN_OWN (0x068 / 4)) (8 * (0x068 % 4) + 7) (8 * (0x068 % 4)) 2; s)
      (fun u => Writes ((.lane 1 false) : Init) 0x06A 0xC04 u) ∧
    Met (fun dt => .preMemoryWrite dt ((.lane 1 false) : Init) (0 : Fin 262144) ([1] : List Byte)) (let s := base; let s := s.putFld (R.TEN_OWN (0x068 / 4)) (8 * (0x068 % 4) + 7) (8 * (0x068 % 4)) 2; s)
      (fun u => Ready u ∧ u.live ((.lane 1 false) : Init) = true ∧ u.partOf ((.lane 1 false) : Init) = some 1 ∧ u.owns 1 0x068 = true ∧ u.inDsec 1 = false ∧ 0 % ([1] : List Byte).length = 0 ∧ u.preMemOpen 0 = true) ∧
    Met (fun dt => .preMemoryWrite dt ((.lane 1 false) : Init) (0 : Fin 262144) ([1] : List Byte)) (let s := base; let s := s.putFld (R.TEN_OWN (0x068 / 4)) (8 * (0x068 % 4) + 7) (8 * (0x068 % 4)) 2; let s := s.putFld R.PRE_STAT 1 0 engRun; s)
      (fun u => Ready u ∧ u.live ((.lane 1 false) : Init) = true ∧ u.partOf ((.lane 1 false) : Init) = some 1 ∧ u.owns 1 0x068 = true ∧ u.inDsec 1 = false ∧ 0 % ([1] : List Byte).length = 0 ∧ u.preMemOpen 0 = false) ∧
    Met (fun dt => .preMemoryUe dt (0 : Fin 196608)) base
      (fun u => Ready u ∧ (0 < 0x10000 ∨ 0x20000 ≤ 0))) ∧
    Met (fun dt => .preMemoryUe dt (0x10000 : Fin 196608)) base
      (fun u => Ready u ∧ 0x10000 ≤ 0x10000 ∧ 0x10000 < 0x20000 ∧ (u.engine ≠ engRun ∨ (0x10000 - 0x10000) / 0x4000 ≠ u.preGroup)) :=
  ⟨by decide +kernel,
    by decide +kernel,
    by decide +kernel,
    by decide +kernel,
    by decide +kernel⟩

theorem test_hyp_RecorderCommandsComplete_16 (h : (((let s := base; let s := s.putBit R.DRC_EXPSTAT 0 false; let s := { s with drc := { s.drc with arc := [(0, {})] } }; let s := s.wr64 R.DRC_EXPDST 0x800000000; let s := s.wr R.DRC_EXPMAX 0x10000; let s := s.putFld (R.TEN_OWN (0x080 / 4)) (8 * (0x080 % 4) + 7) (8 * (0x080 % 4)) 2; s).elapse 0).ack.cfgFile {}).length = 400) :
    Met (fun dt => .expcmdCfg dt (.boot : Init) (0x9D2B0000 : Word)) (let s := base; let s := s.putBit R.DRC_EXPSTAT 0 false; let s := { s with drc := { s.drc with arc := [(0, {})] } }; let s := s.wr64 R.DRC_EXPDST 0x800000000; let s := s.wr R.DRC_EXPMAX 0x10000; let s := s.putFld (R.TEN_OWN (0x080 / 4)) (8 * (0x080 % 4) + 7) (8 * (0x080 % 4)) 2; s)
      (fun u => KeyWrites (.boot : Init) 0x082 0xC00 0x9D2B (0x9D2B0000 : Word) u ∧ nf (0x9D2B0000 : Word).toNat 1 0 = 0 ∧ u.bit R.DRC_EXPSTAT 0 = false ∧ tabFind u.drc.arc (u.rd R.DRC_ASEL) = some ({} : DrcArc) ∧ u.ack.cfgFile ({} : DrcArc) = (u.ack.cfgFile {}) ∧ u.ack.expTarget u.drcOwner (u.rd64 R.DRC_EXPDST) (u.ack.cfgFile {}).length = true ∧ (u.ack.cfgFile {}).length ≤ u.rd R.DRC_EXPMAX) :=
  ⟨by decide +kernel, by decide +kernel, by decide +kernel, by decide +kernel, by decide +kernel, rfl, by rw [h]; decide +kernel, by rw [h]; decide +kernel⟩

theorem test_hyp_RecorderCommandsComplete :
    (Met (fun dt => .engineTick dt (.agree : MantisVote)) (let s := base; let s := { s with pre := { s.pre with waiting := [{ num := 5 }], latch := some {} } }; let s := s.putFld R.PRE_STAT 1 0 engRun; s)
      (fun u => Ready u ∧ u.pre.waiting = ({ num := 5 } : SampleSet) :: [] ∧ u.engine = engRun ∧ u.pre.latch.isSome = true) ∧
    Met (fun dt => .engineTick dt (.agree : MantisVote)) (let s := base; let s := s.putFld R.PRE_STAT 1 0 engOff; s)
      (fun u => Ready u ∧ (u.engine ≠ engRun ∨ u.pre.waiting = [])) ∧
    Met (fun dt => .drcTrigger dt) (let s := base; let s := { s with drc := { s.drc with trig := [({ tick := { frame := some 3, cfg := { retrig := true } } } : DrcTrig)] } }; let s := s.putFld R.DRC_STAT 1 0 drcBlocked; s)
      (fun u => Ready u ∧ u.drc.trig = ({ tick := { frame := some 3, cfg := { retrig := true } } } : DrcTrig) :: [] ∧ (u.pre.waiting.any fun w => decide (w.num ≤ ({ tick := { frame := some 3, cfg := { retrig := true } } } : DrcTrig).tick.set)) = false ∧ u.drcSettle.drcState = drcBlocked) ∧
    Met (fun dt => .drcTrigger dt) (let s := base; let s := { s with drc := { s.drc with trig := [({ tick := { frame := some 3, cfg := { retrig := true } } } : DrcTrig)] } }; let s := s.putFld R.DRC_STAT 1 0 drcPost; s)
      (fun u => Ready u ∧ u.drc.trig = ({ tick := { frame := some 3, cfg := { retrig := true } } } : DrcTrig) :: [] ∧ (u.pre.waiting.any fun w => decide (w.num ≤ ({ tick := { frame := some 3, cfg := { retrig := true } } } : DrcTrig).tick.set)) = false ∧ ({ tick := { frame := some 3, cfg := { retrig := true } } } : DrcTrig).tick.frame = some 3 ∧ u.drcSettle.drcState = drcPost ∧ ({ tick := { frame := some 3, cfg := { retrig := true } } } : DrcTrig).tick.cfg.retrig = true)) ∧
    (Met (fun dt => .drcTrigger dt) (let s := base; let s := { s with drc := { s.drc with trig := [({ tick := { frame := some 3, cfg := { retrig := false } } } : DrcTrig)] } }; let s := s.putFld R.DRC_STAT 1 0 drcPost; s)
      (fun u => Ready u ∧ u.drc.trig = ({ tick := { frame := some 3, cfg := { retrig := false } } } : DrcTrig) :: [] ∧ (u.pre.waiting.any fun w => decide (w.num ≤ ({ tick := { frame := some 3, cfg := { retrig := false } } } : DrcTrig).tick.set)) = false ∧ ({ tick := { frame := some 3, cfg := { retrig := false } } } : DrcTrig).tick.frame = some 3 ∧ u.drcSettle.drcState = drcPost ∧ ({ tick := { frame := some 3, cfg := { retrig := false } } } : DrcTrig).tick.cfg.retrig = false) ∧
    Met (fun dt => .drcTrigger dt) (let s := base; let s := { s with drc := { s.drc with trig := [({ tick := { frame := some 3, cfg := { retrig := false } } } : DrcTrig)] } }; let s := s.putFld R.DRC_STAT 1 0 drcArmed; s)
      (fun u => Ready u ∧ u.drc.trig = ({ tick := { frame := some 3, cfg := { retrig := false } } } : DrcTrig) :: [] ∧ (u.pre.waiting.any fun w => decide (w.num ≤ ({ tick := { frame := some 3, cfg := { retrig := false } } } : DrcTrig).tick.set)) = false ∧ ({ tick := { frame := some 3, cfg := { retrig := false } } } : DrcTrig).tick.frame = some 3 ∧ u.drcSettle.drcState = drcArmed) ∧
    Met (fun dt => .trgnow dt (.boot : Init) 1) (let s := base; let s := s.putFld R.DRC_STAT 1 0 drcArmed; s)
      (fun u => Writes (.boot : Init) 0x080 0xC00 u ∧ u.drcState ≠ drcOff) ∧
    Met (fun dt => .archiveCopyStart dt) (let s := base; let s := s.putBit R.DRC_CTRL 2 true; let s := s.putBit R.DRC_CTRL 3 true; let s := { s with drc := { s.drc with failed := none } }; let s := { s with drc := { s.drc with copying := none } }; let s := { s with drc := { s.drc with slots := [(0, { st := 2 })] } }; s)
      (fun u => Ready u ∧ u.bit R.DRC_CTRL 2 = true ∧ u.bit R.DRC_CTRL 3 = true ∧ u.drc.failed = none ∧ u.drc.copying = none ∧ u.oldestComplete = some (0 : Nat) ∧ u.arcFits (u.slot (0 : Nat)).size = true)) ∧
    (Met (fun dt => .archdone dt) (let s := base; let s := { s with drc := { s.drc with copying := some (0 : Nat) } }; s)
      (fun u => Ready u ∧ u.drc.copying = some (0 : Nat)) ∧
    Met (fun dt => .archIo dt) (let s := base; let s := { s with drc := { s.drc with copying := some (0 : Nat) } }; s)
      (fun u => Ready u ∧ u.drc.copying = some (0 : Nat)) ∧
    Met (fun dt => .arcmdProtect dt (.boot : Init) (0x9D2C0001 : Word)) (let s := base; let s := { s with drc := { s.drc with arc := [(0, {})] } }; s)
      (fun u => KeyWrites (.boot : Init) 0x082 0xC04 0x9D2C (0x9D2C0001 : Word) u ∧ nf (0x9D2C0001 : Word).toNat 2 0 = 1 ∧ tabFind u.drc.arc (u.rd R.DRC_ASEL) = some ({} : DrcArc)) ∧
    Met (fun dt => .arcmdUnprotect dt (.boot : Init) (0x9D2C0002 : Word)) (let s := base; let s := { s with drc := { s.drc with arc := [(0, {})] } }; s)
      (fun u => KeyWrites (.boot : Init) 0x082 0xC04 0x9D2C (0x9D2C0002 : Word) u ∧ nf (0x9D2C0002 : Word).toNat 2 0 = 2 ∧ tabFind u.drc.arc (u.rd R.DRC_ASEL) = some ({} : DrcArc))) ∧
    (Met (fun dt => .arcmdDelete dt (.boot : Init) (0x9D2C0003 : Word)) (let s := base; let s := { s with drc := { s.drc with exp := none } }; s)
      (fun u => KeyWrites (.boot : Init) 0x082 0xC04 0x9D2C (0x9D2C0003 : Word) u ∧ nf (0x9D2C0003 : Word).toNat 2 0 = 3 ∧ u.drc.exp = none) ∧
    Met (fun dt => .arcmdRelease dt (.boot : Init) (0x9D2C0004 : Word)) (let s := base; let s := s.putBit R.DRC_CTRL 2 false; let s := s.setSlot (s.fld R.DRC_DSEL 3 0) { (s.slot (s.fld R.DRC_DSEL 3 0)) with st := 2 }; s)
      (fun u => KeyWrites (.boot : Init) 0x082 0xC04 0x9D2C (0x9D2C0004 : Word) u ∧ nf (0x9D2C0004 : Word).toNat 2 0 = 4 ∧ u.bit R.DRC_CTRL 2 = false ∧ (u.slot (u.fld R.DRC_DSEL 3 0)).st = 2) ∧
    Met (fun dt => .arcmdRetry dt (.boot : Init) (0x9D2C0005 : Word)) base
      (fun u => KeyWrites (.boot : Init) 0x082 0xC04 0x9D2C (0x9D2C0005 : Word) u ∧ nf (0x9D2C0005 : Word).toNat 2 0 = 5) ∧
    Met (fun dt => .arcmdRetry dt (.boot : Init) (0x0 : Word)) base
      (fun u => Writes (.boot : Init) 0x082 0xC04 u ∧ nf (0x0 : Word).toNat 31 16 ≠ 0x9D2C)) ∧
    (Met (fun dt => .expcmdHdr dt (.boot : Init) (0x9D2B0001 : Word)) (let s := base; let s := s.putBit R.DRC_EXPSTAT 0 false; let s := { s with drc := { s.drc with arc := [(0, {})] } }; let s := s.wr64 R.DRC_EXPDST 0x800000000; let s := s.wr R.DRC_EXPMAX 0x10000; let s := s.putFld (R.TEN_OWN (0x080 / 4)) (8 * (0x080 % 4) + 7) (8 * (0x080 % 4)) 2; s)
      (fun u => KeyWrites (.boot : Init) 0x082 0xC00 0x9D2B (0x9D2B0001 : Word) u ∧ nf (0x9D2B0001 : Word).toNat 1 0 = 1 ∧ u.bit R.DRC_EXPSTAT 0 = false ∧ tabFind u.drc.arc (u.rd R.DRC_ASEL) = some ({} : DrcArc) ∧ u.ack.hdrFile ({} : DrcArc) = (u.ack.hdrFile {}) ∧ u.ack.expTarget u.drcOwner (u.rd64 R.DRC_EXPDST) (u.ack.hdrFile {}).length = true ∧ (u.ack.hdrFile {}).length ≤ u.rd R.DRC_EXPMAX) ∧
    Met (fun dt => .expcmdDat dt (.boot : Init) (0x9D2B0002 : Word)) (let s := base; let s := s.putBit R.DRC_EXPSTAT 0 false; let s := { s with drc := { s.drc with arc := [(0, {})] } }; let s := s.wr64 R.DRC_EXPDST 0x800000000; let s := s.wr R.DRC_EXPMAX 0x10000; let s := s.putFld (R.TEN_OWN (0x080 / 4)) (8 * (0x080 % 4) + 7) (8 * (0x080 % 4)) 2; s)
      (fun u => KeyWrites (.boot : Init) 0x082 0xC00 0x9D2B (0x9D2B0002 : Word) u ∧ nf (0x9D2B0002 : Word).toNat 1 0 = 2 ∧ u.bit R.DRC_EXPSTAT 0 = false ∧ tabFind u.drc.arc (u.rd R.DRC_ASEL) = some ({} : DrcArc) ∧ u.ack.datFile ({} : DrcArc) = (u.ack.datFile {}) ∧ u.ack.expTarget u.drcOwner (u.rd64 R.DRC_EXPDST) (u.ack.datFile {}).length = true ∧ (u.ack.datFile {}).length ≤ u.rd R.DRC_EXPMAX) ∧
    Met (fun dt => .expcmdDat dt (.boot : Init) (0x9D2B0002 : Word)) (let s := base; let s := s.putBit R.DRC_EXPSTAT 0 false; s)
      (fun u => KeyWrites (.boot : Init) 0x082 0xC00 0x9D2B (0x9D2B0002 : Word) u ∧ nf (0x9D2B0002 : Word).toNat 1 0 = 2 ∧ u.bit R.DRC_EXPSTAT 0 = false ∧ tabFind u.drc.arc (u.rd R.DRC_ASEL) = none) ∧
    Met (fun dt => .expdone dt) (let s := base; let s := { s with drc := { s.drc with exp := some ({} : DrcExp) } }; s)
      (fun u => Ready u ∧ u.drc.exp = some ({} : DrcExp) ∧ (u.dmaWrite 0x080 0x0C ({} : DrcExp).dst ({} : DrcExp).data).2 ≠ .ok)) ∧
    (Met (fun dt => .expdone dt) (let s := base; let s := { s with drc := { s.drc with exp := some ({ dst := 0x800000000, data := [1] } : DrcExp) } }; let s := s.putFld (R.TEN_OWN (0x080 / 4)) (8 * (0x080 % 4) + 7) (8 * (0x080 % 4)) 2; s)
      (fun u => Ready u ∧ u.drc.exp = some ({ dst := 0x800000000, data := [1] } : DrcExp) ∧ (u.dmaWrite 0x080 0x0C ({ dst := 0x800000000, data := [1] } : DrcExp).dst ({ dst := 0x800000000, data := [1] } : DrcExp).data).2 = .ok) ∧
    Met (fun dt => .drcCntclr dt (.boot : Init) 1) base
      (fun u => Writes (.boot : Init) 0x080 0xC04 u)) :=
  ⟨by decide +kernel,
    by decide +kernel,
    by decide +kernel,
    by decide +kernel,
    by decide +kernel,
    by decide +kernel⟩

theorem test_hyp_DigitalInputsAndOutputsComplete :
    (Met (fun dt => .diRawEdge dt (0 : Fin 48) (0 : Fin 8) (false : Bool)) base
      (fun u => Ready u) ∧
    Met (fun dt => .diEdgeAccept dt (0 : Fin 48)) (let s := base; let s := s.putBit R.DIO_CTRL (((0) / 8)) true; let s := s.setDi 0 { (s.di 0) with chg := some (0, 0, 0) }; s)
      (fun u => Ready u ∧ u.diOn 0 = true ∧ u.diDue 0 = true) ∧
    Met (fun dt => .eqpop dt (.boot : Init) (0 : Fin 6)) (let s := base; let s := s.putBit R.DIO_EQMAP 0 false; let s := { s with dio := { s.dio with eq := [(0, [(5, 3, true)])] } }; s)
      (fun u => Reads (.boot : Init) 0x092 (0xC00 + 4 * 0) u ∧ u.bit R.DIO_EQMAP 0 = false ∧ u.edges 0 = (5, 3, true) :: ([] : List (Nat × Nat × Bool))) ∧
    Met (fun dt => .eqpop dt (.boot : Init) (0 : Fin 6)) (let s := base; let s := s.putBit R.DIO_EQMAP 0 false; s)
      (fun u => Reads (.boot : Init) 0x092 (0xC00 + 4 * 0) u ∧ u.bit R.DIO_EQMAP 0 = false ∧ u.edges 0 = [])) ∧
    (Met (fun dt => .eqpop dt (.boot : Init) (0 : Fin 6)) (let s := base; let s := s.putBit R.DIO_EQMAP 0 true; s)
      (fun u => Reads (.boot : Init) 0x092 (0xC00 + 4 * 0) u ∧ u.bit R.DIO_EQMAP 0 = true) ∧
    Met (fun dt => .ovld dt (0 : Fin 32)) (let s := base; let s := s.setDoCh (s.doLead 0) { (s.doCh (s.doLead 0)) with pulse := false }; let s := s.setDoCh 0 { (s.doCh 0) with cmd := [(0, true)] }; s)
      (fun u => Ready u ∧ u.doHeld (u.doLead 0) = true ∧ (u.doCh (u.doLead 0)).pulse = false) ∧
    Met (fun dt => .ovld dt (0 : Fin 32)) (let s := base; let s := s.setDoCh (s.doLead 0) { (s.doCh (s.doLead 0)) with pulse := true }; let s := s.setDoCh (s.doLead 0) { (s.doCh (s.doLead 0)) with disc := false }; let s := s.setDoCh 0 { (s.doCh 0) with cmd := [(0, true)] }; s)
      (fun u => Ready u ∧ u.doHeld (u.doLead 0) = true ∧ (u.doCh (u.doLead 0)).pulse = true ∧ (u.doCh (u.doLead 0)).disc = false) ∧
    Met (fun dt => .doOpenLoad dt (0 : Fin 32) false (0 : Fin 4096)) base
      (fun u => Ready u)) ∧
    (Met (fun dt => .doOpenLoad dt (0 : Fin 32) true (0 : Fin 4096)) (let s := base; let s := s.setDoCh 0 { (s.doCh 0) with cmd := [(0, true)] }; let s := s.putBit (R.DO_CHCFG 0 0) 14 true; s)
      (fun u => Ready u ∧ 0 < 5 ∧ (u.wr (R.DO_ICH (0 / 8) (0 % 8)) 0).bit (R.DO_CHCFG (0 / 8) ((u.wr (R.DO_ICH (0 / 8) (0 % 8)) 0).doLead 0 % 8)) 14 = true ∧ (u.wr (R.DO_ICH (0 / 8) (0 % 8)) 0).doMode ((u.wr (R.DO_ICH (0 / 8) (0 % 8)) 0).doLead 0) = 0 ∧ (u.wr (R.DO_ICH (0 / 8) (0 % 8)) 0).doHeld 0 = true ∧ (u.wr (R.DO_ICH (0 / 8) (0 % 8)) 0).msSince (max ((u.wr (R.DO_ICH (0 / 8) (0 % 8)) 0).doCh 0).since ((u.wr (R.DO_ICH (0 / 8) (0 % 8)) 0).doCh 0).loadTick) 100 = true) ∧
    Met (fun dt => .rbflt dt (0 : Fin 32) (false : Bool)) (let s := base; let s := s.setDoCh 0 { (s.doCh 0) with cmd := [(0, true)] }; s)
      (fun u => Ready u ∧ u.rbOpen 0 = true ∧ u.doMode (u.doLead 0) ≠ 1 ∧ (false : Bool) ≠ (u.doCh 0).drv ∧ u.rbLong 0 = true) ∧
    Met (fun dt => .stuckLatch dt (0 : Fin 32)) (let s := base; let s := s.putBit (R.DO_SAFEMASK 0) 0 true; s)
      (fun u => Ready u ∧ u.doSafety 0 = true ∧ (u.doCh 0).drv = false ∧ u.rbOpen 0 = true ∧ u.rbLong 0 = true) ∧
    Met (fun dt => .pwmPeriodStart dt (0 : Fin 4)) (let s := base; let s := s.putBit (R.DO_CTRL (0)) (0) true; s)
      (fun u => Ready u ∧ u.doEn 0 = true ∧ u.pwmIn 0 / 40 ≠ 0 ∧ u.pwmBegin 0 + 1 ≠ (u.doGrp 0).perAt)) ∧
    (Met (fun dt => .pwmOffEdge dt (0 : Fin 32)) (let s := base; let s := s.putFld (R.DO_CHCFG ((0) / 8) ((0) % 8)) 1 0 (1); let s := s.setDoCh 0 { (s.doCh 0) with pwm := true }; let s := s.setDoGrp 0 { (s.doGrp 0) with per := 1 }; s)
      (fun u => Ready u ∧ u.doMode 0 = 1 ∧ (u.doCh 0).pwm = true ∧ (u.doCh 0).onTicks < (u.doGrp (0 / 8)).per ∧ (u.doGrp (0 / 8)).perTick + (u.doCh 0).onTicks ≤ u.ticks) ∧
    Met (fun dt => .testPulseStart dt (0 : Fin 32)) (let s := base; let s := s.putBit (R.DO_SAFEMASK ((0) / 8)) (((0) % 8)) true; let s := s.setDoCh (s.doLead 0) { (s.doCh (s.doLead 0)) with pulse := false }; let s := s.setDoCh 0 { (s.doCh 0) with cmd := [(0, true)] }; let s := s.putFld (R.DO_TPCFG 0) 15 0 1; s)
      (fun u => Ready u ∧ u.doSafety 0 = true ∧ u.doLead 0 = 0 ∧ u.doOn 0 = true ∧ u.tpDue 0 = true) ∧
    Met (fun dt => .testPulseEnd dt (0 : Fin 32) (false : Bool)) (let s := base; let s := s.setDoCh 0 { (s.doCh 0) with pulse := true }; s)
      (fun u => Ready u ∧ (u.doCh 0).pulse = true ∧ (u.doCh 0).pStart + 100 * u.fld (R.DO_TPCFG (0 / 8)) 24 16 ≤ u.ticks) ∧
    Met (fun dt => .testPulseFilterRelease dt (0 : Fin 32)) (let s := base; let s := s.setDoCh 0 { (s.doCh 0) with pulse := false }; let s := s.setDoCh 0 { (s.doCh 0) with release := 1 }; s)
      (fun u => Ready u ∧ (u.doCh 0).release ≠ 0 ∧ (u.doCh 0).pulse = false ∧ (u.doCh 0).release + 5000 ≤ u.ticks + 1)) ∧
    (Met (fun dt => .fswarn dt (0 : Fin 4)) base
      (fun u => Ready u ∧ (u.supplyLow 0).bit (R.DO_STAT 0) 4 = false) ∧
    Met (fun dt => .fswarnClear dt (0 : Fin 4)) base
      (fun u => Ready u) ∧
    Met (fun dt => .fslowLatch dt (0 : Fin 4)) base
      (fun u => Ready u) ∧
    Met (fun dt => .fsok dt (0 : Fin 4)) (let s := base; let s := s.putBit (R.DO_STAT 0) 5 false; s)
      (fun u => Ready u ∧ u.bit (R.DO_STAT 0) 5 = false ∧ u.msSince (u.doGrp 0).lowTick 100 = true)) ∧
    (Met (fun dt => .dioFltclr dt (.boot : Init) (0 : Fin 4) (0x4D210000 : Word) (0 : Byte)) base
      (fun u => KeyWrites (.boot : Init) (0x093 + 0) 0xC00 0x4D21 (0x4D210000 : Word) u) ∧
    Met (fun dt => .dioFltclr dt (.boot : Init) (0 : Fin 4) (0x0 : Word) (0 : Byte)) base
      (fun u => Writes (.boot : Init) (0x093 + 0) 0xC00 u ∧ nf (0x0 : Word).toNat 31 16 ≠ 0x4D21) ∧
    Met (fun dt => .logclr dt (.boot : Init) 1) base
      (fun u => Writes (.boot : Init) 0x097 0xC00 u)) :=
  ⟨by decide +kernel,
    by decide +kernel,
    by decide +kernel,
    by decide +kernel,
    by decide +kernel,
    by decide +kernel⟩

theorem test_hyp_SafetyAndLoopsComplete :
    (Met (fun dt => .sfnEvaluation dt (false : Bool) (false : Bool) (false : Bool)) (let s := base; let s := s.putBit R.SFN_CTRL (0) true; s)
      (fun u => Ready u ∧ u.sfnDue = true) ∧
    Met (fun dt => .discrep dt (0 : Fin 16)) base
      (fun u => Ready u) ∧
    Met (fun dt => .edmFault dt (0 : Fin 16)) (let s := base; let s := s.putBit R.SFN_CTRL (0) true; let s := s.putBit (fCfg 0) 5 true; s)
      (fun u => Ready u ∧ u.sfnDue = true ∧ u.sfnEdm 0 u.moduleTime = true) ∧
    Met (fun dt => .twohandTimeout dt (0 : Fin 16)) (let s := base; let s := s.putBit R.SFN_CTRL (0) true; let s := s.putFld (R.SFN_FSTATE (0)) 2 0 (fsDemand); let s := s.putFld (fCfg 0) 2 0 4; let s := s.wr (fIn 0) 0x03020100; let s := s.wr R.DIO_LEV 1; s)
      (fun u => Ready u ∧ u.sfnDue = true ∧ u.sfnState 0 = fsDemand ∧ u.handTimeout 0 u.moduleTime = true)) ∧
    (Met (fun dt => .rststuck dt (0 : Fin 48)) (let s := base; let s := s.putBit R.SFN_CTRL (0) true; s)
      (fun u => Ready u ∧ u.sfnOn = true) ∧
    Met (fun dt => .sfnFltclr dt (.boot : Init) (0x2B6E0000 : Word)) base
      (fun u => KeyWrites (.boot : Init) 0x098 0xC00 0x2B6E (0x2B6E0000 : Word) u) ∧
    Met (fun dt => .sfnFltclr dt (.boot : Init) (0x0 : Word)) base
      (fun u => Writes (.boot : Init) 0x098 0xC00 u ∧ nf (0x0 : Word).toNat 31 16 ≠ 0x2B6E) ∧
    Met (fun dt => .loopScan dt (List.replicate 16 ([0, 0, 0, 0] : List (BitVec 16))) (0 : BitVec 16)) (let s := base; let s := { s with loop := { s.loop with run := some { t0 := s.ticks - 400, chans := [0] } } }; s)
      (fun u => Ready u ∧ u.loopRun = some ({ t0 := 1000000000000 - 400, chans := [0] } : LoopRun) ∧ (({ t0 := 1000000000000 - 400, chans := [0] } : LoopRun).chans = [] ∨ ({ t0 := 1000000000000 - 400, chans := [0] } : LoopRun).done < (if u.ticks < ({ t0 := 1000000000000 - 400, chans := [0] } : LoopRun).t0 + 360 then 0 else min ({ t0 := 1000000000000 - 400, chans := [0] } : LoopRun).chans.length ((u.ticks - ({ t0 := 1000000000000 - 400, chans := [0] } : LoopRun).t0 - 360) / 350 + 1))))) ∧
    (Met (fun dt => .compl dt (0 : Fin 8)) (let s := base; let s := s.putBit (R.LOOP_LOCFG 0) 0 true; let s := s.putBit R.LOOP_CTRL 0 true; let s := s.putBit R.LOOP_STAT 2 false; let s := s.setLo 0 { (s.lo 0) with compl := 1, scan := s.ticks }; s)
      (fun u => Ready u ∧ u.spellOver 0 (u.lo 0).compl 1000000 true = true) ∧
    Met (fun dt => .loopOpen dt (0 : Fin 8)) (let s := base; let s := s.putBit (R.LOOP_LOCFG 0) 0 true; let s := s.putBit R.LOOP_CTRL 0 true; let s := s.putBit R.LOOP_STAT 2 false; let s := s.setLo 0 { (s.lo 0) with opn := 1, scan := s.ticks }; s)
      (fun u => Ready u ∧ u.spellOver 0 (u.lo 0).opn 5000000 false = true) ∧
    Met (fun dt => .rbhigh dt (0 : Fin 8)) (let s := base; let s := s.putBit (R.LOOP_LOCFG 0) 0 true; let s := s.putBit R.LOOP_CTRL 0 true; let s := s.putBit R.LOOP_STAT 2 false; let s := s.setLo 0 { (s.lo 0) with rbh := 1, scan := s.ticks }; s)
      (fun u => Ready u ∧ u.spellOver 0 (u.lo 0).rbh 1000000 false = true) ∧
    Met (fun dt => .prot dt (0 : Fin 8)) (let s := base; let s := s.setLi 0 { (s.li 0) with open_ := false }; s)
      (fun u => Ready u ∧ (u.li 0).open_ = false)) ∧
    (Met (fun dt => .limiterReclose dt (0 : Fin 8)) (let s := base; let s := s.setLi 0 { (s.li 0) with open_ := true }; s)
      (fun u => Ready u ∧ (u.li 0).open_ = true ∧ u.secSince (u.li 0).openTick 1 = true) ∧
    Met (fun dt => .miswire dt (0 : Fin 8)) base
      (fun u => Ready u ∧ (u.setLo 0 { u.lo 0 with miswait := true }).bit (R.LOOP_LOSTAT 0) 3 = false) ∧
    Met (fun dt => .loopFltclr dt (.boot : Init) (0x1C9E0000 : Word) (0 : Byte)) base
      (fun u => KeyWrites (.boot : Init) 0x09C 0xC00 0x1C9E (0x1C9E0000 : Word) u) ∧
    Met (fun dt => .loopFltclr dt (.boot : Init) (0x0 : Word) (0 : Byte)) base
      (fun u => Writes (.boot : Init) 0x09C 0xC00 u ∧ nf (0x0 : Word).toNat 31 16 ≠ 0x1C9E)) ∧
    Met (fun dt => .loopCntclr dt (.boot : Init) 1) base
      (fun u => Writes (.boot : Init) 0x09C 0xC04 u) :=
  ⟨by decide +kernel,
    by decide +kernel,
    by decide +kernel,
    by decide +kernel,
    by decide +kernel⟩

theorem test_hyp_CanCommandsComplete :
    (Met (fun dt => .canIntegrated dt (0 : Fin 4)) (let s := base; let s := s.putFld (R.CAN_STAT (0)) 2 0 (csInteg); s)
      (fun u => Ready u ∧ u.canState 0 = csInteg) ∧
    Met (fun dt => .canFrameReceived dt (0 : Fin 4) (⟨0, false, false, false, false, false, 0, []⟩ : CanFrame) (0 : Nat) (0 : Fin 8)) (let s := base; let s := s.putFld (R.CAN_STAT (0)) 2 0 (csActive); s)
      (fun u => Ready u ∧ u.canHears 0 = true ∧ ((⟨0, false, false, false, false, false, 0, []⟩ : CanFrame).fdf = true → u.bit (R.CAN_CTRL 0) 2 = true) ∧ (⟨0, false, false, false, false, false, 0, []⟩ : CanFrame).rtr = false) ∧
    Met (fun dt => .canFrameReceived dt (0 : Fin 4) (⟨0, false, false, false, false, true, 0, []⟩ : CanFrame) (0 : Nat) (0 : Fin 8)) (let s := base; let s := s.putFld (R.CAN_STAT (0)) 2 0 (csActive); s)
      (fun u => Ready u ∧ u.canHears 0 = true ∧ (⟨0, false, false, false, false, true, 0, []⟩ : CanFrame).fdf = false ∧ (⟨0, false, false, false, false, true, 0, []⟩ : CanFrame).rtr = true) ∧
    Met (fun dt => .canFrameReceived dt (0 : Fin 4) (⟨0, false, true, false, false, false, 0, []⟩ : CanFrame) (0 : Nat) (0 : Fin 8)) (let s := base; let s := s.putFld (R.CAN_STAT (0)) 2 0 (csActive); let s := s.putFld (R.CAN_STAT (0)) 2 0 (csActive); let s := s.putBit (R.CAN_CTRL 0) 2 false; s)
      (fun u => Ready u ∧ u.canHears 0 = true ∧ u.canOpen 0 = true ∧ (⟨0, false, true, false, false, false, 0, []⟩ : CanFrame).fdf = true ∧ u.bit (R.CAN_CTRL 0) 2 = false)) ∧
    (Met (fun dt => .canError dt (0 : Fin 4) (0 : Fin 7) (false : Bool) (0 : Fin 9) (0 : Fin 9)) (let s := base; let s := s.putFld (R.CAN_STAT (0)) 2 0 (csListen); s)
      (fun u => Ready u ∧ u.canOpen 0 = false ∧ u.canState 0 = csListen ∧ (u.wr (R.CAN_LASTERR 0) (0 + b2n (false : Bool) * 8)).canState 0 = csListen) ∧
    Met (fun dt => .canError dt (0 : Fin 4) (0 : Fin 7) (false : Bool) (0 : Fin 9) (0 : Fin 9)) (let s := base; let s := s.putFld (R.CAN_STAT (0)) 2 0 (csActive); s)
      (fun u => Ready u ∧ u.canOpen 0 = true ∧ (u.wr (R.CAN_LASTERR 0) (0 + b2n (false : Bool) * 8)).canState 0 ≠ csListen ∧ (u.wr (R.CAN_LASTERR 0) (0 + b2n (false : Bool) * 8)).txBusy 0 = none) ∧
    Met (fun dt => .canError dt (0 : Fin 4) (0 : Fin 7) (false : Bool) (0 : Fin 9) (0 : Fin 9)) (let s := base; let s := s.putFld (R.CAN_STAT (0)) 2 0 (csActive); let s := s.setTx 0 3 { (s.canTx 0 3) with sending := true }; s)
      (fun u => Ready u ∧ u.canOpen 0 = true ∧ (u.wr (R.CAN_LASTERR 0) (0 + b2n (false : Bool) * 8)).canState 0 ≠ csListen ∧ (u.wr (R.CAN_LASTERR 0) (0 + b2n (false : Bool) * 8)).txBusy 0 = some 3) ∧
    Met (fun dt => .busoffRecovery dt (0 : Fin 4)) (let s := base; let s := s.putFld (R.CAN_STAT (0)) 2 0 (csBusoff); let s := s.putBit (R.CAN_CTRL 0) 3 true; s)
      (fun u => Ready u ∧ u.canState 0 = csBusoff ∧ (u.bit (R.CAN_CTRL 0) 3 = true ∨ (u.canC 0).recover = true))) ∧
    (Met (fun dt => .cancmdRecover dt (.boot : Init) (0 : Fin 4) (0xCA7D0001 : Word)) (let s := base; let s := s.putFld (R.CAN_STAT (0)) 2 0 (csBusoff); let s := s.putBit (R.CAN_CTRL 0) 3 false; s)
      (fun u => KeyWrites (.boot : Init) (canPage 0) 0xC00 0xCA7D (0xCA7D0001 : Word) u ∧ nf (0xCA7D0001 : Word).toNat 3 0 = 1 ∧ u.canState 0 = csBusoff ∧ u.bit (R.CAN_CTRL 0) 3 = false) ∧
    Met (fun dt => .cancmdRecover dt (.boot : Init) (0 : Fin 4) (0xCA7D0000 : Word)) base
      (fun u => KeyWrites (.boot : Init) (canPage 0) 0xC00 0xCA7D (0xCA7D0000 : Word) u ∧ nf (0xCA7D0000 : Word).toNat 3 0 ≠ 1) ∧
    Met (fun dt => .txcmdSend dt (.boot : Init) (0 : Fin 4) (0xCA7E0001 : Word)) (let s := base; let s := s.putBit (R.CAN_TXSTAT (0) ((nf (0xCA7E0001 : Word).toNat 12 8))) (4) false; let s := s.putFld (R.CAN_TXCFG (0) ((nf (0xCA7E0001 : Word).toNat 12 8))) 3 1 (0); let s := s.putFld (R.CAN_CTRL (0)) 7 6 (0); s)
      (fun u => KeyWrites (.boot : Init) (canPage 0) 0xC04 0xCA7E (0xCA7E0001 : Word) u ∧ nf (0xCA7E0001 : Word).toNat 1 0 = 1 ∧ u.txMapped 0 (nf (0xCA7E0001 : Word).toNat 12 8) = false ∧ u.txTrig 0 (nf (0xCA7E0001 : Word).toNat 12 8) = 0 ∧ u.canTtMode 0 = 0) ∧
    Met (fun dt => .txcmdSend dt (.boot : Init) (0 : Fin 4) (0xCA7E0001 : Word)) (let s := base; let s := s.putBit (R.CAN_TXSTAT (0) ((nf (0xCA7E0001 : Word).toNat 12 8))) (4) true; s)
      (fun u => KeyWrites (.boot : Init) (canPage 0) 0xC04 0xCA7E (0xCA7E0001 : Word) u ∧ nf (0xCA7E0001 : Word).toNat 1 0 = 1 ∧ u.txMapped 0 (nf (0xCA7E0001 : Word).toNat 12 8) = true)) ∧
    (Met (fun dt => .txcmdCancel dt (.boot : Init) (0 : Fin 4) (0xCA7E0002 : Word)) base
      (fun u => KeyWrites (.boot : Init) (canPage 0) 0xC04 0xCA7E (0xCA7E0002 : Word) u ∧ nf (0xCA7E0002 : Word).toNat 1 0 = 2) ∧
    Met (fun dt => .txcmdLoad dt (.boot : Init) (0 : Fin 4) (0xCA7E0003 : Word)) (let s := base; let s := s.putBit (R.CAN_TXSTAT (0) ((nf (0xCA7E0003 : Word).toNat 12 8))) (4) false; s)
      (fun u => KeyWrites (.boot : Init) (canPage 0) 0xC04 0xCA7E (0xCA7E0003 : Word) u ∧ nf (0xCA7E0003 : Word).toNat 1 0 = 3 ∧ u.txMapped 0 (nf (0xCA7E0003 : Word).toNat 12 8) = false) ∧
    Met (fun dt => .txcmdSend dt (.boot : Init) 0 0xCA7E0000) base
      (fun u => KeyWrites (.boot : Init) (canPage 0) 0xC04 0xCA7E (0xCA7E0000 : Word) u ∧ nf (0xCA7E0000 : Word).toNat 1 0 = 0) ∧
    Met (fun dt => .txcmdSend dt (.boot : Init) 0 0) base
      (fun u => Writes (.boot : Init) (canPage 0) 0xC04 u ∧ nf (0x0 : Word).toNat 31 16 ≠ 0xCA7E)) ∧
    (Met (fun dt => .canTxTimer dt (0 : Fin 4) (0 : Fin 32)) (let s := base; let s := s.putBit (R.CAN_TXCFG 0 0) 0 true; let s := s.putBit (R.CAN_TXSTAT (0) (0)) (4) false; let s := s.putFld (R.CAN_TXCFG (0) (0)) 3 1 (2); let s := s.putFld (R.CAN_CTRL (0)) 7 6 (0); s)
      (fun u => Ready u ∧ u.txOn 0 0 = true ∧ u.txTrig 0 0 = 2 ∧ u.canTtMode 0 = 0 ∧ u.txTimer 0 0 ≠ (u.canTx 0 0).seen) ∧
    Met (fun dt => .canTxStart dt (0 : Fin 4) (0 : Fin 8)) (let s := base; let s := s.putFld (R.CAN_STAT (0)) 2 0 (csActive); let s := s.putBit (R.CAN_STAT 0) 9 false; let s := s.putBit (R.CAN_STAT 0) 3 false; let s := s.setCan 0 { (s.canC 0) with goto := [] }; let s := s.putBit (R.CAN_TXCFG 0 3) 0 true; let s := s.setTx 0 3 { (s.canTx 0 3) with want := true }; s)
      (fun u => Ready u ∧ u.canOpen 0 = true ∧ u.bit (R.CAN_STAT 0) 9 = false ∧ u.bit (R.CAN_STAT 0) 3 = false ∧ (u.canC 0).goto = [] ∧ u.txBest 0 = some 3) ∧
    Met (fun dt => .canArbitrationLost dt (0 : Fin 4)) (let s := base; let s := s.setTx 0 3 { (s.canTx 0 3) with cancel := false }; let s := s.putBit (R.CAN_TXCFG 0 3) 0 true; let s := s.putBit (R.CAN_TXSTAT (0) (3)) (4) false; let s := s.setTx 0 3 { (s.canTx 0 3) with excl := false }; let s := s.setTx 0 3 { (s.canTx 0 3) with sending := true, excl := false }; s)
      (fun u => Ready u ∧ u.txBusy 0 = some 3 ∧ (u.canTx 0 3).cancel = false ∧ u.txOn 0 3 = true ∧ (u.canTx 0 3).excl = false) ∧
    Met (fun dt => .canArbitrationLost dt (0 : Fin 4)) (let s := base; let s := s.setTx 0 3 { (s.canTx 0 3) with cancel := true }; let s := s.setTx 0 3 { (s.canTx 0 3) with sending := true, cancel := true }; s)
      (fun u => Ready u ∧ u.txBusy 0 = some 3 ∧ ((u.canTx 0 3).cancel = true ∨ u.txOn 0 3 = false))) ∧
    (Met (fun dt => .canArbitrationLost dt (0 : Fin 4)) (let s := base; let s := s.setTx 0 3 { (s.canTx 0 3) with cancel := false }; let s := s.putBit (R.CAN_TXCFG 0 3) 0 true; let s := s.putBit (R.CAN_TXSTAT (0) (3)) (4) false; let s := s.setTx 0 3 { (s.canTx 0 3) with excl := true }; let s := s.setTx 0 3 { (s.canTx 0 3) with sending := true, excl := true }; s)
      (fun u => Ready u ∧ u.txBusy 0 = some 3 ∧ (u.canTx 0 3).cancel = false ∧ u.txOn 0 3 = true ∧ (u.canTx 0 3).excl = true) ∧
    Met (fun dt => .canTxComplete dt (0 : Fin 4)) (let s := base; let s := s.setTx 0 3 { (s.canTx 0 3) with sending := true }; s)
      (fun u => Ready u ∧ u.txBusy 0 = some 3) ∧
    Met (fun dt => .txtspop dt (.boot : Init) (0 : Fin 4)) (let s := base; let s := s.setCan 0 { (s.canC 0) with ts := (3, 9) :: ([] : List (Nat × Nat)) }; s)
      (fun u => Reads (.boot : Init) (canPage 0) 0xC0C u ∧ (u.canC 0).ts = (3, 9) :: ([] : List (Nat × Nat))) ∧
    Met (fun dt => .txtspop dt (.boot : Init) (0 : Fin 4)) (let s := base; let s := s.setCan 0 { (s.canC 0) with ts := [] }; s)
      (fun u => Reads (.boot : Init) (canPage 0) 0xC0C u ∧ (u.canC 0).ts = [])) ∧
    (Met (fun dt => .rxqrel dt (.boot : Init) (0 : Fin 4) (0x1 : Word)) (let s := base; let s := s.setCan 0 { (s.canC 0) with qmap := false }; let s := s.putFld (R.CAN_RXQCNT 0) 7 0 1; s)
      (fun u => Writes (.boot : Init) (canPage 0) 0xC08 u ∧ (u.canC 0).qmap = false ∧ nf (0x1 : Word).toNat 7 0 ≠ 0 ∧ nf (0x1 : Word).toNat 7 0 ≤ u.rxqCount 0) ∧
    Met (fun dt => .rxqrel dt (.boot : Init) (0 : Fin 4) (1 : Word)) (let s := base; let s := s.setCan 0 { (s.canC 0) with qmap := false }; s)
      (fun u => Writes (.boot : Init) (canPage 0) 0xC08 u ∧ (u.canC 0).qmap = false ∧ u.rxqCount 0 < nf (1 : Word).toNat 7 0) ∧
    Met (fun dt => .rxqrel dt (.boot : Init) (0 : Fin 4) (0 : Word)) (let s := base; let s := s.setCan 0 { (s.canC 0) with qmap := true }; s)
      (fun u => Writes (.boot : Init) (canPage 0) 0xC08 u ∧ (u.canC 0).qmap = true) ∧
    Met (fun dt => .canWake dt (0 : Fin 4) .wup) (let s := base; let s := { s with sys := { s.sys with down := none } }; let s := s.putFld (R.CAN_STAT (0)) 2 0 (csSleep); s)
      (fun u => Ready u ∧ u.sys.down = none ∧ u.canState 0 = csSleep ∧ wakes (u.bit (R.CAN_CTRL 0) 12) (u.wakeCfg 0) .wup = true)) ∧
    (Met (fun dt => .canWake dt (0 : Fin 4) (.wup : CanWake)) (let s := base; let s := { s with sys := { s.sys with on := false } }; let s := { s with sys := { s.sys with sleep := true } }; let s := { s with sys := { s.sys with canWake := [(0, true, [])] } }; s)
      (fun u => u.sys.on = false ∧ u.sys.sleep = true ∧ u.sys.canWake.any (fun e => e.1 == 0 && wakes e.2.1 e.2.2 (.wup : CanWake)) = true) ∧
    Met (fun dt => .canCntclr dt (.boot : Init) (0 : Fin 4) 1) base
      (fun u => Writes (.boot : Init) (canPage 0) 0xC10 u)) :=
  ⟨by decide +kernel,
    by decide +kernel,
    by decide +kernel,
    by decide +kernel,
    by decide +kernel,
    by decide +kernel,
    by decide +kernel,
    by decide +kernel⟩

theorem test_hyp_TimeTriggeredCanCompletes :
    (Met (fun dt => .ttReferenceAttempt dt (0 : Fin 4) true (0 : Fin 8)) (let s := base; let s := s.putFld (R.CAN_CTRL (0)) 7 6 (1); let s := s.putFld (R.CAN_STAT (0)) 2 0 (csActive); let s := s.putBit (R.CAN_CTRL 0) 8 true; let s := s.putBit (R.CAN_STAT 0) 3 false; let s := s.putFld (R.CAN_STAT (0)) 7 6 (2); s)
      (fun u => Ready u ∧ u.ttOn 0 = true ∧ u.bit (R.CAN_CTRL 0) 8 = true ∧ u.ttErr 0 ≠ 3 ∧ u.bit (R.CAN_STAT 0) 3 = false ∧ u.ttSync 0 = 2 ∧ u.fld (R.CAN_TTCYCLE 0) 15 0 ≤ u.ttTime 0) ∧
    Met (fun dt => .ttReferenceAttempt dt (0 : Fin 4) false (0 : Fin 8)) (let s := base; let s := s.putFld (R.CAN_CTRL (0)) 7 6 (1); let s := s.putFld (R.CAN_STAT (0)) 2 0 (csActive); let s := s.putBit (R.CAN_CTRL 0) 8 true; let s := s.putBit (R.CAN_STAT 0) 3 false; let s := s.putFld (R.CAN_STAT (0)) 7 6 (2); s)
      (fun u => Ready u ∧ u.ttOn 0 = true ∧ u.bit (R.CAN_CTRL 0) 8 = true ∧ u.ttErr 0 ≠ 3 ∧ u.bit (R.CAN_STAT 0) 3 = false ∧ u.ttSync 0 = 2 ∧ u.fld (R.CAN_TTCYCLE 0) 15 0 ≤ u.ttTime 0) ∧
    Met (fun dt => .ttReferenceReceived dt (0 : Fin 4) (⟨false, false, 0, 0, 0, 0, 0, 0⟩ : TtRef) (0 : Nat)) (let s := base; let s := s.putFld (R.CAN_CTRL (0)) 7 6 (1); let s := s.putFld (R.CAN_STAT (0)) 2 0 (csActive); let s := s.putFld (R.CAN_STAT (0)) 7 6 (0); s)
      (fun u => Ready u ∧ u.ttOn 0 = true ∧ u.canTtMode 0 ≠ 2 ∧ (⟨false, false, 0, 0, 0, 0, 0, 0⟩ : TtRef).fdf = false ∧ (⟨false, false, 0, 0, 0, 0, 0, 0⟩ : TtRef).gap = false ∧ (⟨false, false, 0, 0, 0, 0, 0, 0⟩ : TtRef).count.toNat < u.ttLen 0 ∧ u.ttSync 0 = 0) ∧
    Met (fun dt => .ttReferenceReceived dt (0 : Fin 4) (⟨false, false, 0, 0, 0, 0, 0, 0⟩ : TtRef) (0 : Nat)) (let s := base; let s := s.putFld (R.CAN_CTRL (0)) 7 6 (1); let s := s.putFld (R.CAN_STAT (0)) 2 0 (csActive); let s := s.putFld (R.CAN_STAT (0)) 7 6 (1); s)
      (fun u => Ready u ∧ u.ttOn 0 = true ∧ u.canTtMode 0 ≠ 2 ∧ (⟨false, false, 0, 0, 0, 0, 0, 0⟩ : TtRef).fdf = false ∧ (⟨false, false, 0, 0, 0, 0, 0, 0⟩ : TtRef).gap = false ∧ (⟨false, false, 0, 0, 0, 0, 0, 0⟩ : TtRef).count.toNat < u.ttLen 0 ∧ u.ttSync 0 ≠ 0 ∧ (⟨false, false, 0, 0, 0, 0, 0, 0⟩ : TtRef).count.toNat = u.ttNext 0 ∧ (⟨false, false, 0, 0, 0, 0, 0, 0⟩ : TtRef).corr.natAbs ≤ 500000)) ∧
    (Met (fun dt => .ttReferenceReceived dt (0 : Fin 4) (⟨true, false, 0, 0, 0, 0, 0, 0⟩ : TtRef) (0 : Nat)) (let s := base; let s := s.putFld (R.CAN_CTRL (0)) 7 6 (1); let s := s.putFld (R.CAN_STAT (0)) 2 0 (csActive); s)
      (fun u => Ready u ∧ u.ttOn 0 = true ∧ u.canTtMode 0 ≠ 2 ∧ ((⟨true, false, 0, 0, 0, 0, 0, 0⟩ : TtRef).fdf = true ∨ (⟨true, false, 0, 0, 0, 0, 0, 0⟩ : TtRef).gap = true ∨ u.ttLen 0 ≤ (⟨true, false, 0, 0, 0, 0, 0, 0⟩ : TtRef).count.toNat)) ∧
    Met (fun dt => .ttReferenceReceived dt (0 : Fin 4) (⟨true, false, 0, 0, 0, 0, 0, 0⟩ : TtRef) (0 : Nat)) (let s := base; let s := s.putFld (R.CAN_CTRL (0)) 7 6 (1); let s := s.putFld (R.CAN_STAT (0)) 2 0 (csActive); let s := s.putFld (R.CAN_CTRL (0)) 7 6 (2); s)
      (fun u => Ready u ∧ u.ttOn 0 = true ∧ u.canTtMode 0 = 2 ∧ (⟨true, false, 0, 0, 0, 0, 0, 0⟩ : TtRef).fdf = true ∧ (⟨true, false, 0, 0, 0, 0, 0, 0⟩ : TtRef).res = 0 ∧ (⟨true, false, 0, 0, 0, 0, 0, 0⟩ : TtRef).count.toNat < 64 ∧ (u.wr (R.CAN_TTTOFS 0) (ttOffset (⟨true, false, 0, 0, 0, 0, 0, 0⟩ : TtRef).time.toNat (u.stamp 0 - (0 : Nat) / 5 * 5))).ttSync 0 = 0) ∧
    Met (fun dt => .ttReferenceReceived dt (0 : Fin 4) (⟨false, false, 0, 0, 0, 0, 0, 0⟩ : TtRef) (0 : Nat)) (let s := base; let s := s.putFld (R.CAN_CTRL (0)) 7 6 (1); let s := s.putFld (R.CAN_STAT (0)) 2 0 (csActive); let s := s.putFld (R.CAN_CTRL (0)) 7 6 (2); s)
      (fun u => Ready u ∧ u.ttOn 0 = true ∧ u.canTtMode 0 = 2 ∧ (⟨false, false, 0, 0, 0, 0, 0, 0⟩ : TtRef).fdf = false)) ∧
    Met (fun dt => .ttTrigger dt (0 : Fin 4) (0 : Fin 64) true (0 : Fin 8)) (let s := base; let s := s.putFld (R.CAN_CTRL (0)) 7 6 (1); let s := s.putFld (R.CAN_STAT (0)) 2 0 (csActive); let s := s.putFld (R.CAN_STAT (0)) 7 6 (2); let s := s.wr (R.CAN_TTTA 0 0) 1; let s := s.putBit (R.CAN_TXCFG 0 0) 0 true; let s := s.setTx 0 0 { (s.canTx 0 0) with fresh := true }; s)
      (fun u => Ready u ∧ u.ttOn 0 = true ∧ u.ttSync 0 = 2 ∧ nf (u.rd (R.CAN_TTTA 0 0)) 2 0 = 1 ∧ (u.canC 0).tt.fired.contains 0 = false ∧ u.fld (R.CAN_TTSTAT 0) 5 0 % 2 ^ nf (u.rd (R.CAN_TTTA 0 0)) 26 24 = nf (u.rd (R.CAN_TTTA 0 0)) 21 16 ∧ u.fld (R.CAN_TTTB 0 0) 15 0 ≤ u.ttTime 0 ∧ ∀ t, t = (u.setTt 0 { (u.canC 0).tt with fired := 0 :: (u.canC 0).tt.fired }).ttClose 0 false → t.ttErr 0 < 2 ∧ t.bit (R.CAN_STAT 0) 3 = false ∧ t.txOn 0 (nf (u.rd (R.CAN_TTTA 0 0)) 15 8 % 32) = true ∧ (t.canTx 0 (nf (u.rd (R.CAN_TTTA 0 0)) 15 8 % 32)).fresh = true) ∧
    (Met (fun dt => .ttWatchExpiry dt (0 : Fin 4)) (let s := base; let s := s.putFld (R.CAN_CTRL (0)) 7 6 (1); let s := s.putFld (R.CAN_STAT (0)) 2 0 (csActive); let s := s.putFld (R.CAN_STAT (0)) 7 6 (1); s)
      (fun u => Ready u ∧ u.ttOn 0 = true ∧ u.ttSync 0 = 1 ∧ (u.canC 0).tt.watch + u.ttWatch 0 ≤ u.moduleTime) ∧
    Met (fun dt => .ttWatchExpiry dt (0 : Fin 4)) (let s := base; let s := s.putFld (R.CAN_CTRL (0)) 7 6 (1); let s := s.putFld (R.CAN_STAT (0)) 2 0 (csActive); let s := s.putFld (R.CAN_STAT (0)) 7 6 (1); let s := s.setCan 0 { (s.canC 0) with tt := { (s.canC 0).tt with missed := 0 } }; let s := s.putFld (R.CAN_STAT 0) 7 6 2; s)
      (fun u => Ready u ∧ u.ttOn 0 = true ∧ u.ttSync 0 ≠ 0 ∧ u.ttSync 0 ≠ 1 ∧ (u.canC 0).tt.watch + u.ttWatch 0 ≤ u.moduleTime ∧ (u.canC 0).tt.missed = 0)) :=
  ⟨by decide +kernel,
    by decide +kernel,
    ⟨by decide +kernel, by decide +kernel, by decide +kernel, by decide +kernel, by decide +kernel, by decide +kernel, by decide +kernel, by decide +kernel, by simp only [forall_eq]; decide +kernel⟩,
    by decide +kernel⟩

theorem test_hyp_TimeBaseCommandsComplete :
    (Met (fun dt => .ofsgo dt (.boot : Init) 1) (let s := base; let s := s.putBit R.TMB_CTRL (1) false; let s := s.putBit R.TMB_CTRL (0) true; let s := { s with tmb := { s.tmb with ofsTick := 0 } }; s)
      (fun u => Writes (.boot : Init) 0x050 0xC00 u ∧ u.tsrc = false ∧ u.servoOn = true ∧ u.tmb.ofsTick = 0) ∧
    Met (fun dt => .ofsgo dt (.boot : Init) 1) (let s := base; let s := s.putBit R.TMB_CTRL (1) false; let s := s.putBit R.TMB_CTRL (0) true; let s := { s with tmb := { s.tmb with ofsTick := 1 } }; s)
      (fun u => Writes (.boot : Init) 0x050 0xC00 u ∧ u.tsrc = false ∧ u.servoOn = true ∧ u.tmb.ofsTick ≠ 0 ∧ u.tmb.ofsTick - 1 + 100 ≤ u.ticks) ∧
    Met (fun dt => .ofsgo dt (.boot : Init) 1) (let s := base; let s := s.putBit R.TMB_CTRL (1) true; s)
      (fun u => Writes (.boot : Init) 0x050 0xC00 u ∧ (u.tsrc = true ∨ u.servoOn = false)) ∧
    Met (fun dt => .syncinPulse dt (3998 : Nat)) (let s := base; let s := s.putBit R.TMB_PPSCFG 0 true; s)
      (fun u => Ready u ∧ u.bit R.TMB_PPSCFG 0 = true ∧ 3998 ≤ (3998 : Nat))) ∧
    (Met (fun dt => .syncinMissing dt) (let s := base; let s := s.putBit R.TMB_PPSCFG 0 true; let s := { s with tmb := { s.tmb with watch := true } }; s)
      (fun u => Ready u ∧ u.bit R.TMB_PPSCFG 0 = true ∧ u.tmb.watch = true ∧ u.tmb.pulseTick + 110000000 ≤ u.ticks) ∧
    Met (fun dt => .holdover dt) (let s := base; let s := s.putBit R.TMB_CTRL (0) true; let s := s.putFld R.TMB_STAT 2 0 (tsTracking); s)
      (fun u => Ready u ∧ u.servoOn = true ∧ (u.tstate = tsTracking ∨ u.tstate = tsLocked ∨ u.tstate = tsDiverged) ∧ u.tmb.holdTick + 100000 * (10 * u.fld R.TMB_LOCKCFG 31 16) ≤ u.ticks) ∧
    Met (fun dt => .tmbCapgo dt (.boot : Init) 1) base
      (fun u => Writes (.boot : Init) 0x051 0xC00 u) ∧
    Met (fun dt => .restep dt (.boot : Init) (0x7E510001 : Word)) (let s := base; let s := s.putFld R.TMB_STAT 2 0 2; s)
      (fun u => KeyWrites (.boot : Init) 0x053 0xC00 0x7E51 (0x7E510001 : Word) u ∧ nb (0x7E510001 : Word).toNat 0 = true ∧ u.tstate ≠ tsFreerun)) ∧
    (Met (fun dt => .restep dt (.boot : Init) (0x7E510000 : Word)) base
      (fun u => KeyWrites (.boot : Init) 0x053 0xC00 0x7E51 (0x7E510000 : Word) u ∧ (nb (0x7E510000 : Word).toNat 0 = false ∨ u.tstate = tsFreerun)) ∧
    Met (fun dt => .leapSecond dt) (let s := base; let s := s.putFld R.TMB_LEAP 1 0 (1); let s := { s with tmb := { s.tmb with leapDay := -1 } }; s)
      (fun u => Ready u ∧ u.fld R.TMB_LEAP 1 0 = 1 ∧ ((u.tmb.leapDay + 1) * 86400 + 1) * 4000000000 ≤ u.utcNow) ∧
    Met (fun dt => .leapSecond dt) (let s := base; let s := s.putFld R.TMB_LEAP 1 0 (2); let s := { s with tmb := { s.tmb with leapDay := -1 } }; s)
      (fun u => Ready u ∧ u.fld R.TMB_LEAP 1 0 = 2 ∧ ((u.tmb.leapDay + 1) * 86400 - 1) * 4000000000 ≤ u.utcNow) ∧
    Met (fun dt => .timeStep dt) (let s := base; let s := { s with tmb := { s.tmb with steps := (5, 7) :: [] } }; s)
      (fun u => Ready u ∧ u.tmb.steps = (5, 7) :: [] ∧ 7 ≤ u.ticks)) :=
  ⟨by decide +kernel,
    by decide +kernel,
    by decide +kernel⟩

theorem test_hyp_EthernetCommandsComplete :
    (Met (fun dt => .txtailWrite dt (.boot : Init) (false : Bool) (0 : Word)) base
      (fun u => Writes (.boot : Init) (ringPage (false : Bool)) 0x04C u) ∧
    Met (fun dt => .rxtailWrite dt (.boot : Init) (false : Bool) (0 : Word)) base
      (fun u => Writes (.boot : Init) (ringPage (false : Bool)) 0x06C u) ∧
    Met (fun dt => .ethTxComplete dt (true : Bool)) (let s := base; let s := s.setEthRing (ringPage true) { work := [{ left := 0 }] }; s)
      (fun u => Ready u ∧ (u.ethRing (ringPage (true : Bool))).work.find? (fun x => x.left == 0) = some ({ left := 0 } : EthTx) ∧ ({ left := 0 } : EthTx).bad = false) ∧
    Met (fun dt => .ringerrClear dt (.boot : Init) (false : Bool) (0x1 : Word)) (let s := base; let s := s.putBit (reg (ringPage (false : Bool)) 0x0A0) 0 true; s)
      (fun u => Writes (.boot : Init) (ringPage (false : Bool)) 0x0A0 u ∧ nb (0x1 : Word).toNat 0 = true ∧ u.bit (reg (ringPage (false : Bool)) 0x0A0) 0 = true)) ∧
    (Met (fun dt => .ethFrameTransmitted dt (0 : Fin 6) (0 : Nat)) (let s := base; let s := s.setEthP 0 { (s.ethP 0) with cur := some ({} : EthItem) }; s)
      (fun u => Ready u ∧ (u.ethP 0).cur = some ({} : EthItem) ∧ 0 < 4) ∧
    Met (fun dt => .ethLaunch dt (0 : Fin 6) (0 : Fin 8)) (let s := base; let s := s.setEthP 0 { (s.ethP 0) with q := [(0, [{ launch := some 0 }])] }; s)
      (fun u => Ready u ∧ (u.ethP 0).queue 0 = ({ launch := some 0 } : EthItem) :: [] ∧ 2 ≤ u.launchCase 0 ({ launch := some 0 } : EthItem)) ∧
    Met (fun dt => .ethLaunch dt (0 : Fin 6) (0 : Fin 8)) (let s := base; let s := s.setEthP 0 { (s.ethP 0) with q := [(0, [{}])] }; s)
      (fun u => Ready u ∧ (u.ethP 0).queue 0 = ({} : EthItem) :: [] ∧ u.launchCase 0 ({} : EthItem) < 2) ∧
    Met (fun dt => .gateListEntry dt (0 : Fin 4)) (let s := base; let s := s.setEthP 0 { (s.ethP 0) with gcl := { (s.ethP 0).gcl with on := true } }; s)
      (fun u => Ready u ∧ (u.ethP 0).gcl.on = true)) ∧
    (Met (fun dt => .gateListSwitch dt (0 : Fin 4)) (let s := base; let s := s.setEthP 0 { (s.ethP 0) with next := some ({} : Gcl) }; s)
      (fun u => Ready u ∧ (u.ethP 0).next = some ({} : Gcl) ∧ (u.ethP 0).swAt ≤ u.moduleTime) ∧
    Met (fun dt => .ethFrameReceived dt (0 : Fin 6) (⟨List.replicate 14 0, none, false⟩ : EthFrame) (0 : Nat) (0 : Fin 8)) (let s := base; let s := s.putBit R.ETH_CTRL 0 true; let s := s.putBit R.ETH_STAT 4 true; s)
      (fun u => Ready u ∧ 0 < 4 ∧ u.ethLink 0 = true ∧ u.bit R.ETH_CTRL 0 = true ∧ (⟨List.replicate 14 0, none, false⟩ : EthFrame).fcs = false) ∧
    Met (fun dt => .ethFrameReceived dt (3 : Fin 6) (⟨List.replicate 1519 0, none, true⟩ : EthFrame) (0 : Nat) (0 : Fin 8)) (let s := base; let s := s.putBit R.ETH_CTRL 0 true; let s := s.putBit R.ETH_STAT 7 true; s)
      (fun u => Ready u ∧ 2 ≤ 3 ∧ 3 < 4 ∧ u.ethLink 3 = true ∧ u.bit R.ETH_CTRL 0 = true ∧ (⟨List.replicate 1519 0, none, true⟩ : EthFrame).fcs = true ∧ 1518 < (⟨List.replicate 1519 0, none, true⟩ : EthFrame).data.length) ∧
    Met (fun dt => .ethFrameReceived dt (5 : Fin 6) (⟨List.replicate 60 0, none, true⟩ : EthFrame) (0 : Nat) (0 : Fin 8)) (let s := base; let s := s.putBit R.ETH_STAT 8 true; s)
      (fun u => Ready u ∧ 5 = 5 ∧ u.ethLink 5 = true ∧ (⟨List.replicate 60 0, none, true⟩ : EthFrame).fcs = true ∧ (⟨List.replicate 60 0, none, true⟩ : EthFrame).data.length ≤ 1518)) ∧
    (Met (fun dt => .ethLinkChange dt (0 : Fin 6) false (false : Bool)) base
      (fun u => Ready u ∧ 0 ≠ 4) ∧
    Met (fun dt => .ethLinkChange dt (0 : Fin 6) (true : Bool) (false : Bool)) (let s := base; let s := s.putBit (R.ETH_PCFG 0) 2 true; let s := s.putFld (R.ETH_PCFG 0) 1 0 (0); s)
      (fun u => Ready u ∧ 0 < 4 ∧ (true : Bool) = true ∧ u.bit (R.ETH_PCFG 0) 2 = true ∧ u.fld (R.ETH_PCFG 0) 1 0 = 0) ∧
    Met (fun dt => .fdbAgeOut dt) (let s := base; let s := { s with eth := { s.eth with fdb := ((1, 0, 0, 0) : Nat × Nat × Nat × Nat) :: ([] : List (Nat × Nat × Nat × Nat)) } }; s)
      (fun u => Ready u ∧ u.eth.fdb = ((1, 0, 0, 0) : Nat × Nat × Nat × Nat) :: ([] : List (Nat × Nat × Nat × Nat)) ∧ ((1, 0, 0, 0) : Nat × Nat × Nat × Nat).2.2.2 + 100000000 * u.fld R.ETH_AGETIME 11 0 ≤ u.ticks) ∧
    Met (fun dt => .prpEntryExpiry dt) (let s := base; let s := { s with eth := { s.eth with dup := ((1, 0, 0, 0) : Nat × Nat × Nat × Nat) :: ([] : List (Nat × Nat × Nat × Nat)) } }; s)
      (fun u => Ready u ∧ u.eth.dup = ((1, 0, 0, 0) : Nat × Nat × Nat × Nat) :: ([] : List (Nat × Nat × Nat × Nat)) ∧ ((1, 0, 0, 0) : Nat × Nat × Nat × Nat).2.2.1 + 100000 * u.fld R.ETH_PRPCFG 25 16 ≤ u.ticks)) ∧
    (Met (fun dt => .prpLanMissing dt (0 : Fin 2)) (let s := base; let s := s.putFld R.ETH_PRPCFG 1 0 (1); let s := s.putBit R.ETH_PRPSTAT 0 false; let s := { s with eth := { s.eth with lan := [(1, s.ticks)] } }; s)
      (fun u => Ready u ∧ u.prpMode ≠ 0 ∧ tabGet 0 u.eth.lan 0 + 200000000 ≤ u.ticks ∧ u.ticks < tabGet 0 u.eth.lan (1 - 0) + 200000000 ∧ u.bit R.ETH_PRPSTAT 0 = false) ∧
    Met (fun dt => .tspop dt (.boot : Init)) (let s := base; let s := { s with eth := { s.eth with tsq := ((1, 2, 3) : Nat × Nat × Nat) :: ([] : List (Nat × Nat × Nat)) } }; s)
      (fun u => Reads (.boot : Init) 0x0B8 0xC00 u ∧ u.eth.tsq = ((1, 2, 3) : Nat × Nat × Nat) :: ([] : List (Nat × Nat × Nat))) ∧
    Met (fun dt => .tspop dt (.boot : Init)) (let s := base; let s := { s with eth := { s.eth with tsq := [] } }; s)
      (fun u => Reads (.boot : Init) 0x0B8 0xC00 u ∧ u.eth.tsq = []) ∧
    Met (fun dt => .pdTxLaunch dt (0 : Fin 32)) (let s := base; let s := s.wr (R.ETH_PDTCFG 0) 1; let s := s.setEthPd 0 { (s.ethPd 0) with due := [7] }; let s := s.putBit R.ETH_PDCTRL 0 true; let s := { s with rdn := { s.rdn with gates := false } }; s)
      (fun u => Ready u ∧ u.pdDue 0 = some (7, ({} : EthPd)) ∧ nb (u.rd (R.ETH_PDTCFG 0)) 0 = true ∧ ((u.setEthPd 0 ({} : EthPd)).pdMapped 0 = false ∨ ({} : EthPd).stopped = false ∧ (({} : EthPd).en = true ∨ ({} : EthPd).template = true)) ∧ (u.setEthPd 0 ({} : EthPd)).pdGated = true)) ∧
    (Met (fun dt => .pdTxLaunch dt (0 : Fin 32)) (let s := base; let s := s.wr (R.ETH_PDTCFG 0) 1; let s := s.setEthPd 0 { (s.ethPd 0) with due := [7] }; s)
      (fun u => Ready u ∧ u.pdDue 0 = some (7, ({} : EthPd)) ∧ nb (u.rd (R.ETH_PDTCFG 0)) 0 = true ∧ ((u.setEthPd 0 ({} : EthPd)).pdMapped 0 = false ∨ ({} : EthPd).stopped = false ∧ (({} : EthPd).en = true ∨ ({} : EthPd).template = true)) ∧ (u.setEthPd 0 ({} : EthPd)).pdGated = false ∧ (maskPorts ((u.setEthPd 0 ({} : EthPd)).redPair (nf (u.rd (R.ETH_PDTCFG 0)) 15 12)).2.1).any (fun m => (u.setEthPd 0 ({} : EthPd)).ethLink m) = false) ∧
    Met (fun dt => .pdTxLaunch dt (0 : Fin 32)) (let s := base; let s := s.wr (R.ETH_PDTCFG 0) 0x1001; let s := s.setEthPd 0 { (s.ethPd 0) with due := [7] }; let s := s.putBit R.ETH_STAT 4 true; s)
      (fun u => Ready u ∧ u.pdDue 0 = some (7, ({} : EthPd)) ∧ nb (u.rd (R.ETH_PDTCFG 0)) 0 = true ∧ ((u.setEthPd 0 ({} : EthPd)).pdMapped 0 = false ∨ ({} : EthPd).stopped = false ∧ (({} : EthPd).en = true ∨ ({} : EthPd).template = true)) ∧ (u.setEthPd 0 ({} : EthPd)).pdGated = false ∧ (maskPorts ((u.setEthPd 0 ({} : EthPd)).redPair (nf (u.rd (R.ETH_PDTCFG 0)) 15 12)).2.1).any (fun m => (u.setEthPd 0 ({} : EthPd)).ethLink m) = true) ∧
    Met (fun dt => .pdRxTimeout dt (0 : Fin 64)) (let s := base; let s := s.putBit (R.ETH_PDRCFG 0) 0 true; let s := s.putFld (R.ETH_PDRTMO 0) 23 0 (1); let s := s.putBit (R.ETH_PDRSTAT 0) 2 false; s)
      (fun u => Ready u ∧ u.bit (R.ETH_PDRCFG 0) 0 = true ∧ u.fld (R.ETH_PDRTMO 0) 23 0 ≠ 0 ∧ u.bit (R.ETH_PDRSTAT 0) 2 = false ∧ (tabGet (0, 0) u.eth.rx 0).1 + 100 * u.fld (R.ETH_PDRTMO 0) 23 0 ≤ u.ticks)) :=
  ⟨by decide +kernel,
    by decide +kernel,
    by decide +kernel,
    by decide +kernel,
    by decide +kernel,
    by decide +kernel⟩

theorem test_hyp_GatewayAndHeritageComplete :
    (Met (fun dt => .gwySignalWrite dt (0 : Fin 4) (0 : Fin 4) (0 : Fin 256)) base
      (fun u => Ready u) ∧
    Met (fun dt => .gwyStale dt (0 : Fin 128)) (let s := base; let s := s.putBit R.GWY_CTRL 0 true; let s := s.putBit (gSrc 0) 31 true; let s := s.putFld (gTmo 0) 15 0 (1); let s := s.putBit (R.GWY_SSTAT 0) 1 false; s)
      (fun u => Ready u ∧ u.gwyOn 0 = true ∧ u.fld (gTmo 0) 15 0 ≠ 0 ∧ u.bit (R.GWY_SSTAT 0) 1 = false ∧ (u.gwySig 0).tick + 100000 * u.fld (gTmo 0) 15 0 ≤ u.ticks) ∧
    Met (fun dt => .gwyCntclr dt (.boot : Init) 1) base
      (fun u => Writes (.boot : Init) 0x0C0 0xC00 u) ∧
    Met (fun dt => .hrbWindowAccess dt (.boot : Init) (0 : Fin 4) (0 : BitVec 24) (0 : Fin 4) (.load : BusOp)) base
      (fun u => Ready u ∧ u.live (.boot : Init) = true)) ∧
    (Met (fun dt => .hrbCycleStart dt (0 : Fin 4)) (let s := base; let s := { s with hrb := { s.hrb with cur := none } }; let s := { s with hrb := { s.hrb with op := none } }; let s := s.putBit R.HRB_CTRL 0 true; let s := s.putBit R.HRB_STAT 1 false; let s := s.putBit R.HRB_STAT 2 false; let s := s.setHrbWin 0 { (s.hrbWin 0) with halted := false }; let s := s.setHrbWin 0 { (s.hrbWin 0) with q := ({ cycles := [{}] } : HrbOp) :: [] }; s)
      (fun u => Ready u ∧ u.hrb.cur = none ∧ u.hrb.free ≤ u.ticks ∧ u.hrb.op = none ∧ u.hrbShut = false ∧ (u.hrbWin 0).halted = false ∧ (u.hrbWin 0).q = ({ cycles := [{}] } : HrbOp) :: []) ∧
    Met (fun dt => .hrbCycleStart dt (0 : Fin 4)) (let s := base; let s := { s with hrb := { s.hrb with cur := none } }; let s := { s with hrb := { s.hrb with op := some (0, { cycles := [{}] }) } }; s)
      (fun u => Ready u ∧ u.hrb.cur = none ∧ u.hrb.free ≤ u.ticks ∧ u.hrb.op = some (0, { cycles := [{}] })) ∧
    Met (fun dt => .hrbCardReply dt false (0 : BitVec 16)) (let s := base; let s := { s with hrb := { s.hrb with cur := some (({} : HrbCycle), 1000000000000 - 4) } }; s)
      (fun u => Ready u ∧ u.hrb.cur = some (({} : HrbCycle), 1000000000000 - 4) ∧ 1000000000000 - 4 + 4 ≤ u.ticks ∧ u.ticks ≤ 1000000000000 - 4 + 2 * u.ackTo + 2) ∧
    Met (fun dt => .hrbCardReply dt true (0 : BitVec 16)) (let s := base; let s := { s with hrb := { s.hrb with cur := some (({} : HrbCycle), 1000000000000 - 4) } }; s)
      (fun u => Ready u ∧ u.hrb.cur = some (({} : HrbCycle), 1000000000000 - 4) ∧ 1000000000000 - 4 + 4 ≤ u.ticks ∧ u.ticks ≤ 1000000000000 - 4 + 2 * u.ackTo + 2)) ∧
    (Met (fun dt => .hrbCycleTimeout dt) (let s := base; let s := { s with hrb := { s.hrb with cur := some (({} : HrbCycle), 1000000000000 - 100000) } }; s)
      (fun u => Ready u ∧ u.hrb.cur = some (({} : HrbCycle), 1000000000000 - 100000) ∧ 1000000000000 - 100000 + u.ackTo ≤ u.ticks) ∧
    Met (fun dt => .hrbResetEnd dt) (let s := base; let s := s.putBit R.HRB_CTRL 0 true; let s := s.putBit R.HRB_STAT 1 true; s)
      (fun u => Ready u ∧ u.bit R.HRB_CTRL 0 = true ∧ u.bit R.HRB_STAT 1 = true ∧ u.hrb.rstTick + 1000000 ≤ u.ticks) ∧
    Met (fun dt => .wackResume dt (.host : Init) (0 : Fin 4) (0 : Word)) (let s := base; let s := s.putBit (R.HRB_WATTR (0)) (8) true; let s := s.wr (R.HRB_WATTR 0) 0x140; s)
      (fun u => Ready u ∧ u.live (.host : Init) = true ∧ u.hwOn 0 = true ∧ u.hwOwner 0 = u.partOf (.host : Init) ∧ (u.partOf (.host : Init)).any (fun p => !u.inDsec p) = true) ∧
    Met (fun dt => .wackFlush dt (.host : Init) (0 : Fin 4) (0 : Word)) (let s := base; let s := s.putBit (R.HRB_WATTR (0)) (8) true; let s := s.wr (R.HRB_WATTR 0) 0x140; s)
      (fun u => Ready u ∧ u.live (.host : Init) = true ∧ u.hwOn 0 = true ∧ u.hwOwner 0 = u.partOf (.host : Init) ∧ (u.partOf (.host : Init)).any (fun p => !u.inDsec p) = true)) ∧
    (Met (fun dt => .wackResume dt (.host : Init) (0 : Fin 4) (0 : Word)) (let s := base; let s := s.putBit (R.HRB_WATTR (0)) (8) false; s)
      (fun u => Ready u ∧ u.live (.host : Init) = true ∧ (u.hwOn 0 = false ∨ u.hwOwner 0 ≠ u.partOf (.host : Init) ∨ (u.partOf (.host : Init)).all (fun p => u.inDsec p) = true)) ∧
    Met (fun dt => .wackFlush dt (.host : Init) (0 : Fin 4) (0 : Word)) (let s := base; let s := s.putBit (R.HRB_WATTR (0)) (8) false; s)
      (fun u => Ready u ∧ u.live (.host : Init) = true ∧ (u.hwOn 0 = false ∨ u.hwOwner 0 ≠ u.partOf (.host : Init) ∨ (u.partOf (.host : Init)).all (fun p => u.inDsec p) = true))) ∧
    Met (fun dt => .pollReadDue dt (0 : Fin 32)) (let s := base; let s := s.wr (R.HRB_PECFG 0) 1; let s := s.wr (R.HRB_PEPER 0) 1000; let s := s.putBit R.HRB_CTRL 0 true; let s := s.putBit R.HRB_STAT 1 false; let s := s.putBit R.HRB_STAT 2 false; let s := s.wr (R.HRB_WATTR 0) 0x140; let s := s.wr (R.HRB_WSIZE 0) 16; let s := s.putFld (R.TEN_OWN (0x0C4 / 4)) (8 * (0x0C4 % 4) + 7) (8 * (0x0C4 % 4)) 0x40; s)
      (fun u => Ready u ∧ nb (u.rd (R.HRB_PECFG 0)) 0 = true ∧ u.peTimer 0 ≠ (u.hrbPe 0).1 ∧ u.hwOn (nf (u.rd (R.HRB_PECFG 0)) 2 1) = true ∧ u.hwOwner (nf (u.rd (R.HRB_PECFG 0)) 2 1) = u.owner 0x0C4 ∧ u.fld (R.HRB_PEOFS 0) 23 0 + (if nb (u.rd (R.HRB_PECFG 0)) 3 then 4 else 2) ≤ u.fld (R.HRB_WSIZE (nf (u.rd (R.HRB_PECFG 0)) 2 1)) 23 0 ∧ ∀ t, t = u.setHrbPe 0 (u.peTimer 0, false) → t.hrbShut = false ∧ (t.hrbWin (nf (u.rd (R.HRB_PECFG 0)) 2 1)).halted = false) ∧
    (Met (fun dt => .atnAccept dt (0 : Fin 8) false) base
      (fun u => Ready u) ∧
    Met (fun dt => .atnAccept dt (0 : Fin 8) true) (let s := base; let s := s.putBit R.HRB_ATNLEV 0 false; s)
      (fun u => Ready u ∧ u.bit R.HRB_ATNLEV 0 = false) ∧
    Met (fun dt => .hrbCntclr dt (.boot : Init) 1) base
      (fun u => Writes (.boot : Init) 0x0C4 0xC00 u)) :=
  ⟨by decide +kernel,
    by decide +kernel,
    by decide +kernel,
    by decide +kernel,
    ⟨by decide +kernel, by decide +kernel, by decide +kernel, by decide +kernel, by decide +kernel, by decide +kernel, by decide +kernel, by simp only [forall_eq]; decide +kernel⟩,
    by decide +kernel⟩

theorem test_hyp_RedundancyCommandsComplete :
    (Met (fun dt => .primInChange dt 0) (let s := base; let s := s.putFld R.RDN_STAT 4 3 (1); s)
      (fun u => Ready u ∧ u.primIn ≠ 0 ∧ (u.putFld R.RDN_STAT 4 3 (0 : Nat)).paired = false) ∧
    Met (fun dt => .primInChange dt 3) (let s := base; let s := s.putBit R.RDN_RDNCFG 0 true; s)
      (fun u => Ready u ∧ u.primIn < 2 ∧ (u.putFld R.RDN_STAT 4 3 (3 : Nat)).paired = true ∧ (((u.putFld R.RDN_STAT 4 3 (3 : Nat)).incSat R.RDN_INTLKCNT).raise 0x0D0 1).prim ≠ prClaim) ∧
    Met (fun dt => .primInChange dt (0 : Fin 4)) (let s := base; let s := s.putFld R.RDN_STAT 4 3 (0); s)
      (fun u => Ready u ∧ u.primIn = 0) ∧
    Met (fun dt => .primacyClaim dt) (let s := base; let s := s.putBit R.RDN_RDNCFG 0 true; let s := s.wr R.PWR_TSSTAT 3; let s := s.putBit R.PWR_STAT 0 true; let s := { s with rdn := { s.rdn with lockTick := 1 } }; let s := s.putFld R.RDN_STAT 2 0 prIdle; let s := s.putFld R.RDN_STAT 4 3 0; s)
      (fun u => Ready u ∧ u.rdnEval.paired = true ∧ u.rdnEval.prim = prIdle ∧ u.rdnEval.rd R.RDN_REFUSE = 0 ∧ u.rdnEval.mayClaim = true)) ∧
    (Met (fun dt => .primacyConflict dt) (let s := base; let s := s.putFld R.RDN_STAT 2 0 (prHeld); let s := s.putFld R.RDN_STAT 4 3 2; s)
      (fun u => Ready u ∧ u.prim = prHeld ∧ 2 ≤ u.primIn ∧ u.rdn.heldTick + 500 ≤ u.ticks) ∧
    Met (fun dt => .primcmdRelease dt (.boot : Init) (0x9C1D0001 : Word)) base
      (fun u => KeyWrites (.boot : Init) 0x0D0 0xC00 0x9C1D (0x9C1D0001 : Word) u ∧ nb (0x9C1D0001 : Word).toNat 0 = true) ∧
    Met (fun dt => .primcmdRelease dt (.boot : Init) (0x9C1D0000 : Word)) base
      (fun u => KeyWrites (.boot : Init) 0x0D0 0xC00 0x9C1D (0x9C1D0000 : Word) u ∧ nb (0x9C1D0000 : Word).toNat 0 = false) ∧
    Met (fun dt => .primcmdRelease dt (.boot : Init) (0x0 : Word)) base
      (fun u => Writes (.boot : Init) 0x0D0 0xC00 u ∧ nf (0x0 : Word).toNat 31 16 ≠ 0x9C1D)) ∧
    (Met (fun dt => .primacyRelease dt) (let s := base; let s := { s with rdn := { s.rdn with relWait := some [] } }; let s := s.putFld R.RDN_STAT 2 0 (prHeld); s)
      (fun u => Ready u ∧ u.rdn.relWait = some [] ∧ u.prim = prHeld ∧ ∀ p ∈ [], u.commits p = false) ∧
    Met (fun dt => .heartbeatSend dt) (let s := base; let s := { s with rdn := { s.rdn with lockTick := 1 } }; s)
      (fun u => Ready u ∧ u.rdn.lockTick ≠ 0 ∧ u.rdn.sendTick + 100000 ≤ u.ticks) ∧
    Met (fun dt => .heartbeatReceived dt (0 : Word) true) base
      (fun u => Ready u) ∧
    Met (fun dt => .heartbeatReceived dt (0 : Word) false) base
      (fun u => Ready u)) ∧
    (Met (fun dt => .heartbeatTimeout dt) (let s := base; let s := s.putBit R.RDN_STAT 5 true; let s := { s with rdn := { s.rdn with hbSeen := false } }; s)
      (fun u => Ready u ∧ u.bit R.RDN_STAT 5 = true ∧ u.hbArriving = false) ∧
    Met (fun dt => .checkpointSendDone dt (0 : Word)) (let s := base; let s := { s with rdn := { s.rdn with flight := some (⟨0, 0, [], [], [], [], 0, 0⟩ : Ckpt) } }; s)
      (fun u => Ready u ∧ u.rdn.flight = some (⟨0, 0, [], [], [], [], 0, 0⟩ : Ckpt)) ∧
    Met (fun dt => .checkpointReceived dt (⟨0, 0, [], List.replicate 8 ⟨0, 0, 0, 0, 0⟩, [], [], 0, 0⟩ : Ckpt) (0 : Word)) (let s := base; let s := s.putBit R.RDN_RDNCFG (0) true; s)
      (fun u => Ready u ∧ u.cicada = true) ∧
    Met (fun dt => .standbyLaneTest dt (false : Bool)) (let s := base; let s := s.putBit R.RDN_RDNCFG (0) true; let s := { s with rdn := { s.rdn with lockTick := 1 } }; let s := s.putBit R.RDN_RDNCFG 8 true; s)
      (fun u => Ready u ∧ u.cicada = true ∧ u.rdn.lockTick ≠ 0 ∧ u.takeLanes ≠ [] ∧ u.rdn.testTick + 100000000 * u.fld R.RDN_STBYTEST 11 0 ≤ u.ticks)) :=
  ⟨by decide +kernel,
    by decide +kernel,
    by decide +kernel,
    by decide +kernel⟩

theorem test_hyp_UpdateSessionsComplete_9 (h : ∀ k t m, Config.tokenOk k t m = true) :
    Met (fun dt => .updcmdAbortother dt ((.lane 1 false) : Init) (0xD7A0005 : Word)) (let s := base; let s := s.putFld (R.TEN_OWN (0x0CC / 4)) (8 * (0x0CC % 4) + 7) (8 * (0x0CC % 4)) 2; let s := s.wr64 R.UPD_CHSRC 0x800000000; let s := s.putFld R.UPD_STAT 2 0 2; s)
      (fun u => KeyWrites ((.lane 1 false) : Init) 0x0CC 0xC00 0x0D7A (0xD7A0005 : Word) u ∧ nf (0xD7A0005 : Word).toNat 2 0 = 5 ∧ u.ack.updWindow (u.partNo ((.lane 1 false) : Init)) u.chSrc 112 = true ∧ u.ack.dmaRead 0x0CC 0x17 u.chSrc 112 = (u.ack, .ok, (List.replicate 112 0)) ∧ u.ack.abortable 2 = true ∧ u.ack.tokenGood (List.replicate 112 0) = true) :=
  ⟨by decide +kernel, by decide +kernel, by decide +kernel, by decide +kernel, by decide +kernel, by decide +kernel, by simp only [State.tokenGood, h]; decide +kernel⟩

theorem test_hyp_UpdateSessionsComplete_12 (h : ∀ b, Config.sha384 b = 0) (g : ∀ a b c, Config.ecdsaOk a b c = true) :
    Met (fun dt => .verifyDone dt 0) (let s := base; let s := s.putFld R.UPD_STAT 5 3 (stVerifying); let s := { s with upd := { s.upd with slots := [(s.slotStaging, [0x5A, 0x51, 0x49, 0x4D, 1, 0, 0, 0, 1, 0, 0, 0, 3] ++ List.replicate 499 0)] } }; s)
      (fun u => Ready u ∧ u.stageUpd = stVerifying ∧ u.imageReason (u.slot3 u.slotStaging) true = 0 ∧ (u.setStage stVerified).stage ≠ 6) :=
  ⟨by decide +kernel, by decide +kernel, by decide +kernel, imageReason_of h g (by decide +kernel), by decide +kernel⟩

theorem test_hyp_UpdateSessionsComplete_20 (h : ∀ k t m, Config.tokenOk k t m = true) :
    Met (fun dt => .tftpWriteAbort dt ((List.replicate 112 0) : List Byte)) (let s := base; let s := s.putFld R.SYS_BOOTSTAT 3 0 (6); let s := s.putFld R.UPD_STAT 2 0 (1); s)
      (fun u => Ready u ∧ u.svcOn = true ∧ u.abortable 1 = true ∧ u.tokenGood (((List.replicate 112 0) : List Byte).map BitVec.toNat) = true) :=
  ⟨by decide +kernel, by decide +kernel, by decide +kernel, by decide +kernel, by simp only [State.tokenGood, h]; decide +kernel⟩

theorem test_hyp_UpdateSessionsComplete :
    (Met (fun dt => .updcmdOpen dt (.boot : Init) (0xD7A0001 : Word)) (let s := base; let s := s.putFld R.UPD_STAT 2 0 (0); s)
      (fun u => KeyWrites (.boot : Init) 0x0CC 0xC00 0x0D7A (0xD7A0001 : Word) u ∧ nf (0xD7A0001 : Word).toNat 2 0 = 1 ∧ u.openBusy = false) ∧
    Met (fun dt => .updcmdOpen dt (.boot : Init) (0xD7A0001 : Word)) (let s := base; let s := s.putFld R.UPD_STAT 2 0 (1); s)
      (fun u => KeyWrites (.boot : Init) 0x0CC 0xC00 0x0D7A (0xD7A0001 : Word) u ∧ nf (0xD7A0001 : Word).toNat 2 0 = 1 ∧ u.openBusy = true) ∧
    Met (fun dt => .updcmdChunk dt ((.lane 1 false) : Init) (0xD7A0002 : Word)) (let s := base; let s := s.putFld R.UPD_STAT 2 0 (1); let s := { s with upd := { s.upd with chunk := none } }; let s := s.putFld (R.TEN_OWN (0x0CC / 4)) (8 * (0x0CC % 4) + 7) (8 * (0x0CC % 4)) 2; let s := s.putFld R.UPD_CHLEN 20 0 0x100000; let s := s.wr64 R.UPD_CHSRC 0x800000000; let s := { s with upd := { s.upd with openLen := 0x100000 } }; s)
      (fun u => KeyWrites ((.lane 1 false) : Init) 0x0CC 0xC00 0x0D7A (0xD7A0002 : Word) u ∧ nf (0xD7A0002 : Word).toNat 2 0 = 2 ∧ u.session = 1 ∧ u.upd.chunk = none ∧ 1 ≤ u.fld R.UPD_CHLEN 20 0 ∧ u.fld R.UPD_CHLEN 20 0 ≤ 1048576 ∧ u.ack.updWindow (u.partNo ((.lane 1 false) : Init)) u.chSrc (u.fld R.UPD_CHLEN 20 0) = true ∧ u.rd R.UPD_RXBYTES + u.fld R.UPD_CHLEN 20 0 ≤ u.upd.openLen) ∧
    Met (fun dt => .updcmdChunk dt (.boot : Init) (0xD7A0002 : Word)) base
      (fun u => KeyWrites (.boot : Init) 0x0CC 0xC00 0x0D7A (0xD7A0002 : Word) u ∧ nf (0xD7A0002 : Word).toNat 2 0 = 2 ∧ u.session ≠ 1)) ∧
    (Met (fun dt => .chunkDone dt) (let s := base; let s := { s with upd := { s.upd with chunk := some (0x800000000, 2) } }; let s := s.putFld (R.TEN_OWN (0x0CC / 4)) (8 * (0x0CC % 4) + 7) (8 * (0x0CC % 4)) 2; s)
      (fun u => Ready u ∧ u.upd.chunk = some (0x800000000, 2) ∧ u.dmaRead 0x0CC 0x17 0x800000000 2 = (u, .ok, [0, 0])) ∧
    Met (fun dt => .updcmdClose dt (.boot : Init) (0xD7A0003 : Word)) (let s := base; let s := s.putFld R.UPD_STAT 2 0 (1); let s := { s with upd := { s.upd with chunk := none } }; let s := s.wr R.UPD_RXBYTES (s.upd.openLen); s)
      (fun u => KeyWrites (.boot : Init) 0x0CC 0xC00 0x0D7A (0xD7A0003 : Word) u ∧ nf (0xD7A0003 : Word).toNat 2 0 = 3 ∧ u.session = 1 ∧ u.upd.chunk = none ∧ u.rd R.UPD_RXBYTES = u.upd.openLen) ∧
    Met (fun dt => .updcmdClose dt (.boot : Init) (0xD7A0003 : Word)) (let s := base; let s := s.putFld R.UPD_STAT 2 0 (1); let s := { s with upd := { s.upd with chunk := none } }; let s := { s with upd := { s.upd with openLen := 5 } }; s)
      (fun u => KeyWrites (.boot : Init) 0x0CC 0xC00 0x0D7A (0xD7A0003 : Word) u ∧ nf (0xD7A0003 : Word).toNat 2 0 = 3 ∧ u.session = 1 ∧ u.upd.chunk = none ∧ u.rd R.UPD_RXBYTES ≠ u.upd.openLen) ∧
    Met (fun dt => .updcmdAbort dt (.boot : Init) (0xD7A0004 : Word)) (let s := base; let s := s.putFld R.UPD_STAT 2 0 (1); s)
      (fun u => KeyWrites (.boot : Init) 0x0CC 0xC00 0x0D7A (0xD7A0004 : Word) u ∧ nf (0xD7A0004 : Word).toNat 2 0 = 4 ∧ u.session = 1)) ∧
    (Met (fun dt => .updcmdAbort dt (.boot : Init) (0xD7A0004 : Word)) base
      (fun u => KeyWrites (.boot : Init) 0x0CC 0xC00 0x0D7A (0xD7A0004 : Word) u ∧ nf (0xD7A0004 : Word).toNat 2 0 = 4 ∧ u.session ≠ 1) ∧
    Met (fun dt => .updcmdOpen dt (.boot : Init) 0) base
      (fun u => Writes (.boot : Init) 0x0CC 0xC00 u ∧ nf (0x0 : Word).toNat 31 16 ≠ 0x0D7A) ∧
    Met (fun dt => .sessionTimeout dt) (let s := base; let s := s.putFld R.UPD_STAT 2 0 (1); s)
      (fun u => Ready u ∧ u.session ≠ 0 ∧ u.upd.sessTick + 6000000000 ≤ u.ticks) ∧
    Met (fun dt => .verifyDone dt 1) (let s := base; let s := s.putFld R.UPD_STAT 5 3 (stVerifying); s)
      (fun u => Ready u ∧ u.stageUpd = stVerifying ∧ u.imageReason (u.slot3 u.slotStaging) false ≠ 0)) ∧
    (Met (fun dt => .verifyDone dt 2) (let s := base; let s := s.putFld R.UPD_STAT 5 3 (stVerifying); s)
      (fun u => Ready u ∧ u.stageUpd = stVerifying) ∧
    Met (fun dt => .tftpWriteStage dt (0 : BitVec 48) none) (let s := base; let s := s.putFld R.SYS_BOOTSTAT 3 0 (6); let s := s.putFld R.UPD_STAT 2 0 (0); s)
      (fun u => Ready u ∧ u.svcOn = true ∧ u.openBusy = false) ∧
    Met (fun dt => .tftpWriteStage dt (0 : BitVec 48) (some (0 : BitVec 16))) (let s := base; let s := s.putFld R.SYS_BOOTSTAT 3 0 (6); let s := s.putFld R.UPD_STAT 2 0 (0); s)
      (fun u => Ready u ∧ u.svcOn = true ∧ u.openBusy = false) ∧
    Met (fun dt => .tftpWriteStage dt (0 : BitVec 48) (some (0 : BitVec 16))) (let s := base; let s := s.putFld R.SYS_BOOTSTAT 3 0 (6); let s := s.putFld R.UPD_STAT 2 0 (1); s)
      (fun u => Ready u ∧ u.svcOn = true ∧ u.openBusy = true)) ∧
    (Met (fun dt => .tftpData dt (0 : BitVec 48) (0 : BitVec 16) ([1, 2, 3, 4, 5, 6, 7, 8] : List Byte)) (let s := base; let s := { s with upd := { s.upd with tftp := some ({ last := 65535, blk := 8 } : Tftp) } }; s)
      (fun u => Ready u ∧ u.upd.tftp = some ({ last := 65535, blk := 8 } : Tftp) ∧ ({ last := 65535, blk := 8 } : Tftp).peer = (0 : BitVec 48).toNat ∧ (0 : BitVec 16).toNat ≠ ({ last := 65535, blk := 8 } : Tftp).last % 65536 ∧ (0 : BitVec 16).toNat = (({ last := 65535, blk := 8 } : Tftp).last + 1) % 65536 ∧ ([1, 2, 3, 4, 5, 6, 7, 8] : List Byte).length = ({ last := 65535, blk := 8 } : Tftp).blk ∧ u.rd R.UPD_RXBYTES + ([1, 2, 3, 4, 5, 6, 7, 8] : List Byte).length ≤ 512 + kindLimit (if 9 ≤ u.rd R.UPD_RXBYTES ∧ within 1 4 (hdr (u.slot3 u.slotStaging) 8 1) = true then hdr (u.slot3 u.slotStaging) 8 1 else 1)) ∧
    Met (fun dt => .tftpData dt (0 : BitVec 48) (0 : BitVec 16) ([] : List Byte)) (let s := base; let s := { s with upd := { s.upd with tftp := some ({} : Tftp) } }; s)
      (fun u => Ready u ∧ u.upd.tftp = some ({} : Tftp) ∧ ({} : Tftp).peer = (0 : BitVec 48).toNat ∧ (0 : BitVec 16).toNat = ({} : Tftp).last % 65536) ∧
    Met (fun dt => .tftpWriteAbort dt ([] : List Byte)) (let s := base; let s := s.putFld R.SYS_BOOTSTAT 3 0 (6); s)
      (fun u => Ready u ∧ u.svcOn = true ∧ (u.abortable 1 = false ∨ u.tokenGood (([] : List Byte).map BitVec.toNat) = false)) ∧
    Met (fun dt => .tftpReadStatus dt) (let s := base; let s := s.putFld R.SYS_BOOTSTAT 3 0 (6); s)
      (fun u => Ready u ∧ u.svcOn = true)) ∧
    (Met (fun dt => .tftpError dt (0 : BitVec 48)) (let s := base; let s := { s with upd := { s.upd with tftp := some ({} : Tftp) } }; let s := s.putFld R.UPD_STAT 2 0 (2); s)
      (fun u => Ready u ∧ u.upd.tftp = some ({} : Tftp) ∧ ({} : Tftp).peer = (0 : BitVec 48).toNat ∧ u.session = 2) ∧
    Met (fun dt => .arpRequest dt (0xA9FE0001 : BitVec 32) (0 : BitVec 32) (0 : BitVec 48)) (let s := base; let s := s.putFld R.SYS_BOOTSTAT 3 0 (6); s)
      (fun u => Ready u ∧ u.svcOn = true ∧ (0xA9FE0001 : BitVec 32).toNat = u.svcIp)) :=
  ⟨by decide +kernel,
    by decide +kernel,
    by decide +kernel,
    by decide +kernel,
    by decide +kernel,
    by decide +kernel⟩

theorem test_hyp_ActivationCommandsComplete :
    (Met (fun dt => .actcmdSchedule dt (.boot : Init) (0xD7B0001 : Word)) (let s := base; let s := s.putFld R.UPD_STAT 5 3 (stVerified); let s := s.putBit R.UPD_PROBSTAT (0) false; let s := s.wr64 R.UPD_ACTTIME 40000000000000; s)
      (fun u => KeyWrites (.boot : Init) 0x0CD 0xC00 0x0D7B (0xD7B0001 : Word) u ∧ nf (0xD7B0001 : Word).toNat 2 0 = 1 ∧ u.stageUpd = stVerified ∧ u.probation = false ∧ u.actStat ≠ acProgress ∧ 1 ≤ u.fld R.UPD_ACTWIN 19 0 ∧ u.fld R.UPD_ACTWIN 19 0 ≤ 604800 ∧ u.moduleTime ≤ u.rd64 R.UPD_ACTTIME + 4000000000 * u.fld R.UPD_ACTWIN 19 0) ∧
    Met (fun dt => .actcmdSchedule dt (.boot : Init) (0xD7B0001 : Word)) (let s := base; let s := s.putFld R.UPD_STAT 5 3 (stVerified); let s := s.putBit R.UPD_PROBSTAT (0) false; s)
      (fun u => KeyWrites (.boot : Init) 0x0CD 0xC00 0x0D7B (0xD7B0001 : Word) u ∧ nf (0xD7B0001 : Word).toNat 2 0 = 1 ∧ u.stageUpd = stVerified ∧ u.probation = false ∧ u.actStat ≠ acProgress ∧ u.rd64 R.UPD_ACTTIME + 4000000000 * u.fld R.UPD_ACTWIN 19 0 < u.moduleTime) ∧
    Met (fun dt => .actcmdNow dt (.boot : Init) (0xD7B0002 : Word)) (let s := base; let s := s.putFld R.UPD_STAT 5 3 (stVerified); let s := s.putBit R.UPD_PROBSTAT (0) false; s)
      (fun u => KeyWrites (.boot : Init) 0x0CD 0xC00 0x0D7B (0xD7B0002 : Word) u ∧ nf (0xD7B0002 : Word).toNat 2 0 = 2 ∧ u.stageUpd = stVerified ∧ u.probation = false ∧ u.actStat ≠ acProgress) ∧
    Met (fun dt => .actcmdSchedule dt (.boot : Init) 0x0D7B0001) base
      (fun u => KeyWrites (.boot : Init) 0x0CD 0xC00 0x0D7B (0x0D7B0001 : Word) u ∧ u.stageUpd ≠ stVerified)) ∧
    (Met (fun dt => .actcmdCancel dt (.boot : Init) (0xD7B0003 : Word)) (let s := base; let s := s.putFld R.UPD_ACTSTAT 2 0 (acScheduled); s)
      (fun u => KeyWrites (.boot : Init) 0x0CD 0xC00 0x0D7B (0xD7B0003 : Word) u ∧ nf (0xD7B0003 : Word).toNat 2 0 = 3 ∧ u.actDue = false ∧ (u.actStat = acScheduled ∨ u.actStat = acPostponed)) ∧
    Met (fun dt => .actcmdCancel dt (.boot : Init) (0xD7B0003 : Word)) base
      (fun u => KeyWrites (.boot : Init) 0x0CD 0xC00 0x0D7B (0xD7B0003 : Word) u ∧ nf (0xD7B0003 : Word).toNat 2 0 = 3 ∧ u.actStat ≠ acScheduled ∧ u.actStat ≠ acPostponed) ∧
    Met (fun dt => .actcmdCancel dt (.boot : Init) (0xD7B0003 : Word)) (let s := base; let s := { s with upd := { s.upd with sched := some (39999000000000, 1) } }; let s := s.putFld R.UPD_ACTSTAT 2 0 acScheduled; let s := s.putFld (hStat 0x050) 2 0 2; s)
      (fun u => KeyWrites (.boot : Init) 0x0CD 0xC00 0x0D7B (0xD7B0003 : Word) u ∧ nf (0xD7B0003 : Word).toNat 2 0 = 3 ∧ u.actDue = true) ∧
    Met (fun dt => .actcmdConfirm dt (.boot : Init) (0xD7B0004 : Word)) (let s := base; let s := s.putBit R.UPD_PROBSTAT (0) true; s)
      (fun u => KeyWrites (.boot : Init) 0x0CD 0xC00 0x0D7B (0xD7B0004 : Word) u ∧ nf (0xD7B0004 : Word).toNat 2 0 = 4 ∧ u.probation = true)) ∧
    (Met (fun dt => .actcmdConfirm dt (.boot : Init) (0xD7B0004 : Word)) (let s := base; let s := s.putBit R.UPD_PROBSTAT (0) false; s)
      (fun u => KeyWrites (.boot : Init) 0x0CD 0xC00 0x0D7B (0xD7B0004 : Word) u ∧ nf (0xD7B0004 : Word).toNat 2 0 = 4 ∧ u.probation = false) ∧
    Met (fun dt => .actcmdConfirm dt (.boot : Init) (0x0 : Word)) base
      (fun u => Writes (.boot : Init) 0x0CD 0xC00 u ∧ nf (0x0 : Word).toNat 31 16 ≠ 0x0D7B) ∧
    Met (fun dt => .activationDue dt) (let s := base; let s := { s with upd := { s.upd with sched := some (39999000000000, 1) } }; let s := s.putFld R.UPD_ACTSTAT 2 0 (acScheduled); let s := s.putFld (hStat 0x050) 2 0 (2); s)
      (fun u => Ready u ∧ u.upd.sched = some (39999000000000, 1) ∧ (u.actStat = acScheduled ∨ u.actStat = acPostponed) ∧ 39999000000000 ≤ u.moduleTime ∧ u.moduleTime ≤ 39999000000000 + 4000000000 * 1 ∧ u.timeLocked = true) ∧
    Met (fun dt => .activationPostponed dt) (let s := base; let s := { s with upd := { s.upd with sched := some (39999000000000, 1) } }; let s := s.putFld R.UPD_ACTSTAT 2 0 (acScheduled); s)
      (fun u => Ready u ∧ u.upd.sched = some (39999000000000, 1) ∧ u.actStat = acScheduled ∧ 39999000000000 ≤ u.moduleTime ∧ u.timeLocked = false)) ∧
    Met (fun dt => .activationExpired dt) (let s := base; let s := { s with upd := { s.upd with sched := some (39999000000000, 0) } }; let s := s.putFld R.UPD_ACTSTAT 2 0 (acScheduled); s)
      (fun u => Ready u ∧ u.upd.sched = some (39999000000000, 0) ∧ (u.actStat = acScheduled ∨ u.actStat = acPostponed) ∧ 39999000000000 + 4000000000 * 0 < u.moduleTime) ∧
    Met (fun dt => .updateReset dt) (let s := base; let s := { s with upd := { s.upd with actTick := some 5 } }; s)
      (fun u => Ready u ∧ u.upd.actTick = some 5 ∧ ((∀ n < 6, u.cyRuns n = false) ∨ 5 + 100000000 ≤ u.ticks)) :=
  ⟨by decide +kernel,
    by decide +kernel,
    by decide +kernel,
    by decide +kernel,
    ⟨by decide +kernel, by decide +kernel, by decide +kernel, Or.inr (by decide +kernel)⟩⟩

theorem test_hyp_CounterCommandsComplete_0 (h : ∀ n, Config.freeWord n = 0) :
    Met (fun dt => .counterOverflow dt (0 : Fin 4) (1 : Byte)) (let s := base; let s := s.putBit (R.PMC_CTRL 0) 0 true; let s := s.wr (R.PMC_CFG 0 0) 0xEC1; let s := s.putBit (R.PMC_CFG 0 0) 7 false; s)
      (fun u => Ready u ∧ (List.range 8).filter (fun k => nb (1 : Byte).toNat k && u.pmcRuns 0 k) ≠ [] ∧ ∀ a, a = (forL ((List.range 8).filter (fun k => nb (1 : Byte).toNat k && u.pmcRuns 0 k)) (fun k (x : State) => (x.wr64 (R.PMC_CNT 0 k) (x.rd64 (R.PMC_RLD 0 k))).putBit (R.PMC_OVF 0) k true) (u.pmcAdvance 0)).raise (pmcPage 0) 0 → a.bit (R.PMC_CTRL 0) 1 = false ∧ ((List.range 8).filter (fun k => nb (1 : Byte).toNat k && u.pmcRuns 0 k)).find? (fun k => a.bit (R.PMC_CFG 0 k) 7) = none) :=
  ⟨by decide +kernel, by decide +kernel, by decide +kernel, by intro a ha; rw [pmcAdvance_of_zero h] at ha; subst ha; decide +kernel⟩

theorem test_hyp_CounterCommandsComplete :
    (Met (fun dt => .ovfClear dt (.boot : Init) (0 : Fin 4) (0 : Word)) base
      (fun u => Writes (.boot : Init) (pmcPage 0) 0x0E0 u) ∧
    Met (fun dt => .pmcSnap dt (.boot : Init) (0 : Fin 4) 1) base
      (fun u => Writes (.boot : Init) (pmcPage 0) 0xC00 u ∧ u.hasTriad 0 = true) ∧
    Met (fun dt => .preciseCapture dt (0 : Fin 4) (0 : Fin 8) (0 : Fin 4) (0 : BitVec 64) (0 : BitVec 64) (0 : Word)) (let s := base; let s := s.putBit (R.PMC_CFG 0 0) 7 true; let s := s.putBit (R.PMC_CTRL 0) 0 true; let s := s.wr (R.PMC_CFG 0 0) 0xEC1; s)
      (fun u => Ready u ∧ u.precise = true ∧ u.pmcRuns 0 0 = true ∧ u.bit (R.PMC_CFG 0 0) 7 = true ∧ u.pmcMode 0 0 0 = true ∧ u.fld (R.PMC_CAPCFG 0) 15 0 ≤ (0 : Word).toNat ∧ (u.pmcT 0).buf.length < 4096) ∧
    Met (fun dt => .preciseCapture dt (0 : Fin 4) (0 : Fin 8) (0 : Fin 4) (0 : BitVec 64) (0 : BitVec 64) (0 : Word)) (let s := base; let s := s.putBit (R.PMC_CFG 0 0) 7 true; let s := s.putBit (R.PMC_CTRL 0) 0 true; let s := s.wr (R.PMC_CFG 0 0) 0xEC1; let s := s.setPmcT 0 { (s.pmcT 0) with buf := List.replicate 4096 [] }; s)
      (fun u => Ready u ∧ u.precise = true ∧ u.pmcRuns 0 0 = true ∧ u.bit (R.PMC_CFG 0 0) 7 = true ∧ u.pmcMode 0 0 0 = true ∧ u.fld (R.PMC_CAPCFG 0) 15 0 ≤ (0 : Word).toNat ∧ 4096 ≤ (u.pmcT 0).buf.length)) ∧
    (Met (fun dt => .weevilRecord dt (0 : Fin 4) (0 : BitVec 64) (0 : BitVec 64) (0 : Word) (0 : Word) (0 : BitVec 10) (0 : Fin 4) (0 : BitVec 16)) (let s := base; let s := s.setPmcT 0 { (s.pmcT 0) with tag := some (0, 1) }; s)
      (fun u => Ready u ∧ (u.pmcT 0).tag = some (0, 1)) ∧
    Met (fun dt => .sbpop dt (.boot : Init) (0 : Fin 4)) (let s := base; let s := s.setPmcT 0 { (s.pmcT 0) with buf := ([] : List Nat) :: ([] : List (List Nat)) }; s)
      (fun u => Reads (.boot : Init) (pmcPage 0) 0xC04 u ∧ (u.pmcT 0).buf = ([] : List Nat) :: ([] : List (List Nat))) ∧
    Met (fun dt => .sbpop dt (.boot : Init) (0 : Fin 4)) (let s := base; let s := s.setPmcT 0 { (s.pmcT 0) with buf := [] }; s)
      (fun u => Reads (.boot : Init) (pmcPage 0) 0xC04 u ∧ (u.pmcT 0).buf = []) ∧
    Met (fun dt => .wvpop dt (.boot : Init) (0 : Fin 4)) (let s := base; let s := s.setPmcT 0 { (s.pmcT 0) with ring := ([] : List Nat) :: ([] : List (List Nat)) }; s)
      (fun u => Reads (.boot : Init) (pmcPage 0) 0xC08 u ∧ (u.pmcT 0).ring = ([] : List Nat) :: ([] : List (List Nat)))) ∧
    (Met (fun dt => .wvpop dt (.boot : Init) (0 : Fin 4)) (let s := base; let s := s.setPmcT 0 { (s.pmcT 0) with ring := [] }; s)
      (fun u => Reads (.boot : Init) (pmcPage 0) 0xC08 u ∧ (u.pmcT 0).ring = []) ∧
    Met (fun dt => .pmcCntclr dt (.boot : Init) (0 : Fin 4) 1) base
      (fun u => Writes (.boot : Init) (pmcPage 0) 0xC0C u)) :=
  ⟨by decide +kernel,
    by decide +kernel,
    by decide +kernel⟩

theorem test_hyp_PowerEventsComplete :
    (Met (fun dt => .poweron dt) (let s := base; let s := { s with sys := { s.sys with standby := false } }; s)
      (fun u => u.sys.standby = false) ∧
    Met (fun dt => .supplyUv dt) (let s := base; let s := { s with sys := { s.sys with standby := true } }; let s := s.putBit R.PWR_STAT (pwUv) false; s)
      (fun u => u.sys.standby = true ∧ u.uv = false) ∧
    Met (fun dt => .supplyReturn dt) (let s := base; let s := { s with sys := { s.sys with standby := true } }; let s := s.putBit R.PWR_STAT (pwUv) true; let s := { s with sys := { s.sys with on := true } }; let s := { s with sys := { s.sys with down := none } }; let s := { s with sys := { s.sys with uvTick := s.ticks } }; s)
      (fun u => u.sys.standby = true ∧ u.uv = true ∧ u.sys.on = true ∧ u.sys.down = none ∧ u.ticks - u.sys.uvTick < 1000000) ∧
    Met (fun dt => .supplyReturn dt) (let s := base; let s := { s with sys := { s.sys with standby := true } }; let s := s.putBit R.PWR_STAT (pwUv) true; let s := { s with sys := { s.sys with on := false } }; s)
      (fun u => u.sys.standby = true ∧ u.uv = true ∧ (u.sys.on = false ∨ 1000000 ≤ u.ticks - u.sys.uvTick))) ∧
    (Met (fun dt => .supplyOv dt (false : Bool)) (let s := base; let s := { s with sys := { s.sys with standby := true } }; let s := s.putBit R.PWR_STAT 2 true; s)
      (fun u => u.sys.standby = true ∧ u.bit R.PWR_STAT 2 ≠ (false : Bool)) ∧
    Met (fun dt => .powerFailWarning dt (false : Bool)) (let s := base; let s := s.putBit R.PWR_STAT (pwUv) true; s)
      (fun u => Ready u ∧ u.uv = true ∧ ((false : Bool) = true ∨ u.sys.uvTick + 1000000 ≤ u.ticks)) ∧
    Met (fun dt => .shutdownComplete dt (7 : Fin 8)) (let s := base; let s := { s with sys := { s.sys with down := some ({} : Shutdown) } }; let s := { s with evr := { s.evr with want := false } }; let s := s.putBit (hStat 0x0C8) 1 false; s)
      (fun u => u.sys.down = some ({} : Shutdown) ∧ (7 = 7 ∧ u.flushEnded = true ∨ ({} : Shutdown).tw + 4000000 ≤ u.ticks)) ∧
    Met (fun dt => .tripSupplyChange dt (0 : Fin 2)) (let s := base; let s := { s with sys := { s.sys with standby := true } }; let s := { s with sys := { s.sys with on := false } }; let s := { s with sys := { s.sys with tsSince := [(0, 0)] } }; s)
      (fun u => u.sys.standby = true ∧ u.sys.on = false ∧ tabFind u.sys.tsSince 0 = some 0 ∧ 0 + 100000 ≤ u.ticks)) ∧
    (Met (fun dt => .tempMeasure dt (1000 : BitVec 16)) (let s := base; let s := { s with sys := { s.sys with standby := true } }; let s := s.putBit R.PWR_STAT 6 false; s)
      (fun u => u.sys.standby = true ∧ u.sys.tempTick + 1000000 ≤ u.ticks ∧ 900 < sx 16 (1000 : BitVec 16).toNat ∧ sx 16 (1000 : BitVec 16).toNat ≤ 1000 ∧ u.bit R.PWR_STAT 6 = false) ∧
    Met (fun dt => .tempMeasure dt (0 : BitVec 16)) (let s := base; let s := { s with sys := { s.sys with standby := true } }; s)
      (fun u => u.sys.standby = true ∧ u.sys.tempTick + 1000000 ≤ u.ticks ∧ sx 16 (0 : BitVec 16).toNat < 850) ∧
    Met (fun dt => .thermal dt) (let s := base; let s := { s with sys := { s.sys with hotTick := some 0 } }; s)
      (fun u => Ready u ∧ u.sys.hotTick = some 0 ∧ 0 + 100000000 ≤ u.ticks) ∧
    Met (fun dt => .rstinAssert dt true) (let s := base; let s := { s with sys := { s.sys with standby := true } }; let s := { s with sys := { s.sys with rstin := false } }; s)
      (fun u => u.sys.standby = true ∧ u.sys.rstin = false)) ∧
    (Met (fun dt => .rstinAssert dt false) (let s := base; let s := { s with sys := { s.sys with standby := true } }; let s := { s with sys := { s.sys with rstin := false } }; let s := { s with sys := { s.sys with on := true } }; s)
      (fun u => u.sys.standby = true ∧ u.sys.rstin = false ∧ u.sys.on = true) ∧
    Met (fun dt => .rstinRelease dt) (let s := base; let s := { s with sys := { s.sys with rstin := true } }; let s := { s with sys := { s.sys with rstinTick := s.ticks } }; s)
      (fun u => u.sys.rstin = true ∧ u.rstinSecs < 10) ∧
    Met (fun dt => .clockFault dt (0 : Fin 6)) (let s := base; let s := { s with sys := { s.sys with on := true } }; s)
      (fun u => u.sys.on = true) ∧
    Met (fun dt => .clockRestart dt) (let s := base; let s := { s with sys := { s.sys with clocks := 0 :: [] } }; let s := { s with sys := { s.sys with clockHeld := true } }; s)
      (fun u => u.sys.clocks = 0 :: [] ∧ u.sys.clockHeld = true ∧ 0 + 10000000 ≤ u.ticks)) ∧
    (Met (fun dt => .standbyDomainLoss dt) (let s := base; let s := { s with sys := { s.sys with standby := true } }; let s := s.putBit R.PWR_STAT (pwUv) true; let s := { s with sys := { s.sys with on := true } }; s)
      (fun u => u.sys.standby = true ∧ u.uv = true ∧ u.sys.on = true) ∧
    Met (fun dt => .supplyMeasure dt ([0, 0, 0, 0] : List (BitVec 16)) ([0, 0] : List (BitVec 18)) (0 : BitVec 16) (0 : BitVec 16) (0 : BitVec 12)) (let s := base; let s := { s with sys := { s.sys with standby := true } }; let s := { s with sys := { s.sys with bankDone := false } }; s)
      (fun u => u.sys.standby = true ∧ u.sys.supTick + 10000 ≤ u.ticks ∧ u.sys.bankDone = false)) :=
  ⟨by decide +kernel,
    by decide +kernel,
    by decide +kernel,
    by decide +kernel,
    by decide +kernel⟩

theorem test_hyp_StartCommandsComplete :
    Met (fun dt => .mainDomainStart dt (⟨0, 0, true, 0, true, [], true, true, true, .done 0 false, true, true, [], 0, 0, ⟨[], [], [], [], List.replicate 6 []⟩⟩ : Boot)) (let s := base; let s := { s with sys := { s.sys with standby := true } }; let s := { s with sys := { s.sys with on := false } }; let s := s.putBit R.PWR_STAT (pwUv) false; let s := { s with sys := { s.sys with rstin := false } }; let s := { s with sys := { s.sys with clockHeld := false } }; let s := { s with sys := { s.sys with clockStop := false } }; let s := { s with sys := { s.sys with hot := false } }; let s := { s with sys := { s.sys with sleep := false } }; let s := s.wr R.PWR_STAT 1; s)
      (fun u => u.canStart = true ∧ (u.bootRom (⟨0, 0, true, 0, true, [], true, true, true, .done 0 false, true, true, [], 0, 0, ⟨[], [], [], [], List.replicate 6 []⟩⟩ : Boot)).stage ≠ 0) ∧
    Met (fun dt => .mainDomainStart dt (plainBoot : Boot)) (let s := base; let s := { s with sys := { s.sys with standby := true } }; let s := { s with sys := { s.sys with on := false } }; let s := s.putBit R.PWR_STAT (pwUv) false; let s := { s with sys := { s.sys with rstin := false } }; let s := { s with sys := { s.sys with clockHeld := false } }; let s := { s with sys := { s.sys with clockStop := false } }; let s := { s with sys := { s.sys with hot := false } }; let s := { s with sys := { s.sys with sleep := false } }; s)
      (fun u => u.canStart = true ∧ (u.bootRom (plainBoot : Boot)).stage = 0) ∧
    (Met (fun dt => .mainDomainStart dt (⟨0, 0, true, 0, true, [], true, true, true, .done 0 false, true, true, [], 0, 0, ⟨[], [], [], [], List.replicate 6 []⟩⟩ : Boot)) (let s := base; let s := { s with sys := { s.sys with standby := false } }; let s := { s with sys := { s.sys with on := true } }; s)
      (fun u => u.canStart = false ∧ u.sys.on = true ∧ u.stage < 5) ∧
    Met (fun dt => .bankok dt (2000 : BitVec 16) (0 : BitVec 8)) (let s := base; let s := { s with sys := { s.sys with standby := true } }; let s := { s with sys := { s.sys with bankDone := false } }; s)
      (fun u => u.sys.standby = true ∧ u.sys.bankDone = false ∧ 2000 ≤ (2000 : BitVec 16).toNat) ∧
    Met (fun dt => .bankok dt (0 : BitVec 16) (0 : BitVec 8)) (let s := base; let s := { s with sys := { s.sys with standby := true } }; let s := { s with sys := { s.sys with bankDone := false } }; s)
      (fun u => u.sys.standby = true ∧ u.sys.bankDone = false ∧ (0 : BitVec 16).toNat < 2000) ∧
    Met (fun dt => .hufault dt (0 : BitVec 8)) (let s := base; let s := { s with sys := { s.sys with on := true } }; let s := { s with sys := { s.sys with bankDone := false } }; let s := s.putBit R.PWR_STAT pwBank false; s)
      (fun u => u.sys.on = true ∧ u.sys.bankDone = false ∧ u.bit R.PWR_STAT pwBank = false ∧ u.sys.thrTick + 210000000 ≤ u.ticks)) ∧
    (Met (fun dt => .syscmdMreset dt (.boot : Init) (0x5A5E0001 : Word)) base
      (fun u => KeyWrites (.boot : Init) 0x001 0xC00 0x5A5E (0x5A5E0001 : Word) u ∧ nf (0x5A5E0001 : Word).toNat 1 0 = 1 ∧ u.voted (u.partNo (.boot : Init)) = true) ∧
    Met (fun dt => .syscmdSleep dt (.boot : Init) (0x5A5E0002 : Word)) base
      (fun u => KeyWrites (.boot : Init) 0x001 0xC00 0x5A5E (0x5A5E0002 : Word) u ∧ nf (0x5A5E0002 : Word).toNat 1 0 = 2 ∧ u.voted (u.partNo (.boot : Init)) = true) ∧
    Met (fun dt => .syscmdMreset dt .host 0x5A5E0001) (let s := base; let s := s.putFld (R.TEN_OWN 0) 15 8 0x40; s)
      (fun u => KeyWrites (.host : Init) 0x001 0xC00 0x5A5E (0x5A5E0001 : Word) u ∧ u.voted (u.partNo (.host : Init)) = false)) ∧
    Met (fun dt => .fusecmdRevoke dt (.boot : Init) (0xF05E0011 : Word)) (let s := base; let s := s.wr R.SYS_FUSESTAT 0; s)
      (fun u => KeyWrites (.boot : Init) 0x002 0xC00 0xF05E (0xF05E0011 : Word) u ∧ nb (0xF05E0011 : Word).toNat 4 = true ∧ u.voted (u.partNo (.boot : Init)) = true ∧ (∃ j < 4, j ≠ nf (0xF05E0011 : Word).toNat 1 0 ∧ u.bit R.SYS_FUSESTAT (4 + j) = false) ∧ u.ack.slotNum (u.fld R.UPD_SLOTROLE 1 0) 0x00B 1 ≠ nf (0xF05E0011 : Word).toNat 1 0) ∧
    Met (fun dt => .fusecmdRevoke dt (.host : Init) (0xF05E0010 : Word)) (let s := base; let s := s.putFld (R.TEN_OWN (2 / 4)) (8 * (2 % 4) + 7) (8 * (2 % 4)) 0x40; s)
      (fun u => KeyWrites (.host : Init) 0x002 0xC00 0xF05E (0xF05E0010 : Word) u ∧ nb (0xF05E0010 : Word).toNat 4 = true ∧ (u.voted (u.partNo (.host : Init)) = false ∨ (∀ j < 4, j ≠ nf (0xF05E0010 : Word).toNat 1 0 → u.bit R.SYS_FUSESTAT (4 + j) = true) ∨ u.ack.slotNum (u.fld R.UPD_SLOTROLE 1 0) 0x00B 1 = nf (0xF05E0010 : Word).toNat 1 0)) :=
  ⟨by decide +kernel,
    ⟨by decide +kernel, by decide +kernel, bootRom_stage _ _ (by decide) (by decide +kernel)⟩,
    by decide +kernel,
    by decide +kernel,
    ⟨by decide +kernel, by decide +kernel, by decide +kernel, by decide +kernel, ⟨0, by decide, by decide, by decide +kernel⟩, by decide +kernel⟩,
    ⟨by decide +kernel, by decide +kernel, by decide +kernel, Or.inl (by decide +kernel)⟩⟩

/-! The other statements: for each hypothesis, and for each clause at a boundary of its range, a state that meets it. -/

/-- `base` with a commit of page 0x050 armed and due, whose shadow of LOCKTH lies outside the register's range. -/
def armed : State :=
  let s := base.putFld (hCmtstat 0x050) 1 0 1
  { s.setPend 0x050 { armed := true, goTick := s.ticks, mode := 0, axis := 0, t0 := some s.ticks } with
    shadow := [(R.TMB_LOCKTH, 0)] }

/-- The same with a commit of page 0x050 pending only. -/
def pend50 : State := base.putFld (hCmtstat 0x050) 1 0 1

/-- `base` where two frames failed within the last minute and the nonce is in hand. -/
def twoFails : State :=
  { base.putBit R.MGT_CTRL 0 true with mgt := { base.mgt with
      nonce := some ([7], base.ticks), fails := [base.ticks, base.ticks], lockTick := none } }

/-- The block while its queue holds two commands. -/
def queued : State := { base with pending := [.denypop 3 .boot, .hostlinkDown 5] }

theorem test_hyp_StepRunsTheFrontCommand :
    queued.pending = .denypop 3 .boot :: [.hostlinkDown 5] ∧ base.pending = [] := by decide

theorem test_hyp_IllFormedCommandOnlyLetsTimePass :
    Instr.wf (.tftpData 0 0 0 (List.replicate 1469 0)) = false ∧ Instr.wf (.tftpData 0 0 0 (List.replicate 1468 0)) = true := by
  decide +kernel

theorem test_hyp_InvKeptByEveryStep : Inv queued ∧ ∃ t, step queued = .next t := by
  refine ⟨⟨⟨by decide +kernel, ?_⟩, by unfold MemOk; decide +kernel, by unfold MemOk; decide +kernel, ?_⟩, ?_⟩
  · decide +kernel
  · unfold QueueOk; decide
  · exact ⟨_, rfl⟩

theorem test_hyp_QueueIsWorkedOffInOrder :
    QueueOk queued ∧ queued.pending = [.denypop 3 .boot, .hostlinkDown 5] ++ [] ∧
    queued.pending = [.denypop 3 .boot] ++ [.hostlinkDown 5] := by
  unfold QueueOk; decide

theorem test_hyp_RegisterReadAfterWrite :
    (31 : Nat) < 32 ∧ hLock 0x050 ≠ hOwner 0x050 ∧ hLock 0x050 ≠ hOwner 0x050 + 8 := by decide

theorem test_hyp_DramReadAfterStore :
    let bs := [1, 2, 3, 4, 5, 6, 7, 8]
    0 < bs.length ∧ 7 < bs.length ∧ (23 < 24 ∨ 24 + bs.length ≤ 23) ∧ (32 < 24 ∨ 24 + bs.length ≤ 32) ∧
    24 ≤ 8 * 3 ∧ 8 * 3 + 8 ≤ 24 + bs.length := by decide

/-- PRESET by partition 0 itself, with a wrong key, with a wrong number, and by HOSTLINK for partition 6. -/
theorem test_hyp_PresetOnlyByThePartitionItself_writes :
    (Writes (.triad 0) 0x008 0xC00 (base.elapse 0) ∧ (base.elapse 0).partNo (.triad 0) < 8) ∧
    (let v : Word := 0xA5C30000
     nf v.toNat 31 16 = 0xA5C3 ∧ nf v.toNat 15 3 = 0 ∧ nf v.toNat 2 0 = base.partNo (.triad 0) ∧ base.present 0 = true) ∧
    nf (0xA5C20000 : Word).toNat 31 16 ≠ 0xA5C3 ∧ nf (0xA5C30001 : Word).toNat 2 0 ≠ base.partNo (.triad 0) ∧
    (Writes .host 0x008 0xC00 (base.elapse 0) ∧ (base.elapse 0).partNo .host = nf (0xA5C30006 : Word).toNat 2 0) := by
  decide +kernel

theorem test_hyp_RegisterAccessRules :
    (8 ≠ 4 ∨ 0 % 4 ≠ 0) ∧ (4 ≠ 4 ∨ 0x50002 % 4 ≠ 0) ∧
    (∃ r, rowOf (reg 0x00B 0x040) = some r ∧ r.acc = .ro) ∧ (0x040 ≠ 0x030 ∧ 0x040 ≠ 0x00C) ∧
    (rowOf (reg 0x00B 0xFF8) = none ∧ 0xFF8 < 4096 ∧ 0x00B < 512) ∧
    base.headView 0x00B 0xFF8 = none ∧ base.blockView 0x00B 0xFF8 = none := by
  refine ⟨by decide, by decide, ⟨(rowOf (reg 0x00B 0x040)).get (by decide +kernel), ?_, ?_⟩, by decide, by decide +kernel,
    by decide +kernel, by decide +kernel⟩ <;> decide +kernel

theorem test_hyp_AccessFaultLeaves : 511 < 512 ∧ 4095 < 4096 ∧ base.partNo (.triad 0) < 8 ∧ base.partNo .host < 8 := by
  decide +kernel

theorem test_hyp_CommitTakesTheShadows :
    (∃ r, rowOf R.TMB_LOCKTH = some r ∧ r.acc = .rws) ∧ R.TMB_LOCKTH = reg 0x050 (R.TMB_LOCKTH % 4096) ∧
    ownRow 0x050 (R.TMB_LOCKTH % 4096) = false ∧ base.allocated 0x050 = true ∧ base.absentReg 0x050 (R.TMB_LOCKTH % 4096) = false ∧
    R.TMB_LOCKTH % 4096 ≠ 0x030 ∧ R.TMB_LOCKTH % 4096 ≠ 0x00C ∧ base.isPending 0x050 = false ∧
    base.mappedAt 0x050 (R.TMB_LOCKTH % 4096) = false ∧ R.TMB_LOCKTH / 4096 = 0x050 ∧ rising armed.shadow = true := by
  refine ⟨⟨(rowOf R.TMB_LOCKTH).get (by decide +kernel), ?_, ?_⟩, ?_⟩ <;> decide +kernel

/-- A wrong tag after two failures, and each of the three commands while a lockout lasts. -/
theorem test_hyp_ThirdFailureLocksOut :
    (twoFails.mgt.lockTick = none ∧ twoFails.mgtTagOk 0x11 1 ⟨5, true, [], [1]⟩ = false ∧
      2 ≤ (twoFails.mgt.fails.filter (fun t => !twoFails.secSince t 60)).length) ∧
    (let s := { twoFails with mgt := { twoFails.mgt with lockTick := some 7 } }
     (s.elapse 0).mgt.lockTick = some 7 ∧ Heard (s.elapse 0) ∧ (⟨5, true, [], [1]⟩ : MgtFrame).pay.length = 1) := by
  decide +kernel

theorem test_hyp_CalgoSetsTheCalendar :
    (Writes .boot 0x0CB 0xC00 (base.elapse 0) ∧ (base.elapse 0).timeLocked = false) ∧
    (nf (0x0CA10001 : Word).toNat 31 16 = 0x0CA1 ∧ nb (0x0CA10001 : Word).toNat 0 = true) ∧
    (let s := base.putFld (hStat 0x050) 2 0 2
     Writes .boot 0x0CB 0xC00 (s.elapse 0) ∧ (s.elapse 0).timeLocked = true) := by
  decide +kernel

theorem test_hyp_ErrcodeHoldsTheMostRecentError :
    7 < 8 ∧ 0xFFFF < 2 ^ 16 ∧ 0x1FFFFF < 2 ^ 21 ∧ hStat 0x050 ≠ hErrcode 0x050 ∧ hStat 0x050 ≠ hErraddr 0x050 := by decide

/-- `base` where the start sequence holds the HI half of FIXTIME of axis 0, and has written its LO half. -/
def wideBase : State :=
  { base with ten := { base.ten with
      wideRd := [(wideKey .boot 0x041, (reg 0x041 0x08C + 1, 9))], wideWr := [(wideKey .boot 0x041, (reg 0x041 0x08C + 1, 7))] } }

theorem test_hyp_WidePairsAreWhole :
    (isLo (reg 0x041 0x08C) = true ∧ isHiHalf (reg 0x041 0x08C) = false ∧ base.allocated 0x041 = true ∧
      isHiHalf (reg 0x041 (0x08C + 4)) = true ∧
      tabGet (0, 0) wideBase.ten.wideRd (wideKey .boot 0x041) =
        (reg 0x041 0x08C + 1, 9)) ∧
    (isHiHalf (reg 0x041 0x090) = true ∧ isLo (reg 0x041 0x090) = false ∧
      (tabGet (0, 0) base.ten.wideRd (wideKey .boot 0x041)).1 ≠ reg 0x041 0x090 - 4 + 1) ∧
    (∃ r, rowOf (reg 0x041 0x08C) = some r ∧ rowOf (reg 0x041 0x090) = some r ∧ r.acc = .rw ∧ r.isHi 0x090 = true) ∧
    (Writes .boot 0x041 0x08C (base.elapse 0) ∧ Writes .boot 0x041 0x090 (wideBase.elapse 0)) ∧
    (ownRow 0x041 0x08C = false ∧ ownRow 0x041 0x090 = false ∧ wideBase.allocated 0x041 = true ∧ (0x041 < 0x0D4 ∨ 0x0D7 < 0x041)) ∧
    tabGet (0, 0) wideBase.ten.wideWr (wideKey .boot 0x041) = (reg 0x041 0x090 - 4 + 1, 7) := by
  refine ⟨by decide +kernel, by decide +kernel, ⟨(rowOf (reg 0x041 0x08C)).get (by decide +kernel), ?_, ?_, ?_, ?_⟩, ?_, ?_, ?_⟩ <;>
    decide +kernel

/-- A plain, a pending and a mapped write of an RWS register, both halves of an RWS pair, and writes of CMT. -/
theorem test_hyp_ShadowWritesAndAborts :
    (∃ r, rowOf (reg 0x050 0x058) = some r ∧ r.acc = .rws) ∧
    (base.allocated 0x050 = true ∧ isWide (reg 0x050 0x058) = false ∧ ownRow 0x050 0x058 = false ∧
      base.absentReg 0x050 0x058 = false ∧ Writes .boot 0x050 0x058 (base.elapse 0) ∧ base.isPending 0x050 = false ∧
      base.mappedAt 0x050 0x058 = false ∧ Writes .boot 0x050 0x058 (pend50.elapse 0) ∧ pend50.isPending 0x050 = true) ∧
    (let s := base.putBit (hStat 0x093) 7 true
     s.allocated 0x093 = true ∧ Writes .boot 0x093 0x044 (s.elapse 0) ∧ s.isPending 0x093 = false ∧ s.mappedAt 0x093 0x044 = true) ∧
    (∃ r, rowOf (reg 0x093 0x044) = some r ∧ r.acc = .rws) ∧
    (∃ r, rowOf (reg 0x04A 0x044) = some r ∧ rowOf (reg 0x04A 0x040) = some r ∧ r.acc = .rws ∧ r.isHi 0x044 = true) ∧
    (isLo (reg 0x04A 0x040) = true ∧ base.allocated 0x04A = true ∧
      let s := base.putFld (hCmtstat 0x04A) 1 0 1
      s.isPending 0x04A = true ∧ Writes .boot 0x04A 0x040 (s.elapse 0) ∧ Writes .boot 0x04A 0x044 (s.elapse 0)) ∧
    (ownRow 0x04A 0x044 = false ∧ ownRow 0x04A 0x040 = false ∧ base.absentReg 0x04A 0x044 = false ∧
      base.absentReg 0x04A 0x040 = false ∧ base.mappedAt 0x04A 0x044 = false ∧ base.mappedAt 0x04A 0x040 = false ∧
      let s := { base with ten := { base.ten with wideWr := [(wideKey .boot 0x04A, (reg 0x04A 0x044 - 4 + 1, 7))] } }
      s.isPending 0x04A = false ∧ Writes .boot 0x04A 0x044 (s.elapse 0) ∧
      tabGet (0, 0) s.ten.wideWr (wideKey .boot 0x04A) = (reg 0x04A 0x044 - 4 + 1, 7)) ∧
    (Writes .boot 0x050 0x030 (pend50.elapse 0) ∧ (0x300 : Word) ≠ 0 ∧ (0x300 : Word) ≠ 0x200 ∧
      Writes .boot 0x050 0x030 (base.elapse 0) ∧ nb (0x200 : Word).toNat 9 = true ∧ nb (0x300 : Word).toNat 9 = true) := by
  refine ⟨⟨(rowOf (reg 0x050 0x058)).get (by decide +kernel), ?_, ?_⟩, ?_, ?_,
    ⟨(rowOf (reg 0x093 0x044)).get (by decide +kernel), ?_, ?_⟩,
    ⟨(rowOf (reg 0x04A 0x044)).get (by decide +kernel), ?_, ?_, ?_, ?_⟩, ?_, ?_, ?_⟩ <;> decide +kernel

/-- Two states that differ in an EVF register only. -/
theorem test_hyp_VectorsShowRaisedSources :
    7 < 8 ∧ 63 < 64 ∧ ∀ p, base.allocated p = (base.wr (R.EVF_ROUTE 0 275) 0x80000000).allocated p ∧
      base.rd (hEvraw p) = (base.wr (R.EVF_ROUTE 0 275) 0x80000000).rd (hEvraw p) ∧
      base.rd (hEven p) = (base.wr (R.EVF_ROUTE 0 275) 0x80000000).rd (hEven p) := by
  have key : ∀ y x v, y ≠ x → base.rd y = (base.wr x v).rd y := fun y x v h => by
    simp only [State.rd, State.wr, State.regGet, State.regSet]
    rw [tabGet_set _ _ _ _ _ _ (fun e => absurd e h), if_neg h]
  have tri : base.hasTriad 2 = (base.wr (R.EVF_ROUTE 0 275) 0x80000000).hasTriad 2 := by decide +kernel
  refine ⟨by decide, by decide, fun p => ⟨by simp only [State.allocated, tri], key _ _ _ ?_, key _ _ _ ?_⟩⟩ <;>
    simp only [hEvraw, hEven, reg, R.EVF_ROUTE] <;> omega

theorem test_hyp_GrantTableJudgedByteByByte :
    Ready (base.elapse 0) ∧ (base.elapse 0).live (.triad 0) = true ∧ base.partNo (.triad 0) < 8 ∧
    base.mayTable (.triad 0) 127 = false ∧
    (let s := base.wr (R.TEN_OWN 20) 1
     (s.elapse 0).live (.triad 0) = true ∧ s.mayTable (.triad 0) 20 = true ∧ s.allocated 0x050 = true ∧
      s.owns (s.partNo (.triad 0)) 0x050 = true) := by
  decide +kernel

theorem test_hyp_RefusedCommitChangesNoRegister :
    Ready (armed.elapse 0) ∧ armed.isPending 0x050 = true ∧ (armed.pend 0x050).armed = true ∧ (armed.pend 0x050).t0.isSome = true ∧
    (armed.elapse 0).ownerHalted 0x050 = false ∧ (armed.elapse 0).descWaits 0x050 = false ∧
    0x050 ∈ (armed.elapse 0).commitGroup 0x050 ∧ (armed.elapse 0).pageCheck ((armed.elapse 0).commitGroup 0x050) 0x050 ≠ .ok := by
  decide +kernel

theorem test_hyp_MainDomainOffNothingHappens :
    (Instr.wf (.axisTick 0 7) = true ∧ Instr.standby (.axisTick 0 7) = false ∧ State.reset.sys.on = false) ∧
    (({ base with sys := { base.sys with down := some { kind := 1, tw := 5 } } }).sys.down.isSome = true ∧
      Instr.shed (.axisTick 0 7) = false) := by decide +kernel

theorem test_hyp_DeniedWriteHasNoEffect :
    Instr.wf (.registerWrite 0 (.triad 0) 0x050 0x20 1) = true ∧
    Instr.writes (.registerWrite 0 (.triad 0) 0x050 0x20 1) = some (.triad 0, 0x050, 0x080) ∧
    base.sys.on = true ∧ base.sys.down = none ∧ (base.elapse 0).live (.triad 0) = true ∧
    base.mayWrite (.triad 0) 0x050 0x080 = false ∧ (base.elapse 0).live (.triad 3) = false ∧
    { base with sys := { base.sys with standby := true } }.sys.standby = true ∧
    (({ base with sys := { base.sys with standby := true } } : State).elapse 0).live (.lane 1 false) = true ∧
    { base with sys := { base.sys with standby := true } }.mayWrite (.lane 1 false) 0x0CF 0xC00 = false ∧
    (({ base with sys := { base.sys with standby := true } } : State).elapse 0).live (.triad 3) = false := by
  decide +kernel

/-- Partition 1 owns DRAM window 0; partition 0 has no window. -/
theorem test_hyp_DramAccessTouchesOnlyItsBytes :
    (8 : Nat) ∈ [1, 2, 4, 8] ∧ base.firstPoison 0 8 = none ∧
    base.mem.syn.filter (fun e => decide (0 < 8 * e.1 + 8) && decide (8 * e.1 < 0 + 8)) = [] ∧
    base.dramWindow (.triad 0) 0 8 (wants .load) = none ∧
    base.dramWindow (.lane 1 false) 0 8 (wants (.store 5)) ≠ none ∧ (8 < 0 ∨ 0 + 8 ≤ 8) := by
  decide +kernel

theorem test_hyp_TimeOnlyMovesTheClock : 0 ≤ 2 ^ 48 + base.rate := by decide +kernel

/-! Ill-formed terms that each check of `Instr.wf` refuses, beside terms that it lets in. -/

theorem test_wf_nvSnap :
    Instr.wf (.nvSnap 0 .boot 1 ⟨List.replicate 30 0, List.replicate 32 0, 0, 0, 0, 0⟩ .agree) = false ∧
    Instr.wf (.nvSnap 0 .boot 1 ⟨List.replicate 31 0, List.replicate 31 0, 0, 0, 0, 0⟩ .agree) = false ∧
    Instr.wf (.nvSnap 0 .boot 1 ⟨List.replicate 31 0, List.replicate 32 0, 0, 0, 0, 0⟩ .agree) = true := by decide

theorem test_wf_sampleSetDelivery :
    Instr.wf (.sampleSetDelivery 0 (List.replicate 25 ⟨[], []⟩)) = false ∧
    Instr.wf (.sampleSetDelivery 0 (List.replicate 24 ⟨[⟨0, false⟩], []⟩)) = true := by decide

theorem test_wf_preMemoryWrite :
    Instr.wf (.preMemoryWrite 0 .boot 0 [1, 2, 3]) = false ∧ Instr.wf (.preMemoryWrite 0 .boot 2 [1, 2, 3, 4]) = true := by decide

theorem test_wf_loopScan :
    Instr.wf (.loopScan 0 (List.replicate 16 [0, 0, 0]) 0) = false ∧ Instr.wf (.loopScan 0 (List.replicate 15 [0, 0, 0, 0]) 0) = false ∧
    Instr.wf (.loopScan 0 (List.replicate 16 [0, 0, 0, 0]) 0) = true := by decide

theorem test_wf_canFrameReceived :
    Instr.wf (.canFrameReceived 0 0 ⟨1, false, false, false, false, false, 9, List.replicate 9 0⟩ 0 0) = false ∧
    Instr.wf (.canFrameReceived 0 0 ⟨1, false, false, false, false, false, 9, List.replicate 8 0⟩ 0 0) = true ∧
    Instr.wf (.canFrameReceived 0 0 ⟨1, false, true, false, false, false, 9, List.replicate 12 0⟩ 0 0) = true := by decide

theorem test_wf_ethFrameReceived :
    Instr.wf (.ethFrameReceived 0 0 ⟨List.replicate 13 0, none, true⟩ 0 0) = false ∧
    Instr.wf (.ethFrameReceived 0 0 ⟨List.replicate 14 0, none, true⟩ 0 0) = true := by decide

theorem test_wf_checkpointReceived :
    Instr.wf (.checkpointReceived 0 ⟨0, 0, [⟨0, 0, [], [], 0, List.replicate 31 0⟩], List.replicate 8 ⟨0, 0, 0, 0, 0⟩, [], [], 0, 0⟩ 0)
      = false ∧
    Instr.wf (.checkpointReceived 0 ⟨0, 0, [], List.replicate 7 ⟨0, 0, 0, 0, 0⟩, [], [], 0, 0⟩ 0) = false ∧
    Instr.wf (.checkpointReceived 0 ⟨0, 0, [⟨0, 0, [], [], 0, List.replicate 32 0⟩], List.replicate 8 ⟨0, 0, 0, 0, 0⟩, [], [], 0, 0⟩ 0)
      = true := by decide

theorem test_wf_mainDomainStart :
    let b (n : Nat) : Boot :=
      ⟨5, 1, true, 0, false, [], true, true, true, .failed, true, true, [], 0, 0, ⟨[], [], [], [], List.replicate n []⟩⟩
    Instr.wf (.mainDomainStart 0 (b 5)) = false ∧ Instr.wf (.mainDomainStart 0 (b 6)) = true := by decide

theorem test_wf_supplyMeasure :
    Instr.wf (.supplyMeasure 0 [0, 0, 0] [0, 0] 0 0 0) = false ∧ Instr.wf (.supplyMeasure 0 [0, 0, 0, 0] [0] 0 0 0) = false ∧
    Instr.wf (.supplyMeasure 0 [0, 0, 0, 0] [0, 0] 0 0 0) = true := by decide

theorem test_wf_axisMeasurement :
    Instr.wf (.axisMeasurement 0 (.mains 0 (List.replicate 4 ⟨[], []⟩)) 0) = false ∧ Instr.wf (.axisMeasurement 0 (.mains 0 (List.replicate 3 ⟨[], []⟩)) 0) = true := by
  decide

/-! The step, the queue and the register file at work. -/

/-- A test's machine after `n` steps. -/
def after (n : Nat) (s : State) : State := (s.run n).getD s

theorem test_queue_first_in_first_out :
    (after 1 queued).pending = [.hostlinkDown 5] ∧ (after 1 queued).host.up = true ∧ (after 2 queued).host.up = false := by
  decide +kernel

theorem test_step_on_empty_queue_is_a_tick : after 1 base = base.elapse 1 := by decide +kernel

theorem test_ill_formed_only_lets_time_pass :
    after 1 { base with pending := [.tftpData 3 0 0 (List.replicate 1469 0)] } = base.elapse 3 := by decide +kernel

/-- R19, R20: a write by a partition that does not own the page is the access fault, with the entry of R63. -/
theorem test_denied_write :
    let t := after 1 { base with pending := [.registerWrite 0 (.triad 0) 0x050 0x20 1] }
    t.resp = .fault none ∧ t.rd R.TEN_DENYCNT = 1 ∧ t.rd R.TEN_DENYLAST = 0x80800050 ∧ t.rd R.TEN_DENYOFS = 0x080 := by
  decide +kernel

/-- A byte equal to what an unlisted byte reads as is not listed. -/
theorem test_memory_is_canonical :
    ((base.dramPut 5 [1, 2]).dramPut 5 [0, 2]).mem.dram = [(6, 2)] ∧ ((base.dramPut 9 [3]).dramPut 4 [7]).mem.dram = [(4, 7), (9, 3)] := by
  decide +kernel

/-- The check values of the two CRCs over the digits 1 to 9. -/
theorem test_crc :
    crc16 [0x31, 0x32, 0x33, 0x34, 0x35, 0x36, 0x37, 0x38, 0x39] = 0x29B1 ∧
    crc32c [0x31, 0x32, 0x33, 0x34, 0x35, 0x36, 0x37, 0x38, 0x39] = 0xE3069283 := by decide +kernel

theorem test_no_word_spells_a_command : decodeTableWord 32 0 = none ∧ base.withFetchWord 32 0 = base := by
  exact ⟨rfl, by decide +kernel⟩

end Sys2Proof.Tests
end

/-! ### Reading the registers after a write (R8), an error record (R49) or the MSI-X messages of a command (R24) -/

namespace Sys2Proof.Machine

section Registers
variable (s : State)

theorem State.regGet_regSet (x y : Nat) (w : Word) :
    (s.regSet x w).regGet y = if y = x then w else s.regGet y :=
  tabGet_set _ _ _ _ _ _ fun h => congrArg resetWord h

@[simp] theorem State.rd_wr_same (x n : Nat) : (s.wr x n).rd x = n % 2 ^ 32 := by
  simp [State.rd, State.wr, State.regGet_regSet]

theorem State.rd_wr_other {x y : Nat} (n : Nat) (h : y ≠ x) : (s.wr x n).rd y = s.rd y := by
  simp [State.rd, State.wr, State.regGet_regSet, h]

/-- ERRADDR of a page and its ERRCODE are two registers. -/
theorem hErraddr_ne_hErrcode (p : Nat) : hErraddr p ≠ hErrcode p := by
  simp [hErraddr, hErrcode, reg]

/-- ERRCODE holds bit 31, PART and CODE of the error recorded (R49). -/
theorem State.rd_err_code (p x : Nat) {part code : Nat} (hp : part < 8) (hc : code < 2 ^ 16) :
    (s.err p part code x).rd (hErrcode p) = 0x80000000 + part * 2 ^ 24 + code := by
  unfold State.err
  rw [State.rd_wr_other _ _ (hErraddr_ne_hErrcode p).symm, State.rd_wr_same]
  omega

/-- ERRADDR holds the address of the register concerned (R49). -/
theorem State.rd_err_addr (p part code : Nat) {x : Nat} (hx : x < 0x40000000) :
    (s.err p part code x).rd (hErraddr p) = 0x40000000 + x := by
  unfold State.err
  rw [State.rd_wr_same]
  omega

/-- An error record changes ERRCODE and ERRADDR of its page and no other register. -/
theorem State.rd_err_other (p part code x : Nat) {y : Nat} (h1 : y ≠ hErrcode p) (h2 : y ≠ hErraddr p) :
    (s.err p part code x).rd y = s.rd y := by
  unfold State.err
  rw [State.rd_wr_other _ _ h2, State.rd_wr_other _ _ h1]

/-- The MSI-X messages that go out change the part of HOSTLINK alone. -/
theorem State.msixSend_eq : s.msixSend = { s with host := s.msixSend.host } := by
  unfold State.msixSend
  split <;> rfl

@[simp] theorem State.msixSend_regs : s.msixSend.regs = s.regs := by rw [State.msixSend_eq]
@[simp] theorem State.msixSend_ten : s.msixSend.ten = s.ten := by rw [State.msixSend_eq]
@[simp] theorem State.msixSend_ticks : s.msixSend.ticks = s.ticks := by rw [State.msixSend_eq]
@[simp] theorem State.rd_msixSend (x : Nat) : s.msixSend.rd x = s.rd x := by
  rw [State.msixSend_eq]
  rfl

end Registers

/-! ### The management port: a frame that is authenticated leaves the composition as it was -/

theorem rd_authed_other (s : State) {x : Nat} (h : x ≠ R.MGT_RXFRM) : s.authed.rd x = s.rd x :=
  s.rd_wr_other _ h

theorem bit_authed_other (s : State) {x : Nat} (i : Nat) (h : x ≠ R.MGT_RXFRM) : s.authed.bit x i = s.bit x i :=
  congrArg (nb · i) (rd_authed_other s h)

@[simp] theorem authed_present (s : State) (n : Nat) : s.authed.present n = s.present n := by
  unfold State.present
  split
  · rw [bit_authed_other s 31 (by simp only [R.TEN_PCOMP, R.MGT_RXFRM]; omega)]
  · rw [bit_authed_other s 0 (by decide)]

/-! ### PRESET (R38) -/

/-- The word asks, with the key and with zeros in [15:3], for the reset of partition `n`, and `n` is present (R38). -/
abbrev AsksOwnReset (v : Word) (n : Nat) (u : State) : Prop :=
  nf v.toNat 31 16 = 0xA5C3 ∧ nf v.toNat 15 3 = 0 ∧ nf v.toNat 2 0 = n ∧ u.present (nf v.toNat 2 0) = true

/-- The code of a refused PRESET (R38). -/
abbrev presetCode (v : Word) : Nat := if nf v.toNat 31 16 = 0xA5C3 then eBadValue else eBadKey

/-- After a reset request for `n`, the request of `n` bears the present tick, and every other one is as before. -/
theorem State.askReset_resetReq (s : State) (n m : Nat) :
    tabGet 0 (s.askReset n).ten.resetReq m = if m = n then s.ticks + 1 else tabGet 0 s.ten.resetReq m :=
  tabGet_set 0 0 s.ten.resetReq n m (s.ticks + 1) fun _ => rfl

section Preset
variable {dt : Nat} {who : Init} {v : Word} {s : State}

theorem execPresetWrite_accepted (hw : Writes who 0x008 0xC00 (s.elapse dt))
    (h : AsksOwnReset v ((s.elapse dt).partNo who) (s.elapse dt)) :
    execPresetWrite dt who v s = .next ((s.elapse dt).ack.askReset (nf v.toNat 2 0)).msixSend := by
  obtain ⟨⟨hon, hdown⟩, hlive, hmay⟩ := hw
  obtain ⟨hkey, hzero, hown, hpresent⟩ := h
  unfold execPresetWrite
  rw [onMain_ready hon hdown, cmdW_ok hlive hmay]
  simp [hkey, hzero, hpresent, ← hown]

theorem execPresetWrite_refused (hw : Writes who 0x008 0xC00 (s.elapse dt))
    (h : ¬ AsksOwnReset v ((s.elapse dt).partNo who) (s.elapse dt)) :
    execPresetWrite dt who v s =
      .next ((s.elapse dt).ack.err 0x008 ((s.elapse dt).partNo who) (presetCode v) R.TEN_PRESET).msixSend := by
  obtain ⟨⟨hon, hdown⟩, hlive, hmay⟩ := hw
  unfold execPresetWrite
  rw [onMain_ready hon hdown, cmdW_ok hlive hmay]
  by_cases hkey : nf v.toNat 31 16 = 0xA5C3
  · have hbad : nf v.toNat 15 3 ≠ 0 ∨ (!(s.elapse dt).ack.present (nf v.toNat 2 0)) = true ∨
        nf v.toNat 2 0 ≠ (s.elapse dt).partNo who := by
      refine Decidable.byContradiction fun hgood => ?_
      obtain ⟨hzero, hrest⟩ := not_or.1 hgood
      obtain ⟨hpresent, hown⟩ := not_or.1 hrest
      rw [ack_present, Bool.not_eq_true', Bool.not_eq_false] at hpresent
      exact h ⟨hkey, Decidable.of_not_not hzero, Decidable.of_not_not hown, hpresent⟩
    dsimp only [presetCode]
    rw [if_neg (fun hne => hne hkey), if_pos hbad, if_pos hkey]
  · dsimp only [presetCode]
    rw [if_pos hkey, if_neg hkey]

/-- An authenticated PRESET command for a present partition below 7 notes the request for it (R31, R556). -/
theorem execMgtPreset_accepted {f : MgtFrame} (ha : Authentic 0x10 f (s.elapse dt)) (hl : f.pay.length = 2)
    (hon : (s.elapse dt).sys.on = true) (hn : mgtNum f 1 1 < 7) (hp : (s.elapse dt).present (mgtNum f 1 1) = true) :
    execMgtPreset dt f s =
      .next (((s.elapse dt).authed.mgtAccept 0x10 (mgtNum f 0 1)).askReset (mgtNum f 1 1)).msixSend := by
  have hcore : ¬ 7 < mgtNum f 1 1 ∧ mgtNum f 1 1 ≠ 7 := by omega
  unfold execMgtPreset
  rw [always_next, mgtCmd_ok ha hl hon]
  simp [hcore, hp]

end Preset

/-- Settles O12: an accepted write is a reset request and nothing else, and a refused one is an error record. -/
theorem presetOnlyByThePartitionItself : Obligations.PresetOnlyByThePartitionItself := by
  unfold Obligations.PresetOnlyByThePartitionItself
  constructor
  · rintro f dt s - ⟨ha, hl, hon, hn, hp⟩
    exact execMgtPreset_accepted ha hl hon hn hp
  · intro dt who v s hw hpart
    by_cases h : AsksOwnReset v ((s.elapse dt).partNo who) (s.elapse dt)
    · refine ⟨_, execPresetWrite_accepted hw h, ?_⟩
      rw [if_pos h]
      refine ⟨fun m => ?_, State.msixSend_regs _⟩
      rw [State.msixSend_ten, State.msixSend_ticks]
      exact State.askReset_resetReq _ _ m
    · refine ⟨_, execPresetWrite_refused hw h, ?_⟩
      rw [if_neg h]
      have hcode : presetCode v < 2 ^ 16 := by unfold presetCode; split <;> decide
      refine ⟨?_, ?_, ?_, fun x hx hy => ?_⟩
      · rw [State.msixSend_ten, State.err_ten]
        rfl
      · exact (State.rd_msixSend _ _).trans (State.rd_err_addr _ _ _ _ (by decide))
      · exact (State.rd_msixSend _ _).trans (State.rd_err_code _ _ _ hpart hcode)
      · exact (State.rd_msixSend _ _).trans (State.rd_err_other _ _ _ _ _ hx hy)

end Sys2Proof.Machine

namespace Sys2Proof.Machine

/-! ### ERRCODE and ERRADDR of a page (R49) -/

section ErrorRecord
variable (s : State)

/-- A register reads what was written to it, and every other one as before. -/
theorem State.rd_wr (x y n : Nat) : (s.wr x n).rd y = if y = x then n % 2 ^ 32 else s.rd y := by
  split
  next h => rw [h, State.rd_wr_same]
  next h => exact s.rd_wr_other n h

/-- The later of two error records of a page leaves nothing of the one before. -/
theorem State.rd_err_err (p part code x part' code' x' y : Nat) :
    ((s.err p part code x).err p part' code' x').rd y = (s.err p part' code' x').rd y := by
  unfold State.err
  simp only [State.rd_wr]
  split
  · rfl
  · split <;> rfl

end ErrorRecord

/-- The fields of an ERRCODE word: VALID, the reserved bits above PART, PART, the reserved bits above CODE, and CODE (R49). -/
theorem errcode_fields {part code : Nat} (hp : part < 8) (hc : code < 2 ^ 16) :
    let w := 0x80000000 + part * 2 ^ 24 + code
    nf w 31 31 = 1 ∧ nf w 30 27 = 0 ∧ nf w 26 24 = part ∧ nf w 23 16 = 0 ∧ nf w 15 0 = code := by
  simp only [nf]
  omega

/-- Settles O49: each of the two registers reads what `err` writes to it last. -/
theorem errcodeHoldsTheMostRecentError : Obligations.ErrcodeHoldsTheMostRecentError := by
  unfold Obligations.ErrcodeHoldsTheMostRecentError
  intro s p part code x part' code' x' hp hc hx
  refine ⟨?_, s.rd_err_addr p part code (by omega), s.rd_err_err p part code x part' code' x',
    fun y hcode haddr => s.rd_err_other p part code x hcode haddr, s.err_shadow p part code x, s.err_mem p part code x,
    s.err_pending p part code x⟩
  rw [s.rd_err_code p x hp hc]
  exact errcode_fields hp hc

/-! ### Writes of shadowed registers and of CMT (R50, R52) -/

section Shadows
variable (s : State)

/-- A shadow reads what was written to it, and every other one as before. -/
theorem State.sh_setShadow (x y n : Nat) : (s.setShadow x n).sh y = if y = x then n % 2 ^ 32 else s.sh y := by
  have hget : tabGet (s.regGet y) (s.setShadow x n).shadow y =
      if y = x then BitVec.ofNat 32 n else tabGet (s.regGet y) s.shadow y :=
    tabGet_set _ _ _ _ _ _ fun h => congrArg s.regGet h
  change (tabGet (s.regGet y) (s.setShadow x n).shadow y).toNat = _
  rw [hget]
  split
  · exact BitVec.toNat_ofNat n 32
  · rfl

/-- A page whose shadows are dropped has none listed (R52). -/
theorem State.dropShadows_unlisted {p y : Nat} (h : y / 4096 = p) : tabFind (s.dropShadows p).shadow y = none := by
  have hfind := tabFind_filter s.shadow (fun k => decide (k / 4096 ≠ p)) y
  rw [if_neg (by simp [h])] at hfind
  exact hfind

/-- An unlisted shadow reads the active value. -/
theorem State.sh_of_unlisted {y : Nat} (h : tabFind s.shadow y = none) : s.sh y = s.rd y := by
  simp [State.sh, State.rd, tabGet, h]

@[simp] theorem State.pend_setPend_same (p : Nat) (c : Pend) : (s.setPend p c).pend p = c := by
  simp [State.pend, State.setPend, tabGet_set]

end Shadows

/-! ### What time and the MSI-X messages leave as it was -/

section Elapsed
variable (s : State)

@[simp] theorem State.msixSend_shadow : s.msixSend.shadow = s.shadow := by rw [State.msixSend_eq]
@[simp] theorem State.sh_msixSend (x : Nat) : s.msixSend.sh x = s.sh x := by
  rw [State.msixSend_eq]
  rfl
@[simp] theorem State.elapse_isPending (n p : Nat) : (s.elapse n).isPending p = s.isPending p := rfl
@[simp] theorem State.elapse_allocated (n p : Nat) : (s.elapse n).allocated p = s.allocated p := rfl

end Elapsed

/-! ### A register write that is let in, and one that is refused -/

section Frame
variable {dt : Nat} {who : Init} {p o : Nat} {s : State}

theorem onMain_cmdW_ok (hw : Writes who p o (s.elapse dt)) (g : Nat → State → State) :
    onMain dt s (fun u => u.cmdW who p o g) = .next (g ((s.elapse dt).partNo who) (s.elapse dt).ack).msixSend := by
  obtain ⟨⟨hon, hdown⟩, hlive, hmay⟩ := hw
  rw [onMain_ready hon hdown, cmdW_ok hlive hmay]

/-- The block after a write of the register at `x` that is let in and then refused for a pending commit of page `p` (R52). -/
abbrev State.refusedBusy (s : State) (dt : Nat) (who : Init) (p x : Nat) : State :=
  ((s.elapse dt).ack.err p ((s.elapse dt).partNo who) eShadowBusy x).msixSend

/-- From `s` to `t` an error of code `code` was recorded in page `p`: the shadows, TEN and the other registers are as
before (R49). -/
abbrev OnlyError (s t : State) (p code : Nat) : Prop :=
  t.shadow = s.shadow ∧ t.ten = s.ten ∧ (∀ y, y ≠ hErrcode p → y ≠ hErraddr p → t.rd y = s.rd y) ∧
    nf (t.rd (hErrcode p)) 15 0 = code

/-- CODE of ERRCODE is the code of the error recorded, whatever its partition (R49). -/
theorem State.errcode_err (u : State) (p part x : Nat) {code : Nat} (hc : code < 2 ^ 16) :
    nf ((u.err p part code x).rd (hErrcode p)) 15 0 = code := by
  unfold State.err
  rw [State.rd_wr_other _ _ (hErraddr_ne_hErrcode p).symm, State.rd_wr_same]
  simp only [nf]
  omega

/-- A write that is let in and refused records its error and does nothing else. -/
theorem onlyError_err (n x : Nat) {code : Nat} (hc : code < 2 ^ 16) :
    OnlyError s ((s.elapse dt).ack.err p n code x).msixSend p code := by
  refine ⟨?_, ?_, fun y hcode haddr => ?_, ?_⟩
  · exact (State.msixSend_shadow _).trans (State.err_shadow _ _ _ _ _)
  · exact (State.msixSend_ten _).trans (State.err_ten _ _ _ _ _)
  · exact (State.rd_msixSend _ y).trans (State.rd_err_other _ _ _ _ _ hcode haddr)
  · rw [State.rd_msixSend]
    exact State.errcode_err _ _ _ _ hc

end Frame

/-! ### Plain writes of RWS registers and of CMT -/

section PlainWrite
variable {s u : State} {p o : Nat} {r : RegRow}

/-- Offset `o` of page `p` is an RWS register of row `r` that the page has and that a plain write reaches. -/
structure PlainRws (s : State) (p o : Nat) (r : RegRow) : Prop where
  row : rowOf (reg p o) = some r
  acc : r.acc = .rws
  notOwn : ownRow p o = false
  allocated : s.allocated p = true
  notAbsent : s.absentReg p o = false
  notCmt : o ≠ 0x030
  notLock : o ≠ 0x00C

/-! The registers decide what a page has, whether a commit of it is pending, and which maps feed it. -/

theorem rd_of_regs (h : u.regs = s.regs) (x : Nat) : u.rd x = s.rd x := by simp only [State.rd, State.regGet, h]

theorem hasTriad_of_regs (h : u.regs = s.regs) (t : Nat) : u.hasTriad t = s.hasTriad t := by
  simp only [State.hasTriad, rd_of_regs h]

theorem allocated_of_regs (h : u.regs = s.regs) (p : Nat) : u.allocated p = s.allocated p := by
  simp only [State.allocated, hasTriad_of_regs h]

theorem absentReg_of_regs (h : u.regs = s.regs) (p o : Nat) : u.absentReg p o = s.absentReg p o := by
  unfold State.absentReg
  rw [hasTriad_of_regs h]

theorem isPending_of_regs (h : u.regs = s.regs) (p : Nat) : u.isPending p = s.isPending p := by
  simp only [State.isPending, State.fld, rd_of_regs h]

theorem mappedAt_of_regs (h : u.regs = s.regs) (p o : Nat) : u.mappedAt p o = s.mappedAt p o := by
  simp only [State.mappedAt, State.bit, rd_of_regs h]

/-- A write to an RWS register: SHADOW_BUSY while a commit of the page is pending, else MAPPED where an output map feeds the
register, else the shadow (R52, R358, R402). -/
theorem plainWrite_rws (h : PlainRws s p o r) (hregs : u.regs = s.regs) (n v : Nat) :
    u.plainWrite n p o v =
      if s.isPending p then u.err p n eShadowBusy (reg p o)
      else if s.mappedAt p o then u.err p n 0x0101 (reg p o)
      else u.setShadow (reg p o) (v &&& r.maskAt o) := by
  unfold State.plainWrite
  simp only [allocated_of_regs hregs, absentReg_of_regs hregs, isPending_of_regs hregs, mappedAt_of_regs hregs,
    h.row, h.acc, h.notOwn, h.allocated, h.notAbsent, h.notCmt, h.notLock]
  rfl

/-- With no commit pending and no map feeding it, an RWS register's write lands in its shadow (R52). -/
theorem plainWrite_rws_shadow (h : PlainRws s p o r) (hregs : u.regs = s.regs) (hpend : s.isPending p = false)
    (hmap : s.mappedAt p o = false) (n v : Nat) :
    u.plainWrite n p o v = u.setShadow (reg p o) (v &&& r.maskAt o) := by
  rw [plainWrite_rws h hregs, hpend, hmap]
  rfl

/-- The row of CMT, in the header of every page (R41). -/
def cmtRow : RegRow := ⟨0x030, 1, 4096, 1, 4096, .rw, 0, 0xFFFF0773, false, false⟩

theorem rowOf_hCmt (p : Nat) : rowOf (hCmt p) = some cmtRow := by
  have hofs : hCmt p % 4096 = 0x030 := by simp only [hCmt, reg]; omega
  have hhead : rowsHead.find? (fun r => r.covers 0x030) = some cmtRow := by decide
  simp only [rowOf, List.find?_append, hofs, hhead, Option.some_or]

theorem ownRow_cmt (p : Nat) : ownRow p 0x030 = false := by simp [ownRow]

theorem absentReg_cmt (u : State) (p : Nat) : u.absentReg p 0x030 = false := by simp [State.absentReg]

/-- While a commit is pending, CMT takes no field but ABORT (R52). -/
theorem plainWrite_cmt_busy (n : Nat) {v : Nat} (halloc : u.allocated p = true) (hpend : u.isPending p = true)
    (hv : v ≠ 0) : u.plainWrite n p 0x030 v = u.err p n eShadowBusy (hCmt p) := by
  unfold State.plainWrite
  simp [ownRow_cmt, halloc, absentReg_cmt, rowOf_hCmt, hpend, hv]

/-- The registers after whose write `masked` acts are GPAR and SAFEMASK, and neither has a shadow. -/
theorem masked_registers_have_no_shadow :
    ∀ p ∈ [0x093, 0x094, 0x095, 0x096], ∀ o ∈ [0x040, 0x058],
      (rowOf (reg p o)).any (fun r => r.acc == .rws) = false := by
  decide

theorem masked_rws (hrow : rowOf (reg p o) = some r) (hacc : r.acc = .rws) : u.masked p o = u := by
  unfold State.masked
  rw [if_neg]
  intro hmask
  have hp : p ∈ [0x093, 0x094, 0x095, 0x096] := by simp [within] at hmask ⊢; omega
  have ho : o ∈ [0x040, 0x058] := by simp [within] at hmask ⊢; omega
  have hno := masked_registers_have_no_shadow p hp o ho
  simp [hrow, hacc] at hno

theorem masked_cmt (u : State) (p : Nat) : u.masked p 0x030 = u := by simp [State.masked]

end PlainWrite

/-! ### The write commands of RWS registers -/

/-- The LO half that an initiator holds for a pair of the page is taken out of its holding register (R60). -/
def loTaken (u : State) (who : Init) (p : Nat) : State :=
  { u with ten := { u.ten with wideWr := tabSet (0, 0) u.ten.wideWr (wideKey who p) (0, 0) } }

section RwsWrites
variable {dt : Nat} {who : Init} {p : Fin 512} {w : Fin 1024} {v : Word} {s : State} {r : RegRow}

/-- A 32-bit write of an RWS register that is let in is the plain write of it. -/
theorem execRegisterWrite_rws (hw : Writes who p.val (4 * w.val) (s.elapse dt)) (h : PlainRws s p.val (4 * w.val) r)
    (hnarrow : isWide (reg p.val (4 * w.val)) = false) :
    execRegisterWrite dt who p w v s =
      .next ((s.elapse dt).ack.plainWrite ((s.elapse dt).partNo who) p.val (4 * w.val) v.toNat).msixSend := by
  unfold execRegisterWrite
  rw [onMain_cmdW_ok hw, hnarrow, masked_rws h.row h.acc]
  rfl

/-- Every word lies within its page. -/
theorem word_mod (w : Fin 1024) : 4 * w.val % 4096 = 4 * w.val := by omega

/-- A LO write of an RWS pair is refused while a commit of the page is pending (R52). -/
theorem execWideLoWrite_busy (hw : Writes who p.val (4 * w.val) (s.elapse dt))
    (hrow : rowOf (reg p.val (4 * w.val)) = some r) (hacc : r.acc = .rws) (halloc : s.allocated p.val = true)
    (hpend : s.isPending p.val = true) (hlo : isLo (reg p.val (4 * w.val)) = true) :
    execWideLoWrite dt who p w v s = .next (s.refusedBusy dt who p.val (reg p.val (4 * w.val))) := by
  unfold execWideLoWrite
  rw [onMain_cmdW_ok hw]
  simp [hrow, hacc, halloc, hpend, hlo]

/-- A HI write of an RWS pair is refused while a commit of the page is pending (R52). -/
theorem execWideHiWrite_busy (hw : Writes who p.val (4 * w.val) (s.elapse dt))
    (hrow : rowOf (reg p.val (4 * w.val)) = some r) (hacc : r.acc = .rws) (halloc : s.allocated p.val = true)
    (hpend : s.isPending p.val = true) (hhi : r.isHi (4 * w.val) = true) :
    execWideHiWrite dt who p w v s = .next (s.refusedBusy dt who p.val (reg p.val (4 * w.val))) := by
  unfold execWideHiWrite
  rw [onMain_cmdW_ok hw]
  simp [hrow, word_mod, hhi, hacc, halloc, hpend]

/-- A HI write for which the LO half is held writes both halves, the LO half first (R60). -/
theorem execWideHiWrite_held {lo : Nat} (hw : Writes who p.val (4 * w.val) (s.elapse dt))
    (hrow : rowOf (reg p.val (4 * w.val)) = some r) (hacc : r.acc = .rws) (hhi : r.isHi (4 * w.val) = true)
    (halloc : s.allocated p.val = true) (hpend : s.isPending p.val = false)
    (hheld : tabGet (0, 0) s.ten.wideWr (wideKey who p.val) = (reg p.val (4 * w.val) - 4 + 1, lo)) :
    execWideHiWrite dt who p w v s =
      .next (((loTaken (s.elapse dt).ack who p.val).plainWrite ((s.elapse dt).partNo who) p.val (4 * w.val - 4) lo).plainWrite
        ((s.elapse dt).partNo who) p.val (4 * w.val) v.toNat).msixSend := by
  unfold execWideHiWrite
  rw [onMain_cmdW_ok hw]
  simp [loTaken, hrow, word_mod, hhi, hacc, halloc, hpend, hheld]

end RwsWrites

/-- After a shadow write of the LO half and one of the HI half, the two shadows read what was written, and every other one
as before. -/
theorem State.sh_setShadow_pair (u : State) {x x' : Nat} (hne : x' ≠ x) (n n' : Nat) :
    ((u.setShadow x' n').setShadow x n).sh x = n % 2 ^ 32 ∧ ((u.setShadow x' n').setShadow x n).sh x' = n' % 2 ^ 32 ∧
      ∀ y, y ≠ x → y ≠ x' → ((u.setShadow x' n').setShadow x n).sh y = u.sh y := by
  refine ⟨?_, ?_, fun y hx hx' => ?_⟩
  · rw [State.sh_setShadow, if_pos rfl]
  · rw [State.sh_setShadow, if_neg hne, State.sh_setShadow, if_pos rfl]
  · rw [State.sh_setShadow, if_neg hx, State.sh_setShadow, if_neg hx']

/-! ### CMT while a commit is pending, and ABORT -/

section Cmt
variable {dt : Nat} {who : Init} {p : Fin 512} {v : Word} {s : State}

/-- ABORT with a further bit is refused while a commit is pending (R52). -/
theorem execCmtAbort_busy (hw : Writes who p.val 0x030 (s.elapse dt)) (halloc : s.allocated p.val = true)
    (hpend : s.isPending p.val = true) (habort : nb v.toNat 9 = true) (hmore : v.toNat ≠ 0x200) :
    execCmtAbort dt who p v s = .next (s.refusedBusy dt who p.val (hCmt p.val)) := by
  unfold execCmtAbort
  rw [onMain_cmdW_ok hw]
  simp [halloc, hpend, habort, hmore]

/-- GO is refused while a commit is pending (R52). -/
theorem execCmtGo_busy (hw : Writes who p.val 0x030 (s.elapse dt)) (halloc : s.allocated p.val = true)
    (hpend : s.isPending p.val = true) (habort : nb v.toNat 9 = false) (hgo : nb v.toNat 8 = true) :
    execCmtGo dt who p v s = .next (s.refusedBusy dt who p.val (hCmt p.val)) := by
  unfold execCmtGo
  rw [onMain_cmdW_ok hw]
  simp [halloc, hpend, habort, hgo]

/-- A write of the other fields of CMT is refused while a commit is pending (R52). -/
theorem execRegisterWrite_cmt_busy (hw : Writes who p.val 0x030 (s.elapse dt)) (halloc : s.allocated p.val = true)
    (hpend : s.isPending p.val = true) (hv : v.toNat ≠ 0) :
    execRegisterWrite dt who p 12 v s = .next (s.refusedBusy dt who p.val (hCmt p.val)) := by
  have hnarrow : isWide (hCmt p.val) = false := by
    unfold isWide
    rw [rowOf_hCmt]
    rfl
  unfold execRegisterWrite
  change onMain dt s (fun u => u.cmdW who p.val 0x030 fun n u =>
    if isWide (hCmt p.val) then u else (u.plainWrite n p.val 0x030 v.toNat).masked p.val 0x030) = _
  rw [onMain_cmdW_ok hw, hnarrow, masked_cmt, plainWrite_cmt_busy (u := (s.elapse dt).ack) _ halloc hpend hv]
  rfl

/-- ABORT alone, or with further bits while no commit is pending, discards; in the second case TAG, VIEW, AXIS and MODE are
written (R52). -/
theorem execCmtAbort_done (hw : Writes who p.val 0x030 (s.elapse dt)) (halloc : s.allocated p.val = true)
    (habort : nb v.toNat 9 = true) (halone : s.isPending p.val = true → v.toNat = 0x200) :
    execCmtAbort dt who p v s =
      .next (if s.isPending p.val then (s.elapse dt).ack.discard p.val rAborted
        else ((s.elapse dt).ack.discard p.val rAborted).cmtFields v.toNat p.val).msixSend := by
  unfold execCmtAbort
  rw [onMain_cmdW_ok hw]
  by_cases hpend : s.isPending p.val = true
  · simp only [halloc, habort, hpend, ack_allocated, State.elapse_allocated, ack_isPending, State.elapse_isPending]
    rw [if_pos (halone hpend)]
    rfl
  · simp [halloc, habort, hpend]

end Cmt

section Discard
variable (u : State) (p reason : Nat)

theorem State.discard_shadow : (u.discard p reason).shadow = (u.dropShadows p).shadow := by
  unfold State.discard State.endCmtstat State.setCmtstat
  rw [State.putFld_shadow]
  rfl

/-- A discarded page has nothing armed (R52). -/
theorem State.discard_pend : (u.discard p reason).pend p = {} := by
  unfold State.pend State.discard State.endCmtstat State.setCmtstat
  rw [State.putFld_ten]
  exact State.pend_setPend_same _ _ _

/-- Of the registers a discard changes CMTSTAT alone. -/
theorem State.rd_discard_other {y : Nat} (h : y ≠ hCmtstat p) : (u.discard p reason).rd y = u.rd y :=
  State.rd_wr_other _ _ h

/-- The low byte of CMTSTAT after a discard: REASON over STATE, which is PENDING while a change of the program still waits
on the page, and else IDLE (R51, assumption 117). -/
theorem State.discard_cmtstat :
    nf ((u.discard p reason).rd (hCmtstat p)) 7 0 = reason % 16 * 16 + if u.chgPends p then 1 else 0 := by
  have hchg : ((u.dropShadows p).setPend p {}).chgPends p = u.chgPends p := rfl
  unfold State.discard State.endCmtstat State.setCmtstat State.putFld
  rw [State.rd_wr_same, hchg]
  simp only [nf, nput]
  split <;> omega

end Discard

/-! ### The clauses of R52 -/

section Clauses
variable {dt : Nat} {who : Init} {p : Fin 512} {w : Fin 1024} {v : Word} {s : State} {r : RegRow}

/-- A 32-bit write of an RWS register: refused while a commit is pending or where a map feeds the register, else in the shadow
(R52, R358, R402). -/
theorem registerWrite_rws_outcome (hw : Writes who p.val (4 * w.val) (s.elapse dt)) (h : PlainRws s p.val (4 * w.val) r)
    (hnarrow : isWide (reg p.val (4 * w.val)) = false) :
    ∃ t, execRegisterWrite dt who p w v s = .next t ∧
      if s.isPending p.val then OnlyError s t p.val eShadowBusy
      else if s.mappedAt p.val (4 * w.val) then
        t.shadow = s.shadow ∧ (∀ y, y ≠ hErrcode p.val → y ≠ hErraddr p.val → t.rd y = s.rd y) ∧
        nf (t.rd (hErrcode p.val)) 15 0 = 0x0101
      else t.regs = s.regs ∧ t.sh (reg p.val (4 * w.val)) = (v.toNat &&& r.maskAt (4 * w.val)) % 2 ^ 32 ∧
        ∀ y, y ≠ reg p.val (4 * w.val) → t.sh y = s.sh y := by
  refine ⟨_, execRegisterWrite_rws hw h hnarrow, ?_⟩
  rw [plainWrite_rws (u := (s.elapse dt).ack) h rfl]
  split
  · exact onlyError_err _ _ (by decide)
  · split
    · obtain ⟨hshadow, -, hrd, hcode⟩ := onlyError_err (s := s) (dt := dt) (p := p.val) ((s.elapse dt).partNo who)
        (reg p.val (4 * w.val)) (show 0x0101 < 2 ^ 16 by decide)
      exact ⟨hshadow, hrd, hcode⟩
    · refine ⟨State.msixSend_regs _, ?_, fun y hy => ?_⟩
      · rw [State.sh_msixSend, State.sh_setShadow, if_pos rfl]
      · rw [State.sh_msixSend, State.sh_setShadow, if_neg hy]
        rfl

/-- Either half of an RWS pair is refused while a commit of the page is pending (R52). -/
theorem widePair_busy (hw : Writes who p.val (4 * w.val) (s.elapse dt))
    (hrow : rowOf (reg p.val (4 * w.val)) = some r) (hacc : r.acc = .rws) (halloc : s.allocated p.val = true)
    (hpend : s.isPending p.val = true) (hhalf : isLo (reg p.val (4 * w.val)) = true ∨ r.isHi (4 * w.val) = true) :
    ∃ t, exec (if isLo (reg p.val (4 * w.val)) then .wideLoWrite dt who p w v else .wideHiWrite dt who p w v) s = .next t ∧
      OnlyError s t p.val eShadowBusy := by
  by_cases hlo : isLo (reg p.val (4 * w.val)) = true
  · rw [if_pos hlo]
    exact ⟨_, execWideLoWrite_busy hw hrow hacc halloc hpend hlo, onlyError_err _ _ (by decide)⟩
  · rw [if_neg hlo]
    exact ⟨_, execWideHiWrite_busy hw hrow hacc halloc hpend (hhalf.resolve_left hlo), onlyError_err _ _ (by decide)⟩

/-- The HI write of an RWS pair puts all 64 bits into the two shadows and changes no register (R52, R60). -/
theorem wideHiWrite_both_shadows {lo : Nat} (hw : Writes who p.val (4 * w.val) (s.elapse dt)) (hpos : 1 ≤ w.val)
    (hhi : PlainRws s p.val (4 * w.val) r) (hlo : PlainRws s p.val (4 * w.val - 4) r) (hishi : r.isHi (4 * w.val) = true)
    (hmapHi : s.mappedAt p.val (4 * w.val) = false) (hmapLo : s.mappedAt p.val (4 * w.val - 4) = false)
    (hpend : s.isPending p.val = false)
    (hheld : tabGet (0, 0) s.ten.wideWr (wideKey who p.val) = (reg p.val (4 * w.val) - 4 + 1, lo)) :
    ∃ t, execWideHiWrite dt who p w v s = .next t ∧ t.regs = s.regs ∧
      t.sh (reg p.val (4 * w.val)) = (v.toNat &&& r.maskAt (4 * w.val)) % 2 ^ 32 ∧
      t.sh (reg p.val (4 * w.val - 4)) = (lo &&& r.maskAt (4 * w.val - 4)) % 2 ^ 32 ∧
      ∀ y, y ≠ reg p.val (4 * w.val) → y ≠ reg p.val (4 * w.val - 4) → t.sh y = s.sh y := by
  refine ⟨_, execWideHiWrite_held hw hhi.row hhi.acc hishi hhi.allocated hpend hheld, ?_⟩
  rw [plainWrite_rws_shadow (u := loTaken (s.elapse dt).ack who p.val) hlo rfl hpend hmapLo,
    plainWrite_rws_shadow (u := State.setShadow (loTaken (s.elapse dt).ack who p.val) _ _) hhi rfl hpend hmapHi]
  have hne : reg p.val (4 * w.val - 4) ≠ reg p.val (4 * w.val) := by simp only [reg]; omega
  simp only [State.sh_msixSend]
  exact ⟨State.msixSend_regs _, State.sh_setShadow_pair _ hne _ _⟩

/-- While a commit is pending every write of CMT but ABORT alone, and but 0, is refused (R52). -/
theorem cmt_busy (hw : Writes who p.val 0x030 (s.elapse dt)) (halloc : s.allocated p.val = true)
    (hpend : s.isPending p.val = true) (hv : v ≠ 0) (habortAlone : v ≠ 0x200) :
    ∃ t, exec (if nb v.toNat 9 then .cmtAbort dt who p v else if nb v.toNat 8 then .cmtGo dt who p v
        else .registerWrite dt who p 12 v) s = .next t ∧ OnlyError s t p.val eShadowBusy := by
  by_cases habort : nb v.toNat 9 = true
  · rw [if_pos habort]
    have hmore : v.toNat ≠ 0x200 := fun h => habortAlone (BitVec.eq_of_toNat_eq h)
    exact ⟨_, execCmtAbort_busy hw halloc hpend habort hmore, onlyError_err _ _ (by decide)⟩
  · rw [if_neg habort]
    by_cases hgo : nb v.toNat 8 = true
    · rw [if_pos hgo]
      exact ⟨_, execCmtGo_busy hw halloc hpend (eq_false_of_ne_true habort) hgo, onlyError_err _ _ (by decide)⟩
    · rw [if_neg hgo]
      have hnz : v.toNat ≠ 0 := fun h => hv (BitVec.eq_of_toNat_eq h)
      exact ⟨_, execRegisterWrite_cmt_busy hw halloc hpend hnz, onlyError_err _ _ (by decide)⟩

/-- A state whose shadows and commits are those of a discard of page `p`, and whose registers but CMT are, has every shadow
of `p` at its active value, REASON ABORTED and nothing armed, and every register but CMT and CMTSTAT as before. -/
theorem aborted_of_discard {u t : State} {p : Nat} (hshadow : t.shadow = (u.discard p rAborted).shadow)
    (hten : t.ten = (u.discard p rAborted).ten) (hrd : ∀ y, y ≠ hCmt p → t.rd y = (u.discard p rAborted).rd y) :
    (∀ y, y / 4096 = p → t.sh y = t.rd y) ∧ (∀ y, y ≠ hCmt p → y ≠ hCmtstat p → t.rd y = u.rd y) ∧
      nf (t.rd (hCmtstat p)) 7 0 = (if u.chgPends p then 0x51 else 0x50) ∧ t.pend p = {} := by
  have hne : hCmtstat p ≠ hCmt p := by simp [hCmtstat, hCmt, reg]
  refine ⟨fun y hy => ?_, fun y hcmt hstat => ?_, ?_, ?_⟩
  · apply State.sh_of_unlisted
    rw [hshadow, State.discard_shadow]
    exact State.dropShadows_unlisted u hy
  · rw [hrd y hcmt, State.rd_discard_other _ _ _ hstat]
  · rw [hrd _ hne, State.discard_cmtstat]
    split <;> rfl
  · unfold State.pend
    rw [hten]
    exact State.discard_pend _ _ _

/-- What CMT holds after `v` is written to it: TAG, VIEW, AXIS and MODE (R50). -/
abbrev cmtWord (v : Nat) : Nat := nf v 31 16 * 65536 + nf v 10 10 * 1024 + nf v 6 4 * 16 + nf v 1 0

theorem rd_cmtFields_cmt (u : State) (v : Word) (p : Nat) :
    (u.cmtFields v.toNat p).rd (hCmt p) = cmtWord v.toNat := by
  unfold State.cmtFields
  rw [State.rd_wr_same]
  simp only [cmtWord, nf]
  omega

/-- ABORT gives the shadows of the page their active values and leaves nothing armed; TAG, VIEW, AXIS and MODE are written
where no commit was pending (R52). -/
theorem cmtAbort_outcome (hw : Writes who p.val 0x030 (s.elapse dt)) (halloc : s.allocated p.val = true)
    (habort : nb v.toNat 9 = true) (halone : s.isPending p.val = true → v.toNat = 0x200) :
    ∃ t, execCmtAbort dt who p v s = .next t ∧
      ((∀ y, y / 4096 = p.val → t.sh y = t.rd y) ∧ (∀ y, y ≠ hCmt p.val → y ≠ hCmtstat p.val → t.rd y = s.rd y) ∧
        nf (t.rd (hCmtstat p.val)) 7 0 = (if s.chgPends p.val then 0x51 else 0x50) ∧ t.pend p.val = {}) ∧
      t.rd (hCmt p.val) = if s.isPending p.val then s.rd (hCmt p.val) else cmtWord v.toNat := by
  have hne : hCmt p.val ≠ hCmtstat p.val := by simp [hCmtstat, hCmt, reg]
  refine ⟨_, execCmtAbort_done hw halloc habort halone, ?_⟩
  by_cases hpend : s.isPending p.val = true
  · rw [if_pos hpend, if_pos hpend]
    refine ⟨aborted_of_discard (u := (s.elapse dt).ack) (State.msixSend_shadow _) (State.msixSend_ten _)
      fun y _ => State.rd_msixSend _ y, ?_⟩
    rw [State.rd_msixSend, State.rd_discard_other _ _ _ hne]
    rfl
  · rw [if_neg hpend, if_neg hpend]
    refine ⟨aborted_of_discard (u := (s.elapse dt).ack) ?_ ?_ fun y hy => ?_, ?_⟩
    · exact (State.msixSend_shadow _).trans (State.wr_shadow _ _ _)
    · exact (State.msixSend_ten _).trans (State.wr_ten _ _ _)
    · exact (State.rd_msixSend _ y).trans (State.rd_wr_other _ _ hy)
    · rw [State.rd_msixSend, rd_cmtFields_cmt]

end Clauses

/-- Settles O51: a write that is let in is a plain write, two plain writes or a discard, or it only records an error. -/
theorem shadowWritesAndAborts : Obligations.ShadowWritesAndAborts := by
  unfold Obligations.ShadowWritesAndAborts
  intro dt who p w v s halloc
  refine ⟨?_, ?_, ?_, ?_, ?_⟩
  · intro r hrow hacc hnarrow hown habs hcmt hlock hw
    exact registerWrite_rws_outcome hw ⟨hrow, hacc, hown, halloc, habs, hcmt, hlock⟩ hnarrow
  · intro r hrow hacc hpend hw hhalf
    exact widePair_busy hw hrow hacc halloc hpend hhalf
  · intro r lo hrow hrowLo hacc hishi hpos hown hownLo habs habsLo hmap hmapLo hcmtLo hcmt hlockLo hlock hpend hw hheld
    exact wideHiWrite_both_shadows hw hpos ⟨hrow, hacc, hown, halloc, habs, hcmt, hlock⟩
      ⟨hrowLo, hacc, hownLo, halloc, habsLo, hcmtLo, hlockLo⟩ hishi hmap hmapLo hpend hheld
  · intro hw hpend hv habortAlone
    exact cmt_busy hw halloc hpend hv habortAlone
  · intro hw habort halone
    obtain ⟨t, ht, ⟨hshadow, hrd, hstat, hnone⟩, hcmt⟩ := cmtAbort_outcome hw halloc habort halone
    exact ⟨t, ht, hshadow, hrd, hstat, hnone, hcmt⟩

end Sys2Proof.Machine

namespace Sys2Proof.Machine

/-! ### The calendar and its CALSET record (R506, R522, R524) -/

/-- Replacing bit `i` leaves the bits below it, and above them the quotient with its last bit replaced. -/
theorem nputb_eq (n i : Nat) (b : Bool) :
    nputb n i b = n % 2 ^ i + (n / 2 ^ i - n / 2 ^ i % 2 + b2n b % 2) * 2 ^ i := by
  have hsplit : n / 2 ^ i * 2 ^ i + n % 2 ^ i = n := Nat.div_add_mod' n (2 ^ i)
  have hle : n / 2 ^ i % 2 * 2 ^ i ≤ n / 2 ^ i * 2 ^ i := Nat.mul_le_mul_right _ (Nat.mod_le _ _)
  simp only [nputb, nput, nf, Nat.add_sub_cancel_left, Nat.pow_one, Nat.add_mul, Nat.sub_mul]
  omega

theorem nb_nputb_same (n i : Nat) (b : Bool) : nb (nputb n i b) i = b := by
  have hpos : 0 < 2 ^ i := Nat.two_pow_pos i
  unfold nb
  rw [nputb_eq, Nat.add_mul_div_right _ _ hpos, Nat.div_eq_of_lt (Nat.mod_lt _ hpos)]
  generalize n / 2 ^ i = q
  have hlast : (0 + (q - q % 2 + b2n b % 2)) % 2 = b2n b % 2 := by omega
  rw [hlast]
  cases b <;> rfl

/-- Cut to a word, a number keeps its 32 low bits. -/
theorem nb_mod_word (n : Nat) {i : Nat} (hi : i < 32) : nb (n % 2 ^ 32) i = nb n i := by
  have hsplit : 2 ^ 32 = 2 ^ i * (2 * 2 ^ (31 - i)) := by
    rw [← Nat.pow_succ', ← Nat.pow_add]
    congr 1
    omega
  unfold nb
  rw [hsplit, Nat.mod_mul_right_div_self, Nat.mod_mul_right_mod]

section Calendar
variable (s : State)

/-- A bit of a register reads what was written to it. -/
theorem State.bit_putBit_same (x : Nat) {i : Nat} (hi : i < 32) (b : Bool) : (s.putBit x i b).bit x i = b := by
  unfold State.bit State.putBit
  rw [State.rd_wr_same, nb_mod_word _ hi, nb_nputb_same]

/-! A record is entered in EVR: it may change registers and the part of EVR, and nothing else. -/

/-- From `s` to `t` only registers and the part of EVR may differ. -/
abbrev OnlyRecords (s t : State) : Prop := t = { s with regs := t.regs, evr := t.evr }

theorem OnlyRecords.trans {s t u : State} (hst : OnlyRecords s t) (htu : OnlyRecords t u) : OnlyRecords s u :=
  Eq.trans htu (by rw [hst])

theorem onlyRecords_raiseIf (c : Bool) (p b : Nat) : OnlyRecords s (s.raiseIf c p b) := by
  cases c <;> rfl

theorem onlyRecords_mayPut (src inst code cls origin stamp : Nat) (pay : List Nat) :
    OnlyRecords s (s.mayPut src inst code cls origin stamp pay) := by
  refine OnlyRecords.trans ?_ (onlyRecords_raiseIf ..)
  rfl

theorem onlyRecords_enter (src inst code cls origin stamp : Nat) (pay : List Nat) :
    OnlyRecords s (s.enter src inst code cls origin stamp pay) := by
  unfold State.enter
  have hlostRecord := onlyRecords_mayPut s 0x15 0 0x0001 2 (s.hwOrigin 0x0C8) s.moduleTime [s.evr.lost]
  split
  next => rfl
  split
  next => exact onlyRecords_mayPut ..
  dsimp only
  split
  next => exact (hlostRecord.trans rfl).trans (onlyRecords_mayPut ..)
  next => exact hlostRecord.trans rfl

theorem onlyRecords_record (src code cls page stamp : Nat) (pay : List Nat) :
    OnlyRecords s (s.record src code cls page stamp pay) := onlyRecords_enter ..

@[simp] theorem State.record_life (src code cls page stamp : Nat) (pay : List Nat) :
    (s.record src code cls page stamp pay).life = s.life := by rw [onlyRecords_record]

@[simp] theorem State.record_ticks (src code cls page stamp : Nat) (pay : List Nat) :
    (s.record src code cls page stamp pay).ticks = s.ticks := by rw [onlyRecords_record]

@[simp] theorem State.msixSend_life : s.msixSend.life = s.life := by rw [State.msixSend_eq]

variable {s}

/-- At the tick of its setting the calendar reads what it was set to, whatever its trim (R522). -/
theorem calNow_at_setting {u : State} {c : Nat} (hlife : u.life = (s.calSet c).life) (hticks : u.ticks = s.ticks) :
    u.calNow = c := by
  simp [State.calNow, State.calPast, State.calSet, hlife, hticks]

end Calendar

section Calgo
variable {dt : Nat} {who : Init} {v : Word} {s : State}

/-- The block once the calendar is set to CALSET seconds, the change is on record and VALID is set (R524). -/
def State.calgoDone (s : State) : State :=
  ((s.calSet (s.rd64 R.LIFE_CALSET * 32768)).record 0x16 0x0003 1 0x0CA s.moduleTime
    [s.calNow / 32768 % 2 ^ 32, s.calNow / 32768 / 2 ^ 32,
      s.rd64 R.LIFE_CALSET % 2 ^ 32, s.rd64 R.LIFE_CALSET / 2 ^ 32]).putBit R.LIFE_CALSTAT 0 true

/-- CALGO with its key and bit 0, let in: the time lock decides between the refusal and the setting (R524). -/
theorem execCalgo_keyed (hw : Writes who 0x0CB 0xC00 (s.elapse dt)) (hkey : nf v.toNat 31 16 = 0x0CA1)
    (hgo : nb v.toNat 0 = true) :
    execCalgo dt who v s = .next (if (s.elapse dt).timeLocked
      then (s.elapse dt).ack.err 0x0CB ((s.elapse dt).partNo who) 0x0102 R.LIFE_CALGO
      else (s.elapse dt).ack.calgoDone).msixSend := by
  unfold execCalgo
  rw [onMain_cmdW_ok hw, keyed_ok hkey, hgo]
  rfl

theorem bit_calgoDone (u : State) : u.calgoDone.msixSend.bit R.LIFE_CALSTAT 0 = true :=
  (congrArg (nb · 0) (State.rd_msixSend _ _)).trans (State.bit_putBit_same _ _ (by decide) true)

theorem calNow_calgoDone (u : State) : u.calgoDone.msixSend.calNow = u.rd64 R.LIFE_CALSET * 32768 :=
  calNow_at_setting (s := u) (by simp [State.calgoDone]) (by simp [State.calgoDone, State.calSet])

end Calgo

/-- Settles O21: the time lock decides between the setting, whose record leaves the calendar as it was set, and an error. -/
theorem calgoSetsTheCalendar : Obligations.CalgoSetsTheCalendar := by
  unfold Obligations.CalgoSetsTheCalendar
  intro dt who v s hw hkey hgo
  have hexec : exec (.calgo dt who v) s = _ := execCalgo_keyed hw hkey hgo
  constructor
  · intro hfree
    rw [if_neg (by simp [hfree])] at hexec
    refine ⟨_, hexec, bit_calgoDone _, ?_, rfl⟩
    rw [calNow_calgoDone]
    exact Nat.mul_div_cancel _ (by decide)
  · intro hlocked
    rw [if_pos hlocked] at hexec
    exact hexec

end Sys2Proof.Machine

namespace Sys2Proof.Machine

/-! ### The vectors of the event fabric (R48, R632, R633) -/

theorem nb_eq_testBit (n i : Nat) : nb n i = n.testBit i :=
  (Nat.testBit_eq_decide_div_mod_eq ..).symm

theorem nb_and (m n i : Nat) : nb (m &&& n) i = (nb m i && nb n i) := by
  simp only [nb_eq_testBit, Nat.testBit_and]

/-- The bits of a mask gathered from the numbers below `n`: each `k` with `c k` sets bit `b k`. -/
theorem nb_forN_setBit (c : Nat → Bool) (b : Nat → Nat) (n v : Nat) :
    nb (forN n (fun k m => if c k then m ||| 2 ^ b k else m) 0) v = true ↔ ∃ k, k < n ∧ c k = true ∧ b k = v := by
  induction n with
  | zero => simp [forN, nb]
  | succ n ih =>
    have hstep (f : Nat → Nat → Nat) : forN (n + 1) f 0 = f n (forN n f 0) := by
      simp [forN, List.range_succ]
    rw [hstep, Nat.exists_lt_succ_right, ← ih]
    cases hc : c n with
    | false => simp
    | true => simp [nb_eq_testBit, Nat.testBit_two_pow]

theorem lowestBit_eq_some {w n i : Nat} :
    lowestBit w n = some i ↔ i < w ∧ nb n i = true ∧ ∀ j, j < i → nb n j = false := by
  simp [lowestBit, List.find?_range_eq_some, and_left_comm]

theorem lowestBit_eq_none {w n : Nat} : lowestBit w n = none ↔ ∀ j, j < w → nb n j = false := by
  simp [lowestBit]

section Vectors
variable (s : State) (n : Nat)

/-- EVF holds no latch of its own: what is pending is read off the routes and the pages' events (R633). -/
theorem State.nb_vpend (v : Nat) : nb (s.vpend n) v = true ↔
    ∃ j, j < 276 ∧ s.routed n j = true ∧ s.raised j = true ∧ s.fld (R.EVF_ROUTE n j) 5 0 = v := by
  unfold State.vpend
  rw [nb_forN_setBit]
  simp only [State.routed, Bool.and_eq_true, and_assoc]

/-- A route names one of 64 vectors, so no other is pending. -/
theorem State.lt_of_nb_vpend {v : Nat} (h : nb (s.vpend n) v = true) : v < 64 := by
  obtain ⟨j, -, -, -, rfl⟩ := (State.nb_vpend s n v).mp h
  exact Nat.mod_lt _ (by decide)

theorem State.nb_vact (v : Nat) : nb (s.vact n) v = (nb (s.vpend n) v && nb (s.rd64 (R.EVF_VEN n)) v) :=
  nb_and ..

/-- The routes bound the vectors that can assert the interrupt to the 64 of a partition (R633). -/
theorem State.irq_iff : s.irq n = true ↔ ∃ j, j < 64 ∧ nb (s.vact n) j = true := by
  unfold State.irq
  rw [bne_iff_ne]
  constructor
  · intro hne
    obtain ⟨j, hj⟩ := Nat.exists_testBit_of_ne_zero hne
    rw [← nb_eq_testBit] at hj
    obtain ⟨hpend, -⟩ : nb (s.vpend n) j = true ∧ nb (s.rd64 (R.EVF_VEN n)) j = true := by
      rwa [State.nb_vact, Bool.and_eq_true] at hj
    exact ⟨j, State.lt_of_nb_vpend s n hpend, hj⟩
  · rintro ⟨j, -, hj⟩ hzero
    simp [hzero, nb] at hj

/-- VNEXT shows vector `v` where it is the lowest that is pending and enabled (R632). -/
theorem State.vnext_eq_vector (v : Nat) : s.vnext n = 0x80000000 + v ↔ lowestBit 64 (s.vact n) = some v := by
  unfold State.vnext
  cases lowestBit 64 (s.vact n) with
  | none =>
    simp only [reduceCtorEq, iff_false]
    omega
  | some j => simp

/-- VNEXT reads 0 where no interrupt is asserted (R632). -/
theorem State.vnext_eq_zero : s.vnext n = 0 ↔ s.irq n = false := by
  have hnone : s.vnext n = 0 ↔ lowestBit 64 (s.vact n) = none := by
    unfold State.vnext
    cases lowestBit 64 (s.vact n) <;> simp
  rw [hnone, lowestBit_eq_none, ← Bool.not_eq_true, State.irq_iff]
  simp

end Vectors

theorem State.raised_iff (s : State) (k : Nat) :
    s.raised k = true ↔ ∃ p m, esSource k = some (p, m) ∧ s.allocated p = true ∧ s.evpend p &&& m ≠ 0 := by
  unfold State.raised
  cases esSource k with
  | none => simp
  | some pm => simp [Prod.ext_iff, and_assoc]

/-- What EVPEND of a page shows comes from its EVRAW and EVEN only. -/
theorem State.evpend_congr {s u : State} {p : Nat} (hraw : s.rd (hEvraw p) = u.rd (hEvraw p))
    (hen : s.rd (hEven p) = u.rd (hEven p)) : s.evpend p = u.evpend p := by
  unfold State.evpend
  rw [hraw, hen]

/-- Settles O52: the fold over the sources gathers one bit for each raised and routed one, and VNEXT is the lowest that
VEN keeps. -/
theorem vectorsShowRaisedSources : Obligations.VectorsShowRaisedSources := by
  unfold Obligations.VectorsShowRaisedSources
  intro s u n v k _ hv
  refine ⟨State.nb_vpend s n v, State.raised_iff s k, ?_, ?_, ?_, State.vnext_eq_zero s n⟩
  · intro hsame
    rw [Bool.eq_iff_iff, State.raised_iff, State.raised_iff]
    have hpage (p : Nat) : s.allocated p = u.allocated p ∧ s.evpend p = u.evpend p :=
      have ⟨halloc, hraw, hen⟩ := hsame p
      ⟨halloc, State.evpend_congr hraw hen⟩
    simp only [hpage]
  · simp only [State.irq_iff, State.nb_vact, Bool.and_eq_true]
  · simp only [State.vnext_eq_vector, lowestBit_eq_some, State.nb_vact, hv, true_and, Bool.and_eq_true,
      Bool.and_eq_false_imp, and_assoc]

end Sys2Proof.Machine

namespace Sys2Proof.Machine

/-! ### The frames of the commands -/

/-- The frames of commands: a command of the standby domain or of a pin always acts, one that load shedding keeps running
needs the main domain, and every other one needs it with no shutdown sequence running; a command that brings lists is
guarded by their lengths. -/
inductive Framed (c : Instr) (s : State) : Host.Outcome State Fault Refusal → Prop
  | always (h : c.standby = true) (dt : Nat) (f : State → State) : Framed c s (always dt s f)
  | onShed (h : c.shed = true) (dt : Nat) (f : State → State) : Framed c s (onShed dt s f)
  | onMain (dt : Nat) (f : State → State) : Framed c s (onMain dt s f)
  | guarded (dt : Nat) {r : Host.Outcome State Fault Refusal} (h : Framed c s r) : Framed c s (guarded c.wf dt s r)

theorem framed_of_standby {c : Instr} (h : c.standby = true) (s : State) : Framed c s (exec c s) := by
  cases c <;> cases h <;> (delta exec; dsimp only)
  case mainDomainStart => exact .guarded _ (.always rfl _ _)
  case supplyMeasure => exact .guarded _ (.always rfl _ _)
  all_goals exact .always rfl _ _

theorem framed_of_shed {c : Instr} (h : c.shed = true) (s : State) : Framed c s (exec c s) := by
  cases c <;> cases h <;> (delta exec; dsimp only)
  all_goals exact .onShed rfl _ _

theorem framed_of_main {c : Instr} (h : c.standby = false) (h' : c.shed = false) (s : State) : Framed c s (exec c s) := by
  cases c <;> cases h <;> cases h' <;> (delta exec; dsimp only)
  case axisMeasurement => exact .guarded _ (.onMain _ _)
  case nvSnap => exact .guarded _ (.onMain _ _)
  case sampleSetDelivery => exact .guarded _ (.onMain _ _)
  case preMemoryWrite => exact .guarded _ (.onMain _ _)
  case loopScan => exact .guarded _ (.onMain _ _)
  case canFrameReceived => exact .guarded _ (.onMain _ _)
  case ethFrameReceived => exact .guarded _ (.onMain _ _)
  case checkpointReceived => exact .guarded _ (.onMain _ _)
  case tftpData => exact .guarded _ (.onMain _ _)
  all_goals exact .onMain _ _

theorem exec_framed (c : Instr) (s : State) : Framed c s (exec c s) := by
  cases h : c.standby
  · cases h' : c.shed
    · exact framed_of_main h h' s
    · exact framed_of_shed h' s
  · exact framed_of_standby h s

/-- What every operation keeps, every command keeps. -/
theorem exec_kept {b : List Instr} {n : Nat} {s : State} (c : Instr) (hs : Kept b n s) : KeptOut b n (exec c s) := by
  cases c with
  | clockFault => exact execClockFault_kept (hs := hs) ..
  | clockRestart => exact execClockRestart_kept (hs := hs) ..
  | laneMemoryAccess => exact execLaneMemoryAccess_kept (hs := hs) ..
  | registerWrite => exact execRegisterWrite_kept (hs := hs) ..
  | hostlinkDown => exact execHostlinkDown_kept (hs := hs) ..
  | hostlinkUp => exact execHostlinkUp_kept (hs := hs) ..
  | perstAssert => exact execPerstAssert_kept (hs := hs) ..
  | perstRelease => exact execPerstRelease_kept (hs := hs) ..
  | presetWrite => exact execPresetWrite_kept (hs := hs) ..
  | partitionReset => exact execPartitionReset_kept (hs := hs) ..
  | ownerWrite => exact execOwnerWrite_kept (hs := hs) ..
  | lockWrite => exact execLockWrite_kept (hs := hs) ..
  | evackWrite => exact execEvackWrite_kept (hs := hs) ..
  | errclrWrite => exact execErrclrWrite_kept (hs := hs) ..
  | cmtGo => exact execCmtGo_kept (hs := hs) ..
  | cmtAbort => exact execCmtAbort_kept (hs := hs) ..
  | pageCommitApply => exact execPageCommitApply_kept (hs := hs) ..
  | ownkWrite => exact execOwnkWrite_kept (hs := hs) ..
  | grantkWrite => exact execGrantkWrite_kept (hs := hs) ..
  | denypop => exact execDenypop_kept (hs := hs) ..
  | wideLoRead => exact execWideLoRead_kept (hs := hs) ..
  | wideLoWrite => exact execWideLoWrite_kept (hs := hs) ..
  | wideHiWrite => exact execWideHiWrite_kept (hs := hs) ..
  | axisMeasurement => exact execAxisMeasurement_kept (hs := hs) ..
  | axisAcquired => exact execAxisAcquired_kept (hs := hs) ..
  | axisLoss => exact execAxisLoss_kept (hs := hs) ..
  | axisHoldRecover => exact execAxisHoldRecover_kept (hs := hs) ..
  | axisHoldExpired => exact execAxisHoldExpired_kept (hs := hs) ..
  | axisFrozenRecover => exact execAxisFrozenRecover_kept (hs := hs) ..
  | axisTick => exact execAxisTick_kept (hs := hs) ..
  | scheduleEntryFire => exact execScheduleEntryFire_kept (hs := hs) ..
  | hiddenTargetMissed => exact execHiddenTargetMissed_kept (hs := hs) ..
  | encoderLineFault => exact execEncoderLineFault_kept (hs := hs) ..
  | encoderZPulse => exact execEncoderZPulse_kept (hs := hs) ..
  | ssiFrame => exact execSsiFrame_kept (hs := hs) ..
  | fixgo => exact execFixgo_kept (hs := hs) ..
  | axisCapture => exact execAxisCapture_kept (hs := hs) ..
  | seclr => exact execSeclr_kept (hs := hs) ..
  | fireflyStrobe => exact execFireflyStrobe_kept (hs := hs) ..
  | fireflyPps => exact execFireflyPps_kept (hs := hs) ..
  | fireflyPulseEnd => exact execFireflyPulseEnd_kept (hs := hs) ..
  | fireflyReadback => exact execFireflyReadback_kept (hs := hs) ..
  | scarabSelftest => exact execScarabSelftest_kept (hs := hs) ..
  | stnow => exact execStnow_kept (hs := hs) ..
  | stateAudit => exact execStateAudit_kept (hs := hs) ..
  | interruptArrival => exact execInterruptArrival_kept (hs := hs) ..
  | interruptTaken => exact execInterruptTaken_kept (hs := hs) ..
  | reintegration => exact execReintegration_kept (hs := hs) ..
  | lanecmdFence => exact execLanecmdFence_kept (hs := hs) ..
  | nvSnap => exact execNvSnap_kept (hs := hs) ..
  | nvCommit => exact execNvCommit_kept (hs := hs) ..
  | nvAbort => exact execNvAbort_kept (hs := hs) ..
  | nvDstat => exact execNvDstat_kept (hs := hs) ..
  | nvRbase => exact execNvRbase_kept (hs := hs) ..
  | nvRmark => exact execNvRmark_kept (hs := hs) ..
  | nvRstat => exact execNvRstat_kept (hs := hs) ..
  | laneUncorrectableError => exact execLaneUncorrectableError_kept (hs := hs) ..
  | laneCorrectableError => exact execLaneCorrectableError_kept (hs := hs) ..
  | laneScrub => exact execLaneScrub_kept (hs := hs) ..
  | dramScrub => exact execDramScrub_kept (hs := hs) ..
  | dramTempPoll => exact execDramTempPoll_kept (hs := hs) ..
  | ceWindowEnd => exact execCeWindowEnd_kept (hs := hs) ..
  | memCntclr => exact execMemCntclr_kept (hs := hs) ..
  | elnext => exact execElnext_kept (hs := hs) ..
  | startCold => exact execStartCold_kept (hs := hs) ..
  | startWarm => exact execStartWarm_kept (hs := hs) ..
  | stop => exact execStop_kept (hs := hs) ..
  | chgload => exact execChgload_kept (hs := hs) ..
  | loaddone => exact execLoaddone_kept (hs := hs) ..
  | chgarm => exact execChgarm_kept (hs := hs) ..
  | chgabort => exact execChgabort_kept (hs := hs) ..
  | groupcmt => exact execGroupcmt_kept (hs := hs) ..
  | cycStartComplete => exact execCycStartComplete_kept (hs := hs) ..
  | snapshotInstant => exact execSnapshotInstant_kept (hs := hs) ..
  | snapshotDelivery => exact execSnapshotDelivery_kept (hs := hs) ..
  | commitComplete => exact execCommitComplete_kept (hs := hs) ..
  | watchdogExpiry => exact execWatchdogExpiry_kept (hs := hs) ..
  | retainedSave => exact execRetainedSave_kept (hs := hs) ..
  | changeApply => exact execChangeApply_kept (hs := hs) ..
  | cycCntclr => exact execCycCntclr_kept (hs := hs) ..
  | gridTick => exact execGridTick_kept (hs := hs) ..
  | sampleSetDelivery => exact execSampleSetDelivery_kept (hs := hs) ..
  | modulatorFault => exact execModulatorFault_kept (hs := hs) ..
  | settled => exact execSettled_kept (hs := hs) ..
  | livegrab => exact execLivegrab_kept (hs := hs) ..
  | xclr => exact execXclr_kept (hs := hs) ..
  | padCapgo => exact execPadCapgo_kept (hs := hs) ..
  | capdone => exact execCapdone_kept (hs := hs) ..
  | engineTick => exact execEngineTick_kept (hs := hs) ..
  | tripPulseStart => exact execTripPulseStart_kept (hs := hs) ..
  | tripPulseEnd => exact execTripPulseEnd_kept (hs := hs) ..
  | closePulseStart => exact execClosePulseStart_kept (hs := hs) ..
  | closePulseEnd => exact execClosePulseEnd_kept (hs := hs) ..
  | tcsflt => exact execTcsflt_kept (hs := hs) ..
  | drvflt => exact execDrvflt_kept (hs := hs) ..
  | tfail => exact execTfail_kept (hs := hs) ..
  | breakerCurrentLow => exact execBreakerCurrentLow_kept (hs := hs) ..
  | grpcmdSeal => exact execGrpcmdSeal_kept (hs := hs) ..
  | groupSealDone => exact execGroupSealDone_kept (hs := hs) ..
  | grpcmdUnseal => exact execGrpcmdUnseal_kept (hs := hs) ..
  | outtest => exact execOuttest_kept (hs := hs) ..
  | preCntclr => exact execPreCntclr_kept (hs := hs) ..
  | preOutCntclr => exact execPreOutCntclr_kept (hs := hs) ..
  | wearclr => exact execWearclr_kept (hs := hs) ..
  | mlcmd => exact execMlcmd_kept (hs := hs) ..
  | preMemoryWrite => exact execPreMemoryWrite_kept (hs := hs) ..
  | preMemoryUe => exact execPreMemoryUe_kept (hs := hs) ..
  | drcTrigger => exact execDrcTrigger_kept (hs := hs) ..
  | trgnow => exact execTrgnow_kept (hs := hs) ..
  | archiveCopyStart => exact execArchiveCopyStart_kept (hs := hs) ..
  | archdone => exact execArchdone_kept (hs := hs) ..
  | archIo => exact execArchIo_kept (hs := hs) ..
  | arcmdProtect => exact execArcmdProtect_kept (hs := hs) ..
  | arcmdUnprotect => exact execArcmdUnprotect_kept (hs := hs) ..
  | arcmdDelete => exact execArcmdDelete_kept (hs := hs) ..
  | arcmdRelease => exact execArcmdRelease_kept (hs := hs) ..
  | arcmdRetry => exact execArcmdRetry_kept (hs := hs) ..
  | expcmdCfg => exact execExpcmdCfg_kept (hs := hs) ..
  | expcmdHdr => exact execExpcmdHdr_kept (hs := hs) ..
  | expcmdDat => exact execExpcmdDat_kept (hs := hs) ..
  | expdone => exact execExpdone_kept (hs := hs) ..
  | drcCntclr => exact execDrcCntclr_kept (hs := hs) ..
  | sarTrigger => exact execSarTrigger_kept (hs := hs) ..
  | seqcmdGo => exact execSeqcmdGo_kept (hs := hs) ..
  | seqcmdStop => exact execSeqcmdStop_kept (hs := hs) ..
  | sarConversion => exact execSarConversion_kept (hs := hs) ..
  | convreq => exact execConvreq_kept (hs := hs) ..
  | sarReady => exact execSarReady_kept (hs := hs) ..
  | sarFallback => exact execSarFallback_kept (hs := hs) ..
  | sarFallbackPass => exact execSarFallbackPass_kept (hs := hs) ..
  | chkclr => exact execChkclr_kept (hs := hs) ..
  | sarCntclr => exact execSarCntclr_kept (hs := hs) ..
  | diRawEdge => exact execDiRawEdge_kept (hs := hs) ..
  | diEdgeAccept => exact execDiEdgeAccept_kept (hs := hs) ..
  | eqpop => exact execEqpop_kept (hs := hs) ..
  | ovld => exact execOvld_kept (hs := hs) ..
  | doOpenLoad => exact execDoOpenLoad_kept (hs := hs) ..
  | pwmPeriodStart => exact execPwmPeriodStart_kept (hs := hs) ..
  | pwmOffEdge => exact execPwmOffEdge_kept (hs := hs) ..
  | rbflt => exact execRbflt_kept (hs := hs) ..
  | stuckLatch => exact execStuckLatch_kept (hs := hs) ..
  | testPulseStart => exact execTestPulseStart_kept (hs := hs) ..
  | testPulseEnd => exact execTestPulseEnd_kept (hs := hs) ..
  | fswarn => exact execFswarn_kept (hs := hs) ..
  | fswarnClear => exact execFswarnClear_kept (hs := hs) ..
  | fslowLatch => exact execFslowLatch_kept (hs := hs) ..
  | fsok => exact execFsok_kept (hs := hs) ..
  | dioFltclr => exact execDioFltclr_kept (hs := hs) ..
  | logclr => exact execLogclr_kept (hs := hs) ..
  | sfnEvaluation => exact execSfnEvaluation_kept (hs := hs) ..
  | discrep => exact execDiscrep_kept (hs := hs) ..
  | twohandTimeout => exact execTwohandTimeout_kept (hs := hs) ..
  | edmFault => exact execEdmFault_kept (hs := hs) ..
  | rststuck => exact execRststuck_kept (hs := hs) ..
  | sfnFltclr => exact execSfnFltclr_kept (hs := hs) ..
  | loopScan => exact execLoopScan_kept (hs := hs) ..
  | compl => exact execCompl_kept (hs := hs) ..
  | loopOpen => exact execLoopOpen_kept (hs := hs) ..
  | rbhigh => exact execRbhigh_kept (hs := hs) ..
  | prot => exact execProt_kept (hs := hs) ..
  | limiterReclose => exact execLimiterReclose_kept (hs := hs) ..
  | miswire => exact execMiswire_kept (hs := hs) ..
  | loopFltclr => exact execLoopFltclr_kept (hs := hs) ..
  | loopCntclr => exact execLoopCntclr_kept (hs := hs) ..
  | canIntegrated => exact execCanIntegrated_kept (hs := hs) ..
  | canFrameReceived => exact execCanFrameReceived_kept (hs := hs) ..
  | canError => exact execCanError_kept (hs := hs) ..
  | busoffRecovery => exact execBusoffRecovery_kept (hs := hs) ..
  | cancmdRecover => exact execCancmdRecover_kept (hs := hs) ..
  | txcmdSend => exact execTxcmdSend_kept (hs := hs) ..
  | txcmdCancel => exact execTxcmdCancel_kept (hs := hs) ..
  | txcmdLoad => exact execTxcmdLoad_kept (hs := hs) ..
  | canTxTimer => exact execCanTxTimer_kept (hs := hs) ..
  | canTxStart => exact execCanTxStart_kept (hs := hs) ..
  | canArbitrationLost => exact execCanArbitrationLost_kept (hs := hs) ..
  | canTxComplete => exact execCanTxComplete_kept (hs := hs) ..
  | txtspop => exact execTxtspop_kept (hs := hs) ..
  | rxqrel => exact execRxqrel_kept (hs := hs) ..
  | canWake => exact execCanWake_kept (hs := hs) ..
  | ttReferenceAttempt => exact execTtReferenceAttempt_kept (hs := hs) ..
  | ttTrigger => exact execTtTrigger_kept (hs := hs) ..
  | ttReferenceReceived => exact execTtReferenceReceived_kept (hs := hs) ..
  | ttWatchExpiry => exact execTtWatchExpiry_kept (hs := hs) ..
  | canCntclr => exact execCanCntclr_kept (hs := hs) ..
  | ofsgo => exact execOfsgo_kept (hs := hs) ..
  | syncinPulse => exact execSyncinPulse_kept (hs := hs) ..
  | syncinMissing => exact execSyncinMissing_kept (hs := hs) ..
  | timeStep => exact execTimeStep_kept (hs := hs) ..
  | holdover => exact execHoldover_kept (hs := hs) ..
  | tmbCapgo => exact execTmbCapgo_kept (hs := hs) ..
  | restep => exact execRestep_kept (hs := hs) ..
  | leapSecond => exact execLeapSecond_kept (hs := hs) ..
  | ethFrameReceived => exact execEthFrameReceived_kept (hs := hs) ..
  | ethLinkChange => exact execEthLinkChange_kept (hs := hs) ..
  | txtailWrite => exact execTxtailWrite_kept (hs := hs) ..
  | rxtailWrite => exact execRxtailWrite_kept (hs := hs) ..
  | ethTxComplete => exact execEthTxComplete_kept (hs := hs) ..
  | ringerrClear => exact execRingerrClear_kept (hs := hs) ..
  | ethLaunch => exact execEthLaunch_kept (hs := hs) ..
  | gateListEntry => exact execGateListEntry_kept (hs := hs) ..
  | gateListSwitch => exact execGateListSwitch_kept (hs := hs) ..
  | fdbAgeOut => exact execFdbAgeOut_kept (hs := hs) ..
  | prpLanMissing => exact execPrpLanMissing_kept (hs := hs) ..
  | prpEntryExpiry => exact execPrpEntryExpiry_kept (hs := hs) ..
  | pdTxLaunch => exact execPdTxLaunch_kept (hs := hs) ..
  | pdRxTimeout => exact execPdRxTimeout_kept (hs := hs) ..
  | tspop => exact execTspop_kept (hs := hs) ..
  | gwySignalWrite => exact execGwySignalWrite_kept (hs := hs) ..
  | gwyStale => exact execGwyStale_kept (hs := hs) ..
  | gwyCntclr => exact execGwyCntclr_kept (hs := hs) ..
  | hrbWindowAccess => exact execHrbWindowAccess_kept (hs := hs) ..
  | hrbCycleStart => exact execHrbCycleStart_kept (hs := hs) ..
  | hrbCardReply => exact execHrbCardReply_kept (hs := hs) ..
  | hrbCycleTimeout => exact execHrbCycleTimeout_kept (hs := hs) ..
  | hrbResetEnd => exact execHrbResetEnd_kept (hs := hs) ..
  | wackResume => exact execWackResume_kept (hs := hs) ..
  | wackFlush => exact execWackFlush_kept (hs := hs) ..
  | pollReadDue => exact execPollReadDue_kept (hs := hs) ..
  | atnAccept => exact execAtnAccept_kept (hs := hs) ..
  | hrbCntclr => exact execHrbCntclr_kept (hs := hs) ..
  | evrFlush => exact execEvrFlush_kept (hs := hs) ..
  | evrFlushDone => exact execEvrFlushDone_kept (hs := hs) ..
  | evrFlushCmd => exact execEvrFlushCmd_kept (hs := hs) ..
  | rdgo => exact execRdgo_kept (hs := hs) ..
  | evrReadDone => exact execEvrReadDone_kept (hs := hs) ..
  | swgo => exact execSwgo_kept (hs := hs) ..
  | clrcmdArm => exact execClrcmdArm_kept (hs := hs) ..
  | clrcmdClear => exact execClrcmdClear_kept (hs := hs) ..
  | evrClearDone => exact execEvrClearDone_kept (hs := hs) ..
  | evrCntclr => exact execEvrCntclr_kept (hs := hs) ..
  | lifeSecond => exact execLifeSecond_kept (hs := hs) ..
  | lifeSave => exact execLifeSave_kept (hs := hs) ..
  | cntcmdAdd => exact execCntcmdAdd_kept (hs := hs) ..
  | cntcmdReset => exact execCntcmdReset_kept (hs := hs) ..
  | calendarDiscipline => exact execCalendarDiscipline_kept (hs := hs) ..
  | calgo => exact execCalgo_kept (hs := hs) ..
  | calendarStop => exact execCalendarStop_kept (hs := hs) ..
  | primInChange => exact execPrimInChange_kept (hs := hs) ..
  | primacyClaim => exact execPrimacyClaim_kept (hs := hs) ..
  | primacyHeld => exact execPrimacyHeld_kept (hs := hs) ..
  | primacyConflict => exact execPrimacyConflict_kept (hs := hs) ..
  | primcmdRelease => exact execPrimcmdRelease_kept (hs := hs) ..
  | primacyRelease => exact execPrimacyRelease_kept (hs := hs) ..
  | heartbeatSend => exact execHeartbeatSend_kept (hs := hs) ..
  | heartbeatReceived => exact execHeartbeatReceived_kept (hs := hs) ..
  | heartbeatTimeout => exact execHeartbeatTimeout_kept (hs := hs) ..
  | checkpointSendDone => exact execCheckpointSendDone_kept (hs := hs) ..
  | checkpointReceived => exact execCheckpointReceived_kept (hs := hs) ..
  | standbyLaneTest => exact execStandbyLaneTest_kept (hs := hs) ..
  | mgtIdent => exact execMgtIdent_kept (hs := hs) ..
  | mgtHealth => exact execMgtHealth_kept (hs := hs) ..
  | mgtReadpage => exact execMgtReadpage_kept (hs := hs) ..
  | mgtReadevr => exact execMgtReadevr_kept (hs := hs) ..
  | mgtReadlife => exact execMgtReadlife_kept (hs := hs) ..
  | mgtNonce => exact execMgtNonce_kept (hs := hs) ..
  | mgtReadmem => exact execMgtReadmem_kept (hs := hs) ..
  | mgtPreset => exact execMgtPreset_kept (hs := hs) ..
  | mgtMreset => exact execMgtMreset_kept (hs := hs) ..
  | mgtRecovery => exact execMgtRecovery_kept (hs := hs) ..
  | mgtEvrclear => exact execMgtEvrclear_kept (hs := hs) ..
  | mgtPrimrel => exact execMgtPrimrel_kept (hs := hs) ..
  | mgtWake => exact execMgtWake_kept (hs := hs) ..
  | mgtSetkey => exact execMgtSetkey_kept (hs := hs) ..
  | mgtClose => exact execMgtClose_kept (hs := hs) ..
  | mgtBadFrame => exact execMgtBadFrame_kept (hs := hs) ..
  | mgtUnknownCmd => exact execMgtUnknownCmd_kept (hs := hs) ..
  | authlockEnd => exact execAuthlockEnd_kept (hs := hs) ..
  | resetHeld => exact execResetHeld_kept (hs := hs) ..
  | mgtCntclr => exact execMgtCntclr_kept (hs := hs) ..
  | updcmdOpen => exact execUpdcmdOpen_kept (hs := hs) ..
  | updcmdChunk => exact execUpdcmdChunk_kept (hs := hs) ..
  | chunkDone => exact execChunkDone_kept (hs := hs) ..
  | updcmdClose => exact execUpdcmdClose_kept (hs := hs) ..
  | updcmdAbort => exact execUpdcmdAbort_kept (hs := hs) ..
  | updcmdAbortother => exact execUpdcmdAbortother_kept (hs := hs) ..
  | verifyDone => exact execVerifyDone_kept (hs := hs) ..
  | sessionTimeout => exact execSessionTimeout_kept (hs := hs) ..
  | tftpWriteStage => exact execTftpWriteStage_kept (hs := hs) ..
  | tftpWriteAbort => exact execTftpWriteAbort_kept (hs := hs) ..
  | tftpReadStatus => exact execTftpReadStatus_kept (hs := hs) ..
  | tftpData => exact execTftpData_kept (hs := hs) ..
  | tftpError => exact execTftpError_kept (hs := hs) ..
  | arpRequest => exact execArpRequest_kept (hs := hs) ..
  | actcmdSchedule => exact execActcmdSchedule_kept (hs := hs) ..
  | actcmdNow => exact execActcmdNow_kept (hs := hs) ..
  | actcmdCancel => exact execActcmdCancel_kept (hs := hs) ..
  | actcmdConfirm => exact execActcmdConfirm_kept (hs := hs) ..
  | activationDue => exact execActivationDue_kept (hs := hs) ..
  | activationPostponed => exact execActivationPostponed_kept (hs := hs) ..
  | activationExpired => exact execActivationExpired_kept (hs := hs) ..
  | updateReset => exact execUpdateReset_kept (hs := hs) ..
  | counterOverflow => exact execCounterOverflow_kept (hs := hs) ..
  | ovfClear => exact execOvfClear_kept (hs := hs) ..
  | pmcSnap => exact execPmcSnap_kept (hs := hs) ..
  | preciseCapture => exact execPreciseCapture_kept (hs := hs) ..
  | weevilRecord => exact execWeevilRecord_kept (hs := hs) ..
  | sbpop => exact execSbpop_kept (hs := hs) ..
  | wvpop => exact execWvpop_kept (hs := hs) ..
  | pmcCntclr => exact execPmcCntclr_kept (hs := hs) ..
  | poweron => exact execPoweron_kept (hs := hs) ..
  | supplyUv => exact execSupplyUv_kept (hs := hs) ..
  | supplyReturn => exact execSupplyReturn_kept (hs := hs) ..
  | supplyOv => exact execSupplyOv_kept (hs := hs) ..
  | powerFailWarning => exact execPowerFailWarning_kept (hs := hs) ..
  | shutdownComplete => exact execShutdownComplete_kept (hs := hs) ..
  | mainDomainStart => exact execMainDomainStart_kept (hs := hs) ..
  | bankok => exact execBankok_kept (hs := hs) ..
  | hufault => exact execHufault_kept (hs := hs) ..
  | supplyMeasure => exact execSupplyMeasure_kept (hs := hs) ..
  | tripSupplyChange => exact execTripSupplyChange_kept (hs := hs) ..
  | tempMeasure => exact execTempMeasure_kept (hs := hs) ..
  | thermal => exact execThermal_kept (hs := hs) ..
  | rstinAssert => exact execRstinAssert_kept (hs := hs) ..
  | rstinRelease => exact execRstinRelease_kept (hs := hs) ..
  | syscmdMreset => exact execSyscmdMreset_kept (hs := hs) ..
  | syscmdSleep => exact execSyscmdSleep_kept (hs := hs) ..
  | fusecmdRevoke => exact execFusecmdRevoke_kept (hs := hs) ..
  | standbyDomainLoss => exact execStandbyDomainLoss_kept (hs := hs) ..
  | ethFrameTransmitted => exact execEthFrameTransmitted_kept (hs := hs) ..
  | testPulseFilterRelease => exact execTestPulseFilterRelease_kept (hs := hs) ..
  | clearArmExpiry => exact execClearArmExpiry_kept (hs := hs) ..
section Framed
variable {c : Instr} {s : State} {r : Host.Outcome State Fault Refusal}

theorem guarded_bad {ok : Bool} {dt : Nat} (h : ok = false) : guarded ok dt s r = .next (s.elapse dt) := by
  rw [h]
  rfl

theorem onMain_off {dt : Nat} {f : State → State} (h : s.sys.on = false ∨ s.sys.down.isSome = true) :
    onMain dt s f = .next (s.elapse dt) := by
  have hclosed : ((s.elapse dt).sys.on && (s.elapse dt).sys.down.isNone) = false := by
    rcases h with h | h <;> simp [h]
  unfold onMain
  rw [hclosed]
  rfl

theorem onShed_off {dt : Nat} {f : State → State} (h : s.sys.on = false) :
    onShed dt s f = .next (s.elapse dt) := by
  unfold onShed
  rw [State.elapse_sys, h]
  rfl

/-- A command in its frame answers a next state. -/
theorem Framed.next (h : Framed c s r) : ∃ t, r = .next t := by
  induction h with
  | always => exact ⟨_, rfl⟩
  | onShed => exact ⟨_, rfl⟩
  | onMain => exact ⟨_, rfl⟩
  | guarded dt h ih =>
    unfold Machine.guarded
    split
    · exact ih
    · exact ⟨_, rfl⟩

/-- With the main domain off, a command of no pin and not of the standby domain only lets time pass (R599). -/
theorem Framed.of_off (h : Framed c s r) (hwf : c.wf = true) (hstandby : c.standby = false) (hoff : s.sys.on = false) :
    ∃ k, r = .next (s.elapse k) := by
  induction h with
  | always h => simp [hstandby] at h
  | onShed => exact ⟨_, onShed_off hoff⟩
  | onMain => exact ⟨_, onMain_off (.inl hoff)⟩
  | guarded dt h ih => rwa [guarded_ok hwf]

/-- While a shutdown sequence runs, a command that load shedding does not keep running only lets time pass (R600). -/
theorem Framed.of_down (h : Framed c s r) (hwf : c.wf = true) (hstandby : c.standby = false) (hshed : c.shed = false)
    (hdown : s.sys.down.isSome = true) : ∃ k, r = .next (s.elapse k) := by
  induction h with
  | always h => simp [hstandby] at h
  | onShed h => simp [hshed] at h
  | onMain => exact ⟨_, onMain_off (.inr hdown)⟩
  | guarded dt h ih => rwa [guarded_ok hwf]

end Framed

/-- Settles O55: each command acts in a frame that the switched-off part of the block closes. -/
theorem mainDomainOffNothingHappens : Obligations.MainDomainOffNothingHappens := by
  unfold Obligations.MainDomainOffNothingHappens
  intro c s hwf hstandby
  exact ⟨(exec_framed c s).of_off hwf hstandby, fun hdown hshed => (exec_framed c s).of_down hwf hstandby hshed hdown⟩

/-- Settles O1: the two cases of `step`. -/
theorem stepRunsTheFrontCommand : Obligations.StepRunsTheFrontCommand := by
  unfold Obligations.StepRunsTheFrontCommand step
  intro s
  constructor
  · intro c q h
    rw [h]
  · intro h
    rw [h]

/-- Settles O3: the guard of each of the eleven commands is its own well-formedness. -/
theorem illFormedCommandOnlyLetsTimePass : Obligations.IllFormedCommandOnlyLetsTimePass := by
  unfold Obligations.IllFormedCommandOnlyLetsTimePass
  intro dt s
  refine ⟨?_, ?_, ?_, ?_, ?_, ?_, ?_, ?_, ?_, ?_, ?_⟩
  all_goals
    intros
    (delta exec; dsimp only)
    exact guarded_bad (by assumption)

/-- Settles O4: at reset no register, byte or command is listed. -/
theorem invAtReset : Obligations.InvAtReset := by
  unfold Obligations.InvAtReset
  obtain ⟨hdram, hsram⟩ := reset_memory_wf
  exact ⟨⟨rfl, by decide⟩, hdram, hsram, by simp [QueueOk, State.reset]⟩

/-- A block that meets the invariant and lets its front command go meets what every operation keeps. -/
theorem Inv.kept {s : State} (h : Inv s) (q : List Instr) : Kept q s.ticks { s with pending := q } := by
  obtain ⟨hregs, hdram, hsram, -⟩ := h
  exact ⟨hregs, hdram, hsram, rfl, Nat.le_refl _⟩

/-- A kept block whose queue is well-formed meets the invariant. -/
theorem Kept.inv {q : List Instr} {n : Nat} {t : State} (h : Kept q n t) (hq : ∀ c ∈ q, c.wf = true) : Inv t := by
  obtain ⟨hregs, hdram, hsram, hpend, -⟩ := h
  exact ⟨hregs, hdram, hsram, by rwa [QueueOk, hpend]⟩

/-- Settles O5: every command keeps the tables canonical, and the queue only loses its front. -/
theorem invKeptByEveryStep : Obligations.InvKeptByEveryStep := by
  unfold Obligations.InvKeptByEveryStep
  intro s t hinv hstep
  obtain ⟨-, -, -, hqueue⟩ := id hinv
  unfold QueueOk at hqueue
  cases hp : s.pending with
  | nil =>
    rw [stepRunsTheFrontCommand s |>.2 hp] at hstep
    cases hstep
    exact hinv
  | cons c q =>
    rw [(stepRunsTheFrontCommand s).1 c q hp] at hstep
    rw [hp] at hqueue
    exact ((exec_kept c (hinv.kept q)).get t hstep).inv fun d hd => hqueue d (List.mem_cons_of_mem _ hd)

end Sys2Proof.Machine

namespace Sys2Proof.Machine

@[simp] theorem b2n_true : b2n true = 1 := rfl
@[simp] theorem b2n_false : b2n false = 0 := rfl

section Loops
variable {α β : Type} (f : α → β → β) (x : β)

@[simp] theorem forL_nil : forL [] f x = x := rfl
@[simp] theorem forL_cons (a : α) (l : List α) : forL (a :: l) f x = forL l f (f a x) := rfl

end Loops

/-! ### The shapes of completion: a command completes where its effect, inside its frame, is the one written -/

section Completion
variable {c : Nat → Instr} {h : State → Prop} {f g : State → State} {who : Init} {p o : Nat}

theorem does_main (hexec : ∀ dt s, exec (c dt) s = onMain dt s g)
    (hg : ∀ u, h u → Ready u ∧ g u = f u) : Does c h f := by
  intro dt s _ hu
  obtain ⟨⟨hon, hdown⟩, heff⟩ := hg _ hu
  rw [hexec, onMain_ready hon hdown, heff]

theorem does_shed (hexec : ∀ dt s, exec (c dt) s = onShed dt s g)
    (hg : ∀ u, h u → u.sys.on = true ∧ g u = f u) : Does c h f := by
  intro dt s _ hu
  obtain ⟨hon, heff⟩ := hg _ hu
  rw [hexec, onShed_on hon, heff]

theorem does_always (hexec : ∀ dt s, exec (c dt) s = always dt s g)
    (hg : ∀ u, h u → g u = f u) : Does c h f := by
  intro dt s _ hu
  rw [hexec, always_next, hg _ hu]

/-- A command that brings lists: a well-formed one is let through its guard. -/
theorem does_guarded_main (hexec : ∀ dt s, exec (c dt) s = guarded (c dt).wf dt s (onMain dt s g))
    (hg : ∀ u, h u → Ready u ∧ g u = f u) : Does c h f := by
  intro dt s hwf hu
  obtain ⟨⟨hon, hdown⟩, heff⟩ := hg _ hu
  rw [hexec, guarded_ok hwf, onMain_ready hon hdown, heff]

theorem does_guarded_always (hexec : ∀ dt s, exec (c dt) s = guarded (c dt).wf dt s (always dt s g))
    (hg : ∀ u, h u → g u = f u) : Does c h f := by
  intro dt s hwf hu
  rw [hexec, guarded_ok hwf, always_next, hg _ hu]

/-- A register write that is let in. -/
theorem does_write {g : Nat → State → State}
    (hexec : ∀ dt s, exec (c dt) s = onMain dt s fun u => u.cmdW who p o g)
    (hg : ∀ u, h u → Writes who p o u ∧ g (u.partNo who) u.ack = f u) : Does c h f := by
  intro dt s _ hu
  obtain ⟨hw, heff⟩ := hg _ hu
  rw [hexec, onMain_cmdW_ok hw, heff]

/-- A register read with a side effect that is let in. -/
theorem does_read {g : Nat → State → State}
    (hexec : ∀ dt s, exec (c dt) s = onMain dt s fun u => u.cmdR who p o g)
    (hg : ∀ u, h u → Reads who p o u ∧ g (u.partNo who) u = f u) : Does c h f :=
  does_main (hexec := hexec) fun u hu => by
    obtain ⟨⟨hready, hlive, hmay⟩, heff⟩ := hg u hu
    exact ⟨hready, by rw [cmdR_ok hlive hmay, heff]⟩

/-- A write of the value 1 to a command register that acts on no other, let in. -/
theorem does_one {g : Nat → State → State}
    (hexec : ∀ dt s, exec (c dt) s = onMain dt s fun u => u.cmdW who p o fun n => onOne 1 (g n))
    (hg : ∀ u, h u → Writes who p o u ∧ g (u.partNo who) u.ack = f u) :
    Does c h f :=
  does_write hexec hg

/-- A write of a command register that is let in and bears the key. -/
theorem does_keyed {key : Nat} {v : Word} {g : Nat → State → State}
    (hexec : ∀ dt s, exec (c dt) s = onMain dt s fun u => u.cmdW who p o fun n t => t.keyed p o n key v (g n))
    (hg : ∀ u, h u → Writes who p o u ∧ nf v.toNat 31 16 = key ∧ g (u.partNo who) u.ack = f u) : Does c h f :=
  does_write (hexec := hexec) fun u hu => by
    obtain ⟨hw, hkey, heff⟩ := hg u hu
    exact ⟨hw, by rw [keyed_ok hkey, heff]⟩

end Completion

end Sys2Proof.Machine

namespace Sys2Proof.Machine

/-! ### The page header (R41 to R53, R60) -/

/-- A read of the LO half gives the live value and holds the HI half (R60). -/
theorem readReg_lo {u : State} {who : Init} {p o : Nat} (hlo : isLo (reg p o) = true) (hnot : isHiHalf (reg p o) = false)
    (halloc : u.allocated p = true) :
    u.readReg who p o = ((u.liveRead p o).1, (u.liveRead p o).2.latchHi who p o) := by
  simp [State.readReg, hlo, hnot, halloc]

/-- Settles O10: each write is let in, and the conditions written choose one branch of its effect. -/
theorem pageHeaderCommandsComplete : Obligations.PageHeaderCommandsComplete := by
  unfold Obligations.PageHeaderCommandsComplete
  intro who p w v again
  refine ⟨?_, ?_, ?_, ?_, ?_, ?_, ?_, ?_, ?_, ?_, ?_, ?_⟩
  · refine does_write (fun _ _ => rfl) fun u ⟨hw, hnarrow⟩ => ⟨hw, ?_⟩
    simp [hnarrow]
  · refine does_write (fun _ _ => rfl) fun u ⟨hw, halloc⟩ => ⟨hw, ?_⟩
    simp [onOne, halloc, State.zero, forL]
  · refine does_write (fun _ _ => rfl) fun u ⟨hw, halloc⟩ => ⟨hw, ?_⟩
    simp [halloc]
  · refine does_write (fun _ _ => rfl) fun u ⟨hw, halloc, hlock, hopen, hcrc⟩ => ⟨hw, ?_⟩
    simp [halloc, hlock, hopen, hcrc]
  · refine does_write (fun _ _ => rfl) fun u ⟨hw, halloc, hlock, hopen, hcrc⟩ => ⟨hw, ?_⟩
    simp [halloc, hlock, hopen, hcrc]
  · refine does_write (fun _ _ => rfl) fun u ⟨hw, halloc, hgo, habort, hpend, hrange⟩ => ⟨hw, ?_⟩
    simp [halloc, hgo, habort, hpend, hrange]
  · refine does_write (fun _ _ => rfl) fun u ⟨hw, halloc, hgo, habort, hpend⟩ => ⟨hw, ?_⟩
    simp [halloc, hgo, habort, hpend]
  · refine does_write (fun _ _ => rfl) fun u ⟨hw, halloc, hpend, hv⟩ => ⟨hw, ?_⟩
    simp [halloc, hpend, hv, nb]
  · refine does_write (fun _ _ => rfl) fun u ⟨hw, halloc, hpend, habort⟩ => ⟨hw, ?_⟩
    simp [halloc, hpend, habort]
  · intro r hrow hacc
    constructor
    · refine does_write (fun _ _ => rfl) fun u ⟨hw, halloc, hlo⟩ => ⟨hw, ?_⟩
      simp [hrow, hacc, halloc, hlo]
    · refine does_write (fun _ _ => rfl) fun u ⟨hw, halloc, hhi, hheld⟩ => ⟨hw, ?_⟩
      simp [hrow, hacc, halloc, word_mod, hhi, hheld]
  · intro r hrow hacc
    refine does_write (fun _ _ => rfl) fun u ⟨hw, halloc, hhi, hheld⟩ => ⟨hw, ?_⟩
    simp [hrow, hacc, halloc, word_mod, hhi, hheld]
  · refine does_read (fun _ _ => rfl) fun u ⟨hr, hlo, halloc, hnot⟩ => ⟨hr, ?_⟩
    simp [hlo, readReg_lo hlo hnot halloc]

/-! ### Ownership, grants, the host link and the partition reset (R31 to R38, R44, R61 to R63) -/

/-- The judgement of one byte of an OWNk word: a page of its own ownership, written by its owner or the start sequence, with
a new entry (R61). -/
def ownByte (who : Init) (n x : Nat) (pb : Nat × Nat) (t : State) : State :=
  if t.allocated pb.1 && ownerFree pb.1 && (who == .boot || t.owns n pb.1) && t.ownEntry pb.1 != pb.2 then
    t.tryOwner n pb.1 pb.2 x else t

/-- The judgement of one byte of a GRANTk word: an allocated page, written by its owner or the start sequence, with a new
grant (R62). -/
def grantByte (who : Init) (n x : Nat) (pb : Nat × Nat) (t : State) : State :=
  if t.allocated pb.1 && (who == .boot || t.owns n pb.1) &&
      t.fld x (8 * (pb.1 % 4) + 7) (8 * (pb.1 % 4)) != 0x80 + pb.2 % 128 then
    if t.bit (hLock pb.1) 0 then t.err pb.1 n eLocked x
    else t.putFld x (8 * (pb.1 % 4) + 7) (8 * (pb.1 % 4)) (0x80 + pb.2 % 128)
  else t

section Tables
variable {dt : Nat} {who : Init} {k : Fin 128} {v : Word} {s : State}

theorem execOwnkWrite_judged (hready : Ready (s.elapse dt)) (hlive : (s.elapse dt).live who = true)
    (hmay : (s.elapse dt).mayTable who k.val = true) :
    execOwnkWrite dt who k v s = .next (forL (wordPages k.val v.toNat)
      (ownByte who ((s.elapse dt).partNo who) (R.TEN_OWN k.val)) (s.elapse dt).ack).gwyWatch.msixSend := by
  unfold execOwnkWrite
  rw [onMain_ready hready.1 hready.2]
  simp only [hlive, hmay, Bool.not_true, Bool.false_eq_true, if_false, ack_def]
  congr 4
  funext pb t
  cases ha : t.allocated pb.1 <;> cases hf : ownerFree pb.1 <;>
    cases hb : (who == .boot || t.owns ((s.elapse dt).partNo who) pb.1) <;> simp [ownByte, ha, hf, hb]

theorem execGrantkWrite_judged (hready : Ready (s.elapse dt)) (hlive : (s.elapse dt).live who = true)
    (hmay : (s.elapse dt).mayTable who k.val = true) :
    execGrantkWrite dt who k v s = .next (forL (wordPages k.val v.toNat)
      (grantByte who ((s.elapse dt).partNo who) (R.TEN_GRANT k.val)) (s.elapse dt).ack).gwyWatch.msixSend := by
  unfold execGrantkWrite
  rw [onMain_ready hready.1 hready.2]
  simp only [hlive, hmay, Bool.not_true, Bool.false_eq_true, if_false, ack_def]
  congr 4
  funext pb t
  cases ha : t.allocated pb.1 <;>
    cases hb : (who == .boot || t.owns ((s.elapse dt).partNo who) pb.1) <;> simp [grantByte, ha, hb]

end Tables

/-- Settles O11: the conditions written let each command through to the branch written. -/
theorem ownershipCommandsComplete : Obligations.OwnershipCommandsComplete := by
  unfold Obligations.OwnershipCommandsComplete
  intro who p k n v h1 h2 cfg
  refine ⟨?_, ?_, ?_, ?_, ?_, ?_, ?_, ?_, ?_, ?_, ?_⟩
  · refine does_write (fun _ _ => rfl) fun u h => ⟨h.1, ?_⟩
    simp [h]
  · rintro dt s - ⟨hready, hlive, hmay⟩
    exact execOwnkWrite_judged hready hlive hmay
  · rintro dt s - ⟨hready, hlive, hmay⟩
    exact execGrantkWrite_judged hready hlive hmay
  · refine does_read (fun _ _ => rfl) fun u hr => ⟨hr, ?_⟩
    cases hd : u.ten.deny with
    | nil =>
      simp only [List.headD_nil, List.tail_nil]
      rw [← hd]
    | cons e l => simp
  · rintro dt s - ⟨hw, hv, hpart, hpresent⟩
    have hword : nf v.toNat 31 16 = 0xA5C3 ∧ nf v.toNat 15 3 = 0 ∧ nf v.toNat 2 0 = (s.elapse dt).partNo who := by
      rw [hv]
      simp only [nf]
      omega
    obtain ⟨hkey, hzero, hown⟩ := hword
    exact (execPresetWrite_accepted hw ⟨hkey, hzero, hown, hown ▸ hpresent⟩).trans (by rw [hown])
  · refine does_main (by intros; delta exec; rfl) fun u h => ⟨h.1, ?_⟩
    simp [h]
  · refine does_main (by intros; delta exec; rfl) fun u h => ⟨h.1, ?_⟩
    simp [h]
  · refine does_main (by intros; delta exec; rfl) fun u h => ⟨h.1, ?_⟩
    simp [h]
  · refine does_main (by intros; delta exec; rfl) fun u h => ⟨h.1, ?_⟩
    simp [h]
  · refine does_main (by intros; delta exec; rfl) fun u h => ⟨h.1, ?_⟩
    simp [h]
  · refine does_main (by intros; delta exec; rfl) fun u h => ⟨h.1, ?_⟩
    simp [h]

end Sys2Proof.Machine

namespace Sys2Proof.Machine

/-! ### The management port (R549 to R560) -/

section Completion
variable {c : Nat → Instr} {h : State → Prop} {f : State → State} {cmd len : Nat} {m : MgtFrame}

/-- A frame of an open command with an empty payload, on an enabled port. -/
theorem does_mgtOpen {g : State → State}
    (hexec : ∀ dt s, exec (c dt) s = always dt s fun u => u.mgtOpen cmd m g)
    (hg : ∀ u, h u → (Heard u ∧ m.pay.length = 0) ∧ g u.heard = f u) :
    Does c h f :=
  does_always (hexec := hexec) fun u hu => by
    obtain ⟨⟨hheard, hlen⟩, heff⟩ := hg u hu
    rw [mgtOpen_ok hheard hlen, heff]

/-- An authentic frame with a payload of the command's length, the main domain on. -/
theorem does_mgtCmd {g : Nat → State → State}
    (hexec : ∀ dt s, exec (c dt) s = always dt s fun u => u.mgtCmd cmd len m g)
    (hg : ∀ u, h u → Authentic cmd m u ∧ m.pay.length = len ∧ u.sys.on = true ∧ g (mgtNum m 0 1) u.authed = f u) :
    Does c h f :=
  does_always (hexec := hexec) fun u hu => by
    obtain ⟨hauth, hlen, hon, heff⟩ := hg u hu
    rw [mgtCmd_ok hauth hlen hon, heff]

/-- A read command without a tag, before closure. -/
theorem does_mgtRead_open {g : Nat → (Nat → Nat → Nat) → State → State}
    (hexec : ∀ dt s, exec (c dt) s = always dt s fun u => u.mgtRead cmd len m g)
    (hg : ∀ u, h u → Heard u ∧ m.auth = false ∧ u.heard.closed = false ∧ m.pay.length = len ∧
      g 0 (fun o n => mgtNum m o n) u.heard = f u) :
    Does c h f :=
  does_always (hexec := hexec) fun u hu => by
    obtain ⟨hheard, hauth, hclosed, hlen, heff⟩ := hg u hu
    rw [mgtRead_open hheard hauth hclosed hlen, heff]

/-- A read command with a tag that authenticates it. -/
theorem does_mgtRead_auth {g : Nat → (Nat → Nat → Nat) → State → State}
    (hexec : ∀ dt s, exec (c dt) s = always dt s fun u => u.mgtRead cmd len m g)
    (hg : ∀ u, h u → Authentic cmd m u ∧ m.auth = true ∧ m.pay.length = len + 1 ∧
      g (mgtNum m 0 1) (fun o n => mgtNum m (o + 1) n) u.authed = f u) :
    Does c h f :=
  does_always (hexec := hexec) fun u hu => by
    obtain ⟨hauthentic, hauth, hlen, heff⟩ := hg u hu
    rw [mgtRead_auth hauthentic hauth hlen, heff]

end Completion

/-- An answer of a command whose frame bore no tag is the plain reply. -/
theorem mgtData_open (u : State) (cmd slot : Nat) {m : MgtFrame} (l : List Nat) (hauth : m.auth = false) :
    u.mgtData cmd slot m l = u.mgtReply cmd slot mgOk l := by
  simp [State.mgtData, hauth]

/-- A page range that READPAGE may read is no bad length and crosses no command register (R550). -/
theorem readpage_legal {p o n : Nat} (hp : p < 512) (ho : o % 4 = 0) (hmin : 1 ≤ n) (hmax : n ≤ 64)
    (hend : o + 4 * n ≤ 0xC00) :
    ¬ (512 ≤ p ∨ o % 4 ≠ 0 ∨ 4096 ≤ o ∨ (!within 1 64 n) = true) ∧ ¬ 0xC00 < o + 4 * n := by
  simp only [within, hmin, hmax]
  simp
  omega

@[simp] theorem State.mgtAccept_ticks (u : State) (cmd slot : Nat) : (u.mgtAccept cmd slot).ticks = u.ticks := rfl

/-- Settles O16: the port hears each frame, and the conditions written choose its reply. -/
theorem openManagementCommandsComplete : Obligations.OpenManagementCommandsComplete := by
  unfold Obligations.OpenManagementCommandsComplete
  intro f why cmd who
  refine ⟨?_, ?_, ?_, ?_, ?_, ?_, ?_, ?_, ?_, ?_, ?_, ?_, ?_, ?_, ?_⟩
  · refine does_mgtOpen (by intros; delta exec; rfl) fun u h => ⟨h, ?_⟩
    simp [State.mainOn]
  · refine does_mgtOpen (by intros; delta exec; rfl) fun u ⟨hheard, hlen, hoff⟩ => ⟨⟨hheard, hlen⟩, ?_⟩
    simp [State.mainOn, hoff, b2n]
  · refine does_mgtOpen (by intros; delta exec; rfl) fun u ⟨hheard, hlen, hon⟩ => ⟨⟨hheard, hlen⟩, ?_⟩
    simp [State.mainOn, hon, b2n]
  · refine does_mgtOpen (by intros; delta exec; rfl) fun u h => ⟨h, ?_⟩
    simp [State.draw]
  · refine does_always (by intros; delta exec; rfl) fun u ⟨hheard, hlen, hopen, hauth⟩ => ?_
    have hunknown : (within 1 7 cmd.toNat || within 0x10 0x17 cmd.toNat) = false := by
      simp only [within]
      simp only [← Bool.decide_and, ← Bool.decide_or, decide_eq_false_iff_not]
      exact not_or.2 ⟨hopen, hauth⟩
    simp only [hunknown, Bool.false_eq_true, if_false, mgtFrame_heard hheard, hlen, if_true]
  · refine does_always (by intros; delta exec; rfl) fun u hheard => ?_
    simp [hheard] <;> rfl
  · refine does_mgtRead_open (by intros; delta exec; rfl)
      fun u ⟨hheard, hauth, hclosed, hlen, hon, hp, ho, hmin, hmax, hend⟩ => ⟨hheard, hauth, hclosed, hlen, ?_⟩
    obtain ⟨hlegal, hshort⟩ := readpage_legal hp ho hmin hmax hend
    dsimp only
    rw [if_neg hlegal, if_neg hshort]
    simp [State.mainOn, hon, mgtData_open _ _ _ _ hauth]
  · refine does_mgtRead_auth (by intros; delta exec; rfl)
      fun u ⟨hauthentic, hauth, hlen, hon, hp, ho, hmin, hmax, hend⟩ => ⟨hauthentic, hauth, hlen, ?_⟩
    obtain ⟨hlegal, hshort⟩ := readpage_legal hp ho hmin hmax hend
    dsimp only
    rw [if_neg hlegal, if_neg hshort]
    simp [State.mainOn, hon]
  · intro r
    refine does_mgtRead_open (by intros; delta exec; rfl)
        fun u ⟨hheard, hauth, hclosed, hlen, hon, hrec⟩ => ⟨hheard, hauth, hclosed, hlen, ?_⟩
    simp [State.mainOn, hon, hrec, mgtData_open _ _ _ _ hauth]
  · intro r
    refine does_mgtRead_auth (by intros; delta exec; rfl)
        fun u ⟨hauthentic, hauth, hlen, hon, hrec⟩ => ⟨hauthentic, hauth, hlen, ?_⟩
    simp [State.mainOn, hon, hrec]
  · refine does_mgtRead_open (by intros; delta exec; rfl)
      fun u ⟨hheard, hauth, hclosed, hlen, hon, hmin, hmax, hend⟩ => ⟨hheard, hauth, hclosed, hlen, ?_⟩
    simp [State.mainOn, hon, within, hmin, hmax, Nat.not_lt.2 hend, mgtData_open _ _ _ _ hauth]
  · refine does_mgtRead_auth (by intros; delta exec; rfl)
      fun u ⟨hauthentic, hauth, hlen, hon, hmin, hmax, hend⟩ => ⟨hauthentic, hauth, hlen, ?_⟩
    simp [State.mainOn, hon, within, hmin, hmax, Nat.not_lt.2 hend]
  · intro t
    refine does_always (by intros; delta exec; rfl) fun u h => ?_
    simp [h]
  · refine does_always (by intros; delta exec; rfl) fun u h => ?_
    simp [h]
  · refine does_always (by intros; delta exec; rfl) fun u ⟨hstandby, hlive, hmay⟩ => ?_
    rw [hstandby, cmdW_ok hlive hmay]
    rfl

/-- Settles O17: the frame is authenticated, and the conditions written choose the branch of its command. -/
theorem authenticatedCommandsComplete : Obligations.AuthenticatedCommandsComplete := by
  unfold Obligations.AuthenticatedCommandsComplete
  intro f ecc
  refine ⟨?_, ?_, ?_, ?_, ?_, ?_, ?_, ?_, ?_, ?_⟩
  · refine does_mgtCmd (by intros; delta exec; rfl)
      fun u ⟨hauth, hlen, hon, hmin, hmax, hbase, hgrant, hclean⟩ => ⟨hauth, hlen, hon, ?_⟩
    simp [within, hmin, hmax, hgrant, hclean, Nat.not_lt.2 hbase]
  · rintro dt s - ⟨hauth, hlen, hon, hn, hpresent⟩
    exact execMgtPreset_accepted hauth hlen hon hn (authed_present _ _ ▸ hpresent)
  · exact does_mgtCmd (by intros; delta exec; rfl) fun u ⟨hauth, hlen, hon⟩ => ⟨hauth, hlen, hon, rfl⟩
  · exact does_mgtCmd (by intros; delta exec; rfl) fun u ⟨hauth, hlen, hon⟩ => ⟨hauth, hlen, hon, rfl⟩
  · refine does_mgtCmd (by intros; delta exec; rfl) fun u ⟨hauth, hlen, hon, harm⟩ => ⟨hauth, hlen, hon, ?_⟩
    simp [harm]
  · refine does_mgtCmd (by intros; delta exec; rfl) fun u ⟨hauth, hlen, hon, hclear, harmed⟩ => ⟨hauth, hlen, hon, ?_⟩
    simp [hclear, harmed]
  · refine does_mgtCmd (by intros; delta exec; rfl)
      fun u ⟨hauth, hlen, hon, hheld, hseen, hpeer⟩ => ⟨hauth, hlen, hon, ?_⟩
    simp [hheld, hseen, hpeer]
  · refine does_always (by intros; delta exec; rfl) fun u ⟨hauth, hlen, hoff⟩ => ?_
    have hmain : u.authed.mainOn = false := by rw [State.mainOn, authed_sys, hoff]
    simp [mgtFrame_heard hauth.1, hlen, mgtAuth_ok hauth rfl, hmain]
  · refine does_mgtCmd (by intros; delta exec; rfl)
      fun u ⟨hauth, hlen, hon, hmin, hmax, hmask, hkey⟩ => ⟨hauth, hlen, hon, ?_⟩
    obtain ⟨-, hslot⟩ := hauth.2.2.2.2 (.inl rfl)
    have hne : mgtNum f 1 1 ≠ 0 := by omega
    simp [Nat.not_lt.2 hmax, hmask, hkey, hne, hslot, State.authed]
  · refine does_mgtCmd (by intros; delta exec; rfl) fun u ⟨hauth, hlen, hon, hword⟩ => ⟨hauth, hlen, hon, ?_⟩
    obtain ⟨-, hslot⟩ := hauth.2.2.2.2 (.inr rfl)
    simp [hword, hslot]

end Sys2Proof.Machine

namespace Sys2Proof.Machine

/-- Settles O46: each access is let in, and the conditions written choose one branch of its effect. -/
theorem counterCommandsComplete : Obligations.CounterCommandsComplete := by
  unfold Obligations.CounterCommandsComplete
  intro who v t k m priv pc addr blk lat w4 w5 flags dist
  refine ⟨?_, ?_, ?_, ?_, ?_, ?_, ?_, ?_, ?_, ?_, ?_⟩
  · refine does_main (by intros; delta exec; rfl) fun u h => ⟨h.1, ?_⟩
    simp [h]
  · refine does_write (fun _ _ => rfl) fun u h => ⟨h, ?_⟩
    rfl
  · refine does_one (fun _ _ => rfl) fun u h => ⟨h.1, ?_⟩
    simp [h]
  · refine does_main (by intros; delta exec; rfl) fun u ⟨hready, hprec, hruns, hcfg, hmode, hlat, hroom⟩ => ⟨hready, ?_⟩
    simp [hprec, hruns, hcfg, hmode, hlat, Nat.not_le.2 hroom]
  · refine does_main (by intros; delta exec; rfl) fun u h => ⟨h.1, ?_⟩
    simp [h]
  · intro j n
    refine does_main (by intros; delta exec; rfl) fun u h => ⟨h.1, ?_⟩
    simp [h]
  · intro e l
    refine does_read (fun _ _ => rfl) fun u h => ⟨h.1, ?_⟩
    simp [h]
  · refine does_read (fun _ _ => rfl) fun u h => ⟨h.1, ?_⟩
    simp [h]
  · intro e l
    refine does_read (fun _ _ => rfl) fun u h => ⟨h.1, ?_⟩
    simp [h]
  · refine does_read (fun _ _ => rfl) fun u h => ⟨h.1, ?_⟩
    simp [h]
  · refine does_one (fun _ _ => rfl) fun u h => ⟨h, ?_⟩
    rfl

end Sys2Proof.Machine

namespace Sys2Proof.Machine

/-! ### The cycle pages (R166 to R175, R188) -/

section Completion
variable {c : Nat → Instr} {h : State → Prop} {f : State → State} {who : Init} {n k : Nat} {v : Word}
  {g : Nat → State → State}

/-- A CYCCMD that is let in, with the key and the command's own code. -/
theorem does_cyc (hexec : ∀ dt s, exec (c dt) s = onMain dt s fun u => u.cycCmd who n k v g)
    (hg : ∀ u, h u → CycWrites who n k v u ∧ g (u.partNo who) u.ack = f u) : Does c h f :=
  does_main (hexec := hexec) fun u hu => by
    obtain ⟨hw, heff⟩ := hg u hu
    exact ⟨hw.1.1, by rw [cycCmd_ok hw, heff]⟩

/-- A CYCCMD that is let in without the key, whatever its command. -/
theorem does_cyc_badKey (hexec : ∀ dt s, exec (c dt) s = onMain dt s fun u => u.cycCmd who n k v g)
    (hh : ∀ u, h u → Writes who (cycPage n) 0xC00 u ∧ nf v.toNat 31 16 ≠ 0x6C3A) :
    Does c h fun u => u.ack.err (cycPage n) (u.partNo who) eBadKey (reg (cycPage n) 0xC00) :=
  does_main (hexec := hexec) fun u hu => by
    obtain ⟨hw, hkey⟩ := hh u hu
    exact ⟨hw.1, cycCmd_badKey hw hkey⟩

end Completion

theorem cyccmd_eq (n : Nat) : R.CYC_CYCCMD n = reg (cycPage n) 0xC00 := by
  simp only [R.CYC_CYCCMD, reg, cycPage]
  omega

theorem cycBad_eq (u : State) (n part : Nat) :
    u.cycBad n part = u.err (cycPage n) part eBadValue (reg (cycPage n) 0xC00) := by
  rw [State.cycBad, cyccmd_eq]

/-- Settles O26: the state of the cycle chooses the branch of the command that is written. -/
theorem cycleCommandsComplete : Obligations.CycleCommandsComplete := by
  unfold Obligations.CycleCommandsComplete
  intro who n v
  refine ⟨?_, ?_, ?_, ?_, ?_, ?_, ?_, ?_, ?_, ?_, ?_, ?_, ?_, ?_, ?_⟩
  · refine does_cyc (fun _ _ => rfl) fun u ⟨hw, hstopped, himg⟩ => ⟨hw, ?_⟩
    simp [hstopped, himg]
  · refine does_cyc (fun _ _ => rfl) fun u ⟨hw, hstopped, himg⟩ => ⟨hw, ?_⟩
    simp [hstopped, himg]
  · refine does_cyc (fun _ _ => rfl) fun u ⟨hw, hwrong⟩ => ⟨hw, ?_⟩
    rw [if_neg (by simpa [Option.isSome_iff_ne_none, Decidable.imp_iff_not_or] using hwrong), cycBad_eq]
  · refine does_cyc (fun _ _ => rfl) fun u ⟨hw, hwrong⟩ => ⟨hw, ?_⟩
    rw [if_neg (by simpa [Option.isSome_iff_ne_none, Decidable.imp_iff_not_or] using hwrong), cycBad_eq]
  · refine does_cyc (fun _ _ => rfl) fun u ⟨hw, hrun⟩ => ⟨hw, ?_⟩
    simp [hrun]
  · refine does_cyc (fun _ _ => rfl) fun u ⟨hw, hrun⟩ => ⟨hw, ?_⟩
    simp [hrun, cycBad_eq]
  · intro b
    refine does_cyc (fun _ _ => rfl) fun u ⟨hw, hmode, himg, hstate, hbytes⟩ => ⟨hw, ?_⟩
    have hin : (!u.dmode n.val || (u.cy n.val).img.isNone || u.cycState n.val == cyChanging) = false := by
      simpa [hmode, hstate] using himg
    simp [hin, hbytes]
  · refine does_cyc (fun _ _ => rfl) fun u ⟨hw, hmode, himg, hstate, hbytes⟩ => ⟨hw, ?_⟩
    have hin : (!u.dmode n.val || (u.cy n.val).img.isNone || u.cycState n.val == cyChanging) = false := by
      simpa [hmode, hstate] using himg
    simp [hin, hbytes, cyccmd_eq]
  · refine does_cyc (fun _ _ => rfl) fun u ⟨hw, hrunning, hok, hstop⟩ => ⟨hw, ?_⟩
    simp [hrunning, hok, hstop]
  · refine does_cyc (fun _ _ => rfl) fun u ⟨hw, hwrong⟩ => ⟨hw, ?_⟩
    have hout : ¬ (u.cycState n.val = cyRunning ∧ u.bit (R.CYC_STAT n.val) 8 = true ∧ (u.cy n.val).stop = false) := by
      simpa [Decidable.imp_iff_not_or] using hwrong
    simp only [ack_cycState, ack_bit, ack_cy, Bool.not_eq_true', hout, reduceIte, cycBad_eq]
  · refine does_cyc (fun _ _ => rfl) fun u ⟨hw, hchanging, hold⟩ => ⟨hw, ?_⟩
    simp [hchanging, hold]
  · refine does_cyc (fun _ _ => rfl) fun u ⟨hw, hwrong⟩ => ⟨hw, ?_⟩
    rw [if_neg (by simpa [Option.isSome_iff_ne_none, Decidable.imp_iff_not_or] using hwrong), cycBad_eq]
  · refine does_cyc (fun _ _ => rfl) fun u ⟨hw, hidle, hhalted⟩ => ⟨hw, ?_⟩
    simp [hidle, hhalted]
  · simp only [List.forall_mem_cons, List.not_mem_nil, false_imp_iff, implies_true, and_true]
    exact ⟨does_cyc_badKey (fun _ _ => rfl)
        fun _ h => h, does_cyc_badKey (fun _ _ => rfl) fun _ h => h, does_cyc_badKey (fun _ _ => rfl) fun _ h => h,
      does_cyc_badKey (fun _ _ => rfl)
          fun _ h => h, does_cyc_badKey (fun _ _ => rfl) fun _ h => h, does_cyc_badKey (fun _ _ => rfl) fun _ h => h,
      does_cyc_badKey (fun _ _ => rfl) fun _ h => h⟩
  · exact does_one (fun _ _ => rfl) fun u hw => ⟨hw, rfl⟩

end Sys2Proof.Machine

namespace Sys2Proof.Machine

/-- Settles O27: the cycle's state and its open image choose the branch of the event that is written. -/
theorem cycleEventsComplete : Obligations.CycleEventsComplete := by
  unfold Obligations.CycleEventsComplete
  intro n ok dis
  refine ⟨?_, ?_, ?_, ?_, ?_, ?_, ?_, ?_, ?_⟩
  · refine does_main (by intros; delta exec; rfl) fun u h => ⟨h.1, ?_⟩
    simp [h]
  · intro i ts ns
    refine does_main (by intros; delta exec; rfl) fun u h => ⟨h.1, ?_⟩
    simp [h]
  · intro i vals
    refine does_main (by intros; delta exec; rfl)
      fun u ⟨hready, hrunning, hopen, himg, hsealed, hdue⟩ => ⟨hready, ?_⟩
    simp [hready, hrunning, hopen, himg, hsealed, Nat.not_lt.2 hdue]
  · intro i g tc
    refine does_shed (by intros; delta exec; rfl) fun u h => ⟨h.1, ?_⟩
    simp [h]
  · intro i g
    refine does_shed (by intros; delta exec; rfl) fun u ⟨⟨hon, hdown⟩, himg, hstaged, htc, hbad, htick⟩ => ⟨hon, ?_⟩
    simp [himg, hstaged, htc, hbad, hdown, Nat.not_le.2 htick]
  · intro i g e o
    refine does_shed (by intros; delta exec; rfl) fun u ⟨⟨hon, hdown⟩, himg, hstaged, htc, hbad⟩ => ⟨hon, ?_⟩
    simp [himg, hstaged, htc, hbad, hdown]
  · intro i g
    refine does_shed (by intros; delta exec; rfl) fun u ⟨⟨hon, hdown⟩, himg, hstaged, htc⟩ => ⟨hon, ?_⟩
    simp [himg, hstaged, htc, hdown]
  · refine does_main (by intros; delta exec; rfl) fun u h => ⟨h.1, ?_⟩
    simp [h]
  · refine does_main (by intros; delta exec; rfl) fun u h => ⟨h.1, ?_⟩
    simp [h]

end Sys2Proof.Machine

namespace Sys2Proof.Machine

/-- Settles O19: the recorder's state chooses the branch of the command that is written. -/
theorem eventRecorderCommandsComplete : Obligations.EventRecorderCommandsComplete := by
  unfold Obligations.EventRecorderCommandsComplete
  intro who v
  refine ⟨?_, ?_, ?_, ?_, ?_, ?_, ?_, ?_, ?_, ?_, ?_, ?_, ?_, ?_, ?_, ?_, ?_⟩
  · refine does_shed (by intros; delta exec; rfl) fun u ⟨hon, hflushDue, hbit⟩ => ⟨hon, ?_⟩
    simp [hflushDue, hbit]
  · refine does_shed (by intros; delta exec; rfl) fun u ⟨hon, hbit⟩ => ⟨hon, ?_⟩
    simp [hbit]
  · refine does_shed (by intros; delta exec; rfl) fun u ⟨hon, hbit⟩ => ⟨hon, ?_⟩
    simp [hbit]
  · refine does_one (fun _ _ => rfl) fun u hw => ⟨hw, ?_⟩
    rfl
  · refine does_one (fun _ _ => rfl) fun u ⟨hw, hrdstat⟩ => ⟨hw, ?_⟩
    simp [hrdstat]
  · refine does_one (fun _ _ => rfl) fun u ⟨hw, hrdstat⟩ => ⟨hw, ?_⟩
    simp [hrdstat]
  · intro q r
    refine does_shed (by intros; delta exec; rfl) fun u ⟨hon, hrd, hfindRec⟩ => ⟨hon, ?_⟩
    simp [hrd, hfindRec]
  · intro q
    refine does_shed (by intros; delta exec; rfl) fun u ⟨hon, hrd, hfindRec⟩ => ⟨hon, ?_⟩
    simp [hrd, hfindRec]
  · refine does_one (fun _ _ => rfl) fun u ⟨hw, hswcode, hrate⟩ => ⟨hw, ?_⟩
    exact (if_neg (Nat.not_lt.2 hswcode)).trans (if_pos hrate)
  · refine does_one (fun _ _ => rfl) fun u ⟨hw, hswcode, hrate⟩ => ⟨hw, ?_⟩
    exact (if_neg (Nat.not_lt.2 hswcode)).trans (if_neg (Nat.not_lt.2 hrate))
  · refine does_one (fun _ _ => rfl) fun u ⟨hw, hval⟩ => ⟨hw, ?_⟩
    simp [hval]
  · refine does_keyed (fun _ _ => rfl) fun u ⟨hw, hval, hval', hcfg⟩ => ⟨hw, hval, ?_⟩
    simp [hval', hcfg]
  · refine does_keyed (fun _ _ => rfl) fun u ⟨hw, hval, hval', hclrArmed, hcfg⟩ => ⟨hw, hval, ?_⟩
    simp [hval', hclrArmed, hcfg]
  · refine does_keyed (fun _ _ => rfl) fun u ⟨hw, hval, hval', hclrArmed⟩ => ⟨hw, hval, ?_⟩
    simp [hval', hclrArmed]
  · intro c
    refine does_shed (by intros; delta exec; rfl) fun u ⟨hon, hclr, hflushed⟩ => ⟨hon, ?_⟩
    simp [hclr, hflushed]
  · refine does_main (by intros; delta exec; rfl) fun u ⟨hready, hbit, harmTick⟩ => ⟨hready, ?_⟩
    simp [hbit, harmTick]
  · refine does_one (fun _ _ => rfl) fun u hw => ⟨hw, ?_⟩
    rfl

end Sys2Proof.Machine

namespace Sys2Proof.Machine

/-- Settles O20: the counter's kind and the calendar's offset choose the branch that is written. -/
theorem lifeAndCalendarCommandsComplete : Obligations.LifeAndCalendarCommandsComplete := by
  unfold Obligations.LifeAndCalendarCommandsComplete
  intro who v
  refine ⟨?_, ?_, ?_, ?_, ?_, ?_, ?_, ?_, ?_, ?_⟩
  · refine does_shed (by intros; delta exec; rfl) fun u ⟨hon, hsecTick⟩ => ⟨hon, ?_⟩
    simp [hsecTick]
  · refine does_main (by intros; delta exec; rfl) fun u ⟨hready, hstage, hlifesave⟩ => ⟨hready, ?_⟩
    simp [hstage, hlifesave]
  · refine does_main (by intros; delta exec; rfl) fun u ⟨hready, hstage, hlifesave⟩ => ⟨hready, ?_⟩
    simp [hstage, hlifesave]
  · refine does_keyed (fun _ _ => rfl) fun u ⟨hw, hval, hval', hlifeKind⟩ => ⟨hw, hval, ?_⟩
    simp [hval', hlifeKind]
  · refine does_keyed (fun _ _ => rfl) fun u ⟨hw, hval, hval', hsoft⟩ => ⟨hw, hval, ?_⟩
    simp only [ack_lifeKind] at hsoft
    simp [hval', hsoft]
  · refine does_keyed (fun _ _ => rfl) fun u ⟨hw, hval, hval', hcfg⟩ => ⟨hw, hval, ?_⟩
    simp [hval', hcfg]
  · refine does_keyed (fun _ _ => rfl) fun u ⟨hw, hval, hval', hcfg⟩ => ⟨hw, hval, ?_⟩
    simp [hval', hcfg]
  · refine does_shed (by intros; delta exec; rfl) fun u ⟨hon, htimeLocked, hdiscTick, hoff⟩ => ⟨hon, ?_⟩
    simp [htimeLocked, hdiscTick, Nat.not_lt.2 hoff, Nat.not_lt.2 (Nat.le_trans hoff (by decide : 4000000 ≤ 4000000000))]
    rfl
  · refine does_shed (by intros; delta exec; rfl) fun u ⟨hon, htimeLocked, hdiscTick, hval, hoff⟩ => ⟨hon, ?_⟩
    simp [htimeLocked, hdiscTick, hval, Nat.not_lt.2 hoff]
    rfl
  · refine does_always (by intros; delta exec; rfl) fun _ _ => ?_
    rfl

end Sys2Proof.Machine

namespace Sys2Proof.Machine

/-- Settles O22: each condition written chooses one branch of the memory event. -/
theorem memoryCommandsComplete : Obligations.MemoryCommandsComplete := by
  unfold Obligations.MemoryCommandsComplete
  intro t l a syn ecc code hi who
  refine ⟨?_, ?_, ?_, ?_, ?_, ?_, ?_, ?_, ?_, ?_, ?_⟩
  · refine does_main (by intros; delta exec; rfl) fun u ⟨hready, hlaneRuns, hsplit⟩ => ⟨hready, ?_⟩
    simp [hlaneRuns, hsplit]
  · refine does_main (by intros; delta exec; rfl) fun u ⟨hready, hlaneRuns, hsplit⟩ => ⟨hready, ?_⟩
    simp [hlaneRuns, hsplit]
  · refine does_main (by intros; delta exec; rfl) fun u ⟨hready, hlaneRuns⟩ => ⟨hready, ?_⟩
    simp [hlaneRuns]
  · refine does_main (by intros; delta exec; rfl) fun u ⟨hready, hctrl, hlaneRuns, hsplit, hlaneScrub⟩ => ⟨hready, ?_⟩
    simp [hctrl, hlaneRuns, hsplit, hlaneScrub]
  · refine does_main (by intros; delta exec; rfl) fun u ⟨hready, hctrl, hlaneRuns, hsplit, hlaneScrub⟩ => ⟨hready, ?_⟩
    simp [hctrl, hlaneRuns, hsplit, hlaneScrub]
  · refine does_shed (by intros; delta exec; rfl) fun u ⟨hon, hctrl, hstat, hscrubpos, hscrubpos'⟩ => ⟨hon, ?_⟩
    simp [hctrl, hstat, hscrubpos, Nat.not_lt.2 hscrubpos']
  · refine does_shed (by intros; delta exec; rfl) fun u ⟨hon, hctrl, hstat, hval, hscrubpos⟩ => ⟨hon, ?_⟩
    simp [hctrl, hstat, Nat.not_lt.2 hval, Nat.not_lt.2 hscrubpos]
  · refine does_shed (by intros; delta exec; rfl) fun u ⟨hon, htempTick⟩ => ⟨hon, ?_⟩
    simp [htempTick]
  · refine does_shed (by intros; delta exec; rfl) fun u ⟨hon, hceStart⟩ => ⟨hon, ?_⟩
    simp [hceStart]
  · refine does_one (fun _ _ => rfl) fun u hw => ⟨hw, ?_⟩
    rfl
  · refine does_one (fun _ _ => rfl) fun u hw => ⟨hw, ?_⟩
    simp

end Sys2Proof.Machine

namespace Sys2Proof.Machine

/-- The source of a time axis is valid while module time is locked where the axis asks for it. -/
theorem srcValid_time {u : State} {k t : Nat} (hkind : u.axKind k = 5) : u.srcValid k t = u.timeOk k := by
  simp [State.srcValid, hkind]

/-- Settles O23: the axis's state and its source choose the branch that is written. -/
theorem axisStateCommandsComplete : Obligations.AxisStateCommandsComplete := by
  unfold Obligations.AxisStateCommandsComplete
  intro k ph n w c v d
  refine ⟨?_, ?_, ?_, ?_, ?_, ?_, ?_, ?_, ?_, ?_⟩
  · refine does_guarded_main (by intros; delta exec; rfl) fun u ⟨hready, hmdcfg⟩ => ⟨hready, ?_⟩
    simp [hmdcfg]
  · refine does_guarded_main (by intros; delta exec; rfl) fun u ⟨hready, henccfg⟩ => ⟨hready, ?_⟩
    simp [henccfg]
  · refine does_main (by intros; delta exec; rfl) fun u ⟨hready, haxState, hacquired⟩ => ⟨hready, ?_⟩
    simp [haxState, hacquired]
  · refine does_main (by intros; delta exec; rfl) fun u ⟨hready, haxState, hlost⟩ => ⟨hready, ?_⟩
    simp [haxState, hlost]
  · refine does_main (by intros; delta exec; rfl) fun u ⟨hready, haxState, hholdTick, haxKind⟩ => ⟨hready, ?_⟩
    simp [haxState, hholdTick, haxKind]
  · refine does_main (by intros; delta exec; rfl) fun u ⟨hready, haxState, haxKind, htimeOk⟩ => ⟨hready, ?_⟩
    simp [haxState, haxKind, srcValid_time haxKind, htimeOk]
  · refine does_main (by intros; delta exec; rfl) fun u ⟨hready, haxState, hholdOver⟩ => ⟨hready, ?_⟩
    simp [haxState, hholdOver]
  · refine does_main (by intros; delta exec; rfl) fun u ⟨hready, haxState, hsrcValid⟩ => ⟨hready, ?_⟩
    simp [haxState, hsrcValid]
  · intro c
    refine does_main (by intros; delta exec; rfl) fun u ⟨hready, haxLive, hcrossed, hgetLast⟩ => ⟨hready, ?_⟩
    simp [haxLive, hcrossed, hgetLast]
  · refine does_main (by intros; delta exec; rfl) fun u ⟨hready, hdOn, hdAxis, hhidden⟩ => ⟨hready, ?_⟩
    simp [hdOn, hdAxis, hhidden]

end Sys2Proof.Machine

namespace Sys2Proof.Machine

/-- A pause of `d` ticks from `c` on is over, or none has been asked for. -/
theorem pause_over {c d t : Nat} (h : c = 0 ∨ c + d ≤ t) : (c != 0 && decide (t < c + d)) = false := by
  rcases h with h | h
  · simp [h]
  · simp [Nat.not_lt.2 h]

@[simp] theorem setSsi_ssiWord (u : State) (n m w : Nat) (x : Source) : (u.setSsi n x).ssiWord m w = u.ssiWord m w := rfl

section Firefly
variable (f : Firefly) (x : Nat)

@[simp] theorem settle_seen : (f.settle x).seen = f.seen := rfl
@[simp] theorem settle_fall : (f.settle x).fall = f.fall := rfl
@[simp] theorem settle_pps : (f.settle x).pps = f.pps := rfl

end Firefly

/-- Settles O24: the source's state and the pulse under way choose the branch that is written. -/
theorem axisInputsAndFireflyComplete : Obligations.AxisInputsAndFireflyComplete := by
  unfold Obligations.AxisInputsAndFireflyComplete
  intro who k ph n m d count w level
  refine ⟨?_, ?_, ?_, ?_, ?_, ?_, ?_, ?_, ?_, ?_, ?_, ?_, ?_, ?_, ?_, ?_, ?_, ?_, ?_, ?_, ?_⟩
  · refine does_main (by intros; delta exec; rfl) fun u ⟨hready, henccfg⟩ => ⟨hready, ?_⟩
    simp [henccfg]
  · refine does_main (by intros; delta exec; rfl) fun u ⟨hready, henccfg, hline⟩ => ⟨hready, ?_⟩
    simp [henccfg, hline]
  · refine does_main (by intros; delta exec; rfl) fun u ⟨hready, henccfg⟩ => ⟨hready, ?_⟩
    simp [henccfg]
  · refine does_main (by intros; delta exec; rfl) fun u ⟨hready, henccfg⟩ => ⟨hready, ?_⟩
    simp [henccfg]
  · intro raw
    refine does_main (by intros; delta exec; rfl) fun u ⟨hready, hssicfg, hclean, hssiWord⟩ => ⟨hready, ?_⟩
    simp [hssicfg, pause_over hclean, hssiWord]
  · refine does_main (by intros; delta exec; rfl) fun u ⟨hready, hssicfg, hclean, hssiWord⟩ => ⟨hready, ?_⟩
    simp [hssicfg, pause_over hclean, hssiWord]
  · refine does_main (by intros; delta exec; rfl) fun u ⟨hready, hssicfg, hclean⟩ => ⟨hready, ?_⟩
    simp [hssicfg, pause_over hclean]
  · intro line
    refine does_main (by intros; delta exec; rfl) fun u ⟨hready, hentryFire⟩ => ⟨hready, ?_⟩
    simp [hentryFire]
  · refine does_main (by intros; delta exec; rfl) fun u ⟨hready, hentryFire⟩ => ⟨hready, ?_⟩
    simp [hentryFire]
  · refine does_one (fun _ _ => rfl) fun u ⟨hw, haxKind, haxLive, hfixtime, hmoduleTime⟩ => ⟨hw, ?_⟩
    simp [haxKind, haxLive, Nat.not_lt.2 hfixtime, Nat.not_lt.2 hmoduleTime]
  · refine does_one (fun _ _ => rfl) fun u ⟨hw, haxKind⟩ => ⟨hw, ?_⟩
    simp [haxKind]
  · refine does_one (fun _ _ => rfl) fun u ⟨hw, haxKind, haxLive, htime⟩ => ⟨hw, ?_⟩
    simp [haxKind, haxLive, htime]
  · refine does_one (fun _ _ => rfl) fun u hw => ⟨hw, ?_⟩
    rfl
  · refine does_one (fun _ _ => rfl) fun u hw => ⟨hw, ?_⟩
    rfl
  · intro o
    refine does_main (by intros; delta exec; rfl) fun u ⟨hready, hffOn, hffcfg, hffMode, hfall⟩ => ⟨hready, ?_⟩
    rcases hfall with hfall | hfall
    · simp [hffOn, hffcfg, hffMode, hfall]
    · simp [hffOn, hffcfg, hffMode, Nat.not_lt.2 hfall]
  · intro o
    refine does_main (by intros; delta exec; rfl) fun u ⟨hready, hffOn, hffcfg, hffMode, hfall, htick⟩ => ⟨hready, ?_⟩
    simp [hffOn, hffcfg, hffMode, hfall, htick]
  · intro o
    refine does_main (by intros; delta exec; rfl) fun u ⟨hready, hffOn, hffcfg, hffMode⟩ => ⟨hready, ?_⟩
    simp [hffOn, hffcfg, hffMode]
  · refine does_main (by intros; delta exec; rfl) fun u ⟨hready, hffOn, hffMode, hmoduleTime, hpps⟩ => ⟨hready, ?_⟩
    simp [hffOn, hffMode, hmoduleTime, hpps]
  · refine does_main (by intros; delta exec; rfl) fun u ⟨hready, hfall, hfall'⟩ => ⟨hready, ?_⟩
    simp [hfall, hfall']
  · intro x l
    refine does_main (by intros; delta exec; rfl) fun u ⟨hready, hback, hffOn, hval, hffPin⟩ => ⟨hready, ?_⟩
    simp [hback, hffOn, Nat.not_lt.2 hval, hffPin.symm]
  · intro x l
    refine does_main (by intros; delta exec; rfl) fun u ⟨hready, hback, hffOn, hval, hffPin⟩ => ⟨hready, ?_⟩
    simp [hback, hffOn, Nat.not_lt.2 hval, hffPin]

end Sys2Proof.Machine

namespace Sys2Proof.Machine

/-- Settles O28: the state of the change, and the checks of the group, choose the branch that is written. -/
theorem changeAndCommitBoundariesComplete : Obligations.ChangeAndCommitBoundariesComplete := by
  unfold Obligations.ChangeAndCommitBoundariesComplete
  intro n p
  refine ⟨?_, ?_, ?_, ?_, ?_, ?_, ?_, ?_⟩
  · intro i b
    refine does_main (by intros; delta exec; rfl) fun u ⟨hready, hnext, hprepared, hloading⟩ => ⟨hready, ?_⟩
    simp [hnext, hprepared, hloading]
  · intro i b
    refine does_main (by intros; delta exec; rfl) fun u ⟨hready, hnext, hprepared, hloading⟩ => ⟨hready, ?_⟩
    simp [hnext, hprepared, hloading]
  · intro i b
    refine does_main (by intros; delta exec; rfl)
        fun u ⟨hready, hcycState, hold, hchgTick, hnext, hnextBad⟩ => ⟨hready, ?_⟩
    simp [hcycState, hold, hchgTick, hnext, hnextBad]
  · intro i b
    refine does_main (by intros; delta exec; rfl)
        fun u ⟨hready, hcycState, hold, hchgTick, hnext, hnextBad, hmapOwned⟩ => ⟨hready, ?_⟩
    simp [hcycState, hold, hchgTick, hnext, hnextBad, hmapOwned]
  · intro i o
    refine does_main (by intros; delta exec; rfl) fun u ⟨hready, hcycState, hold, himg, hmigPoison⟩ => ⟨hready, ?_⟩
    simp [hcycState, hold, himg, hmigPoison]
  · intro i b
    refine does_main (by intros; delta exec; rfl)
        fun u ⟨hready, hcycState, hold, hchgTick, hnext, hnextBad, hmapOwned⟩ => ⟨hready, ?_⟩
    simp [hcycState, hold, hchgTick, hnext, hnextBad, hmapOwned]
  · refine does_main (by intros; delta exec; rfl)
      fun u ⟨hready, hisPending, harmed, ht0, hownerHalted, hdescWaits, hpass⟩ => ⟨hready, ?_⟩
    have hall : (u.commitGroup p.val).all (fun q => u.pageCheck (u.commitGroup p.val) q == .ok) = true := by
      simpa using hpass
    simp [hisPending, harmed, ht0, hownerHalted, hdescWaits, -List.all_eq_true, hall]
  · refine does_main (by intros; delta exec; rfl)
      fun u ⟨hready, hisPending, harmed, ht0, hownerHalted, hdescWaits, hfail⟩ => ⟨hready, ?_⟩
    obtain ⟨q, hq, hbad⟩ := hfail
    have hall : (u.commitGroup p.val).all (fun q => u.pageCheck (u.commitGroup p.val) q == .ok) = false :=
      List.all_eq_false.2 ⟨q, hq, by simpa using hbad⟩
    simp [hisPending, harmed, ht0, hownerHalted, hdescWaits, -List.all_eq_false, hall]

end Sys2Proof.Machine

namespace Sys2Proof.Machine

/-- Settles O31: the grid, the set in flight and the capture choose the branch that is written. -/
theorem sampleCommandsComplete : Obligations.SampleCommandsComplete := by
  unfold Obligations.SampleCommandsComplete
  intro who v n gone m c x
  refine ⟨?_, ?_, ?_, ?_, ?_, ?_, ?_, ?_, ?_, ?_, ?_, ?_, ?_, ?_⟩
  · refine does_main (by intros; delta exec; rfl) fun u ⟨hready, hgridSel, hgridSel', htickN⟩ => ⟨hready, ?_⟩
    simp [hgridSel, hgridSel', htickN]
  · intro ph
    refine does_main (by intros; delta exec; rfl) fun u ⟨hready, hgridSel, hstart⟩ => ⟨hready, ?_⟩
    simp [hgridSel, hstart]
  · refine does_main (by intros; delta exec; rfl) fun u ⟨hready, hgridSel, hstart, hgridStat⟩ => ⟨hready, ?_⟩
    simp [hgridSel, hstart, hgridStat]
  · refine does_main (by intros; delta exec; rfl) fun u ⟨hready, hgridSel, hstart, hgridStat⟩ => ⟨hready, ?_⟩
    simp [hgridSel, hstart, hgridStat]
  · intro set rest
    refine does_guarded_main (by intros; delta exec; rfl) fun u ⟨hready, hflight, hdue⟩ => ⟨hready, ?_⟩
    simp [hflight, Nat.not_lt.2 hdue]
  · refine does_main (by intros; delta exec; rfl) fun u ⟨hready, hpadOn, honTick⟩ => ⟨hready, ?_⟩
    simp [hpadOn, Nat.not_lt.2 honTick]
  · refine does_main (by intros; delta exec; rfl) fun u ⟨hready, hpadOn, honTick⟩ => ⟨hready, ?_⟩
    simp [hpadOn, Nat.not_lt.2 honTick]
  · refine does_main (by intros; delta exec; rfl) fun u ⟨hready, hsettlemask, hsettle⟩ => ⟨hready, ?_⟩
    simp [hsettlemask, hsettle]
  · refine does_one (fun _ _ => rfl) fun u hw => ⟨hw, ?_⟩
    rfl
  · refine does_write (fun _ _ => rfl) fun u ⟨hw, hkey⟩ => ⟨hw, ?_⟩
    simp [hkey]
  · refine does_write (fun _ _ => rfl) fun u ⟨hw, hkey⟩ => ⟨hw, ?_⟩
    simp [hkey]
  · refine does_one (fun _ _ => rfl) fun u ⟨hw, hcapstat, hcapcfg⟩ => ⟨hw, ?_⟩
    have hfree : (u.bit R.PAD_CAPSTAT 0 || decide (23 < u.fld R.PAD_CAPCFG 4 0)) = false := by
      simpa [hcapstat] using Nat.le_of_lt_succ hcapcfg
    exact if_neg (Bool.eq_false_iff.1 hfree)
  · refine does_one (fun _ _ => rfl) fun u ⟨hw, hcapstat⟩ => ⟨hw, ?_⟩
    simp [hcapstat]
  · intro y
    refine does_main (by intros; delta exec; rfl) fun u ⟨hready, hcap, hfirst⟩ => ⟨hready, ?_⟩
    simp [hcap, Nat.not_lt.2 hfirst]

end Sys2Proof.Machine

namespace Sys2Proof.Machine

/-- A write of a command register that is let in without the key. -/
theorem does_badKey {c : Nat → Instr} {h : State → Prop} {who : Init} {p o key : Nat} {v : Word}
    {g : Nat → State → State}
    (hexec : ∀ dt s, exec (c dt) s = onMain dt s fun u => u.cmdW who p o fun n t => t.keyed p o n key v (g n))
    (hh : ∀ u, h u → Writes who p o u ∧ nf v.toNat 31 16 ≠ key) : Does c h fun u =>
        u.ack.err p (u.partNo who) eBadKey (reg p o) :=
  does_write (hexec := hexec) fun u hu => by
    obtain ⟨hw, hkey⟩ := hh u hu
    exact ⟨hw, keyed_bad hkey⟩

/-! ### The SAR converters (R302 to R316) -/

@[simp] theorem setSarC_now4 (u : State) (c : Nat) (x : SarConv) : (u.setSarC c x).now4 = u.now4 := rfl

theorem convreq_eq (c : Nat) : R.SAR_CONVREQ c = reg (sarPage c) 0xC00 := by
  simp only [R.SAR_CONVREQ, reg, sarPage]
  omega

/-- Settles O32: the conversion under way and the request held choose the branch that is written. -/
theorem converterCommandsComplete : Obligations.ConverterCommandsComplete := by
  unfold Obligations.ConverterCommandsComplete
  intro who c v code
  refine ⟨?_, ?_, ?_, ?_, ?_, ?_, ?_, ?_, ?_, ?_, ?_, ?_, ?_, ?_, ?_, ?_⟩
  · intro k tr
    refine does_main (by intros; delta exec; rfl) fun u ⟨hready, hsarDue⟩ => ⟨hready, ?_⟩
    simp [hsarDue]
  · refine does_keyed (fun _ _ => rfl) fun u ⟨hw, hcmd⟩ => ⟨hw.1, hw.2, ?_⟩
    simp [hcmd]
  · refine does_keyed (fun _ _ => rfl) fun u ⟨hw, hcmd⟩ => ⟨hw.1, hw.2, ?_⟩
    simp [hcmd]
  · exact does_badKey (fun _ _ => rfl) fun _ h => h
  · intro p
    refine does_main (by intros; delta exec; rfl) fun u ⟨hready, hold, hrun, hreqStart, hslot⟩ => ⟨hready, ?_⟩
    simp [hold, hrun, hreqStart, Nat.not_lt.2 hslot]
  · intro t
    refine does_main (by intros; delta exec; rfl) fun u ⟨hready, hold, hrun, hreqStart, hslot⟩ => ⟨hready, ?_⟩
    simp [hold, hrun, hreqStart, Nat.not_lt.2 hslot]
  · refine does_write (fun _ _ => rfl) fun u ⟨hw, hsarMode, hreq, hrun, hold⟩ => ⟨hw, ?_⟩
    simp [hsarMode, hreq, hrun, hold]
  · intro r
    refine does_write (fun _ _ => rfl) fun u ⟨hw, hsarMode, hreq⟩ => ⟨hw, ?_⟩
    simp [hsarMode, hreq, convreq_eq]
  · refine does_write (fun _ _ => rfl) fun u ⟨hw, hsarMode⟩ => ⟨hw, ?_⟩
    simp [hsarMode]
  · refine does_main (by intros; delta exec; rfl) fun u ⟨hready, hsarMode, hsarReady, hcalTick, hreq⟩ => ⟨hready, ?_⟩
    simp [hsarMode, hsarReady, hcalTick, hreq]
  · intro r
    refine does_main (by intros; delta exec; rfl) fun u ⟨hready, hsarMode, hsarReady, hcalTick, hreq⟩ => ⟨hready, ?_⟩
    simp [hsarMode, hsarReady, hcalTick, hreq]
  · intro t
    refine does_main (by intros; delta exec; rfl) fun u ⟨hready, hsarFbto, hstat, hrun, hold, htrigTick⟩ => ⟨hready, ?_⟩
    simp [hsarFbto, hstat, hrun, hold, Nat.not_lt.2 htrigTick]
  · intro t
    refine does_main (by intros; delta exec; rfl) fun u ⟨hready, hsarFbto, hstat, hrun, hfbTick⟩ => ⟨hready, ?_⟩
    simp [hsarFbto, hstat, hrun, Nat.not_lt.2 hfbTick]
  · intro t p
    refine does_main (by intros; delta exec; rfl) fun u ⟨hready, hsarFbto, hstat, hrun, hfbTick⟩ => ⟨hready, ?_⟩
    simp [hsarFbto, hstat, hrun, Nat.not_lt.2 hfbTick]
  · intro d
    refine does_one (fun _ _ => rfl) fun u ⟨hw, hrefDev, hcmd⟩ => ⟨hw, ?_⟩
    simp [hrefDev, hcmd]
  · refine does_one (fun _ _ => rfl) fun u hw => ⟨hw, ?_⟩
    rfl

end Sys2Proof.Machine

namespace Sys2Proof.Machine

/-! ### The wear alarm of a breaker (R284, R295) -/

/-- A breaker whose current has gone after 1 A² s. The alarm level in force is 0; the register already holds a committed
infinity, which takes force at the engine's next tick (assumption 143). -/
def wearCase : State :=
  { sys := { on := true }
    regs := [(R.PRE_BRKWALM 0, 0x7F800000)]
    pre := { cfg := [(R.PRE_BRKCFG 0, 1), (R.PRE_BRKWALM 0, 0)]
             brk := [(0, { run := true, low := true, sums := [1, 0, 0] })] } }

/-- The event register of PRE in the state that a command answers. -/
def preEvents : Host.Outcome State Fault Refusal → Option Nat
  | .next t => some (t.rd (hEvraw 0x06A))
  | _ => none

/-- Refutes O33: the alarm is judged with the level in force (`State.outReg`), here 0, so the wear raises its event; the
statement judges it with the register, here an infinity that no wear exceeds, so it raises none. -/
theorem not_pulsesAndBreakersComplete : ¬ Obligations.PulsesAndBreakersComplete := by
  unfold Obligations.PulsesAndBreakersComplete
  intro h
  obtain ⟨-, -, -, -, -, -, -, -, -, -, -, hlow⟩ := h 0 0 0 0 0 0 0
  have hwear : preEvents (exec (.breakerCurrentLow 0 0) wearCase) = some 0x40 := by decide +kernel
  have hsame := congrArg preEvents (hlow 0 wearCase rfl ⟨⟨rfl, rfl⟩, by decide, rfl, rfl⟩)
  exact absurd (hwear.symm.trans hsame) (by decide +kernel)

end Sys2Proof.Machine

namespace Sys2Proof.Machine

/-- Settles O34: the engine's state and the group in force choose the branch that is written. -/
theorem protectionCommandsComplete : Obligations.ProtectionCommandsComplete := by
  unfold Obligations.ProtectionCommandsComplete
  intro who v o e b g rest
  refine ⟨?_, ?_, ?_, ?_, ?_, ?_, ?_, ?_, ?_, ?_, ?_, ?_, ?_, ?_, ?_, ?_, ?_, ?_⟩
  · refine does_keyed (fun _ _ => rfl) fun u ⟨hw, hval⟩ => ⟨hw.1, hw.2, ?_⟩
    simp [hval]
  · refine does_keyed (fun _ _ => rfl) fun u ⟨hw, hval, hspare⟩ => ⟨hw.1, hw.2, ?_⟩
    simp [hval, Decidable.not_and_iff_not_or_not.2 hspare]
  · refine does_keyed (fun _ _ => rfl) fun u ⟨hw, hval, hengine, hval'⟩ => ⟨hw.1, hw.2, ?_⟩
    simp [hval, hengine, hval']
  · refine does_main (by intros; delta exec; rfl) fun u ⟨hready, hsealing, hgrpBadPar, hgrpCrcOk⟩ => ⟨hready, ?_⟩
    simp [hsealing, hgrpBadPar, hgrpCrcOk]
  · intro x
    refine does_main (by intros; delta exec; rfl) fun u ⟨hready, hsealing, hgrpBadPar⟩ => ⟨hready, ?_⟩
    simp [hsealing, hgrpBadPar]
    rfl
  · refine does_keyed (fun _ _ => rfl) fun u ⟨hw, hengine, hval, hact⟩ => ⟨hw.1, hw.2, ?_⟩
    simp [hengine, hval, hact]
    omega
  · refine does_keyed (fun _ _ => rfl) fun u ⟨hw, hengine, hval, hval', hact⟩ => ⟨hw.1, hw.2, ?_⟩
    simp [hengine, Nat.not_lt.2 hval, Nat.not_lt.2 hval', hact]
  · refine does_keyed (fun _ _ => rfl) fun u ⟨hw, hengine⟩ => ⟨hw.1, hw.2, ?_⟩
    simp [hengine]
  · exact does_badKey (fun _ _ => rfl) fun _ h => h
  · refine does_keyed (fun _ _ => rfl) fun u ⟨hw, hval, hval', hval'', hmlane⟩ => ⟨hw.1, hw.2, ?_⟩
    simp [hval, Nat.not_lt.2 hval', Nat.not_lt.2 hval'', hmlane]
  · refine does_keyed (fun _ _ => rfl) fun u ⟨hw, hmactive⟩ => ⟨hw.1, hw.2, ?_⟩
    simp [hmactive]
  · refine does_keyed (fun _ _ => rfl) fun u hw => ⟨hw.1, hw.2, ?_⟩
    rfl
  · refine does_one (fun _ _ => rfl) fun u hw => ⟨hw, ?_⟩
    rfl
  · refine does_one (fun _ _ => rfl) fun u hw => ⟨hw, ?_⟩
    rfl
  · intro n
    refine does_guarded_main (by intros; delta exec; rfl)
        fun u ⟨hready, hlive, hpartOf, howns, hinDsec, hval, hpreMemOpen⟩ => ⟨hready, ?_⟩
    simp [hlive, hpartOf, howns, hinDsec, hval, hpreMemOpen]
  · intro n
    refine does_guarded_main (by intros; delta exec; rfl)
        fun u ⟨hready, hlive, hpartOf, howns, hinDsec, hval, hpreMemOpen⟩ => ⟨hready, ?_⟩
    simp [hlive, hpartOf, howns, hinDsec, hval, hpreMemOpen]
  · refine does_main (by intros; delta exec; rfl) fun u ⟨hready, houtside⟩ => ⟨hready, ?_⟩
    exact if_neg (by omega)
  · refine does_main (by intros; delta exec; rfl) fun u ⟨hready, hlo, hhi, hspare⟩ => ⟨hready, ?_⟩
    exact (if_pos ⟨hlo, hhi⟩).trans (if_neg (Decidable.not_and_iff_not_or_not.2 hspare))

end Sys2Proof.Machine

namespace Sys2Proof.Machine

/-- Settles O36: each condition written chooses one branch of the channel's event. -/
theorem digitalInputsAndOutputsComplete : Obligations.DigitalInputsAndOutputsComplete := by
  unfold Obligations.DigitalInputsAndOutputsComplete
  intro who v i k g q ph level off ma agree
  refine ⟨?_, ?_, ?_, ?_, ?_, ?_, ?_, ?_, ?_, ?_, ?_, ?_, ?_, ?_, ?_, ?_, ?_, ?_, ?_, ?_, ?_, ?_, ?_⟩
  · refine does_main (by intros; delta exec; rfl) fun u hready => ⟨hready, ?_⟩
    rfl
  · refine does_main (by intros; delta exec; rfl) fun u ⟨hready, hdiOn, hdiDue⟩ => ⟨hready, ?_⟩
    simp [hdiOn, hdiDue]
  · intro inst n l rest
    refine does_read (fun _ _ => rfl) fun u ⟨hr, heqmap, hedges⟩ => ⟨hr, ?_⟩
    simp [heqmap, hedges]
  · refine does_read (fun _ _ => rfl) fun u ⟨hr, heqmap, hedges⟩ => ⟨hr, ?_⟩
    simp [heqmap, hedges]
  · refine does_read (fun _ _ => rfl) fun u ⟨hr, heqmap⟩ => ⟨hr, ?_⟩
    simp [heqmap]
  · refine does_main (by intros; delta exec; rfl) fun u ⟨hready, hheld, hpulse⟩ => ⟨hready, ?_⟩
    have hkept : ((u.doCh (u.doLead k.val)).pulse && !(u.doCh (u.doLead k.val)).disc) = false := by simp [hpulse]
    simp only [hheld, hkept, Bool.or_false, Bool.false_eq_true, reduceIte]
  · refine does_main (by intros; delta exec; rfl) fun u ⟨hready, hdoLead, hpulse, hdisc⟩ => ⟨hready, ?_⟩
    simp [hdoLead, hpulse, hdisc]
  · refine does_main (by intros; delta exec; rfl) fun u hready => ⟨hready, ?_⟩
    rfl
  · refine does_main (by intros; delta exec; rfl)
      fun u ⟨hready, hlow, hchcfg, hdoLead, hdoHeld, hloadTick⟩ => ⟨hready, ?_⟩
    simp [hlow, hchcfg, hdoLead, hdoHeld, hloadTick]
  · refine does_main (by intros; delta exec; rfl) fun u ⟨hready, hrbOpen, hdoLead, hval, hrbLong⟩ => ⟨hready, ?_⟩
    simp [hrbOpen, hdoLead, hval, hrbLong]
  · refine does_main (by intros; delta exec; rfl) fun u ⟨hready, hdoSafety, hdrv, hrbOpen, hrbLong⟩ => ⟨hready, ?_⟩
    simp [hdoSafety, hdrv, hrbOpen, hrbLong]
  · refine does_main (by intros; delta exec; rfl) fun u ⟨hready, hdoEn, hpwmIn, hpwmBegin⟩ => ⟨hready, ?_⟩
    simp [hdoEn, hpwmIn, hpwmBegin]
  · refine does_main (by intros; delta exec; rfl) fun u ⟨hready, hdoMode, hpwm, honTicks, honTicks'⟩ => ⟨hready, ?_⟩
    simp [hdoMode, hpwm, honTicks, honTicks']
  · refine does_main (by intros; delta exec; rfl) fun u ⟨hready, hdoSafety, hdoLead, hdoOn, htpDue⟩ => ⟨hready, ?_⟩
    simp [hdoSafety, hdoLead, hdoOn, htpDue]
  · refine does_main (by intros; delta exec; rfl) fun u ⟨hready, hpulse, htpcfg⟩ => ⟨hready, ?_⟩
    simp [hpulse, htpcfg]
  · refine does_main (by intros; delta exec; rfl) fun u ⟨hready, hrelease, hpulse, hrelease'⟩ => ⟨hready, ?_⟩
    simp [hrelease, hpulse, hrelease']
  · refine does_main (by intros; delta exec; rfl) fun u ⟨hready, hstat⟩ => ⟨hready, ?_⟩
    simp [hstat]
  · refine does_main (by intros; delta exec; rfl) fun u hready => ⟨hready, ?_⟩
    rfl
  · refine does_main (by intros; delta exec; rfl) fun u hready => ⟨hready, ?_⟩
    rfl
  · refine does_main (by intros; delta exec; rfl) fun u ⟨hready, hstat, hlowTick⟩ => ⟨hready, ?_⟩
    simp [hstat, hlowTick]
  · refine does_keyed (fun _ _ => rfl) fun u hw => ⟨hw.1, hw.2, ?_⟩
    rfl
  · exact does_badKey (fun _ _ => rfl) fun _ h => h
  · refine does_one (fun _ _ => rfl) fun u hw => ⟨hw, ?_⟩
    rfl

end Sys2Proof.Machine

namespace Sys2Proof.Machine

section Registers
variable {s : State} {x y i : Nat} {b : Bool}

theorem State.rd_putBit_other (h : y ≠ x) : (s.putBit x i b).rd y = s.rd y :=
  State.rd_wr_other s _ h

theorem State.bit_putBit_other (h : y ≠ x) (j : Nat) : (s.putBit x i b).bit y j = s.bit y j := by
  simp only [State.bit, State.rd_putBit_other h]

theorem State.fld_putBit_other (h : y ≠ x) (hi lo : Nat) : (s.putBit x i b).fld y hi lo = s.fld y hi lo := by
  simp only [State.fld, State.rd_putBit_other h]

end Registers

/-! ### Time-triggered CAN (R412 to R423) -/

theorem canStat_ne_txstat (c k : Nat) : R.CAN_STAT c ≠ R.CAN_TXSTAT c k := by
  simp only [R.CAN_STAT, R.CAN_TXSTAT]
  omega

/-- The correction of a reference is measured in TT-FD only; else it is what the reference brings. -/
theorem ttCorr_single {u : State} {c : Nat} (m : Nat) (r : TtRef) (hmode : u.canTtMode c ≠ 2) : u.ttCorr c m r = r.corr := by
  simp [State.ttCorr, hmode]

/-- Settles O39: the cluster's mode and its state of synchronization choose the branch that is written. -/
theorem timeTriggeredCanCompletes : Obligations.TimeTriggeredCanCompletes := by
  unfold Obligations.TimeTriggeredCanCompletes
  intro c ph j r ago
  refine ⟨?_, ?_, ?_, ?_, ?_, ?_, ?_, ?_, ?_, ?_⟩
  · refine does_main (by intros; delta exec; rfl)
      fun u ⟨hready, httOn, hctrl, httErr, hstat, httSync, httcycle⟩ => ⟨hready, ?_⟩
    simp [httOn, hctrl, httErr, hstat, httSync, httcycle]
  · refine does_main (by intros; delta exec; rfl)
      fun u ⟨hready, httOn, hctrl, httErr, hstat, httSync, httcycle⟩ => ⟨hready, ?_⟩
    simp [httOn, hctrl, httErr, hstat, httSync, httcycle]
  · refine does_main (by intros; delta exec; rfl)
      fun u ⟨hready, httOn, hcanTtMode, hfdf, hgap, hcount, httSync⟩ => ⟨hready, ?_⟩
    simp [httOn, hcanTtMode, hfdf, hgap, Nat.not_le.2 hcount, httSync]
  · refine does_main (by intros; delta exec; rfl)
      fun u ⟨hready, httOn, hcanTtMode, hfdf, hgap, hcount, httSync, hnext, hcorr⟩ => ⟨hready, ?_⟩
    have hlen : u.ttNext c.val < u.ttLen c.val := hnext ▸ hcount
    simp [httOn, hcanTtMode, hfdf, hgap, Nat.not_le.2 hlen, httSync, hnext, ttCorr_single _ r hcanTtMode, hcorr]
  · refine does_main (by intros; delta exec; rfl) fun u ⟨hready, httOn, hcanTtMode, hout⟩ => ⟨hready, ?_⟩
    rcases hout with hout | hout | hout <;> simp [httOn, hcanTtMode, hout]
  · refine does_main (by intros; delta exec; rfl)
      fun u ⟨hready, httOn, hcanTtMode, hfdf, hres, hcount, htttofs⟩ => ⟨hready, ?_⟩
    simp [httOn, hcanTtMode, hfdf, hres, Nat.not_le.2 hcount, Nat.mod_eq_of_lt hcount, htttofs]
  · refine does_main (by intros; delta exec; rfl) fun u ⟨hready, httOn, hcanTtMode, hfdf⟩ => ⟨hready, ?_⟩
    simp [httOn, hcanTtMode, hfdf]
  · refine does_main (by intros; delta exec; rfl)
      fun u ⟨hready, httOn, httSync, hkind, hfired, hsel, hmark, hopen⟩ => ⟨hready, ?_⟩
    obtain ⟨herr, hlisten, htx, hfresh⟩ := hopen _ rfl
    rw [State.ttErr] at herr
    simp [httOn, httSync, hkind, State.ttErr, State.fld_putBit_other (canStat_ne_txstat _ _),
      State.bit_putBit_other (canStat_ne_txstat _ _), -List.contains_eq_mem, hfired, hsel, Nat.not_lt.2 hmark,
          Nat.not_le.2 herr, hlisten, htx, hfresh]
  · refine does_main (by intros; delta exec; rfl) fun u ⟨hready, httOn, httSync, httWatch⟩ => ⟨hready, ?_⟩
    simp [httOn, httSync, Nat.not_lt.2 httWatch]
  · refine does_main (by intros; delta exec; rfl)
      fun u ⟨hready, httOn, httSync, httSync', httWatch, hmissed⟩ => ⟨hready, ?_⟩
    simp [httOn, httSync, httSync', Nat.not_lt.2 httWatch, hmissed]

end Sys2Proof.Machine

namespace Sys2Proof.Machine

section Since
variable {s : State} {t n : Nat}

theorem usSince_iff : s.usSince t n = true ↔ t + 100 * n ≤ s.ticks := by simp [State.usSince]
theorem msSince_iff : s.msSince t n = true ↔ t + 100000 * n ≤ s.ticks := by simp [State.msSince]
theorem secSince_iff : s.secSince t n = true ↔ t + 100000000 * n ≤ s.ticks := by simp [State.secSince]

end Since

/-- Settles O40: the state of the servo and of the pulses chooses the branch that is written. -/
theorem timeBaseCommandsComplete : Obligations.TimeBaseCommandsComplete := by
  unfold Obligations.TimeBaseCommandsComplete
  intro who v ago
  refine ⟨?_, ?_, ?_, ?_, ?_, ?_, ?_, ?_, ?_, ?_, ?_, ?_⟩
  · refine does_one (fun _ _ => rfl) fun u ⟨hw, htsrc, hservoOn, hofsTick⟩ => ⟨hw, ?_⟩
    simp [htsrc, hservoOn, hofsTick]
  · refine does_one (fun _ _ => rfl) fun u ⟨hw, htsrc, hservoOn, hofsTick, hpause⟩ => ⟨hw, ?_⟩
    have hsince : u.usSince (u.tmb.ofsTick - 1) 1 = true := usSince_iff.2 hpause
    simp [htsrc, hservoOn, hsince]
  · refine does_one (fun _ _ => rfl) fun u ⟨hw, htsrc⟩ => ⟨hw, ?_⟩
    simp [htsrc]
  · refine does_main (by intros; delta exec; rfl) fun u ⟨hready, hppscfg, hval⟩ => ⟨hready, ?_⟩
    simp [hppscfg, Nat.not_lt.2 hval]
  · refine does_main (by intros; delta exec; rfl) fun u ⟨hready, hppscfg, hwatch, hpulseTick⟩ => ⟨hready, ?_⟩
    have hsince : u.msSince u.tmb.pulseTick 1100 = true := msSince_iff.2 hpulseTick
    simp [hppscfg, hwatch, hsince]
  · refine does_main (by intros; delta exec; rfl) fun u ⟨hready, hservoOn, htstate, hlockcfg⟩ => ⟨hready, ?_⟩
    have hsince : u.msSince u.tmb.holdTick (10 * u.fld R.TMB_LOCKCFG 31 16) = true := msSince_iff.2 hlockcfg
    simp [hservoOn, or_assoc, htstate, hsince]
  · refine does_one (fun _ _ => rfl) fun u hw => ⟨hw, ?_⟩
    rfl
  · refine does_keyed (fun _ _ => rfl) fun u ⟨hw, hval, htstate⟩ => ⟨hw.1, hw.2, ?_⟩
    simp [hval, htstate]
  · refine does_keyed (fun _ _ => rfl) fun u ⟨hw, hval⟩ => ⟨hw.1, hw.2, ?_⟩
    simp [hval]
  · refine does_main (by intros; delta exec; rfl) fun u ⟨hready, hleap, hleapDay⟩ => ⟨hready, ?_⟩
    simp [hleap, hleapDay]
  · refine does_main (by intros; delta exec; rfl) fun u ⟨hready, hleap, hdue⟩ => ⟨hready, ?_⟩
    rw [Int.sub_eq_add_neg] at hdue
    simp [hleap, hdue, Int.sub_eq_add_neg]
  · intro d due rest
    refine does_main (by intros; delta exec; rfl) fun u ⟨hready, hsteps, hval⟩ => ⟨hready, ?_⟩
    simp [hsteps, Nat.not_lt.2 hval]

end Sys2Proof.Machine

namespace Sys2Proof.Machine

/-- Mapped process data is launched while its cycle feeds it: it has not stopped, and it is enabled or keeps its template. -/
theorem pd_launched {mapped stopped en template : Bool}
    (h : mapped = false ∨ stopped = false ∧ (en = true ∨ template = true)) :
    (mapped && (stopped || (!en && !template))) = false := by
  revert mapped stopped en template
  decide

theorem filter_isEmpty {α : Type} (l : List α) (p : α → Bool) : (l.filter p).isEmpty = !l.any p := by
  induction l with
  | nil => rfl
  | cons a l ih => by_cases ha : p a = true <;> simp_all

/-- Settles O41: the state of the ring, of the port and of the list chooses the branch that is written. -/
theorem ethernetCommandsComplete : Obligations.EthernetCommandsComplete := by
  unfold Obligations.EthernetCommandsComplete
  intro who v svc up gig n g q l2 k r f ago ph
  refine ⟨?_, ?_, ?_, ?_, ?_, ?_, ?_, ?_, ?_, ?_, ?_, ?_, ?_, ?_, ?_, ?_, ?_, ?_, ?_, ?_, ?_, ?_, ?_⟩
  · refine does_write (fun _ _ => rfl) fun u hw => ⟨hw, ?_⟩
    rfl
  · refine does_write (fun _ _ => rfl) fun u hw => ⟨hw, ?_⟩
    rfl
  · intro w
    refine does_main (by intros; delta exec; rfl) fun u ⟨hready, hleft, hbad⟩ => ⟨hready, ?_⟩
    simp [hleft, hbad] <;> rfl
  · refine does_write (fun _ _ => rfl) fun u ⟨hw, hval, hbit⟩ => ⟨hw, ?_⟩
    simp [hval, hbit]
  · intro i
    refine does_main (by intros; delta exec; rfl) fun u ⟨hready, hcur, hval⟩ => ⟨hready, ?_⟩
    simp [hcur, hval]
  · intro i l
    refine does_main (by intros; delta exec; rfl) fun u ⟨hready, hqueue, hval⟩ => ⟨hready, ?_⟩
    simp [hqueue, hval]
  · intro i l
    refine does_main (by intros; delta exec; rfl) fun u ⟨hready, hqueue, hlaunchCase⟩ => ⟨hready, ?_⟩
    simp [hqueue, Nat.not_le.2 hlaunchCase]
  · refine does_main (by intros; delta exec; rfl) fun u ⟨hready, hon⟩ => ⟨hready, ?_⟩
    simp [hon]
  · intro x
    refine does_main (by intros; delta exec; rfl) fun u ⟨hready, hnext, hswAt⟩ => ⟨hready, ?_⟩
    simp [hnext, Nat.not_lt.2 hswAt]
  · refine does_guarded_main (by intros; delta exec; rfl) fun u ⟨hready, hport, hethLink, hctrl, hfcs⟩ => ⟨hready, ?_⟩
    simp [Nat.ne_of_lt hport, (show n.val ≠ 5 by omega), hethLink, hctrl, hfcs]
  · refine does_guarded_main (by intros; delta exec; rfl)
      fun u ⟨hready, hlow, hport, hethLink, hctrl, hfcs, hlong⟩ => ⟨hready, ?_⟩
    simp [Nat.not_lt.2 hlow, Nat.ne_of_lt hport, (show n.val ≠ 5 by omega), hethLink, hctrl, hfcs, hlong]
  · refine does_guarded_main (by intros; delta exec; rfl) fun u ⟨hready, hval, hethLink, hfcs, hdata⟩ => ⟨hready, ?_⟩
    simp [hval, hethLink, hfcs, Nat.not_lt.2 hdata]
  · refine does_main (by intros; delta exec; rfl) fun u ⟨hready, hval⟩ => ⟨hready, ?_⟩
    simp [hval]
  · refine does_main (by intros; delta exec; rfl) fun u ⟨hready, hport, hup, hpcfg, hspeed⟩ => ⟨hready, ?_⟩
    simp [Nat.ne_of_lt hport, (show n.val ≠ 5 by omega), hup, hpcfg, hspeed]
  · intro e l
    refine does_main (by intros; delta exec; rfl) fun u ⟨hready, hfdb, hagetime⟩ => ⟨hready, ?_⟩
    simp [hfdb, secSince_iff.2 hagetime]
  · intro e l
    refine does_main (by intros; delta exec; rfl) fun u ⟨hready, hdup, hprpcfg⟩ => ⟨hready, ?_⟩
    simp [hdup, msSince_iff.2 hprpcfg]
  · refine does_main (by intros; delta exec; rfl) fun u ⟨hready, hprpMode, hlan, hticks, hprpstat⟩ => ⟨hready, ?_⟩
    have hsilent : u.secSince (tabGet 0 u.eth.lan l2.val) 2 = true := secSince_iff.2 hlan
    have hheard : u.secSince (tabGet 0 u.eth.lan (1 - l2.val)) 2 = false :=
      Bool.eq_false_iff.2 fun h => Nat.not_le.2 hticks (secSince_iff.1 h)
    simp [hprpMode, hsilent, hheard, hprpstat]
  · intro e l
    refine does_read (fun _ _ => rfl) fun u ⟨hr, htsq⟩ => ⟨hr, ?_⟩
    simp [htsq]
  · refine does_read (fun _ _ => rfl) fun u ⟨hr, htsq⟩ => ⟨hr, ?_⟩
    simp [htsq]
  · intro l x
    refine does_main (by intros; delta exec; rfl) fun u ⟨hready, hpdDue, hpdtcfg, hpdMapped, hpdGated⟩ => ⟨hready, ?_⟩
    simp [hpdDue, hpdtcfg, pd_launched hpdMapped, hpdGated]
  · intro l x
    refine does_main (by intros; delta exec; rfl)
        fun u ⟨hready, hpdDue, hpdtcfg, hpdMapped, hpdGated, hlinks⟩ => ⟨hready, ?_⟩
    simp [hpdDue, hpdtcfg, pd_launched hpdMapped, hpdGated, filter_isEmpty, -List.any_eq_true, hlinks]
  · intro l x
    refine does_main (by intros; delta exec; rfl)
        fun u ⟨hready, hpdDue, hpdtcfg, hpdMapped, hpdGated, hlinks⟩ => ⟨hready, ?_⟩
    simp [hpdDue, hpdtcfg, pd_launched hpdMapped, hpdGated, filter_isEmpty, -List.any_eq_true, hlinks]
  · refine does_main (by intros; delta exec; rfl) fun u ⟨hready, hpdrcfg, hpdrtmo, hpdrstat, hsilent⟩ => ⟨hready, ?_⟩
    simp [hpdrcfg, hpdrtmo, hpdrstat, usSince_iff.2 hsilent]

end Sys2Proof.Machine

namespace Sys2Proof.Machine

section Wack
variable {u : State} {who : Init} {n : Nat}

/-- WACK is the window owner's, outside a D-section. -/
theorem wackBy_owner (v : Word) (k : Nat) (hlive : u.live who = true) (hon : u.hwOn n = true)
    (howner : u.hwOwner n = u.partOf who) (hfree : (u.partOf who).any (fun p => !u.inDsec p) = true) :
    u.wackBy who n v k = u.ack.wack n (u.partNo who) v k := by
  cases hpart : u.partOf who with
  | none => simp [hpart] at hfree
  | some p =>
    have hout : u.inDsec p = false := by simpa [hpart] using hfree
    simp [State.wackBy, State.hrbMine, hlive, hon, howner, hpart, hout, ack_def]

/-- Any other WACK takes the fault. -/
theorem wackBy_other (v : Word) (k : Nat) (hlive : u.live who = true)
    (hother : u.hwOn n = false ∨ u.hwOwner n ≠ u.partOf who ∨ (u.partOf who).all (fun p => u.inDsec p) = true) :
    u.wackBy who n v k = u.busFault who (0x50FFF800 + n * 0x1000000) := by
  suffices hmine : u.hrbMine who n = false by simp [State.wackBy, hlive, hmine]
  cases hpart : u.partOf who with
  | none => simp [State.hrbMine, hpart]
  | some p =>
    simp only [hpart] at hother
    rcases hother with hoff | howner | hin
    · simp [State.hrbMine, hpart, hoff]
    · simp [State.hrbMine, hpart, howner]
    · simp_all [State.hrbMine]

end Wack

/-- Settles O42: the window, its owner and the operation in progress choose the branch that is written. -/
theorem gatewayAndHeritageComplete : Obligations.GatewayAndHeritageComplete := by
  unfold Obligations.GatewayAndHeritageComplete
  intro who v n kind inst item g x w op hd e i
  refine ⟨?_, ?_, ?_, ?_, ?_, ?_, ?_, ?_, ?_, ?_, ?_, ?_, ?_, ?_, ?_, ?_, ?_, ?_⟩
  · refine does_main (by intros; delta exec; rfl) fun u hready => ⟨hready, ?_⟩
    rfl
  · refine does_main (by intros; delta exec; rfl) fun u ⟨hready, hgwyOn, hfld, hsstat, hsilent⟩ => ⟨hready, ?_⟩
    simp [hgwyOn, hfld, hsstat, msSince_iff.2 hsilent]
  · refine does_one (fun _ _ => rfl) fun u hw => ⟨hw, ?_⟩
    rfl
  · refine does_main (by intros; delta exec; rfl) fun u ⟨hready, hlive⟩ => ⟨hready, ?_⟩
    simp [hlive]
  · intro o l
    refine does_main (by intros; delta exec; rfl)
        fun u ⟨hready, hcur, hfree, hop, hhrbShut, hhalted, hq⟩ => ⟨hready, ?_⟩
    simp [hcur, Nat.not_lt.2 hfree, hop, hhrbShut, hhalted, hq]
  · intro o
    refine does_main (by intros; delta exec; rfl) fun u ⟨hready, hcur, hfree, hop⟩ => ⟨hready, ?_⟩
    simp [hcur, Nat.not_lt.2 hfree, hop]
  · intro c t0
    refine does_main (by intros; delta exec; rfl) fun u ⟨hready, hcur, hval, hticks⟩ => ⟨hready, ?_⟩
    simp [hcur, Nat.not_lt.2 hval, Nat.not_lt.2 hticks]
  · intro c t0
    refine does_main (by intros; delta exec; rfl) fun u ⟨hready, hcur, hval, hticks⟩ => ⟨hready, ?_⟩
    simp [hcur, Nat.not_lt.2 hval, Nat.not_lt.2 hticks]
  · intro c t0
    refine does_main (by intros; delta exec; rfl) fun u ⟨hready, hcur, hackTo⟩ => ⟨hready, ?_⟩
    simp [hcur, hackTo]
  · refine does_main (by intros; delta exec; rfl) fun u ⟨hready, hctrl, hstat, hrstTick⟩ => ⟨hready, ?_⟩
    have hsince : u.msSince u.hrb.rstTick 10 = true := msSince_iff.2 hrstTick
    simp [hctrl, hstat, hsince]
  · refine does_main (by intros; delta exec; rfl) fun u ⟨hready, hlive, hhwOn, hhwOwner, hinDsec⟩ => ⟨hready, ?_⟩
    exact wackBy_owner v _ hlive hhwOn hhwOwner hinDsec
  · refine does_main (by intros; delta exec; rfl) fun u ⟨hready, hlive, hhwOn, hhwOwner, hinDsec⟩ => ⟨hready, ?_⟩
    exact wackBy_owner v _ hlive hhwOn hhwOwner hinDsec
  · refine does_main (by intros; delta exec; rfl) fun u ⟨hready, hlive, hother⟩ => ⟨hready, ?_⟩
    exact wackBy_other v _ hlive hother
  · refine does_main (by intros; delta exec; rfl) fun u ⟨hready, hlive, hother⟩ => ⟨hready, ?_⟩
    exact wackBy_other v _ hlive hother
  · refine does_main (by intros; delta exec; rfl)
      fun u ⟨hready, hon, htimer, hhwOn, hhwOwner, hsize, hopen⟩ => ⟨hready, ?_⟩
    obtain ⟨hshut, hhalted⟩ := hopen _ rfl
    simp [hon, htimer, hhwOn, hhwOwner, Nat.not_lt.2 hsize, hshut, hhalted]
  · refine does_main (by intros; delta exec; rfl) fun u hready => ⟨hready, ?_⟩
    rfl
  · refine does_main (by intros; delta exec; rfl) fun u ⟨hready, hatnlev⟩ => ⟨hready, ?_⟩
    simp [hatnlev]
  · refine does_one (fun _ _ => rfl) fun u hw => ⟨hw, ?_⟩
    rfl

end Sys2Proof.Machine

namespace Sys2Proof.Machine

/-- The partner's last heartbeat word in the state that a command answers. -/
def partnerWord : Host.Outcome State Fault Refusal → Option Nat
  | .next t => some t.rdn.word
  | _ => none

/-- Refutes O43: a good heartbeat is kept as the partner's last word (`Rdn.word`), which the statement's next state leaves
as it was. The main domain is on, no word has come before, and the heartbeat is 1. -/
theorem not_redundancyCommandsComplete : ¬ Obligations.RedundancyCommandsComplete := by
  unfold Obligations.RedundancyCommandsComplete
  intro h
  obtain ⟨-, -, -, -, -, -, -, -, -, -, hbeat, -⟩ := h .boot 0 1 0 0 ⟨0, 0, [], [], [], [], 0, 0⟩ true
  have hword : partnerWord (exec (.heartbeatReceived 0 1 true) { sys := { on := true } }) = some 1 := by decide +kernel
  have hsame := congrArg partnerWord (hbeat 0 { sys := { on := true } } rfl ⟨rfl, rfl⟩)
  exact absurd (hword.symm.trans hsame) (by decide +kernel)

end Sys2Proof.Machine

namespace Sys2Proof.Machine

theorem State.bit_wr_other {s : State} {x y n : Nat} (h : y ≠ x) (i : Nat) : (s.wr x n).bit y i = s.bit y i := by
  simp only [State.bit, State.rd_wr_other s n h]

@[simp] theorem bit_with_sys (u : State) (y : SysS) (x i : Nat) : ({ u with sys := y } : State).bit x i = u.bit x i := rfl

/-- Settles O47: the states of the supplies, clocks and inputs choose the branch that is written. -/
theorem powerEventsComplete : Obligations.PowerEventsComplete := by
  unfold Obligations.PowerEventsComplete
  intro c k n t bank
  refine ⟨?_, ?_, ?_, ?_, ?_, ?_, ?_, ?_, ?_, ?_, ?_, ?_, ?_, ?_, ?_, ?_, ?_, ?_⟩
  · refine does_always (by intros; delta exec; rfl) fun u hstandby => ?_
    simp [hstandby]
  · refine does_always (by intros; delta exec; rfl) fun u ⟨hstandby, huv⟩ => ?_
    simp [hstandby, huv]
  · refine does_always (by intros; delta exec; rfl) fun u ⟨hstandby, huv, hon, hdown, huvTick⟩ => ?_
    simp [hstandby, huv, hon, hdown, huvTick]
  · refine does_always (by intros; delta exec; rfl) fun u ⟨hstandby, huv, hlong⟩ => ?_
    rcases hlong with hoff | hlong
    · simp [hstandby, huv, hoff]
    · simp [hstandby, huv, Nat.not_lt.2 hlong]
  · refine does_always (by intros; delta exec; rfl) fun u ⟨hstandby, hstat⟩ => ?_
    simp [hstandby, hstat]
  · refine does_always (by intros; delta exec; rfl) fun u ⟨hready, huv, hend⟩ => ?_
    rcases hend with hbank | hend
    · simp [hready, huv, hbank]
    · have hsince : u.msSince u.sys.uvTick 10 = true := msSince_iff.2 hend
      simp [hready, huv, hsince]
  · intro d
    refine does_always (by intros; delta exec; rfl) fun u ⟨hdown, hend⟩ => ?_
    rcases hend with ⟨hk, hend⟩ | hend
    · simp [hdown, hk, hend]
    · have hsince : u.msSince d.tw 40 = true := msSince_iff.2 hend
      simp [hdown, hsince]
  · intro x
    refine does_always (by intros; delta exec; rfl) fun u ⟨hstandby, hon, htsSince, hend⟩ => ?_
    have hsince : u.msSince x 1 = true := msSince_iff.2 hend
    simp [hstandby, hon, htsSince, hsince]
  · refine does_always (by intros; delta exec; rfl) fun u ⟨hstandby, htempTick, hval, hval', hstat⟩ => ?_
    simp [hstandby, Nat.not_lt.2 htempTick, hval, hval', show 850 ≤ sx 16 t.toNat by omega,
      State.bit_wr_other (show R.PWR_STAT ≠ R.PWR_TEMP by decide), hstat]
  · refine does_always (by intros; delta exec; rfl) fun u ⟨hstandby, htempTick, hval⟩ => ?_
    simp [hstandby, Nat.not_lt.2 htempTick, Int.not_le.2 hval, show ¬ 900 < sx 16 t.toNat by omega,
      show sx 16 t.toNat < 880 by omega, show sx 16 t.toNat ≤ 1000 by omega]
  · intro x
    refine does_always (by intros; delta exec; rfl) fun u ⟨hready, hhotTick, hend⟩ => ?_
    have hsince : u.secSince x 1 = true := secSince_iff.2 hend
    simp [hready, hhotTick, hsince]
  · refine does_always (by intros; delta exec; rfl) fun u ⟨hstandby, hrstin⟩ => ?_
    simp [hstandby, hrstin]
  · refine does_always (by intros; delta exec; rfl) fun u ⟨hstandby, hrstin, hon⟩ => ?_
    simp [hstandby, hrstin, hon]
  · refine does_always (by intros; delta exec; rfl) fun u ⟨hrstin, hrstinSecs⟩ => ?_
    simp [hrstin, Nat.not_le.2 hrstinSecs]
  · refine does_always (by intros; delta exec; rfl) fun u hon => ?_
    simp only [hon, reduceIte, Bool.not_true, Bool.false_eq_true]
    rfl
  · intro x l
    refine does_always (by intros; delta exec; rfl) fun u ⟨hclocks, hclockHeld, hend⟩ => ?_
    have hsince : u.msSince x 100 = true := msSince_iff.2 hend
    simp [hclocks, hclockHeld, hsince]
  · refine does_always (by intros; delta exec; rfl) fun u ⟨hstandby, huv, hon⟩ => ?_
    simp [hstandby, huv, hon]
  · intro fs ts vin bk shown
    refine does_guarded_always (by intros; delta exec; rfl) fun u ⟨hstandby, hsupTick, hbankDone⟩ => ?_
    simp [hstandby, Nat.not_lt.2 hsupTick, hbankDone]

end Sys2Proof.Machine

namespace Sys2Proof.Machine

section Completion
variable {c : Nat → Instr} {h : State → Prop} {f : State → State} {who : Init} {k : Nat} {v : Word}
  {g : State → State}

/-- A SYSCMD that is let in, with the key and the command's own code, from a voted partition. -/
theorem does_sys (hexec : ∀ dt s, exec (c dt) s = onMain dt s fun u => u.sysCmd who k v g)
    (hg : ∀ u, h u → KeyWrites who 0x001 0xC00 0x5A5E v u ∧ nf v.toNat 1 0 = k ∧
      u.voted (u.partNo who) = true ∧ g u.ack = f u) : Does c h f :=
  does_keyed (hexec := hexec) fun u hu => by
    obtain ⟨hw, hcode, hvoted, heff⟩ := hg u hu
    exact ⟨hw.1, hw.2, by simp [hcode, hvoted, heff]⟩

/-- A SYSCMD from a partition whose lanes do not vote. -/
theorem does_sys_unvoted (hexec : ∀ dt s, exec (c dt) s = onMain dt s fun u => u.sysCmd who k v g)
    (hcode : nf v.toNat 1 0 = k)
    (hh : ∀ u, h u → KeyWrites who 0x001 0xC00 0x5A5E v u ∧ u.voted (u.partNo who) = false) :
    Does c h fun u => u.ack.err 0x001 (u.partNo who) eBadValue R.SYS_SYSCMD :=
  does_keyed (hexec := hexec) fun u hu => by
    obtain ⟨hw, hvoted⟩ := hh u hu
    exact ⟨hw.1, hw.2, by simp [hcode, hvoted]⟩

end Completion

/-- Index `i` is the last: every other is revoked. -/
theorem lastIndex_iff (u : State) (i : Nat) :
    (List.range 4).all (fun j => j == i || u.bit R.SYS_FUSESTAT (4 + j)) = true ↔
      ∀ j < 4, j ≠ i → u.bit R.SYS_FUSESTAT (4 + j) = true := by
  simp [List.all_eq_true, Decidable.or_iff_not_imp_left]

/-- Settles O48: the state of the start and of the fuses chooses the branch that is written. -/
theorem startCommandsComplete : Obligations.StartCommandsComplete := by
  unfold Obligations.StartCommandsComplete
  intro who v b cap h
  refine ⟨?_, ?_, ?_, ?_, ?_, ?_, ?_, ?_, ?_, ?_, ?_⟩
  · refine does_guarded_always (by intros; delta exec; rfl) fun u ⟨hcanStart, hstage⟩ => ?_
    simp [hcanStart, hstage]
  · refine does_guarded_always (by intros; delta exec; rfl) fun u ⟨hcanStart, hstage⟩ => ?_
    simp [hcanStart, hstage]
  · refine does_guarded_always (by intros; delta exec; rfl) fun u ⟨hcanStart, hon, hstage⟩ => ?_
    simp [hcanStart, hon, hstage]
  · refine does_always (by intros; delta exec; rfl) fun u ⟨hstandby, hbankDone, hval⟩ => ?_
    simp [hstandby, hbankDone, Nat.not_lt.2 hval]
  · refine does_always (by intros; delta exec; rfl) fun u ⟨hstandby, hbankDone, hval⟩ => ?_
    simp [hstandby, hbankDone, hval]
  · refine does_always (by intros; delta exec; rfl) fun u ⟨hon, hbankDone, hstat, hthrTick⟩ => ?_
    have hsince : u.msSince u.sys.thrTick 2100 = true := msSince_iff.2 hthrTick
    simp [hon, hbankDone, hstat, hsince]
  · exact does_sys (fun _ _ => rfl) fun u ⟨hw, hcode, hvoted⟩ => ⟨hw, hcode, hvoted, rfl⟩
  · exact does_sys (fun _ _ => rfl) fun u ⟨hw, hcode, hvoted⟩ => ⟨hw, hcode, hvoted, rfl⟩
  · rintro c (⟨rfl, hcode⟩ | ⟨rfl, hcode⟩)
    · exact does_sys_unvoted (fun _ _ => rfl) hcode fun _ h => h
    · exact does_sys_unvoted (fun _ _ => rfl) hcode fun _ h => h
  · refine does_keyed (fun _ _ => rfl) fun u ⟨hw, hrevoke, hvoted, ⟨j, hj, hother, hvalid⟩, hunused⟩ => ⟨hw.1, hw.2, ?_⟩
    have hspare : (List.range 4).all (fun j => j == nf v.toNat 1 0 || u.bit R.SYS_FUSESTAT (4 + j)) = false :=
      Bool.eq_false_iff.2 fun hlast => absurd ((lastIndex_iff u _).1 hlast j hj hother) (by simp [hvalid])
    simp only [ack_slotNum] at hunused
    simp [hrevoke, hvoted, -List.all_eq_true, -List.all_eq_false, hspare, hunused]
  · refine does_keyed (fun _ _ => rfl) fun u ⟨hw, hrevoke, hrefused⟩ => ⟨hw.1, hw.2, ?_⟩
    rw [← lastIndex_iff] at hrefused
    rcases hrefused with hvoted | hlast | hused
    · simp [hrevoke, hvoted]
    · simp [hrevoke, -List.all_eq_true, hlast]
    · simp only [ack_slotNum] at hused
      simp [hrevoke, hused]


end Sys2Proof.Machine

namespace Sys2Proof.Machine

/-! ### A lane's access to the bus (R19, R30, R32) -/

section Regions
variable {a n : Nat}

theorem regionOf_regs (hlo : 0x40000000 ≤ a) (hhi : a + n ≤ 0x40200000) : regionOf a n = (.regs, a - 0x40000000) := by
  unfold regionOf
  rw [if_neg (by omega), if_pos ⟨hlo, hhi⟩]

theorem regionOf_dram (hlo : 0x800000000 ≤ a) (hhi : a + n ≤ 0x900000000) :
    regionOf a n = (.dram, a - 0x800000000) := by
  simp only [regionOf, dramBase]
  rw [if_neg (by omega), if_neg (by omega), if_neg (by omega), if_neg (by omega), if_neg (by omega), if_neg (by omega),
    if_neg (by omega), if_pos (by omega)]

theorem regionOf_reserved (hlo : 0x70000000 ≤ a) (hhi : a + n ≤ 0x800000000) (hn : 0 < n) :
    regionOf a n = (.reserved, a) := by
  simp only [regionOf, dramBase]
  rw [if_neg (by omega), if_neg (by omega), if_neg (by omega), if_neg (by omega), if_neg (by omega), if_neg (by omega),
    if_neg (by omega), if_neg (by omega)]

end Regions

section Lane
variable {u : State} {t : Fin 4} {b : Bool} {a n : Nat} {op : BusOp} {ecc : BitVec 16} {ext : BitVec 48}

/-- A lane of a split triad votes with no other: what is no atomic goes to the bus. -/
theorem busAccess_lane (vote : TriVote) (hop : atomic op = false) :
    u.busAccess (.lane t b) a n op ecc vote ext = u.busIssue (.lane t b) a n op ecc ext := by
  simp [State.busAccess, State.voteBy, hop]

theorem does_laneAccess {h : State → Prop} {f : State → State} {a : BitVec 40} {w : Fin 4} {vote : TriVote}
    (hop : atomic op = false)
    (hg : ∀ u, h u → Ready u ∧ u.live (.lane t b) = true ∧
      u.busIssue (.lane t b) a.toNat (2 ^ w.val) op ecc ext = f u) :
    Does (fun dt => .laneMemoryAccess dt (.lane t b) a w op ecc vote ext) h f :=
  does_main (by intros; delta exec; rfl) (g := fun u =>
      if u.live (.lane t b) then u.busAccess (.lane t b) a.toNat (2 ^ w.val) op ecc vote ext else u)
    fun u hu => by
    obtain ⟨hready, hlive, heff⟩ := hg u hu
    exact ⟨hready, by rw [if_pos hlive, busAccess_lane vote hop, heff]⟩

/-- A DRAM load that a window allows: the words it touches meet their check bits, then poison or the number there answers. -/
theorem dramAccess_load {o : Nat} {x : Nat} (hwin : u.dramWindow (.lane t b) o n .read = some x) :
    u.dramAccess (.lane t b) a o n .load ecc =
      let m := (u.upset2 o ecc).dramRead o n (u.partNo (.lane t b)) 1 (2 * t.val + b2n b) 0x0102 0
      match m.firstPoison o n with
      | some y => m.poisonHit (.lane t b) (u.partNo (.lane t b)) x y false
      | none => { m with resp := .data (m.dramNum o n) } := by
  simp only [State.dramAccess, wants, hwin, stores, sourceOf, State.memOp, Bool.false_and, Bool.and_false,
    Bool.false_eq_true, Bool.false_or, reduceCtorEq, decide_false, reduceIte] <;> rfl

/-- A whole aligned double word that a window lets be stored reads nothing; the lane's own reservation stays. -/
theorem dramAccess_store {o x : Nat} (v : BitVec 64) (hwin : u.dramWindow (.lane t b) o 8 .write = some x)
    (halign : o % 8 = 0) :
    u.dramAccess (.lane t b) a o 8 (.store v) ecc =
      let p := u.dramPut o (bytesOf 8 v.toNat)
      ({ (match tabFind u.mem.resv (initCode (.lane t b)) with
        | some r => { p with mem := { p.mem with resv := tabIns p.mem.resv (initCode (.lane t b)) r } }
        | none => p) with resp := .done } : State).upset2 o ecc := by
  have hv : v.toNat % 2 ^ (8 * 8) = v.toNat := Nat.mod_eq_of_lt v.isLt
  simp only [State.dramAccess, wants, hwin, stores, halign, State.memOp, hv, beq_self_eq_true, Bool.and_self,
    Bool.true_or, reduceIte] <;> rfl

theorem regAccess_load {x : Nat} (who : Init) (halign : x % 4096 % 4 = 0) :
    u.regAccess who x 4 .load ext = u.regLoad who (x / 4096) (x % 4096) := by
  have hok : ((4 : Nat) != 4 || x % 4096 % 4 != 0) = false := by rw [halign]; rfl
  exact if_neg (Bool.eq_false_iff.1 hok)

theorem regAccess_store {x : Nat} (who : Init) (v : BitVec 64) (halign : x % 4096 % 4 = 0) :
    u.regAccess who x 4 (.store v) ext = u.regStore who (x / 4096) (x % 4096) (v.setWidth 32) ext := by
  have hok : ((4 : Nat) != 4 || x % 4096 % 4 != 0) = false := by rw [halign]; rfl
  exact if_neg (Bool.eq_false_iff.1 hok)

end Lane

/-- Settles O30: the address names the region, and a lane's access there is the region's own. -/
theorem laneAccessesComplete : Obligations.LaneAccessesComplete := by
  unfold Obligations.LaneAccessesComplete
  intro t b a w v ecc vote ext
  refine ⟨?_, ?_, ?_, ?_⟩
  · intro x
    refine does_laneAccess rfl fun u ⟨hready, hlive, hlo, hhi, hread⟩ => ⟨hready, hlive, ?_⟩
    rw [State.busIssue, regionOf_dram hlo hhi]
    exact dramAccess_load hread
  · intro x
    refine does_laneAccess rfl fun u ⟨hready, hlive, hlo, hhi, halign, hwrite⟩ => ⟨hready, hlive, ?_⟩
    have hsize : 2 ^ (3 : Fin 4).val = 8 := rfl
    rw [State.busIssue, hsize, regionOf_dram hlo hhi]
    exact dramAccess_store v hwrite (by omega)
  · intro p o ha
    have hsize : 2 ^ (2 : Fin 4).val = 4 := rfl
    have hregion : regionOf a.toNat 4 = (.regs, a.toNat - 0x40000000) := regionOf_regs (by omega) (by omega)
    have hpage : (a.toNat - 0x40000000) / 4096 = p.val := by omega
    have hofs : (a.toNat - 0x40000000) % 4096 = 4 * o.val := by omega
    constructor
    · refine does_laneAccess rfl fun u ⟨hready, hlive⟩ => ⟨hready, hlive, ?_⟩
      rw [State.busIssue, hsize, hregion]
      exact (regAccess_load _ (by omega)).trans (by rw [hpage, hofs])
    · refine does_laneAccess rfl fun u ⟨hready, hlive⟩ => ⟨hready, hlive, ?_⟩
      rw [State.busIssue, hsize, hregion]
      exact (regAccess_store _ v (by omega)).trans (by rw [hpage, hofs])
  · intro hlo hhi
    have hsize : 2 ^ w.val ≤ 8 := Nat.pow_le_pow_right (n := 2) (by decide) (Nat.le_of_lt_succ w.isLt)
    have hregion : regionOf a.toNat (2 ^ w.val) = (.reserved, a.toNat) :=
      regionOf_reserved hlo (by omega) (Nat.two_pow_pos _)
    constructor
    · refine does_laneAccess rfl fun u ⟨hready, hlive⟩ => ⟨hready, hlive, ?_⟩
      simp [State.busIssue, hregion]
    · refine does_laneAccess rfl fun u ⟨hready, hlive⟩ => ⟨hready, hlive, ?_⟩
      simp [State.busIssue, hregion]

end Sys2Proof.Machine

namespace Sys2Proof.Machine

/-- A write of a command register that is let in, with the key and the command's own code. -/
theorem does_coded {c : Nat → Instr} {h : State → Prop} {f : State → State} {who : Init} {p o key k : Nat} {v : Word}
    {g : Nat → State → State}
    (hexec : ∀ dt s, exec (c dt) s = onMain dt s fun u => u.cmdW who p o fun n t => t.keyed p o n key v fun t =>
      if nf v.toNat 2 0 = k then g n t else t)
    (hg : ∀ u, h u → KeyWrites who p o key v u ∧ nf v.toNat 2 0 = k ∧ g (u.partNo who) u.ack = f u) : Does c h f :=
  does_keyed (hexec := hexec) fun u hu => by
    obtain ⟨hw, hcode, heff⟩ := hg u hu
    exact ⟨hw.1, hw.2, by rw [if_pos hcode, heff]⟩

/-! ### Update sessions (R575 to R583) -/

/-- The next block of a transfer is no repeat of the last. -/
theorem next_block_ne (n : Nat) : (n + 1) % 65536 ≠ n % 65536 := by omega

/-- Settles O44: the state of the session chooses the branch that is written. -/
theorem updateSessionsComplete : Obligations.UpdateSessionsComplete := by
  unfold Obligations.UpdateSessionsComplete
  intro who v peer mac blk block data token ip sender
  refine ⟨?_, ?_, ?_, ?_, ?_, ?_, ?_, ?_, ?_, ?_, ?_, ?_, ?_, ?_, ?_, ?_, ?_, ?_, ?_, ?_, ?_, ?_, ?_, ?_, ?_⟩
  · refine does_coded (fun _ _ => rfl) fun u ⟨hw, hcode, hopenBusy⟩ => ⟨hw, hcode, ?_⟩
    simp [hopenBusy]
  · refine does_coded (fun _ _ => rfl) fun u ⟨hw, hcode, hopenBusy⟩ => ⟨hw, hcode, ?_⟩
    simp [hopenBusy, State.busyGiven, State.updErr]
  · refine does_coded (fun _ _ => rfl)
      fun u ⟨hw, hcode, hsession, hchunk, hmin, hmax, hwindow, hroom⟩ => ⟨hw, hcode, ?_⟩
    simp only [ack_updWindow] at hwindow
    simp [hsession, hchunk, within, hmin, hmax, hwindow, Nat.not_lt.2 hroom]
  · refine does_coded (fun _ _ => rfl) fun u ⟨hw, hcode, hsession⟩ => ⟨hw, hcode, ?_⟩
    simp [hsession, State.updErr]
  · intro a len t b
    refine does_main (by intros; delta exec; rfl) fun u ⟨hready, hchunk, hdmaRead⟩ => ⟨hready, ?_⟩
    simp [hchunk, hdmaRead]
  · refine does_coded (fun _ _ => rfl) fun u ⟨hw, hcode, hsession, hchunk, hrxbytes⟩ => ⟨hw, hcode, ?_⟩
    simp [hsession, hchunk, hrxbytes, State.sessEnd]
  · refine does_coded (fun _ _ => rfl) fun u ⟨hw, hcode, hsession, hchunk, hrxbytes⟩ => ⟨hw, hcode, ?_⟩
    simp [hsession, hchunk, hrxbytes, State.sessEnd]
  · refine does_coded (fun _ _ => rfl) fun u ⟨hw, hcode, hsession⟩ => ⟨hw, hcode, ?_⟩
    simp [hsession]
  · refine does_coded (fun _ _ => rfl) fun u ⟨hw, hcode, hsession⟩ => ⟨hw, hcode, ?_⟩
    simp [hsession, State.updErr]
  · intro t b
    refine does_coded (fun _ _ => rfl) fun u ⟨hw, hcode, hwindow, hread, habortable, htoken⟩ => ⟨hw, hcode, ?_⟩
    simp only [ack_updWindow] at hwindow
    simp [hwindow, hread, habortable, htoken]
  · simp only [List.forall_mem_cons, List.not_mem_nil, false_imp_iff, implies_true, and_true]
    exact ⟨does_badKey (fun _ _ => rfl)
        fun _ h => h, does_badKey (fun _ _ => rfl) fun _ h => h,
        does_badKey (fun _ _ => rfl) fun _ h => h, does_badKey (fun _ _ => rfl) fun _ h => h,
      does_badKey (fun _ _ => rfl) fun _ h => h⟩
  · refine does_main (by intros; delta exec; rfl) fun u ⟨hready, hsession, hsessTick⟩ => ⟨hready, ?_⟩
    have hsince : u.secSince u.upd.sessTick 60 = true := secSince_iff.2 hsessTick
    simp [hsession, hsince]
  · refine does_main (by intros; delta exec; rfl) fun u ⟨hready, hstageUpd, hslotStaging, hstage⟩ => ⟨hready, ?_⟩
    simp [hstageUpd, hslotStaging, hstage]
  · refine does_main (by intros; delta exec; rfl) fun u ⟨hready, hstageUpd, hslotStaging⟩ => ⟨hready, ?_⟩
    simp [hstageUpd, hslotStaging]
  · refine does_main (by intros; delta exec; rfl) fun u ⟨hready, hstageUpd⟩ => ⟨hready, ?_⟩
    simp [hstageUpd]
  · refine does_main (by intros; delta exec; rfl) fun u ⟨hready, hsvcOn, hopenBusy⟩ => ⟨hready, ?_⟩
    simp [hsvcOn, hopenBusy]
  · refine does_main (by intros; delta exec; rfl) fun u ⟨hready, hsvcOn, hopenBusy⟩ => ⟨hready, ?_⟩
    simp [hsvcOn, hopenBusy]
  · refine does_main (by intros; delta exec; rfl) fun u ⟨hready, hsvcOn, hopenBusy⟩ => ⟨hready, ?_⟩
    simp [hsvcOn, hopenBusy]
    rfl
  · intro t
    refine does_guarded_main (by intros; delta exec; rfl)
        fun u ⟨hready, htftp, hpeer, hnew, hnext, hwhole, hroom⟩ => ⟨hready, ?_⟩
    rw [hwhole] at hroom
    simp [htftp, hpeer, hnext, next_block_ne, hwhole, Nat.not_lt.2 hroom]
  · intro t
    refine does_guarded_main (by intros; delta exec; rfl) fun u ⟨hready, htftp, hpeer, hval⟩ => ⟨hready, ?_⟩
    simp [htftp, hpeer, hval]
  · refine does_main (by intros; delta exec; rfl) fun u ⟨hready, hsvcOn, habortable, htokenGood⟩ => ⟨hready, ?_⟩
    simp [hsvcOn, habortable, htokenGood]
  · refine does_main (by intros; delta exec; rfl) fun u ⟨hready, hsvcOn, hrefused⟩ => ⟨hready, ?_⟩
    rcases hrefused with hno | hno <;> simp [hsvcOn, hno]
  · refine does_main (by intros; delta exec; rfl) fun u ⟨hready, hsvcOn⟩ => ⟨hready, ?_⟩
    simp [hsvcOn]
  · intro t
    refine does_main (by intros; delta exec; rfl) fun u ⟨hready, htftp, hpeer, hsession⟩ => ⟨hready, ?_⟩
    simp [htftp, hpeer, hsession]
  · refine does_main (by intros; delta exec; rfl) fun u ⟨hready, hsvcOn, hval⟩ => ⟨hready, ?_⟩
    simp [hsvcOn, hval]

end Sys2Proof.Machine

namespace Sys2Proof.Machine

/-! ### Activation (R584 to R590) -/

section Completion
variable {c : Nat → Instr} {h : State → Prop} {f : State → State} {who : Init} {k : Nat} {v : Word}
  {g : Nat → State → State}

/-- A command that a VERIFIED slot, out of probation and with no activation in progress, lets happen. -/
theorem does_actOpen (hexec : ∀ dt s, exec (c dt) s = onMain dt s fun u => u.actCmd who k v fun n t => t.actOpen n (g n))
    (hg : ∀ u, h u → KeyWrites who 0x0CD 0xC00 0x0D7B v u ∧ nf v.toNat 2 0 = k ∧
      u.stageUpd = stVerified ∧ u.probation = false ∧ u.actStat ≠ acProgress ∧ g (u.partNo who) u.ack = f u) : Does c h f :=
  does_coded (hexec := hexec) fun u hu => by
    obtain ⟨hw, hcode, hverified, hprobation, hidle, heff⟩ := hg u hu
    exact ⟨hw, hcode, by simp [State.actOpen, hverified, hprobation, hidle, heff]⟩

theorem does_actOpen_unverified (hexec : ∀ dt s, exec (c dt) s = onMain dt s fun u => u.actCmd who k v fun n t =>
    t.actOpen n (g n))
    (hcode : nf v.toNat 2 0 = k)
    (hh : ∀ u, h u → KeyWrites who 0x0CD 0xC00 0x0D7B v u ∧ u.stageUpd ≠ stVerified) : Does c h fun u =>
        u.ack.err 0x0CD (u.partNo who) 0x0103 R.UPD_ACTCMD :=
  does_coded (hexec := hexec) fun u hu => by
    obtain ⟨hw, hstage⟩ := hh u hu
    exact ⟨hw, hcode, by simp [State.actOpen, State.actErr, hstage]⟩

end Completion

theorem State.fld_putFld_other {s : State} {x y : Nat} (h : y ≠ x) (hi lo hi' lo' v : Nat) :
    (s.putFld x hi' lo' v).fld y hi lo = s.fld y hi lo := by
  simp only [State.fld, State.putFld, State.rd_wr_other s _ h]

theorem owner_activation (u : State) : u.owner 0x0CD = lowestBit 8 (u.fld (R.TEN_OWN 0x33) 7 0) := rfl

@[simp] theorem setAct_owner (u : State) (a : Nat) : (u.setAct a).owner 0x0CD = u.owner 0x0CD := by
  simp only [owner_activation, State.setAct]
  split
  · rfl
  · rw [State.raise, State.fld_putBit_other (by decide), State.fld_putFld_other (by decide)]

/-- A schedule is due from its time to the end of its window, with time lock. -/
theorem actDue_of {u : State} {t w : Nat} (hsched : u.upd.sched = some (t, w))
    (hstat : u.actStat = acScheduled ∨ u.actStat = acPostponed) (hfrom : t ≤ u.moduleTime)
    (hto : u.moduleTime ≤ t + 4000000000 * w) (hlock : u.timeLocked = true) : u.actDue = true := by
  simp [State.actDue, hsched, hstat, hfrom, hto, hlock]

theorem actDue_idle {u : State} (hsched : u.actStat ≠ acScheduled) (hpost : u.actStat ≠ acPostponed) :
    u.actDue = false := by
  unfold State.actDue
  split
  · simp [hsched, hpost]
  · rfl

/-- Settles O45: the slot, its schedule and probation choose the branch that is written. -/
theorem activationCommandsComplete : Obligations.ActivationCommandsComplete := by
  unfold Obligations.ActivationCommandsComplete
  intro who v
  refine ⟨?_, ?_, ?_, ?_, ?_, ?_, ?_, ?_, ?_, ?_, ?_, ?_, ?_, ?_⟩
  · refine does_actOpen (fun _ _ => rfl) fun u ⟨hw, hcode, hverified, hprobation, hidle, hmin, hmax, hend⟩ =>
      ⟨hw, hcode, hverified, hprobation, hidle, ?_⟩
    simp [within, hmin, hmax, Nat.not_lt.2 hend]
  · refine does_actOpen (fun _ _ => rfl) fun u ⟨hw, hcode, hverified, hprobation, hidle, hlate⟩ =>
      ⟨hw, hcode, hverified, hprobation, hidle, ?_⟩
    simp [hlate, State.actErr]
  · exact does_actOpen (fun _ _ => rfl)
      fun u ⟨hw, hcode, hverified, hprobation, hidle⟩ => ⟨hw, hcode, hverified, hprobation, hidle, rfl⟩
  · rintro c (⟨rfl, hcode⟩ | ⟨rfl, hcode⟩)
    · exact does_actOpen_unverified (fun _ _ => rfl) hcode fun _ h => h
    · exact does_actOpen_unverified (fun _ _ => rfl) hcode fun _ h => h
  · refine does_coded (fun _ _ => rfl) fun u ⟨hw, hcode, hactDue, hactStat⟩ => ⟨hw, hcode, ?_⟩
    simp [hactDue, hactStat]
  · refine does_coded (fun _ _ => rfl) fun u ⟨hw, hcode, hsched, hpost⟩ => ⟨hw, hcode, ?_⟩
    simp [actDue_idle hsched hpost, hsched, hpost, State.actErr]
  · refine does_coded (fun _ _ => rfl) fun u ⟨hw, hcode, hactDue⟩ => ⟨hw, hcode, ?_⟩
    simp [hactDue]
  · refine does_coded (fun _ _ => rfl) fun u ⟨hw, hcode, hprobation⟩ => ⟨hw, hcode, ?_⟩
    simp [hprobation]
  · refine does_coded (fun _ _ => rfl) fun u ⟨hw, hcode, hprobation⟩ => ⟨hw, hcode, ?_⟩
    simp [hprobation, State.actErr]
  · exact does_badKey (fun _ _ => rfl) fun _ h => h
  · intro t w
    refine does_main (by intros; delta exec; rfl) fun u ⟨hready, hsched, hstat, hfrom, hto, hlock⟩ => ⟨hready, ?_⟩
    simp [actDue_of hsched hstat hfrom hto hlock]
  · intro t w
    refine does_main (by intros; delta exec; rfl) fun u ⟨hready, hsched, hactStat, hval, htimeLocked⟩ => ⟨hready, ?_⟩
    simp [hsched, hactStat, hval, htimeLocked]
  · intro t w
    refine does_main (by intros; delta exec; rfl) fun u ⟨hready, hsched, hactStat, hval⟩ => ⟨hready, ?_⟩
    simp [hsched, hactStat, hval]
  · intro ta
    refine does_main (by intros; delta exec; rfl) fun u ⟨hready, hactTick, hend⟩ => ⟨hready, ?_⟩
    rcases hend with hstopped | hend
    · have hall : (List.range 6).all (fun n => !u.cyRuns n) = true := by simpa using hstopped
      simp [hactTick, -List.all_eq_true, hall]
    · have hsince : u.secSince ta 1 = true := secSince_iff.2 hend
      simp [hactTick, hsince]

end Sys2Proof.Machine

namespace Sys2Proof.Machine

/-! ### The recorder (R302 to R311) -/

section Judge
variable {u : State} {e : DrcTrig} {f : Nat}

@[simp] theorem drcState_with_drc (y : DrcS) : ({ u with drc := y } : State).drcState = u.drcState := rfl

theorem drcJudge_blocked (hblocked : u.drcState = drcBlocked) : u.drcJudge e = u.drcLost false := by
  unfold State.drcJudge
  split
  · rfl
  · rw [hblocked, if_neg (by decide), if_neg (by decide)]

theorem drcJudge_armed (hframe : e.tick.frame = some f) (harmed : u.drcState = drcArmed) :
    u.drcJudge e =
      if (u.drcOpen e f).heldSlots.length = u.heldSlots.length then u.drcOpen e f else (u.drcOpen e f).markTrig f := by
  simp [State.drcJudge, hframe, harmed]

theorem drcJudge_post (hframe : e.tick.frame = some f) (hpost : u.drcState = drcPost) :
    u.drcJudge e = if e.tick.cfg.retrig then (u.drcExtend e f).markTrig f else u.incSat R.DRC_RTIGN := by
  simp [State.drcJudge, hframe, hpost]

end Judge

section Export
variable {c : Nat → Instr} {h : State → Prop} {who : Init} {v : Word} {kind : Nat} {a : DrcArc} {data : List Nat}
  {file : State → DrcArc → List Nat}

/-- Exporting a record that the archive holds starts where its file fits and may be written. -/
theorem does_export (hexec : ∀ dt s, exec (c dt) s = onMain dt s fun u => u.expStart who v kind file)
    (hh : ∀ u, h u → KeyWrites who 0x082 0xC00 0x9D2B v u ∧ nf v.toNat 1 0 = kind ∧
      u.bit R.DRC_EXPSTAT 0 = false ∧ tabFind u.drc.arc (u.rd R.DRC_ASEL) = some a ∧ file u.ack a = data ∧
      u.ack.expTarget u.drcOwner (u.rd64 R.DRC_EXPDST) data.length = true ∧ data.length ≤ u.rd R.DRC_EXPMAX) :
    Does c h fun u => { u.ack with drc := { u.drc with
      exp := some { num := a.d.num, dst := u.rd64 R.DRC_EXPDST, data := data } } }.wr R.DRC_EXPSTAT 1 :=
  does_keyed (hexec := hexec) fun u hu => by
    obtain ⟨hw, hkind, hidle, harc, hfile, htarget, hfits⟩ := hh u hu
    refine ⟨hw.1, hw.2, ?_⟩
    simp only [ack_expTarget] at htarget
    simp [hkind, hidle, harc, hfile, htarget, Nat.not_lt.2 hfits]

/-- Exporting a record that the archive does not hold is refused. -/
theorem does_export_absent (hexec : ∀ dt s, exec (c dt) s = onMain dt s fun u => u.expStart who v kind file)
    (hh : ∀ u, h u → KeyWrites who 0x082 0xC00 0x9D2B v u ∧ nf v.toNat 1 0 = kind ∧
      u.bit R.DRC_EXPSTAT 0 = false ∧ tabFind u.drc.arc (u.rd R.DRC_ASEL) = none) :
    Does c h fun u => (u.ack.err 0x082 (u.partNo who) 0x0104 R.DRC_EXPCMD).wr R.DRC_EXPSTAT 4 :=
  does_keyed (hexec := hexec) fun u hu => by
    obtain ⟨hw, hkind, hidle, harc⟩ := hh u hu
    exact ⟨hw.1, hw.2, by simp [hkind, hidle, harc]⟩

end Export

/-- Settles O35: the state of the recorder chooses the branch that is written. -/
theorem recorderCommandsComplete : Obligations.RecorderCommandsComplete := by
  unfold Obligations.RecorderCommandsComplete
  intro who v vote i a
  refine ⟨?_, ?_, ?_, ?_, ?_, ?_, ?_, ?_, ?_, ?_, ?_, ?_, ?_, ?_, ?_, ?_, ?_, ?_, ?_, ?_, ?_, ?_, ?_⟩
  · intro set rest
    refine does_main (by intros; delta exec; rfl) fun u ⟨hready, hwaiting, hengine, hlatch⟩ => ⟨hready, ?_⟩
    simp [hwaiting, hengine, hlatch]
  · refine does_main (by intros; delta exec; rfl) fun u ⟨hready, hidle⟩ => ⟨hready, ?_⟩
    cases hwaiting : u.pre.waiting with
    | nil => rfl
    | cons set rest =>
      have hstopped : u.engine ≠ engRun := by simpa [hwaiting] using hidle
      simp [hstopped]
  · intro e rest
    refine does_main (by intros; delta exec; rfl) fun u ⟨hready, htrig, hnum, hdrcState⟩ => ⟨hready, ?_⟩
    simp only [htrig, hnum, Bool.false_eq_true, reduceIte]
    rw [drcJudge_blocked (by exact hdrcState)]
  · intro e rest f
    refine does_main (by intros; delta exec; rfl)
        fun u ⟨hready, htrig, hnum, hframe, hdrcState, hretrig⟩ => ⟨hready, ?_⟩
    simp only [htrig, hnum, Bool.false_eq_true, reduceIte]
    rw [drcJudge_post hframe (by exact hdrcState)]
    simp [hretrig]
  · intro e rest f
    refine does_main (by intros; delta exec; rfl)
        fun u ⟨hready, htrig, hnum, hframe, hdrcState, hretrig⟩ => ⟨hready, ?_⟩
    simp only [htrig, hnum, Bool.false_eq_true, reduceIte]
    rw [drcJudge_post hframe (by exact hdrcState)]
    simp [hretrig]
  · intro e rest f
    refine does_main (by intros; delta exec; rfl) fun u ⟨hready, htrig, hnum, hframe, hdrcState⟩ => ⟨hready, ?_⟩
    simp only [htrig, hnum, Bool.false_eq_true, reduceIte]
    rw [drcJudge_armed hframe (by exact hdrcState)]
  · refine does_one (fun _ _ => rfl) fun u ⟨hw, hdrcState⟩ => ⟨hw, ?_⟩
    simp [hdrcState]
  · refine does_main (by intros; delta exec; rfl)
      fun u ⟨hready, hctrl, hctrl', hfailed, hcopying, holdestComplete, hsize⟩ => ⟨hready, ?_⟩
    simp [hctrl, hctrl', hfailed, hcopying, holdestComplete, hsize]
  · refine does_main (by intros; delta exec; rfl) fun u ⟨hready, hcopying⟩ => ⟨hready, ?_⟩
    simp [hcopying]
  · refine does_main (by intros; delta exec; rfl) fun u ⟨hready, hcopying⟩ => ⟨hready, ?_⟩
    simp [hcopying]
  · refine does_coded (fun _ _ => rfl) fun u ⟨hw, hcode, hasel⟩ => ⟨hw, hcode, ?_⟩
    simp [State.arcProtect, hasel]
  · refine does_coded (fun _ _ => rfl) fun u ⟨hw, hcode, hasel⟩ => ⟨hw, hcode, ?_⟩
    simp [State.arcProtect, hasel]
  · refine does_coded (fun _ _ => rfl) fun u ⟨hw, hcode, hexp⟩ => ⟨hw, hcode, ?_⟩
    simp [hexp]
  · refine does_coded (fun _ _ => rfl) fun u ⟨hw, hcode, hctrl, hdsel⟩ => ⟨hw, hcode, ?_⟩
    simp [hctrl, hdsel]
  · exact does_coded (fun _ _ => rfl) fun u ⟨hw, hcode⟩ => ⟨hw, hcode, rfl⟩
  · exact does_badKey (fun _ _ => rfl) fun _ h => h
  · intro data
    exact does_export (fun _ _ => rfl) fun _ h => h
  · intro data
    exact does_export (fun _ _ => rfl) fun _ h => h
  · intro data
    exact does_export (fun _ _ => rfl) fun _ h => h
  · exact does_export_absent (fun _ _ => rfl) fun _ h => h
  · intro e
    refine does_main (by intros; delta exec; rfl) fun u ⟨hready, hexp, hdata⟩ => ⟨hready, ?_⟩
    simp [hexp, hdata]
  · intro e
    refine does_main (by intros; delta exec; rfl) fun u ⟨hready, hexp, hdata⟩ => ⟨hready, ?_⟩
    simp [hexp, hdata]
  · refine does_one (fun _ _ => rfl) fun u hw => ⟨hw, ?_⟩
    rfl

end Sys2Proof.Machine

namespace Sys2Proof.Machine

/-- Settles O37: the states of the functions and of the channels choose the branch that is written. -/
theorem safetyAndLoopsComplete : Obligations.SafetyAndLoopsComplete := by
  unfold Obligations.SafetyAndLoopsComplete
  intro who v f i c ok1 ok2 same x vl below
  refine ⟨?_, ?_, ?_, ?_, ?_, ?_, ?_, ?_, ?_, ?_, ?_, ?_, ?_, ?_, ?_, ?_, ?_⟩
  · refine does_main (by intros; delta exec; rfl) fun u ⟨hready, hsfnDue⟩ => ⟨hready, ?_⟩
    simp [hsfnDue]
  · refine does_main (by intros; delta exec; rfl) fun u hready => ⟨hready, ?_⟩
    simp
  · refine does_main (by intros; delta exec; rfl) fun u ⟨hready, hsfnDue, hmoduleTime⟩ => ⟨hready, ?_⟩
    simp [hsfnDue, hmoduleTime]
  · refine does_main (by intros; delta exec; rfl) fun u ⟨hready, hsfnDue, hsfnState, hmoduleTime⟩ => ⟨hready, ?_⟩
    simp [hsfnDue, hsfnState, hmoduleTime]
  · refine does_main (by intros; delta exec; rfl) fun u ⟨hready, hsfnOn⟩ => ⟨hready, ?_⟩
    simp [hsfnOn]
  · refine does_keyed (fun _ _ => rfl) fun u hw => ⟨hw.1, hw.2, ?_⟩
    simp
  · exact does_badKey (fun _ _ => rfl) fun _ h => h
  · intro r
    refine does_guarded_main (by intros; delta exec; rfl) fun u ⟨hready, hloopRun, hdue⟩ => ⟨hready, ?_⟩
    simp only [hloopRun]
    rw [if_neg fun ⟨hdone, hchans⟩ => hdue.elim hchans (Nat.not_lt.2 hdone)]
  · refine does_main (by intros; delta exec; rfl) fun u ⟨hready, hcompl⟩ => ⟨hready, ?_⟩
    simp [hcompl]
  · refine does_main (by intros; delta exec; rfl) fun u ⟨hready, hopn⟩ => ⟨hready, ?_⟩
    simp [hopn]
  · refine does_main (by intros; delta exec; rfl) fun u ⟨hready, hrbh⟩ => ⟨hready, ?_⟩
    simp [hrbh]
  · refine does_main (by intros; delta exec; rfl) fun u ⟨hready, hli⟩ => ⟨hready, ?_⟩
    simp [hli]
  · refine does_main (by intros; delta exec; rfl) fun u ⟨hready, hli, hopenTick⟩ => ⟨hready, ?_⟩
    simp [hli, hopenTick]
  · refine does_main (by intros; delta exec; rfl) fun u ⟨hready, hlostat⟩ => ⟨hready, ?_⟩
    simp [hlostat]
  · refine does_keyed (fun _ _ => rfl) fun u hw => ⟨hw.1, hw.2, ?_⟩
    simp
  · exact does_badKey (fun _ _ => rfl) fun _ h => h
  · refine does_one (fun _ _ => rfl) fun u hw => ⟨hw, ?_⟩
    simp

end Sys2Proof.Machine

namespace Sys2Proof.Machine

/-! ### The CAN controllers (R386 to R411) -/

section Completion
variable {i : Nat → Instr} {h : State → Prop} {f : State → State} {who : Init} {c op : Nat} {v : Word}
  {g : Nat → Nat → State → State}

/-- A TXCMD that is let in, with the key and the command's own operation. -/
theorem does_txcmd (hexec : ∀ dt s, exec (i dt) s = onMain dt s fun u => u.txcmd who c v op g)
    (hop : op ≠ 0)
    (hg : ∀ u, h u → KeyWrites who (canPage c) 0xC04 0xCA7E v u ∧ nf v.toNat 1 0 = op ∧
      g (u.partNo who) (nf v.toNat 12 8) u.ack = f u) : Does i h f :=
  does_keyed (hexec := hexec) fun u hu => by
    obtain ⟨hw, hcode, heff⟩ := hg u hu
    exact ⟨hw.1, hw.2, by simp [hcode, hop, heff]⟩

/-- Operation 0 is no operation, and no TXCMD acts without the key. -/
theorem does_txcmd_refused (hexec : ∀ dt s, exec (i dt) s = onMain dt s fun u => u.txcmd who c v op g) :
    Does i (fun u => KeyWrites who (canPage c) 0xC04 0xCA7E v u ∧ nf v.toNat 1 0 = 0)
      (fun u => u.ack.err (canPage c) (u.partNo who) eBadValue (R.CAN_TXCMD c)) ∧
    Does i (fun u => Writes who (canPage c) 0xC04 u ∧ nf v.toNat 31 16 ≠ 0xCA7E)
      (fun u => u.ack.err (canPage c) (u.partNo who) eBadKey (reg (canPage c) 0xC04)) := by
  refine ⟨does_keyed (hexec := hexec) fun u ⟨hw, hzero⟩ => ⟨hw.1, hw.2, ?_⟩, does_badKey (hexec := hexec) fun _ h => h⟩
  simp [hzero]

end Completion

theorem canState_wr_lasterr (u : State) (c n : Nat) : (u.wr (R.CAN_LASTERR c) n).canState c = u.canState c := by
  simp only [State.canState, State.fld, State.rd_wr_other u n (show R.CAN_STAT c ≠ R.CAN_LASTERR c by
    simp only [R.CAN_STAT, R.CAN_LASTERR]; omega)]

theorem canOpen_wr_lasterr (u : State) (c n : Nat) : (u.wr (R.CAN_LASTERR c) n).canOpen c = u.canOpen c := by
  simp only [State.canOpen, canState_wr_lasterr]

/-- Settles O38: the controller's state and the object sending choose the branch that is written. -/
theorem canCommandsComplete : Obligations.CanCommandsComplete := by
  unfold Obligations.CanCommandsComplete
  intro who c k v f ago lec dp tec rec_ ph w
  refine ⟨?_, ?_, ?_, ?_, ?_, ?_, ?_, ?_, ?_, ?_, ?_, ?_, ?_, ?_, ?_, ?_, ?_, ?_, ?_, ?_, ?_, ?_, ?_, ?_, ?_, ?_, ?_, ?_, ?_⟩
  · refine does_main (by intros; delta exec; rfl) fun u ⟨hready, hcanState⟩ => ⟨hready, ?_⟩
    simp [hcanState]
  · refine does_guarded_main (by intros; delta exec; rfl) fun u ⟨hready, hcanHears, hfdf, hrtr⟩ => ⟨hready, ?_⟩
    have hformat : (f.fdf && !u.bit (R.CAN_CTRL c.val) 2) = false := by
      cases hf : f.fdf with
      | false => rfl
      | true => simp [hfdf hf]
    simp only [hcanHears, hformat, hrtr, Bool.true_or, Bool.not_true, Bool.false_eq_true, reduceIte]
  · refine does_guarded_main (by intros; delta exec; rfl) fun u ⟨hready, hcanHears, hfdf, hrtr⟩ => ⟨hready, ?_⟩
    simp [hcanHears, hfdf, hrtr]
  · refine does_guarded_main (by intros; delta exec; rfl)
      fun u ⟨hready, hcanHears, hcanOpen, hfdf, hctrl⟩ => ⟨hready, ?_⟩
    simp [hcanHears, hfdf, hctrl, canOpen_wr_lasterr, hcanOpen]
  · refine does_main (by intros; delta exec; rfl) fun u ⟨hready, hcanOpen, hcanState, hlasterr⟩ => ⟨hready, ?_⟩
    simp [State.canErr, State.canHears, hcanState, hlasterr]
  · refine does_main (by intros; delta exec; rfl) fun u ⟨hready, hcanOpen, hstate, hbusy⟩ => ⟨hready, ?_⟩
    simp [State.canErr, State.canHears, hcanOpen, hstate, hbusy]
  · intro n
    refine does_main (by intros; delta exec; rfl) fun u ⟨hready, hcanOpen, hstate, hbusy⟩ => ⟨hready, ?_⟩
    simp [State.canErr, State.canHears, hcanOpen, hstate, hbusy]
  · refine does_main (by intros; delta exec; rfl) fun u ⟨hready, hcanState, hctrl⟩ => ⟨hready, ?_⟩
    simp [hcanState, hctrl]
  · refine does_keyed (fun _ _ => rfl) fun u ⟨hw, hval, hcanState, hctrl⟩ => ⟨hw.1, hw.2, ?_⟩
    simp [hval, hcanState, hctrl]
  · refine does_keyed (fun _ _ => rfl) fun u ⟨hw, hval⟩ => ⟨hw.1, hw.2, ?_⟩
    simp [hval]
  · refine does_txcmd (fun _ _ => rfl) (by decide) fun u ⟨hw, hcode, htxMapped, htxTrig, hcanTtMode⟩ => ⟨hw, hcode, ?_⟩
    simp [htxMapped, htxTrig, hcanTtMode]
  · refine does_txcmd (fun _ _ => rfl) (by decide) fun u ⟨hw, hcode, htxMapped⟩ => ⟨hw, hcode, ?_⟩
    simp [htxMapped]
  · exact does_txcmd (fun _ _ => rfl) (by decide) fun u ⟨hw, hcode⟩ => ⟨hw, hcode, rfl⟩
  · refine does_txcmd (fun _ _ => rfl) (by decide) fun u ⟨hw, hcode, htxMapped⟩ => ⟨hw, hcode, ?_⟩
    simp [htxMapped]
  · simp only [List.forall_mem_cons, List.not_mem_nil, false_imp_iff, implies_true, and_true]
    exact ⟨does_txcmd_refused (fun _ _ => rfl), does_txcmd_refused (fun _ _ => rfl), does_txcmd_refused (fun _ _ => rfl)⟩
  · refine does_main (by intros; delta exec; rfl) fun u ⟨hready, htxOn, htxTrig, hcanTtMode, htxTimer⟩ => ⟨hready, ?_⟩
    simp [htxOn, htxTrig, hcanTtMode, htxTimer]
  · intro n
    refine does_main (by intros; delta exec; rfl)
        fun u ⟨hready, hcanOpen, hstat, hstat', hgoto, htxBest⟩ => ⟨hready, ?_⟩
    simp [hcanOpen, hstat, hstat', hgoto, htxBest]
  · intro n
    refine does_main (by intros; delta exec; rfl) fun u ⟨hready, htxBusy, hcancel, htxOn, hexcl⟩ => ⟨hready, ?_⟩
    simp [State.canLost, htxBusy, hcancel, htxOn, hexcl]
  · intro n
    refine does_main (by intros; delta exec; rfl) fun u ⟨hready, htxBusy, hgone⟩ => ⟨hready, ?_⟩
    simp [State.canLost, htxBusy, hgone]
  · intro n
    refine does_main (by intros; delta exec; rfl) fun u ⟨hready, htxBusy, hcancel, htxOn, hexcl⟩ => ⟨hready, ?_⟩
    simp [State.canLost, htxBusy, hcancel, htxOn, hexcl]
  · intro n
    refine does_main (by intros; delta exec; rfl) fun u ⟨hready, htxBusy⟩ => ⟨hready, ?_⟩
    simp [State.canSent, htxBusy]
  · intro n t l
    refine does_read (fun _ _ => rfl) fun u ⟨hr, hts⟩ => ⟨hr, ?_⟩
    simp [hts]
  · refine does_read (fun _ _ => rfl) fun u ⟨hr, hts⟩ => ⟨hr, ?_⟩
    simp [hts]
  · refine does_write (fun _ _ => rfl) fun u ⟨hw, hqmap, hval, hval'⟩ => ⟨hw, ?_⟩
    simp [hqmap, hval, Nat.not_lt.2 hval']
  · refine does_write (fun _ _ => rfl) fun u ⟨hw, hqmap, hrxqCount⟩ => ⟨hw, ?_⟩
    simp [hqmap, hrxqCount]
  · refine does_write (fun _ _ => rfl) fun u ⟨hw, hqmap⟩ => ⟨hw, ?_⟩
    simp [hqmap]
  · refine does_always (by intros; delta exec; rfl) fun u ⟨hready, hdown, hcanState, hctrl⟩ => ?_
    simp [hready, hcanState, hctrl, State.canEv]
  · refine does_always (by intros; delta exec; rfl) fun u ⟨hon, hsleep, hcanWake⟩ => ?_
    simp [hon, hsleep, hcanWake]
  · refine does_one (fun _ _ => rfl) fun u hw => ⟨hw, ?_⟩
    simp

end Sys2Proof.Machine

namespace Sys2Proof.Machine

/-- Partition 1 runs on the split lanes of triad 1. -/
def laneCase : State :=
  { sys := { on := true }
    regs := [(R.TEN_PCOMP 1, 0x80000C00), (R.TEN_PSTATE, 0x20), (R.TRI_LANESTAT 1, 0x66)] }

/-- A lane in M-mode, with all its registers 0. -/
def machineMode : LaneCtx := ⟨List.replicate 31 0, List.replicate 32 0, 0, 2, 0, 0⟩

/-- What a lane is answered. -/
def answer : Host.Outcome State Fault Refusal → Option Resp
  | .next t => some t.resp
  | _ => none

/-- Refutes O29: in a mode above S, the statement makes every instruction illegal, whatever the encoding. An encoding that
reads as another Xnyvas instruction is that instruction's own event, and NV.RSTAT leaves it alone: here NV.SNAP (0) from a
lane in M-mode. -/
theorem not_xnyvasInstructionsComplete : ¬ Obligations.XnyvasInstructionsComplete := by
  unfold Obligations.XnyvasInstructionsComplete
  intro h
  obtain ⟨-, -, -, -, -, -, -, -, -, -, -, -, -, hillegal, -⟩ := h (.lane 1 false) 1 0 0 0 machineMode .agree laneCase
  have hother : answer (exec (.nvRstat 0 (.lane 1 false) 0 2) laneCase) = some .none := by decide +kernel
  have hlast := hillegal (fun dt => .nvRstat dt (.lane 1 false) 0 machineMode.priv)
    (.tail _ <| .tail _ <| .tail _ <| .tail _ <| .tail _ <| .tail _ <| .head _)
  have hsame := congrArg answer (hlast 0 laneCase rfl
    ⟨⟨⟨rfl, rfl⟩, by decide +kernel, by decide +kernel⟩, .inr (by decide)⟩)
  exact absurd (hother.symm.trans hsame) (by decide +kernel)

end Sys2Proof.Machine

namespace Sys2Proof.Machine

/-! ### The passing of ticks (R421) -/

@[simp] theorem elapse_rate (s : State) (n : Nat) : (s.elapse n).rate = s.rate := rfl

/-- Module time after `n` ticks, as an integer: nothing is cut off below 0 at a rate above -1. -/
theorem elapse_mtime {s : State} (n : Nat) (hrate : 0 ≤ 2 ^ 48 + s.rate) :
    ((s.elapse n).mtime : Int) = (s.mtime + 40 * n * (2 ^ 48 + s.rate)) % 2 ^ 112 := by
  have hpos : 0 ≤ (s.mtime : Int) + (n * 40 : Nat) * (2 ^ 48 + s.rate) :=
    Int.add_nonneg (Int.natCast_nonneg _) (Int.mul_nonneg (Int.natCast_nonneg _) hrate)
  have hnum : ((n * 40 : Nat) : Int) = 40 * n := by omega
  calc ((s.elapse n).mtime : Int)
      = (((s.mtime : Int) + (n * 40 : Nat) * (2 ^ 48 + s.rate)).toNat : Int) % 2 ^ 112 := rfl
    _ = (s.mtime + 40 * n * (2 ^ 48 + s.rate)) % 2 ^ 112 := by rw [Int.toNat_of_nonneg hpos, hnum]

theorem elapse_elapse {s : State} (a b : Nat) (hrate : 0 ≤ 2 ^ 48 + s.rate) :
    (s.elapse a).elapse b = s.elapse (a + b) := by
  have hmtime : ((s.elapse a).elapse b).mtime = (s.elapse (a + b)).mtime := by
    have hboth : (((s.elapse a).elapse b).mtime : Int) = ((s.elapse (a + b)).mtime : Int) := by
      rw [elapse_mtime b (by simpa using hrate), elapse_rate, elapse_mtime a hrate, elapse_mtime (a + b) hrate,
        Int.emod_add_emod]
      rw [Int.natCast_add, Int.mul_add 40, Int.add_mul, Int.add_assoc]
    exact_mod_cast hboth
  have hticks : ((s.elapse a).elapse b).ticks = (s.elapse (a + b)).ticks := Nat.add_assoc _ _ _
  calc (s.elapse a).elapse b
      = { s with ticks := ((s.elapse a).elapse b).ticks, mtime := ((s.elapse a).elapse b).mtime } := rfl
    _ = s.elapse (a + b) := by rw [hmtime, hticks]; rfl

/-- Settles O58, from module time as an integer. -/
theorem timeOnlyMovesTheClock : Obligations.TimeOnlyMovesTheClock := by
  unfold Obligations.TimeOnlyMovesTheClock
  intro s a b hrate
  exact ⟨elapse_elapse a b hrate, rfl, elapse_mtime a hrate, rfl⟩

end Sys2Proof.Machine

namespace Sys2Proof.Machine

/-- Settles O9: the reset state lists no register, so each reads its reset value in the model's register table. -/
theorem resetLeaves : Obligations.ResetLeaves := by
  unfold Obligations.ResetLeaves
  refine ⟨?_, ?_, ?_, ?_, ?_, ?_, ?_, rfl, rfl, rfl, rfl⟩
  · decide +kernel
  · decide +kernel
  · decide +kernel
  · decide +kernel
  · decide +kernel
  · decide +kernel
  · decide +kernel

end Sys2Proof.Machine

namespace Sys2Proof.Machine
section ByteMemory

/-! ### O8: what a store of bytes leaves in a byte memory -/

/-- A byte of a memory after a store of bytes. -/
theorem memGet_memPut (bs : List Nat) : ∀ (m : Tab Byte) (o a : Nat),
    memGet (memPut m o bs) a =
      if o ≤ a ∧ a < o + bs.length then BitVec.ofNat 8 (bs.getD (a - o) 0) else memGet m a := by
  induction bs with
  | nil => intro m o a; rw [if_neg (by simp)]; rfl
  | cons b bs ih =>
    intro m o a
    rw [memPut, ih, memGet_set]
    rcases Nat.lt_trichotomy a o with h | rfl | h
    · rw [if_neg (by omega), if_neg (by omega), if_neg (by omega)]
    · rw [if_neg (by omega), if_pos rfl, if_pos (by simp), Nat.sub_self, List.getD_cons_zero]
    · obtain ⟨d, rfl⟩ : ∃ d, a = o + 1 + d := ⟨a - (o + 1), by omega⟩
      have e1 : o + 1 + d - (o + 1) = d := by omega
      have e2 : o + 1 + d - o = d + 1 := by omega
      rw [if_neg (show ¬ o + 1 + d = o by omega), e1, e2, List.getD_cons_succ, List.length_cons]
      exact ite_congr (propext (by omega)) (fun _ => rfl) fun _ => rfl

theorem memGet_memPut_in (m : Tab Byte) (o i : Nat) (bs : List Nat) (h : i < bs.length) :
    memGet (memPut m o bs) (o + i) = BitVec.ofNat 8 (bs.getD i 0) := by
  rw [memGet_memPut, if_pos (by omega), Nat.add_sub_cancel_left]

theorem memGet_memPut_out (m : Tab Byte) (o a : Nat) (bs : List Nat) (h : a < o ∨ o + bs.length ≤ a) :
    memGet (memPut m o bs) a = memGet m a := by
  rw [memGet_memPut, if_neg (by omega)]

/-- Taking keys out of a table leaves none of them, and adds no entry. -/
theorem mem_dropped {α : Type} (l : List Nat) : ∀ (t : Tab α) (e : Nat × α),
    e ∈ forL l (fun w t => tabDel t w) t → e ∈ t ∧ e.1 ∉ l := by
  induction l with
  | nil => intro t e h; exact ⟨h, by simp⟩
  | cons w l ih =>
    intro t e h
    rw [forL_cons] at h
    obtain ⟨hd, hl⟩ := ih _ e h
    obtain ⟨ht, hw⟩ := tabDel_sub t w e hd
    exact ⟨ht, by simp [hw, hl]⟩

/-- A word inside the range is one of its whole words. -/
theorem mem_wholeWords (o n w : Nat) (h1 : o ≤ 8 * w) (h2 : 8 * w + 8 ≤ o + n) : w ∈ wholeWords o n := by
  rw [wholeWords, List.mem_map]
  exact ⟨w - (o + 7) / 8, List.mem_range.2 (by omega), by omega⟩

/-- A whole word that is stored is no longer listed as poisoned. -/
theorem State.dramPut_poison (s : State) (o : Nat) (bs : List Nat) (e) (h : e ∈ (s.dramPut o bs).mem.poison) :
    e ∈ s.mem.poison ∧ e.1 ∉ wholeWords o bs.length := by
  change e ∈ (if s.mem.poison = [] then [] else forL _ _ s.mem.poison) at h
  split at h
  · simp at h
  · exact mem_dropped _ _ e h

end ByteMemory

/-- Settles O8: a store of bytes puts one byte at a time, and takes every word that it covers out of the list of
poisoned words. -/
theorem dramReadAfterStore : Obligations.DramReadAfterStore := by
  intro s o bs
  refine ⟨fun i hi => memGet_memPut_in _ o i bs hi, fun a ha => memGet_memPut_out _ o a bs ha, ?_, rfl, rfl, rfl⟩
  intro w h1 h2
  rw [State.poisoned, List.any_eq_false]
  intro e he
  have hw := (s.dramPut_poison o bs e he).2
  have hne : e.1 ≠ w := fun h => hw (h ▸ mem_wholeWords o _ w h1 h2)
  simp only [Bool.and_eq_true, decide_eq_true_eq]
  omega

end Sys2Proof.Machine

namespace Sys2Proof.Machine
section RegisterAccess

/-! ### O13: the rules of a register access -/

/-- An access of another width than four bytes, or at an address that four does not divide, is a bad one. -/
theorem badAccess (x n : Nat) (h : n ≠ 4 ∨ x % 4 ≠ 0) : (n != 4 || x % 4096 % 4 != 0) = true := by
  rw [Nat.mod_mod_of_dvd x (show 4 ∣ 4096 by decide)]
  simpa using h

theorem State.regAccess_bad (s : State) (who : Init) (x n : Nat) (v : BitVec 64) (ext : BitVec 48)
    (h : n ≠ 4 ∨ x % 4 ≠ 0) :
    s.regAccess who x n .load ext = s.deny who (x / 4096) (x % 4096) false true ∧
    s.regAccess who x n (.store v) ext = s.deny who (x / 4096) (x % 4096) true true ∧
    s.regAccess who x n .fetch ext = s.deny who (x / 4096) (x % 4096) false true :=
  ⟨if_pos (badAccess x n h), if_pos (badAccess x n h),
    congrArg (s.deny who (x / 4096) (x % 4096) false) (badAccess x n h)⟩

/-- A plain write of a register that is read only changes nothing. -/
theorem State.plainWrite_ro (s : State) (k p o v : Nat) (r : RegRow) (hr : rowOf (reg p o) = some r)
    (ha : r.acc = .ro) (hc : o ≠ 0x030) (hl : o ≠ 0x00C) : s.plainWrite k p o v = s := by
  unfold State.plainWrite
  simp only [hr, ha, if_neg hc, if_neg hl, ite_self]

theorem State.plainRead_unlisted (s : State) (p o : Nat) (hr : rowOf (reg p o) = none) : s.plainRead p o = 0 := by
  unfold State.plainRead
  rw [hr]

/-- The live value at an offset at which neither a register nor a view lies is 0. -/
theorem State.liveRead_unlisted (s : State) (p o : Nat) (hr : rowOf (reg p o) = none) (hh : s.headView p o = none)
    (hb : s.blockView p o = none) : (s.liveRead p o).1 = 0 := by
  have hcap : reg p o ≠ R.LIFE_CAPV := fun h => by rw [h] at hr; revert hr; decide +kernel
  have hcal : reg p o ≠ R.LIFE_CALSTAT := fun h => by rw [h] at hr; revert hr; decide +kernel
  unfold State.liveRead
  split
  · rfl
  · simp only [hh, hb]
    split
    · exact State.plainRead_unlisted _ p o hr
    · exact State.plainRead_unlisted _ p o hr

end RegisterAccess

/-- Settles O13: the width is judged before the page, a read-only row has no write branch, and an offset without a row
reads 0. -/
theorem registerAccessRules : Obligations.RegisterAccessRules := by
  intro s who x n v ext k p o
  exact ⟨s.regAccess_bad who x n v ext, fun r hr ha hc hl => s.plainWrite_ro k p o _ r hr ha hc hl,
    fun hr _ => s.plainRead_unlisted p o hr, fun hr _ _ hh hb => s.liveRead_unlisted p o hr hh hb⟩

end Sys2Proof.Machine

namespace Sys2Proof.Machine
section CommitShadows

/-! ### O15: what a commit takes from the shadows -/

/-- A key below every listed one is not listed. -/
theorem tabFind_of_lt {α : Type} (t : Tab α) (k : Nat) (h : ∀ e ∈ t, k < e.1) : tabFind t k = none := by
  induction t with
  | nil => rfl
  | cons e t ih =>
    obtain ⟨a, v⟩ := e
    have ha : k < a := h (a, v) (by simp)
    rw [tabFind, if_neg (by omega), ih fun e he => h e (by simp [he])]

/-- One shadow made active: the register reads it where its page is in the group. -/
def takeShadow (g : List Nat) (m : Tab Word) (e : Nat × Word) : Tab Word :=
  if g.contains (e.1 / 4096) then tabSet (resetWord e.1) m e.1 e.2 else m

theorem State.taken_regs (s : State) (g : List Nat) : (s.taken g).regs = s.shadow.foldl (takeShadow g) s.regs := rfl

theorem tabGet_takeShadow (g : List Nat) (m : Tab Word) (a x : Nat) (v : Word) :
    tabGet (resetWord x) (takeShadow g m (a, v)) x =
      if g.contains (x / 4096) = true ∧ x = a then v else tabGet (resetWord x) m x := by
  by_cases hg : g.contains (a / 4096) = true
  · rw [takeShadow, if_pos hg, tabGet_set _ _ _ _ _ _ fun h => congrArg resetWord h]
    by_cases hx : x = a
    · rw [if_pos hx, if_pos ⟨hx ▸ hg, hx⟩]
    · rw [if_neg hx, if_neg fun h => hx h.2]
  · rw [takeShadow, if_neg hg, if_neg]
    rintro ⟨h, rfl⟩
    exact hg h

/-- The shadows of a group made active, lowest register first. -/
theorem tabGet_takeShadows (g : List Nat) (x : Nat) (t : Tab Word) : ∀ m : Tab Word, rising t = true →
    tabGet (resetWord x) (t.foldl (takeShadow g) m) x =
      if g.contains (x / 4096) then tabGet (tabGet (resetWord x) m x) t x else tabGet (resetWord x) m x := by
  induction t with
  | nil => intro m _; exact (ite_self _).symm
  | cons e t ih =>
    obtain ⟨a, v⟩ := e
    intro m h
    obtain ⟨hlt, ht⟩ := (rising_cons (a, v) t).1 h
    rw [List.foldl_cons, ih _ ht, tabGet_takeShadow]
    by_cases hg : g.contains (x / 4096) = true
    · rw [if_pos hg, if_pos hg]
      by_cases hx : x = a
      · subst hx
        simp only [hg, tabGet, tabFind, tabFind_of_lt t x hlt, and_self, if_true, Option.getD_none, Option.getD_some]
      · rw [if_neg fun h => hx h.2]
        simp only [tabGet, tabFind, if_neg (Ne.symm hx)]
    · rw [if_neg hg, if_neg hg, if_neg fun h => hg h.1]

theorem State.rd_taken (s : State) (g : List Nat) (x : Nat) (h : rising s.shadow = true) :
    (s.taken g).rd x = if g.contains (x / 4096) then s.sh x else s.rd x := by
  rw [State.rd, State.regGet, State.taken_regs, tabGet_takeShadows g x s.shadow s.regs h, State.sh, State.rd]
  split <;> rfl

end CommitShadows

/-- Settles O15: the write lands in the shadow by `plainWrite_rws_shadow`, a dropped shadow is unlisted, and the commit
reads each listed shadow once. -/
theorem commitTakesTheShadows : Obligations.CommitTakesTheShadows := by
  intro s n p o v _ _
  refine ⟨?_, fun x hx => ?_, fun g x h => s.rd_taken g x h⟩
  · intro r hrow hacc hown halloc habsent hcmt hlock hpend hmap
    have hp : PlainRws s p o r := ⟨hrow, hacc, hown, halloc, habsent, hcmt, hlock⟩
    rw [plainWrite_rws_shadow hp rfl hpend hmap]
    refine ⟨?_, fun x => ⟨rfl, fun hx => ?_⟩⟩
    · rw [State.sh_setShadow, if_pos rfl]
    · rw [State.sh_setShadow, if_neg hx]
  · exact State.sh_of_unlisted _ (s.dropShadows_unlisted hx)

end Sys2Proof.Machine

namespace Sys2Proof.Machine
section WidePairs

/-! ### O50: the halves of a 64-bit register -/

@[simp] theorem State.draw_ten (s : State) (n : Nat) : (s.draw n).2.ten = s.ten := rfl

theorem State.pmcAdvance_ten (s : State) (t : Nat) : (s.pmcAdvance t).ten = s.ten := by
  refine foldl_keeps (fun u => u.ten = s.ten) _ _ (fun u k h => ?_) s rfl
  dsimp only
  split
  · rw [State.wr64_ten]
    exact h
  · exact h

/-- A live read moves no holding register. -/
theorem State.liveRead_ten (s : State) (p o : Nat) : (s.liveRead p o).2.ten = s.ten := by
  unfold State.liveRead
  split
  · rfl
  · split
    · rfl
    · split
      · rfl
      · split
        · dsimp only
          rw [s.pmcAdvance_ten]
        · split
          · exact s.draw_ten 16
          · split
            · exact s.draw_ten 1
            · rfl

variable {s u : State} {who : Init} {p o : Nat}

theorem latchHi_wideRd (t : State) (who : Init) (p o : Nat) : (t.latchHi who p o).ten.wideRd =
    tabSet (0, 0) t.ten.wideRd (wideKey who p) (reg p o + 1, (t.liveRead p (o + 4)).1) :=
  congrArg (fun c : TenS => tabSet (0, 0) c.wideRd (wideKey who p) (reg p o + 1, (t.liveRead p (o + 4)).1))
    (t.liveRead_ten p (o + 4))

/-- What a LO read holds: the HI half of that instant, for the initiator and the page (R60). -/
theorem latchHi_held (t : State) (who : Init) (p o : Nat) :
    tabGet (0, 0) (t.latchHi who p o).ten.wideRd (wideKey who p) = (reg p o + 1, (t.liveRead p (o + 4)).1) := by
  rw [latchHi_wideRd, tabGet_set _ _ _ _ _ _ fun _ => rfl, if_pos rfl]

theorem latchHi_other (t : State) (who : Init) (p o : Nat) {k : Nat} (h : k ≠ wideKey who p) :
    tabGet (0, 0) (t.latchHi who p o).ten.wideRd k = tabGet (0, 0) t.ten.wideRd k := by
  rw [latchHi_wideRd, tabGet_set _ _ _ _ _ _ fun _ => rfl, if_neg h]

/-- The HI half of a pair is read from the holding register of its LO half (R60). -/
theorem readReg_hi_held {v : Nat} (hhi : isHiHalf (reg p (o + 4)) = true)
    (hheld : tabGet (0, 0) u.ten.wideRd (wideKey who p) = (reg p o + 1, v)) : u.readReg who p (o + 4) = (v, u) := by
  have hx : reg p (o + 4) - 4 + 1 = reg p o + 1 := by simp only [reg]; omega
  simp [State.readReg, hhi, hheld, hx]

/-- The HI half of a pair that is not held is read live. -/
theorem readReg_hi_live (hhi : isHiHalf (reg p o) = true) (hlo : isLo (reg p o) = false)
    (hheld : (tabGet (0, 0) s.ten.wideRd (wideKey who p)).1 ≠ reg p o - 4 + 1) :
    s.readReg who p o = s.liveRead p o := by
  simp [State.readReg, hhi, hlo, hheld]

/-- A LO half that waits in the holding register of an initiator and a page (R60). -/
def loHeld (u : State) (who : Init) (p x n : Nat) : State :=
  { u with ten := { u.ten with wideWr := tabSet (0, 0) u.ten.wideWr (wideKey who p) (x + 1, n) } }

theorem loHeld_held (t : State) (who : Init) (p x n : Nat) :
    tabGet (0, 0) (loHeld t who p x n).ten.wideWr (wideKey who p) = (x + 1, n) := by
  rw [loHeld, tabGet_set _ _ _ _ _ _ fun _ => rfl, if_pos rfl]

/-- An RW register outside those with conditions of their own takes a plain write. -/
structure PlainRw (s : State) (p o : Nat) (r : RegRow) : Prop where
  row : rowOf (reg p o) = some r
  acc : r.acc = .rw
  notOwn : ownRow p o = false
  allocated : s.allocated p = true
  notCmt : o ≠ 0x030
  notLock : o ≠ 0x00C
  notTen : p ≠ 0x008
  notPre : p ≠ 0x075
  notPmc : p < 0x0D4 ∨ 0x0D7 < p

theorem plainWrite_rw (h : PlainRw s p o r) (n v : Nat) :
    s.plainWrite n p o v = s.wr (reg p o) (v &&& r.maskAt o) := by
  have habsent : s.absentReg p o = false := by
    have hp := h.notPmc
    simp only [State.absentReg, Bool.and_eq_false_iff, decide_eq_false_iff_not]
    omega
  have hopen : s.rwOpen p o = true := by simp [State.rwOpen, h.notTen, h.notPre]
  unfold State.plainWrite
  simp only [h.notOwn, h.allocated, habsent, h.row, h.acc, hopen, if_neg h.notCmt, if_neg h.notLock]
  rfl

/-- The order code, on which the pages that exist depend, takes no register write. -/
theorem PlainRw.ne_ordcode (h : PlainRw s p o r) : reg p o ≠ R.SYS_ORDCODE := by
  intro he
  have hrow := h.row
  rw [he] at hrow
  have hno : (rowOf R.SYS_ORDCODE).any (fun r => r.acc == .rw) = false := by decide
  simp [hrow, h.acc] at hno

theorem allocated_wr {x : Nat} (h : x ≠ R.SYS_ORDCODE) (n q : Nat) : (s.wr x n).allocated q = s.allocated q := by
  simp only [State.allocated, State.hasTriad, State.rd_wr_other s n (Ne.symm h)]

variable {dt : Nat} {P : Fin 512} {w : Fin 1024} {v : Word} {r : RegRow}

/-- The write of the LO half of an RW pair waits in the holding register (R60). -/
theorem execWideLoWrite_rw (hw : Writes who P.val (4 * w.val) (s.elapse dt))
    (hrow : rowOf (reg P.val (4 * w.val)) = some r) (hacc : r.acc = .rw) (hlo : isLo (reg P.val (4 * w.val)) = true)
    (halloc : s.allocated P.val = true) :
    execWideLoWrite dt who P w v s =
      .next (loHeld (s.elapse dt).ack who P.val (reg P.val (4 * w.val)) v.toNat).msixSend := by
  unfold execWideLoWrite
  rw [onMain_cmdW_ok hw]
  simp [loHeld, hrow, hacc, halloc, hlo]

/-- The write of the HI half of an RW pair whose LO half is held writes both (R60). -/
theorem execWideHiWrite_rw {lo : Nat} (hw : Writes who P.val (4 * w.val) (s.elapse dt))
    (hrow : rowOf (reg P.val (4 * w.val)) = some r) (hacc : r.acc = .rw) (hhi : r.isHi (4 * w.val) = true)
    (halloc : s.allocated P.val = true)
    (hheld : tabGet (0, 0) s.ten.wideWr (wideKey who P.val) = (reg P.val (4 * w.val) - 4 + 1, lo)) :
    execWideHiWrite dt who P w v s =
      .next (((loTaken (s.elapse dt).ack who P.val).plainWrite ((s.elapse dt).partNo who) P.val
          (4 * w.val - 4) lo).plainWrite
        ((s.elapse dt).partNo who) P.val (4 * w.val) v.toNat).msixSend := by
  unfold execWideHiWrite
  rw [onMain_cmdW_ok hw]
  simp [loTaken, hrow, word_mod, hhi, hacc, halloc, hheld]

/-- Both halves of a plain RW pair, written LO first. -/
theorem plainWrite_pair {o' : Nat} (hlo : PlainRw s p o' r) (hhi : PlainRw s p o r) (n m v : Nat) :
    (s.plainWrite n p o' m).plainWrite n p o v =
      (s.wr (reg p o') (m &&& r.maskAt o')).wr (reg p o) (v &&& r.maskAt o) := by
  rw [plainWrite_rw hlo]
  exact plainWrite_rw { hhi with allocated := (allocated_wr hlo.ne_ordcode _ _).trans hhi.allocated } n v

end WidePairs

/-- Settles O50: the holding registers are entries of their own per initiator and page, and neither write of a plain pair
closes the other. -/
theorem widePairsAreWhole : Obligations.WidePairsAreWhole := by
  intro s u who p w
  refine ⟨fun hlo hnot halloc => ?_, readReg_hi_live, ?_, ?_⟩
  · rw [readReg_lo hlo hnot halloc]
    refine ⟨rfl, latchHi_held _ _ _ _, fun k hk => ?_, fun hhi hheld => ?_⟩
    · rw [latchHi_other _ _ _ _ hk, State.liveRead_ten]
    · exact readReg_hi_held hhi (hheld.trans (latchHi_held _ _ _ _))
  · intro dt v r hrow hacc hlo halloc hw
    refine ⟨_, execWideLoWrite_rw hw hrow hacc hlo halloc, State.msixSend_regs _, ?_⟩
    rw [State.msixSend_ten, loHeld_held]
  · intro dt v lo r hrow hrow' hacc hhi hpos hown hown' hcmt' hcmt hlock' hlock hten hpre hpmc halloc hw hheld
    have hlo : PlainRw (loTaken (s.elapse dt).ack who p.val) p.val (4 * w.val - 4) r :=
      ⟨hrow', hacc, hown', halloc, hcmt', hlock', hten, hpre, hpmc⟩
    have hhi' : PlainRw (loTaken (s.elapse dt).ack who p.val) p.val (4 * w.val) r :=
      ⟨hrow, hacc, hown, halloc, hcmt, hlock, hten, hpre, hpmc⟩
    have hne : reg p.val (4 * w.val - 4) ≠ reg p.val (4 * w.val) := by simp only [reg]; omega
    refine ⟨_, execWideHiWrite_rw hw hrow hacc hhi halloc hheld, ?_⟩
    simp only [plainWrite_pair hlo hhi', State.rd_msixSend, State.rd_wr_same]
    refine ⟨trivial, ?_, fun y hy hy' => ?_⟩
    · rw [State.rd_wr_other _ _ hne, State.rd_wr_same]
    · rw [State.rd_wr_other _ _ hy, State.rd_wr_other _ _ hy']
      rfl

end Sys2Proof.Machine

namespace Sys2Proof.Machine

/-! ### Changes that stay within some registers -/

/-- Of registers, shadows and memory, only registers of `A` differ. -/
structure Touches (A : Nat → Prop) (s t : State) : Prop where
  rd : ∀ x, ¬ A x → t.rd x = s.rd x
  shadow : t.shadow = s.shadow
  mem : t.mem = s.mem

namespace Touches
variable {A B : Nat → Prop} {s t u : State}

theorem refl (s : State) : Touches A s s := ⟨fun _ _ => rfl, rfl, rfl⟩

theorem trans (h : Touches A s t) (h' : Touches A t u) : Touches A s u :=
  ⟨fun x hx => (h'.rd x hx).trans (h.rd x hx), h'.shadow.trans h.shadow, h'.mem.trans h.mem⟩

theorem mono (h : Touches A s t) (hAB : ∀ x, A x → B x) : Touches B s t :=
  ⟨fun x hx => h.rd x fun ha => hx (hAB x ha), h.shadow, h.mem⟩

/-- No register differs where the table of registers is the same. -/
theorem of_regs (hr : t.regs = s.regs) (hs : t.shadow = s.shadow) (hm : t.mem = s.mem) : Touches A s t :=
  ⟨fun x _ => rd_of_regs hr x, hs, hm⟩

theorem wr {x : Nat} (hx : A x) (n : Nat) : Touches A s (s.wr x n) :=
  ⟨fun _ hy => s.rd_wr_other n fun h => hy (h ▸ hx), State.wr_shadow s x n, State.wr_mem s x n⟩

theorem putBit {x : Nat} (hx : A x) (i : Nat) (b : Bool) : Touches A s (s.putBit x i b) := wr hx _

theorem putFld {x : Nat} (hx : A x) (hi lo v : Nat) : Touches A s (s.putFld x hi lo v) := wr hx _

theorem raise {p : Nat} (hx : A (hEvraw p)) (b : Nat) : Touches A s (s.raise p b) := putBit hx _ _

theorem err {p : Nat} (hcode : A (hErrcode p)) (haddr : A (hErraddr p)) (part code x : Nat) :
    Touches A s (s.err p part code x) := (wr hcode _).trans (wr haddr _)

/-- A loop whose every step stays within `A` stays within it. -/
theorem foldl {α : Type} (l : List α) (f : State → α → State) (hf : ∀ t a, Touches A t (f t a)) (s : State) :
    Touches A s (l.foldl f s) :=
  foldl_keeps (Touches A s) l f (fun t a h => h.trans (hf t a)) s (refl s)

end Touches

/-! ### O53: the bytes of a GRANTk word -/

section Gateway

/-- The registers of GWY that the watch over its signals may change: the status of a signal and the event of the page. -/
def gwyMark (x : Nat) : Prop := (∃ g, g < 128 ∧ x = R.GWY_SSTAT g) ∨ x = hEvraw 0x0C0

theorem srcReport_touches {A : Nat → Prop} (s : State) (sel : MapEnt → Bool)
    (take : State → MapEnt → List Nat × Nat × Nat) : Touches A s (s.srcReport sel take) := by
  refine Touches.foldl _ _ (fun t n => ?_) s
  dsimp only
  split
  · exact .refl t
  · split
    · exact .refl t
    · exact .of_regs rfl rfl rfl

/-- The watch over the signals of GWY marks the suspended ones and touches no other register (R485). -/
theorem gwyWatch_touches (s : State) : Touches gwyMark s s.gwyWatch := by
  rw [State.gwyWatch, forN]
  have hstep : ∀ l : List Nat, (∀ g ∈ l, g < 128) → ∀ t : State, Touches gwyMark t (l.foldl (fun t g =>
      if t.gwyOn g && !t.bit (R.GWY_SSTAT g) 3 && t.gwyBlocked g then
        ((t.putBit (R.GWY_SSTAT g) 3 true).raise 0x0C0 3).gwyShow g
      else t) t) := by
    intro l
    induction l with
    | nil => exact fun _ t => .refl t
    | cons g l ih =>
      intro hl t
      refine .trans ?_ (ih (fun a ha => hl a (by simp [ha])) _)
      dsimp only
      split
      · exact ((Touches.putBit (.inl ⟨g, hl g (by simp), rfl⟩) _ _).trans (.raise (.inr rfl) _)).trans
          (srcReport_touches _ _ _)
      · exact .refl t
  exact hstep _ (fun g hg => List.mem_range.1 hg) s

theorem not_gwyMark_of_page {x : Nat} (h0 : x / 4096 ≠ 0x0C0) (h3 : x / 4096 ≠ 0x0C3) : ¬ gwyMark x := by
  rintro (⟨g, hg, rfl⟩ | rfl)
  · simp only [R.GWY_SSTAT] at h3
    omega
  · exact h0 (by simp [hEvraw, reg])

theorem not_gwyMark_header {p o : Nat} (ho : o < 0x040) (hne : o ≠ 0x018) : ¬ gwyMark (reg p o) := by
  rintro (⟨g, hg, h⟩ | h)
  · simp only [R.GWY_SSTAT, reg] at h
    omega
  · simp only [hEvraw, reg] at h
    omega

end Gateway

section GrantBytes
variable {who : Init} {n k : Nat} {s t u : State}

/-- What the judgement of the bytes of a GRANTk word may change: the word, and the error record of the pages. -/
def grantMark (k : Nat) (P : Nat → Prop) (x : Nat) : Prop :=
  x = R.TEN_GRANT k ∨ ∃ p, P p ∧ (x = hErrcode p ∨ x = hErraddr p)

theorem not_grantMark {P : Nat → Prop} {x : Nat} (hk : k < 128) (h28 : x % 4096 ≠ 0x028) (h2C : x % 4096 ≠ 0x02C)
    (hgrant : x / 4096 ≠ 0x00A ∨ x % 4096 < 0x040) : ¬ grantMark k P x := by
  rintro (rfl | ⟨p, -, rfl | rfl⟩)
  · simp only [R.TEN_GRANT] at hgrant
    omega
  · exact h28 (by simp only [hErrcode, reg]; omega)
  · exact h2C (by simp only [hErraddr, reg]; omega)

theorem ctlPage_lt {p : Nat} (h : p < 512) : ctlPage p < 512 :=
  (by decide +kernel : ∀ p : Fin 512, ctlPage p.val < 512) ⟨p, h⟩

variable {P : Nat → Prop} (h : Touches (grantMark k P) s t) (hk : k < 128)
include h hk

theorem bit_of_grantMark {x : Nat} (h28 : x % 4096 ≠ 0x028) (h2C : x % 4096 ≠ 0x02C)
    (hgrant : x / 4096 ≠ 0x00A ∨ x % 4096 < 0x040) (i : Nat) : t.bit x i = s.bit x i := by
  rw [State.bit, h.rd x (not_grantMark hk h28 h2C hgrant), State.bit]

theorem fld_of_grantMark {x : Nat} (h28 : x % 4096 ≠ 0x028) (h2C : x % 4096 ≠ 0x02C)
    (hgrant : x / 4096 ≠ 0x00A ∨ x % 4096 < 0x040) (hi lo : Nat) : t.fld x hi lo = s.fld x hi lo := by
  rw [State.fld, h.rd x (not_grantMark hk h28 h2C hgrant), State.fld]

theorem allocated_of_grantMark (p : Nat) : t.allocated p = s.allocated p := by
  simp only [State.allocated, State.hasTriad,
    h.rd R.SYS_ORDCODE (not_grantMark hk (by decide) (by decide) (by decide))]

theorem lock_of_grantMark (p : Nat) : t.bit (hLock p) 0 = s.bit (hLock p) 0 :=
  bit_of_grantMark h hk (by simp only [hLock, reg]; omega) (by simp only [hLock, reg]; omega)
    (.inr (by simp only [hLock, reg]; omega)) 0

theorem present_of_grantMark {i : Nat} : t.present i = s.present i := by
  unfold State.present
  split
  next hi =>
    refine bit_of_grantMark h hk ?_ ?_ ?_ 31 <;> simp only [R.TEN_PCOMP] <;> omega
  next => rw [bit_of_grantMark h hk (by decide) (by decide) (by decide)]

theorem owns_of_grantMark {p : Nat} (hp : p < 512) (m : Nat) : t.owns m p = s.owns m p := by
  have hentry : t.ownEntry (ctlPage p) = s.ownEntry (ctlPage p) := by
    have := ctlPage_lt hp
    refine fld_of_grantMark h hk ?_ ?_ ?_ _ _ <;> simp only [R.TEN_OWN] <;> omega
  have hupd := bit_of_grantMark h hk (x := R.UPD_CTRL) (by decide) (by decide) (by decide) 0
  rw [State.owns, State.owns, State.owner, State.owner, State.ownMask, State.ownMask, hentry, hupd,
    present_of_grantMark h hk]

end GrantBytes

section ByteFields
variable (s : State) (x v : Nat) {i j : Nat}

theorem State.rd_lt : s.rd x < 2 ^ 32 := (s.regGet x).isLt

theorem byte_cases (hj : j < 4) : j = 0 ∨ j = 1 ∨ j = 2 ∨ j = 3 := by omega

theorem State.fld_putFld_byte (hj : j < 4) : (s.putFld x (8 * j + 7) (8 * j) v).fld x (8 * j + 7) (8 * j) = v % 256 := by
  have hrd := s.rd_lt x
  simp only [State.fld, State.putFld, State.rd_wr_same, nput, nf]
  obtain rfl | rfl | rfl | rfl := byte_cases hj <;> omega

theorem State.fld_putFld_otherByte (hi : i < 4) (hj : j < 4) (hne : i ≠ j) :
    (s.putFld x (8 * j + 7) (8 * j) v).fld x (8 * i + 7) (8 * i) = s.fld x (8 * i + 7) (8 * i) := by
  have hrd := s.rd_lt x
  simp only [State.fld, State.putFld, State.rd_wr_same, nput, nf]
  obtain rfl | rfl | rfl | rfl := byte_cases hj <;> obtain rfl | rfl | rfl | rfl := byte_cases hi <;> omega

end ByteFields

end Sys2Proof.Machine

namespace Sys2Proof.Machine
section GrantWord
variable {who : Init} {n k v : Nat} {s t u : State} {i j : Nat}

/-- Byte `j` of a GRANTk word. -/
abbrev grantOf (s : State) (k j : Nat) : Nat := s.fld (R.TEN_GRANT k) (8 * j + 7) (8 * j)

/-- What the judgement of byte `j` of the word `v`, made in `s`, leaves in `t` (R62). -/
def ByteJudged (who : Init) (n k v j : Nat) (s t : State) : Prop :=
  if s.allocated (4 * k + j) = true ∧ (who = .boot ∨ s.owns n (4 * k + j) = true) then
    if s.bit (hLock (4 * k + j)) 0 then
      grantOf t k j = grantOf s k j ∧
      (grantOf s k j ≠ 0x80 + nf v (8 * j + 6) (8 * j) →
        t.rd (hErrcode (4 * k + j)) = 0x80000000 + n * 2 ^ 24 + eLocked ∧
        t.rd (hErraddr (4 * k + j)) = 0x40000000 + R.TEN_GRANT k)
    else grantOf t k j = 0x80 + nf v (8 * j + 6) (8 * j)
  else grantOf t k j = grantOf s k j

theorem ByteJudged.of_right (h : ByteJudged who n k v j s u) (hgrant : grantOf t k j = grantOf u k j)
    (hcode : t.rd (hErrcode (4 * k + j)) = u.rd (hErrcode (4 * k + j)))
    (haddr : t.rd (hErraddr (4 * k + j)) = u.rd (hErraddr (4 * k + j))) : ByteJudged who n k v j s t := by
  unfold ByteJudged at *
  rwa [hgrant, hcode, haddr]

theorem ByteJudged.of_left (h : ByteJudged who n k v j u t) (halloc : u.allocated (4 * k + j) = s.allocated (4 * k + j))
    (howns : u.owns n (4 * k + j) = s.owns n (4 * k + j))
    (hlock : u.bit (hLock (4 * k + j)) 0 = s.bit (hLock (4 * k + j)) 0) (hgrant : grantOf u k j = grantOf s k j) :
    ByteJudged who n k v j s t := by
  unfold ByteJudged at *
  rwa [← halloc, ← howns, ← hlock, ← hgrant]

theorem grant_ne_errcode (k p : Nat) (hk : k < 128) : R.TEN_GRANT k ≠ hErrcode p := by
  simp only [R.TEN_GRANT, hErrcode, reg]
  omega

theorem grant_ne_erraddr (k p : Nat) (hk : k < 128) : R.TEN_GRANT k ≠ hErraddr p := by
  simp only [R.TEN_GRANT, hErraddr, reg]
  omega

/-- The new byte of a word: bit 7 always at 1. -/
theorem newByte_eq (hj : j < 4) : 0x80 + nf v (8 * j + 7) (8 * j) % 128 = 0x80 + nf v (8 * j + 6) (8 * j) := by
  simp only [nf]
  obtain rfl | rfl | rfl | rfl := byte_cases hj <;> omega

theorem newByte_lt (hj : j < 4) : nf v (8 * j + 6) (8 * j) < 128 := by
  simp only [nf]
  obtain rfl | rfl | rfl | rfl := byte_cases hj <;> omega

/-- The judgement of one byte, by its cases (R62). -/
theorem grantByte_eq (hj : j < 4) : grantByte who n (R.TEN_GRANT k) (4 * k + j, nf v (8 * j + 7) (8 * j)) s =
    if (s.allocated (4 * k + j) = true ∧ (who = .boot ∨ s.owns n (4 * k + j) = true)) ∧
        grantOf s k j ≠ 0x80 + nf v (8 * j + 6) (8 * j) then
      if s.bit (hLock (4 * k + j)) 0 then s.err (4 * k + j) n eLocked (R.TEN_GRANT k)
      else s.putFld (R.TEN_GRANT k) (8 * j + 7) (8 * j) (0x80 + nf v (8 * j + 6) (8 * j))
    else s := by
  have hmod : (4 * k + j) % 4 = j := by omega
  simp only [grantByte, hmod, newByte_eq hj, grantOf, Bool.and_eq_true, Bool.or_eq_true, beq_iff_eq, bne_iff_ne]

theorem grantByte_touches (hj : j < 4) : Touches (grantMark k (· = 4 * k + j)) s
    (grantByte who n (R.TEN_GRANT k) (4 * k + j, nf v (8 * j + 7) (8 * j)) s) := by
  rw [grantByte_eq hj]
  split
  · split
    · exact .err (.inr ⟨_, rfl, .inl rfl⟩) (.inr ⟨_, rfl, .inr rfl⟩) _ _ _
    · exact .putFld (.inl rfl) _ _ _
  · exact .refl s

theorem grantByte_other (hk : k < 128) (hi : i < 4) (hj : j < 4) (hne : i ≠ j) :
    grantOf (grantByte who n (R.TEN_GRANT k) (4 * k + j, nf v (8 * j + 7) (8 * j)) s) k i = grantOf s k i := by
  rw [grantByte_eq hj]
  split
  · split
    · simp only [grantOf, State.fld]
      rw [State.rd_err_other _ _ _ _ _ (grant_ne_errcode k _ hk) (grant_ne_erraddr k _ hk)]
    · exact s.fld_putFld_otherByte _ _ hi hj hne
  · rfl

theorem grantByte_judged (hk : k < 128) (hj : j < 4) (hn : n < 8) :
    ByteJudged who n k v j s (grantByte who n (R.TEN_GRANT k) (4 * k + j, nf v (8 * j + 7) (8 * j)) s) := by
  have hbyte := newByte_lt (v := v) hj
  have haddr : R.TEN_GRANT k < 0x40000000 := by simp only [R.TEN_GRANT]; omega
  rw [ByteJudged]
  by_cases hmay : s.allocated (4 * k + j) = true ∧ (who = .boot ∨ s.owns n (4 * k + j) = true)
  · rw [if_pos hmay]
    by_cases hnew : grantOf s k j = 0x80 + nf v (8 * j + 6) (8 * j)
    · rw [(grantByte_eq hj).trans (if_neg fun h => h.2 hnew)]
      split
      · exact ⟨rfl, fun h => absurd hnew h⟩
      · exact hnew
    · by_cases hlock : s.bit (hLock (4 * k + j)) 0 = true
      · rw [if_pos hlock, (grantByte_eq hj).trans (if_pos ⟨hmay, hnew⟩), if_pos hlock]
        refine ⟨?_, fun _ => ⟨s.rd_err_code _ _ hn (by decide), s.rd_err_addr _ _ _ haddr⟩⟩
        simp only [grantOf, State.fld]
        rw [State.rd_err_other _ _ _ _ _ (grant_ne_errcode k _ hk) (grant_ne_erraddr k _ hk)]
      · rw [if_neg hlock, (grantByte_eq hj).trans (if_pos ⟨hmay, hnew⟩), if_neg hlock, grantOf, s.fld_putFld_byte _ _ hj]
        omega
  · rw [if_neg hmay, (grantByte_eq hj).trans (if_neg fun h => hmay h.1)]

/-- The bytes of a list judged one after another: each is judged as if it stood alone. -/
structure BytesJudged (who : Init) (n k v : Nat) (l : List Nat) (s t : State) : Prop where
  touches : Touches (grantMark k fun p => ∃ j ∈ l, p = 4 * k + j) s t
  other : ∀ i, i < 4 → i ∉ l → grantOf t k i = grantOf s k i
  judged : ∀ j ∈ l, ByteJudged who n k v j s t

theorem bytesJudged (hk : k < 128) (hn : n < 8) (l : List Nat) : l.Nodup → (∀ j ∈ l, j < 4) → ∀ s : State,
    BytesJudged who n k v l s
      (forL (l.map fun j => (4 * k + j, nf v (8 * j + 7) (8 * j))) (grantByte who n (R.TEN_GRANT k)) s) := by
  induction l with
  | nil => exact fun _ _ s => ⟨.refl s, fun _ _ _ => rfl, fun _ h => absurd h (by simp)⟩
  | cons j l ih =>
    intro hnd hl s
    obtain ⟨hjl, hnd⟩ := List.nodup_cons.1 hnd
    have hj : j < 4 := hl j (by simp)
    have hl' : ∀ i ∈ l, i < 4 := fun i hi => hl i (by simp [hi])
    rw [List.map_cons, forL_cons]
    have hstep := grantByte_touches (who := who) (n := n) (k := k) (v := v) (s := s) hj
    have hown := grantByte_judged (who := who) (v := v) (s := s) hk hj hn
    have hother := fun i hi hne => grantByte_other (who := who) (n := n) (v := v) (s := s) (i := i) hk hi hj hne
    obtain ⟨htouch, hrest, hjudged⟩ := ih hnd hl' (grantByte who n (R.TEN_GRANT k) (4 * k + j, nf v (8 * j + 7) (8 * j)) s)
    refine ⟨.trans (hstep.mono ?_) (htouch.mono ?_), fun i hi hne => ?_, fun i hi => ?_⟩
    · rintro x (hx | ⟨p, rfl, hx⟩)
      · exact .inl hx
      · exact .inr ⟨_, ⟨j, by simp, rfl⟩, hx⟩
    · rintro x (hx | ⟨p, ⟨i, hi, rfl⟩, hx⟩)
      · exact .inl hx
      · exact .inr ⟨_, ⟨i, by simp [hi], rfl⟩, hx⟩
    · rw [List.mem_cons, not_or] at hne
      rw [hrest i hi hne.2, hother i hi hne.1]
    · rcases List.mem_cons.1 hi with rfl | hi
      · refine hown.of_right (hrest i hj hjl) (htouch.rd _ ?_) (htouch.rd _ ?_)
        · rintro (h | ⟨p, ⟨m, hm, rfl⟩, h | h⟩)
          · exact grant_ne_errcode k _ hk h.symm
          · exact hjl ((show m = i by simp only [hErrcode, reg] at h; omega) ▸ hm)
          · simp only [hErrcode, hErraddr, reg] at h
            omega
        · rintro (h | ⟨p, ⟨m, hm, rfl⟩, h | h⟩)
          · exact grant_ne_erraddr k _ hk h.symm
          · simp only [hErrcode, hErraddr, reg] at h
            omega
          · exact hjl ((show m = i by simp only [hErraddr, reg] at h; omega) ▸ hm)
      · have hne : i ≠ j := fun h => hjl (h ▸ hi)
        exact (hjudged i hi).of_left (allocated_of_grantMark hstep hk _)
          (owns_of_grantMark hstep hk (by have := hl' i hi; omega) _) (lock_of_grantMark hstep hk _)
          (hother i (hl' i hi) hne)

@[simp] theorem State.msixSend_mem (s : State) : s.msixSend.mem = s.mem := by rw [State.msixSend_eq]

theorem execGrantkWrite_denied {dt : Nat} {K : Fin 128} {w : Word} (hready : Ready (s.elapse dt))
    (hlive : (s.elapse dt).live who = true) (hmay : s.mayTable who K.val = false) :
    execGrantkWrite dt who K w s =
      .next ((s.elapse dt).deny who 0x00A (0x040 + 4 * K.val) true false).msixSend := by
  have hmay' : (s.elapse dt).mayTable who K.val = false := hmay
  unfold execGrantkWrite
  rw [onMain_ready hready.1 hready.2, hlive, hmay']
  rfl

end GrantWord

/-- Settles O53: the four bytes are judged one after another, and the judgement of one moves nothing that another's
depends on. -/
theorem grantTableJudgedByteByByte : Obligations.GrantTableJudgedByteByByte := by
  intro dt who k v s hready hlive hn
  refine ⟨fun hmay => execGrantkWrite_denied hready hlive hmay, fun hmay => ?_⟩
  have hmay' : (s.elapse dt).mayTable who k.val = true := hmay
  refine ⟨_, execGrantkWrite_judged hready hlive hmay', ?_⟩
  have hbytes := bytesJudged (who := who) (n := s.partNo who) (v := v.toNat) k.isLt hn (List.range 4) List.nodup_range
    (fun j hj => List.mem_range.1 hj) (s.elapse dt).ack
  obtain ⟨htouch, -, hjudged⟩ := hbytes
  have hwatch := gwyWatch_touches (forL (wordPages k.val v.toNat)
    (grantByte who (s.partNo who) (R.TEN_GRANT k.val)) (s.elapse dt).ack)
  have hgrant : ¬ gwyMark (R.TEN_GRANT k.val) :=
    not_gwyMark_of_page (by simp only [R.TEN_GRANT]; omega) (by simp only [R.TEN_GRANT]; omega)
  refine ⟨fun j hj => ?_, fun x hx h0 h3 herr => ?_, ?_, ?_⟩
  · have h : ByteJudged who (s.partNo who) k.val v.toNat j s _ :=
      (hjudged j (List.mem_range.2 hj)).of_left rfl rfl rfl rfl
    refine h.of_right ?_ ?_ ?_
    · simp only [grantOf, State.fld]
      exact congrArg (nf · _ _) ((State.rd_msixSend _ _).trans (hwatch.rd _ hgrant))
    · exact (State.rd_msixSend _ _).trans (hwatch.rd _ (not_gwyMark_header (by decide) (by decide)))
    · exact (State.rd_msixSend _ _).trans (hwatch.rd _ (not_gwyMark_header (by decide) (by decide)))
  · refine (State.rd_msixSend _ _).trans ((hwatch.rd x (not_gwyMark_of_page h0 h3)).trans (htouch.rd x ?_))
    rintro (h | ⟨p, ⟨j, hj, rfl⟩, h | h⟩)
    · exact hx h
    · exact (herr j (List.mem_range.1 hj)).1 h
    · exact (herr j (List.mem_range.1 hj)).2 h
  · exact (State.msixSend_mem _).trans (hwatch.mem.trans htouch.mem)
  · exact (State.msixSend_shadow _).trans (hwatch.shadow.trans htouch.shadow)

end Sys2Proof.Machine

namespace Sys2Proof.Machine
section Refused

/-! ### O54: a refused group of pages -/

/-- The registers of a page in which its refusal is written. -/
def refuseMark (q x : Nat) : Prop := x = hCmtstat q ∨ x = hErrcode q ∨ x = hErraddr q

/-- What a refusal keeps beside the registers: every block that decides whether a change of the program waits. -/
structure Refuses (A : Nat → Prop) (s t : State) : Prop extends Touches A s t where
  cyc : t.cyc = s.cyc

namespace Refuses
variable {A B : Nat → Prop} {s t u : State}

theorem refl (s : State) : Refuses A s s := ⟨.refl s, rfl⟩

theorem trans (h : Refuses A s t) (h' : Refuses A t u) : Refuses A s u :=
  ⟨h.toTouches.trans h'.toTouches, h'.cyc.trans h.cyc⟩

theorem mono (h : Refuses A s t) (hAB : ∀ x, A x → B x) : Refuses B s t := ⟨h.toTouches.mono hAB, h.cyc⟩

theorem wr {x : Nat} (hx : A x) (n : Nat) : Refuses A s (s.wr x n) := ⟨.wr hx n, State.wr_cyc s x n⟩

/-- Whether a change of the program waits does not depend on the registers in which a refusal is written. -/
theorem chgPends (h : Refuses A s t) (q : Nat) (hstat : ¬ A (hStat q)) : t.chgPends q = s.chgPends q := by
  simp only [State.chgPends, State.fld, h.rd _ hstat, h.cyc]

end Refuses

variable {s : State} {q : Nat}

/-- A page that ends its commit shows the state, the reason and the table entry named. -/
theorem endCmtstat_refuses (s : State) (q st reason table : Nat) :
    Refuses (refuseMark q) s ((s.setPend q {}).endCmtstat q st reason table) :=
  .trans (t := s.setPend q {}) ⟨.of_regs rfl rfl rfl, rfl⟩ (.wr (Or.inl rfl) _)

theorem err_refuses (s : State) (q part code x : Nat) : Refuses (refuseMark q) s (s.err q part code x) :=
  .trans (.wr (.inr (.inl rfl)) _) (.wr (.inr (.inr rfl)) _)

theorem errAt_refuses (s : State) (q part code x : Nat) : Refuses (refuseMark q) s (s.errAt q part code x) :=
  .trans (.wr (.inr (.inl rfl)) _) (.wr (.inr (.inr rfl)) _)

theorem errOpen_refuses (s : State) (q part code : Nat) : Refuses (refuseMark q) s (s.errOpen q part code) :=
  .trans (t := (s.draw 32).2) ⟨.of_regs rfl rfl rfl, rfl⟩ (errAt_refuses _ _ _ _ _)

/-- An error record leaves CMTSTAT. -/
theorem cmtstat_errAt (s : State) (q part code x : Nat) : (s.errAt q part code x).rd (hCmtstat q) = s.rd (hCmtstat q) := by
  rw [State.errAt, State.rd_wr_other _ _ (by simp), State.rd_wr_other _ _ (by simp)]

/-- The low bits of CMTSTAT where no change of the program waits: the state named. -/
theorem endCmtstat_state (hchg : s.chgPends q = false) (reason table : Nat) :
    nf (((s.setPend q {}).endCmtstat q 3 reason table).rd (hCmtstat q)) 1 0 = 3 := by
  have hchg' : (s.setPend q {}).chgPends q = false := hchg
  rw [State.endCmtstat, hchg', State.setCmtstat, State.putFld, State.rd_wr_same]
  simp only [nf, nput, Bool.false_eq_true, if_false]
  omega

theorem refuseCommit_refuses (s : State) (q : Nat) (v : Verdict) : Refuses (refuseMark q) s (s.refuseCommit q v) := by
  cases v with
  | ok => exact endCmtstat_refuses s q _ _ _
  | table c => exact endCmtstat_refuses s q _ _ _
  | range => exact endCmtstat_refuses s q _ _ _
  | coded c => exact (endCmtstat_refuses s q _ _ _).trans (err_refuses _ _ _ _ _)
  | codedAt c a => exact (endCmtstat_refuses s q _ _ _).trans (errAt_refuses _ _ _ _ _)
  | codedOpen c => exact (endCmtstat_refuses s q _ _ _).trans (errOpen_refuses _ _ _ _)

/-- A refused page without a waiting change shows STATE 3 REFUSED, whatever its verdict. -/
theorem refuseCommit_state (hchg : s.chgPends q = false) (v : Verdict) :
    nf ((s.refuseCommit q v).rd (hCmtstat q)) 1 0 = 3 := by
  cases v with
  | ok => exact endCmtstat_state hchg _ _
  | table c => exact endCmtstat_state hchg _ _
  | range => exact endCmtstat_state hchg _ _
  | coded c =>
    rw [State.refuseCommit, State.rd_err_other _ _ _ _ _ (by simp) (by simp)]
    exact endCmtstat_state hchg _ _
  | codedAt c a =>
    rw [State.refuseCommit, cmtstat_errAt]
    exact endCmtstat_state hchg _ _
  | codedOpen c =>
    rw [State.refuseCommit, State.errOpen, cmtstat_errAt]
    exact endCmtstat_state hchg _ _

theorem not_refuseMark_stat (l : List Nat) (q : Nat) : ¬ ∃ p ∈ l, refuseMark p (hStat q) := by
  rintro ⟨p, -, h | h | h⟩ <;> simp only [hStat, hCmtstat, hErrcode, hErraddr, reg] at h <;> omega

theorem refuseMark_cmtstat {p q : Nat} (h : refuseMark p (hCmtstat q)) : p = q := by
  rcases h with h | h | h <;> simp only [hCmtstat, hErrcode, hErraddr, reg] at h <;> omega

/-- The pages of a group refused one after another. -/
theorem refuseCommits (f : Nat → Verdict) (l : List Nat) : ∀ s : State,
    Refuses (fun x => ∃ q ∈ l, refuseMark q x) s (forL l (fun q t => t.refuseCommit q (f q)) s) ∧
    ∀ q ∈ l, s.chgPends q = false →
      nf ((forL l (fun q t => t.refuseCommit q (f q)) s).rd (hCmtstat q)) 1 0 = 3 := by
  induction l with
  | nil => exact fun s => ⟨.refl s, fun _ h => absurd h (by simp)⟩
  | cons p l ih =>
    intro s
    rw [forL_cons]
    have hp := refuseCommit_refuses s p (f p)
    obtain ⟨htouch, hstate⟩ := ih (s.refuseCommit p (f p))
    have hchg : ∀ q, (s.refuseCommit p (f p)).chgPends q = s.chgPends q :=
      fun q => hp.chgPends q fun h => not_refuseMark_stat [p] q ⟨p, by simp, h⟩
    refine ⟨(hp.mono fun x hx => ⟨p, by simp, hx⟩).trans (htouch.mono ?_), fun q hq hnone => ?_⟩
    · rintro x ⟨q, hq, hx⟩
      exact ⟨q, by simp [hq], hx⟩
    · by_cases hql : q ∈ l
      · exact hstate q hql ((hchg q).trans hnone)
      · obtain rfl : q = p := (List.mem_cons.1 hq).resolve_right hql
        rw [htouch.rd (hCmtstat q) fun ⟨p, hpl, hx⟩ => hql (refuseMark_cmtstat hx ▸ hpl)]
        exact refuseCommit_state hnone _

end Refused

/-- Settles O54: the group is refused page by page, and a refusal writes CMTSTAT and the error record of its own page
alone. -/
theorem refusedCommitChangesNoRegister : Obligations.RefusedCommitChangesNoRegister := by
  intro dt p s hready hpend harmed ht0 hhalted hwaits hfail
  obtain ⟨-, -, -, -, -, -, -, hdoes⟩ := changeAndCommitBoundariesComplete 0 p
  obtain ⟨htouch, hstate⟩ := refuseCommits ((s.elapse dt).pageCheck ((s.elapse dt).commitGroup p.val))
    ((s.elapse dt).commitGroup p.val) (s.elapse dt)
  refine ⟨_, hdoes dt s rfl ⟨hready, hpend, harmed, ht0, hhalted, hwaits, hfail⟩, ?_, ?_,
    fun q hq hchg => ?_, fun x hx => ?_,
    fun q hq => ?_⟩
  · exact (State.msixSend_shadow _).trans htouch.shadow
  · exact (State.msixSend_mem _).trans htouch.mem
  · rw [State.rd_msixSend]
    exact hstate q hq hchg
  · refine (State.rd_msixSend _ _).trans (htouch.rd x ?_)
    rintro ⟨q, hq, h | h | h⟩
    · exact (hx q hq).1 h
    · exact (hx q hq).2.1 h
    · exact (hx q hq).2.2 h
  · refine (State.rd_msixSend _ _).trans (htouch.rd _ ?_)
    rintro ⟨q, hq, h | h | h⟩ <;> simp only [hGen, hCmtstat, hErrcode, hErraddr, reg] at h <;> omega

end Sys2Proof.Machine

namespace Sys2Proof.Machine

/-! ### The access fault (R20) -/

/-- Of registers, shadows, memory bytes and the queue, only registers of `A` differ. -/
structure Records (A : Nat → Prop) (s t : State) : Prop where
  rd : ∀ x, ¬ A x → t.rd x = s.rd x
  shadow : t.shadow = s.shadow
  dram : t.mem.dram = s.mem.dram
  sram : t.mem.sram = s.mem.sram
  pending : t.pending = s.pending

namespace Records
variable {A B : Nat → Prop} {s t u : State}

theorem refl (s : State) : Records A s s := ⟨fun _ _ => rfl, rfl, rfl, rfl, rfl⟩

theorem trans (h : Records A s t) (h' : Records A t u) : Records A s u :=
  ⟨fun x hx => (h'.rd x hx).trans (h.rd x hx), h'.shadow.trans h.shadow, h'.dram.trans h.dram, h'.sram.trans h.sram,
    h'.pending.trans h.pending⟩

theorem mono (h : Records A s t) (hAB : ∀ x, A x → B x) : Records B s t :=
  ⟨fun x hx => h.rd x fun ha => hx (hAB x ha), h.shadow, h.dram, h.sram, h.pending⟩

theorem of_regs (hr : t.regs = s.regs) (hs : t.shadow = s.shadow) (hd : t.mem.dram = s.mem.dram)
    (hm : t.mem.sram = s.mem.sram) (hp : t.pending = s.pending) : Records A s t :=
  ⟨fun x _ => rd_of_regs hr x, hs, hd, hm, hp⟩

theorem wr {x : Nat} (hx : A x) (n : Nat) : Records A s (s.wr x n) :=
  ⟨fun _ hy => s.rd_wr_other n fun h => hy (h ▸ hx), State.wr_shadow s x n, congrArg MemS.dram (State.wr_mem s x n),
    congrArg MemS.sram (State.wr_mem s x n), State.wr_pending s x n⟩

theorem putBit {x : Nat} (hx : A x) (i : Nat) (b : Bool) : Records A s (s.putBit x i b) := wr hx _

theorem raise {p : Nat} (hx : A (hEvraw p)) (b : Nat) : Records A s (s.raise p b) := putBit hx _ _

end Records

/-- The registers in which an access fault is recorded: the error record, the event and the overflow of the error log of
MEM. -/
def faultMark (x : Nat) : Prop := x = hErrcode 0x028 ∨ x = hErraddr 0x028 ∨ x = hEvraw 0x028 ∨ x = R.MEM_ELOVF

section BusFault
variable (s : State)

theorem errAt_records (part code a : Nat) : Records faultMark s (s.errAt 0x028 part code a) :=
  .trans (.wr (.inl rfl) _) (.wr (.inr (.inl rfl)) _)

theorem logErr_records (addr part source num code syn blk : Nat) :
    Records faultMark s (s.logErr addr part source num code syn blk) := by
  unfold State.logErr
  dsimp only
  split
  · exact .of_regs rfl rfl rfl rfl rfl
  · refine .trans ?_ (.raise (.inr (.inr (.inl rfl))) _)
    refine .trans ?_ (.putBit (.inr (.inr (.inr rfl))) _ _)
    exact .of_regs rfl rfl rfl rfl rfl

theorem except_records (n : Nat) (r : Option Nat → Resp) : Records faultMark s (s.except n r) := by
  unfold State.except
  split <;> exact .of_regs rfl rfl rfl rfl rfl

theorem busFault_records (who : Init) (addr : Nat) : Records faultMark s (s.busFault who addr) :=
  (errAt_records s _ _ _).trans ((logErr_records _ _ _ _ _ _ _ _).trans
    (.trans (.raise (.inr (.inr (.inl rfl))) _) (except_records _ _ _)))

/-- An access fault answers the fault, in a D-section through the vector of its program (R20, R75). -/
theorem busFault_resp (who : Init) (addr : Nat) : ∃ v, (s.busFault who addr).resp = .fault v := by
  unfold State.busFault State.except
  dsimp only
  split
  · exact ⟨_, rfl⟩
  · exact ⟨_, rfl⟩

end BusFault

/-! ### O57: a DRAM access of clean words -/

section Bytes

theorem fromBytes_bytesOf (n : Nat) : ∀ v, fromBytes (bytesOf n v) = v % 2 ^ (8 * n) := by
  induction n with
  | zero => intro v; simp [bytesOf, fromBytes, Nat.mod_one]
  | succ n ih =>
    intro v
    rw [bytesOf, fromBytes, ih, show 2 ^ (8 * (n + 1)) = 256 * 2 ^ (8 * n) by rw [Nat.mul_succ, Nat.pow_add]; omega,
      Nat.mod_mul, Nat.mod_mod]

theorem fromBytes_mod (l : List Nat) : fromBytes (l.map (· % 256)) = fromBytes l := by
  induction l with
  | nil => rfl
  | cons b l ih => rw [List.map_cons, fromBytes, fromBytes, ih, Nat.mod_mod]

@[simp] theorem length_bytesOf (n : Nat) : ∀ v, (bytesOf n v).length = n := by
  induction n with
  | zero => exact fun _ => rfl
  | succ n ih => intro v; rw [bytesOf, List.length_cons, ih]

/-- The bytes stored are read back, each in its low eight bits. -/
theorem memBytes_memPut (m : Tab Byte) (o : Nat) (bs : List Nat) :
    memBytes (memPut m o bs) o bs.length = bs.map (· % 256) := by
  refine List.ext_getElem (by simp [memBytes]) fun i h _ => ?_
  have hi : i < bs.length := by simpa [memBytes] using h
  simp [memBytes, memGet_memPut_in m o i bs hi, hi]

theorem State.dramNum_dramPut (s : State) (o n v : Nat) : (s.dramPut o (bytesOf n v)).dramNum o n = v % 2 ^ (8 * n) := by
  have h := memBytes_memPut s.mem.dram o (bytesOf n v)
  rw [length_bytesOf] at h
  change fromBytes (memBytes (memPut s.mem.dram o (bytesOf n v)) o n) = _
  rw [h, fromBytes_mod, fromBytes_bytesOf]

end Bytes

section CleanAccess
variable (s : State) (who : Init) (a o n : Nat) (op : BusOp)

theorem State.upset2_zero : s.upset2 o 0 = s := by
  rw [State.upset2, State.upset, State.upset, if_pos (.inl rfl), if_pos (.inl rfl)]

variable {s o n}

/-- Words with clean check bits meet nothing. -/
theorem State.dramRead_clean (hsyn : s.mem.syn.filter (fun e => decide (o < 8 * e.1 + 8) && decide (8 * e.1 < o + n)) = [])
    (part source num ueCode blk : Nat) : s.dramRead o n part source num ueCode blk = s := by
  rw [State.dramRead, hsyn]
  rfl

variable (hpoison : s.firstPoison o n = none)
  (hsyn : s.mem.syn.filter (fun e => decide (o < 8 * e.1 + 8) && decide (8 * e.1 < o + n)) = [])
include hsyn

/-- Without a window an access is an access fault, and a prefetch does nothing. -/
theorem dramAccess_windowless (hwin : s.dramWindow who o n (wants op) = none) :
    s.dramAccess who a o n op 0 = if op = .ahead then s else s.busFault who a := by
  unfold State.dramAccess
  simp only [hwin, State.upset2_zero, State.dramRead_clean hsyn, ite_self]

include hpoison

/-- With a window an access of clean words is its memory operation alone. -/
theorem dramAccess_clean {w : Nat} (hwin : s.dramWindow who o n (wants op) = some w) :
    s.dramAccess who a o n op 0 = s.memOp who a n op (s.dramNum o n) fun t v => t.dramPut o (bytesOf n v) := by
  unfold State.dramAccess
  simp only [hwin, State.upset2_zero, State.dramRead_clean hsyn, ite_self, hpoison]

end CleanAccess

/-- A memory operation and its answer, by the operation: what the bytes stored are, and which bytes differ. -/
def OpDone (s t : State) (who : Init) (a o n : Nat) : BusOp → Prop
  | .load | .fetch | .lr => t.mem.dram = s.mem.dram ∧ t.resp = .data (s.dramNum o n)
  | .ahead => t.mem.dram = s.mem.dram ∧ t.resp = s.resp
  | .store v => t.dramNum o n = v.toNat % 2 ^ (8 * n) ∧ t.resp = .done
  | .amo f v => t.dramNum o n = amoApply f (8 * n) (s.dramNum o n) (v.toNat % 2 ^ (8 * n)) % 2 ^ (8 * n) ∧
      t.resp = .data (s.dramNum o n)
  | .sc v => if (s.scWins who a n).1 then t.dramNum o n = v.toNat % 2 ^ (8 * n) ∧ t.resp = .data 0
      else t.mem.dram = s.mem.dram ∧ t.resp = .data 1

section MemOp
variable (s : State) (who : Init) (a o n : Nat)

/-- The DRAM operation as `dramAccess` issues it. -/
abbrev State.dramOp (op : BusOp) : State :=
  s.memOp who a n op (s.dramNum o n) fun t v => t.dramPut o (bytesOf n v)

/-- Where a reservation is kept, the DRAM is as the store left it. -/
theorem dramOp_store_dram (v : BitVec 64) :
    (s.dramOp who a o n (.store v)).mem.dram = (s.dramPut o (bytesOf n (v.toNat % 2 ^ (8 * n)))).mem.dram := by
  simp only [State.dramOp, State.memOp]
  split <;> rfl

theorem dramOp_amo_dram (f : AmoOp) (v : BitVec 64) : (s.dramOp who a o n (.amo f v)).mem.dram =
    (s.dramPut o (bytesOf n (amoApply f (8 * n) (s.dramNum o n) (v.toNat % 2 ^ (8 * n))))).mem.dram := by
  simp only [State.dramOp, State.memOp]
  split <;> rfl

theorem scWins_dram : (s.scWins who a n).2.mem.dram = s.mem.dram := by
  unfold State.scWins
  dsimp only
  split
  · rfl
  · split <;> rfl

theorem dramOp_sc_dram (v : BitVec 64) : (s.dramOp who a o n (.sc v)).mem.dram =
    if (s.scWins who a n).1 then (s.dramPut o (bytesOf n (v.toNat % 2 ^ (8 * n)))).mem.dram else s.mem.dram := by
  simp only [State.dramOp, State.memOp]
  split
  · exact congrArg (memPut · o _) (scWins_dram s who a n)
  · exact scWins_dram s who a n

/-- The number in a DRAM depends on its bytes alone. -/
theorem dramNum_of_dram {s t : State} (h : t.mem.dram = s.mem.dram) : t.dramNum o n = s.dramNum o n := by
  rw [State.dramNum, h, State.dramNum]

theorem dramOp_done (op : BusOp) : OpDone s (s.dramOp who a o n op) who a o n op := by
  cases op with
  | load => exact ⟨rfl, rfl⟩
  | fetch => exact ⟨rfl, rfl⟩
  | ahead => exact ⟨rfl, rfl⟩
  | lr => exact ⟨rfl, rfl⟩
  | store v =>
    refine ⟨?_, rfl⟩
    rw [dramNum_of_dram o n (dramOp_store_dram s who a o n v), State.dramNum_dramPut, Nat.mod_mod]
  | amo f v =>
    refine ⟨?_, rfl⟩
    rw [dramNum_of_dram o n (dramOp_amo_dram s who a o n f v), State.dramNum_dramPut]
  | sc v =>
    have hdram := dramOp_sc_dram s who a o n v
    rw [OpDone]
    split
    next hwins =>
      rw [if_pos hwins] at hdram
      refine ⟨?_, ?_⟩
      · rw [dramNum_of_dram o n hdram, State.dramNum_dramPut, Nat.mod_mod]
      · simp only [State.dramOp, State.memOp, if_pos hwins]
    next hwins =>
      rw [if_neg hwins] at hdram
      refine ⟨hdram, ?_⟩
      simp only [State.dramOp, State.memOp, if_neg hwins]

/-- A store of `n` bytes at `o` leaves the bytes outside. -/
theorem dramPut_outside (v : Nat) {x : Nat} (h : x < o ∨ o + n ≤ x) :
    memGet (s.dramPut o (bytesOf n v)).mem.dram x = memGet s.mem.dram x :=
  memGet_memPut_out _ o x _ (by rwa [length_bytesOf])

theorem dramOp_outside (op : BusOp) {x : Nat} (h : x < o ∨ o + n ≤ x) :
    memGet (s.dramOp who a o n op).mem.dram x = memGet s.mem.dram x := by
  cases op with
  | load => rfl
  | fetch => rfl
  | ahead => rfl
  | lr => rfl
  | store v => rw [dramOp_store_dram, dramPut_outside s o n _ h]
  | amo f v => rw [dramOp_amo_dram, dramPut_outside s o n _ h]
  | sc v =>
    rw [dramOp_sc_dram]
    split
    · exact dramPut_outside s o n _ h
    · rfl

end MemOp

/-- Settles O57: an access of clean words is its memory operation where a window allows it, and an access fault or nothing
where none does. -/
theorem dramAccessTouchesOnlyItsBytes : Obligations.DramAccessTouchesOnlyItsBytes := by
  intro s who a o n op _ hpoison hsyn
  dsimp only
  constructor
  · intro hwin
    rw [dramAccess_windowless who a op hsyn hwin]
    split
    next hahead => exact ⟨rfl, fun h => absurd hahead h, fun _ _ => rfl⟩
    next =>
      have hrec := busFault_records s who a
      refine ⟨hrec.dram, fun _ => busFault_resp s who a, fun x hx => hrec.rd x ?_⟩
      simpa [faultMark] using hx
  · intro hwin
    obtain ⟨w, hw⟩ := Option.ne_none_iff_exists'.1 hwin
    rw [dramAccess_clean who a op hpoison hsyn hw]
    refine ⟨fun x hx => dramOp_outside s who a o n op hx, ?_⟩
    have hdone := dramOp_done s who a o n op
    cases op <;> exact hdone

end Sys2Proof.Machine

namespace Sys2Proof.Machine

/-- The main domain is at work, and no page has an owner. -/
def unownedCase : State := { sys := { on := true } }

/-- The owner that a command leaves at table position `q`. -/
def ownerAfter (q : Nat) : Host.Outcome State Fault Refusal → Option (Option Nat)
  | .next t => some (t.owner q)
  | _ => none

/-- Refutes O56: its owners range over every number, and not over the 512 pages. The ownership entry of position 0x2000 is
the register at 0x9040 + 0x2000, and that is DENYCNT, which every denied write counts up: here a write of page 0 by
Cricket, which does not own it. -/
theorem not_deniedWriteHasNoEffect : ¬ Obligations.DeniedWriteHasNoEffect := by
  unfold Obligations.DeniedWriteHasNoEffect
  rintro ⟨hwrites, -⟩
  obtain ⟨k, -, hdenied⟩ := hwrites (.registerWrite 0 .cricket 0 0 0) .cricket 0 0 unownedCase rfl rfl rfl rfl
  obtain ⟨t, f, hexec, -, -, -, -, -, -, howner, -⟩ := hdenied rfl (by decide +kernel)
  have hafter : ownerAfter 0x2000 (exec (.registerWrite 0 .cricket 0 0 0) unownedCase) = some (some 0) := by
    decide +kernel
  have hbefore : unownedCase.owner 0x2000 = none := by decide +kernel
  rw [hexec, ownerAfter, howner, hbefore] at hafter
  exact absurd hafter (by decide)

end Sys2Proof.Machine

namespace Sys2Proof.Machine

/-! ### The queue and the ticks of a state -/

/-- What no operation of a block touches: the commands that wait, and the ticks that have passed. -/
def State.agenda (s : State) : List Instr × Nat := (s.pending, s.ticks)

section Agenda
variable {α β : Type}

/-- A record with the queue and the ticks of `s` has its agenda, whatever its other parts. -/
@[simp] theorem State.agenda_mk (s : State) (mtime regs shadow resp free ten sys host cyc axs rdn tri dio sfn pad pre drc sar
    loop can tmb eth gwy hrb mem upd mgt pmc evr life) :
    (State.mk s.ticks mtime regs shadow resp free ten sys host cyc axs rdn tri dio sfn pad pre drc sar loop can tmb eth gwy
      hrb mem upd mgt pmc evr life s.pending).agenda = s.agenda := by rw [State.agenda, State.agenda]

@[simp] theorem agenda_ite (c : Prop) {_ : Decidable c} (s t : State) :
    (if c then s else t).agenda = if c then s.agenda else t.agenda := apply_ite ..

@[simp] theorem agenda_ite_fst (c : Prop) {_ : Decidable c} (s t : State × α) :
    (if c then s else t).1.agenda = if c then s.1.agenda else t.1.agenda := by split <;> rfl

@[simp] theorem agenda_ite_snd (c : Prop) {_ : Decidable c} (s t : α × State) :
    (if c then s else t).2.agenda = if c then s.2.agenda else t.2.agenda := by split <;> rfl

/-- A loop whose steps leave the agenda leaves it. -/
@[simp] theorem agenda_foldl (l : List α) (f : State → α → State) (hf : ∀ t a, (f t a).agenda = t.agenda) (s : State) :
    (l.foldl f s).agenda = s.agenda :=
  foldl_keeps (fun t => t.agenda = s.agenda) l f (fun t a h => (hf t a).trans h) s rfl

@[simp] theorem agenda_forL (l : List α) (f : α → State → State) (hf : ∀ a t, (f a t).agenda = t.agenda) (s : State) :
    (forL l f s).agenda = s.agenda := agenda_foldl l _ (fun t a => hf a t) s

@[simp] theorem agenda_forN (n : Nat) (f : Nat → State → State) (hf : ∀ a t, (f a t).agenda = t.agenda) (s : State) :
    (forN n f s).agenda = s.agenda := agenda_foldl _ _ (fun t a => hf a t) s

@[simp] theorem agenda_foldl_fst (l : List α) (f : State × β → α → State × β)
    (hf : ∀ t a, (f t a).1.agenda = t.1.agenda) (s : State × β) : (l.foldl f s).1.agenda = s.1.agenda :=
  foldl_keeps (fun t => t.1.agenda = s.1.agenda) l f (fun t a h => (hf t a).trans h) s rfl

@[simp] theorem agenda_foldl_snd (l : List α) (f : β × State → α → β × State)
    (hf : ∀ t a, (f t a).2.agenda = t.2.agenda) (s : β × State) : (l.foldl f s).2.agenda = s.2.agenda :=
  foldl_keeps (fun t => t.2.agenda = s.2.agenda) l f (fun t a h => (hf t a).trans h) s rfl

@[simp] theorem agenda_forL_fst (l : List α) (f : α → State × β → State × β)
    (hf : ∀ a t, (f a t).1.agenda = t.1.agenda) (s : State × β) : (forL l f s).1.agenda = s.1.agenda :=
  agenda_foldl_fst l _ (fun t a => hf a t) s

@[simp] theorem agenda_forN_fst (n : Nat) (f : Nat → State × β → State × β)
    (hf : ∀ a t, (f a t).1.agenda = t.1.agenda) (s : State × β) : (forN n f s).1.agenda = s.1.agenda :=
  agenda_foldl_fst _ _ (fun t a => hf a t) s

@[simp] theorem agenda_forN_snd (n : Nat) (f : Nat → β × State → β × State)
    (hf : ∀ a t, (f a t).2.agenda = t.2.agenda) (s : β × State) : (forN n f s).2.agenda = s.2.agenda :=
  agenda_foldl_snd _ _ (fun t a => hf a t) s

end Agenda

/-- A command answers a next state with the agenda `a`. -/
def Answers (a : List Instr × Nat) (o : Host.Outcome State Fault Refusal) : Prop := ∃ t, o = .next t ∧ t.agenda = a

theorem answers_next {a : List Instr × Nat} {t : State} (h : t.agenda = a) : Answers a (.next t) := ⟨t, rfl, h⟩

end Sys2Proof.Machine

namespace Sys2Proof.Machine

/-! ### The queue and the ticks after the operations of Ops.lean -/

@[simp] theorem State.regSet_agenda (s : State) (x : Nat) (w : Word) : (s.regSet x w).agenda = s.agenda := by
  simp [State.regSet]

@[simp] theorem State.wr_agenda (s : State) (x x3 : Nat) : (s.wr x x3).agenda = s.agenda := by simp [State.wr]

@[simp] theorem State.errAt_agenda (s : State) (p part code a : Nat) : (s.errAt p part code a).agenda = s.agenda := by
  simp [State.errAt]

@[simp] theorem State.putBit_agenda (s : State) (x i : Nat) (x4 : Bool) : (s.putBit x i x4).agenda = s.agenda := by
  simp [State.putBit]

@[simp] theorem State.raise_agenda (s : State) (p x3 : Nat) : (s.raise p x3).agenda = s.agenda := by simp [State.raise]

@[simp] theorem State.incSat_agenda (s : State) (x : Nat) : (s.incSat x).agenda = s.agenda := by simp [State.incSat]

@[simp] theorem State.err_agenda (s : State) (p part code x : Nat) : (s.err p part code x).agenda = s.agenda := by
  simp [State.err]

@[simp] theorem State.draw_agenda (s : State) (w : Nat) : (s.draw w).2.agenda = s.agenda := by simp [State.draw]

@[simp] theorem State.errOpen_agenda (s : State) (p part code : Nat) : (s.errOpen p part code).agenda = s.agenda := by
  simp [State.errOpen]

@[simp] theorem State.raiseIf_agenda (s : State) (c : Bool) (p x4 : Nat) : (s.raiseIf c p x4).agenda = s.agenda := by
  simp [State.raiseIf]

@[simp] theorem State.addSat_agenda (s : State) (x x3 : Nat) :
    (s.addSat x x3).agenda = s.agenda := by simp [State.addSat]

@[simp] theorem State.putFld_agenda (s : State) (x : Nat) (hi lo v : Nat) : (s.putFld x hi lo v).agenda = s.agenda := by
  simp [State.putFld]

/-- Time that passes lets the queue be. -/
theorem State.elapse_agenda (s : State) (k : Nat) : (s.elapse k).agenda = (s.pending, s.ticks + k) := rfl

@[simp] theorem State.elapse_zero_agenda (s : State) : (s.elapse 0).agenda = s.agenda := rfl

@[simp] theorem State.wr64_agenda (s : State) (x x3 : Nat) : (s.wr64 x x3).agenda = s.agenda := by simp [State.wr64]

@[simp] theorem State.incSatF_agenda (s : State) (x : Nat) (hi lo : Nat) : (s.incSatF x hi lo).agenda = s.agenda := by
  simp [State.incSatF]

@[simp] theorem State.srcReport_agenda (s : State) (sel : MapEnt → Bool) (take : State → MapEnt → List Nat × Nat × Nat) :
    (s.srcReport sel take).agenda = s.agenda := by
  refine agenda_forN _ _ (fun a t => ?_) _
  dsimp only
  repeat' split
  all_goals simp

@[simp] theorem State.dropShadows_agenda (s : State) (p : Nat) : (s.dropShadows p).agenda = s.agenda := by
  simp [State.dropShadows]

@[simp] theorem State.zero_agenda (s : State) (xs : List Nat) : (s.zero xs).agenda = s.agenda := by simp [State.zero]

@[simp] theorem State.setPstate_agenda (s : State) (x2 code : Nat) : (s.setPstate x2 code).agenda = s.agenda := by
  simp [State.setPstate]

@[simp] theorem State.dramPut_agenda (s : State) (o : Nat) (bs : List Nat) : (s.dramPut o bs).agenda = s.agenda := by
  simp [State.dramPut]

@[simp] theorem State.incWrap_agenda (s : State) (x : Nat) : (s.incWrap x).agenda = s.agenda := by simp [State.incWrap]

@[simp] theorem State.setShadow_agenda (s : State) (x x3 : Nat) : (s.setShadow x x3).agenda = s.agenda := by
  simp [State.setShadow]

@[simp] theorem State.incWrapF_agenda (s : State) (x : Nat) (hi lo : Nat) : (s.incWrapF x hi lo).agenda = s.agenda := by
  simp [State.incWrapF]

@[simp] theorem State.incWrap64_agenda (s : State) (x : Nat) : (s.incWrap64 x).agenda = s.agenda := by
  simp [State.incWrap64]

/-! ### The queue and the ticks after the operations of Access.lean -/

@[simp] theorem State.logErr_agenda (s : State) (addr part source num code syn blk : Nat) :
    (s.logErr addr part source num code syn blk).agenda = s.agenda := by simp [State.logErr]

@[simp] theorem State.except_agenda (s : State) (x2 : Nat) (r : Option Nat → Resp) :
    (s.except x2 r).agenda = s.agenda := by
  simp [State.except]

@[simp] theorem State.busFault_agenda (s : State) (who : Init) (addr : Nat) :
    (s.busFault who addr).agenda = s.agenda := by
  simp [State.busFault]

@[simp] theorem State.deny_agenda (s : State) (who : Init) (p o : Nat) (write width : Bool) :
    (s.deny who p o write width).agenda = s.agenda := by
  unfold State.deny
  simp

@[simp] theorem State.cmdR_agenda (s : State) (who : Init) (p o : Nat) (f : Nat → State → State)
    (hf : ∀ y0 y1, (f y0 y1).agenda = y1.agenda) :
    (s.cmdR who p o f).agenda = s.agenda := by
  simp [State.cmdR, *]

@[simp] theorem State.cmdW_agenda (s : State) (who : Init) (p o : Nat) (f : Nat → State → State)
    (hf : ∀ y0 y1, (f y0 y1).agenda = y1.agenda) :
    (s.cmdW who p o f).agenda = s.agenda := by
  simp [State.cmdW, *]

@[simp] theorem State.keyed_agenda (s : State) (p o part key : Nat) (v : Word) (f : State → State)
    (hf : ∀ y0, (f y0).agenda = y0.agenda) :
    (s.keyed p o part key v f).agenda = s.agenda := by
  simp [State.keyed, *]

@[simp] theorem State.replicaErr_agenda (s : State) (p : Nat) : (s.replicaErr p).agenda = s.agenda := by
  simp [State.replicaErr]

@[simp] theorem onOne_agenda (v : Word) (f : State → State) (s : State) (hf : ∀ y0, (f y0).agenda = y0.agenda) :
    (onOne v f s).agenda = s.agenda := by
  simp [onOne, *]

/-! ### The queue and the ticks after the operations of Chain.lean -/

@[simp] theorem State.streamTo_agenda (s : State) (x2 top : Nat) (w : ChIn) :
    (s.streamTo x2 top w).1.agenda = s.agenda := by
  simp [State.streamTo]

/-! ### The queue and the ticks after the operations of Evf.lean -/

@[simp] theorem State.msixSend_agenda (s : State) : s.msixSend.agenda = s.agenda := by simp [State.msixSend]

theorem onMain_answers {dt : Nat} {s : State} {f : State → State} (hf : ∀ u, (f u).agenda = u.agenda) :
    Answers (s.elapse dt).agenda (onMain dt s f) := answers_next (by simp [hf])

theorem guarded_answers {ok : Bool} {dt : Nat} {s : State} {r : Host.Outcome State Fault Refusal}
    (hr : Answers (s.elapse dt).agenda r) : Answers (s.elapse dt).agenda (guarded ok dt s r) := by
  unfold guarded
  split
  · exact hr
  · exact answers_next rfl

theorem always_answers {dt : Nat} {s : State} {f : State → State} (hf : ∀ u, (f u).agenda = u.agenda) :
    Answers (s.elapse dt).agenda (always dt s f) := answers_next (by simp [hf])

theorem onShed_answers {dt : Nat} {s : State} {f : State → State} (hf : ∀ u, (f u).agenda = u.agenda) :
    Answers (s.elapse dt).agenda (onShed dt s f) := answers_next (by split <;> simp [hf])

/-! ### The queue and the ticks after the operations of Ten.lean -/

@[simp] theorem State.setPend_agenda (s : State) (p : Nat) (c : Pend) : (s.setPend p c).agenda = s.agenda := by
  simp [State.setPend]

@[simp] theorem State.markBoundary_agenda (s : State) (p : Nat) : (s.markBoundary p).agenda = s.agenda := by
  simp [State.markBoundary]

@[simp] theorem State.markPages_agenda (s : State) (sel : Nat → Pend → Bool) : (s.markPages sel).agenda = s.agenda := by
  simp [State.markPages]

theorem execDenypop_answers (dt : Nat) (who : Init) (s : State) : Answers (s.elapse dt).agenda
    (execDenypop dt who s) := by
  unfold execDenypop
  refine onMain_answers fun u => ?_
  refine State.cmdR_agenda _ _ _ _ _ fun n u => ?_
  dsimp only
  repeat' split
  all_goals simp

@[simp] theorem State.setCmtstat_agenda (s : State) (p st reason table : Nat) :
    (s.setCmtstat p st reason table).agenda = s.agenda := by simp [State.setCmtstat]

@[simp] theorem State.endCmtstat_agenda (s : State) (p st reason table : Nat) :
    (s.endCmtstat p st reason table).agenda = s.agenda := by simp [State.endCmtstat]

@[simp] theorem State.discard_agenda (s : State) (p reason : Nat) : (s.discard p reason).agenda = s.agenda := by
  simp [State.discard]

@[simp] theorem State.discardPending_agenda (s : State) (p reason : Nat) :
    (s.discardPending p reason).agenda = s.agenda := by
  simp [State.discardPending]

@[simp] theorem State.setOwner_agenda (s : State) (p m : Nat) : (s.setOwner p m).agenda = s.agenda := by
  simp [State.setOwner]

@[simp] theorem State.tryOwner_agenda (s : State) (x2 p m x : Nat) : (s.tryOwner x2 p m x).agenda = s.agenda := by
  unfold State.tryOwner
  repeat' split
  all_goals simp

theorem execLockWrite_answers (dt : Nat) (who : Init) (p : Fin 512) (v : Word) (s : State) :
    Answers (s.elapse dt).agenda (execLockWrite dt who p v s) := onMain_answers fun u => by simp

theorem execEvackWrite_answers (dt : Nat) (who : Init) (p : Fin 512) (v again : Word) (s : State) :
    Answers (s.elapse dt).agenda (execEvackWrite dt who p v again s) := onMain_answers fun u => by simp

@[simp] theorem State.cmtFields_agenda (s : State) (v p : Nat) : (s.cmtFields v p).agenda = s.agenda := by
  simp [State.cmtFields]

theorem execCmtAbort_answers (dt : Nat) (who : Init) (p : Fin 512) (v : Word) (s : State) :
    Answers (s.elapse dt).agenda (execCmtAbort dt who p v s) := onMain_answers fun u => by simp

theorem execCmtGo_answers (dt : Nat) (who : Init) (p : Fin 512) (v : Word) (s : State) :
    Answers (s.elapse dt).agenda (execCmtGo dt who p v s) := onMain_answers fun u => by simp

theorem execErrclrWrite_answers (dt : Nat) (who : Init) (p : Fin 512) (v : Word) (s : State) :
    Answers (s.elapse dt).agenda (execErrclrWrite dt who p v s) := onMain_answers fun u => by simp

@[simp] theorem State.askReset_agenda (s : State) (x2 : Nat) : (s.askReset x2).agenda = s.agenda := by
  simp [State.askReset]

theorem execPresetWrite_answers (dt : Nat) (who : Init) (v : Word) (s : State) :
    Answers (s.elapse dt).agenda (execPresetWrite dt who v s) := onMain_answers fun u => by simp

@[simp] theorem State.abortMode_agenda (s : State) (x2 mode : Nat) : (s.abortMode x2 mode).agenda = s.agenda := by
  simp [State.abortMode]

theorem execWideLoWrite_answers (dt : Nat) (who : Init) (p : Fin 512) (w : Fin 1024) (v : Word) (s : State) :
    Answers (s.elapse dt).agenda (execWideLoWrite dt who p w v s) := by
  unfold execWideLoWrite
  refine onMain_answers fun u => ?_
  dsimp only
  repeat' split
  all_goals simp

@[simp] theorem State.plainWrite_agenda (s : State) (x2 p o v : Nat) : (s.plainWrite x2 p o v).agenda = s.agenda := by
  unfold State.plainWrite
  dsimp only
  repeat' split
  all_goals simp

theorem execWideHiWrite_answers (dt : Nat) (who : Init) (p : Fin 512) (w : Fin 1024) (v : Word) (s : State) :
    Answers (s.elapse dt).agenda (execWideHiWrite dt who p w v s) := by
  unfold execWideHiWrite
  refine onMain_answers fun u => ?_
  dsimp only
  repeat' split
  all_goals simp

theorem execHostlinkDown_answers (dt : Nat) (s : State) : Answers (s.elapse dt).agenda (execHostlinkDown dt s) :=
  onMain_answers fun u => by simp

theorem execHostlinkUp_answers (dt : Nat) (c : HostCfg) (s : State) :
    Answers (s.elapse dt).agenda (execHostlinkUp dt c s) := onMain_answers fun u => by simp

theorem execPerstAssert_answers (dt : Nat) (s : State) : Answers (s.elapse dt).agenda (execPerstAssert dt s) :=
  onMain_answers fun u => by simp

theorem execPerstRelease_answers (dt : Nat) (s : State) : Answers (s.elapse dt).agenda (execPerstRelease dt s) :=
  onMain_answers fun u => by simp

/-! ### The queue and the ticks after the operations of Axs.lean -/

@[simp] theorem State.setAxis_agenda (s : State) (k : Nat) (a : Axis) : (s.setAxis k a).agenda = s.agenda := by
  simp [State.setAxis]

@[simp] theorem State.setEntry_agenda (s : State) (d : Nat) (e : Entry) : (s.setEntry d e).agenda = s.agenda := by
  simp [State.setEntry]

@[simp] theorem State.rearmAt_agenda (s : State) (k : Nat) (p v : Int) (past : Bool) :
    (s.rearmAt k p v past).agenda = s.agenda := by simp [State.rearmAt]

@[simp] theorem State.axRearm_agenda (s : State) (k : Nat) : (s.axRearm k).agenda = s.agenda := by simp [State.axRearm]

@[simp] theorem State.miss_agenda (s : State) (d x3 : Nat) : (s.miss d x3).agenda = s.agenda := by simp [State.miss]

@[simp] theorem State.stepMiss_agenda (s : State) (k : Nat) (p0 p1 v : Int) :
    (s.stepMiss k p0 p1 v).agenda = s.agenda := by
  simp [State.stepMiss]

@[simp] theorem State.axPut_agenda (s : State) (k : Nat) (e : Est) : (s.axPut k e).agenda = s.agenda := by
  simp [State.axPut]

@[simp] theorem State.axStep_agenda (s : State) (k : Nat) (e : Int) : (s.axStep k e).agenda = s.agenda := by
  simp [State.axStep]

@[simp] theorem State.axNote_agenda (s : State) (k : Nat) : (s.axNote k).agenda = s.agenda := by simp [State.axNote]

@[simp] theorem State.axBit_agenda (s : State) (k i : Nat) (x4 : Bool) : (s.axBit k i x4).agenda = s.agenda := by
  simp [State.axBit]

@[simp] theorem State.applyFix_agenda (s : State) (k pos time : Nat) : (s.applyFix k pos time).agenda = s.agenda := by
  simp [State.applyFix]

@[simp] theorem State.armEntry_agenda (s : State) (d : Nat) (p v : Int) : (s.armEntry d p v).agenda = s.agenda := by
  simp [State.armEntry]

@[simp] theorem State.axSetState_agenda (s : State) (k st : Nat) : (s.axSetState k st).agenda = s.agenda := by
  simp [State.axSetState]

@[simp] theorem State.axDiscard_agenda (s : State) (k st : Nat) : (s.axDiscard k st).agenda = s.agenda := by
  simp [State.axDiscard]

@[simp] theorem State.axOrigin_agenda (s : State) (k : Nat) (v : Int) : (s.axOrigin k v).agenda = s.agenda := by
  simp [State.axOrigin]

@[simp] theorem State.axSat_agenda (s : State) (k : Nat) (v : Int) : (s.axSat k v).agenda = s.agenda := by
  simp [State.axSat]

@[simp] theorem State.observe_agenda (s : State) (k x : Nat) (m : Int) (dt : Nat) :
    (s.observe k x m dt).agenda = s.agenda := by simp [State.observe]

@[simp] theorem State.axResume_agenda (s : State) (k : Nat) :
    (s.axResume k).agenda = s.agenda := by simp [State.axResume]

@[simp] theorem State.axisApplied_agenda (s old : State) (k : Nat) : (s.axisApplied old k).agenda = s.agenda := by
  simp [State.axisApplied]

@[simp] theorem State.setEnc_agenda (s : State) (x2 : Nat) (x : Source) : (s.setEnc x2 x).agenda = s.agenda := by
  simp [State.setEnc]

@[simp] theorem State.setSsi_agenda (s : State) (x2 : Nat) (x : Source) : (s.setSsi x2 x).agenda = s.agenda := by
  simp [State.setSsi]

@[simp] theorem State.inputApplied_agenda (s old : State) : (s.inputApplied old).agenda = s.agenda := by
  simp [State.inputApplied]

@[simp] theorem State.setMd_agenda (s : State) (x2 : Nat) (x : Source) : (s.setMd x2 x).agenda = s.agenda := by
  simp [State.setMd]

@[simp] theorem State.mdApplied_agenda (s old : State) : (s.mdApplied old).agenda = s.agenda := by simp [State.mdApplied]

@[simp] theorem State.setFirefly_agenda (s : State) (x2 : Nat) (f : Firefly) :
    (s.setFirefly x2 f).agenda = s.agenda := by
  simp [State.setFirefly]

@[simp] theorem State.ffCommit_agenda (s old : State) (x3 : Nat) : (s.ffCommit old x3).agenda = s.agenda := by
  simp [State.ffCommit]

@[simp] theorem State.axsApplied_agenda (s old : State) (p : Nat) : (s.axsApplied old p).agenda = s.agenda := by
  simp [State.axsApplied]

@[simp] theorem State.encLost_agenda (s : State) (x2 : Nat) : (s.encLost x2).agenda = s.agenda := by simp [State.encLost]

@[simp] theorem State.encRestart_agenda (s : State) (k : Nat) : (s.encRestart k).agenda = s.agenda := by
  simp [State.encRestart]

@[simp] theorem State.encTake_agenda (s : State) (x2 : Nat) (d : Int) (x : Nat) :
    (s.encTake x2 d x).agenda = s.agenda := by
  simp [State.encTake]

@[simp] theorem State.ffGate_agenda (s : State) : s.ffGate.agenda = s.agenda := by simp [State.ffGate]

@[simp] theorem State.setStrobe_agenda (s : State) (line x3 ph se : Nat) :
    (s.setStrobe line x3 ph se).agenda = s.agenda := by
  simp [State.setStrobe]

@[simp] theorem State.fire_agenda (s : State) (d : Nat) (x3 : Int) : (s.fire d x3).agenda = s.agenda := by
  simp [State.fire]

@[simp] theorem State.mdStream_agenda (s : State) (x2 x : Nat) (w : List ChIn) :
    (s.mdStream x2 x w).1.agenda = s.agenda := by
  simp [State.mdStream]

@[simp] theorem State.mdTake_agenda (s : State) (x2 x : Nat) (w : List ChIn) : (s.mdTake x2 x w).agenda = s.agenda := by
  simp [State.mdTake]

@[simp] theorem State.ssiFeed_agenda (s : State) (k raw old : Nat) : (s.ssiFeed k raw old).agenda = s.agenda := by
  simp [State.ssiFeed]

@[simp] theorem State.ssiInvalid_agenda (s : State) (m : Nat) : (s.ssiInvalid m).agenda = s.agenda := by
  simp [State.ssiInvalid]

@[simp] theorem State.ssiMissed_agenda (s : State) (m : Nat) : (s.ssiMissed m).agenda = s.agenda := by
  simp [State.ssiMissed]

@[simp] theorem State.zRef_agenda (s : State) (k x3 x : Nat) : (s.zRef k x3 x).agenda = s.agenda := by simp [State.zRef]

theorem execAxisAcquired_answers (dt : Nat) (k : Fin 8) (v : Int) (s : State) :
    Answers (s.elapse dt).agenda (execAxisAcquired dt k v s) := onMain_answers fun u => by simp

theorem execAxisCapture_answers (dt : Nat) (who : Init) (k : Fin 8) (v : Word) (s : State) :
    Answers (s.elapse dt).agenda (execAxisCapture dt who k v s) := onMain_answers fun u => by simp

theorem execAxisFrozenRecover_answers (dt : Nat) (k : Fin 8) (s : State) :
    Answers (s.elapse dt).agenda (execAxisFrozenRecover dt k s) := onMain_answers fun u => by simp

theorem execAxisHoldExpired_answers (dt : Nat) (k : Fin 8) (s : State) :
    Answers (s.elapse dt).agenda (execAxisHoldExpired dt k s) := onMain_answers fun u => by simp

theorem execAxisHoldRecover_answers (dt : Nat) (k : Fin 8) (s : State) :
    Answers (s.elapse dt).agenda (execAxisHoldRecover dt k s) := onMain_answers fun u => by simp

theorem execAxisLoss_answers (dt : Nat) (k : Fin 8) (s : State) : Answers (s.elapse dt).agenda (execAxisLoss dt k s) :=
  onMain_answers fun u => by simp

theorem execAxisMeasurement_answers (dt : Nat) (x : Meas) (ph : Fin 8) (s : State) :
    Answers (s.elapse dt).agenda (execAxisMeasurement dt x ph s) := by
  unfold execAxisMeasurement
  refine guarded_answers (onMain_answers fun u => ?_)
  split <;> simp

theorem execAxisTick_answers (dt : Nat) (k : Fin 8) (s : State) : Answers (s.elapse dt).agenda
    (execAxisTick dt k s) := by
  unfold execAxisTick
  refine onMain_answers fun u => ?_
  dsimp only
  repeat' split
  all_goals simp

theorem execEncoderLineFault_answers (dt : Nat) (x2 : Fin 4) (f : EncFault) (s : State) :
    Answers (s.elapse dt).agenda (execEncoderLineFault dt x2 f s) := by
  unfold execEncoderLineFault
  refine onMain_answers fun u => ?_
  repeat' split
  all_goals simp

theorem execEncoderZPulse_answers (dt : Nat) (x2 : Fin 4) (ph : Fin 8) (count : Nat) (s : State) :
    Answers (s.elapse dt).agenda (execEncoderZPulse dt x2 ph count s) := onMain_answers fun u => by simp

theorem execFireflyPps_answers (dt : Nat) (x2 : Fin 4) (s : State) :
    Answers (s.elapse dt).agenda (execFireflyPps dt x2 s) := onMain_answers fun u => by simp

theorem execFireflyPulseEnd_answers (dt : Nat) (x2 : Fin 4) (s : State) :
    Answers (s.elapse dt).agenda (execFireflyPulseEnd dt x2 s) := onMain_answers fun u => by simp

theorem execFireflyReadback_answers (dt : Nat) (x2 : Fin 4) (level : Bool) (s : State) :
    Answers (s.elapse dt).agenda (execFireflyReadback dt x2 level s) := by
  unfold execFireflyReadback
  refine onMain_answers fun u => ?_
  dsimp only
  repeat' split
  all_goals simp

theorem execFireflyStrobe_answers (dt : Nat) (x2 : Fin 4) (s : State) :
    Answers (s.elapse dt).agenda (execFireflyStrobe dt x2 s) := by
  unfold execFireflyStrobe
  refine onMain_answers fun u => ?_
  dsimp only
  repeat' split
  all_goals simp

theorem execFixgo_answers (dt : Nat) (who : Init) (k : Fin 8) (v : Word) (s : State) :
    Answers (s.elapse dt).agenda (execFixgo dt who k v s) := onMain_answers fun u => by simp

theorem execHiddenTargetMissed_answers (dt : Nat) (d : Fin 384) (s : State) :
    Answers (s.elapse dt).agenda (execHiddenTargetMissed dt d s) := onMain_answers fun u => by simp

theorem execSeclr_answers (dt : Nat) (who : Init) (v : Word) (s : State) :
    Answers (s.elapse dt).agenda (execSeclr dt who v s) := onMain_answers fun u => by simp

theorem execSsiFrame_answers (dt : Nat) (m : Fin 2) (ph : Fin 8) (f : SsiFrame) (s : State) :
    Answers (s.elapse dt).agenda (execSsiFrame dt m ph f s) := by
  unfold execSsiFrame
  refine onMain_answers fun u => ?_
  dsimp only
  repeat' split
  all_goals simp

end Sys2Proof.Machine

namespace Sys2Proof.Machine

/-! ### The queue and the ticks after the operations of Mem.lean -/

theorem execMemCntclr_answers (dt : Nat) (who : Init) (v : Word) (s : State) :
    Answers (s.elapse dt).agenda (execMemCntclr dt who v s) := onMain_answers fun u => by simp

theorem execElnext_answers (dt : Nat) (who : Init) (v : Word) (s : State) :
    Answers (s.elapse dt).agenda (execElnext dt who v s) := onMain_answers fun u => by simp

@[simp] theorem State.framBad_agenda (s : State) (part o : Nat) (verify : Bool) :
    (s.framBad part o verify).agenda = s.agenda := by simp [State.framBad]

@[simp] theorem State.ceCount_agenda (s : State) : s.ceCount.agenda = s.agenda := by simp [State.ceCount]

@[simp] theorem State.dramBad_agenda (s : State) (w part source num code syn blk : Nat) :
    (s.dramBad w part source num code syn blk).agenda = s.agenda := by simp [State.dramBad]

@[simp] theorem State.dramMeet_agenda (s : State) (w part source num ueCode blk : Nat) :
    (s.dramMeet w part source num ueCode blk).agenda = s.agenda := by
  unfold State.dramMeet
  dsimp only
  repeat' split
  all_goals simp

@[simp] theorem State.dramRead_agenda (s : State) (o x3 part source num ueCode blk : Nat) :
    (s.dramRead o x3 part source num ueCode blk).agenda = s.agenda := by simp [State.dramRead]

@[simp] theorem State.dmaLog_agenda (s : State) (page blk a : Nat) : (s.dmaLog page blk a).agenda = s.agenda := by
  simp [State.dmaLog]

@[simp] theorem State.dmaRead_agenda (s : State) (page blk a x5 : Nat) :
    (s.dmaRead page blk a x5).1.agenda = s.agenda := by
  unfold State.dmaRead
  dsimp only
  repeat' split
  all_goals simp

@[simp] theorem State.upset_agenda (s : State) (w syn : Nat) : (s.upset w syn).agenda = s.agenda := by simp [State.upset]

@[simp] theorem State.poisonUse_agenda (s : State) (o part source num : Nat) :
    (s.poisonUse o part source num).agenda = s.agenda := by simp [State.poisonUse]

@[simp] theorem State.scrubShow_agenda (s : State) : s.scrubShow.agenda = s.agenda := by simp [State.scrubShow]

@[simp] theorem State.memApplied_agenda (s : State) (p : Nat) : (s.memApplied p).agenda = s.agenda := by
  simp [State.memApplied]

theorem execLaneUncorrectableError_answers (dt : Nat) (x2 : Fin 4) (l : Fin 3) (a : BitVec 40) (syn : Byte) (s : State) :
    Answers (s.elapse dt).agenda (execLaneUncorrectableError dt x2 l a syn s) := onMain_answers fun u => by simp

theorem execLaneCorrectableError_answers (dt : Nat) (x2 : Fin 4) (l : Fin 3) (s : State) :
    Answers (s.elapse dt).agenda (execLaneCorrectableError dt x2 l s) := onMain_answers fun u => by simp

theorem execLaneScrub_answers (dt : Nat) (x2 : Fin 4) (l : Fin 3) (s : State) :
    Answers (s.elapse dt).agenda (execLaneScrub dt x2 l s) := onMain_answers fun u => by simp

theorem execDramScrub_answers (dt : Nat) (ecc : Byte) (s : State) :
    Answers (s.elapse dt).agenda (execDramScrub dt ecc s) := onShed_answers fun u => by simp

theorem execDramTempPoll_answers (dt : Nat) (code : Fin 8) (hi : Bool) (s : State) :
    Answers (s.elapse dt).agenda (execDramTempPoll dt code hi s) := onShed_answers fun u => by simp

theorem execCeWindowEnd_answers (dt : Nat) (s : State) : Answers (s.elapse dt).agenda (execCeWindowEnd dt s) :=
  onShed_answers fun u => by simp

@[simp] theorem State.dmaPut_agenda (s : State) (o : Nat) (bs : List Nat) : (s.dmaPut o bs).agenda = s.agenda := by
  simp [State.dmaPut]

@[simp] theorem State.dmaWrite_agenda (s : State) (page blk a : Nat) (bs : List Nat) :
    (s.dmaWrite page blk a bs).1.agenda = s.agenda := by simp [State.dmaWrite]

/-! ### The queue and the ticks after the operations of Evr.lean -/

@[simp] theorem State.flushCut_agenda (s : State) : s.flushCut.agenda = s.agenda := by simp [State.flushCut]

@[simp] theorem State.mayPut_agenda (s : State) (src x3 code cls origin stamp : Nat) (pay : List Nat) :
    (s.mayPut src x3 code cls origin stamp pay).agenda = s.agenda := by simp [State.mayPut]

@[simp] theorem State.enter_agenda (s : State) (src x3 code cls origin stamp : Nat) (pay : List Nat) :
    (s.enter src x3 code cls origin stamp pay).agenda = s.agenda := by simp [State.enter]

@[simp] theorem State.record_agenda (s : State) (src code cls page stamp : Nat) (pay : List Nat) :
    (s.record src code cls page stamp pay).agenda = s.agenda := by simp [State.record]

theorem execEvrFlushCmd_answers (dt : Nat) (who : Init) (v : Word) (s : State) :
    Answers (s.elapse dt).agenda (execEvrFlushCmd dt who v s) := onMain_answers fun u => by simp

@[simp] theorem State.clrArm_agenda (s : State) : s.clrArm.agenda = s.agenda := by simp [State.clrArm]

theorem execClrcmdArm_answers (dt : Nat) (who : Init) (v : Word) (s : State) :
    Answers (s.elapse dt).agenda (execClrcmdArm dt who v s) := onMain_answers fun u => by simp

@[simp] theorem State.clrEnter_agenda (s : State) (x2 : Nat) : (s.clrEnter x2).agenda = s.agenda := by
  simp [State.clrEnter, -State.record_ticks]

@[simp] theorem State.clrStart_agenda (s : State) (x2 : Nat) : (s.clrStart x2).agenda = s.agenda := by
  simp [State.clrStart]

theorem execClrcmdClear_answers (dt : Nat) (who : Init) (v : Word) (s : State) :
    Answers (s.elapse dt).agenda (execClrcmdClear dt who v s) := onMain_answers fun u => by simp

theorem execEvrCntclr_answers (dt : Nat) (who : Init) (v : Word) (s : State) :
    Answers (s.elapse dt).agenda (execEvrCntclr dt who v s) := onMain_answers fun u => by simp

theorem execRdgo_answers (dt : Nat) (who : Init) (v : Word) (s : State) :
    Answers (s.elapse dt).agenda (execRdgo dt who v s) := onMain_answers fun u => by simp

theorem execSwgo_answers (dt : Nat) (who : Init) (v : Word) (s : State) :
    Answers (s.elapse dt).agenda (execSwgo dt who v s) := onMain_answers fun u => by simp

@[simp] theorem State.flushStart_agenda (s : State) : s.flushStart.agenda = s.agenda := by simp [State.flushStart]

theorem execEvrFlush_answers (dt : Nat) (s : State) : Answers (s.elapse dt).agenda (execEvrFlush dt s) :=
  onShed_answers fun u => by simp

@[simp] theorem State.clrNext_agenda (s : State) : s.clrNext.agenda = s.agenda := by
  unfold State.clrNext
  split <;> simp

@[simp] theorem State.evrShow_agenda (s : State) : s.evrShow.agenda = s.agenda := by simp [State.evrShow]

@[simp] theorem State.storeFlushed_agenda (s : State) : s.storeFlushed.agenda = s.agenda := by simp [State.storeFlushed]

theorem execEvrFlushDone_answers (dt : Nat) (ok : Bool) (s : State) :
    Answers (s.elapse dt).agenda (execEvrFlushDone dt ok s) := onShed_answers fun u => by simp

theorem execEvrReadDone_answers (dt : Nat) (s : State) : Answers (s.elapse dt).agenda (execEvrReadDone dt s) := by
  unfold execEvrReadDone
  refine onShed_answers fun u => ?_
  dsimp only
  repeat' split
  all_goals simp

theorem execEvrClearDone_answers (dt : Nat) (s : State) : Answers (s.elapse dt).agenda (execEvrClearDone dt s) := by
  unfold execEvrClearDone
  refine onShed_answers fun u => ?_
  split <;> simp

theorem execClearArmExpiry_answers (dt : Nat) (s : State) : Answers (s.elapse dt).agenda (execClearArmExpiry dt s) :=
  onMain_answers fun u => by simp

/-! ### The queue and the ticks after the operations of Life.lean -/

@[simp] theorem State.lifeCount_agenda (s : State) (k x3 : Nat) : (s.lifeCount k x3).agenda = s.agenda := by
  simp [State.lifeCount]

@[simp] theorem State.lifeAdd_agenda (s : State) (kind src x4 : Nat) : (s.lifeAdd kind src x4).agenda = s.agenda := by
  simp [State.lifeAdd]

theorem execCntcmdReset_answers (dt : Nat) (who : Init) (v : Word) (s : State) :
    Answers (s.elapse dt).agenda (execCntcmdReset dt who v s) := onMain_answers fun u => by simp

theorem execCntcmdAdd_answers (dt : Nat) (who : Init) (v : Word) (s : State) :
    Answers (s.elapse dt).agenda (execCntcmdAdd dt who v s) := onMain_answers fun u => by simp

@[simp] theorem State.calSet_agenda (s : State) (c : Nat) : (s.calSet c).agenda = s.agenda := by simp [State.calSet]

theorem execCalgo_answers (dt : Nat) (who : Init) (v : Word) (s : State) :
    Answers (s.elapse dt).agenda (execCalgo dt who v s) := onMain_answers fun u => by simp

@[simp] theorem State.lifeStore_agenda (s : State) : s.lifeStore.agenda = s.agenda := by simp [State.lifeStore]

theorem execLifeSave_answers (dt : Nat) (ok : Bool) (s : State) : Answers (s.elapse dt).agenda (execLifeSave dt ok s) :=
  onMain_answers fun u => by simp

theorem execCalendarDiscipline_answers (dt : Nat) (s : State) :
    Answers (s.elapse dt).agenda (execCalendarDiscipline dt s) := by
  unfold execCalendarDiscipline
  refine onShed_answers fun u => ?_
  split
  · simp only [State.putBit_agenda, State.wr_agenda]
    repeat' split
    all_goals simp [State.calHold]
  · rfl

theorem execCalendarStop_answers (dt : Nat) (s : State) : Answers (s.elapse dt).agenda (execCalendarStop dt s) :=
  always_answers fun u => by simp

/-! ### The queue and the ticks after the operations of Dio.lean -/

theorem execEqpop_answers (dt : Nat) (who : Init) (g : Fin 6) (s : State) :
    Answers (s.elapse dt).agenda (execEqpop dt who g s) := by
  unfold execEqpop
  refine onMain_answers fun u => ?_
  refine State.cmdR_agenda _ _ _ _ _ fun n u => ?_
  dsimp only
  repeat' split
  all_goals simp

@[simp] theorem State.setDoGrp_agenda (s : State) (g : Nat) (x : DoGrp) : (s.setDoGrp g x).agenda = s.agenda := by
  simp [State.setDoGrp]

@[simp] theorem State.setDoCh_agenda (s : State) (k : Nat) (c : DoCh) : (s.setDoCh k c).agenda = s.agenda := by
  simp [State.setDoCh]

@[simp] theorem State.pulseTerm_agenda (s : State) (k : Nat) (off : Bool) : (s.pulseTerm k off).agenda = s.agenda := by
  simp [State.pulseTerm]

@[simp] theorem State.setDi_agenda (s : State) (i : Nat) (d : DiIn) : (s.setDi i d).agenda = s.agenda := by
  simp [State.setDi]

@[simp] theorem State.pulseNone_agenda (s : State) (k : Nat) : (s.pulseNone k).agenda = s.agenda := by
  simp [State.pulseNone]

@[simp] theorem State.lifeTake_agenda (s : State) (k x3 : Nat) : (s.lifeTake k x3).agenda = s.agenda := by
  simp [State.lifeTake]

@[simp] theorem State.doSync_agenda (s : State) (from_ k : Nat) : (s.doSync from_ k).agenda = s.agenda := by
  simp [State.doSync]

@[simp] theorem State.doUpdate_agenda (s : State) (g : Nat) :
    (s.doUpdate g).agenda = s.agenda := by simp [State.doUpdate]

@[simp] theorem State.dioGate_agenda (s : State) (open_ : Bool) : (s.dioGate open_).agenda = s.agenda := by
  simp [State.dioGate]

@[simp] theorem State.doCommanded_agenda (s : State) (g : Nat) : (s.doCommanded g).agenda = s.agenda := by
  simp [State.doCommanded]

@[simp] theorem State.doSafe_agenda (s : State) (g : Nat) : (s.doSafe g).agenda = s.agenda := by simp [State.doSafe]

theorem execDioFltclr_answers (dt : Nat) (who : Init) (g : Fin 4) (v : Word) (agree : Byte) (s : State) :
    Answers (s.elapse dt).agenda (execDioFltclr dt who g v agree s) := by
  unfold execDioFltclr
  refine onMain_answers fun u => ?_
  refine State.cmdW_agenda _ _ _ _ _ fun n u => ?_
  refine State.keyed_agenda _ _ _ _ _ _ _ fun u => ?_
  simp

theorem execLogclr_answers (dt : Nat) (who : Init) (v : Word) (s : State) :
    Answers (s.elapse dt).agenda (execLogclr dt who v s) := by
  unfold execLogclr
  refine onMain_answers fun u => ?_
  refine State.cmdW_agenda _ _ _ _ _ fun n u => ?_
  refine onOne_agenda _ _ _ fun u => ?_
  simp

@[simp] theorem State.doStrobe_agenda (s : State) (line : Nat) : (s.doStrobe line).agenda = s.agenda := by
  simp [State.doStrobe]

@[simp] theorem State.entryFire_agenda (s : State) (d : Nat) : (s.entryFire d).1.agenda = s.agenda := by
  unfold State.entryFire
  dsimp only
  repeat' split
  all_goals simp

@[simp] theorem State.setDiLevel_agenda (s : State) (i : Nat) (l : Bool) (x4 at_ : Nat) :
    (s.setDiLevel i l x4 at_).agenda = s.agenda := by simp [State.setDiLevel]

@[simp] theorem State.stuckEnd_agenda (s : State) (i : Nat) :
    (s.stuckEnd i).agenda = s.agenda := by simp [State.stuckEnd]

@[simp] theorem State.pressEnd_agenda (s : State) (i start x4 : Nat) : (s.pressEnd i start x4).agenda = s.agenda := by
  simp [State.pressEnd]

@[simp] theorem State.edgePut_agenda (s : State) (i x3 : Nat) (l : Bool) : (s.edgePut i x3 l).agenda = s.agenda := by
  simp [State.edgePut]

@[simp] theorem State.diAccept_agenda (s : State) (i : Nat) : (s.diAccept i).agenda = s.agenda := by
  unfold State.diAccept
  dsimp only
  repeat' split
  all_goals simp

@[simp] theorem State.diTake_agenda (s : State) (i : Nat) : (s.diTake i).agenda = s.agenda := by simp [State.diTake]

@[simp] theorem State.diSeen_agenda (s : State) (i : Nat) (r : Bool) (ph : Nat) :
    (s.diSeen i r ph).agenda = s.agenda := by
  unfold State.diSeen
  dsimp only
  repeat' split
  all_goals simp

@[simp] theorem State.diApplied_agenda (s old : State) : (s.diApplied old).agenda = s.agenda := by simp [State.diApplied]

@[simp] theorem State.doApplied_agenda (s old : State) (g : Nat) : (s.doApplied old g).agenda = s.agenda := by
  simp [State.doApplied]

@[simp] theorem State.dioApplied_agenda (s old : State) (p : Nat) : (s.dioApplied old p).agenda = s.agenda := by
  simp [State.dioApplied]

@[simp] theorem State.doLatch_agenda (s : State) (g cause : Nat) : (s.doLatch g cause).agenda = s.agenda := by
  simp [State.doLatch]

@[simp] theorem State.supplyLow_agenda (s : State) (g : Nat) : (s.supplyLow g).agenda = s.agenda := by
  simp [State.supplyLow]

@[simp] theorem State.tpJudge_agenda (s : State) (k : Nat) (pass : Bool) : (s.tpJudge k pass).agenda = s.agenda := by
  simp [State.tpJudge]

theorem execDiEdgeAccept_answers (dt : Nat) (i : Fin 48) (s : State) :
    Answers (s.elapse dt).agenda (execDiEdgeAccept dt i s) := onMain_answers fun u => by simp

theorem execDiRawEdge_answers (dt : Nat) (i : Fin 48) (ph : Fin 8) (level : Bool) (s : State) :
    Answers (s.elapse dt).agenda (execDiRawEdge dt i ph level s) := onMain_answers fun u => by simp

theorem execDoOpenLoad_answers (dt : Nat) (k : Fin 32) (open_ : Bool) (ma : Fin 4096) (s : State) :
    Answers (s.elapse dt).agenda (execDoOpenLoad dt k open_ ma s) := onMain_answers fun u => by simp

theorem execFslowLatch_answers (dt : Nat) (g : Fin 4) (s : State) : Answers (s.elapse dt).agenda
    (execFslowLatch dt g s) :=
  onMain_answers fun u => by simp

theorem execFsok_answers (dt : Nat) (g : Fin 4) (s : State) : Answers (s.elapse dt).agenda (execFsok dt g s) :=
  onMain_answers fun u => by simp

theorem execFswarn_answers (dt : Nat) (g : Fin 4) (s : State) : Answers (s.elapse dt).agenda (execFswarn dt g s) :=
  onMain_answers fun u => by simp

theorem execFswarnClear_answers (dt : Nat) (g : Fin 4) (s : State) :
    Answers (s.elapse dt).agenda (execFswarnClear dt g s) := onMain_answers fun u => by simp

theorem execLifeSecond_answers (dt : Nat) (s : State) : Answers (s.elapse dt).agenda (execLifeSecond dt s) :=
  onShed_answers fun u => by simp

theorem execOvld_answers (dt : Nat) (k : Fin 32) (s : State) : Answers (s.elapse dt).agenda (execOvld dt k s) :=
  onMain_answers fun u => by simp

theorem execPwmOffEdge_answers (dt : Nat) (k : Fin 32) (s : State) :
    Answers (s.elapse dt).agenda (execPwmOffEdge dt k s) := onMain_answers fun u => by simp

theorem execPwmPeriodStart_answers (dt : Nat) (g : Fin 4) (s : State) :
    Answers (s.elapse dt).agenda (execPwmPeriodStart dt g s) := onMain_answers fun u => by simp

theorem execRbflt_answers (dt : Nat) (k : Fin 32) (level : Bool) (s : State) :
    Answers (s.elapse dt).agenda (execRbflt dt k level s) := onMain_answers fun u => by simp

theorem execStuckLatch_answers (dt : Nat) (k : Fin 32) (s : State) :
    Answers (s.elapse dt).agenda (execStuckLatch dt k s) := onMain_answers fun u => by simp

theorem execTestPulseEnd_answers (dt : Nat) (k : Fin 32) (off : Bool) (s : State) :
    Answers (s.elapse dt).agenda (execTestPulseEnd dt k off s) := onMain_answers fun u => by simp

theorem execTestPulseFilterRelease_answers (dt : Nat) (k : Fin 32) (s : State) :
    Answers (s.elapse dt).agenda (execTestPulseFilterRelease dt k s) := onMain_answers fun u => by simp

theorem execTestPulseStart_answers (dt : Nat) (k : Fin 32) (s : State) :
    Answers (s.elapse dt).agenda (execTestPulseStart dt k s) := onMain_answers fun u => by simp

/-! ### The queue and the ticks after the operations of Sfn.lean -/

@[simp] theorem State.setSfnFn_agenda (s : State) (f : Nat) (x : SfnFn) : (s.setSfnFn f x).agenda = s.agenda := by
  simp [State.setSfnFn]

theorem execSfnFltclr_answers (dt : Nat) (who : Init) (v : Word) (s : State) :
    Answers (s.elapse dt).agenda (execSfnFltclr dt who v s) := by
  unfold execSfnFltclr
  refine onMain_answers fun u => ?_
  refine State.cmdW_agenda _ _ _ _ _ fun n u => ?_
  refine State.keyed_agenda _ _ _ _ _ _ _ fun u => ?_
  simp

@[simp] theorem State.sfnGate_agenda (s : State) : s.sfnGate.agenda = s.agenda := by simp [State.sfnGate]

@[simp] theorem State.masked_agenda (s : State) (p o : Nat) : (s.masked p o).agenda = s.agenda := by simp [State.masked]

theorem execRegisterWrite_answers (dt : Nat) (who : Init) (p : Fin 512) (w : Fin 1024) (v : Word) (s : State) :
    Answers (s.elapse dt).agenda (execRegisterWrite dt who p w v s) := onMain_answers fun u => by simp

@[simp] theorem State.sfnEnter_agenda (s : State) (f new cause x5 : Nat) :
    (s.sfnEnter f new cause x5).agenda = s.agenda := by
  simp [State.sfnEnter]

@[simp] theorem State.sfnStop_agenda (s : State) (f : Nat) : (s.sfnStop f).agenda = s.agenda := by simp [State.sfnStop]

@[simp] theorem State.sfnStart_agenda (s : State) (f : Nat) :
    (s.sfnStart f).agenda = s.agenda := by simp [State.sfnStart]

@[simp] theorem State.sfnApplied_agenda (s old : State) (p : Nat) : (s.sfnApplied old p).agenda = s.agenda := by
  simp [State.sfnApplied]

@[simp] theorem State.sfnPresses_agenda (s : State) (te : Nat) : (s.sfnPresses te).agenda = s.agenda := by
  simp [State.sfnPresses]

@[simp] theorem State.sfnExchange_agenda (s : State) (ok1 ok2 same : Bool) :
    (s.sfnExchange ok1 ok2 same).agenda = s.agenda := by simp [State.sfnExchange]

@[simp] theorem State.sfnSetStuck_agenda (s : State) (i te : Nat) : (s.sfnSetStuck i te).agenda = s.agenda := by
  simp [State.sfnSetStuck]

@[simp] theorem State.sfnToDemand_agenda (s : State) (f new te : Nat) (count : Bool) :
    (s.sfnToDemand f new te count).agenda = s.agenda := by simp [State.sfnToDemand]

@[simp] theorem State.sfnRow_agenda (s : State) (f te : Nat) :
    (s.sfnRow f te).agenda = s.agenda := by simp [State.sfnRow]

@[simp] theorem State.sfnEval_agenda (s : State) (f te : Nat) : (s.sfnEval f te).agenda = s.agenda := by
  simp [State.sfnEval]

theorem execSfnEvaluation_answers (dt : Nat) (ok1 ok2 same : Bool) (s : State) :
    Answers (s.elapse dt).agenda (execSfnEvaluation dt ok1 ok2 same s) := onMain_answers fun u => by simp

@[simp] theorem State.sfnFaultIf_agenda (s : State) (f cause : Nat) (c : Bool) :
    (s.sfnFaultIf f cause c).agenda = s.agenda := by simp [State.sfnFaultIf]

theorem execDiscrep_answers (dt : Nat) (f : Fin 16) (s : State) : Answers (s.elapse dt).agenda (execDiscrep dt f s) :=
  onMain_answers fun u => by simp

theorem execTwohandTimeout_answers (dt : Nat) (f : Fin 16) (s : State) :
    Answers (s.elapse dt).agenda (execTwohandTimeout dt f s) := onMain_answers fun u => by simp

theorem execEdmFault_answers (dt : Nat) (f : Fin 16) (s : State) : Answers (s.elapse dt).agenda (execEdmFault dt f s) :=
  onMain_answers fun u => by simp

theorem execRststuck_answers (dt : Nat) (i : Fin 48) (s : State) : Answers (s.elapse dt).agenda (execRststuck dt i s) :=
  onMain_answers fun u => by simp

end Sys2Proof.Machine

namespace Sys2Proof.Machine

/-! ### The queue and the ticks after the operations of Pad.lean -/

theorem execLivegrab_answers (dt : Nat) (who : Init) (v : Word) (s : State) :
    Answers (s.elapse dt).agenda (execLivegrab dt who v s) := onMain_answers fun u => by simp

theorem execXclr_answers (dt : Nat) (who : Init) (v : Word) (gone : BitVec 48) (s : State) :
    Answers (s.elapse dt).agenda (execXclr dt who v gone s) := onMain_answers fun u => by simp

theorem execPadCapgo_answers (dt : Nat) (who : Init) (v : Word) (s : State) :
    Answers (s.elapse dt).agenda (execPadCapgo dt who v s) := onMain_answers fun u => by simp

@[simp] theorem State.padAxis_agenda (s : State) (k : Nat) : (s.padAxis k).agenda = s.agenda := by simp [State.padAxis]

@[simp] theorem State.setGrid_agenda (s : State) (g : Nat) : (s.setGrid g).agenda = s.agenda := by simp [State.setGrid]

@[simp] theorem State.settleShow_agenda (s : State) (was : Nat) : (s.settleShow was).agenda = s.agenda := by
  simp [State.settleShow]

@[simp] theorem State.padStop_agenda (s : State) : s.padStop.agenda = s.agenda := by simp [State.padStop]

@[simp] theorem State.settleGo_agenda (s old : State) (ns : List Nat) (all : Bool) :
    (s.settleGo old ns all).agenda = s.agenda := by simp [State.settleGo]

@[simp] theorem State.padCtlApplied_agenda (s old : State) : (s.padCtlApplied old).agenda = s.agenda := by
  simp [State.padCtlApplied]

@[simp] theorem State.padEra_agenda (s : State) (ph : Nat) : (s.padEra ph).agenda = s.agenda := by simp [State.padEra]

@[simp] theorem State.padApplied_agenda (s old : State) (p : Nat) : (s.padApplied old p).agenda = s.agenda := by
  simp [State.padApplied]

@[simp] theorem State.fbStart_agenda (s : State) (base : Nat) (f : Rat) : (s.fbStart base f).agenda = s.agenda := by
  simp [State.fbStart]

@[simp] theorem State.fbMove_agenda (s : State) : s.fbMove.agenda = s.agenda := by simp [State.fbMove]

@[simp] theorem State.gridCoef_agenda (s : State) (ph : Nat) (f : Rat) : (s.gridCoef ph f).agenda = s.agenda := by
  simp [State.gridCoef]

@[simp] theorem State.makeSet_agenda (s : State) (ph idx grid : Nat) (f : Rat) :
    (s.makeSet ph idx grid f).agenda = s.agenda := by simp [State.makeSet]

@[simp] theorem State.fbTick_agenda (s : State) (idx : Nat) : (s.fbTick idx).agenda = s.agenda := by simp [State.fbTick]

theorem execGridTick_answers (dt : Nat) (s : State) : Answers (s.elapse dt).agenda (execGridTick dt s) := by
  unfold execGridTick
  refine onMain_answers fun u => ?_
  dsimp only
  repeat' split
  all_goals simp

@[simp] theorem State.setXwin_agenda (s : State) (x2 : Nat) (x : XWin) : (s.setXwin x2 x).agenda = s.agenda := by
  simp [State.setXwin]

@[simp] theorem State.xlatch_agenda (s : State) (x2 : Nat) : (s.xlatch x2).agenda = s.agenda := by simp [State.xlatch]

@[simp] theorem State.xcheck_agenda (s : State) (x2 d : Nat) :
    (s.xcheck x2 d).agenda = s.agenda := by simp [State.xcheck]

@[simp] theorem State.satCount_agenda (s : State) (x2 : Nat) (sat : Bool) : (s.satCount x2 sat).agenda = s.agenda := by
  simp [State.satCount]

@[simp] theorem State.sample_agenda (s : State) (set : SampleSet) (x3 : Nat) (c : ChIn) :
    (s.sample set x3 c).1.agenda = s.agenda := by simp [State.sample]

@[simp] theorem State.padDeliver_agenda (s : State) (set : SampleSet) (x : List ChIn) :
    (s.padDeliver set x).agenda = s.agenda := by simp [State.padDeliver]

theorem execModulatorFault_answers (dt : Nat) (x2 : Fin 24) (check : Bool) (s : State) :
    Answers (s.elapse dt).agenda (execModulatorFault dt x2 check s) := onMain_answers fun u => by simp

theorem execSettled_answers (dt : Nat) (x2 : Fin 24) (s : State) : Answers (s.elapse dt).agenda (execSettled dt x2 s) :=
  onMain_answers fun u => by simp

theorem execCapdone_answers (dt : Nat) (m c : List ModWord) (s : State) :
    Answers (s.elapse dt).agenda (execCapdone dt m c s) := by
  unfold execCapdone
  refine onMain_answers fun u => ?_
  split <;> simp

/-! ### The queue and the ticks after the operations of Pre.lean -/

@[simp] theorem State.outStat_agenda (s : State) : s.outStat.agenda = s.agenda := by simp [State.outStat]

theorem execPreCntclr_answers (dt : Nat) (who : Init) (v : Word) (s : State) :
    Answers (s.elapse dt).agenda (execPreCntclr dt who v s) := onMain_answers fun u => by simp

@[simp] theorem State.setBrk_agenda (s : State) (x2 : Nat) (x : PreBrk) : (s.setBrk x2 x).agenda = s.agenda := by
  simp [State.setBrk]

@[simp] theorem State.setPreOut_agenda (s : State) (x2 : Nat) (o : PreOut) : (s.setPreOut x2 o).agenda = s.agenda := by
  simp [State.setPreOut]

@[simp] theorem State.pulseEnd_agenda (s : State) (x2 : Nat) : (s.pulseEnd x2).agenda = s.agenda := by
  simp [State.pulseEnd]

@[simp] theorem State.closeCut_agenda (s : State) (c : Nat) :
    (s.closeCut c).agenda = s.agenda := by simp [State.closeCut]

@[simp] theorem State.pulseStart_agenda (s : State) (x2 rows x4 num : Nat) (test : Bool) :
    (s.pulseStart x2 rows x4 num test).agenda = s.agenda := by simp [State.pulseStart]

@[simp] theorem State.tripGo_agenda (s : State) (x2 rows x4 num : Nat) (test : Bool) :
    (s.tripGo x2 rows x4 num test).agenda = s.agenda := by simp [State.tripGo]

theorem execOuttest_answers (dt : Nat) (who : Init) (v : Word) (s : State) :
    Answers (s.elapse dt).agenda (execOuttest dt who v s) := onMain_answers fun u => by simp

theorem execPreOutCntclr_answers (dt : Nat) (who : Init) (v : Word) (s : State) :
    Answers (s.elapse dt).agenda (execPreOutCntclr dt who v s) := onMain_answers fun u => by simp

theorem execWearclr_answers (dt : Nat) (who : Init) (v : Word) (s : State) :
    Answers (s.elapse dt).agenda (execWearclr dt who v s) := onMain_answers fun u => by simp

@[simp] theorem State.setMlane_agenda (s : State) (l c : Nat) : (s.setMlane l c).agenda = s.agenda := by
  simp [State.setMlane]

theorem execMlcmd_answers (dt : Nat) (who : Init) (v : Word) (s : State) :
    Answers (s.elapse dt).agenda (execMlcmd dt who v s) := onMain_answers fun u => by simp

theorem execGrpcmdUnseal_answers (dt : Nat) (who : Init) (v : Word) (s : State) :
    Answers (s.elapse dt).agenda (execGrpcmdUnseal dt who v s) := onMain_answers fun u => by simp

theorem execGrpcmdSeal_answers (dt : Nat) (who : Init) (v : Word) (s : State) :
    Answers (s.elapse dt).agenda (execGrpcmdSeal dt who v s) := onMain_answers fun u => by simp

theorem execPreMemoryWrite_answers (dt : Nat) (who : Init) (o : Fin 262144) (x4 : List Byte) (s : State) :
    Answers (s.elapse dt).agenda (execPreMemoryWrite dt who o x4 s) := by
  unfold execPreMemoryWrite
  refine guarded_answers (onMain_answers fun u => ?_)
  split
  · rfl
  · dsimp only
    repeat' split
    all_goals simp

@[simp] theorem State.mhold_agenda (s : State) (ls : List Nat) (x : MLane) : (s.mhold ls x).agenda = s.agenda := by
  simp [State.mhold]

@[simp] theorem State.elClear_agenda (s : State) : s.elClear.agenda = s.agenda := by simp [State.elClear]

@[simp] theorem State.setEngine_agenda (s : State) (e : Nat) : (s.setEngine e).agenda = s.agenda := by
  simp [State.setEngine]

@[simp] theorem State.preEnable_agenda (s : State) : s.preEnable.agenda = s.agenda := by simp [State.preEnable]

@[simp] theorem State.brkTick_agenda (s : State) (x2 : SampleSet) : (s.brkTick x2).agenda = s.agenda := by
  simp [State.brkTick]

@[simp] theorem State.brkFeed_agenda (s : State) (x2 : SampleSet) : (s.brkFeed x2).agenda = s.agenda := by
  simp [State.brkFeed]

@[simp] theorem State.preLeave_agenda (s : State) : s.preLeave.agenda = s.agenda := by simp [State.preLeave]

@[simp] theorem State.preOff_agenda (s : State) : s.preOff.agenda = s.agenda := by simp [State.preOff]

@[simp] theorem State.preDisable_agenda (s : State) : s.preDisable.agenda = s.agenda := by simp [State.preDisable]

@[simp] theorem State.outDrop_agenda (s : State) : s.outDrop.agenda = s.agenda := by simp [State.outDrop]

@[simp] theorem State.preApplied_agenda (s old : State) (p : Nat) : (s.preApplied old p).agenda = s.agenda := by
  simp [State.preApplied]

@[simp] theorem State.mcount_agenda (s : State) : s.mcount.agenda = s.agenda := by simp [State.mcount]

@[simp] theorem State.preReset_agenda (s : State) : s.preReset.agenda = s.agenda := by simp [State.preReset]

@[simp] theorem State.preFault_agenda (s : State) : s.preFault.agenda = s.agenda := by simp [State.preFault]

@[simp] theorem State.preBegin_agenda (s : State) : s.preBegin.agenda = s.agenda := by
  unfold State.preBegin
  split <;> simp

@[simp] theorem State.preAccept_agenda (s : State) (x2 : SampleSet) : (s.preAccept x2).agenda = s.agenda := by
  simp [State.preAccept]

@[simp] theorem State.mminority_agenda (s : State) (l kind : Nat) : (s.mminority l kind).agenda = s.agenda := by
  simp [State.mminority]

@[simp] theorem State.mvote_agenda (s : State) (v : MantisVote) : (s.mvote v).1.agenda = s.agenda := by
  unfold State.mvote
  split <;> simp

@[simp] theorem State.closeStart_agenda (s : State) (x2 : Nat) : (s.closeStart x2).agenda = s.agenda := by
  unfold State.closeStart
  dsimp only
  repeat' split
  all_goals simp

@[simp] theorem State.tripStart_agenda (s : State) (x2 : Nat) : (s.tripStart x2).agenda = s.agenda := by
  unfold State.tripStart
  dsimp only
  repeat' split
  all_goals simp

@[simp] theorem State.pulsesStart_agenda (s : State) : s.pulsesStart.agenda = s.agenda := by simp [State.pulsesStart]

@[simp] theorem State.issue_agenda (s : State) (r : Run) (tmr : List Nat) (set : SampleSet) :
    (s.issue r tmr set).agenda = s.agenda := by simp [State.issue]

@[simp] theorem State.preStop_agenda (s : State) : s.preStop.agenda = s.agenda := by simp [State.preStop]

@[simp] theorem State.publishEl_agenda (s : State) (r : Run) : (s.publishEl r).agenda = s.agenda := by
  simp [State.publishEl]

@[simp] theorem State.publish_agenda (s : State) (r : Run) : (s.publish r).agenda = s.agenda := by simp [State.publish]

@[simp] theorem State.mresync_agenda (s : State) : s.mresync.agenda = s.agenda := by simp [State.mresync]

@[simp] theorem State.engineTick_agenda (s : State) (vote : MantisVote) : (s.engineTick vote).agenda = s.agenda := by
  unfold State.engineTick
  dsimp only
  repeat' split
  all_goals simp

theorem execTripPulseStart_answers (dt : Nat) (x2 : Fin 8) (s : State) :
    Answers (s.elapse dt).agenda (execTripPulseStart dt x2 s) := onMain_answers fun u => by simp

theorem execTripPulseEnd_answers (dt : Nat) (x2 : Fin 8) (peak : BitVec 16) (s : State) :
    Answers (s.elapse dt).agenda (execTripPulseEnd dt x2 peak s) := onMain_answers fun u => by simp

theorem execClosePulseStart_answers (dt : Nat) (x2 : Fin 4) (s : State) :
    Answers (s.elapse dt).agenda (execClosePulseStart dt x2 s) := onMain_answers fun u => by simp

theorem execClosePulseEnd_answers (dt : Nat) (x2 : Fin 4) (peak : BitVec 16) (s : State) :
    Answers (s.elapse dt).agenda (execClosePulseEnd dt x2 peak s) := onMain_answers fun u => by simp

theorem execTcsflt_answers (dt : Nat) (x2 : Fin 12) (on : Bool) (s : State) :
    Answers (s.elapse dt).agenda (execTcsflt dt x2 on s) := onMain_answers fun u => by simp

theorem execDrvflt_answers (dt : Nat) (x2 : Fin 12) (on : Bool) (s : State) :
    Answers (s.elapse dt).agenda (execDrvflt dt x2 on s) := onMain_answers fun u => by simp

theorem execTfail_answers (dt : Nat) (x2 : Fin 12) (s : State) : Answers (s.elapse dt).agenda (execTfail dt x2 s) :=
  onMain_answers fun u => by simp

theorem execBreakerCurrentLow_answers (dt : Nat) (x2 : Fin 8) (s : State) :
    Answers (s.elapse dt).agenda (execBreakerCurrentLow dt x2 s) := onMain_answers fun u => by simp

theorem execGroupSealDone_answers (dt : Nat) (s : State) : Answers (s.elapse dt).agenda (execGroupSealDone dt s) := by
  unfold execGroupSealDone
  refine onMain_answers fun u => ?_
  dsimp only
  repeat' split
  all_goals simp

theorem execPreMemoryUe_answers (dt : Nat) (o : Fin 196608) (s : State) :
    Answers (s.elapse dt).agenda (execPreMemoryUe dt o s) := onMain_answers fun u => by simp

/-! ### The queue and the ticks after the operations of Drc.lean -/

@[simp] theorem State.setSlot_agenda (s : State) (i : Nat) (d : DrcSlot) : (s.setSlot i d).agenda = s.agenda := by
  simp [State.setSlot]

@[simp] theorem State.drcTrunc_agenda (s : State) : s.drcTrunc.agenda = s.agenda := by
  unfold State.drcTrunc
  split <;> simp

@[simp] theorem State.drcLost_agenda (s : State) (fault : Bool) : (s.drcLost fault).agenda = s.agenda := by
  simp [State.drcLost]

@[simp] theorem State.drcNumber_agenda (s : State) (num : Nat) : (s.drcNumber num).agenda = s.agenda := by
  simp [State.drcNumber]

@[simp] theorem State.drcOpen_agenda (s : State) (e : DrcTrig) (f : Nat) : (s.drcOpen e f).agenda = s.agenda := by
  unfold State.drcOpen
  split <;> simp

@[simp] theorem State.drcReopen_agenda (s : State) : s.drcReopen.agenda = s.agenda := by
  unfold State.drcReopen
  dsimp only
  repeat' split
  all_goals simp

@[simp] theorem State.drcSettle_agenda (s : State) : s.drcSettle.agenda = s.agenda := by
  unfold State.drcSettle
  split <;> simp

@[simp] theorem State.drcStop_agenda (s : State) : s.drcStop.agenda = s.agenda := by simp [State.drcStop]

theorem execTrgnow_answers (dt : Nat) (who : Init) (v : Word) (s : State) :
    Answers (s.elapse dt).agenda (execTrgnow dt who v s) := onMain_answers fun u => by simp

theorem execDrcCntclr_answers (dt : Nat) (who : Init) (v : Word) (s : State) :
    Answers (s.elapse dt).agenda (execDrcCntclr dt who v s) := onMain_answers fun u => by simp

@[simp] theorem State.expStart_agenda (s : State) (who : Init) (v : Word) (kind : Nat)
    (file : State → DrcArc → List Nat) :
    (s.expStart who v kind file).agenda = s.agenda := by
  unfold State.expStart
  refine State.cmdW_agenda _ _ _ _ _ fun n u => ?_
  refine State.keyed_agenda _ _ _ _ _ _ _ fun u => ?_
  repeat' split
  all_goals simp

theorem execExpcmdHdr_answers (dt : Nat) (who : Init) (v : Word) (s : State) :
    Answers (s.elapse dt).agenda (execExpcmdHdr dt who v s) := onMain_answers fun u => by simp

theorem execExpcmdDat_answers (dt : Nat) (who : Init) (v : Word) (s : State) :
    Answers (s.elapse dt).agenda (execExpcmdDat dt who v s) := onMain_answers fun u => by simp

theorem execExpcmdCfg_answers (dt : Nat) (who : Init) (v : Word) (s : State) :
    Answers (s.elapse dt).agenda (execExpcmdCfg dt who v s) := onMain_answers fun u => by simp

@[simp] theorem State.arcmd_agenda (s : State) (who : Init) (v : Word) (op : Nat) (f : Nat → State → State)
    (hf : ∀ y0 y1, (f y0 y1).agenda = y1.agenda) :
    (s.arcmd who v op f).agenda = s.agenda := by
  unfold State.arcmd
  refine State.cmdW_agenda _ _ _ _ _ fun n u => ?_
  refine State.keyed_agenda _ _ _ _ _ _ _ fun u => ?_
  split
  · exact hf _ _
  · rfl

@[simp] theorem State.arcProtect_agenda (s : State) (on : Bool) : (s.arcProtect on).agenda = s.agenda := by
  unfold State.arcProtect
  split <;> simp

theorem execArcmdUnprotect_answers (dt : Nat) (who : Init) (v : Word) (s : State) :
    Answers (s.elapse dt).agenda (execArcmdUnprotect dt who v s) := onMain_answers fun u => by simp

@[simp] theorem State.arcShow_agenda (s : State) : s.arcShow.agenda = s.agenda := by simp [State.arcShow]

theorem execArcmdDelete_answers (dt : Nat) (who : Init) (v : Word) (s : State) :
    Answers (s.elapse dt).agenda (execArcmdDelete dt who v s) := onMain_answers fun u => by simp

@[simp] theorem State.drcUnblock_agenda (s : State) : s.drcUnblock.agenda = s.agenda := by simp [State.drcUnblock]

@[simp] theorem State.freeSlot_agenda (s : State) (i : Nat) :
    (s.freeSlot i).agenda = s.agenda := by simp [State.freeSlot]

theorem execArcmdRelease_answers (dt : Nat) (who : Init) (v : Word) (s : State) :
    Answers (s.elapse dt).agenda (execArcmdRelease dt who v s) := onMain_answers fun u => by simp

theorem execArcmdRetry_answers (dt : Nat) (who : Init) (v : Word) (s : State) :
    Answers (s.elapse dt).agenda (execArcmdRetry dt who v s) := by
  unfold execArcmdRetry
  refine onMain_answers fun u => ?_
  exact State.arcmd_agenda _ _ _ _ _ fun _ _ => State.agenda_mk ..

theorem execArcmdProtect_answers (dt : Nat) (who : Init) (v : Word) (s : State) :
    Answers (s.elapse dt).agenda (execArcmdProtect dt who v s) := onMain_answers fun u => by simp

@[simp] theorem State.drcEnd_agenda (s : State) : s.drcEnd.agenda = s.agenda := by
  unfold State.drcEnd
  split <;> simp

@[simp] theorem State.drcApplied_agenda (s old : State) (p : Nat) : (s.drcApplied old p).agenda = s.agenda := by
  simp [State.drcApplied]

@[simp] theorem State.drcReset_agenda (s : State) : s.drcReset.agenda = s.agenda := by simp [State.drcReset]

@[simp] theorem State.drcBlock_agenda (s : State) : s.drcBlock.agenda = s.agenda := by simp [State.drcBlock]

@[simp] theorem State.trOther_agenda (s : State) (set : SampleSet) : (s.trOther set).1.agenda = s.agenda := by
  simp [State.trOther]

@[simp] theorem State.addTrig_agenda (s : State) (x2 : DrcTick) (codes : List Nat) :
    (s.addTrig x2 codes).agenda = s.agenda := by simp [State.addTrig]

@[simp] theorem State.drcNote_agenda (s : State) (x2 : DrcTick) : (s.drcNote x2).agenda = s.agenda := by
  simp [State.drcNote]

@[simp] theorem State.drcFrame_agenda (s : State) (set : SampleSet) : (s.drcFrame set).agenda = s.agenda := by
  simp [State.drcFrame]

theorem execSampleSetDelivery_answers (dt : Nat) (x : List ChIn) (s : State) :
    Answers (s.elapse dt).agenda (execSampleSetDelivery dt x s) := by
  unfold execSampleSetDelivery
  refine guarded_answers (onMain_answers fun u => ?_)
  split <;> simp

@[simp] theorem State.drcFlags_agenda (s : State) (set : SampleSet) : (s.drcFlags set).agenda = s.agenda := by
  unfold State.drcFlags
  dsimp only
  repeat' split
  all_goals simp

theorem execEngineTick_answers (dt : Nat) (vote : MantisVote) (s : State) :
    Answers (s.elapse dt).agenda (execEngineTick dt vote s) := by
  unfold execEngineTick
  refine onMain_answers fun u => ?_
  split <;> simp

@[simp] theorem State.markTrig_agenda (s : State) (f : Nat) :
    (s.markTrig f).agenda = s.agenda := by simp [State.markTrig]

@[simp] theorem State.drcExtend_agenda (s : State) (e : DrcTrig) (f : Nat) : (s.drcExtend e f).agenda = s.agenda := by
  unfold State.drcExtend
  split <;> simp

@[simp] theorem State.drcJudge_agenda (s : State) (e : DrcTrig) : (s.drcJudge e).agenda = s.agenda := by
  unfold State.drcJudge
  split <;> simp

theorem execDrcTrigger_answers (dt : Nat) (s : State) : Answers (s.elapse dt).agenda (execDrcTrigger dt s) := by
  unfold execDrcTrigger
  refine onMain_answers fun u => ?_
  split <;> simp

@[simp] theorem State.arcRoom_agenda (x1 x2 : Nat) (x3 : State) : (State.arcRoom x1 x2 x3).agenda = x3.agenda := by
  induction x1 generalizing x3 with
  | zero => rfl
  | succ k ih =>
    rw [State.arcRoom]
    repeat' split
    all_goals simp [ih]

theorem execArchiveCopyStart_answers (dt : Nat) (s : State) : Answers (s.elapse dt).agenda
    (execArchiveCopyStart dt s) := by
  unfold execArchiveCopyStart
  refine onMain_answers fun u => ?_
  repeat' split
  all_goals simp

theorem execArchdone_answers (dt : Nat) (s : State) : Answers (s.elapse dt).agenda (execArchdone dt s) := by
  unfold execArchdone
  refine onMain_answers fun u => ?_
  split <;> simp

theorem execArchIo_answers (dt : Nat) (s : State) : Answers (s.elapse dt).agenda (execArchIo dt s) := by
  unfold execArchIo
  refine onMain_answers fun u => ?_
  split <;> simp

theorem execExpdone_answers (dt : Nat) (s : State) : Answers (s.elapse dt).agenda (execExpdone dt s) := by
  unfold execExpdone
  refine onMain_answers fun u => ?_
  split <;> simp

@[simp] theorem State.drcBoot_agenda (s : State) : s.drcBoot.agenda = s.agenda := by simp [State.drcBoot]

end Sys2Proof.Machine

namespace Sys2Proof.Machine

/-! ### The queue and the ticks after the operations of Sar.lean -/

@[simp] theorem State.setSarC_agenda (s : State) (c : Nat) (x : SarConv) : (s.setSarC c x).agenda = s.agenda := by
  simp [State.setSarC]

@[simp] theorem State.sarShow_agenda (s : State) (c : Nat) : (s.sarShow c).agenda = s.agenda := by simp [State.sarShow]

theorem execConvreq_answers (dt : Nat) (who : Init) (c : Fin 4) (v : Word) (s : State) :
    Answers (s.elapse dt).agenda (execConvreq dt who c v s) := onMain_answers fun u => by simp

@[simp] theorem State.sarEnd_agenda (s old : State) (c : Nat) (aband : Option Nat) :
    (s.sarEnd old c aband).agenda = s.agenda := by simp [State.sarEnd]

theorem execSeqcmdStop_answers (dt : Nat) (who : Init) (c : Fin 4) (v : Word) (s : State) :
    Answers (s.elapse dt).agenda (execSeqcmdStop dt who c v s) := onMain_answers fun u => by simp

@[simp] theorem State.sarFire_agenda (s : State) (c tr : Nat) : (s.sarFire c tr).agenda = s.agenda := by
  simp [State.sarFire]

theorem execSeqcmdGo_answers (dt : Nat) (who : Init) (c : Fin 4) (v : Word) (s : State) :
    Answers (s.elapse dt).agenda (execSeqcmdGo dt who c v s) := onMain_answers fun u => by simp

theorem execSarCntclr_answers (dt : Nat) (who : Init) (c : Fin 4) (v : Word) (s : State) :
    Answers (s.elapse dt).agenda (execSarCntclr dt who c v s) := onMain_answers fun u => by simp

theorem execChkclr_answers (dt : Nat) (who : Init) (c : Fin 4) (v : Word) (s : State) :
    Answers (s.elapse dt).agenda (execChkclr dt who c v s) := by
  unfold execChkclr
  refine onMain_answers fun u => ?_
  refine State.cmdW_agenda _ _ _ _ _ fun n u => ?_
  refine onOne_agenda _ _ _ fun u => ?_
  repeat' split
  all_goals simp

@[simp] theorem State.sarAbandon_agenda (s old : State) (c : Nat) : (s.sarAbandon old c).agenda = s.agenda := by
  unfold State.sarAbandon
  dsimp only
  repeat' split
  all_goals simp

@[simp] theorem State.sarTake_agenda (s : State) (c m : Nat) : (s.sarTake c m).agenda = s.agenda := by
  simp [State.sarTake]

@[simp] theorem State.sarApplied_agenda (s old : State) (p : Nat) : (s.sarApplied old p).agenda = s.agenda := by
  simp [State.sarApplied]

@[simp] theorem State.sarHold_agenda (s : State) (on : Bool) :
    (s.sarHold on).agenda = s.agenda := by simp [State.sarHold]

@[simp] theorem State.sarReset_agenda (s : State) (c : Nat) :
    (s.sarReset c).agenda = s.agenda := by simp [State.sarReset]

theorem execSarTrigger_answers (dt : Nat) (c : Fin 4) (s : State) : Answers (s.elapse dt).agenda
    (execSarTrigger dt c s) := by
  unfold execSarTrigger
  refine onMain_answers fun u => ?_
  split <;> simp

@[simp] theorem State.sarRef_agenda (s : State) (c cfg : Nat) (code : Int) :
    (s.sarRef c cfg code).agenda = s.agenda := by
  simp [State.sarRef]

@[simp] theorem State.reqConv_agenda (s : State) (c : Nat) (r : Nat × Nat × Nat) (q : Nat) (code : Int) :
    (s.reqConv c r q code).agenda = s.agenda := by simp [State.reqConv]

@[simp] theorem State.slotWrite_agenda (s : State) (c e slot : Nat) (v raw : Int) (rng fb : Bool) (stamp : Nat) :
    (s.slotWrite c e slot v raw rng fb stamp).agenda = s.agenda := by simp [State.slotWrite]

@[simp] theorem State.seqConv_agenda (s : State) (c : Nat) (p : SarPass) (q : Nat) (code : Int) :
    (s.seqConv c p q code).1.agenda = s.agenda := by simp [State.seqConv]

theorem execSarConversion_answers (dt : Nat) (c : Fin 4) (code : BitVec 16) (s : State) :
    Answers (s.elapse dt).agenda (execSarConversion dt c code s) := by
  unfold execSarConversion
  refine onMain_answers fun u => ?_
  dsimp only
  repeat' split
  all_goals simp

theorem execSarReady_answers (dt : Nat) (c : Fin 4) (s : State) : Answers (s.elapse dt).agenda (execSarReady dt c s) :=
  onMain_answers fun u => by simp

@[simp] theorem State.sarSelf_agenda (s : State) (c : Nat) : (s.sarSelf c).agenda = s.agenda := by simp [State.sarSelf]

theorem execSarFallback_answers (dt : Nat) (c : Fin 4) (s : State) :
    Answers (s.elapse dt).agenda (execSarFallback dt c s) := by
  unfold execSarFallback
  refine onMain_answers fun u => ?_
  split <;> simp

theorem execSarFallbackPass_answers (dt : Nat) (c : Fin 4) (s : State) :
    Answers (s.elapse dt).agenda (execSarFallbackPass dt c s) := by
  unfold execSarFallbackPass
  refine onMain_answers fun u => ?_
  split <;> simp

@[simp] theorem State.sarStep_agenda (s : State) : s.sarStep.agenda = s.agenda := by simp [State.sarStep]

/-! ### The queue and the ticks after the operations of Loop.lean -/

@[simp] theorem State.setLo_agenda (s : State) (c : Nat) (x : LoopOut) : (s.setLo c x).agenda = s.agenda := by
  simp [State.setLo]

@[simp] theorem State.loopGate_agenda (s : State) (open_ : Bool) : (s.loopGate open_).agenda = s.agenda := by
  simp [State.loopGate]

@[simp] theorem State.loTake_agenda (s : State) (c v : Nat) (safe : Bool) : (s.loTake c v safe).agenda = s.agenda := by
  simp [State.loTake]

@[simp] theorem State.loSafe_agenda (s : State) (c : Nat) : (s.loSafe c).agenda = s.agenda := by simp [State.loSafe]

theorem execLoopFltclr_answers (dt : Nat) (who : Init) (v : Word) (below : Byte) (s : State) :
    Answers (s.elapse dt).agenda (execLoopFltclr dt who v below s) := by
  unfold execLoopFltclr
  refine onMain_answers fun u => ?_
  refine State.cmdW_agenda _ _ _ _ _ fun n u => ?_
  refine State.keyed_agenda _ _ _ _ _ _ _ fun u => ?_
  simp

theorem execLoopCntclr_answers (dt : Nat) (who : Init) (v : Word) (s : State) :
    Answers (s.elapse dt).agenda (execLoopCntclr dt who v s) := onMain_answers fun u => by simp

@[simp] theorem State.loopFreeze_agenda (s old : State) : (s.loopFreeze old).agenda = s.agenda := by
  unfold State.loopFreeze
  split <;> simp

@[simp] theorem State.loopCut_agenda (s : State) : s.loopCut.agenda = s.agenda := by simp [State.loopCut]

@[simp] theorem State.setLi_agenda (s : State) (x2 : Nat) (x : LoopIn) : (s.setLi x2 x).agenda = s.agenda := by
  simp [State.setLi]

@[simp] theorem State.loCommit_agenda (s : State) (c v : Nat) : (s.loCommit c v).agenda = s.agenda := by
  simp [State.loCommit]

@[simp] theorem State.loopApplied_agenda (s old : State) (p : Nat) : (s.loopApplied old p).agenda = s.agenda := by
  simp [State.loopApplied]

@[simp] theorem State.loopRail_agenda (s : State) (vl : Nat) : (s.loopRail vl).agenda = s.agenda := by
  simp [State.loopRail]

@[simp] theorem State.liStatus_agenda (s : State) (x2 : Nat) (y : Int) : (s.liStatus x2 y).agenda = s.agenda := by
  simp [State.liStatus]

@[simp] theorem State.liScan_agenda (s : State) (x2 : Nat) (codes : List Int) (stamp : Nat) :
    (s.liScan x2 codes stamp).agenda = s.agenda := by simp [State.liScan]

@[simp] theorem State.loFault_agenda (s : State) (c x3 ev : Nat) : (s.loFault c x3 ev).agenda = s.agenda := by
  simp [State.loFault]

@[simp] theorem State.loScan_agenda (s : State) (c t0 : Nat) (codes : List Int) (stamp : Nat) :
    (s.loScan c t0 codes stamp).agenda = s.agenda := by simp [State.loScan]

theorem execLoopScan_answers (dt : Nat) (x : List (List (BitVec 16))) (vl : BitVec 16) (s : State) :
    Answers (s.elapse dt).agenda (execLoopScan dt x vl s) := by
  unfold execLoopScan
  refine guarded_answers (onMain_answers fun u => ?_)
  split <;> simp

theorem execCompl_answers (dt : Nat) (c : Fin 8) (s : State) : Answers (s.elapse dt).agenda (execCompl dt c s) :=
  onMain_answers fun u => by simp

theorem execLoopOpen_answers (dt : Nat) (c : Fin 8) (s : State) : Answers (s.elapse dt).agenda (execLoopOpen dt c s) :=
  onMain_answers fun u => by simp

theorem execRbhigh_answers (dt : Nat) (c : Fin 8) (s : State) : Answers (s.elapse dt).agenda (execRbhigh dt c s) :=
  onMain_answers fun u => by simp

theorem execProt_answers (dt : Nat) (x2 : Fin 8) (s : State) : Answers (s.elapse dt).agenda (execProt dt x2 s) :=
  onMain_answers fun u => by simp

theorem execLimiterReclose_answers (dt : Nat) (x2 : Fin 8) (s : State) :
    Answers (s.elapse dt).agenda (execLimiterReclose dt x2 s) := onMain_answers fun u => by simp

theorem execMiswire_answers (dt : Nat) (c : Fin 8) (s : State) : Answers (s.elapse dt).agenda (execMiswire dt c s) :=
  onMain_answers fun u => by simp

@[simp] theorem State.loopStep_agenda (s : State) : s.loopStep.agenda = s.agenda := by simp [State.loopStep]

/-! ### The queue and the ticks after the operations of Can.lean -/

@[simp] theorem State.setCan_agenda (s : State) (c : Nat) (x : CanCtl) : (s.setCan c x).agenda = s.agenda := by
  simp [State.setCan]

theorem execTxtspop_answers (dt : Nat) (who : Init) (c : Fin 4) (s : State) :
    Answers (s.elapse dt).agenda (execTxtspop dt who c s) := by
  unfold execTxtspop
  refine onMain_answers fun u => ?_
  refine State.cmdR_agenda _ _ _ _ _ fun n u => ?_
  dsimp only
  repeat' split
  all_goals simp

@[simp] theorem State.setTx_agenda (s : State) (c k : Nat) (x : CanTx) : (s.setTx c k x).agenda = s.agenda := by
  simp [State.setTx]

@[simp] theorem State.txDrop_agenda (s : State) (c k : Nat) : (s.txDrop c k).agenda = s.agenda := by simp [State.txDrop]

@[simp] theorem State.canGate_agenda (s : State) (c : Nat) : (s.canGate c).agenda = s.agenda := by simp [State.canGate]

@[simp] theorem State.canPrimacy_agenda (s : State) : s.canPrimacy.agenda = s.agenda := by simp [State.canPrimacy]

@[simp] theorem State.txWrite_agenda (s : State) (c k dlc : Nat) (data : List Nat) :
    (s.txWrite c k dlc data).agenda = s.agenda := by simp [State.txWrite]

@[simp] theorem State.txLoad_agenda (s : State) (c k : Nat) : (s.txLoad c k).agenda = s.agenda := by simp [State.txLoad]

@[simp] theorem State.canEv_agenda (s : State) (c x3 : Nat) : (s.canEv c x3).agenda = s.agenda := by simp [State.canEv]

@[simp] theorem State.txEnd_agenda (s : State) (c k last : Nat) (late : Bool) :
    (s.txEnd c k last late).agenda = s.agenda := by simp [State.txEnd]

@[simp] theorem State.txCancel_agenda (s : State) (c k : Nat) : (s.txCancel c k).agenda = s.agenda := by
  simp [State.txCancel]

@[simp] theorem State.canSafe_agenda (s : State) (c k : Nat) : (s.canSafe c k).agenda = s.agenda := by
  simp [State.canSafe]

theorem execCancmdRecover_answers (dt : Nat) (who : Init) (c : Fin 4) (v : Word) (s : State) :
    Answers (s.elapse dt).agenda (execCancmdRecover dt who c v s) := onMain_answers fun u => by simp

@[simp] theorem State.txcmd_agenda (s : State) (who : Init) (c : Nat) (v : Word) (op : Nat)
    (f : Nat → Nat → State → State) (hf : ∀ y0 y1 y2, (f y0 y1 y2).agenda = y2.agenda) :
    (s.txcmd who c v op f).agenda = s.agenda := by
  unfold State.txcmd
  refine State.cmdW_agenda _ _ _ _ _ fun n u => ?_
  refine State.keyed_agenda _ _ _ _ _ _ _ fun u => ?_
  repeat' split
  all_goals simp [hf]

theorem execTxcmdCancel_answers (dt : Nat) (who : Init) (c : Fin 4) (v : Word) (s : State) :
    Answers (s.elapse dt).agenda (execTxcmdCancel dt who c v s) := onMain_answers fun u => by simp

theorem execTxcmdLoad_answers (dt : Nat) (who : Init) (c : Fin 4) (v : Word) (s : State) :
    Answers (s.elapse dt).agenda (execTxcmdLoad dt who c v s) := onMain_answers fun u => by simp

@[simp] theorem State.txRequest_agenda (s : State) (c k : Nat) : (s.txRequest c k).agenda = s.agenda := by
  simp [State.txRequest]

theorem execTxcmdSend_answers (dt : Nat) (who : Init) (c : Fin 4) (v : Word) (s : State) :
    Answers (s.elapse dt).agenda (execTxcmdSend dt who c v s) := onMain_answers fun u => by simp

@[simp] theorem State.rxqFree_agenda (s : State) (c k : Nat) : (s.rxqFree c k).agenda = s.agenda := by
  simp [State.rxqFree]

theorem execRxqrel_answers (dt : Nat) (who : Init) (c : Fin 4) (v : Word) (s : State) :
    Answers (s.elapse dt).agenda (execRxqrel dt who c v s) := onMain_answers fun u => by simp

theorem execCanCntclr_answers (dt : Nat) (who : Init) (c : Fin 4) (v : Word) (s : State) :
    Answers (s.elapse dt).agenda (execCanCntclr dt who c v s) := onMain_answers fun u => by simp

@[simp] theorem State.canRamPut_agenda (s : State) (c o : Nat) (bs : List Nat) :
    (s.canRamPut c o bs).agenda = s.agenda := by
  simp [State.canRamPut]

@[simp] theorem State.setTtSync_agenda (s : State) (c e : Nat) : (s.setTtSync c e).agenda = s.agenda := by
  simp [State.setTtSync]

@[simp] theorem State.setTt_agenda (s : State) (c : Nat) (x : CanTt) : (s.setTt c x).agenda = s.agenda := by
  simp [State.setTt]

@[simp] theorem State.ttNone_agenda (s : State) (c : Nat) : (s.ttNone c).agenda = s.agenda := by simp [State.ttNone]

@[simp] theorem State.canGo_agenda (s : State) (c st : Nat) : (s.canGo c st).agenda = s.agenda := by simp [State.canGo]

@[simp] theorem State.txEndAll_agenda (s : State) (c last : Nat) : (s.txEndAll c last).agenda = s.agenda := by
  simp [State.txEndAll]

@[simp] theorem State.canModeGo_agenda (s : State) (c m : Nat) : (s.canModeGo c m).agenda = s.agenda := by
  simp [State.canModeGo]

@[simp] theorem State.canMode_agenda (s : State) (c m : Nat) : (s.canMode c m).agenda = s.agenda := by
  simp [State.canMode]

@[simp] theorem State.setTtErr_agenda (s : State) (c e : Nat) : (s.setTtErr c e).agenda = s.agenda := by
  simp [State.setTtErr]

@[simp] theorem State.ttShow_agenda (s : State) (c : Nat) : (s.ttShow c).agenda = s.agenda := by simp [State.ttShow]

@[simp] theorem State.setStale_agenda (s : State) (c x3 : Nat) (x4 : Bool) : (s.setStale c x3 x4).agenda = s.agenda := by
  simp [State.setStale]

@[simp] theorem State.setLost_agenda (s : State) (c x3 : Nat) (x4 : Bool) : (s.setLost c x3 x4).agenda = s.agenda := by
  simp [State.setLost]

@[simp] theorem State.setNew_agenda (s : State) (c x3 : Nat) (x4 : Bool) : (s.setNew c x3 x4).agenda = s.agenda := by
  simp [State.setNew]

@[simp] theorem State.canRemap_agenda (s old : State) (c : Nat) : (s.canRemap old c).agenda = s.agenda := by
  unfold State.canRemap
  dsimp only
  rw [State.wr_agenda, agenda_foldl _ _ fun t a => by repeat' split <;> simp]
  simp

@[simp] theorem State.canApplied_agenda (s old : State) (p : Nat) : (s.canApplied old p).agenda = s.agenda := by
  unfold State.canApplied
  split <;> simp

@[simp] theorem State.ttRaise_agenda (s : State) (c e : Nat) : (s.ttRaise c e).agenda = s.agenda := by
  simp [State.ttRaise]

@[simp] theorem State.canCounters_agenda (s : State) (c tec rec_ : Nat) :
    (s.canCounters c tec rec_).agenda = s.agenda := by
  simp [State.canCounters]

@[simp] theorem State.txBack_agenda (s : State) (c k : Nat) : (s.txBack c k).agenda = s.agenda := by simp [State.txBack]

@[simp] theorem State.txError_agenda (s : State) (c k : Nat) : (s.txError c k).agenda = s.agenda := by
  simp [State.txError]

@[simp] theorem State.tdcMeasure_agenda (s : State) (c : Nat) (fd : Bool) : (s.tdcMeasure c fd).agenda = s.agenda := by
  simp [State.tdcMeasure]

@[simp] theorem State.tdcError_agenda (s : State) (c : Nat) (fd : Bool) (lec : Nat) (dataPhase : Bool) :
    (s.tdcError c fd lec dataPhase).agenda = s.agenda := by simp [State.tdcError]

@[simp] theorem State.canIdle_agenda (s : State) (c : Nat) : (s.canIdle c).agenda = s.agenda := by simp [State.canIdle]

@[simp] theorem State.canErr_agenda (s : State) (c lec : Nat) (dataPhase : Bool) (tec rec_ : Nat) :
    (s.canErr c lec dataPhase tec rec_).agenda = s.agenda := by
  unfold State.canErr
  dsimp only
  repeat' split
  all_goals simp

@[simp] theorem State.rxqAdd_agenda (s : State) (c : Nat) (q : CanQ) : (s.rxqAdd c q).agenda = s.agenda := by
  simp [State.rxqAdd]

@[simp] theorem State.setObj_agenda (s : State) (c d : Nat) (x : CanObj) : (s.setObj c d x).agenda = s.agenda := by
  simp [State.setObj]

@[simp] theorem State.objUpdate_agenda (s : State) (c x3 d : Nat) (f : CanFrame) (sof stamp : Nat) :
    (s.objUpdate c x3 d f sof stamp).agenda = s.agenda := by simp [State.objUpdate]

@[simp] theorem State.canFilter_agenda (s : State) (c : Nat) (f : CanFrame) (sof stamp : Nat) :
    (s.canFilter c f sof stamp).agenda = s.agenda := by
  unfold State.canFilter
  dsimp only
  repeat' split
  all_goals simp

@[simp] theorem State.canLost_agenda (s : State) (c : Nat) : (s.canLost c).agenda = s.agenda := by
  unfold State.canLost
  split <;> simp

@[simp] theorem State.canReset_agenda (s : State) (c : Nat) :
    (s.canReset c).agenda = s.agenda := by simp [State.canReset]

@[simp] theorem State.txStamp_agenda (s : State) (c k sof : Nat) : (s.txStamp c k sof).agenda = s.agenda := by
  simp [State.txStamp]

@[simp] theorem State.canSent_agenda (s : State) (c : Nat) : (s.canSent c).agenda = s.agenda := by
  unfold State.canSent
  split <;> simp

@[simp] theorem State.canSink_agenda (s : State) (c k : Nat) (x4 : List Nat) : (s.canSink c k x4).agenda = s.agenda := by
  simp [State.canSink]

@[simp] theorem State.ttMove_agenda (s : State) (c : Nat) (d : Int) : (s.ttMove c d).agenda = s.agenda := by
  simp [State.ttMove]

@[simp] theorem State.canStep_agenda (s : State) (d : Int) : (s.canStep d).agenda = s.agenda := by simp [State.canStep]

@[simp] theorem State.canStrobe_agenda (s : State) (line : Nat) : (s.canStrobe line).agenda = s.agenda := by
  simp [State.canStrobe]

@[simp] theorem State.recDown_agenda (s : State) (c : Nat) : (s.recDown c).agenda = s.agenda := by simp [State.recDown]

@[simp] theorem State.ttS1_agenda (s : State) (c : Nat) : (s.ttS1 c).agenda = s.agenda := by simp [State.ttS1]

@[simp] theorem State.ttClose_agenda (s : State) (c : Nat) (all : Bool) : (s.ttClose c all).agenda = s.agenda := by
  refine agenda_forN _ _ (fun a t => ?_) _
  dsimp only
  repeat' split
  all_goals simp

@[simp] theorem State.ttCycle_agenda (s : State) (c m x4 prio : Nat) : (s.ttCycle c m x4 prio).agenda = s.agenda := by
  simp [State.ttCycle]

@[simp] theorem State.ttGood_agenda (s : State) (c x3 : Nat) :
    (s.ttGood c x3).agenda = s.agenda := by simp [State.ttGood]

@[simp] theorem State.ttMaster_agenda (s : State) (c m x4 : Nat) : (s.ttMaster c m x4).agenda = s.agenda := by
  simp [State.ttMaster]

@[simp] theorem State.txStart_agenda (s : State) (c k ph : Nat) (excl : Bool) :
    (s.txStart c k ph excl).agenda = s.agenda := by simp [State.txStart]

theorem execBusoffRecovery_answers (dt : Nat) (c : Fin 4) (s : State) :
    Answers (s.elapse dt).agenda (execBusoffRecovery dt c s) := onMain_answers fun u => by simp

theorem execCanFrameReceived_answers (dt : Nat) (c : Fin 4) (f : CanFrame) (ago : Nat) (ph : Fin 8) (s : State) :
    Answers (s.elapse dt).agenda (execCanFrameReceived dt c f ago ph s) :=
  guarded_answers (onMain_answers fun u => by simp)

theorem execCanIntegrated_answers (dt : Nat) (c : Fin 4) (s : State) :
    Answers (s.elapse dt).agenda (execCanIntegrated dt c s) := onMain_answers fun u => by simp

theorem execCanTxStart_answers (dt : Nat) (c : Fin 4) (ph : Fin 8) (s : State) :
    Answers (s.elapse dt).agenda (execCanTxStart dt c ph s) := by
  unfold execCanTxStart
  refine onMain_answers fun u => ?_
  repeat' split
  all_goals simp

theorem execCanTxTimer_answers (dt : Nat) (c : Fin 4) (k : Fin 32) (s : State) :
    Answers (s.elapse dt).agenda (execCanTxTimer dt c k s) := onMain_answers fun u => by simp

theorem execCanWake_answers (dt : Nat) (c : Fin 4) (w : CanWake) (s : State) :
    Answers (s.elapse dt).agenda (execCanWake dt c w s) := always_answers fun u => by simp

theorem execScheduleEntryFire_answers (dt : Nat) (d : Fin 384) (s : State) :
    Answers (s.elapse dt).agenda (execScheduleEntryFire dt d s) := by
  unfold execScheduleEntryFire
  refine onMain_answers fun u => ?_
  split <;> simp

theorem execTtReferenceAttempt_answers (dt : Nat) (c : Fin 4) (won : Bool) (ph : Fin 8) (s : State) :
    Answers (s.elapse dt).agenda (execTtReferenceAttempt dt c won ph s) := onMain_answers fun u => by simp

theorem execTtReferenceReceived_answers (dt : Nat) (c : Fin 4) (r : TtRef) (ago : Nat) (s : State) :
    Answers (s.elapse dt).agenda (execTtReferenceReceived dt c r ago s) := onMain_answers fun u => by simp

theorem execTtTrigger_answers (dt : Nat) (c : Fin 4) (j : Fin 64) (busy : Bool) (ph : Fin 8) (s : State) :
    Answers (s.elapse dt).agenda (execTtTrigger dt c j busy ph s) := by
  unfold execTtTrigger
  refine onMain_answers fun u => ?_
  dsimp only
  repeat' split
  all_goals simp

theorem execTtWatchExpiry_answers (dt : Nat) (c : Fin 4) (s : State) :
    Answers (s.elapse dt).agenda (execTtWatchExpiry dt c s) := onMain_answers fun u => by simp

end Sys2Proof.Machine

namespace Sys2Proof.Machine

/-! ### The queue and the ticks after the operations of Tmb.lean -/

@[simp] theorem State.setTmb_agenda (s : State) (x : TmbS) : (s.setTmb x).agenda = s.agenda := by simp [State.setTmb]

@[simp] theorem State.setTstate_agenda (s : State) (x : Nat) : (s.setTstate x).agenda = s.agenda := by
  simp [State.setTstate]

@[simp] theorem State.setRate_agenda (s : State) (r : Int) : (s.setRate r).agenda = s.agenda := by simp [State.setRate]

@[simp] theorem State.servoUpdate_agenda (s : State) (th : Int) (ts : Nat) :
    (s.servoUpdate th ts).agenda = s.agenda := by
  simp [State.servoUpdate]

@[simp] theorem State.servoCount_agenda (s : State) (th : Int) : (s.servoCount th).agenda = s.agenda := by
  simp [State.servoCount]

@[simp] theorem State.tmbSample_agenda (s : State) (th : Int) (at_ x4 : Nat) (x : Option Nat) :
    (s.tmbSample th at_ x4 x).agenda = s.agenda := by
  unfold State.tmbSample
  repeat' split
  all_goals simp

theorem execOfsgo_answers (dt : Nat) (who : Init) (v : Word) (s : State) :
    Answers (s.elapse dt).agenda (execOfsgo dt who v s) := onMain_answers fun u => by simp

theorem execTmbCapgo_answers (dt : Nat) (who : Init) (v : Word) (s : State) :
    Answers (s.elapse dt).agenda (execTmbCapgo dt who v s) := onMain_answers fun u => by simp

theorem execRestep_answers (dt : Nat) (who : Init) (v : Word) (s : State) :
    Answers (s.elapse dt).agenda (execRestep dt who v s) := onMain_answers fun u => by simp

@[simp] theorem State.leapArm_agenda (s : State) : s.leapArm.agenda = s.agenda := by simp [State.leapArm]

@[simp] theorem State.tmbApplied_agenda (s old : State) (p : Nat) : (s.tmbApplied old p).agenda = s.agenda := by
  simp [State.tmbApplied]

theorem execSyncinPulse_answers (dt ago : Nat) (s : State) : Answers (s.elapse dt).agenda (execSyncinPulse dt ago s) :=
  onMain_answers fun u => by simp

theorem execSyncinMissing_answers (dt : Nat) (s : State) : Answers (s.elapse dt).agenda (execSyncinMissing dt s) :=
  onMain_answers fun u => by simp

@[simp] theorem State.axTimeStep_agenda (s : State) (k : Nat) (d : Int) : (s.axTimeStep k d).agenda = s.agenda := by
  simp [State.axTimeStep]

@[simp] theorem State.timeMove_agenda (s : State) (d : Int) :
    (s.timeMove d).agenda = s.agenda := by simp [State.timeMove]

theorem execHoldover_answers (dt : Nat) (s : State) : Answers (s.elapse dt).agenda (execHoldover dt s) :=
  onMain_answers fun u => by simp

theorem execLeapSecond_answers (dt : Nat) (s : State) : Answers (s.elapse dt).agenda (execLeapSecond dt s) :=
  onMain_answers fun u => by simp

/-! ### The queue and the ticks after the operations of Eth.lean -/

theorem execTspop_answers (dt : Nat) (who : Init) (s : State) : Answers (s.elapse dt).agenda (execTspop dt who s) := by
  unfold execTspop
  refine onMain_answers fun u => ?_
  refine State.cmdR_agenda _ _ _ _ _ fun n u => ?_
  dsimp only
  repeat' split
  all_goals simp

@[simp] theorem State.setEthPd_agenda (s : State) (k : Nat) (x : EthPd) : (s.setEthPd k x).agenda = s.agenda := by
  simp [State.setEthPd]

@[simp] theorem State.ethSafe_agenda (s : State) (k tc : Nat) : (s.ethSafe k tc).agenda = s.agenda := by
  simp [State.ethSafe]

@[simp] theorem State.setEthRing_agenda (s : State) (p : Nat) (x : EthRing) : (s.setEthRing p x).agenda = s.agenda := by
  simp [State.setEthRing]

@[simp] theorem State.learn_agenda (s : State) (x2 v src : Nat) : (s.learn x2 v src).agenda = s.agenda := by
  simp [State.learn]

@[simp] theorem State.redPair_agenda (s : State) (m : Nat) : (s.redPair m).1.agenda = s.agenda := by simp [State.redPair]

@[simp] theorem State.setEthP_agenda (s : State) (x2 : Nat) (x : EthPort) : (s.setEthP x2 x).agenda = s.agenda := by
  simp [State.setEthP]

@[simp] theorem State.setQueue_agenda (s : State) (x2 q : Nat) (l : List EthItem) :
    (s.setQueue x2 q l).agenda = s.agenda := by simp [State.setQueue]

@[simp] theorem State.pdEnd_agenda (s : State) (k last : Nat) : (s.pdEnd k last).agenda = s.agenda := by
  simp [State.pdEnd]

@[simp] theorem State.dmaStop_agenda (s : State) (p : Nat) : (s.dmaStop p).agenda = s.agenda := by simp [State.dmaStop]

@[simp] theorem State.pdFrame_agenda (s : State) (k : Nat) : (s.pdFrame k).1.agenda = s.agenda := by
  unfold State.pdFrame
  dsimp only
  repeat' split
  all_goals simp

@[simp] theorem State.startFrom_agenda (s : State) (x2 q : Nat) : (s.startFrom x2 q).agenda = s.agenda := by
  unfold State.startFrom
  repeat' split
  all_goals simp

@[simp] theorem State.kickGo_agenda (x1 x2 : Nat) (x3 : State) : (State.kickGo x1 x2 x3).agenda = x3.agenda := by
  induction x2 generalizing x3 with
  | zero => rfl
  | succ k ih =>
    rw [State.kickGo]
    repeat' split
    all_goals simp [ih]

@[simp] theorem State.kick_agenda (s : State) (x2 : Nat) : (s.kick x2).agenda = s.agenda := by simp [State.kick]

@[simp] theorem State.enqueue_agenda (s : State) (x2 q : Nat) (i : EthItem) : (s.enqueue x2 q i).agenda = s.agenda := by
  simp [State.enqueue]

@[simp] theorem State.txOne_agenda (s : State) (p : Nat) : (s.txOne p).1.agenda = s.agenda := by
  unfold State.txOne
  simp
  repeat' split
  all_goals simp

@[simp] theorem State.txFetchGo_agenda (p x2 : Nat) (x3 : State) : (State.txFetchGo p x2 x3).agenda = x3.agenda := by
  induction x2 generalizing x3 with
  | zero => rfl
  | succ k ih =>
    have hone := State.txOne_agenda x3 p
    rw [State.txFetchGo]
    split
    next t h => rw [ih, ← hone, h]
    next t h => rw [← hone, h]

@[simp] theorem State.txFetch_agenda (s : State) (p : Nat) : (s.txFetch p).agenda = s.agenda := by simp [State.txFetch]

theorem execTxtailWrite_answers (dt : Nat) (who : Init) (svc : Bool) (v : Word) (s : State) :
    Answers (s.elapse dt).agenda (execTxtailWrite dt who svc v s) := onMain_answers fun u => by simp

theorem execRxtailWrite_answers (dt : Nat) (who : Init) (svc : Bool) (v : Word) (s : State) :
    Answers (s.elapse dt).agenda (execRxtailWrite dt who svc v s) := onMain_answers fun u => by simp

theorem execRingerrClear_answers (dt : Nat) (who : Init) (svc : Bool) (v : Word) (s : State) :
    Answers (s.elapse dt).agenda (execRingerrClear dt who svc v s) := onMain_answers fun u => by simp

@[simp] theorem State.txFetchAll_agenda (s : State) : s.txFetchAll.agenda = s.agenda := by simp [State.txFetchAll]

@[simp] theorem State.txDone_agenda (s : State) (p idx status : Nat) : (s.txDone p idx status).agenda = s.agenda := by
  simp [State.txDone]

@[simp] theorem State.itemEnd_agenda (s : State) (x2 : Nat) (i : EthItem) (status : Nat) :
    (s.itemEnd x2 i status).agenda = s.agenda := by
  unfold State.itemEnd
  repeat' split
  all_goals simp

@[simp] theorem State.portFlush_agenda (s : State) (x2 : Nat) : (s.portFlush x2).agenda = s.agenda := by
  simp [State.portFlush]

@[simp] theorem State.setLink_agenda (s : State) (x2 : Nat) (up gig : Bool) :
    (s.setLink x2 up gig).agenda = s.agenda := by
  simp [State.setLink]

@[simp] theorem State.ethApplied_agenda (s old : State) (p : Nat) : (s.ethApplied old p).agenda = s.agenda := by
  simp [State.ethApplied]

@[simp] theorem State.ethSink_agenda (s : State) (k tc : Nat) (x4 : List Nat) :
    (s.ethSink k tc x4).agenda = s.agenda := by
  simp [State.ethSink]

@[simp] theorem State.ethSnap_agenda (s : State) (k : Nat) : (s.ethSnap k).agenda = s.agenda := by simp [State.ethSnap]

@[simp] theorem State.ethReset_agenda (s : State) (p : Nat) :
    (s.ethReset p).agenda = s.agenda := by simp [State.ethReset]

@[simp] theorem State.gclShow_agenda (s : State) (x2 : Nat) : (s.gclShow x2).agenda = s.agenda := by simp [State.gclShow]

@[simp] theorem State.ethStep_agenda (s : State) : s.ethStep.agenda = s.agenda := by
  unfold State.ethStep
  refine (agenda_forN _ _ (fun a t => ?_) _).trans (agenda_forN _ _ (fun a t => ?_) _)
  · split <;> simp
  · dsimp only
    split <;> simp

@[simp] theorem State.rxDeliver_agenda (s : State) (p x3 : Nat) (d : List Nat) (stamp : Nat) :
    (s.rxDeliver p x3 d stamp).agenda = s.agenda := by simp [State.rxDeliver]

@[simp] theorem State.dupCheck_agenda (s : State) (x2 src seq : Nat) : (s.dupCheck x2 src seq).1.agenda = s.agenda := by
  unfold State.dupCheck
  split <;> simp

@[simp] theorem State.forward_agenda (s : State) (m v pcp inPort stamp : Nat) (red : Option Nat) (d : List Nat)
    (x9 : Nat) :
    (s.forward m v pcp inPort stamp red d x9).agenda = s.agenda := by simp [State.forward]

@[simp] theorem State.ringPass_agenda (s : State) (x2 stamp : Nat) (red : Option Nat) (d : List Nat) :
    (s.ringPass x2 stamp red d).agenda = s.agenda := by
  unfold State.ringPass
  dsimp only
  repeat' split
  all_goals simp

@[simp] theorem State.pdStore_agenda (s : State) (k : Nat) (d : List Nat) (stamp : Nat) :
    (s.pdStore k d stamp).agenda = s.agenda := by simp [State.pdStore]

@[simp] theorem State.bridge_agenda (s : State) (x2 stamp : Nat) (red : Option Nat) (d : List Nat) :
    (s.bridge x2 stamp red d).agenda = s.agenda := by
  unfold State.bridge
  dsimp only
  repeat' split
  all_goals simp

theorem execEthFrameReceived_answers (dt : Nat) (x2 : Fin 6) (f : EthFrame) (ago : Nat) (ph : Fin 8) (s : State) :
    Answers (s.elapse dt).agenda (execEthFrameReceived dt x2 f ago ph s) := by
  unfold execEthFrameReceived
  refine guarded_answers (onMain_answers fun u => ?_)
  simp
  repeat' split
  all_goals simp

theorem execEthLinkChange_answers (dt : Nat) (x2 : Fin 6) (up gig : Bool) (s : State) :
    Answers (s.elapse dt).agenda (execEthLinkChange dt x2 up gig s) := onMain_answers fun u => by simp

theorem execEthTxComplete_answers (dt : Nat) (svc : Bool) (s : State) :
    Answers (s.elapse dt).agenda (execEthTxComplete dt svc s) := by
  unfold execEthTxComplete
  refine onMain_answers fun u => ?_
  dsimp only
  repeat' split
  all_goals simp

theorem execEthLaunch_answers (dt : Nat) (x2 : Fin 6) (q : Fin 8) (s : State) :
    Answers (s.elapse dt).agenda (execEthLaunch dt x2 q s) := by
  unfold execEthLaunch
  refine onMain_answers fun u => ?_
  split <;> simp

theorem execGateListEntry_answers (dt : Nat) (x2 : Fin 4) (s : State) :
    Answers (s.elapse dt).agenda (execGateListEntry dt x2 s) := onMain_answers fun u => by simp

theorem execGateListSwitch_answers (dt : Nat) (x2 : Fin 4) (s : State) :
    Answers (s.elapse dt).agenda (execGateListSwitch dt x2 s) := by
  unfold execGateListSwitch
  refine onMain_answers fun u => ?_
  dsimp only
  repeat' split
  all_goals simp

theorem execFdbAgeOut_answers (dt : Nat) (s : State) : Answers (s.elapse dt).agenda (execFdbAgeOut dt s) := by
  unfold execFdbAgeOut
  refine onMain_answers fun u => ?_
  split <;> simp

theorem execPrpLanMissing_answers (dt : Nat) (x2 : Fin 2) (s : State) :
    Answers (s.elapse dt).agenda (execPrpLanMissing dt x2 s) := onMain_answers fun u => by simp

theorem execPrpEntryExpiry_answers (dt : Nat) (s : State) : Answers (s.elapse dt).agenda (execPrpEntryExpiry dt s) := by
  unfold execPrpEntryExpiry
  refine onMain_answers fun u => ?_
  split <;> simp

theorem execPdTxLaunch_answers (dt : Nat) (k : Fin 32) (s : State) :
    Answers (s.elapse dt).agenda (execPdTxLaunch dt k s) := by
  unfold execPdTxLaunch
  refine onMain_answers fun u => ?_
  dsimp only
  repeat' split
  all_goals simp

theorem execPdRxTimeout_answers (dt : Nat) (k : Fin 64) (s : State) :
    Answers (s.elapse dt).agenda (execPdRxTimeout dt k s) := onMain_answers fun u => by simp

@[simp] theorem State.tsPut_agenda (s : State) (x2 tag stamp : Nat) : (s.tsPut x2 tag stamp).agenda = s.agenda := by
  simp [State.tsPut]

@[simp] theorem State.sentAt_agenda (s : State) (x2 : Nat) (i : EthItem) (stamp : Nat) :
    (s.sentAt x2 i stamp).agenda = s.agenda := by
  unfold State.sentAt
  split <;> simp

theorem execEthFrameTransmitted_answers (dt : Nat) (x2 : Fin 6) (ago : Nat) (s : State) :
    Answers (s.elapse dt).agenda (execEthFrameTransmitted dt x2 ago s) := by
  unfold execEthFrameTransmitted
  refine onMain_answers fun u => ?_
  dsimp only
  repeat' split
  all_goals simp

/-! ### The queue and the ticks after the operations of Gwy.lean -/

@[simp] theorem State.gwyShow_agenda (s : State) (g : Nat) : (s.gwyShow g).agenda = s.agenda := by simp [State.gwyShow]

@[simp] theorem State.gwyWatch_agenda (s : State) : s.gwyWatch.agenda = s.agenda := by simp [State.gwyWatch]

theorem execOwnerWrite_answers (dt : Nat) (who : Init) (p : Fin 512) (v : Word) (s : State) :
    Answers (s.elapse dt).agenda (execOwnerWrite dt who p v s) := onMain_answers fun u => by simp

theorem execOwnkWrite_answers (dt : Nat) (who : Init) (k : Fin 128) (v : Word) (s : State) :
    Answers (s.elapse dt).agenda (execOwnkWrite dt who k v s) := onMain_answers fun u => by simp

theorem execGrantkWrite_answers (dt : Nat) (who : Init) (k : Fin 128) (v : Word) (s : State) :
    Answers (s.elapse dt).agenda (execGrantkWrite dt who k v s) := onMain_answers fun u => by simp

theorem execGwyCntclr_answers (dt : Nat) (who : Init) (v : Word) (s : State) :
    Answers (s.elapse dt).agenda (execGwyCntclr dt who v s) := by
  unfold execGwyCntclr
  refine onMain_answers fun u => ?_
  refine State.cmdW_agenda _ _ _ _ _ fun n u => ?_
  refine onOne_agenda _ _ _ fun u => ?_
  simp

@[simp] theorem State.taken_agenda (s : State) (g : List Nat) : (s.taken g).agenda = s.agenda := by simp [State.taken]

@[simp] theorem State.setGwySig_agenda (s : State) (g : Nat) (x : GwySig) : (s.setGwySig g x).agenda = s.agenda := by
  simp [State.setGwySig]

@[simp] theorem State.gwyRemap_agenda (s old : State) (c : Nat) : (s.gwyRemap old c).agenda = s.agenda := by
  simp [State.gwyRemap]

@[simp] theorem State.gwyCan_agenda (s old : State) (p : Nat) : (s.gwyCan old p).agenda = s.agenda := by
  simp [State.gwyCan]

@[simp] theorem State.gwyPut_agenda (s : State) (g v : Nat) : (s.gwyPut g v).agenda = s.agenda := by
  unfold State.gwyPut
  split <;> simp

@[simp] theorem State.gwyApplied_agenda (s old : State) (p : Nat) : (s.gwyApplied old p).agenda = s.agenda := by
  simp [State.gwyApplied]

@[simp] theorem State.gwySink_agenda (s : State) (g tc : Nat) (x4 : List Nat) :
    (s.gwySink g tc x4).agenda = s.agenda := by
  simp [State.gwySink]

@[simp] theorem State.gwyReset_agenda (s : State) : s.gwyReset.agenda = s.agenda := by simp [State.gwyReset]

theorem execCanError_answers (dt : Nat) (c : Fin 4) (lec : Fin 7) (dataPhase : Bool) (tec rec_ : Fin 9) (s : State) :
    Answers (s.elapse dt).agenda (execCanError dt c lec dataPhase tec rec_ s) := onMain_answers fun u => by simp

theorem execCanArbitrationLost_answers (dt : Nat) (c : Fin 4) (s : State) :
    Answers (s.elapse dt).agenda (execCanArbitrationLost dt c s) := onMain_answers fun u => by simp

theorem execCanTxComplete_answers (dt : Nat) (c : Fin 4) (s : State) :
    Answers (s.elapse dt).agenda (execCanTxComplete dt c s) := onMain_answers fun u => by simp

@[simp] theorem State.gwyUpdate_agenda (s : State) (g : Nat) : (s.gwyUpdate g).agenda = s.agenda := by
  simp [State.gwyUpdate]

theorem execGwySignalWrite_answers (dt : Nat) (kind x3 : Fin 4) (item : Fin 256) (s : State) :
    Answers (s.elapse dt).agenda (execGwySignalWrite dt kind x3 item s) := onMain_answers fun u => by simp

theorem execGwyStale_answers (dt : Nat) (g : Fin 128) (s : State) : Answers (s.elapse dt).agenda (execGwyStale dt g s) :=
  onMain_answers fun u => by simp

/-! ### The queue and the ticks after the operations of Hrb.lean -/

@[simp] theorem State.hrbFree_agenda (s : State) : s.hrbFree.agenda = s.agenda := by simp [State.hrbFree]

@[simp] theorem State.hrbFault_agenda (s : State) (part code addr : Nat) :
    (s.hrbFault part code addr).agenda = s.agenda := by
  exact (State.agenda_mk ..).trans (State.errAt_agenda ..)

@[simp] theorem State.hrbCut_agenda (s : State) : s.hrbCut.agenda = s.agenda := by
  unfold State.hrbCut
  split <;> simp

@[simp] theorem State.setHrbWin_agenda (s : State) (x2 : Nat) (x : HrbWin) : (s.setHrbWin x2 x).agenda = s.agenda := by
  simp [State.setHrbWin]

@[simp] theorem State.hrbFlush_agenda (s : State) (x2 code : Nat) : (s.hrbFlush x2 code).agenda = s.agenda := by
  simp [State.hrbFlush]

@[simp] theorem State.hrbGate_agenda (s : State) : s.hrbGate.agenda = s.agenda := by simp [State.hrbGate]

theorem execHrbCntclr_answers (dt : Nat) (who : Init) (v : Word) (s : State) :
    Answers (s.elapse dt).agenda (execHrbCntclr dt who v s) := onMain_answers fun u => by simp

@[simp] theorem State.wack_agenda (s : State) (x2 part : Nat) (v : Word) (op : Nat) :
    (s.wack x2 part v op).agenda = s.agenda := by simp [State.wack]

@[simp] theorem State.setHrbQ_agenda (s : State) (x2 : Nat) (l : List HrbOp) : (s.setHrbQ x2 l).agenda = s.agenda := by
  simp [State.setHrbQ]

@[simp] theorem State.hrbPut_agenda (s : State) (x2 : Nat) (o : HrbOp) : (s.hrbPut x2 o).agenda = s.agenda := by
  simp [State.hrbPut]

@[simp] theorem State.hrbAccess_agenda (s : State) (who : Init) (x3 x bytes : Nat) (op : BusOp) :
    (s.hrbAccess who x3 x bytes op).agenda = s.agenda := by
  unfold State.hrbAccess
  cases op <;> dsimp only
  all_goals repeat' split
  all_goals simp

@[simp] theorem State.setHrbPe_agenda (s : State) (e : Nat) (x : Nat × Bool) : (s.setHrbPe e x).agenda = s.agenda := by
  simp [State.setHrbPe]

@[simp] theorem State.hrbApplied_agenda (s old : State) (p : Nat) : (s.hrbApplied old p).agenda = s.agenda := by
  simp [State.hrbApplied]

@[simp] theorem State.hrbSink_agenda (s : State) (x2 part : Nat) (entries : List (List Nat)) :
    (s.hrbSink x2 part entries).agenda = s.agenda := by simp [State.hrbSink]

@[simp] theorem State.hrbPartReset_agenda (s : State) (x2 : Nat) : (s.hrbPartReset x2).agenda = s.agenda := by
  simp [State.hrbPartReset]

@[simp] theorem State.hrbReset_agenda (s : State) (p : Nat) :
    (s.hrbReset p).agenda = s.agenda := by simp [State.hrbReset]

@[simp] theorem State.hrbStep_agenda (s : State) : s.hrbStep.agenda = s.agenda := by simp [State.hrbStep]

theorem execHrbWindowAccess_answers (dt : Nat) (who : Init) (x3 : Fin 4) (x : BitVec 24) (w : Fin 4) (op : BusOp)
    (s : State) :
    Answers (s.elapse dt).agenda (execHrbWindowAccess dt who x3 x w op s) := onMain_answers fun u => by simp

@[simp] theorem State.hrbDrive_agenda (s : State) : s.hrbDrive.agenda = s.agenda := by
  unfold State.hrbDrive
  repeat' split
  all_goals simp

theorem execHrbCycleStart_answers (dt : Nat) (x2 : Fin 4) (s : State) :
    Answers (s.elapse dt).agenda (execHrbCycleStart dt x2 s) := by
  unfold execHrbCycleStart
  refine onMain_answers fun u => ?_
  repeat' split
  all_goals simp

@[simp] theorem State.hrbBad_agenda (s : State) (c : HrbCycle) (how : Nat) : (s.hrbBad c how).agenda = s.agenda := by
  unfold State.hrbBad
  repeat' split
  all_goals simp

@[simp] theorem State.hrbRead_agenda (s : State) (x2 : Nat) (o : HrbOp) : (s.hrbRead x2 o).agenda = s.agenda := by
  unfold State.hrbRead
  split <;> simp

@[simp] theorem State.hrbOpDone_agenda (s : State) (x2 : Nat) (o : HrbOp) (wrote : Bool) :
    (s.hrbOpDone x2 o wrote).agenda = s.agenda := by
  unfold State.hrbOpDone
  repeat' split
  all_goals simp

@[simp] theorem State.hrbGood_agenda (s : State) (c : HrbCycle) (d : Nat) : (s.hrbGood c d).agenda = s.agenda := by
  unfold State.hrbGood
  split <;> simp

theorem execHrbCardReply_answers (dt : Nat) (flt : Bool) (hd : BitVec 16) (s : State) :
    Answers (s.elapse dt).agenda (execHrbCardReply dt flt hd s) := by
  unfold execHrbCardReply
  refine onMain_answers fun u => ?_
  split <;> simp

theorem execHrbCycleTimeout_answers (dt : Nat) (s : State) : Answers (s.elapse dt).agenda
    (execHrbCycleTimeout dt s) := by
  unfold execHrbCycleTimeout
  refine onMain_answers fun u => ?_
  split <;> simp

theorem execHrbResetEnd_answers (dt : Nat) (s : State) : Answers (s.elapse dt).agenda (execHrbResetEnd dt s) :=
  onMain_answers fun u => by simp

@[simp] theorem State.wackBy_agenda (s : State) (who : Init) (x3 : Nat) (v : Word) (op : Nat) :
    (s.wackBy who x3 v op).agenda = s.agenda := by simp [State.wackBy]

theorem execWackResume_answers (dt : Nat) (who : Init) (x3 : Fin 4) (v : Word) (s : State) :
    Answers (s.elapse dt).agenda (execWackResume dt who x3 v s) := onMain_answers fun u => by simp

theorem execWackFlush_answers (dt : Nat) (who : Init) (x3 : Fin 4) (v : Word) (s : State) :
    Answers (s.elapse dt).agenda (execWackFlush dt who x3 v s) := onMain_answers fun u => by simp

theorem execPollReadDue_answers (dt : Nat) (e : Fin 32) (s : State) :
    Answers (s.elapse dt).agenda (execPollReadDue dt e s) := onMain_answers fun u => by simp

theorem execAtnAccept_answers (dt : Nat) (i : Fin 8) (low : Bool) (s : State) :
    Answers (s.elapse dt).agenda (execAtnAccept dt i low s) := onMain_answers fun u => by simp

end Sys2Proof.Machine

namespace Sys2Proof.Machine

/-! ### The queue and the ticks after the operations of Rdn.lean -/

@[simp] theorem State.gatesTo_agenda (s : State) (open_ : Bool) : (s.gatesTo open_).agenda = s.agenda := by
  simp [State.gatesTo]

@[simp] theorem State.setGates_agenda (s : State) (open_ : Bool) : (s.setGates open_).agenda = s.agenda := by
  simp [State.setGates]

@[simp] theorem State.setPrim_agenda (s : State) (st : Nat) : (s.setPrim st).agenda = s.agenda := by simp [State.setPrim]

@[simp] theorem State.dropPrimacy_agenda (s : State) (rel : Bool) : (s.dropPrimacy rel).agenda = s.agenda := by
  simp [State.dropPrimacy]

@[simp] theorem State.relHalted_agenda (s : State) (x2 : Nat) : (s.relHalted x2).agenda = s.agenda := by
  simp [State.relHalted]

@[simp] theorem State.askRelease_agenda (s : State) (x2 : Nat) : (s.askRelease x2).agenda = s.agenda := by
  simp [State.askRelease]

theorem execPrimcmdRelease_answers (dt : Nat) (who : Init) (v : Word) (s : State) :
    Answers (s.elapse dt).agenda (execPrimcmdRelease dt who v s) := onMain_answers fun u => by simp

@[simp] theorem State.rdnEval_agenda (s : State) : s.rdnEval.agenda = s.agenda := by simp [State.rdnEval]

@[simp] theorem State.ckTake_agenda (s : State) (x2 : Nat) (v : CkPart) : (s.ckTake x2 v).agenda = s.agenda := by
  simp [State.ckTake]

@[simp] theorem State.relCommitted_agenda (s : State) (x2 : Nat) : (s.relCommitted x2).agenda = s.agenda := by
  unfold State.relCommitted
  split <;> simp

theorem execPrimInChange_answers (dt : Nat) (sig : Fin 4) (s : State) :
    Answers (s.elapse dt).agenda (execPrimInChange dt sig s) := onMain_answers fun u => by simp

theorem execPrimacyClaim_answers (dt : Nat) (s : State) : Answers (s.elapse dt).agenda (execPrimacyClaim dt s) :=
  onMain_answers fun u => by simp

theorem execPrimacyConflict_answers (dt : Nat) (s : State) : Answers (s.elapse dt).agenda (execPrimacyConflict dt s) :=
  onMain_answers fun u => by simp

theorem execPrimacyRelease_answers (dt : Nat) (s : State) : Answers (s.elapse dt).agenda (execPrimacyRelease dt s) := by
  unfold execPrimacyRelease
  refine onMain_answers fun u => ?_
  split <;> simp

theorem execHeartbeatSend_answers (dt : Nat) (s : State) : Answers (s.elapse dt).agenda (execHeartbeatSend dt s) :=
  onMain_answers fun u => by simp

theorem execHeartbeatReceived_answers (dt : Nat) (w : Word) (crc : Bool) (s : State) :
    Answers (s.elapse dt).agenda (execHeartbeatReceived dt w crc s) := onMain_answers fun u => by simp

theorem execHeartbeatTimeout_answers (dt : Nat) (s : State) : Answers (s.elapse dt).agenda (execHeartbeatTimeout dt s) :=
  onMain_answers fun u => by simp

@[simp] theorem State.ckDone_agenda (s : State) (c : Ckpt) (size : Nat) (held : Bool) :
    (s.ckDone c size held).agenda = s.agenda := by simp [State.ckDone]

theorem execCheckpointSendDone_answers (dt : Nat) (size : Word) (s : State) :
    Answers (s.elapse dt).agenda (execCheckpointSendDone dt size s) := by
  unfold execCheckpointSendDone
  refine onMain_answers fun u => ?_
  split <;> simp

theorem execCheckpointReceived_answers (dt : Nat) (c : Ckpt) (size : Word) (s : State) :
    Answers (s.elapse dt).agenda (execCheckpointReceived dt c size s) := guarded_answers (onMain_answers fun u => by
      simp)

theorem execStandbyLaneTest_answers (dt : Nat) (pass : Bool) (s : State) :
    Answers (s.elapse dt).agenda (execStandbyLaneTest dt pass s) := onMain_answers fun u => by simp

/-! ### The queue and the ticks after the operations of Cyc.lean -/

@[simp] theorem State.irqNow_agenda (s : State) (x2 : Nat) : (s.irqNow x2).agenda = s.agenda := by
  unfold State.irqNow
  split <;> simp

@[simp] theorem State.setCy_agenda (s : State) (x2 : Nat) (c : CycP) : (s.setCy x2 c).agenda = s.agenda := by
  simp [State.setCy]

@[simp] theorem State.cycEnter_agenda (s : State) (x2 : Nat) : (s.cycEnter x2).agenda = s.agenda := by
  unfold State.cycEnter
  dsimp only
  repeat' split
  all_goals simp

@[simp] theorem State.cycResume_agenda (s : State) (x2 : Nat) : (s.cycResume x2).agenda = s.agenda := by
  simp [State.cycResume]

@[simp] theorem State.cycCmd_agenda (s : State) (who : Init) (x3 k : Nat) (v : Word) (f : Nat → State → State)
    (hf : ∀ y0 y1, (f y0 y1).agenda = y1.agenda) :
    (s.cycCmd who x3 k v f).agenda = s.agenda := by
  unfold State.cycCmd
  refine State.cmdW_agenda _ _ _ _ _ fun n u => ?_
  refine State.keyed_agenda _ _ _ _ _ _ _ fun u => ?_
  repeat' split
  all_goals simp [hf]

@[simp] theorem State.recBad_agenda (s : State) (x2 : Nat) : (s.recBad x2).agenda = s.agenda := by simp [State.recBad]

@[simp] theorem State.setCycState_agenda (s : State) (x2 st : Nat) : (s.setCycState x2 st).agenda = s.agenda := by
  simp [State.setCycState]

@[simp] theorem State.cycErr_agenda (s : State) (x2 code : Nat) : (s.cycErr x2 code).agenda = s.agenda := by
  simp [State.cycErr]

@[simp] theorem State.digestHalt_agenda (s : State) (x2 : Nat) : (s.digestHalt x2).agenda = s.agenda := by
  simp [State.digestHalt]

@[simp] theorem State.dramClear_agenda (s : State) (o x3 : Nat) : (s.dramClear o x3).agenda = s.agenda := by
  simp [State.dramClear]

@[simp] theorem State.winClear_agenda (s : State) (x2 : Nat) : (s.winClear x2).agenda = s.agenda := by
  simp [State.winClear]

@[simp] theorem State.winPut_agenda (s : State) (x2 kind o : Nat) (x5 : List Nat) :
    (s.winPut x2 kind o x5).agenda = s.agenda := by
  unfold State.winPut
  split <;> simp

@[simp] theorem State.sinkSafe_agenda (s : State) (e : MapEnt) (tc : Nat) : (s.sinkSafe e tc).agenda = s.agenda := by
  unfold State.sinkSafe
  split <;> simp

@[simp] theorem State.sinksSafe_agenda (s : State) (x2 : Nat) : (s.sinksSafe x2).agenda = s.agenda := by
  unfold State.sinksSafe
  split <;> simp

@[simp] theorem State.cycStart_agenda (s : State) (x2 : Nat) (how : StartHow) :
    (s.cycStart x2 how).agenda = s.agenda := by
  unfold State.cycStart
  repeat' split
  all_goals simp

@[simp] theorem State.cycBad_agenda (s : State) (x2 part : Nat) : (s.cycBad x2 part).agenda = s.agenda := by
  simp [State.cycBad]

theorem execStartWarm_answers (dt : Nat) (who : Init) (x3 : Fin 6) (v : Word) (s : State) :
    Answers (s.elapse dt).agenda (execStartWarm dt who x3 v s) := onMain_answers fun u => by simp

@[simp] theorem State.unarm_agenda (s : State) (x2 : Nat) : (s.unarm x2).agenda = s.agenda := by
  unfold State.unarm
  dsimp only
  repeat' split
  all_goals simp

@[simp] theorem State.chgStat_agenda (s : State) (p st reason table : Nat) :
    (s.chgStat p st reason table).agenda = s.agenda := by simp [State.chgStat]

@[simp] theorem State.dropChange_agenda (s : State) (x2 : Nat) : (s.dropChange x2).agenda = s.agenda := by
  simp [State.dropChange]

@[simp] theorem State.safeCommit_agenda (s : State) (x2 : Nat) : (s.safeCommit x2).agenda = s.agenda := by
  simp [State.safeCommit]

@[simp] theorem State.winMeet_agenda (s : State) (x2 kind o k : Nat) : (s.winMeet x2 kind o k).agenda = s.agenda := by
  unfold State.winMeet
  split <;> simp

@[simp] theorem State.poisonLog_agenda (s : State) (x2 w : Nat) : (s.poisonLog x2 w).agenda = s.agenda := by
  simp [State.poisonLog]

@[simp] theorem State.framPut_agenda (s : State) (x2 : Nat) (i : CycImg) (v : Nat × List Nat) (ok : Bool) :
    (s.framPut x2 i v ok).agenda = s.agenda := by simp [State.framPut]

@[simp] theorem State.retSave_agenda (s : State) (x2 : Nat) (ok : Bool) : (s.retSave x2 ok).agenda = s.agenda := by
  unfold State.retSave
  dsimp only
  repeat' split
  all_goals simp

@[simp] theorem State.cycStop_agenda (s : State) (x2 : Nat) : (s.cycStop x2).agenda = s.agenda := by simp [State.cycStop]

@[simp] theorem State.cycAsk_agenda (s : State) (x2 : Nat) : (s.cycAsk x2).agenda = s.agenda := by simp [State.cycAsk]

theorem execStop_answers (dt : Nat) (who : Init) (x3 : Fin 6) (v : Word) (s : State) :
    Answers (s.elapse dt).agenda (execStop dt who x3 v s) := onMain_answers fun u => by simp

theorem execChgload_answers (dt : Nat) (who : Init) (x3 : Fin 6) (v : Word) (s : State) :
    Answers (s.elapse dt).agenda (execChgload dt who x3 v s) := by
  unfold execChgload
  refine onMain_answers fun u => ?_
  refine State.cycCmd_agenda _ _ _ _ _ _ fun n u => ?_
  dsimp only
  repeat' split
  all_goals simp

theorem execChgarm_answers (dt : Nat) (who : Init) (x3 : Fin 6) (v : Word) (s : State) :
    Answers (s.elapse dt).agenda (execChgarm dt who x3 v s) := onMain_answers fun u => by simp

theorem execChgabort_answers (dt : Nat) (who : Init) (x3 : Fin 6) (v : Word) (s : State) :
    Answers (s.elapse dt).agenda (execChgabort dt who x3 v s) := onMain_answers fun u => by simp

theorem execGroupcmt_answers (dt : Nat) (who : Init) (x3 : Fin 6) (v : Word) (s : State) :
    Answers (s.elapse dt).agenda (execGroupcmt dt who x3 v s) := onMain_answers fun u => by simp

theorem execStartCold_answers (dt : Nat) (who : Init) (x3 : Fin 6) (v : Word) (s : State) :
    Answers (s.elapse dt).agenda (execStartCold dt who x3 v s) := onMain_answers fun u => by simp

theorem execCycCntclr_answers (dt : Nat) (who : Init) (x3 : Fin 6) (v : Word) (s : State) :
    Answers (s.elapse dt).agenda (execCycCntclr dt who x3 v s) := onMain_answers fun u => by simp

@[simp] theorem State.revert_agenda (s : State) (x2 : Nat) (ret : Bool) : (s.revert x2 ret).agenda = s.agenda := by
  simp [State.revert]

@[simp] theorem State.gapBack_agenda (s : State) (x2 status : Nat) : (s.gapBack x2 status).agenda = s.agenda := by
  unfold State.gapBack
  dsimp only
  repeat' split
  all_goals simp

@[simp] theorem State.cycEnd_agenda (s : State) (x2 status : Nat) : (s.cycEnd x2 status).agenda = s.agenda := by
  simp [State.cycEnd]

@[simp] theorem State.triStop_agenda (s : State) (x2 : Nat) : (s.triStop x2).agenda = s.agenda := by
  unfold State.triStop
  split <;> simp

@[simp] theorem State.dropCycle_agenda (s : State) (x2 : Nat) : (s.dropCycle x2).agenda = s.agenda := by
  simp [State.dropCycle]

@[simp] theorem State.outputsSafe_agenda (s : State) (x2 : Nat) : (s.outputsSafe x2).agenda = s.agenda := by
  simp [State.outputsSafe]

@[simp] theorem State.haltEnd_agenda (s : State) (x2 : Nat) : (s.haltEnd x2).agenda = s.agenda := by simp [State.haltEnd]

@[simp] theorem State.cycHalt_agenda (s : State) (x2 : Nat) : (s.cycHalt x2).agenda = s.agenda := by simp [State.cycHalt]

@[simp] theorem State.orphans_agenda (s : State) (x2 : Nat) : (s.orphans x2).agenda = s.agenda := by
  unfold State.orphans
  dsimp only
  repeat' split
  all_goals simp

@[simp] theorem State.cycApplied_agenda (s old : State) (p : Nat) : (s.cycApplied old p).agenda = s.agenda := by
  simp [State.cycApplied]

@[simp] theorem State.ckCommit_agenda (s : State) (x2 : Nat) (i : CycImg) : (s.ckCommit x2 i).agenda = s.agenda := by
  unfold State.ckCommit
  split <;> simp

@[simp] theorem State.reintDue_agenda (s : State) (x2 : Nat) : (s.reintDue x2).agenda = s.agenda := by
  unfold State.reintDue
  dsimp only
  repeat' split
  all_goals simp

@[simp] theorem State.commitDone_agenda (s : State) (x2 : Nat) (i : CycImg) : (s.commitDone x2 i).agenda = s.agenda := by
  unfold State.commitDone
  simp
  repeat' split
  all_goals simp

@[simp] theorem State.commitRefuse_agenda (s : State) (x2 entry ofs : Nat) :
    (s.commitRefuse x2 entry ofs).agenda = s.agenda := by simp [State.commitRefuse]

@[simp] theorem State.sinkTake_agenda (s : State) (e : MapEnt) (x3 : List Nat) (tc : Nat) :
    (s.sinkTake e x3 tc).agenda = s.agenda := by
  unfold State.sinkTake
  split <;> simp

@[simp] theorem State.sinksTake_agenda (s : State) (x2 : Nat) (out : List MapEnt) (img : List Nat) :
    (s.sinksTake x2 out img).agenda = s.agenda := by simp [State.sinksTake]

@[simp] theorem State.commitStrobe_agenda (s : State) (x2 : Nat) (i : CycImg) (g : Staged) :
    (s.commitStrobe x2 i g).agenda = s.agenda := by simp [State.commitStrobe]

@[simp] theorem State.poisonTake_agenda (s : State) (x2 w : Nat) : (s.poisonTake x2 w).agenda = s.agenda := by
  simp [State.poisonTake]

@[simp] theorem State.commitTake_agenda (s : State) (x2 : Nat) (i : CycImg) : (s.commitTake x2 i).agenda = s.agenda := by
  unfold State.commitTake
  dsimp only
  repeat' split
  all_goals simp

@[simp] theorem State.cycBegin_agenda (s : State) (x2 : Nat) : (s.cycBegin x2).agenda = s.agenda := by
  unfold State.cycBegin
  split <;> simp

@[simp] theorem State.drawBytes_agenda (s : State) (k : Nat) : (s.drawBytes k).2.agenda = s.agenda := by
  exact agenda_forN_snd k _ (fun a t => by simp) _

@[simp] theorem State.mapMarks_agenda (s : State) (i : CycImg) (on : Bool) : (s.mapMarks i on).agenda = s.agenda := by
  unfold State.mapMarks
  refine (agenda_forL _ _ (fun e t => ?_) _).trans (agenda_forL _ _ (fun e t => ?_) _)
  · repeat' split
    all_goals simp
  · repeat' split
    all_goals simp

@[simp] theorem State.queueTake_agenda (s : State) (e : MapEnt) (ts : Nat) : (s.queueTake e ts).2.agenda = s.agenda := by
  simp [State.queueTake]

@[simp] theorem State.sealMarks_agenda (s : State) (l : List MapEnt) : (s.sealMarks l).agenda = s.agenda := by
  simp [State.sealMarks]

@[simp] theorem State.srcStart_agenda (s : State) : s.srcStart.agenda = s.agenda := by simp [State.srcStart]

@[simp] theorem State.srcTake_agenda (s : State) (c : CycP) (k : Nat) (e : MapEnt) (ts : Nat) :
    (s.srcTake c k e ts).2.agenda = s.agenda := by
  unfold State.srcTake
  split <;> simp

@[simp] theorem State.useImage_agenda (s : State) (x2 : Nat) (i : Option CycImg) :
    (s.useImage x2 i).agenda = s.agenda := by
  unfold State.useImage
  repeat' split
  all_goals simp

theorem execChangeApply_answers (dt : Nat) (x2 : Fin 6) (s : State) :
    Answers (s.elapse dt).agenda (execChangeApply dt x2 s) := by
  unfold execChangeApply
  refine onMain_answers fun u => ?_
  dsimp only
  repeat' split
  all_goals simp

theorem execCommitComplete_answers (dt : Nat) (x2 : Fin 6) (dis : Bool) (s : State) :
    Answers (s.elapse dt).agenda (execCommitComplete dt x2 dis s) := by
  unfold execCommitComplete
  refine onShed_answers fun u => ?_
  dsimp only
  repeat' split
  all_goals simp

theorem execCycStartComplete_answers (dt : Nat) (x2 : Fin 6) (s : State) :
    Answers (s.elapse dt).agenda (execCycStartComplete dt x2 s) := onMain_answers fun u => by simp

theorem execLoaddone_answers (dt : Nat) (x2 : Fin 6) (digestOk : Bool) (s : State) :
    Answers (s.elapse dt).agenda (execLoaddone dt x2 digestOk s) := by
  unfold execLoaddone
  refine onMain_answers fun u => ?_
  dsimp only
  repeat' split
  all_goals simp

theorem execRetainedSave_answers (dt : Nat) (x2 : Fin 6) (ok : Bool) (s : State) :
    Answers (s.elapse dt).agenda (execRetainedSave dt x2 ok s) := onMain_answers fun u => by simp

theorem execSnapshotDelivery_answers (dt : Nat) (x2 : Fin 6) (s : State) :
    Answers (s.elapse dt).agenda (execSnapshotDelivery dt x2 s) := by
  unfold execSnapshotDelivery
  refine onMain_answers fun u => ?_
  dsimp only
  repeat' split
  all_goals simp

theorem execSnapshotInstant_answers (dt : Nat) (x2 : Fin 6) (s : State) :
    Answers (s.elapse dt).agenda (execSnapshotInstant dt x2 s) := by
  unfold execSnapshotInstant
  refine onMain_answers fun u => ?_
  dsimp only
  repeat' split
  all_goals simp

theorem execWatchdogExpiry_answers (dt : Nat) (x2 : Fin 6) (s : State) :
    Answers (s.elapse dt).agenda (execWatchdogExpiry dt x2 s) := onMain_answers fun u => by simp

/-! ### The queue and the ticks after the operations of Pmc.lean -/

@[simp] theorem State.setPmcT_agenda (s : State) (x2 : Nat) (x : PmcT) : (s.setPmcT x2 x).agenda = s.agenda := by
  simp [State.setPmcT]

theorem execSbpop_answers (dt : Nat) (who : Init) (x3 : Fin 4) (s : State) :
    Answers (s.elapse dt).agenda (execSbpop dt who x3 s) := by
  unfold execSbpop
  refine onMain_answers fun u => ?_
  refine State.cmdR_agenda _ _ _ _ _ fun n u => ?_
  dsimp only
  repeat' split
  all_goals simp

theorem execWvpop_answers (dt : Nat) (who : Init) (x3 : Fin 4) (s : State) :
    Answers (s.elapse dt).agenda (execWvpop dt who x3 s) := by
  unfold execWvpop
  refine onMain_answers fun u => ?_
  refine State.cmdR_agenda _ _ _ _ _ fun n u => ?_
  dsimp only
  repeat' split
  all_goals simp

@[simp] theorem State.pmcAdvance_agenda (s : State) (x2 : Nat) : (s.pmcAdvance x2).agenda = s.agenda := by
  simp [State.pmcAdvance]

@[simp] theorem State.pmcSource_agenda (s : State) (x2 : Nat) : (s.pmcSource x2).agenda = s.agenda := by
  simp [State.pmcSource]

theorem execOvfClear_answers (dt : Nat) (who : Init) (x3 : Fin 4) (v : Word) (s : State) :
    Answers (s.elapse dt).agenda (execOvfClear dt who x3 v s) := onMain_answers fun u => by simp

theorem execPmcSnap_answers (dt : Nat) (who : Init) (x3 : Fin 4) (v : Word) (s : State) :
    Answers (s.elapse dt).agenda (execPmcSnap dt who x3 v s) := by
  unfold execPmcSnap
  refine onMain_answers fun u => ?_
  refine State.cmdW_agenda _ _ _ _ _ fun n u => ?_
  refine onOne_agenda _ _ _ fun u => ?_
  simp

theorem execPmcCntclr_answers (dt : Nat) (who : Init) (x3 : Fin 4) (v : Word) (s : State) :
    Answers (s.elapse dt).agenda (execPmcCntclr dt who x3 v s) := onMain_answers fun u => by simp

@[simp] theorem State.pmcReset_agenda (s : State) (x2 : Nat) : (s.pmcReset x2).agenda = s.agenda := by
  simp [State.pmcReset]

@[simp] theorem State.weevilArm_agenda (s : State) (x2 k : Nat) : (s.weevilArm x2 k).agenda = s.agenda := by
  simp [State.weevilArm]

theorem execCounterOverflow_answers (dt : Nat) (x2 : Fin 4) (m : Byte) (s : State) :
    Answers (s.elapse dt).agenda (execCounterOverflow dt x2 m s) := by
  unfold execCounterOverflow
  refine onMain_answers fun u => ?_
  dsimp only
  repeat' split
  all_goals simp

theorem execPreciseCapture_answers (dt : Nat) (x2 : Fin 4) (k : Fin 8) (priv : Fin 4) (pc addr : BitVec 64)
    (lat : Word) (s : State) :
    Answers (s.elapse dt).agenda (execPreciseCapture dt x2 k priv pc addr lat s) := onMain_answers fun u => by simp

theorem execWeevilRecord_answers (dt : Nat) (x2 : Fin 4) (pc blk : BitVec 64) (w4 w5 : Word) (flags : BitVec 10)
    (priv : Fin 4) (dist : BitVec 16) (s : State) :
    Answers (s.elapse dt).agenda (execWeevilRecord dt x2 pc blk w4 w5 flags priv dist s) := by
  unfold execWeevilRecord
  refine onMain_answers fun u => ?_
  dsimp only
  repeat' split
  all_goals simp

end Sys2Proof.Machine

namespace Sys2Proof.Machine

/-! ### The queue and the ticks after the operations of Tri.lean -/

@[simp] theorem State.setLane_agenda (s : State) (x2 l st : Nat) : (s.setLane x2 l st).agenda = s.agenda := by
  simp [State.setLane]

@[simp] theorem State.fenceLane_agenda (s : State) (x2 l cause : Nat) : (s.fenceLane x2 l cause).agenda = s.agenda := by
  simp [State.fenceLane]

@[simp] theorem State.setTriT_agenda (s : State) (x2 : Nat) (x : TriT) : (s.setTriT x2 x).agenda = s.agenda := by
  simp [State.setTriT]

@[simp] theorem State.degraded_agenda (s : State) (x2 : Nat) : (s.degraded x2).agenda = s.agenda := by
  unfold State.degraded
  split <;> simp

@[simp] theorem State.setTriMode_agenda (s : State) (x2 m : Nat) : (s.setTriMode x2 m).agenda = s.agenda := by
  simp [State.setTriMode]

@[simp] theorem State.setMark_agenda (s : State) (x2 l : Nat) (on : Bool) : (s.setMark x2 l on).agenda = s.agenda := by
  simp [State.setMark]

@[simp] theorem State.reintEnd_agenda (s : State) (x2 : Nat) : (s.reintEnd x2).agenda = s.agenda := by
  unfold State.reintEnd
  dsimp only
  repeat' split
  all_goals simp

@[simp] theorem State.laneCommand_agenda (s : State) (x2 l : Nat) : (s.laneCommand x2 l).agenda = s.agenda := by
  simp [State.laneCommand]

theorem execLanecmdFence_answers (dt : Nat) (who : Init) (x3 : Fin 4) (v : Word) (s : State) :
    Answers (s.elapse dt).agenda (execLanecmdFence dt who x3 v s) := onMain_answers fun u => by simp

theorem execStnow_answers (dt : Nat) (who : Init) (x3 : Fin 4) (v : Word) (s : State) :
    Answers (s.elapse dt).agenda (execStnow dt who x3 v s) := onMain_answers fun u => by simp

@[simp] theorem State.verdict_agenda (s : State) (x2 lane kind addr : Nat) :
    (s.verdict x2 lane kind addr).agenda = s.agenda := by simp [State.verdict]

@[simp] theorem State.degrade_agenda (s : State) (x2 l : Nat) : (s.degrade x2 l).agenda = s.agenda := by
  simp [State.degrade]

@[simp] theorem State.triHalt_agenda (s : State) (x2 : Nat) : (s.triHalt x2).agenda = s.agenda := by
  unfold State.triHalt
  split <;> simp

@[simp] theorem State.laneDiffers_agenda (s : State) (x2 l : Nat) (parity audit : Bool) (addr : Nat) :
    (s.laneDiffers x2 l parity audit addr).1.agenda = s.agenda := by simp [State.laneDiffers]

@[simp] theorem State.triVote_agenda (s : State) (x2 : Nat) (v : TriVote) (audit : Bool) (addr : Nat) :
    (s.triVote x2 v audit addr).1.agenda = s.agenda := by
  unfold State.triVote
  dsimp only
  repeat' split
  all_goals simp

@[simp] theorem State.voteBy_agenda (s : State) (who : Init) (v : TriVote) (addr : Nat) (f : State → State)
    (hf : ∀ y0, (f y0).agenda = y0.agenda) :
    (s.voteBy who v addr f).agenda = s.agenda := by
  unfold State.voteBy
  simp
  repeat' split
  all_goals simp [*]

@[simp] theorem State.putSource_agenda (s : State) (x2 : Nat) : (s.putSource x2).agenda = s.agenda := by
  simp [State.putSource]

@[simp] theorem State.selftest_agenda (s : State) (x2 : Nat) (x3 : Bool) (h2 : Bool) :
    (s.selftest x2 x3 h2).agenda = s.agenda := by simp [State.selftest]

@[simp] theorem State.triRun_agenda (s : State) (x2 : Nat) (x3 : Bool) (h2 : Bool) :
    (s.triRun x2 x3 h2).1.agenda = s.agenda := by simp [State.triRun]

@[simp] theorem State.markFence_agenda (s : State) (x2 : Nat) : (s.markFence x2).agenda = s.agenda := by
  simp [State.markFence]

@[simp] theorem State.triRestart_agenda (s : State) (x2 : Nat) (x3 : Bool) (h2 : Bool) :
    (s.triRestart x2 x3 h2).1.agenda = s.agenda := by simp [State.triRestart]

theorem execScarabSelftest_answers (dt : Nat) (x2 : Fin 4) (x3 : Bool) (h2 : Bool) (s : State) :
    Answers (s.elapse dt).agenda (execScarabSelftest dt x2 x3 h2 s) := onMain_answers fun u => by simp

theorem execStateAudit_answers (dt : Nat) (x2 : Fin 4) (v : TriVote) (s : State) :
    Answers (s.elapse dt).agenda (execStateAudit dt x2 v s) := onMain_answers fun u => by simp

theorem execInterruptArrival_answers (dt : Nat) (x2 : Fin 4) (irq : Irq) (r : Nat) (wfi : Bool) (s : State) :
    Answers (s.elapse dt).agenda (execInterruptArrival dt x2 irq r wfi s) := by
  unfold execInterruptArrival
  refine onMain_answers fun u => ?_
  dsimp only
  repeat' split
  all_goals simp

theorem execInterruptTaken_answers (dt : Nat) (x2 : Fin 4) (r : Nat) (s : State) :
    Answers (s.elapse dt).agenda (execInterruptTaken dt x2 r s) := onMain_answers fun u => by simp

@[simp] theorem State.reintStart_agenda (s : State) (x2 l : Nat) : (s.reintStart x2 l).agenda = s.agenda := by
  simp [State.reintStart]

@[simp] theorem State.copyLane_agenda (s : State) (x2 src dst : Nat) : (s.copyLane x2 src dst).agenda = s.agenda := by
  simp [State.copyLane]

theorem execReintegration_answers (dt : Nat) (x2 : Fin 4) (ok : Bool) (s : State) :
    Answers (s.elapse dt).agenda (execReintegration dt x2 ok s) := by
  unfold execReintegration
  refine onMain_answers fun u => ?_
  dsimp only
  repeat' split
  all_goals simp

@[simp] theorem State.triStart_agenda (s : State) (x2 : Nat) (x3 : Bool) (h2 : Bool) :
    (s.triStart x2 x3 h2).1.agenda = s.agenda := by simp [State.triStart]

/-! ### The queue and the ticks after the operations of Nv.lean -/

@[simp] theorem State.illegal_agenda (s : State) (x2 : Nat) : (s.illegal x2).agenda = s.agenda := by simp [State.illegal]

@[simp] theorem State.nv_agenda (s : State) (who : Init) (f3 : Nat) (e : BitVec 25) (m : Fin 4)
    (f : Nat → Nat → State → State) (hf : ∀ y0 y1 y2, (f y0 y1 y2).agenda = y2.agenda) :
    (s.nv who f3 e m f).agenda = s.agenda := by
  unfold State.nv
  simp
  repeat' split
  all_goals simp [*]

theorem execNvSnap_answers (dt : Nat) (who : Init) (e : BitVec 25) (gap : LaneCtx) (v : TriVote) (s : State) :
    Answers (s.elapse dt).agenda (execNvSnap dt who e gap v s) := guarded_answers (onMain_answers fun u => by simp)

theorem execNvCommit_answers (dt : Nat) (who : Init) (e : BitVec 25) (m : Fin 4) (v : TriVote) (s : State) :
    Answers (s.elapse dt).agenda (execNvCommit dt who e m v s) := by
  unfold execNvCommit
  refine onMain_answers fun u => ?_
  refine State.nv_agenda _ _ _ _ _ _ fun n rd u => ?_
  split
  · simp
  · refine State.voteBy_agenda _ _ _ _ _ fun u => ?_
    dsimp only
    repeat' split
    all_goals simp

theorem execNvAbort_answers (dt : Nat) (who : Init) (e : BitVec 25) (m : Fin 4) (v : TriVote) (s : State) :
    Answers (s.elapse dt).agenda (execNvAbort dt who e m v s) := onMain_answers fun u => by simp

theorem execNvDstat_answers (dt : Nat) (who : Init) (e : BitVec 25) (m : Fin 4) (s : State) :
    Answers (s.elapse dt).agenda (execNvDstat dt who e m s) := onMain_answers fun u => by simp

theorem execNvRbase_answers (dt : Nat) (who : Init) (e : BitVec 25) (m : Fin 4) (s : State) :
    Answers (s.elapse dt).agenda (execNvRbase dt who e m s) := onMain_answers fun u => by simp

theorem execNvRmark_answers (dt : Nat) (who : Init) (e : BitVec 25) (m : Fin 4) (v : TriVote) (s : State) :
    Answers (s.elapse dt).agenda (execNvRmark dt who e m v s) := by
  unfold execNvRmark
  refine onMain_answers fun u => ?_
  refine State.nv_agenda _ _ _ _ _ _ fun n _ u => ?_
  split
  · simp
  · refine State.voteBy_agenda _ _ _ _ _ fun u => ?_
    dsimp only
    repeat' split
    all_goals simp

theorem execNvRstat_answers (dt : Nat) (who : Init) (e : BitVec 25) (m : Fin 4) (s : State) :
    Answers (s.elapse dt).agenda (execNvRstat dt who e m s) := onMain_answers fun u => by simp

@[simp] theorem State.axsRestore_agenda (s : State) (c : Ckpt) : (s.axsRestore c).agenda = s.agenda := by
  simp [State.axsRestore]

@[simp] theorem State.preRestore_agenda (s : State) (c : Ckpt) : (s.preRestore c).agenda = s.agenda := by
  simp [State.preRestore]

@[simp] theorem State.takeoverStart_agenda (s : State) : s.takeoverStart.agenda = s.agenda := by
  unfold State.takeoverStart
  split
  · rw [State.axsRestore_agenda, State.preRestore_agenda]
    exact agenda_forL _ _ (fun _ _ => by split <;> simp) _
  · simp

theorem execPrimacyHeld_answers (dt : Nat) (s : State) : Answers (s.elapse dt).agenda (execPrimacyHeld dt s) :=
  onMain_answers fun u => by simp

/-! ### The queue and the ticks after the operations of View.lean -/

@[simp] theorem State.liveRead_agenda (s : State) (p o : Nat) : (s.liveRead p o).2.agenda = s.agenda := by
  unfold State.liveRead
  repeat' split
  all_goals simp

@[simp] theorem State.latchHi_agenda (s : State) (who : Init) (p o : Nat) : (s.latchHi who p o).agenda = s.agenda := by
  simp [State.latchHi]

@[simp] theorem State.readReg_agenda (s : State) (who : Init) (p o : Nat) : (s.readReg who p o).2.agenda = s.agenda := by
  simp [State.readReg]

theorem execWideLoRead_answers (dt : Nat) (who : Init) (p : Fin 512) (w : Fin 1024) (s : State) :
    Answers (s.elapse dt).agenda (execWideLoRead dt who p w s) := onMain_answers fun u => by simp

/-! ### The queue and the ticks after the operations of Pwr.lean -/

@[simp] theorem State.sysCmd_agenda (s : State) (who : Init) (k : Nat) (v : Word) (f : State → State)
    (hf : ∀ y0, (f y0).agenda = y0.agenda) :
    (s.sysCmd who k v f).agenda = s.agenda := by
  simp [State.sysCmd, *]

@[simp] theorem State.mainOff_agenda (s : State) (kind : Nat) (sleep : Bool) :
    (s.mainOff kind sleep).agenda = s.agenda := by
  simp [State.mainOff]

@[simp] theorem State.fuseCut_agenda (s : State) : s.fuseCut.agenda = s.agenda := by
  unfold State.fuseCut
  split <;> simp

@[simp] theorem State.mainDown_agenda (s : State) (kind : Nat) (sleep : Bool) :
    (s.mainDown kind sleep).agenda = s.agenda := by simp [State.mainDown]

@[simp] theorem State.gatesShut_agenda (s : State) (rel : Bool) : (s.gatesShut rel).agenda = s.agenda := by
  simp [State.gatesShut]

@[simp] theorem State.shutdown_agenda (s : State) (kind : Nat) (sleep : Bool) :
    (s.shutdown kind sleep).agenda = s.agenda := by simp [State.shutdown, -State.record_ticks]

theorem execSyscmdSleep_answers (dt : Nat) (who : Init) (v : Word) (s : State) :
    Answers (s.elapse dt).agenda (execSyscmdSleep dt who v s) := onMain_answers fun u => by simp

theorem execSyscmdMreset_answers (dt : Nat) (who : Init) (v : Word) (s : State) :
    Answers (s.elapse dt).agenda (execSyscmdMreset dt who v s) := onMain_answers fun u => by simp

theorem execFusecmdRevoke_answers (dt : Nat) (who : Init) (v : Word) (s : State) :
    Answers (s.elapse dt).agenda (execFusecmdRevoke dt who v s) := onMain_answers fun u => by simp

theorem execClockFault_answers (dt : Nat) (c : Fin 6) (s : State) : Answers (s.elapse dt).agenda
    (execClockFault dt c s) :=
  always_answers fun u => by simp

theorem execClockRestart_answers (dt : Nat) (s : State) : Answers (s.elapse dt).agenda (execClockRestart dt s) := by
  unfold execClockRestart
  refine always_answers fun u => ?_
  split <;> simp

@[simp] theorem State.clockFree_agenda (s : State) : s.clockFree.agenda = s.agenda := by simp [State.clockFree]

theorem execPoweron_answers (dt : Nat) (s : State) : Answers (s.elapse dt).agenda (execPoweron dt s) :=
  always_answers fun u => by simp

theorem execSupplyUv_answers (dt : Nat) (s : State) : Answers (s.elapse dt).agenda (execSupplyUv dt s) :=
  always_answers fun u => by simp

theorem execSupplyReturn_answers (dt : Nat) (s : State) : Answers (s.elapse dt).agenda (execSupplyReturn dt s) :=
  always_answers fun u => by simp

theorem execSupplyOv_answers (dt : Nat) (on : Bool) (s : State) : Answers (s.elapse dt).agenda (execSupplyOv dt on s) :=
  always_answers fun u => by simp

theorem execPowerFailWarning_answers (dt : Nat) (bank : Bool) (s : State) :
    Answers (s.elapse dt).agenda (execPowerFailWarning dt bank s) := always_answers fun u => by simp

@[simp] theorem State.retCut_agenda (s : State) (x2 : Nat) : (s.retCut x2).agenda = s.agenda := by
  unfold State.retCut
  repeat' split
  all_goals simp

@[simp] theorem State.shutSaves_agenda (s : State) (k : Nat) : (s.shutSaves k).agenda = s.agenda := by
  simp [State.shutSaves]

theorem execShutdownComplete_answers (dt : Nat) (k : Fin 8) (s : State) :
    Answers (s.elapse dt).agenda (execShutdownComplete dt k s) := by
  unfold execShutdownComplete
  refine always_answers fun u => ?_
  split <;> simp

theorem execSupplyMeasure_answers (dt : Nat) (fs : List (BitVec 16)) (ts : List (BitVec 18)) (vin bank : BitVec 16)
    (shown : BitVec 12) (s : State) :
    Answers (s.elapse dt).agenda (execSupplyMeasure dt fs ts vin bank shown s) :=
  guarded_answers (always_answers fun u => by simp)

theorem execTripSupplyChange_answers (dt : Nat) (x2 : Fin 2) (s : State) :
    Answers (s.elapse dt).agenda (execTripSupplyChange dt x2 s) := by
  unfold execTripSupplyChange
  refine always_answers fun u => ?_
  split <;> simp

theorem execTempMeasure_answers (dt : Nat) (v : BitVec 16) (s : State) :
    Answers (s.elapse dt).agenda (execTempMeasure dt v s) := always_answers fun u => by simp

theorem execThermal_answers (dt : Nat) (s : State) : Answers (s.elapse dt).agenda (execThermal dt s) := by
  unfold execThermal
  refine always_answers fun u => ?_
  split <;> simp

theorem execRstinAssert_answers (dt : Nat) (accepted : Bool) (s : State) :
    Answers (s.elapse dt).agenda (execRstinAssert dt accepted s) := always_answers fun u => by simp

theorem execRstinRelease_answers (dt : Nat) (s : State) : Answers (s.elapse dt).agenda (execRstinRelease dt s) :=
  always_answers fun u => by simp

@[simp] theorem State.standbyClear_agenda (s : State) : s.standbyClear.agenda = s.agenda := by simp [State.standbyClear]

theorem execStandbyDomainLoss_answers (dt : Nat) (s : State) : Answers (s.elapse dt).agenda
    (execStandbyDomainLoss dt s) :=
  always_answers fun u => by simp

/-! ### The queue and the ticks after the operations of Upd.lean -/

@[simp] theorem State.updCmd_agenda (s : State) (who : Init) (k : Nat) (v : Word) (f : Nat → State → State)
    (hf : ∀ y0 y1, (f y0 y1).agenda = y1.agenda) :
    (s.updCmd who k v f).agenda = s.agenda := by
  unfold State.updCmd
  refine State.cmdW_agenda _ _ _ _ _ fun n u => ?_
  refine State.keyed_agenda _ _ _ _ _ _ _ fun u => ?_
  split
  · exact hf _ _
  · rfl

@[simp] theorem State.updErr_agenda (s : State) (x2 code : Nat) : (s.updErr x2 code).agenda = s.agenda := by
  simp [State.updErr]

@[simp] theorem State.sessTouch_agenda (s : State) : s.sessTouch.agenda = s.agenda := by simp [State.sessTouch]

theorem execUpdcmdChunk_answers (dt : Nat) (who : Init) (v : Word) (s : State) :
    Answers (s.elapse dt).agenda (execUpdcmdChunk dt who v s) := onMain_answers fun u => by simp

@[simp] theorem State.setStage_agenda (s : State) (st : Nat) : (s.setStage st).agenda = s.agenda := by
  simp [State.setStage]

@[simp] theorem State.sessClose_agenda (s : State) : s.sessClose.agenda = s.agenda := by simp [State.sessClose]

@[simp] theorem State.reject_agenda (s : State) (why : Nat) : (s.reject why).agenda = s.agenda := by simp [State.reject]

@[simp] theorem State.sessEnd_agenda (s : State) (lenOk : Bool) : (s.sessEnd lenOk).agenda = s.agenda := by
  simp [State.sessEnd]

theorem execUpdcmdClose_answers (dt : Nat) (who : Init) (v : Word) (s : State) :
    Answers (s.elapse dt).agenda (execUpdcmdClose dt who v s) := onMain_answers fun u => by simp

@[simp] theorem State.putStaging_agenda (s : State) (x2 : List Nat) : (s.putStaging x2).agenda = s.agenda := by
  simp [State.putStaging]

@[simp] theorem State.sessDrop_agenda (s : State) (x2 : Nat) : (s.sessDrop x2).agenda = s.agenda := by
  simp [State.sessDrop]

theorem execUpdcmdAbort_answers (dt : Nat) (who : Init) (v : Word) (s : State) :
    Answers (s.elapse dt).agenda (execUpdcmdAbort dt who v s) := onMain_answers fun u => by simp

theorem execUpdcmdAbortother_answers (dt : Nat) (who : Init) (v : Word) (s : State) :
    Answers (s.elapse dt).agenda (execUpdcmdAbortother dt who v s) := onMain_answers fun u => by simp

@[simp] theorem State.busyGiven_agenda (s : State) : s.busyGiven.agenda = s.agenda := by simp [State.busyGiven]

@[simp] theorem State.sessOpen_agenda (s : State) (src : Nat) : (s.sessOpen src).agenda = s.agenda := by
  simp [State.sessOpen]

theorem execUpdcmdOpen_answers (dt : Nat) (who : Init) (v : Word) (s : State) :
    Answers (s.elapse dt).agenda (execUpdcmdOpen dt who v s) := onMain_answers fun u => by simp

@[simp] theorem State.actCmd_agenda (s : State) (who : Init) (k : Nat) (v : Word) (f : Nat → State → State)
    (hf : ∀ y0 y1, (f y0 y1).agenda = y1.agenda) :
    (s.actCmd who k v f).agenda = s.agenda := by
  unfold State.actCmd
  refine State.cmdW_agenda _ _ _ _ _ fun n u => ?_
  refine State.keyed_agenda _ _ _ _ _ _ _ fun u => ?_
  split
  · exact hf _ _
  · rfl

@[simp] theorem State.actErr_agenda (s : State) (x2 code : Nat) : (s.actErr x2 code).agenda = s.agenda := by
  simp [State.actErr]

@[simp] theorem State.actOpen_agenda (s : State) (x2 : Nat) (f : State → State) (hf : ∀ y0, (f y0).agenda = y0.agenda) :
    (s.actOpen x2 f).agenda = s.agenda := by
  simp [State.actOpen, *]

@[simp] theorem State.setAct_agenda (s : State) (a : Nat) : (s.setAct a).agenda = s.agenda := by simp [State.setAct]

@[simp] theorem State.stagingDone_agenda (s : State) : s.stagingDone.agenda = s.agenda := by simp [State.stagingDone]

@[simp] theorem State.activate_agenda (s : State) : s.activate.agenda = s.agenda := by simp [State.activate]

theorem execActcmdNow_answers (dt : Nat) (who : Init) (v : Word) (s : State) :
    Answers (s.elapse dt).agenda (execActcmdNow dt who v s) := onMain_answers fun u => by simp

theorem execActcmdCancel_answers (dt : Nat) (who : Init) (v : Word) (s : State) :
    Answers (s.elapse dt).agenda (execActcmdCancel dt who v s) := onMain_answers fun u => by simp

theorem execActcmdConfirm_answers (dt : Nat) (who : Init) (v : Word) (s : State) :
    Answers (s.elapse dt).agenda (execActcmdConfirm dt who v s) := onMain_answers fun u => by simp

theorem execActcmdSchedule_answers (dt : Nat) (who : Init) (v : Word) (s : State) :
    Answers (s.elapse dt).agenda (execActcmdSchedule dt who v s) := onMain_answers fun u => by simp

@[simp] theorem State.stageBytes_agenda (s : State) (x2 : List Nat) : (s.stageBytes x2).agenda = s.agenda := by
  simp [State.stageBytes]

theorem execChunkDone_answers (dt : Nat) (s : State) : Answers (s.elapse dt).agenda (execChunkDone dt s) := by
  unfold execChunkDone
  refine onMain_answers fun u => ?_
  split <;> simp

theorem execVerifyDone_answers (dt : Nat) (read : Fin 3) (s : State) :
    Answers (s.elapse dt).agenda (execVerifyDone dt read s) := onMain_answers fun u => by simp

theorem execSessionTimeout_answers (dt : Nat) (s : State) : Answers (s.elapse dt).agenda (execSessionTimeout dt s) :=
  onMain_answers fun u => by simp

@[simp] theorem State.say_agenda (s : State) (x2 : List Nat) : (s.say x2).agenda = s.agenda := by simp [State.say]

theorem execTftpWriteStage_answers (dt : Nat) (peer : BitVec 48) (blk : Option (BitVec 16)) (s : State) :
    Answers (s.elapse dt).agenda (execTftpWriteStage dt peer blk s) := by
  unfold execTftpWriteStage
  refine onMain_answers fun u => ?_
  repeat' split
  all_goals simp

theorem execTftpWriteAbort_answers (dt : Nat) (token : List Byte) (s : State) :
    Answers (s.elapse dt).agenda (execTftpWriteAbort dt token s) := onMain_answers fun u => by simp

theorem execTftpReadStatus_answers (dt : Nat) (s : State) : Answers (s.elapse dt).agenda (execTftpReadStatus dt s) :=
  onMain_answers fun u => by simp

theorem execTftpData_answers (dt : Nat) (peer : BitVec 48) (block : BitVec 16) (data : List Byte) (s : State) :
    Answers (s.elapse dt).agenda (execTftpData dt peer block data s) := by
  unfold execTftpData
  refine guarded_answers (onMain_answers fun u => ?_)
  split <;> simp

theorem execTftpError_answers (dt : Nat) (peer : BitVec 48) (s : State) :
    Answers (s.elapse dt).agenda (execTftpError dt peer s) := by
  unfold execTftpError
  refine onMain_answers fun u => ?_
  split <;> simp

theorem execArpRequest_answers (dt : Nat) (target sender : BitVec 32) (mac : BitVec 48) (s : State) :
    Answers (s.elapse dt).agenda (execArpRequest dt target sender mac s) := onMain_answers fun u => by simp

theorem execActivationDue_answers (dt : Nat) (s : State) : Answers (s.elapse dt).agenda (execActivationDue dt s) :=
  onMain_answers fun u => by simp

theorem execActivationPostponed_answers (dt : Nat) (s : State) :
    Answers (s.elapse dt).agenda (execActivationPostponed dt s) := by
  unfold execActivationPostponed
  refine onMain_answers fun u => ?_
  split <;> simp

theorem execActivationExpired_answers (dt : Nat) (s : State) : Answers (s.elapse dt).agenda
    (execActivationExpired dt s) := by
  unfold execActivationExpired
  refine onMain_answers fun u => ?_
  split <;> simp

theorem execUpdateReset_answers (dt : Nat) (s : State) : Answers (s.elapse dt).agenda (execUpdateReset dt s) := by
  unfold execUpdateReset
  refine onMain_answers fun u => ?_
  split <;> simp

@[simp] theorem State.copyFail_agenda (s : State) : s.copyFail.agenda = s.agenda := by simp [State.copyFail]

@[simp] theorem State.putRoles_agenda (s : State) (a f g : Nat) : (s.putRoles a f g).agenda = s.agenda := by
  simp [State.putRoles]

@[simp] theorem State.copyDone_agenda (s : State) (ms : Nat) (setdef : Bool) :
    (s.copyDone ms setdef).agenda = s.agenda := by
  simp [State.copyDone]

@[simp] theorem State.migrateAll_agenda (s : State) (old new : Nat) : (s.migrateAll old new).agenda = s.agenda := by
  refine agenda_forN _ _ (fun a t => ?_) _
  dsimp only
  repeat' split
  all_goals simp

@[simp] theorem State.updRevert_agenda (s : State) : s.updRevert.agenda = s.agenda := by simp [State.updRevert]

@[simp] theorem State.countStart_agenda (s : State) : s.countStart.agenda = s.agenda := by simp [State.countStart]

end Sys2Proof.Machine

namespace Sys2Proof.Machine

/-! ### The queue and the ticks after the operations of Mgt.lean -/

theorem execMgtCntclr_answers (dt : Nat) (who : Init) (v : Word) (s : State) :
    Answers (s.elapse dt).agenda (execMgtCntclr dt who v s) := always_answers fun u => by simp

@[simp] theorem State.mgtFrame_agenda (s : State) (f : State → State) (hf : ∀ y0, (f y0).agenda = y0.agenda) :
    (s.mgtFrame f).agenda = s.agenda := by
  simp [State.mgtFrame, *]

@[simp] theorem State.mgtReply_agenda (s : State) (cmd slot status : Nat) (l : List Nat) :
    (s.mgtReply cmd slot status l).agenda = s.agenda := by simp [State.mgtReply]

@[simp] theorem State.mgtOpen_agenda (s : State) (cmd : Nat) (f : MgtFrame) (go : State → State)
    (hgo : ∀ y0, (go y0).agenda = y0.agenda) :
    (s.mgtOpen cmd f go).agenda = s.agenda := by
  simp [State.mgtOpen, *]

theorem execMgtIdent_answers (dt : Nat) (f : MgtFrame) (s : State) : Answers (s.elapse dt).agenda
    (execMgtIdent dt f s) :=
  always_answers fun u => by simp

theorem execMgtHealth_answers (dt : Nat) (f : MgtFrame) (s : State) :
    Answers (s.elapse dt).agenda (execMgtHealth dt f s) := always_answers fun u => by simp

@[simp] theorem State.mgtFail_agenda (s : State) (cmd slot : Nat) : (s.mgtFail cmd slot).agenda = s.agenda := by
  simp [State.mgtFail]

@[simp] theorem State.mgtAuth_agenda (s : State) (cmd slot : Nat) (f : MgtFrame) (go : State → State)
    (hgo : ∀ y0, (go y0).agenda = y0.agenda) :
    (s.mgtAuth cmd slot f go).agenda = s.agenda := by
  simp [State.mgtAuth, *]

@[simp] theorem State.mgtRead_agenda (s : State) (cmd len : Nat) (f : MgtFrame)
    (go : Nat → (Nat → Nat → Nat) → State → State) (hgo : ∀ y0 y1 y2, (go y0 y1 y2).agenda = y2.agenda) :
    (s.mgtRead cmd len f go).agenda = s.agenda := by
  simp [State.mgtRead, *]

@[simp] theorem State.readRegs_agenda (s : State) (p o x4 : Nat) : (s.readRegs p o x4).2.agenda = s.agenda := by
  induction x4 with
  | zero => rfl
  | succ k ih => exact (State.readReg_agenda ..).trans ih

@[simp] theorem State.mgtData_agenda (s : State) (cmd slot : Nat) (f : MgtFrame) (l : List Nat) :
    (s.mgtData cmd slot f l).agenda = s.agenda := by simp [State.mgtData]

theorem execMgtReadpage_answers (dt : Nat) (f : MgtFrame) (s : State) :
    Answers (s.elapse dt).agenda (execMgtReadpage dt f s) := always_answers fun u => by simp

theorem execMgtReadevr_answers (dt : Nat) (f : MgtFrame) (s : State) :
    Answers (s.elapse dt).agenda (execMgtReadevr dt f s) := by
  unfold execMgtReadevr
  refine always_answers fun u => ?_
  refine State.mgtRead_agenda _ _ _ _ _ fun slot num u => ?_
  repeat' split
  all_goals simp

theorem execMgtReadlife_answers (dt : Nat) (f : MgtFrame) (s : State) :
    Answers (s.elapse dt).agenda (execMgtReadlife dt f s) := always_answers fun u => by simp

theorem execMgtNonce_answers (dt : Nat) (f : MgtFrame) (s : State) : Answers (s.elapse dt).agenda
    (execMgtNonce dt f s) :=
  always_answers fun u => by simp

@[simp] theorem State.mgtCmd_agenda (s : State) (cmd len : Nat) (f : MgtFrame) (go : Nat → State → State)
    (hgo : ∀ y0 y1, (go y0 y1).agenda = y1.agenda) :
    (s.mgtCmd cmd len f go).agenda = s.agenda := by
  simp [State.mgtCmd, *]

@[simp] theorem State.mgtAccept_agenda (s : State) (cmd slot : Nat) : (s.mgtAccept cmd slot).agenda = s.agenda := by
  simp [State.mgtAccept]

theorem execMgtReadmem_answers (dt : Nat) (f : MgtFrame) (ecc : Byte) (s : State) :
    Answers (s.elapse dt).agenda (execMgtReadmem dt f ecc s) := by
  unfold execMgtReadmem
  refine always_answers fun u => ?_
  refine State.mgtCmd_agenda _ _ _ _ _ fun slot u => ?_
  dsimp only
  split
  · simp
  split
  · simp
  split
  · simp
  · exact (State.agenda_mk ..).trans (by simp)

@[simp] theorem State.mgtRefuse_agenda (s : State) (cmd slot : Nat) : (s.mgtRefuse cmd slot).agenda = s.agenda := by
  simp [State.mgtRefuse]

theorem execMgtPreset_answers (dt : Nat) (f : MgtFrame) (s : State) :
    Answers (s.elapse dt).agenda (execMgtPreset dt f s) := always_answers fun u => by simp

theorem execMgtMreset_answers (dt : Nat) (f : MgtFrame) (s : State) :
    Answers (s.elapse dt).agenda (execMgtMreset dt f s) := always_answers fun u => by simp

theorem execMgtRecovery_answers (dt : Nat) (f : MgtFrame) (s : State) :
    Answers (s.elapse dt).agenda (execMgtRecovery dt f s) := always_answers fun u => by simp

theorem execMgtEvrclear_answers (dt : Nat) (f : MgtFrame) (s : State) :
    Answers (s.elapse dt).agenda (execMgtEvrclear dt f s) := always_answers fun u => by simp

theorem execMgtPrimrel_answers (dt : Nat) (f : MgtFrame) (s : State) :
    Answers (s.elapse dt).agenda (execMgtPrimrel dt f s) := always_answers fun u => by simp

theorem execMgtWake_answers (dt : Nat) (f : MgtFrame) (s : State) : Answers (s.elapse dt).agenda
    (execMgtWake dt f s) := by
  unfold execMgtWake
  refine always_answers fun u => ?_
  refine State.mgtFrame_agenda _ _ fun u => ?_
  split
  · simp
  · refine State.mgtAuth_agenda _ _ _ _ _ fun u => ?_
    split
    · simp
    · exact (State.clockFree_agenda _).trans ((State.agenda_mk ..).trans (by simp))

theorem execMgtSetkey_answers (dt : Nat) (f : MgtFrame) (s : State) :
    Answers (s.elapse dt).agenda (execMgtSetkey dt f s) := always_answers fun u => by simp

theorem execMgtClose_answers (dt : Nat) (f : MgtFrame) (s : State) : Answers (s.elapse dt).agenda
    (execMgtClose dt f s) := by
  unfold execMgtClose
  refine always_answers fun u => ?_
  refine State.mgtCmd_agenda _ _ _ _ _ fun slot u => ?_
  split
  · simp
  · exact (State.agenda_mk ..).trans (by simp)

theorem execMgtBadFrame_answers (dt : Nat) (why : MgtBad) (s : State) :
    Answers (s.elapse dt).agenda (execMgtBadFrame dt why s) := by
  unfold execMgtBadFrame
  refine always_answers fun u => ?_
  repeat' split
  all_goals simp

theorem execMgtUnknownCmd_answers (dt : Nat) (cmd : Byte) (f : MgtFrame) (s : State) :
    Answers (s.elapse dt).agenda (execMgtUnknownCmd dt cmd f s) := always_answers fun u => by simp

theorem execAuthlockEnd_answers (dt : Nat) (s : State) : Answers (s.elapse dt).agenda (execAuthlockEnd dt s) := by
  unfold execAuthlockEnd
  refine always_answers fun u => ?_
  split <;> simp

theorem execResetHeld_answers (dt : Nat) (s : State) : Answers (s.elapse dt).agenda (execResetHeld dt s) :=
  always_answers fun u => by simp

/-! ### The queue and the ticks after the operations of Commit.lean -/

@[simp] theorem State.pageBefore_agenda (s : State) (p : Nat) : (s.pageBefore p).agenda = s.agenda := by
  simp [State.pageBefore]

@[simp] theorem State.pageApplied_agenda (s old : State) (p : Nat) : (s.pageApplied old p).agenda = s.agenda := by
  unfold State.pageApplied
  repeat' split
  all_goals simp

@[simp] theorem State.applyGroup_agenda (s : State) (g : List Nat) : (s.applyGroup g).agenda = s.agenda := by
  simp [State.applyGroup]

@[simp] theorem State.refuseCommit_agenda (s : State) (p : Nat) (v : Verdict) :
    (s.refuseCommit p v).agenda = s.agenda := by
  unfold State.refuseCommit
  split <;> simp

theorem execPageCommitApply_answers (dt : Nat) (p : Fin 512) (s : State) :
    Answers (s.elapse dt).agenda (execPageCommitApply dt p s) := onMain_answers fun u => by simp

/-! ### The queue and the ticks after the operations of Time.lean -/

@[simp] theorem State.dioStep_agenda (s : State) : s.dioStep.agenda = s.agenda := by simp [State.dioStep]

@[simp] theorem State.sfnMove_agenda (s : State) (d : Int) : (s.sfnMove d).agenda = s.agenda := by simp [State.sfnMove]

@[simp] theorem State.cycMove_agenda (s : State) (d : Int) : (s.cycMove d).agenda = s.agenda := by simp [State.cycMove]

theorem execTimeStep_answers (dt : Nat) (s : State) : Answers (s.elapse dt).agenda (execTimeStep dt s) := by
  unfold execTimeStep
  refine onMain_answers fun u => ?_
  split <;> simp

/-! ### The queue and the ticks after the operations of Reset.lean -/

@[simp] theorem State.cycEmpty_agenda (s : State) (x2 : Nat) : (s.cycEmpty x2).agenda = s.agenda := by
  simp [State.cycEmpty]

@[simp] theorem State.standing_agenda (s old : State) (ps : List Nat) : (s.standing old ps).agenda = s.agenda := by
  simp [State.standing]

@[simp] theorem State.blockReset_agenda (s : State) (p : Nat) : (s.blockReset p).agenda = s.agenda := by
  unfold State.blockReset
  repeat' split
  all_goals simp

@[simp] theorem State.pagesReset_agenda (s : State) (ps : List Nat) : (s.pagesReset ps).agenda = s.agenda := by
  simp [State.pagesReset]

@[simp] theorem State.triHold_agenda (s : State) (x2 : Nat) : (s.triHold x2).agenda = s.agenda := by
  unfold State.triHold
  split <;> simp

@[simp] theorem State.partReset_agenda (s : State) (x2 : Nat) : (s.partReset x2).agenda = s.agenda := by
  simp [State.partReset]

@[simp] theorem State.installImage_agenda (s : State) (x2 : Nat) : (s.installImage x2).agenda = s.agenda := by
  unfold State.installImage
  dsimp only
  repeat' split
  all_goals simp

@[simp] theorem State.loadPart_agenda (s : State) (x2 : Nat) : (s.loadPart x2).agenda = s.agenda := by
  simp [State.loadPart]

@[simp] theorem State.partRun_agenda (s : State) (x2 : Nat) : (s.partRun x2).agenda = s.agenda := by simp [State.partRun]

@[simp] theorem State.nameTriad_agenda (s : State) (x2 : Nat) : (s.nameTriad x2).agenda = s.agenda := by
  simp [State.nameTriad]

@[simp] theorem State.partStuck_agenda (s : State) (x2 x3 : Nat) : (s.partStuck x2 x3).agenda = s.agenda := by
  simp [State.partStuck]

@[simp] theorem State.partRestart_agenda (s : State) (x2 : Nat) (x3 : Bool) (h2 : Bool) :
    (s.partRestart x2 x3 h2).agenda = s.agenda := by
  unfold State.partRestart
  split <;> simp

theorem execPartitionReset_answers (dt : Nat) (x2 : Fin 8) (x3 : Bool) (h2 : Bool) (s : State) :
    Answers (s.elapse dt).agenda (execPartitionReset dt x2 x3 h2 s) := onMain_answers fun u => by simp

/-! ### The queue and the ticks after the operations of Bus.lean -/

@[simp] theorem State.after_agenda (s : State) (r : Host.Outcome State Fault Refusal) (hr : Answers s.agenda r) :
    (s.after r).agenda = s.agenda := by
  obtain ⟨t, rfl, ht⟩ := hr
  exact ht

@[simp] theorem State.romAccess_agenda (s : State) (who : Init) (a x4 : Nat) (op : BusOp) :
    (s.romAccess who a x4 op).agenda = s.agenda := by
  unfold State.romAccess
  split <;> simp

/-- A command that an access names, if it names one, answers a next state with the agenda `a`. -/
def MayAnswer (a : List Instr × Nat) (o : Option (Host.Outcome State Fault Refusal)) : Prop := ∀ r,
  o = some r → Answers a r

theorem mayAnswer_none {a : List Instr × Nat} : MayAnswer a none := fun _ h => nomatch h

theorem mayAnswer_some {a : List Instr × Nat} {r} (h : Answers a r) : MayAnswer a
    (some r) := fun _ hr => Option.some.inj hr ▸ h

theorem mayAnswer_ite {a : List Instr × Nat} {c : Prop} {_ : Decidable c} {o o'} (h : MayAnswer a o)
    (h' : MayAnswer a o') :
    MayAnswer a (if c then o else o') := by split <;> assumption

theorem mayAnswer_at {a : List Instr × Nat} {c : Prop} {_ : Decidable c} {r o} (h : Answers a r) (h' : MayAnswer a o) :
    MayAnswer a (if c then some r else o) := mayAnswer_ite (mayAnswer_some h) h'

theorem answers_ite {a : List Instr × Nat} {c : Prop} {_ : Decidable c} {r r'} (h : Answers a r) (h' : Answers a r') :
    Answers a (if c then r else r') := by split <;> assumption

theorem State.readCmd_answers (s : State) (who : Init) (p o : Nat) :
    MayAnswer s.agenda (State.readCmd s who p o) := by
  unfold State.readCmd
  refine mayAnswer_at (execDenypop_answers ..) ?_
  refine mayAnswer_at (execEqpop_answers ..) ?_
  refine mayAnswer_at (execTxtspop_answers ..) ?_
  refine mayAnswer_at (execTspop_answers ..) ?_
  refine mayAnswer_at (execSbpop_answers ..) ?_
  refine mayAnswer_at (execWvpop_answers ..) ?_
  exact mayAnswer_none

@[simp] theorem State.regLoad_agenda (s : State) (who : Init) (p o : Nat) : (s.regLoad who p o).agenda = s.agenda := by
  unfold State.regLoad
  split
  next r h => exact State.after_agenda _ _ (State.readCmd_answers _ _ _ _ _ h)
  next => exact State.cmdR_agenda _ _ _ _ _ fun _ _ => by simp

theorem State.headCmd_answers (s : State) (who : Init) (p o : Nat) (v : Word) (ext : BitVec 48) :
    MayAnswer s.agenda (State.headCmd s who p o v ext) := by
  unfold State.headCmd
  refine mayAnswer_at (execOwnerWrite_answers ..) ?_
  refine mayAnswer_at (execLockWrite_answers ..) ?_
  refine mayAnswer_at (execEvackWrite_answers ..) ?_
  refine mayAnswer_at (execCmtAbort_answers ..) ?_
  refine mayAnswer_at (execCmtGo_answers ..) ?_
  refine mayAnswer_at (execErrclrWrite_answers ..) ?_
  refine mayAnswer_at (execPresetWrite_answers ..) ?_
  refine mayAnswer_at (execOwnkWrite_answers ..) ?_
  refine mayAnswer_at (execGrantkWrite_answers ..) ?_
  exact mayAnswer_none

theorem State.coreCmd_answers (s : State) (who : Init) (p o : Nat) (v : Word) :
    MayAnswer s.agenda (State.coreCmd s who p o v) := by
  unfold State.coreCmd
  refine mayAnswer_at (answers_ite (execSyscmdSleep_answers ..) (execSyscmdMreset_answers ..)) ?_
  refine mayAnswer_at (execFusecmdRevoke_answers ..) ?_
  refine mayAnswer_at (execMemCntclr_answers ..) ?_
  refine mayAnswer_at (execElnext_answers ..) ?_
  refine mayAnswer_at (answers_ite (execLanecmdFence_answers ..) (execStnow_answers ..)) ?_
  refine mayAnswer_at ?_ ?_
  · split
    · exact execStartWarm_answers ..
    · exact execStop_answers ..
    · exact execChgload_answers ..
    · exact execChgarm_answers ..
    · exact execChgabort_answers ..
    · exact execGroupcmt_answers ..
    · exact execStartCold_answers ..
  refine mayAnswer_at (execCycCntclr_answers ..) ?_
  refine mayAnswer_at (execAxisCapture_answers ..) ?_
  refine mayAnswer_at (execFixgo_answers ..) ?_
  refine mayAnswer_at (execSeclr_answers ..) ?_
  refine mayAnswer_at (execOfsgo_answers ..) ?_
  refine mayAnswer_at (execTmbCapgo_answers ..) ?_
  refine mayAnswer_at (execRestep_answers ..) ?_
  exact mayAnswer_none

theorem State.ioCmd_answers (s : State) (who : Init) (p o : Nat) (v : Word) (ext : BitVec 48) :
    MayAnswer s.agenda (State.ioCmd s who p o v ext) := by
  unfold State.ioCmd
  refine mayAnswer_at (execLivegrab_answers ..) ?_
  refine mayAnswer_at (execXclr_answers ..) ?_
  refine mayAnswer_at (execPadCapgo_answers ..) ?_
  refine mayAnswer_at (execPreCntclr_answers ..) ?_
  refine mayAnswer_at (execOuttest_answers ..) ?_
  refine mayAnswer_at (execPreOutCntclr_answers ..) ?_
  refine mayAnswer_at (execWearclr_answers ..) ?_
  refine mayAnswer_at (execMlcmd_answers ..) ?_
  refine mayAnswer_at (answers_ite (execGrpcmdUnseal_answers ..) (execGrpcmdSeal_answers ..)) ?_
  refine mayAnswer_at (execTrgnow_answers ..) ?_
  refine mayAnswer_at (execDrcCntclr_answers ..) ?_
  refine mayAnswer_at ?_ ?_
  · split
    · exact execExpcmdHdr_answers ..
    · exact execExpcmdDat_answers ..
    · exact execExpcmdCfg_answers ..
  refine mayAnswer_at ?_ ?_
  · split
    · exact execArcmdUnprotect_answers ..
    · exact execArcmdDelete_answers ..
    · exact execArcmdRelease_answers ..
    · exact execArcmdRetry_answers ..
    · exact execArcmdProtect_answers ..
  refine mayAnswer_ite ?_ ?_
  · refine mayAnswer_at (execConvreq_answers ..) ?_
    refine mayAnswer_at (answers_ite (execSeqcmdStop_answers ..) (execSeqcmdGo_answers ..)) ?_
    refine mayAnswer_at (execSarCntclr_answers ..) ?_
    exact mayAnswer_some (execChkclr_answers ..)
  refine mayAnswer_at (execDioFltclr_answers ..) ?_
  refine mayAnswer_at (execLogclr_answers ..) ?_
  refine mayAnswer_at (execSfnFltclr_answers ..) ?_
  refine mayAnswer_at (execLoopFltclr_answers ..) ?_
  refine mayAnswer_at (execLoopCntclr_answers ..) ?_
  exact mayAnswer_none

theorem State.netCmd_answers (s : State) (who : Init) (p o : Nat) (v : Word) :
    MayAnswer s.agenda (State.netCmd s who p o v) := by
  unfold State.netCmd
  refine mayAnswer_ite ?_ ?_
  · refine mayAnswer_at (execCancmdRecover_answers ..) ?_
    refine mayAnswer_at ?_ ?_
    · split
      · exact execTxcmdCancel_answers ..
      · exact execTxcmdLoad_answers ..
      · exact execTxcmdSend_answers ..
    refine mayAnswer_at (execRxqrel_answers ..) ?_
    refine mayAnswer_at (execCanCntclr_answers ..) ?_
    exact mayAnswer_none
  refine mayAnswer_at (execTxtailWrite_answers ..) ?_
  refine mayAnswer_at (execRxtailWrite_answers ..) ?_
  refine mayAnswer_at (execRingerrClear_answers ..) ?_
  refine mayAnswer_at (execGwyCntclr_answers ..) ?_
  refine mayAnswer_at (execHrbCntclr_answers ..) ?_
  refine mayAnswer_at (execEvrFlushCmd_answers ..) ?_
  refine mayAnswer_at (answers_ite (execClrcmdArm_answers ..) (execClrcmdClear_answers ..)) ?_
  refine mayAnswer_at (execEvrCntclr_answers ..) ?_
  refine mayAnswer_at (execRdgo_answers ..) ?_
  refine mayAnswer_at (execSwgo_answers ..) ?_
  refine mayAnswer_at (answers_ite (execCntcmdReset_answers ..) (execCntcmdAdd_answers ..)) ?_
  refine mayAnswer_at (execCalgo_answers ..) ?_
  refine mayAnswer_at ?_ ?_
  · split
    · exact execUpdcmdChunk_answers ..
    · exact execUpdcmdClose_answers ..
    · exact execUpdcmdAbort_answers ..
    · exact execUpdcmdAbortother_answers ..
    · exact execUpdcmdOpen_answers ..
  refine mayAnswer_at ?_ ?_
  · split
    · exact execActcmdNow_answers ..
    · exact execActcmdCancel_answers ..
    · exact execActcmdConfirm_answers ..
    · exact execActcmdSchedule_answers ..
  refine mayAnswer_at (execMgtCntclr_answers ..) ?_
  refine mayAnswer_at (execPrimcmdRelease_answers ..) ?_
  refine mayAnswer_ite ?_ ?_
  · refine mayAnswer_at (execOvfClear_answers ..) ?_
    refine mayAnswer_at (execPmcSnap_answers ..) ?_
    refine mayAnswer_at (execPmcCntclr_answers ..) ?_
    exact mayAnswer_none
  exact mayAnswer_none

@[simp] theorem State.regStore_agenda (s : State) (who : Init) (p o : Nat) (v : Word) (ext : BitVec 48) :
    (s.regStore who p o v ext).agenda = s.agenda := by
  unfold State.regStore
  dsimp only
  split
  next r h => exact State.after_agenda _ _ (State.headCmd_answers _ _ _ _ _ _ _ h)
  split
  next r h => exact State.after_agenda _ _ (State.coreCmd_answers _ _ _ _ _ _ h)
  split
  next r h => exact State.after_agenda _ _ (State.ioCmd_answers _ _ _ _ _ _ _ h)
  split
  next r h => exact State.after_agenda _ _ (State.netCmd_answers _ _ _ _ _ _ h)
  exact State.after_agenda _ _ (answers_ite (execWideLoWrite_answers ..) <| answers_ite (execWideHiWrite_answers ..)
    (execRegisterWrite_answers ..))

@[simp] theorem State.regAccess_agenda (s : State) (who : Init) (x x4 : Nat) (op : BusOp) (ext : BitVec 48) :
    (s.regAccess who x x4 op ext).agenda = s.agenda := by
  unfold State.regAccess
  cases op <;> simp

@[simp] theorem State.canMem_agenda (s : State) (who : Init) (a c o x6 : Nat) (op : BusOp) :
    (s.canMem who a c o x6 op).agenda = s.agenda := by
  unfold State.canMem
  repeat' split
  all_goals simp

@[simp] theorem State.preMemRead_agenda (s : State) (o x3 : Nat) : (s.preMemRead o x3).2.agenda = s.agenda := by
  simp [State.preMemRead]

@[simp] theorem State.preMemAccess_agenda (s : State) (who : Init) (a o x5 : Nat) (op : BusOp) :
    (s.preMemAccess who a o x5 op).agenda = s.agenda := by
  unfold State.preMemAccess
  repeat' split
  · rfl
  · simp
  · simp
  · exact State.after_agenda _ _ (execPreMemoryWrite_answers ..)
  · simp

@[simp] theorem State.upset2_agenda (s : State) (o : Nat) (ecc : BitVec 16) : (s.upset2 o ecc).agenda = s.agenda := by
  simp [State.upset2]

@[simp] theorem State.ringAccess_agenda (s : State) (who : Init) (a o x5 : Nat) (op : BusOp) (ecc : BitVec 16) :
    (s.ringAccess who a o x5 op ecc).agenda = s.agenda := by
  unfold State.ringAccess
  dsimp only
  repeat' split
  all_goals simp

@[simp] theorem State.reserve_agenda (s : State) (who : Init) (a x4 : Nat) : (s.reserve who a x4).agenda = s.agenda := by
  simp [State.reserve]

@[simp] theorem State.scWins_agenda (s : State) (who : Init) (a x4 : Nat) : (s.scWins who a x4).2.agenda = s.agenda := by
  simp [State.scWins]

@[simp] theorem State.memOp_agenda (s : State) (who : Init) (a x4 : Nat) (op : BusOp) (old : Nat)
    (put : State → Nat → State) (hput : ∀ y0 y1, (put y0 y1).agenda = y0.agenda) :
    (s.memOp who a x4 op old put).agenda = s.agenda := by
  unfold State.memOp
  simp
  repeat' split
  all_goals simp [*]

@[simp] theorem State.sramWrite_agenda (s : State) (dsec : Bool) (lane o : Nat) (bs : List Nat) :
    (s.sramWrite dsec lane o bs).agenda = s.agenda := by simp [State.sramWrite]

@[simp] theorem State.sramAccess_agenda (s : State) (who : Init) (a o x5 : Nat) (op : BusOp) :
    (s.sramAccess who a o x5 op).agenda = s.agenda := by
  unfold State.sramAccess
  split <;> simp

@[simp] theorem State.poisonHit_agenda (s : State) (who : Init) (x3 w x : Nat) (store : Bool) :
    (s.poisonHit who x3 w x store).agenda = s.agenda := by simp [State.poisonHit]

@[simp] theorem State.dramAccess_agenda (s : State) (who : Init) (a o x5 : Nat) (op : BusOp) (ecc : BitVec 16) :
    (s.dramAccess who a o x5 op ecc).agenda = s.agenda := by
  unfold State.dramAccess
  dsimp only
  repeat' split
  all_goals simp

@[simp] theorem State.busIssue_agenda (s : State) (who : Init) (a x4 : Nat) (op : BusOp) (ecc : BitVec 16)
    (ext : BitVec 48) :
    (s.busIssue who a x4 op ecc ext).agenda = s.agenda := by
  unfold State.busIssue
  split <;> simp

@[simp] theorem State.busAccess_agenda (s : State) (who : Init) (a x4 : Nat) (op : BusOp) (ecc : BitVec 16)
    (v : TriVote) (ext : BitVec 48) :
    (s.busAccess who a x4 op ecc v ext).agenda = s.agenda := by
  unfold State.busAccess
  repeat' split
  all_goals simp

theorem execLaneMemoryAccess_answers (dt : Nat) (who : Init) (a : BitVec 40) (w : Fin 4) (op : BusOp) (ecc : BitVec 16)
    (v : TriVote) (ext : BitVec 48) (s : State) :
    Answers (s.elapse dt).agenda (execLaneMemoryAccess dt who a w op ecc v ext s) := onMain_answers fun u => by simp

/-! ### The queue and the ticks after the operations of Start.lean -/

@[simp] theorem State.evrStart_agenda (s : State) (bad : List Nat) : (s.evrStart bad).agenda = s.agenda := by
  simp [State.evrStart]

@[simp] theorem State.timeStart_agenda (s : State) : s.timeStart.agenda = s.agenda := by simp [State.timeStart]

@[simp] theorem State.heldRecord_agenda (s : State) : s.heldRecord.agenda = s.agenda := by simp [State.heldRecord]

@[simp] theorem State.toStage_agenda (s : State) (st : Nat) : (s.toStage st).agenda = s.agenda := by simp [State.toStage]

@[simp] theorem State.recovery_agenda (s : State) (result item : Nat) : (s.recovery result item).agenda = s.agenda := by
  simp [State.recovery]

@[simp] theorem State.fuseCheck_agenda (s : State) (bad : Bool) (cal : List Word) :
    (s.fuseCheck bad cal).agenda = s.agenda := by simp [State.fuseCheck]

@[simp] theorem State.bootRom_agenda (s : State) (x2 : Boot) :
    (s.bootRom x2).agenda = s.agenda := by simp [State.bootRom]

@[simp] theorem State.bootLoader_agenda (s : State) (x2 : Boot) : (s.bootLoader x2).agenda = s.agenda := by
  simp [State.bootLoader]

@[simp] theorem State.bootMem_agenda (s : State) (x2 : Boot) :
    (s.bootMem x2).agenda = s.agenda := by simp [State.bootMem]

@[simp] theorem State.slotLoad_agenda (s : State) (k : Nat) (c : BootCfg) : (s.slotLoad k c).agenda = s.agenda := by
  unfold State.slotLoad
  split <;> simp

@[simp] theorem State.bootCopy_agenda (s : State) (x2 : Boot) : (s.bootCopy x2).agenda = s.agenda := by
  unfold State.bootCopy
  split <;> simp

theorem State.pickImage_agenda (s : State) (x2 : Boot) {t}
    (h : State.pickImage s x2 = some t) : t.agenda = s.agenda := by
  unfold State.pickImage at h
  dsimp only at h
  split at h
  · split at h
    · obtain rfl := Option.some.inj h
      simp
    · cases h
  · obtain rfl := Option.some.inj h
    split <;> simp

@[simp] theorem State.bootReg_agenda (s : State) (x v : Nat) : (s.bootReg x v).agenda = s.agenda := by
  unfold State.bootReg
  repeat' split
  all_goals simp

@[simp] theorem State.putEntries_agenda (s : State) (ps : List Nat) (m : Nat) :
    (s.putEntries ps m).agenda = s.agenda := by
  simp [State.putEntries]

@[simp] theorem State.putOwners_agenda (s : State) (x2 : List (Nat × Nat)) : (s.putOwners x2).1.agenda = s.agenda := by
  induction x2 generalizing s with
  | nil => rfl
  | cons e l ih =>
    unfold State.putOwners
    repeat' split
    all_goals simp [ih]

@[simp] theorem State.fixedOwners_agenda (s : State) : s.fixedOwners.agenda = s.agenda := by
  unfold State.fixedOwners
  refine (agenda_forN _ _ (fun n t => by split <;> simp) _).trans (agenda_forN _ _ (fun k t => ?_) _)
  generalize (if t.split k then _ else _ : Option Nat) = n
  cases n <;> simp

@[simp] theorem State.hostSize_agenda (s : State) : s.hostSize.agenda = s.agenda := by simp [State.hostSize]

@[simp] theorem State.bootLock_agenda (s : State) (p : Nat) (dig : Option Nat) :
    (s.bootLock p dig).1.agenda = s.agenda := by
  simp [State.bootLock]

@[simp] theorem State.bootLocks_agenda (s : State) (x2 : List (Nat × Option Nat)) :
    (s.bootLocks x2).1.agenda = s.agenda := by
  induction x2 generalizing s with
  | nil => rfl
  | cons e l ih =>
    have hl := State.bootLock_agenda s e.1 e.2
    unfold State.bootLocks
    split
    · exact ih _
    · split
      next t h => rw [ih, ← hl, h]
      next => exact hl

@[simp] theorem State.putSettings_agenda (s : State) (p : Nat) (l : List (Nat × Nat)) :
    (s.putSettings p l).agenda = s.agenda := by
  unfold State.putSettings
  split
  · rfl
  · dsimp only
    simp only [agenda_ite, State.applyGroup_agenda, State.refuseCommit_agenda, ite_self]
    refine agenda_forL _ _ (fun e t => ?_) _
    repeat' split
    all_goals simp

@[simp] theorem State.writeConfig_agenda (s : State) (x2 : Boot) : (s.writeConfig x2).1.agenda = s.agenda := by
  unfold State.writeConfig
  dsimp only
  split
  · simp
  · generalize ho : State.putOwners _ _ = o
    have hown : o.1.agenda = s.agenda := by simp [← ho]
    obtain ⟨u, _ | e⟩ := o
    · dsimp only
      split
      · exact hown
      · simp [hown]
    · exact hown

@[simp] theorem State.lifeLoad_agenda (s : State) (k : Nat) : (s.lifeLoad k).agenda = s.agenda := by
  unfold State.lifeLoad
  split <;> simp

@[simp] theorem State.bootConfig_agenda (s : State) (x2 : Boot) : (s.bootConfig x2).agenda = s.agenda := by
  unfold State.bootConfig
  split
  · simp
  next t ht =>
    have hcfg := State.writeConfig_agenda t x2
    have hpick := State.pickImage_agenda s x2 ht
    split
    next u e h => simp [hpick]
    next u h =>
      rw [h] at hcfg
      simp [hcfg, hpick]

@[simp] theorem State.startParts_agenda (s : State) (x2 : BitVec 8) : (s.startParts x2).agenda = s.agenda := by
  unfold State.startParts
  rw [State.rdnEval_agenda]
  refine (agenda_forN _ _ (fun n t => by split <;> simp) _).trans (agenda_forN _ _ (fun k t => ?_) _)
  dsimp only
  repeat' split
  all_goals simp

@[simp] theorem State.bankStart_agenda (s : State) (x2 : BitVec 8) : (s.bankStart x2).agenda = s.agenda := by
  simp [State.bankStart]

@[simp] theorem State.bootLocked_agenda (s : State) (x2 : Boot) : (s.bootLocked x2).agenda = s.agenda := by
  simp [State.bootLocked]

@[simp] theorem State.bootRun_agenda (s : State) (x2 : Boot) :
    (s.bootRun x2).agenda = s.agenda := by simp [State.bootRun]

theorem agenda_elapse_add {s t : State} {d : Nat} (h : t.agenda = (s.elapse d).agenda) (n : Nat) :
    (t.elapse n).agenda = (s.elapse (d + n)).agenda := by
  obtain ⟨hqueue, hticks⟩ := Prod.ext_iff.mp h
  exact Prod.ext hqueue ((congrArg (· + n) hticks).trans (Nat.add_assoc ..))

/-- A start of the main domain lets the time of its boot stages pass as well. -/
theorem execMainDomainStart_answers (dt : Nat) (x2 : Boot) (s : State) :
    ∃ d, Answers (s.elapse d).agenda (execMainDomainStart dt x2 s) := by
  have hrun (t : State) (h : t.agenda = (s.elapse dt).agenda) :
      ((t.elapse (100000 * x2.ms)).bootRun x2).msixSend.agenda = (s.elapse (dt + 100000 * x2.ms)).agenda := by
    rw [State.msixSend_agenda, State.bootRun_agenda, agenda_elapse_add h]
  unfold execMainDomainStart guarded always
  split
  · dsimp only
    split
    · split
      · exact ⟨_, answers_next (hrun _ (State.bootRom_agenda ..))⟩
      · exact ⟨dt, answers_next (by simp)⟩
    · split
      · exact ⟨_, answers_next (hrun _ rfl)⟩
      · exact ⟨dt, answers_next (State.msixSend_agenda _)⟩
  · exact ⟨dt, answers_next rfl⟩

theorem execBankok_answers (dt : Nat) (cap : BitVec 16) (halves : BitVec 8) (s : State) :
    Answers (s.elapse dt).agenda (execBankok dt cap halves s) := always_answers fun u => by simp

theorem execHufault_answers (dt : Nat) (halves : BitVec 8) (s : State) :
    Answers (s.elapse dt).agenda (execHufault dt halves s) := always_answers fun u => by simp

end Sys2Proof.Machine

namespace Sys2Proof.Machine

/-! ### No command stops the block -/

/-- Every command answers a next state; the queue is as before, and only time has passed. -/
theorem exec_answers (c : Instr) (s : State) : ∃ d, Answers (s.elapse d).agenda (exec c s) := by
  cases c with
  | clockFault => exact ⟨_, execClockFault_answers ..⟩
  | clockRestart => exact ⟨_, execClockRestart_answers ..⟩
  | laneMemoryAccess => exact ⟨_, execLaneMemoryAccess_answers ..⟩
  | registerWrite => exact ⟨_, execRegisterWrite_answers ..⟩
  | hostlinkDown => exact ⟨_, execHostlinkDown_answers ..⟩
  | hostlinkUp => exact ⟨_, execHostlinkUp_answers ..⟩
  | perstAssert => exact ⟨_, execPerstAssert_answers ..⟩
  | perstRelease => exact ⟨_, execPerstRelease_answers ..⟩
  | presetWrite => exact ⟨_, execPresetWrite_answers ..⟩
  | partitionReset => exact ⟨_, execPartitionReset_answers ..⟩
  | ownerWrite => exact ⟨_, execOwnerWrite_answers ..⟩
  | lockWrite => exact ⟨_, execLockWrite_answers ..⟩
  | evackWrite => exact ⟨_, execEvackWrite_answers ..⟩
  | errclrWrite => exact ⟨_, execErrclrWrite_answers ..⟩
  | cmtGo => exact ⟨_, execCmtGo_answers ..⟩
  | cmtAbort => exact ⟨_, execCmtAbort_answers ..⟩
  | pageCommitApply => exact ⟨_, execPageCommitApply_answers ..⟩
  | ownkWrite => exact ⟨_, execOwnkWrite_answers ..⟩
  | grantkWrite => exact ⟨_, execGrantkWrite_answers ..⟩
  | denypop => exact ⟨_, execDenypop_answers ..⟩
  | wideLoRead => exact ⟨_, execWideLoRead_answers ..⟩
  | wideLoWrite => exact ⟨_, execWideLoWrite_answers ..⟩
  | wideHiWrite => exact ⟨_, execWideHiWrite_answers ..⟩
  | axisMeasurement => exact ⟨_, execAxisMeasurement_answers ..⟩
  | axisAcquired => exact ⟨_, execAxisAcquired_answers ..⟩
  | axisLoss => exact ⟨_, execAxisLoss_answers ..⟩
  | axisHoldRecover => exact ⟨_, execAxisHoldRecover_answers ..⟩
  | axisHoldExpired => exact ⟨_, execAxisHoldExpired_answers ..⟩
  | axisFrozenRecover => exact ⟨_, execAxisFrozenRecover_answers ..⟩
  | axisTick => exact ⟨_, execAxisTick_answers ..⟩
  | scheduleEntryFire => exact ⟨_, execScheduleEntryFire_answers ..⟩
  | hiddenTargetMissed => exact ⟨_, execHiddenTargetMissed_answers ..⟩
  | encoderLineFault => exact ⟨_, execEncoderLineFault_answers ..⟩
  | encoderZPulse => exact ⟨_, execEncoderZPulse_answers ..⟩
  | ssiFrame => exact ⟨_, execSsiFrame_answers ..⟩
  | fixgo => exact ⟨_, execFixgo_answers ..⟩
  | axisCapture => exact ⟨_, execAxisCapture_answers ..⟩
  | seclr => exact ⟨_, execSeclr_answers ..⟩
  | fireflyStrobe => exact ⟨_, execFireflyStrobe_answers ..⟩
  | fireflyPps => exact ⟨_, execFireflyPps_answers ..⟩
  | fireflyPulseEnd => exact ⟨_, execFireflyPulseEnd_answers ..⟩
  | fireflyReadback => exact ⟨_, execFireflyReadback_answers ..⟩
  | scarabSelftest => exact ⟨_, execScarabSelftest_answers ..⟩
  | stnow => exact ⟨_, execStnow_answers ..⟩
  | stateAudit => exact ⟨_, execStateAudit_answers ..⟩
  | interruptArrival => exact ⟨_, execInterruptArrival_answers ..⟩
  | interruptTaken => exact ⟨_, execInterruptTaken_answers ..⟩
  | reintegration => exact ⟨_, execReintegration_answers ..⟩
  | lanecmdFence => exact ⟨_, execLanecmdFence_answers ..⟩
  | nvSnap => exact ⟨_, execNvSnap_answers ..⟩
  | nvCommit => exact ⟨_, execNvCommit_answers ..⟩
  | nvAbort => exact ⟨_, execNvAbort_answers ..⟩
  | nvDstat => exact ⟨_, execNvDstat_answers ..⟩
  | nvRbase => exact ⟨_, execNvRbase_answers ..⟩
  | nvRmark => exact ⟨_, execNvRmark_answers ..⟩
  | nvRstat => exact ⟨_, execNvRstat_answers ..⟩
  | laneUncorrectableError => exact ⟨_, execLaneUncorrectableError_answers ..⟩
  | laneCorrectableError => exact ⟨_, execLaneCorrectableError_answers ..⟩
  | laneScrub => exact ⟨_, execLaneScrub_answers ..⟩
  | dramScrub => exact ⟨_, execDramScrub_answers ..⟩
  | dramTempPoll => exact ⟨_, execDramTempPoll_answers ..⟩
  | ceWindowEnd => exact ⟨_, execCeWindowEnd_answers ..⟩
  | memCntclr => exact ⟨_, execMemCntclr_answers ..⟩
  | elnext => exact ⟨_, execElnext_answers ..⟩
  | startCold => exact ⟨_, execStartCold_answers ..⟩
  | startWarm => exact ⟨_, execStartWarm_answers ..⟩
  | stop => exact ⟨_, execStop_answers ..⟩
  | chgload => exact ⟨_, execChgload_answers ..⟩
  | loaddone => exact ⟨_, execLoaddone_answers ..⟩
  | chgarm => exact ⟨_, execChgarm_answers ..⟩
  | chgabort => exact ⟨_, execChgabort_answers ..⟩
  | groupcmt => exact ⟨_, execGroupcmt_answers ..⟩
  | cycStartComplete => exact ⟨_, execCycStartComplete_answers ..⟩
  | snapshotInstant => exact ⟨_, execSnapshotInstant_answers ..⟩
  | snapshotDelivery => exact ⟨_, execSnapshotDelivery_answers ..⟩
  | commitComplete => exact ⟨_, execCommitComplete_answers ..⟩
  | watchdogExpiry => exact ⟨_, execWatchdogExpiry_answers ..⟩
  | retainedSave => exact ⟨_, execRetainedSave_answers ..⟩
  | changeApply => exact ⟨_, execChangeApply_answers ..⟩
  | cycCntclr => exact ⟨_, execCycCntclr_answers ..⟩
  | gridTick => exact ⟨_, execGridTick_answers ..⟩
  | sampleSetDelivery => exact ⟨_, execSampleSetDelivery_answers ..⟩
  | modulatorFault => exact ⟨_, execModulatorFault_answers ..⟩
  | settled => exact ⟨_, execSettled_answers ..⟩
  | livegrab => exact ⟨_, execLivegrab_answers ..⟩
  | xclr => exact ⟨_, execXclr_answers ..⟩
  | padCapgo => exact ⟨_, execPadCapgo_answers ..⟩
  | capdone => exact ⟨_, execCapdone_answers ..⟩
  | engineTick => exact ⟨_, execEngineTick_answers ..⟩
  | tripPulseStart => exact ⟨_, execTripPulseStart_answers ..⟩
  | tripPulseEnd => exact ⟨_, execTripPulseEnd_answers ..⟩
  | closePulseStart => exact ⟨_, execClosePulseStart_answers ..⟩
  | closePulseEnd => exact ⟨_, execClosePulseEnd_answers ..⟩
  | tcsflt => exact ⟨_, execTcsflt_answers ..⟩
  | drvflt => exact ⟨_, execDrvflt_answers ..⟩
  | tfail => exact ⟨_, execTfail_answers ..⟩
  | breakerCurrentLow => exact ⟨_, execBreakerCurrentLow_answers ..⟩
  | grpcmdSeal => exact ⟨_, execGrpcmdSeal_answers ..⟩
  | groupSealDone => exact ⟨_, execGroupSealDone_answers ..⟩
  | grpcmdUnseal => exact ⟨_, execGrpcmdUnseal_answers ..⟩
  | outtest => exact ⟨_, execOuttest_answers ..⟩
  | preCntclr => exact ⟨_, execPreCntclr_answers ..⟩
  | preOutCntclr => exact ⟨_, execPreOutCntclr_answers ..⟩
  | wearclr => exact ⟨_, execWearclr_answers ..⟩
  | mlcmd => exact ⟨_, execMlcmd_answers ..⟩
  | preMemoryWrite => exact ⟨_, execPreMemoryWrite_answers ..⟩
  | preMemoryUe => exact ⟨_, execPreMemoryUe_answers ..⟩
  | drcTrigger => exact ⟨_, execDrcTrigger_answers ..⟩
  | trgnow => exact ⟨_, execTrgnow_answers ..⟩
  | archiveCopyStart => exact ⟨_, execArchiveCopyStart_answers ..⟩
  | archdone => exact ⟨_, execArchdone_answers ..⟩
  | archIo => exact ⟨_, execArchIo_answers ..⟩
  | arcmdProtect => exact ⟨_, execArcmdProtect_answers ..⟩
  | arcmdUnprotect => exact ⟨_, execArcmdUnprotect_answers ..⟩
  | arcmdDelete => exact ⟨_, execArcmdDelete_answers ..⟩
  | arcmdRelease => exact ⟨_, execArcmdRelease_answers ..⟩
  | arcmdRetry => exact ⟨_, execArcmdRetry_answers ..⟩
  | expcmdCfg => exact ⟨_, execExpcmdCfg_answers ..⟩
  | expcmdHdr => exact ⟨_, execExpcmdHdr_answers ..⟩
  | expcmdDat => exact ⟨_, execExpcmdDat_answers ..⟩
  | expdone => exact ⟨_, execExpdone_answers ..⟩
  | drcCntclr => exact ⟨_, execDrcCntclr_answers ..⟩
  | sarTrigger => exact ⟨_, execSarTrigger_answers ..⟩
  | seqcmdGo => exact ⟨_, execSeqcmdGo_answers ..⟩
  | seqcmdStop => exact ⟨_, execSeqcmdStop_answers ..⟩
  | sarConversion => exact ⟨_, execSarConversion_answers ..⟩
  | convreq => exact ⟨_, execConvreq_answers ..⟩
  | sarReady => exact ⟨_, execSarReady_answers ..⟩
  | sarFallback => exact ⟨_, execSarFallback_answers ..⟩
  | sarFallbackPass => exact ⟨_, execSarFallbackPass_answers ..⟩
  | chkclr => exact ⟨_, execChkclr_answers ..⟩
  | sarCntclr => exact ⟨_, execSarCntclr_answers ..⟩
  | diRawEdge => exact ⟨_, execDiRawEdge_answers ..⟩
  | diEdgeAccept => exact ⟨_, execDiEdgeAccept_answers ..⟩
  | eqpop => exact ⟨_, execEqpop_answers ..⟩
  | ovld => exact ⟨_, execOvld_answers ..⟩
  | doOpenLoad => exact ⟨_, execDoOpenLoad_answers ..⟩
  | pwmPeriodStart => exact ⟨_, execPwmPeriodStart_answers ..⟩
  | pwmOffEdge => exact ⟨_, execPwmOffEdge_answers ..⟩
  | rbflt => exact ⟨_, execRbflt_answers ..⟩
  | stuckLatch => exact ⟨_, execStuckLatch_answers ..⟩
  | testPulseStart => exact ⟨_, execTestPulseStart_answers ..⟩
  | testPulseEnd => exact ⟨_, execTestPulseEnd_answers ..⟩
  | fswarn => exact ⟨_, execFswarn_answers ..⟩
  | fswarnClear => exact ⟨_, execFswarnClear_answers ..⟩
  | fslowLatch => exact ⟨_, execFslowLatch_answers ..⟩
  | fsok => exact ⟨_, execFsok_answers ..⟩
  | dioFltclr => exact ⟨_, execDioFltclr_answers ..⟩
  | logclr => exact ⟨_, execLogclr_answers ..⟩
  | sfnEvaluation => exact ⟨_, execSfnEvaluation_answers ..⟩
  | discrep => exact ⟨_, execDiscrep_answers ..⟩
  | twohandTimeout => exact ⟨_, execTwohandTimeout_answers ..⟩
  | edmFault => exact ⟨_, execEdmFault_answers ..⟩
  | rststuck => exact ⟨_, execRststuck_answers ..⟩
  | sfnFltclr => exact ⟨_, execSfnFltclr_answers ..⟩
  | loopScan => exact ⟨_, execLoopScan_answers ..⟩
  | compl => exact ⟨_, execCompl_answers ..⟩
  | loopOpen => exact ⟨_, execLoopOpen_answers ..⟩
  | rbhigh => exact ⟨_, execRbhigh_answers ..⟩
  | prot => exact ⟨_, execProt_answers ..⟩
  | limiterReclose => exact ⟨_, execLimiterReclose_answers ..⟩
  | miswire => exact ⟨_, execMiswire_answers ..⟩
  | loopFltclr => exact ⟨_, execLoopFltclr_answers ..⟩
  | loopCntclr => exact ⟨_, execLoopCntclr_answers ..⟩
  | canIntegrated => exact ⟨_, execCanIntegrated_answers ..⟩
  | canFrameReceived => exact ⟨_, execCanFrameReceived_answers ..⟩
  | canError => exact ⟨_, execCanError_answers ..⟩
  | busoffRecovery => exact ⟨_, execBusoffRecovery_answers ..⟩
  | cancmdRecover => exact ⟨_, execCancmdRecover_answers ..⟩
  | txcmdSend => exact ⟨_, execTxcmdSend_answers ..⟩
  | txcmdCancel => exact ⟨_, execTxcmdCancel_answers ..⟩
  | txcmdLoad => exact ⟨_, execTxcmdLoad_answers ..⟩
  | canTxTimer => exact ⟨_, execCanTxTimer_answers ..⟩
  | canTxStart => exact ⟨_, execCanTxStart_answers ..⟩
  | canArbitrationLost => exact ⟨_, execCanArbitrationLost_answers ..⟩
  | canTxComplete => exact ⟨_, execCanTxComplete_answers ..⟩
  | txtspop => exact ⟨_, execTxtspop_answers ..⟩
  | rxqrel => exact ⟨_, execRxqrel_answers ..⟩
  | canWake => exact ⟨_, execCanWake_answers ..⟩
  | ttReferenceAttempt => exact ⟨_, execTtReferenceAttempt_answers ..⟩
  | ttTrigger => exact ⟨_, execTtTrigger_answers ..⟩
  | ttReferenceReceived => exact ⟨_, execTtReferenceReceived_answers ..⟩
  | ttWatchExpiry => exact ⟨_, execTtWatchExpiry_answers ..⟩
  | canCntclr => exact ⟨_, execCanCntclr_answers ..⟩
  | ofsgo => exact ⟨_, execOfsgo_answers ..⟩
  | syncinPulse => exact ⟨_, execSyncinPulse_answers ..⟩
  | syncinMissing => exact ⟨_, execSyncinMissing_answers ..⟩
  | timeStep => exact ⟨_, execTimeStep_answers ..⟩
  | holdover => exact ⟨_, execHoldover_answers ..⟩
  | tmbCapgo => exact ⟨_, execTmbCapgo_answers ..⟩
  | restep => exact ⟨_, execRestep_answers ..⟩
  | leapSecond => exact ⟨_, execLeapSecond_answers ..⟩
  | ethFrameReceived => exact ⟨_, execEthFrameReceived_answers ..⟩
  | ethLinkChange => exact ⟨_, execEthLinkChange_answers ..⟩
  | txtailWrite => exact ⟨_, execTxtailWrite_answers ..⟩
  | rxtailWrite => exact ⟨_, execRxtailWrite_answers ..⟩
  | ethTxComplete => exact ⟨_, execEthTxComplete_answers ..⟩
  | ringerrClear => exact ⟨_, execRingerrClear_answers ..⟩
  | ethLaunch => exact ⟨_, execEthLaunch_answers ..⟩
  | gateListEntry => exact ⟨_, execGateListEntry_answers ..⟩
  | gateListSwitch => exact ⟨_, execGateListSwitch_answers ..⟩
  | fdbAgeOut => exact ⟨_, execFdbAgeOut_answers ..⟩
  | prpLanMissing => exact ⟨_, execPrpLanMissing_answers ..⟩
  | prpEntryExpiry => exact ⟨_, execPrpEntryExpiry_answers ..⟩
  | pdTxLaunch => exact ⟨_, execPdTxLaunch_answers ..⟩
  | pdRxTimeout => exact ⟨_, execPdRxTimeout_answers ..⟩
  | tspop => exact ⟨_, execTspop_answers ..⟩
  | gwySignalWrite => exact ⟨_, execGwySignalWrite_answers ..⟩
  | gwyStale => exact ⟨_, execGwyStale_answers ..⟩
  | gwyCntclr => exact ⟨_, execGwyCntclr_answers ..⟩
  | hrbWindowAccess => exact ⟨_, execHrbWindowAccess_answers ..⟩
  | hrbCycleStart => exact ⟨_, execHrbCycleStart_answers ..⟩
  | hrbCardReply => exact ⟨_, execHrbCardReply_answers ..⟩
  | hrbCycleTimeout => exact ⟨_, execHrbCycleTimeout_answers ..⟩
  | hrbResetEnd => exact ⟨_, execHrbResetEnd_answers ..⟩
  | wackResume => exact ⟨_, execWackResume_answers ..⟩
  | wackFlush => exact ⟨_, execWackFlush_answers ..⟩
  | pollReadDue => exact ⟨_, execPollReadDue_answers ..⟩
  | atnAccept => exact ⟨_, execAtnAccept_answers ..⟩
  | hrbCntclr => exact ⟨_, execHrbCntclr_answers ..⟩
  | evrFlush => exact ⟨_, execEvrFlush_answers ..⟩
  | evrFlushDone => exact ⟨_, execEvrFlushDone_answers ..⟩
  | evrFlushCmd => exact ⟨_, execEvrFlushCmd_answers ..⟩
  | rdgo => exact ⟨_, execRdgo_answers ..⟩
  | evrReadDone => exact ⟨_, execEvrReadDone_answers ..⟩
  | swgo => exact ⟨_, execSwgo_answers ..⟩
  | clrcmdArm => exact ⟨_, execClrcmdArm_answers ..⟩
  | clrcmdClear => exact ⟨_, execClrcmdClear_answers ..⟩
  | evrClearDone => exact ⟨_, execEvrClearDone_answers ..⟩
  | evrCntclr => exact ⟨_, execEvrCntclr_answers ..⟩
  | lifeSecond => exact ⟨_, execLifeSecond_answers ..⟩
  | lifeSave => exact ⟨_, execLifeSave_answers ..⟩
  | cntcmdAdd => exact ⟨_, execCntcmdAdd_answers ..⟩
  | cntcmdReset => exact ⟨_, execCntcmdReset_answers ..⟩
  | calendarDiscipline => exact ⟨_, execCalendarDiscipline_answers ..⟩
  | calgo => exact ⟨_, execCalgo_answers ..⟩
  | calendarStop => exact ⟨_, execCalendarStop_answers ..⟩
  | primInChange => exact ⟨_, execPrimInChange_answers ..⟩
  | primacyClaim => exact ⟨_, execPrimacyClaim_answers ..⟩
  | primacyHeld => exact ⟨_, execPrimacyHeld_answers ..⟩
  | primacyConflict => exact ⟨_, execPrimacyConflict_answers ..⟩
  | primcmdRelease => exact ⟨_, execPrimcmdRelease_answers ..⟩
  | primacyRelease => exact ⟨_, execPrimacyRelease_answers ..⟩
  | heartbeatSend => exact ⟨_, execHeartbeatSend_answers ..⟩
  | heartbeatReceived => exact ⟨_, execHeartbeatReceived_answers ..⟩
  | heartbeatTimeout => exact ⟨_, execHeartbeatTimeout_answers ..⟩
  | checkpointSendDone => exact ⟨_, execCheckpointSendDone_answers ..⟩
  | checkpointReceived => exact ⟨_, execCheckpointReceived_answers ..⟩
  | standbyLaneTest => exact ⟨_, execStandbyLaneTest_answers ..⟩
  | mgtIdent => exact ⟨_, execMgtIdent_answers ..⟩
  | mgtHealth => exact ⟨_, execMgtHealth_answers ..⟩
  | mgtReadpage => exact ⟨_, execMgtReadpage_answers ..⟩
  | mgtReadevr => exact ⟨_, execMgtReadevr_answers ..⟩
  | mgtReadlife => exact ⟨_, execMgtReadlife_answers ..⟩
  | mgtNonce => exact ⟨_, execMgtNonce_answers ..⟩
  | mgtReadmem => exact ⟨_, execMgtReadmem_answers ..⟩
  | mgtPreset => exact ⟨_, execMgtPreset_answers ..⟩
  | mgtMreset => exact ⟨_, execMgtMreset_answers ..⟩
  | mgtRecovery => exact ⟨_, execMgtRecovery_answers ..⟩
  | mgtEvrclear => exact ⟨_, execMgtEvrclear_answers ..⟩
  | mgtPrimrel => exact ⟨_, execMgtPrimrel_answers ..⟩
  | mgtWake => exact ⟨_, execMgtWake_answers ..⟩
  | mgtSetkey => exact ⟨_, execMgtSetkey_answers ..⟩
  | mgtClose => exact ⟨_, execMgtClose_answers ..⟩
  | mgtBadFrame => exact ⟨_, execMgtBadFrame_answers ..⟩
  | mgtUnknownCmd => exact ⟨_, execMgtUnknownCmd_answers ..⟩
  | authlockEnd => exact ⟨_, execAuthlockEnd_answers ..⟩
  | resetHeld => exact ⟨_, execResetHeld_answers ..⟩
  | mgtCntclr => exact ⟨_, execMgtCntclr_answers ..⟩
  | updcmdOpen => exact ⟨_, execUpdcmdOpen_answers ..⟩
  | updcmdChunk => exact ⟨_, execUpdcmdChunk_answers ..⟩
  | chunkDone => exact ⟨_, execChunkDone_answers ..⟩
  | updcmdClose => exact ⟨_, execUpdcmdClose_answers ..⟩
  | updcmdAbort => exact ⟨_, execUpdcmdAbort_answers ..⟩
  | updcmdAbortother => exact ⟨_, execUpdcmdAbortother_answers ..⟩
  | verifyDone => exact ⟨_, execVerifyDone_answers ..⟩
  | sessionTimeout => exact ⟨_, execSessionTimeout_answers ..⟩
  | tftpWriteStage => exact ⟨_, execTftpWriteStage_answers ..⟩
  | tftpWriteAbort => exact ⟨_, execTftpWriteAbort_answers ..⟩
  | tftpReadStatus => exact ⟨_, execTftpReadStatus_answers ..⟩
  | tftpData => exact ⟨_, execTftpData_answers ..⟩
  | tftpError => exact ⟨_, execTftpError_answers ..⟩
  | arpRequest => exact ⟨_, execArpRequest_answers ..⟩
  | actcmdSchedule => exact ⟨_, execActcmdSchedule_answers ..⟩
  | actcmdNow => exact ⟨_, execActcmdNow_answers ..⟩
  | actcmdCancel => exact ⟨_, execActcmdCancel_answers ..⟩
  | actcmdConfirm => exact ⟨_, execActcmdConfirm_answers ..⟩
  | activationDue => exact ⟨_, execActivationDue_answers ..⟩
  | activationPostponed => exact ⟨_, execActivationPostponed_answers ..⟩
  | activationExpired => exact ⟨_, execActivationExpired_answers ..⟩
  | updateReset => exact ⟨_, execUpdateReset_answers ..⟩
  | counterOverflow => exact ⟨_, execCounterOverflow_answers ..⟩
  | ovfClear => exact ⟨_, execOvfClear_answers ..⟩
  | pmcSnap => exact ⟨_, execPmcSnap_answers ..⟩
  | preciseCapture => exact ⟨_, execPreciseCapture_answers ..⟩
  | weevilRecord => exact ⟨_, execWeevilRecord_answers ..⟩
  | sbpop => exact ⟨_, execSbpop_answers ..⟩
  | wvpop => exact ⟨_, execWvpop_answers ..⟩
  | pmcCntclr => exact ⟨_, execPmcCntclr_answers ..⟩
  | poweron => exact ⟨_, execPoweron_answers ..⟩
  | supplyUv => exact ⟨_, execSupplyUv_answers ..⟩
  | supplyReturn => exact ⟨_, execSupplyReturn_answers ..⟩
  | supplyOv => exact ⟨_, execSupplyOv_answers ..⟩
  | powerFailWarning => exact ⟨_, execPowerFailWarning_answers ..⟩
  | shutdownComplete => exact ⟨_, execShutdownComplete_answers ..⟩
  | mainDomainStart => exact execMainDomainStart_answers ..
  | bankok => exact ⟨_, execBankok_answers ..⟩
  | hufault => exact ⟨_, execHufault_answers ..⟩
  | supplyMeasure => exact ⟨_, execSupplyMeasure_answers ..⟩
  | tripSupplyChange => exact ⟨_, execTripSupplyChange_answers ..⟩
  | tempMeasure => exact ⟨_, execTempMeasure_answers ..⟩
  | thermal => exact ⟨_, execThermal_answers ..⟩
  | rstinAssert => exact ⟨_, execRstinAssert_answers ..⟩
  | rstinRelease => exact ⟨_, execRstinRelease_answers ..⟩
  | syscmdMreset => exact ⟨_, execSyscmdMreset_answers ..⟩
  | syscmdSleep => exact ⟨_, execSyscmdSleep_answers ..⟩
  | fusecmdRevoke => exact ⟨_, execFusecmdRevoke_answers ..⟩
  | standbyDomainLoss => exact ⟨_, execStandbyDomainLoss_answers ..⟩
  | ethFrameTransmitted => exact ⟨_, execEthFrameTransmitted_answers ..⟩
  | testPulseFilterRelease => exact ⟨_, execTestPulseFilterRelease_answers ..⟩
  | clearArmExpiry => exact ⟨_, execClearArmExpiry_answers ..⟩

/-- Settles O2: every command leaves the queue, and brings a number of ticks (`exec_answers`). -/
theorem noCommandStopsTheBlock : Obligations.NoCommandStopsTheBlock := by
  unfold Obligations.NoCommandStopsTheBlock
  intro c s
  obtain ⟨d, t, hexec, hagenda⟩ := exec_answers c s
  obtain ⟨hqueue, hticks⟩ := Prod.ext_iff.mp hagenda
  exact ⟨t, hexec, hqueue, Nat.le_trans (Nat.le_add_right ..) (Nat.le_of_eq hticks.symm)⟩

/-- Settles O6, by induction on the commands that wait in front: a step runs the first of them
(`stepRunsTheFrontCommand`) and leaves the queue's rest (`noCommandStopsTheBlock`). -/
theorem queueIsWorkedOffInOrder : Obligations.QueueIsWorkedOffInOrder := by
  unfold Obligations.QueueIsWorkedOffInOrder
  intro s l q
  induction l generalizing s with
  | nil => exact fun hs => ⟨s, rfl, hs, Nat.le_refl _⟩
  | cons c l ih =>
    intro hs
    obtain ⟨t, hexec, hqueue, hticks⟩ := noCommandStopsTheBlock c { s with pending := l ++ q }
    obtain ⟨u, hrun, hrest, hlater⟩ := ih t hqueue
    refine ⟨u, ?_, hrest, Nat.le_trans hticks hlater⟩
    have hstep : step s = .next t := ((stepRunsTheFrontCommand s).1 c (l ++ q) hs).trans hexec
    rw [List.length_cons, State.run, hstep]
    exact hrun

end Sys2Proof.Machine
